-- ==== Sys2Proof/Word.lean ====
section
/-! DEFINITION. The byte type and the plainest readings of byte strings as numbers (spec 00_scope R12: multi-byte
fields are little-endian, bit 0 least significant). -/

namespace Sys2Proof

/-- One byte of a packet, a message, a register window or host memory. -/
abbrev Byte := BitVec 8

/-- A byte string, first byte at index 0. -/
abbrev Bytes := List Byte

end Sys2Proof
end

