-- ==== Sys2Proof/Types.lean ====
section
/-! DEFINITION. The operand types of the commands: flits (spec 04 R139, R140), handshake data (R144), host packets
(spec 03 R95, R99) and management messages (spec 05 R160). Plain data; every number is a Nat whose width the docstring
gives and WellFormed checks. -/

namespace Sys2Proof

/-- What follows the flit header (R139). -/
inductive FlitKind where
  | data | control | retryRequest | idle
  deriving DecidableEq, Repr

/-- A 256-byte flit: its header fields (R140) and what follows them. -/
structure Flit where
  /-- link sequence number; 12 bits; R140 -/
  lseq : Nat := 0
  /-- last LSEQ accepted in order from the far end; 12 bits; R140 -/
  lack : Nat := 0
  /-- what the flit is; 2 bits; R139 -/
  kind : FlitKind := .idle
  /-- virtual channel; 3 bits; R140 -/
  vc : Nat := 0
  /-- epoch bit of injection; 1 bit; R140, R143 -/
  epb : Nat := 0
  /-- link key slot; 1 bit; R140, R141 -/
  kgen : Nat := 0
  /-- encrypted flit; 1 bit; R140, R141 -/
  enc : Bool := false
  /-- fabric address looked up; 16 bits; R140 -/
  dst : Nat := 0
  /-- injecting node's address; 16 bits; R140 -/
  src : Nat := 0
  /-- stream ID at the destination; 16 bits; R140 -/
  stream : Nat := 0
  /-- job ID; 12 bits; R140 -/
  job : Nat := 0
  /-- channel of the credits returned; 3 bits; R140 -/
  crvc : Nat := 0
  /-- credits returned; 5 bits; R140 -/
  crcnt : Nat := 0
  /-- low 20 bits of the stream sequence number; R140 -/
  sseq : Nat := 0
  /-- AES-GCM tag of an encrypted flit; 16 bytes; R140 -/
  tag : Bytes := []
  /-- PLEN of an encrypted flit, whose payload is then all 224 bytes; 8 bits, 0 to 224; R140, R141. A plain flit's PLEN is the
  length of its payload -/
  plen : Nat := 0
  /-- the PLEN valid payload bytes (0 to 240 plain, 0 to 224 encrypted); for a link control flit the bytes from
  byte 16 of the flit on: eight 16-bit credit counts, then the op byte and its fields; R140, R144 -/
  payload : Bytes := []
  deriving DecidableEq, Repr

/-- What one end of a link says of itself in HELLO (R144 op 1). -/
structure Hello where
  version : Nat
  kind : Nat
  addr : Nat
  port : Nat
  linkClass : Nat
  width : Nat
  serial : Nat
  deriving DecidableEq, Repr

/-- A command packet as it stands in a submission ring (R85, R95): where it came from, its header and what follows. -/
structure Packet where
  /-- host port it was fetched on, 0 H0, 1 H1 -/
  port : Nat := 0
  /-- submission ring, 0 to 63 -/
  ring : Nat := 0
  /-- header bytes 0-1 -/
  opcode : Nat := 0
  /-- header bytes 2-3: QBD, ORD, RD, NSIG, reserved -/
  flags : Nat := 0
  /-- header bytes 4-7 -/
  tag : Nat := 0
  /-- header bytes 8-11 -/
  seq : Nat := 0
  /-- header bytes 12-15: parameter length L -/
  len : Nat := 0
  /-- header bytes 16-21 -/
  effTick : Nat := 0
  /-- header bytes 22-23, reserved bits [15:12] included -/
  job : Nat := 0
  /-- header bytes 24-55: co-sign digest -/
  digest : Bytes := List.replicate 32 0
  /-- header bytes 56-63 -/
  rsvd : Bytes := List.replicate 8 0
  /-- the L parameter bytes, result descriptor included -/
  params : Bytes := []
  /-- the NSIG signature blocks of 1,288 bytes (R99) -/
  sigs : List Bytes := []
  /-- what the host memory that the parameters point at reads as (TABLE_LOAD source 0, FW_STAGE) -/
  dma : Bytes := []
  deriving DecidableEq, Repr

/-- A management message (R160), reassembled from its segments, as it reaches its receiver. -/
structure Msg where
  /-- SRC of its flits; 16 bits -/
  src : Nat := 0
  /-- DST of its flits; 16 bits; 0xFFFF source-routed (R163) -/
  dst : Nat := 0
  /-- TYPE (R161, R264, R287, R393, R425, R468, R574, R649, R660) -/
  type : Nat := 0
  /-- VER: protocol version of the sender -/
  ver : Nat := 3
  /-- FLAGS: [0] RSP, [1] UNSOL, [2] RESEND -/
  flags : Nat := 0
  /-- MSGID; 32 bits -/
  msgid : Nat := 0
  /-- fencing token; 64 bits (R168) -/
  token : Nat := 0
  /-- STREAM of its flits (R159) -/
  stream : Nat := 0
  /-- its flits were encrypted (R192) -/
  enc : Bool := false
  /-- the port that it came in on, or that it leaves by where that is known: 8 bits; R59, R173 -/
  port : Option Nat := none
  /-- the body, all segments joined -/
  body : Bytes := []
  deriving DecidableEq, Repr

/-- What the decoder found in the codewords that have a bit of an arriving flit (R133, R134): the symbol errors of each, in order. -/
structure Codewords where
  /-- symbol errors, 0 to 544, of one or two codewords -/
  errors : List Nat := []
  /-- the first of them had bits of the flit before as well, with which it was counted -/
  shared : Bool := false
  deriving DecidableEq, Repr

/-- A retry request or an idle flit: neither is sequenced (R136, R139). -/
structure BareFlit where
  /-- last LSEQ accepted in order by the far end; 12 bits -/
  lack : Nat := 0
  /-- what the decoder found in the flit's codewords -/
  cw : Codewords := {}
  deriving DecidableEq, Repr

/-- TICK_IN at the moment at which a tick master may begin (R702): an edge or none, and the microseconds since its last local instant. -/
structure StartMoment where
  /-- an edge comes -/
  edge : Bool := false
  /-- microseconds, below 16 -/
  us : Nat := 0
  deriving DecidableEq, Repr

/-- What an end has found when the lanes of a link are trained (R126, R127, R130). -/
structure LanesFound where
  /-- logical lanes that both ends find good, a mask of 8 bits -/
  lanes : Nat := 0
  /-- the class of the link, 0 to 3 -/
  cls : Nat := 0
  deriving DecidableEq, Repr

/-- A member's unit count of a step, and the figures of R348 with which it is split between the trees (R354). -/
structure MemberUnits where
  units : Nat := 0
  f0 : Nat := 0
  f1 : Nat := 0
  /-- the group has one tree -/
  single : Bool := false
  deriving DecidableEq, Repr

/-- What a poisoned line of memory held (R34, R454). -/
inductive PoisonLine where
  /-- nothing that the model holds -/
  | other
  /-- a row's record: table and row ID -/
  | record (table row : Nat)
  /-- a bucket header: table, engine slot and bucket -/
  | header (table slot bucket : Nat)
  /-- a line of a restart shard: job, generation, owner and line offset -/
  | shard (job gen owner line : Nat)
  deriving DecidableEq, Repr

/-- Which of the two modelled nodes a link event happens at: the Geneel or the Olnan agent, both of which run the link
layer of spec 04 (R149, R159). -/
inductive Node where
  | geneel | agent
  deriving DecidableEq, Repr

/-- One port of one of the modelled nodes. -/
structure PortRef where
  node : Node := .geneel
  port : Nat := 0
  deriving DecidableEq, Repr

/-- A port with a sign that it must retrain, and whether the sign is that codeword lock was lost for more than 1 µs (R135). -/
structure RetrainSign where
  port : PortRef := {}
  lockLost : Bool := false
  deriving DecidableEq, Repr

/-- A port whose next flit leaves, and the local time at its serial pins, in ps, at the flit's first symbol (R146). -/
structure SendMoment where
  port : PortRef := {}
  /-- 64 bits -/
  ps : Nat := 0
  deriving DecidableEq, Repr

/-- One row of the memory defect map (R638). -/
structure DefectRow where
  stack : Nat
  sub : Nat
  die : Nat
  bankGroup : Nat
  bank : Nat
  row : Nat
  pcycle : Nat
  deriving DecidableEq, Repr

end Sys2Proof
end

