-- ==== Sys2Proof/Machine/AccessTypes.lean ====
section
/-! DEFINITION. The state of slices and of the access tables (spec 09_slices_and_access). -/

namespace Sys2Proof.Machine

open Sys2Proof

/-- A master entry (R321). -/
structure Access where
  /-- ACCESS.ENTRY.CLASS, 0 empty, 1 H0, 2 H1, 3 TWIN, 4 PEER, 5 JOB, 6 SELVEDGE, 7 BUCKRAM; 4 bits; R321 -/
  cls : Nat := 0
  /-- ACCESS.ENTRY.PEER; 6 bits; R321 -/
  peer : Nat := 0
  /-- ACCESS.ENTRY.JOB; 12 bits; R321 -/
  job : Nat := 0
  /-- ACCESS.ENTRY.CLASSES; 16 bits; R321 -/
  classes : BitVec 16 := 0
  /-- ACCESS.ENTRY.READ; 1 bit; R321 -/
  read : Bool := false
  /-- ACCESS.ENTRY.WRITE; 1 bit; R321 -/
  write : Bool := false
  /-- ACCESS.ENTRY.COSIGN; 1 bit; R321 -/
  cosign : Bool := false
  /-- ACCESS.ENTRY.OPR; 1 bit; R321 -/
  opr : Bool := false
  /-- ACCESS.ENTRY.PORT; 1 bit; R321 -/
  port : Nat := 0
  /-- ACCESS.ENTRY.RINGS; 64 bits; R321 -/
  rings : BitVec 64 := 0
  deriving DecidableEq, Repr

/-- A target grant (R328). -/
structure TargetGrant where
  job : Nat
  number : Nat
  source : Nat
  first : Nat
  last : Nat
  rights : Nat
  deriving DecidableEq, Repr

/-- Slice states in the order of their codes (R312, R318). -/
inductive SliceState where
  | pending | active | failed | draining
  deriving DecidableEq, Repr

/-- A shortfall item (R317, R318). -/
structure SliceItem where
  kind : Nat
  vc : Nat
  addr : Nat
  port : Nat
  len : Nat
  requested : Nat
  available : Nat
  deriving DecidableEq, Repr

/-- A job notice (R339). -/
structure Notice where
  tick : Nat
  throttled : Nat
  degraded : Bool
  shortfall : Bool
  isolated : Bool
  deriving DecidableEq, Repr

/-- The slice of a job (R309 to R319, R333 to R343). -/
structure Slice where
  /-- job ID; 12 bits; R309 -/
  job : Nat
  /-- state; R312 -/
  state : SliceState
  /-- flag STRICT; R311 -/
  strict : Bool := false
  /-- flag ISOLATE; R311 -/
  isolate : Bool := false
  /-- promotions allowed without co-signatures, 0 to 32; R311 -/
  policy : Nat := 0
  /-- flag AUTO; R311, R336 -/
  auto : Bool := false
  /-- guarantee in 0.1 GB/s; R311 -/
  guarantee : Nat := 0
  /-- isolation slots asked for; R311 -/
  isoK : Nat := 0
  /-- current step per member in 0.1 A, 0 measured; R311 -/
  step : Nat := 0
  /-- member ranges, first and last LEN; R311 -/
  ranges : List (Nat × Nat) := []
  /-- shares, VC and share in 1/1,024; R311 -/
  shares : List (Nat × Nat) := []
  /-- promotions used; R334 -/
  promotions : Nat := 0
  /-- shortfall items; R317 -/
  items : List SliceItem := []
  /-- isolation slot positions held, as a mask; R318, R342 -/
  isoSlots : Nat := 0
  /-- commit tick of the last change; R318 -/
  commitTick : Nat := 0
  /-- members declared failed; R312, R480 -/
  failedMembers : List Nat := []
  /-- last 16 notices, oldest first; R338, R339 -/
  notices : List Notice := []
  /-- throttled ticks of the running interval; R339 -/
  throttled : Nat := 0
  /-- DEGRADED is to be set in the next notice; R340 -/
  degraded : Bool := false
  /-- shares installed, (switch, port, VC, share), as cut at admission and restored later; R319, R331 -/
  granted : List (Nat × Nat × Nat × Nat) := []
  deriving DecidableEq, Repr

/-- Where a slice change or a promotion stands (R313, R314, R334). -/
inductive ChangeStage where
  /-- its solve is not complete -/
  | solving
  /-- it waits for the route epoch to be STABLE -/
  | waiting
  /-- its epoch is being staged, targets and keys are on their way -/
  | staging
  /-- its commit tick has been named -/
  | ordered
  deriving DecidableEq, Repr

/-- A slice change or a promotion that has been accepted and has not taken effect (R313 to R315, R333 to R337). -/
structure SliceChange where
  /-- number the model gives it -/
  id : Nat
  /-- 0 SLICE_CREATE, 1 SLICE_MODIFY, 2 promotion -/
  op : Nat
  job : Nat
  /-- its command, none for a promotion by AUTO (R336) -/
  cmd : Option Nat
  /-- the slice as it will be, for a creation and a modification -/
  slice : Slice
  /-- the LEN and the spare of a promotion -/
  len : Nat := 0
  spare : Nat := 0
  /-- instant of acceptance -/
  since : Nat
  /-- earliest instant of its commit -/
  due : Nat
  stage : ChangeStage := .solving
  /-- the result it is staged from, 0 none yet -/
  solveId : Nat := 0
  /-- 0 a solve of its own, 1 the solve of the pending repair, n + 2 the solve of change n (R314, R337) -/
  rides : Nat := 0
  /-- instant of its commit, once named -/
  at_ : Nat := 0
  /-- message numbers of target entries and keys not yet acknowledged -/
  awaits : List Nat := []
  deriving DecidableEq, Repr

/-- The two copies of a member's target table as the Geneel wrote them (R182, R187, R328). -/
structure TargetImage where
  addr : Nat
  active : List (Nat × Nat) := []
  standby : List (Nat × Nat) := []
  deriving DecidableEq, Repr

/-- Slices, spares and the access tables. -/
structure AccessState where
  /-- master entries by slot, an empty slot unlisted; 256 of 128 bits; R320, R321, R325; reset empty, the defaults of
  R325 being loaded at the end of BOOT -/
  masters : List (Nat × Access) := []
  /-- target grants, ascending job and number; at most 16 per job; R328; reset empty -/
  grants : List TargetGrant := []
  /-- slices, ascending job; R309; reset empty -/
  slices : List Slice := []
  /-- retired serials per bolt, oldest first, (bolt, serial); at most 32 per bolt; R335; reset empty -/
  retired : List (Nat × Nat) := []
  /-- addresses of members declared failed, to be failed at step 2 of the next marker; R480, R599; reset empty -/
  failDue : List Nat := []
  /-- slice changes and promotions under way, oldest first; R313, R314, R334, R337; reset empty -/
  changes : List SliceChange := []
  /-- number the next change takes (the model's own); reset 0 -/
  nextChange : Nat := 0
  /-- target tables of the members of the bolt; R328; reset empty -/
  targets : List TargetImage := []
  /-- target tables that are to exchange, (instant, address); R183, R313; reset empty -/
  swaps : List (Nat × Nat) := []
  /-- slice descriptions given to the primaries of other bolts with their commit tick, (address, tick, slice), oldest first
  (the model's record of its output); R313; reset empty -/
  told : List (Nat × Nat × Slice) := []
  deriving DecidableEq, Repr

end Sys2Proof.Machine
end

