-- ==== Sys2Proof/Machine/LinkTypes.lean ====
section
/-! DEFINITION. The state of a fabric port (spec 04_fabric_links). Every field's docstring gives what it holds, the rule
that names it and its reset value. -/

namespace Sys2Proof.Machine

open Sys2Proof

/-- The five link states (R124). -/
inductive LinkState where
  | down | training | up | retrain | fenced
  deriving DecidableEq, Repr

/-- One of the 64 timestamp exchanges of a delay measurement (R146); times in ps. -/
structure TsExchange where
  index : Nat
  /-- its TS_REQ has been sent -/
  sent : Bool := false
  t1 : Nat
  t2 : Option Nat := none
  t3 : Option Nat := none
  t4 : Option Nat := none
  deriving DecidableEq, Repr

/-- Training, identity and link-retry state of a port (R121 to R139). -/
structure Link where
  /-- link state; R124; reset DOWN -/
  state : LinkState := .down
  /-- training attempts made since the last UP, 0 to 3; R124; reset 0 -/
  attempts : Nat := 0
  /-- step of the running attempt, 1 to 7, of which steps 1 to 5 show as 1 until their outcome is known; 0 when none runs; R125;
  reset 0 -/
  step : Nat := 0
  /-- trained width in lanes, 0, 2, 4 or 8; R126; reset 0 -/
  width : Nat := 0
  /-- lanes found good at both ends, bit l for logical lane l; 8 bits; R126; reset 0 -/
  goodLanes : BitVec 8 := 0
  /-- lane reversal found and corrected; R127; reset false -/
  reversed : Bool := false
  /-- lanes whose polarity is inverted; 8 bits; R127; reset 0 -/
  polarity : BitVec 8 := 0
  /-- own link class, 0 to 3; R130; reset 0 -/
  linkClass : Nat := 0
  /-- recorded one-way delay in ps; 32 bits; R131, R175; reset 0 -/
  delayPs : Nat := 0
  /-- recorded length in 0.1 m; 16 bits; R132; reset 0 -/
  lengthDm : Nat := 0
  /-- fence cause 0 to 5; R229 FCAUSE; reset 0 -/
  fenceCause : Nat := 0
  /-- what the far end's accepted HELLO reported; R145; reset none -/
  far : Option Hello := none
  /-- a LACK has covered one of this end's HELLO flits; R145; reset false -/
  helloAcked : Bool := false
  /-- HELLO flits sent in this step 7; R145; reset 0 -/
  hellosSent : Nat := 0
  /-- times of the retrains of the last hour; R135; reset empty -/
  retrainTimes : List Nat := []
  /-- times of the uncorrectable codewords of the last second; R135; reset empty -/
  uncorrTimes : List Nat := []
  /-- next LSEQ to send; 12 bits; R136; reset 0 -/
  txSeq : Nat := 0
  /-- next LSEQ expected; 12 bits; R136; reset 0 -/
  rxSeq : Nat := 0
  /-- flits sent and not acknowledged, oldest first; at most 256 at a Geneel; R137; reset empty -/
  retryBuf : List Flit := []
  /-- replays of the oldest unacknowledged flit; R135; reset 0 -/
  replays : Nat := 0
  /-- LSEQ whose retry request is held off for 2 us; R136; reset none -/
  retryHold : Option Nat := none
  /-- LSEQ of a flit whose tag failed once and whose replay is awaited; R142; reset none -/
  tagFailed : Option Nat := none
  /-- input buffer, oldest first, at most 2,048 flits; R149; reset empty -/
  inputBuf : List Flit := []
  /-- flits waiting to leave on this port, oldest first, each with the requester index of its input (R77); R152; reset
  empty -/
  outQueue : List (Nat × Flit) := []
  /-- the training or retrain waits for its release, by a current grant or the rail's booking; R129, R515; reset false -/
  waits : Bool := false
  /-- an uncorrectable codeword has not yet been made good by retry; R138; reset false -/
  unrecovered : Bool := false
  /-- link control flits, op byte first, that wait for room in the window; R137; reset empty -/
  control : List Bytes := []
  /-- flits handed to the serial lanes, oldest first (the model's record of its output); R136; reset empty -/
  wire : List Flit := []
  deriving DecidableEq, Repr

/-- Credits, sessions, delay measurement and counters of a port (R131, R141 to R152, R197 block 0). -/
structure Flow where
  /-- o_v, flits of VC v sent whose credit has not come back; R149; reset 0 -/
  owed : List Nat := [0, 0, 0, 0, 0, 0, 0, 0]
  /-- credits to return, per VC; R149; reset 0 -/
  due : List Nat := [0, 0, 0, 0, 0, 0, 0, 0]
  /-- deficit round robin deficits of VC2 to VC7, VC2 first; R152; reset 0 -/
  deficits : List Nat := [0, 0, 0, 0, 0, 0]
  /-- weights of VC2 to VC7 in flits per round, VC2 first; R152; reset 24, 24, 64, 16, 24, 8 -/
  weights : List Nat := [24, 24, 64, 16, 24, 8]
  /-- grants the output arbiter has made in this tick; R76; reset 0 -/
  grants : Nat := 0
  /-- flits of VC0 and of VC1 sent in this tick; R72; reset 0 -/
  sentVc0 : Nat := 0
  /-- of these, messages of the reserved share; R73; reset 0 -/
  sentReserved : Nat := 0
  /-- flits of VC1 sent in this tick; R72; reset 0 -/
  sentVc1 : Nat := 0
  /-- share quota used in this tick, (VC, job, flits); R332; reset empty -/
  shareUsed : List (Nat × Nat × Nat) := []
  /-- session number applied for the current training; 24 bits; R147, R148; reset none -/
  session : Option Nat := none
  /-- session number of the far end's SESSION flit; 24 bits; R148; reset none -/
  farSession : Option Nat := none
  /-- session numbers applied since the last full training; R194; reset empty -/
  sessionsUsed : List Nat := []
  /-- (number, instant) of a session change waiting for step 4 of its tick; R142, R148; reset none -/
  sessionAt : Option (Nat × Nat) := none
  /-- encrypted flits sent in the session; 48 bits; R141; reset 0 -/
  txCount : Nat := 0
  /-- encrypted flits accepted in the far end's session; 48 bits; R141; reset 0 -/
  rxCount : Nat := 0
  /-- the link's session number counter, as its primary holds it with the link's record; 24 bits; R147; reset 0 -/
  sessionCtr : Nat := 0
  /-- SESSION_NEAR: the sent count has reached 2^47; R142, R175; reset false -/
  sessionNear : Bool := false
  /-- timestamp exchanges of the running measurement; R146; reset empty -/
  exchanges : List TsExchange := []
  /-- the flit sent last was a TS_REQ; R146; reset false -/
  askedLast : Bool := false
  /-- delays of the exchanges completed in the running measurement, ps; R131; reset empty -/
  delays : List Nat := []
  /-- counters of block 0, n = 0 to 15; R197; reset 0 -/
  counters : List Nat := [0, 0, 0, 0, 0, 0, 0, 0, 0, 0, 0, 0, 0, 0, 0, 0]
  deriving DecidableEq, Repr

/-- A fabric port of the Geneel or of the agent. -/
structure Port where
  link : Link := {}
  flow : Flow := {}
  deriving DecidableEq, Repr

end Sys2Proof.Machine
end

