-- ==== Sys2Proof/Machine/AgentTypes.lean ====
section
/-! DEFINITION. The state of an Olnan agent (spec 05_agent_protocol, with the switch and member parts of 10_twill and
11_jacquard). The model carries one agent, whose kind is a field. -/

namespace Sys2Proof.Machine

open Sys2Proof

/-- Agent states (R201). -/
inductive AgentState where
  | reset | unclaimed | claimed | attested | serving | quiesced | faulted
  deriving DecidableEq, Repr

/-- Bank states (R179). -/
inductive BankState where
  | free | active | old | reserved
  deriving DecidableEq, Repr

/-- A route bank A or B with its tables 0, 1 and 2 (R177 to R181). Entries are 64-bit numbers of R178 and R181;
an index that is not listed holds its reset value. -/
structure Bank where
  /-- bank state; R179; reset FREE -/
  state : BankState := .free
  /-- epoch number of the last ACTIVATE; 16 bits; R183; reset 0 -/
  epoch : Nat := 0
  /-- route entries by destination address; 65,536 of 64 bits; R177, R178; reset none VALID -/
  routes : List (Nat × Nat) := []
  /-- VC weights by output port; 256 of 64 bits; R181; reset unwritten -/
  weights : List (Nat × Nat) := []
  /-- job shares by slot; 256 of 64 bits; R181; reset none VALID -/
  shares : List (Nat × Nat) := []
  deriving DecidableEq, Repr

/-- A delta set of bank S (R186). -/
structure DeltaSet where
  failureId : Nat
  epochTag : Nat
  /-- the tag has been cleared by an ACTIVATE (R186) -/
  stale : Bool := false
  entries : List (Nat × Nat) := []
  deriving DecidableEq, Repr

/-- A tree entry (R189). -/
structure TreeEntry where
  tree : Nat
  group : Nat
  job : Nat
  up : Nat
  down : Nat
  parent : Nat
  /-- operation, operator and type codes; byte 11 -/
  codes : Nat
  lane : Nat
  role : Nat
  reservation : Nat
  children : Nat
  effTick : Nat
  /-- effective tick of its removal or replacement, none while it stays; R189 -/
  endTick : Option Nat := none
  /-- removal deferred until its flits have left (R190) -/
  removing : Bool := false
  deriving DecidableEq, Repr

/-- A key slot of the agent (R192). -/
structure KeySlot where
  job : Nat
  kind : Nat
  slot : Nat
  generation : Nat
  key : Bytes
  /-- erasure deferred while flits of the slot remain (R193) -/
  erasing : Bool := false
  deriving DecidableEq, Repr

/-- A current grant held by the agent (R195). -/
structure AgentGrant where
  kind : Nat
  job : Nat
  action : Nat
  offset : Nat
  step : Nat
  expiry : Nat
  /-- tick of the last action started under it, for warmth; R514 -/
  used : Nat := 0
  cold : Bool := false
  deriving DecidableEq, Repr

/-- What a timed action does at its tick (R169, R183, R193, R194, R196). -/
inductive TimedAct where
  | activate (bank epoch : Nat)
  | retire (bank : Nat)
  | failover (failureId : Nat)
  | clearStandby
  | targetSwap
  | keySwitch (job kind slot : Nat)
  | keyErase (job kind slot : Nat)
  | session (port number : Nat)
  | release (kind action : Nat)
  deriving DecidableEq, Repr

/-- A timed action accepted under a token (R169). -/
structure Timed where
  token : Nat
  tick : Nat
  act : TimedAct
  deriving DecidableEq, Repr

/-- One plan round of an endpoint's transfer list (R191). -/
structure CardRound where
  plan : Nat
  job : Nat
  start : Nat
  /-- card bytes, 16 each -/
  cards : List Bytes
  started : Bool := false
  deriving DecidableEq, Repr

/-- A fault report that is repeated until acknowledged (R198). -/
structure ReportOut where
  msgid : Nat
  body : Bytes
  sends : Nat
  lastTick : Nat
  deriving DecidableEq, Repr

/-- A message of several segments on its way in (R162). -/
structure Reassembly where
  src : Nat
  msgid : Nat
  firstTick : Nat
  lastSeg : Nat
  parts : List (Nat × Bytes)
  deriving DecidableEq, Repr

/-- A partial sum in a switch's combining store (R363, R367). -/
structure CombineUnit where
  group : Nat
  tree : Nat
  step : Nat
  unit : Nat
  e : Nat
  lanes : List Int
  special : Bool
  deriving DecidableEq, Repr

/-- What a switch has gathered of a step of one tree (R361, R363, R366, R371). -/
structure SwitchStep where
  group : Nat
  tree : Nat
  step : Nat
  /-- unit index up to which each child port has covered -/
  cover : List (Nat × Nat) := []
  /-- child ports that have sent SUBEND or END, with their counts -/
  ended : List (Nat × Nat) := []
  /-- units sent upward are below this index -/
  sent : Nat := 0
  poison : Bool := false
  overflow : Bool := false
  /-- first poisoning node, 0xFFFF none -/
  node : Nat := 0xFFFF
  /-- SUBEND has left -/
  done : Bool := false
  deriving DecidableEq, Repr

/-- A collective step at a member endpoint (R369 to R374). -/
structure MemberStep where
  group : Nat
  step : Nat
  /-- unit index up to which results have covered, trees 0 and 1 -/
  cover0 : Nat := 0
  cover1 : Nat := 0
  /-- DEND seen on trees 0 and 1, with the end of the tree's unit range -/
  dend0 : Option Nat := none
  dend1 : Option Nat := none
  /-- a result's residue has failed on tree 0 or 1 -/
  bad0 : Bool := false
  bad1 : Bool := false
  /-- RECEIPT has been sent on trees 0 and 1 -/
  receipt0 : Bool := false
  receipt1 : Bool := false
  /-- 0 none yet, 1 COMMIT, 2 VOID, as held before its tick -/
  verdict : Nat := 0
  /-- verdict tick; 48 bits -/
  tick : Nat := 0
  deriving DecidableEq, Repr

/-- A member's part in an exchange (R386 to R390, R407). -/
structure MemberExchange where
  /-- data stream of the plan -/
  stream : Nat
  /-- the plan area: 64-byte header and receive list; R389 -/
  area : Bytes := []
  /-- data landed in the exchange of the header, (receive buffer offset, bytes), oldest first; R390 -/
  landed : List (Nat × Bytes) := []
  /-- the complete report has been sent; R407 -/
  reported : Bool := false
  deriving DecidableEq, Repr

/-- A shard at the agent: a member's own while it restores (R478), or one kept by a storage target (R483). -/
structure MemberShard where
  job : Nat
  generation : Nat
  /-- owner; R461 -/
  owner : Nat := 0
  lines : List (Nat × Bytes) := []
  rend : Option (Nat × Bytes) := none
  done : Bool := false
  /-- where its END or REND came from, with the flit's stream -/
  sender : Nat := 0xFFFF
  stream : Nat := 0
  /-- agent's tick of the END or REND, or of the last GAP that listed missing lines; R465 -/
  gapAt : Nat := 0
  deriving DecidableEq, Repr

/-- A flit of one of the agent's messages on its way out. -/
structure AgentOut where
  /-- it belongs to a FAULT_REPORT -/
  report : Bool := false
  /-- the port it leaves by, where its message is source-routed; R173 -/
  port : Option Nat := none
  flit : Flit
  deriving DecidableEq, Repr

/-- Identity, ownership, timing and messages of the agent. -/
structure AgentCore where
  /-- 1 endpoint, 2 switch, 3 storage target; R174; reset 2, DESIGN CHOICE: the agent modelled -/
  kind : Nat := 2
  /-- agent serial; 64 bits; R174; reset 0, DESIGN CHOICE -/
  serial : Nat := 0
  /-- highest protocol version; 8 bits; R174; reset 3 -/
  version : Nat := 3
  /-- firmware version; 32 bits; R174; reset 0, DESIGN CHOICE -/
  firmware : Nat := 0
  /-- measurement digest, empty for zero; 32 bytes; R174; reset empty, DESIGN CHOICE -/
  measurement : Bytes := []
  /-- port count; 8 bits; R174; reset 64, DESIGN CHOICE -/
  portCount : Nat := 64
  /-- agent state; R201; reset RESET -/
  state : AgentState := .reset
  /-- owner bolt; 8 bits; R172, R174; reset none -/
  owner : Option Nat := none
  /-- high token; 64 bits; R168; reset 0 -/
  highToken : Nat := 0
  /-- own fabric address, from the self entry of the bank in force; R222; reset none -/
  addr : Option Nat := none
  /-- agent session key with the Geneel of the address; R176; reset none -/
  sessionKey : Option (Nat × Bytes) := none
  /-- Geneel certificate chain received by CERT segments; R171; reset empty -/
  chain : Bytes := []
  /-- current tick; 48 bits; R60; reset 0 -/
  tick : Nat := 0
  /-- a marker has been accepted since reset; R185; reset false -/
  marked : Bool := false
  /-- master Geneel ID followed; R52, R200; reset 0xFF -/
  master : Nat := 0xFF
  /-- period of the last TICK in us; R200; reset 16 -/
  period : Nat := 16
  /-- placement of the last tick instant: arrival minus link delay minus correction, ps; R60; reset 0 -/
  placed : Int := 0
  /-- consecutive flywheel ticks; R63; reset 0 -/
  flywheel : Nat := 0
  /-- number the next message of the agent takes; 32 bits; R160; reset 0 -/
  nextMsg : Nat := 0
  /-- last accepted (SRC, MSGID, reply), newest first, 64 per Geneel; R166; reset empty -/
  replies : List (Nat × Nat × Msg) := []
  /-- messages being reassembled; at least 4; R162; reset empty -/
  reassembly : List Reassembly := []
  /-- reports awaiting acknowledgement; R198; reset empty -/
  reports : List ReportOut := []
  /-- messages the agent made, oldest first (the model's record of its output); R164; reset empty -/
  sent : List Msg := []
  /-- flits of these that wait for the budget, oldest first; R72, R167; reset empty -/
  outbox : List AgentOut := []
  /-- flits of these that wait for the output queue of their port, oldest first, with the port where it is named; R152, R159; reset
  empty -/
  flits : List (Option Nat × Flit) := []
  /-- VC0 flits sent to Geneels in this tick; R72; reset 0 -/
  vc0Sent : Nat := 0
  /-- of these, flits of FAULT_REPORT; R167; reset 0 -/
  vc0Reports : Nat := 0
  /-- occurrences of a fault since the last report of its code, (code, count); R198; reset empty -/
  since : List (Nat × Nat) := []
  /-- tick of the first of these occurrences, (code, tick); R198; reset empty -/
  sinceTick : List (Nat × Nat) := []
  /-- a misrouted flit was reported in this tick; R198; reset false -/
  misroutedReported : Bool := false
  /-- messages completed by reassembly and not yet acted on, oldest first; R162; reset empty -/
  inbox : List Msg := []
  /-- TABLE_WRITE entries applied in this tick; R72, R75; reset 0 -/
  entriesThisTick : Nat := 0
  /-- a target violation was reported in this tick; R188; reset false -/
  violationReported : Bool := false
  /-- session failures since the last good session; R201; reset 0 -/
  sessionFailures : Nat := 0
  /-- counters of block 2, n = 0 to 9; 64 bits; R197; reset 0 -/
  counters : List Nat := [0, 0, 0, 0, 0, 0, 0, 0, 0, 0]
  deriving DecidableEq, Repr

/-- Tables, keys, grants and the work of the agent. -/
structure AgentWork where
  /-- bank A; R177; reset FREE and empty -/
  bankA : Bank := {}
  /-- bank B; R177; reset FREE and empty -/
  bankB : Bank := {}
  /-- bank S, at most 16 delta sets; R186; reset empty -/
  bankS : List DeltaSet := []
  /-- failure ID of the overlay in force; R183; reset none -/
  overlay : Option Nat := none
  /-- active target table, slot to entry; 64 of 64 bits; R187; reset none VALID -/
  target : List (Nat × Nat) := []
  /-- standby target table; R181; reset none VALID -/
  targetStandby : List (Nat × Nat) := []
  /-- tree entries; R189; reset empty -/
  trees : List TreeEntry := []
  /-- combining store in flits; R174, R190; reset 4,096, DESIGN CHOICE -/
  store : Nat := 4096
  /-- bank S capacity in entries; R174, R186; reset 16,384 -/
  standbyCap : Nat := 16384
  /-- tree entries the agent can hold; R174, R189; reset 4,096 -/
  treeCap : Nat := 4096
  /-- default current step in 0.1 A; R174; reset 0, DESIGN CHOICE -/
  defaultStep : Nat := 0
  /-- card rounds delivered; R191; reset empty -/
  cards : List CardRound := []
  /-- keys held; R192; reset empty -/
  keys : List KeySlot := []
  /-- transmit slot per (job, kind); R193; reset 0 for every job -/
  txSlot : List (Nat × Nat × Nat) := []
  /-- grants held; R195; reset empty -/
  grants : List AgentGrant := []
  /-- timed actions waiting for their tick; R169; reset empty -/
  timed : List Timed := []
  /-- actions started, (kind, action, tick), oldest first (the model's record of its output); R196; reset empty -/
  started : List (Nat × Nat × Nat) := []
  /-- counters of block 1 by index; 64 bits; R197; reset 0 -/
  block1 : List (Nat × Nat) := []
  /-- counters of block 3 by job slot, 64 for the rest; 64 bits, uJ; R197; reset 0 -/
  block3 : List (Nat × Nat) := []
  /-- counters latched at the last marker, block × 2^20 + index to value; R197; reset empty -/
  latch : List (Nat × Nat) := []
  /-- partial sums of the combining store; R363; reset empty -/
  combining : List CombineUnit := []
  /-- steps being gathered by a switch; R361; reset empty -/
  gathers : List SwitchStep := []
  /-- steps of a member; R369 to R374; reset empty -/
  steps : List MemberStep := []
  /-- exchanges of the member; R389; reset empty -/
  exchanges : List MemberExchange := []
  /-- shards being restored; R478; reset empty -/
  shards : List MemberShard := []
  deriving DecidableEq, Repr

/-- The Olnan agent modelled. -/
structure Agent where
  core : AgentCore := {}
  work : AgentWork := {}
  /-- ports by number, an unlisted one at its reset values; R149, R159; reset none listed -/
  ports : List (Nat × Port) := []
  deriving DecidableEq, Repr

end Sys2Proof.Machine
end

