-- ==== Sys2Proof/TopoTypes.lean ====
section
/-! DEFINITION. The records of the topology record (spec 06_discovery, R227 to R231, R247): operand types of the delta
that a peer sends, and part of the state. -/

namespace Sys2Proof

/-- A node record (R228), with the tier of R247 and what the walk learns to reach and check the node. -/
structure TopoNode where
  /-- TOPO.NODE.ADDR; 16 bits; R228; reset 0xFFFF -/
  addr : Nat := 0xFFFF
  /-- TOPO.NODE.SERIAL; 64 bits; R228; reset 0 -/
  serial : Nat := 0
  /-- TOPO.NODE.KIND, 1 endpoint, 2 switch, 3 storage target, 4 Geneel; 3 bits; R228; reset 0 -/
  kind : Nat := 0
  /-- TOPO.NODE.VER; 4 bits; R228; reset 0 -/
  ver : Nat := 0
  /-- TOPO.NODE.AGSTATE; 3 bits; R228; reset 0 -/
  agState : Nat := 0
  /-- TOPO.NODE.ATTEST, 0 PENDING, 1 ATTESTED, 2 REFUSED, 3 OLD; 2 bits; R214, R228; reset 0 -/
  attest : Nat := 0
  /-- TOPO.NODE.SPARE; 1 bit; R228; reset 0 -/
  spare : Bool := false
  /-- TOPO.NODE.RACK; 6 bits; R228; reset 0 -/
  rack : Nat := 0
  /-- TOPO.NODE.SHELF; 7 bits; R228; reset 127 -/
  shelf : Nat := 127
  /-- TOPO.NODE.LEVEL; 5 bits; R228; reset 0 -/
  level : Nat := 0
  /-- TOPO.NODE.PORTS; 8 bits; R228; reset 0 -/
  ports : Nat := 0
  /-- TOPO.NODE.TICK; 48 bits; R228; reset 0 -/
  tick : Nat := 0
  /-- TOPO.NODE.COMBINE; 16 bits; R228; reset 0 -/
  combine : Nat := 0
  /-- TOPO.NODE.STEP; 16 bits; R228; reset 0 -/
  step : Nat := 0
  /-- tier, none until the end of the discovery that first records the node; 0 to 15; R247; reset none -/
  tier : Option Nat := none
  /-- ports from the primary Geneel to the node; at most 16; R212; reset empty -/
  path : List Nat := []
  /-- measurement digest of IDENT; 32 bytes; R174, R214; reset empty -/
  measurement : Bytes := []
  /-- free capacity of bank S in entries, from IDENT; 16 bits; R174, R278; reset 0 -/
  standby : Nat := 0
  /-- the unit was replaced by a promotion and holds no address; R334; reset false -/
  retired : Bool := false
  deriving DecidableEq, Repr

/-- A directed link record (R229). -/
structure TopoLink where
  /-- TOPO.LINK.SRC; 16 bits; R229 -/
  src : Nat
  /-- TOPO.LINK.SPORT; 8 bits; R229 -/
  sport : Nat
  /-- TOPO.LINK.DST; 16 bits; R229; reset 0xFFFF -/
  dst : Nat := 0xFFFF
  /-- TOPO.LINK.DPORT; 8 bits; R229; reset 0xFF -/
  dport : Nat := 0xFF
  /-- TOPO.LINK.LSTATE; 3 bits; R229; reset 0 -/
  lstate : Nat := 0
  /-- TOPO.LINK.WIDTH; 4 bits; R229; reset 0 -/
  width : Nat := 0
  /-- TOPO.LINK.CLASS; 2 bits; R229; reset 0 -/
  cls : Nat := 0
  /-- TOPO.LINK.DEGR; 1 bit; R229; reset 0 -/
  degr : Bool := false
  /-- TOPO.LINK.ROUTABLE; 1 bit; R229; reset 0 -/
  routable : Bool := false
  /-- TOPO.LINK.BOUNDARY; 1 bit; R229; reset 0 -/
  boundary : Bool := false
  /-- TOPO.LINK.DELAY in ps; 32 bits; R229; reset 0 -/
  delay : Nat := 0
  /-- TOPO.LINK.LENGTH in 0.1 m; 16 bits; R229; reset 0 -/
  length : Nat := 0
  /-- instants of the retrains counted by TOPO.LINK.RETRAINS; R229; reset empty -/
  retrains : List Nat := []
  /-- TOPO.LINK.FCAUSE; 8 bits; R229; reset 0 -/
  fcause : Nat := 0
  /-- lane reversal that the Geneel has corrected at its own port; R127; reset false -/
  reversed : Bool := false
  /-- lanes with inverted polarity that it has corrected there; 8 bits; R127; reset 0 -/
  polarity : BitVec 8 := 0
  /-- session number counter of the physical link, held with the record of its lower-addressed end; 24 bits; R147;
  reset 0 -/
  session : Nat := 0
  deriving DecidableEq, Repr

/-- An item of a section's report (R231). -/
structure TopoItem where
  kind : Nat
  addr : Nat := 0xFFFF
  port : Nat := 0xFF
  width : Nat := 0
  /-- bytes 8 to 15: serial, or the measured length for kind 8 -/
  extra : Nat := 0
  deriving DecidableEq, Repr

/-- A delta of a bolt section from one generation to the next (R232, R233). The spec gives the delta no layout: it is data
here. -/
structure SectionDelta where
  bolt : Nat
  /-- the generation it leads to -/
  gen : Nat
  /-- tick of the change -/
  tick : Nat := 0
  /-- node records that are new or changed -/
  nodes : List TopoNode := []
  /-- addresses that leave the section -/
  gone : List Nat := []
  /-- link records that are new or changed -/
  links : List TopoLink := []
  /-- the item report, and the items counted -/
  items : List TopoItem := []
  itemCount : Nat := 0
  deriving DecidableEq, Repr

end Sys2Proof
end

