-- ==== Sys2Proof/Machine/FabricTypes.lean ====
section
/-! DEFINITION. The state of discovery, of the topology record, of the route solver and of the route epochs (spec
06_discovery, 07_route_solver, 08_route_epochs). -/

namespace Sys2Proof.Machine

open Sys2Proof

/-- A bolt's section of the topology record (R227 to R231). -/
structure TopoSection where
  /-- TOPO.HDR.BOLT; 5 bits; R227 -/
  bolt : Nat
  /-- TOPO.HDR.GEN; 32 bits; R227; reset 0 -/
  gen : Nat := 0
  /-- TOPO.HDR.TICK; 48 bits; R227; reset 0 -/
  tick : Nat := 0
  /-- node records, ascending address; R228 -/
  nodes : List TopoNode := []
  /-- link records, ascending (address, port); R229 -/
  links : List TopoLink := []
  /-- items stored; at most 4,096; R231 -/
  items : List TopoItem := []
  /-- TOPO.HDR.ITEMS, stored or not; 16 bits; R227, R231; reset 0 -/
  itemCount : Nat := 0
  deriving DecidableEq, Repr

/-- A path that the walk probes (R212). -/
structure Probe where
  path : List Nat
  /-- address of the node the last port belongs to -/
  parent : Nat
  /-- number of its PROBE -/
  msgid : Nat := 0
  /-- IDENT as it arrived, without the status block -/
  ident : Option Bytes := none
  /-- the far end lies beyond a class 2 link (R205) -/
  boundary : Bool := false
  deriving DecidableEq, Repr

/-- What the running walk does. -/
inductive WalkMode where
  | full | refresh | absorb
  deriving DecidableEq, Repr

/-- The walk of R212. -/
structure Walk where
  /-- a walk runs; R210, R212; reset false -/
  running : Bool := false
  /-- its command; reset none -/
  cmd : Option Nat := none
  /-- FULL, REFRESH or the walk of RACK_ABSORB; R209, R237; reset FULL -/
  mode : WalkMode := .full
  /-- rack ID of RACK_ABSORB; 6 bits; R208; reset 0 -/
  rack : Nat := 0
  /-- flag MOVE of RACK_ABSORB; R239; reset false -/
  move : Bool := false
  /-- spare serials named; at most 32; R208; reset empty -/
  spares : List Nat := []
  /-- level reached; R212; reset 0 -/
  level : Nat := 0
  /-- instant at which the level began; R213; reset 0 -/
  since : Nat := 0
  /-- 1 IDENTs awaited, 2 CLAIM and LINKSTATE replies awaited, 3 the last level's sessions awaited, 4 the job 0 key,
  5 the epoch of RACK_ABSORB, 6 the marker at which the walk's change is applied; R212, R232; reset 0 -/
  stage : Nat := 0
  /-- paths of the level, in order; R212; reset empty -/
  probes : List Probe := []
  /-- addresses claimed in the level; R212; reset empty -/
  claimed : List Nat := []
  /-- LINKSTATE records received from the nodes of the level, (address, 12-byte records); R212; reset empty -/
  reported : List (Nat × Bytes) := []
  /-- addresses whose SESSION has no outcome yet; R214; reset empty -/
  sessions : List Nat := []
  /-- message numbers awaited; R118; reset empty -/
  awaits : List Nat := []
  /-- nodes found; R208; reset 0 -/
  found : Nat := 0
  /-- nodes claimed; R208; reset 0 -/
  claims : Nat := 0
  /-- nodes attested; R208; reset 0 -/
  attested : Nat := 0
  /-- items of this walk; R211; reset 0 -/
  items : Nat := 0
  /-- serials that another bolt's primary has been asked to release; R239; reset empty -/
  asked : List Nat := []
  /-- bolts whose primaries have not answered a release request; R239; reset empty -/
  releasing : List Nat := []
  /-- an owner has released agents since the last level was probed: they are probed again; R239; reset false -/
  regrant : Bool := false
  /-- serials of the endpoints that the walk has numbered, which it puts in placement order at its end; R219, R220; reset empty -/
  placed : List Nat := []
  /-- ticks in which messages of the walk left late for want of budget, and the instant of the last; R74; reset 0 -/
  late : Nat := 0
  lateAt : Nat := 0
  /-- status and detail of a walk that ends otherwise than R211 says: a release denied, a solve or a staging that failed; R237, R239;
  reset none -/
  failed : Option (Nat × Nat) := none
  /-- the own section as it stood at the last completed change, while the walk changes it; R210; reset none -/
  before : Option TopoSection := none
  deriving DecidableEq, Repr

/-- The parameters of a solve (R273), defaults applied. -/
structure SolveParams where
  /-- 0 FULL, 1 DEST -/
  scope : Nat := 0
  flags : Nat := 0
  /-- maximum path count M -/
  paths : Nat := 4
  ranges : List (Nat × Nat) := []
  h : Nat := 3000
  q : Nat := 400
  s : Nat := 1000
  deriving DecidableEq, Repr

/-- Why a solve was requested. -/
inductive SolveFor where
  /-- a message of another Geneel -/
  | peer (addr msgid : Nat)
  /-- a command of this Geneel -/
  | command (id : Nat)
  /-- the repair epoch of R301 -/
  | repair
  /-- RACK_ABSORB (R237) -/
  | absorb
  /-- ROUTE_PIN or ROUTE_UNPIN with APPLY (R305) -/
  | pin (id : Nat)
  /-- FAILOVER_PREPARE (R275): its command, its mode and its elements (kind, address, port) -/
  | failover (id : Option Nat) (mode : Nat) (elements : List (Nat × Nat × Nat))
  /-- a slice change or a promotion (R313, R334), by its number -/
  | slice (change : Nat)
  deriving DecidableEq, Repr

/-- A request at the coordinator (R272). -/
structure SolveRequest where
  params : SolveParams
  /-- requesters: address and message number -/
  from_ : List (Nat × Nat)
  deriving DecidableEq, Repr

/-- A node of a solve copy (R265). -/
structure SnapNode where
  addr : Nat
  kind : Nat
  tier : Nat
  ver : Nat
  /-- eligible under R202 and R214 -/
  ok : Bool
  bolt : Nat
  deriving DecidableEq, Repr

/-- A usable directed link of a solve copy (R241), with its cost (R245). -/
structure SnapLink where
  src : Nat
  sport : Nat
  dst : Nat
  width : Nat
  cost : Nat
  /-- rank of the target above that of the source (R248) -/
  up : Bool
  deriving DecidableEq, Repr

/-- An unroutable pair (R274). -/
structure Unroutable where
  src : Nat
  dst : Nat
  cause : Nat
  deriving DecidableEq, Repr

/-- A pin (R304). -/
structure Pin where
  id : Nat
  node : Nat
  first : Nat
  last : Nat
  ports : List Nat
  /-- instant from which a solve that is called takes it into account; R305 -/
  from_ : Nat := 0
  /-- unpinned: leaves at the commit of the next epoch solved after this instant; R305 -/
  until_ : Option Nat := none
  /-- the command whose APPLY solves with it, and the one whose APPLY solves without it, before its tick; R305; reset none -/
  apply : Option Nat := none
  unapply : Option Nat := none
  /-- an epoch whose solve took it into account has committed; R305, R308; reset false -/
  inForce : Bool := false
  /-- conflicts; 32 bits, saturating; R307 -/
  conflicts : Nat := 0
  deriving DecidableEq, Repr

/-- The solve that runs at this Geneel, as coordinator, solver and receiver (R264 to R272). -/
structure Solve where
  id : Nat
  params : SolveParams
  coordinator : Nat
  /-- call tick; 48 bits; R264 -/
  callTick : Nat
  /-- instant of the call tick -/
  callAt : Nat := 0
  /-- the copy is frozen; R265 -/
  frozen : Bool := false
  /-- requesters as the coordinator knows them, address and message number; R264 -/
  from_ : List (Nat × Nat) := []
  /-- solve copy of the sections, frozen at the call tick; R265 -/
  copy : List TopoSection := []
  /-- vectors received by the coordinator, (Geneel ID, good tiles, status, generations); R264 -/
  vectors : List (Nat × Nat × Nat × List Nat) := []
  /-- the coordinator has sent SOLVE_GO; R265 -/
  gone : Bool := false
  /-- agreed vector, 32 generations; R265 -/
  agreed : List Nat := []
  /-- good tiles by Geneel ID; R264 -/
  tiles : List Nat := []
  /-- the start tick has come: the agreed copy is in use; R265; reset false -/
  begun : Bool := false
  /-- a section moved more than 16 generations during the call; R266; reset false -/
  overrun : Bool := false
  startTick : Nat := 0
  /-- instant of the start tick -/
  startAt : Nat := 0
  /-- usable links of the agreed copy; R241 -/
  links : List SnapLink := []
  /-- nodes of the agreed copy -/
  nodes : List SnapNode := []
  /-- destinations in ascending address order; R243 -/
  dests : List Nat := []
  /-- assignee of each original solver's share, (solver, assignee); R269 -/
  shares : List (Nat × Nat) := []
  /-- batches of this Geneel not yet computed, first destination index and share; R267 -/
  batches : List (Nat × Nat) := []
  /-- core cycles that the finished batches of this Geneel took; R72, R259 -/
  cycles : Nat := 0
  /-- core cycles that the tiles have run for the present batch, and the tiles that ran it; R72, R261 -/
  ran : Nat := 0
  tilesSeen : Nat := 0
  /-- the own bolt's new epoch tag, as held at the start tick; 16 bits; R271 -/
  tag : Nat := 0
  /-- the bolt's pins that bind this solve; R305, R306 -/
  pins : List Pin := []
  /-- entries received, (node, destination, entry); R268 -/
  image : List (Nat × Nat × Nat) := []
  /-- shares refused, whose solver takes no further part; R269 -/
  refused : List Nat := []
  /-- SOLVE_DONE heard, (Geneel address, bolt, status, digest, new tag, unroutable pairs); R271 -/
  done : List (Nat × Nat × Nat × Bytes × Nat × Nat) := []
  moved : Nat := 0
  /-- repeats made so far, and whether one of them was for an epoch that moved; R272 -/
  repeats : Nat := 0
  epochRepeat : Bool := false
  stale : Bool := false
  resent : Bool := false
  /-- this Geneel has sent its own SOLVE_DONE -/
  reported : Bool := false
  deriving DecidableEq, Repr

/-- A completed result as this Geneel holds it (R271, R274, R286). -/
structure SolveResult where
  id : Nat
  params : SolveParams
  /-- the image of the bolt: (node, destination, entry) -/
  image : List (Nat × Nat × Nat)
  /-- new epoch tag per bolt -/
  tags : List Nat
  agreed : List Nat
  stale : Bool := false
  /-- links had come, gone or changed their width when it was complete, so that a repair must follow; R301 -/
  moved : Bool := false
  destinations : Nat := 0
  /-- destinations whose columns the result replaces; R272 -/
  columns : List Nat := []
  /-- usable links and nodes of the agreed copy, for the failover deltas of R277 -/
  links : List SnapLink := []
  nodes : List SnapNode := []
  /-- the result of R274, 744 bytes -/
  report : Bytes := []
  /-- the solve was called at this instant; R305 -/
  called : Nat := 0
  /-- unroutable pairs of all bolts -/
  unroutableCount : Nat := 0
  /-- the bolt's pins that bound it; R305, R307 -/
  pins : List Pin := []
  deriving DecidableEq, Repr

/-- The image that the primary holds of a node's two banks (R286). -/
structure BankImage where
  addr : Nat
  /-- banks A and B: states, routes, weights and shares -/
  a : Bank := {}
  b : Bank := {}
  deriving DecidableEq, Repr

/-- A prepared failure (R278, R279). -/
structure Prepared where
  id : Nat
  /-- 0 link, 1 switch -/
  kind : Nat
  addr : Nat
  port : Nat
  tag : Nat
  /-- changed entries, (node, destination, entry) -/
  entries : List (Nat × Nat × Nat)
  /-- pins that changed an entry of it; R307 -/
  bound : List Nat := []
  deriving DecidableEq, Repr

/-- A drain record (R308). -/
structure DrainRecord where
  epoch : Nat
  forced : Bool := false
  repair : Bool := false
  stranded : Nat := 0
  commitTick : Nat := 0
  retireTick : Nat := 0
  expired : Nat := 0
  deriving DecidableEq, Repr

/-- States of the machine's route epoch, in the order of their codes (R282, R308). -/
inductive EpochState where
  | stable | staging | staged | committing | draining
  deriving DecidableEq, Repr

/-- Staging at a primary (R286). -/
structure Staging where
  solveId : Nat
  requester : Nat
  flags : Nat
  /-- TABLE_WRITE messages not yet sent, (node, entries in it, body); R286 -/
  writes : List (Nat × Nat × Bytes) := []
  awaits : List Nat := []
  written : Nat := 0
  /-- instant at which the staging began; R74 -/
  begun : Nat := 0
  /-- ticks used beyond the first; R74 -/
  extra : Nat := 0
  /-- tick in which the last write so far was sent; R66, R74 -/
  sentTick : Nat := 0
  /-- an agent that stayed silent; R287 -/
  silent : Option Nat := none
  lastAck : Nat := 0
  reported : Bool := false
  deriving DecidableEq, Repr

/-- Who staged or commits: the host's command, the repair epoch, RACK_ABSORB, a pin, slice changes and promotions. -/
inductive EpochFor where
  | host | repair | absorb | pin (id : Nat) | slice
  deriving DecidableEq, Repr

/-- Route epochs (R280 to R308). -/
structure Epoch where
  /-- current epoch; 16 bits; R281; reset 0xFFFF -/
  current : Nat := 0xFFFF
  /-- an epoch has committed here; R281, R301; reset false -/
  started : Bool := false
  /-- state of the machine's route epoch; R282; reset STABLE -/
  state : EpochState := .stable
  /-- staged solve ID, 0 none; 32 bits; R308; reset 0 -/
  stagedId : Nat := 0
  /-- who staged; reset host -/
  owner : EpochFor := .host
  /-- staging at this primary; R286; reset none -/
  staging : Option Staging := none
  /-- a staging ordered with FORCE that starts at the forced retirement, (solve ID, flags, requester); R297; reset none -/
  forcedStage : Option (Nat × Nat × Nat) := none
  /-- the requester's ROUTE_STAGE command; R288; reset none -/
  stageCmd : Option Nat := none
  /-- EPOCH_STAGED heard, (bolt, status, silent agent); R288; reset empty -/
  stagedBy : List (Nat × Nat × Nat) := []
  /-- EPOCH_STAGED heard of a staging that has not begun here, (solve ID, bolt, status, silent agent); R282, R287; reset empty -/
  stagedEarly : List (Nat × Nat × Nat × Nat) := []
  /-- the requester's ROUTE_COMMIT command; R292; reset none -/
  commitCmd : Option Nat := none
  /-- the Geneel that ordered the commit, which is told when it is done; R287, R290; reset none -/
  commitBy : Option Nat := none
  /-- instant of the commit planned; R290; reset none -/
  commitAt : Option Nat := none
  /-- drain window D of the commit planned or running; 16 bits; R289; reset 128 -/
  window : Nat := 128
  /-- the new epoch of the commit planned; R290; reset 0 -/
  next : Nat := 0
  /-- commit tick of the current epoch; 48 bits; R308; reset 0 -/
  commitTick : Nat := 0
  /-- instant of the retirement planned; R296, R308; reset none -/
  retireAt : Option Nat := none
  /-- RETIRE has been sent; R296; reset false -/
  retireSent : Bool := false
  /-- the drain was ended early; R297; reset false -/
  forced : Bool := false
  /-- the current epoch is a repair; R308; reset false -/
  repairEpoch : Bool := false
  /-- agents that acknowledged ACTIVATE of the commit planned; R291; reset empty -/
  acked : List Nat := []
  /-- ACTIVATE message numbers awaited; R291; reset empty -/
  awaits : List (Nat × Nat) := []
  /-- agents stranded and not joined; R291; reset empty -/
  stranded : List Nat := []
  /-- agents stranded at the commit of the current epoch, joined or not; R292; reset 0 -/
  strandedCount : Nat := 0
  /-- EPOCH_DONE heard, (bolt, stranded); R287; reset empty -/
  doneBy : List (Nat × Nat) := []
  /-- failure ID of the overlay in force or sent; R299, R308; reset none -/
  overlay : Option Nat := none
  /-- instant at which a sent overlay applies; R299; reset none -/
  overlayAt : Option Nat := none
  /-- failures prepared; R278, R308; reset empty -/
  prepared : List Prepared := []
  /-- the bolt's failure ID counter; 11 bits; R279; reset 0 -/
  failureSeq : Nat := 0
  /-- the bolt's standing mode of FAILOVER_PREPARE: 0 AUTO or 1 LIST with its elements; R275; reset AUTO -/
  standing : Nat × List (Nat × Nat × Nat) := (0, [])
  /-- pins; at most 4,096; R304; reset empty -/
  pins : List Pin := []
  /-- pin conflicts of the bolt; R307; reset 0 -/
  pinConflicts : Nat := 0
  /-- ID the next pin takes; 16 bits; R304; reset 0 -/
  nextPin : Nat := 0
  /-- an APPLY is pending; R308; reset false -/
  applyPending : Bool := false
  /-- a repair is pending; R301, R308; reset false -/
  repairPending : Bool := false
  /-- drain records of the last 8 epochs, newest first; R298, R308; reset empty -/
  drains : List DrainRecord := []
  /-- epoch-expired counters read at the commit, summed; R298; reset 0 -/
  expiredAtCommit : Nat := 0
  /-- epoch-expired counters read after the retire, summed; R298; reset 0 -/
  expiredAfter : Nat := 0
  /-- images of every bank of the bolt; R286; reset empty -/
  images : List BankImage := []
  /-- the PREP flag of the result in force; R273; reset false -/
  prep : Bool := false
  /-- the parameters of the result in force; R277; reset the defaults of R246 -/
  params : SolveParams := {}
  deriving DecidableEq, Repr

/-- A change of the own section that waits for the next marker (R232). -/
inductive SectionNews where
  /-- an agent's outcome of R214, or its state, as a reply tells it -/
  | node (serial : Nat) (attest agState : Option Nat)
  /-- links are ROUTABLE again where their state allows it (R605) -/
  | restore (addr port : Nat)
  /-- nodes released to another bolt leave at a named instant (R239) -/
  | leave (at_ : Nat) (serials : List Nat)
  deriving DecidableEq, Repr

/-- Discovery, topology, solver and epochs. -/
structure Fabric where
  /-- sections of the topology record, ascending bolt; R227, R233; reset empty -/
  sections : List TopoSection := []
  /-- changes of the own section that wait for the next marker, in order; R232; reset empty -/
  news : List SectionNews := []
  /-- deltas of other bolts' sections that wait for the next marker or for their predecessor; R233; reset empty -/
  heldDeltas : List SectionDelta := []
  /-- deltas sent to peers, (address, delta), oldest first (the model's record of its output); R233; reset empty -/
  sentDeltas : List (Nat × SectionDelta) := []
  /-- deltas kept while a solve runs, at most 16 generations a section; R266; reset empty -/
  keptDeltas : List SectionDelta := []
  /-- the walk; R212 -/
  walk : Walk := {}
  /-- the solve running at this Geneel; R264; reset none -/
  solve : Option Solve := none
  /-- requests queued at the coordinator; at most 64; R272; reset empty -/
  queue : List SolveRequest := []
  /-- solve ID the next solve takes; 32 bits; R264; reset 1, DESIGN CHOICE: 0 stands for none in R308 -/
  nextSolve : Nat := 1
  /-- requests this Geneel has sent and not seen complete, with the parameters; R272; reset empty -/
  requested : List (SolveFor × SolveParams) := []
  /-- message numbers of the requests sent to another coordinator; R264, R272; reset empty -/
  requestIds : List (SolveFor × Nat) := []
  /-- a solve that was aborted to be repeated: its parameters and the repeats so far; R272; reset none -/
  repeating : Option (SolveParams × Nat) := none
  /-- FAULT_REPORTs of codes 2, 3, 4, 8 and 11 from switches in the last hour, (switch, instant); R276; reset empty -/
  switchReports : List (Nat × Nat) := []
  /-- core cycles of the tiles that trees and failover deltas have taken and that no tick has given yet; R72, R258, R279; reset 0 -/
  tileDebt : Nat := 0
  /-- solves that have completed or ended for a requester of this Geneel and are to be acted on: why, solve ID, outcome 0
  done, 2 no solver, 3 digests differ, else a final status plus 256 times its detail; R271, R272; reset empty -/
  finished : List (SolveFor × Nat × Nat) := []
  /-- answers given to release requests of other bolts, (address, granted, tick), oldest first (the model's record of its
  output); R239; reset empty -/
  releaseAnswers : List (Nat × Bool × Nat) := []
  /-- switches of the bolt that have been lost to a reset or with all their links, and have not returned; R302, R303; reset empty -/
  lostSwitches : List Nat := []
  /-- switches still stranded at a retire tick, to be handled as reset at that marker; R291; reset empty -/
  resetDue : List Nat := []
  /-- completed results held; R285; reset empty -/
  results : List SolveResult := []
  /-- route epochs; R280 -/
  epoch : Epoch := {}
  deriving DecidableEq, Repr

end Sys2Proof.Machine
end

