-- ==== Sys2Proof/Machine/JacquardTypes.lean ====
section
/-! DEFINITION. The state of Jacquard (spec 11_jacquard_exchange): plans, exchanges, counts and planned rounds. -/

namespace Sys2Proof.Machine

open Sys2Proof

/-- A card (R191, R397, R400). -/
structure Card where
  src : Nat
  dst : Nat
  offset : Nat
  bytes : Nat
  /-- byte 14: [0] last card of the pair, [1] follow-up round -/
  flags : Nat
  deriving DecidableEq, Repr

/-- Bytes of a pair left to allot and allotted (R397). -/
structure PairLeft where
  src : Nat
  dst : Nat
  rem : Nat
  pos : Nat
  deriving DecidableEq, Repr

/-- The capacities of R396 at one moment, in flits per round. -/
structure PlanCaps where
  /-- local sources by rank -/
  sources : List (Nat × Nat) := []
  /-- destinations by rank -/
  dests : List (Nat × Nat) := []
  /-- other bolts of the plan -/
  bolts : List (Nat × Nat) := []
  /-- cards of the bolt -/
  cards : Nat := 0
  /-- data bytes of a flit -/
  delta : Nat := 0
  deriving DecidableEq, Repr

/-- An exchange of a plan (R391 to R410). -/
structure Exchange where
  /-- exchange number; 32 bits; R389 -/
  num : Nat := 0
  /-- 0 IDLE, 1 COUNTING, 2 RUNNING, 3 CHECK, 4 DONE, 5 FAILED; R389 -/
  state : Nat := 0
  /-- failure cause; R410 -/
  cause : Nat := 0
  /-- instant of the first count flit; R395 -/
  firstAt : Option Nat := none
  /-- counts received, (source rank, destination rank, items), in the count store; R392 -/
  counts : List (Nat × Nat × Nat) := []
  /-- ranks whose LAST count flit has arrived; R391 -/
  lastFrom : List Nat := []
  /-- receive lists of the local members written; R394 -/
  listed : Bool := false
  /-- XCHG_READY status 0 held, (bolt, items into its members); R394, R395 -/
  ready : List (Nat × Nat) := []
  /-- XCHG_READY status 1 held; R409 -/
  landed : List Nat := []
  /-- instant of C; R395 -/
  cAt : Option Nat := none
  /-- instant of round 0; R402, R405 -/
  round0 : Nat := 0
  /-- round the next pass plans; R402 -/
  nextRound : Nat := 0
  /-- ticks by which rounds have slipped; R402 -/
  slip : Nat := 0
  /-- instant of the last round planned; R407 -/
  lastRound : Nat := 0
  /-- pairs with bytes left; R397 -/
  pairs : List PairLeft := []
  /-- grant offsets of the local sources, (rank, offset); R399 -/
  offsets : List (Nat × Nat) := []
  /-- capacities as they stood at C, which the running plan keeps; R396, R398, R411 -/
  caps : PlanCaps := {}
  /-- rounds whose cards are planned and that have not started, (instant of the start, cards); R411 -/
  out : List (Nat × List Card) := []
  /-- presumed rounds in use, not yet sent; R405 -/
  presumed : List (List Card) := []
  /-- ran on a presumed plan; R389, R405 -/
  wasPresumed : Bool := false
  /-- follow-up rounds run: 0 none, 1 overflow, 2 repair; R405, R408 -/
  followUp : Nat := 0
  /-- local members that have reported complete; R407 -/
  complete : List Nat := []
  /-- local members asked in the running CHECK that have not answered; R407 -/
  asked : List Nat := []
  /-- instant of the last CHECK; R407 -/
  checkAt : Nat := 0
  /-- repair phases run; R408 -/
  repairs : Nat := 0
  /-- the running CHECK has begun its repair phase; R408 -/
  repairing : Bool := false
  /-- rounds run; R412 -/
  rounds : Nat := 0
  /-- instant of DONE or FAILED; R389 -/
  endAt : Nat := 0
  /-- FAILED is to be written into the plan areas at the next marker; R410 -/
  writeFail : Bool := false
  deriving DecidableEq, Repr

/-- A plan (R381 to R384, R412). -/
structure Plan where
  /-- plan ID; 16 bits; R383 -/
  id : Nat
  job : Nat
  /-- item size in bytes; R381 -/
  item : Nat
  /-- flags of R381 -/
  flags : Nat
  /-- link fraction X; R381 -/
  x : Nat
  /-- count deadline in ticks; R381 -/
  deadline : Nat
  /-- receive capacity R_c; R381 -/
  capacity : Nat
  /-- equal count E; R381 -/
  equal : Nat
  /-- members by rank; R382 -/
  members : List Nat
  dataStream : Nat
  countStream : Nat
  /-- created by a command whose tick has not come: its streams are reserved, and it is no plan yet; R383 -/
  opening : Bool := false
  cur : Exchange := {}
  /-- counts of the next exchange that arrive before the current one ends here, with the cause where it has failed already; R392, R410 -/
  next : Option Exchange := none
  /-- presumed rounds for the next exchange and the pairs they assume, tagged with C of the exchange assumed; R405 -/
  presumed : Option (List (List Card) × List PairLeft × Nat) := none
  done : Nat := 0
  failed : Nat := 0
  /-- failures by cause 1 to 9; R412 -/
  failBy : List Nat := [0, 0, 0, 0, 0, 0, 0, 0, 0]
  rounds : Nat := 0
  followRounds : Nat := 0
  repairRounds : Nat := 0
  misses : Nat := 0
  presumedRun : Nat := 0
  lastRounds : Nat := 0
  lastC : Nat := 0
  /-- tick of the counts of the latest exchange whose counts were complete, with which a presumed plan's tag is compared; R79; reset 0 -/
  countsAt : Nat := 0
  lastDone : Nat := 0
  deriving DecidableEq, Repr

/-- Jacquard (spec 11). -/
structure Jacquard where
  /-- plans, ascending ID; at most 512; R383; reset empty -/
  plans : List Plan := []
  /-- flits sent to plan areas, oldest first (the model's record of its output); R387; reset empty -/
  sent : List Flit := []
  /-- passes that the engines have granted in this tick; R76, R401; reset 0 -/
  grants : Nat := 0
  /-- count and report flits discarded; R392; reset 0 -/
  discarded : Nat := 0
  deriving DecidableEq, Repr

end Sys2Proof.Machine
end

