-- ==== Sys2Proof/Machine/PowerTypes.lean ====
section
/-! DEFINITION. The state of power, current and temperature (spec 14_power_and_current). -/

namespace Sys2Proof.Machine

open Sys2Proof

/-- An account of R507: frontier instant and allowance left in it. -/
structure Account where
  frontier : Nat := 0
  left : Nat := 0
  deriving DecidableEq, Repr

/-- A shelf's budget and its booked account (R506, R507). -/
structure Shelf where
  /-- release fraction in sixteenths; R506; reset 8 -/
  phi : Nat := 8
  /-- budget B_h in 0.1 A per tick; R506; reset 1,000 -/
  budget : Nat := 1000
  /-- output voltage V_h in 0.1 V; R506; reset 540 -/
  volts : Nat := 540
  /-- account of the booked part; R507; reset empty -/
  booked : Account := {}
  /-- accounts that hold one job's own bookings only, by job; R517; reset empty -/
  alone : List (Nat × Account) := []
  deriving DecidableEq, Repr

/-- A grant that the Geneel has made at an agent (R512 to R516). -/
structure Grant where
  addr : Nat
  kind : Nat
  job : Nat
  action : Nat
  /-- booked start -/
  start : Nat
  /-- the start had no other job booked anything; R517 -/
  alone : Nat
  step : Nat
  /-- instant of expiry, none for a barrier -/
  expiry : Option Nat := none
  /-- renewed warm as long as its owner lives (kinds 1 and 2) -/
  standing : Bool := false
  deriving DecidableEq, Repr

/-- A booking that waits because its agent holds 64 grants (R516). -/
structure Deferred where
  addr : Nat
  kind : Nat
  job : Nat
  action : Nat
  /-- of a standing grant -/
  standing : Bool := false
  deriving DecidableEq, Repr

/-- Operating points, droop, guard band, temperature, power and shelf current (spec 14). -/
structure Power where
  /-- operating point in force, 0 to 3; R491, R519; reset 1, the point of bring-up -/
  op : Nat := 1
  /-- change decided, (point, instant of the decision); R496; reset none -/
  change : Option (Nat × Nat) := none
  /-- preferred point and floor of IDLE, STEADY, SOLVE, ABSORB, RESTORE; R492, R495; reset the defaults -/
  points : List (Nat × Nat) := [(0, 0), (2, 0), (2, 0), (1, 0), (2, 0)]
  /-- phases in force at the last marker, bit p; R492, R519; reset 0 -/
  phases : Nat := 0
  /-- droop flag; R497; reset false -/
  droop : Bool := false
  /-- the stretcher doubles clock periods; R498; reset false -/
  stretching : Bool := false
  /-- ceiling set by a droop lowering, none without one; R498; reset none -/
  droopCap : Option Nat := none
  /-- instant of the last droop lowering; R494, R498; reset none -/
  droopAt : Option Nat := none
  /-- ceiling set by the thermal throttle; R503; reset none -/
  heatCap : Option Nat := none
  /-- instant of the last thermal lowering; R503; reset none -/
  heatAt : Option Nat := none
  /-- instant since which every sensor reads at most 100 °C; R503; reset none -/
  coolSince : Option Nat := none
  /-- memory crossbars at half rate; R503; reset false -/
  halved : Bool := false
  /-- ceiling set by the TDP limit; R505; reset none -/
  tdpCap : Option Nat := none
  /-- instant since which the average stays below 800 W; R505; reset none -/
  tdpLow : Option Nat := none
  /-- 1 s power average in 0.1 W; R505, R519; reset 0 -/
  average : Nat := 0
  /-- logic share of the average in 0.1 W; R494; reset 0 -/
  logic : Nat := 0
  /-- thermal sensor readings in 0.1 °C, 48 of them once sampled; R501; reset empty -/
  temps : List Int := []
  /-- guard band g in mV; R499, R519; reset 30 -/
  guard : Nat := 30
  /-- uncertainty part u in mV; R499; reset 20 -/
  guardU : Nat := 20
  /-- ageing part a in mV; R499; reset 0 -/
  guardA : Nat := 0
  /-- guard band that applies at the next change of operating point; R500; reset none -/
  guardNext : Option Nat := none
  /-- set points of VDD_CORE sent on AVSBus since the last reset, in mV, oldest first (the model's record of the bus); R491, R690; reset none -/
  avs : List Nat := []
  /-- slowdown in units of 0.001 %, signed; R499, R519; reset 0 -/
  slowdown : Int := 0
  /-- the reference frequencies cannot be read; R500; reset false -/
  refsLost : Bool := false
  /-- ticks below the floor by droop lowering; 32 bits; R519; reset 0 -/
  belowDroop : Nat := 0
  /-- ticks below the floor by thermal throttle; 32 bits; R519; reset 0 -/
  belowHeat : Nat := 0
  /-- ticks below the floor by the TDP limit; 32 bits; R519; reset 0 -/
  belowTdp : Nat := 0
  /-- OP3 refusals; 32 bits; R494, R519; reset 0 -/
  op3Refusals : Nat := 0
  /-- droop lowerings; 32 bits; R519; reset 0 -/
  droopLowerings : Nat := 0
  /-- rail slew deferrals in ticks; 32 bits; R519; reset 0 -/
  railDeferrals : Nat := 0
  /-- shelf deferrals in member-ticks; 32 bits; R516, R519; reset 0 -/
  shelfDeferrals : Nat := 0
  /-- rail slew budget in A per tick; R504; reset 120 -/
  railBudget : Nat := 120
  /-- rail account in 0.01 A; R504; reset empty -/
  rail : Account := {}
  /-- shelves by number, an unlisted one at its reset values; R506; reset none listed -/
  shelves : List (Nat × Shelf) := []
  /-- shelf budgets waiting for their first release, (instant, shelf, φ, B, V); R506; reset empty -/
  budgetsDue : List (Nat × Nat × Nat × Nat × Nat) := []
  /-- declared steps, LEN × 8 + kind to step in 0.1 A, 0 selecting measurement; R511; reset none -/
  declared : List (Nat × Nat) := []
  /-- measured samples, LEN × 8 + kind to the last 16, newest first, each a fraction of 0.1 A; R510; reset none -/
  samples : List (Nat × List (Nat × Nat)) := []
  /-- grants made; R512; reset empty -/
  grants : List Grant := []
  /-- bookings that wait; R516; reset empty -/
  waiting : List Deferred := []
  /-- booking counts by kind × 65536 + owner; R512; reset empty -/
  bookings : List (Nat × Nat) := []
  /-- releases announced and not past, (kind, action, base instant); R512; reset empty -/
  releases : List (Nat × Nat × Nat) := []
  /-- run-ahead schedules of barrier groups, (group, tick assumed); R513; reset empty -/
  barriers : List (Nat × Nat) := []
  /-- tick of the last change of a quota, a shelf budget or a member set; R79, R513; reset 0 -/
  quotaTick : Nat := 0
  deriving DecidableEq, Repr

end Sys2Proof.Machine
end

