-- ==== Sys2Proof/Machine/RestartTypes.lean ====
section
/-! DEFINITION. The state of the restart store (spec 13_restart_store): generations, shards, parity, restores. -/

namespace Sys2Proof.Machine

open Sys2Proof

/-- A shard stored (R458 to R466, R473, R474). -/
structure StoreShard where
  /-- owner: a LEN, or 0x8000_0000 + table ID × 64 + shard index; R461 -/
  owner : Nat
  /-- quadrant; R460 -/
  quadrant : Nat
  /-- first page, within its quadrant, or within the data area in SPLIT; R460, R474 -/
  page : Nat
  /-- lines reserved: L_m, or those of the table's pages; R458 -/
  reserved : Nat
  /-- lines stored, by offset; the coverage bits are the offsets listed; R464, R465 -/
  lines : List (Nat × Bytes) := []
  /-- total and digest of the END; R462, R465 -/
  fin : Option (Nat × Bytes) := none
  /-- instant of the END -/
  endAt : Nat := 0
  /-- instant of the last GAP that listed missing lines; R465 -/
  gapAt : Nat := 0
  /-- address the END came from; R465 -/
  sender : Nat := 0xFFFF
  /-- MISMATCH answers given; R469 -/
  mismatches : Nat := 0
  /-- ACCEPTED sent; R465, R468 -/
  accepted : Bool := false
  /-- data pages not yet in parity, or not yet out of it; R474, R475 -/
  parity : List Nat := []
  /-- the storage target has answered ACCEPTED; R482 -/
  spilled : Bool := false
  /-- its pages are lost with their quadrant; R39 -/
  lost : Bool := false
  deriving DecidableEq, Repr

/-- A table whose snapshot a generation takes, as it stood when the generation opened (R453, R458). -/
structure SnapTable where
  id : Nat
  format : Nat
  d : Nat
  opt : Nat
  /-- shard set -/
  shards : List Nat
  deriving DecidableEq, Repr

/-- A slot of a job at this Geneel (R455 to R457, R485). -/
structure StoreSlot where
  job : Nat
  /-- generation number; 32 bits; R455 -/
  gen : Nat
  /-- 0 FREE, 1 CLEARING, 2 OPEN, 3 COMMITTED, 4 FAILED; R457, R485 -/
  state : Nat
  /-- flag SINGLE; R472 -/
  single : Bool := false
  /-- flag SPILLED; R482, R485 -/
  spilled : Bool := false
  /-- failure cause; R469 -/
  cause : Nat := 0
  /-- deadline in ticks; R458 -/
  deadline : Nat
  /-- instant and tick of opening; R485 -/
  openAt : Nat
  openTick : Nat
  commitTick : Nat := 0
  /-- shards expected over all holders; R459 -/
  expected : Nat
  /-- requester's address; R458 -/
  requester : Nat
  /-- shards that this Geneel stores -/
  shards : List StoreShard
  /-- the tables listed that this Geneel holds a shard of -/
  tables : List SnapTable := []
  /-- shards checked, as last reported to the requester -/
  told : Nat := 0
  deriving DecidableEq, Repr

/-- Streams of a job (R459). -/
structure StoreStreams where
  job : Nat
  ckpt : Nat
  rest : Nat
  deriving DecidableEq, Repr

/-- A change named for a later tick, as a GEN_CTL brings it (R468). -/
structure GenDue where
  /-- op of R468 -/
  op : Nat
  /-- instant -/
  at_ : Nat
  cause : Nat
  job : Nat
  gen : Nat
  src : Nat
  params : Bytes
  deriving DecidableEq, Repr

/-- What a requester keeps of its generation (R458, R468). -/
structure GenTrack where
  job : Nat
  gen : Nat
  /-- GENERATION_OPEN command -/
  cmd : Option Nat
  /-- holders, with the shards each is to check and those reported checked -/
  holders : List (Nat × Nat × Nat)
  /-- holders that have not answered the open -/
  opening : List Nat
  /-- greatest shortfall heard, in GiB -/
  short : Nat := 0
  /-- some holder has refused -/
  refused : Bool := false
  /-- shards expected over all holders; R459 -/
  expected : Nat := 0
  deriving DecidableEq, Repr

/-- Members that this Geneel is serving of a restore or a PULL (R478, R479). -/
structure Serving where
  job : Nat
  gen : Nat
  len : Nat
  /-- 1 of a restore, 2 of a PULL, 3 awaiting the storage target -/
  kind : Nat
  /-- RDATA and REND have been sent -/
  sent : Bool := false
  /-- Geneel that requested the restore -/
  requester : Nat
  deriving DecidableEq, Repr

/-- A RESTORE_START at its requester (R477). -/
structure RestoreRun where
  cmd : Nat
  job : Nat
  gen : Nat
  /-- serving Geneels not yet done -/
  waiting : List Nat
  deriving DecidableEq, Repr

/-- The restart store. -/
structure Store where
  /-- placement mode, 0 MIRROR, 1 SPLIT; 8 bits; R470; reset 0 -/
  mode : Nat := 0
  /-- flag SPILL; R470; reset false -/
  spill : Bool := false
  /-- slots that hold something, in order of opening; R457; reset none -/
  slots : List StoreSlot := []
  /-- streams by job; R459; reset none -/
  streams : List StoreStreams := []
  /-- GEN_CTL changes waiting for their tick; R468; reset empty -/
  due : List GenDue := []
  /-- generations this Geneel requested; R458; reset empty -/
  tracks : List GenTrack := []
  /-- generations that this Geneel, as requester, has committed, (job, generation, holders); R455, R458; reset empty -/
  known : List (Nat × Nat × List Nat) := []
  /-- TABLE_SNAPSHOT commands that await the commit, (command, job, generation); R452, R468; reset empty -/
  snaps : List (Nat × Nat × Nat) := []
  /-- restores requested; R477; reset empty -/
  restores : List RestoreRun := []
  /-- members being served; R478, R479; reset empty -/
  serving : List Serving := []
  /-- parity lines, by parity page × 64 + line, an unlisted one being zero; R474; reset empty -/
  parity : List (Nat × Bytes) := []
  /-- lines of a page received by a parity holder and not yet acknowledged, (source, page, line); R474; reset empty -/
  parGot : List (Nat × Nat × Nat) := []
  /-- first restart page of each quadrant not yet swept of a job's rotation, (job, quadrant, page); R449, R460; reset none -/
  sweep : List (Nat × Nat × Nat) := []
  /-- restart pages re-encrypted ahead of the sweep by a write, (job, quadrant, page); R449; reset none -/
  swept : List (Nat × Nat × Nat) := []
  /-- VC7 flits sent, oldest first (the model's record of its output); R462; reset empty -/
  sent : List Flit := []
  deriving DecidableEq, Repr

end Sys2Proof.Machine
end

