-- ==== Sys2Proof/Machine/TwillTypes.lean ====
section
/-! DEFINITION. The state of Twill (spec 10_twill_collectives): base trees, groups, the steps at the root pipelines. -/

namespace Sys2Proof.Machine

open Sys2Proof

/-- An up link of a tree: from the node below to the node above (R351, R352). -/
structure TreeLink where
  src : Nat
  sport : Nat
  dst : Nat
  dport : Nat
  width : Nat
  /-- recorded delay in ps; R229 -/
  delay : Nat
  deriving DecidableEq, Repr

/-- A base tree over the members of a slice (R351). -/
structure BaseTree where
  root : Nat
  /-- one or two root ports -/
  ports : List Nat
  links : List TreeLink
  deriving DecidableEq, Repr

/-- The pair of base trees of a slice (R351). -/
structure BasePair where
  job : Nat
  t0 : BaseTree
  t1 : BaseTree
  /-- tree 1 uses some switch-to-switch link of tree 0; R348 -/
  shared : Bool
  /-- tree 1 uses some link of tree 0; R348 -/
  joint : Bool
  oneRoot : Bool
  deriving DecidableEq, Repr

/-- One of a group's two trees (R348). -/
structure GroupTree where
  root : Nat
  /-- root pipeline; 3 bits; R348 -/
  pipeline : Nat
  ports : List Nat
  /-- up stream ID; 16 bits; R348 -/
  up : Nat
  /-- down stream ID; 16 bits; R348 -/
  down : Nat
  links : List TreeLink
  /-- depth in links; R348 -/
  depth : Nat
  /-- reach in ns; R348, R351 -/
  reach : Nat
  /-- bottleneck in flits per tick; R348, R351 -/
  rate : Nat
  combining : Nat
  deriving DecidableEq, Repr

/-- A partial sum at the root (R363, R364). -/
structure RootUnit where
  unit : Nat
  e : Nat
  lanes : List Int
  special : Bool
  deriving DecidableEq, Repr

/-- What a root has gathered of one tree of a step (R364, R366, R372). -/
structure TreeStep where
  /-- unit index up to which each root port has covered, (port, next unit); R359 -/
  cover : List (Nat × Nat) := []
  sums : List RootUnit := []
  /-- units already rounded and sent down are below this index -/
  sent : Nat := 0
  /-- sources of forwarded units, (unit, SRC), to find a broadcast conflict; R377 -/
  senders : List (Nat × Nat) := []
  /-- SUBEND counts by root port; R361 -/
  subends : List (Nat × Nat) := []
  dend : Bool := false
  /-- END by member with the low 32 bits of its tick; R361 -/
  ends : List (Nat × Nat) := []
  /-- members whose RECEIPT has arrived clear; R361 -/
  receipts : List Nat := []
  deriving DecidableEq, Repr

/-- A step of a group (R369 to R375). -/
structure GroupStep where
  step : Nat
  /-- instant of the open tick; R375 -/
  openAt : Nat
  t0 : TreeStep := {}
  t1 : TreeStep := {}
  /-- the twin has reported tree 1 complete and clear; R372 -/
  twinDone : Bool := false
  /-- this root has reported its tree 1 to the lead root; R372 -/
  reported : Bool := false
  /-- cause of a VOID to be decided at the next marker, 0 none; R372, R380 -/
  failed : Nat := 0
  /-- 0 undecided, 1 COMMIT, 2 VOID; R372 -/
  verdict : Nat := 0
  cause : Nat := 0
  /-- instant of the verdict tick V; R373 -/
  at_ : Nat := 0
  slowest : Nat := 0xFFFF
  lag : Nat := 0
  deriving DecidableEq, Repr

/-- One of the last 16 steps (R380), with the open instant for R378. -/
structure StepNote where
  step : Nat
  verdict : Nat
  cause : Nat
  slowest : Nat
  lag : Nat
  tick : Nat
  openAt : Nat
  endAt : Nat
  deriving DecidableEq, Repr

/-- Group states in the order of their codes (R349, R380). -/
inductive GroupState where
  | ready | rebuild | waiting | draining
  deriving DecidableEq, Repr

/-- A collective group (R344 to R349). -/
structure Group where
  /-- group ID; 16 bits; R344 -/
  id : Nat
  job : Nat
  op : Nat
  operator : Nat
  type : Nat
  stochastic : Bool
  /-- window W; R346 -/
  window : Nat
  voidLimit : Nat
  weight : Nat
  single : Bool
  /-- unit window Q in flits; R346 -/
  q : Nat
  /-- deadline D_s in ticks; R346 -/
  deadline : Nat
  ranges : List (Nat × Nat)
  /-- members; R347 -/
  n : Nat
  /-- lane width w; R357 -/
  w : Nat
  state : GroupState
  /-- created by a command whose tick has not come: its streams and contexts are reserved, and it is no group yet; R349 -/
  opening : Bool := false
  t0 : GroupTree
  t1 : Option GroupTree
  /-- flags of R348 -/
  flags : Nat
  steps : List GroupStep := []
  /-- last step launched; 32 bits; R380; reset 0xFFFFFFFF before the first, DESIGN CHOICE -/
  lastStep : Nat := 0xFFFFFFFF
  committed : Nat := 0
  voided : Nat := 0
  /-- VOIDs by cause 1 to 10; R380 -/
  voidBy : List Nat := [0, 0, 0, 0, 0, 0, 0, 0, 0, 0]
  saturations : Nat := 0
  lastPoison : Nat := 0xFFFF
  /-- VOIDs in a row; R376 -/
  voidRun : Nat := 0
  /-- causes of that run, oldest first; R376 -/
  causes : List Nat := []
  /-- switches named as poisoning in that run; R376 -/
  poisoners : List Nat := []
  /-- last 16 steps, newest first; R380 -/
  notes : List StepNote := []
  /-- instant at which a rebuild or a promotion's new trees take effect; R377 -/
  rebuildAt : Option Nat := none
  /-- trees of the rebuild under way, installed at `rebuildAt` -/
  newTrees : Option (GroupTree × Option GroupTree) := none
  deriving DecidableEq, Repr

/-- A tree 1 report to the lead root (R372), which the spec gives no layout. -/
structure TreeReport where
  dst : Nat
  group : Nat
  step : Nat
  deriving DecidableEq, Repr

/-- Twill (spec 10). -/
structure Twill where
  /-- groups, ascending ID; at most 2,048; R345; reset empty -/
  groups : List Group := []
  /-- base trees of the slices, ascending job; R351; reset empty -/
  bases : List BasePair := []
  /-- result, DEND and tally flits sent down by the roots, with their port, oldest first (the model's record of its output);
  R358, R361; reset empty -/
  sent : List (Nat × Flit) := []
  /-- tree reports sent to lead roots, oldest first (the model's record of its output); R372; reset empty -/
  reports : List TreeReport := []
  /-- VC2 flits that match no tree, counted as misrouted; R352; reset 0 -/
  misrouted : Nat := 0
  deriving DecidableEq, Repr

end Sys2Proof.Machine
end

