-- ==== Sys2Proof/Machine/MirrorTypes.lean ====
section
/-! DEFINITION. What a MIRROR_DELTA says (spec 19_twin_and_peers R650), the layout of whose data the spec does not give: one constructor
for each kind of mirrored state. -/

namespace Sys2Proof.Machine

open Sys2Proof

/-- A mirrored object, by the kinds of R650. -/
inductive MirrorItem where
  /-- no kind of R650: readings of counter block 3 for the twin's Buckram, 20 bytes each (R530, R541) -/
  | readings (l : List Bytes)
  /-- kind 1: the topology section of the bolt -/
  | section_ (x : TopoSection)
  /-- kind 2: the bank images of an agent -/
  | banks (x : BankImage)
  /-- kind 3: epoch state, staged solve ID and drain records -/
  | epoch (x : Epoch)
  /-- kind 4: pins and their conflict count -/
  | pins (l : List Pin) (conflicts : Nat)
  /-- kind 5: a slice, none when it is gone -/
  | slice (job : Nat) (x : Option Slice)
  /-- kind 5: target grants and retired serials -/
  | grants (l : List TargetGrant) (retired : List (Nat × Nat))
  /-- kind 6: a group, none when it is gone -/
  | group (id : Nat) (x : Option Group)
  /-- kind 6: a base tree pair -/
  | base (x : BasePair)
  /-- kind 6: a verdict decision -/
  | verdict (id : Nat) (x : GroupStep)
  /-- kind 7: a plan with its exchange, none when it is gone -/
  | plan (id : Nat) (x : Option Plan)
  /-- kind 8: the state of a generation, none when it is gone -/
  | generation (job gen : Nat) (x : Option GenTrack)
  /-- kind 9: a shelf account -/
  | shelf (h : Nat) (x : Shelf)
  /-- kind 9: a grant -/
  | grant (x : Grant)
  /-- kind 9: barrier schedules -/
  | barriers (l : List (Nat × Nat))
  /-- kind 10: the generation of a key that is in force -/
  | keyState (job kind generation : Nat)
  /-- kind 11: a timed action sent to an agent: destination, type, body and tick of effect -/
  | action (dst type : Nat) (body : Bytes) (tick : Nat)
  deriving DecidableEq, Repr

end Sys2Proof.Machine
end

