-- ==== Sys2Proof/Syntax.lean ====
section
/-! DEFINITION. The commands of the block: one constructor for each row of the opcode table, with the operands that the row's
rule names. A host opcode carries its packet; a message row its message; a link row its port and flit; any other event the
numbers that its rule says it has. -/

namespace Sys2Proof

open Sys2Proof.Machine

/-- The commands. -/
inductive Instr where
  /-- Returns the 128-byte identity result: ordering code, serial, identity digest, firmware and code identities, state
    and role (R706). -/
  | identify (p : Packet)
  /-- Returns the floor plan report: a header and one entry per unit with its status, cause and detail (R640). -/
  | floorplanGet (p : Packet)
  /-- Returns the device state, role, fencing token, recovery counter and lost-capacity block (R604). -/
  | stateGet (p : Packet)
  /-- Posts ST_OK, sends SEAL_NOTICE 2 ticks ahead, spills a partial event block and restarts bring-up at its effective
    tick (R628). -/
  | deviceReset (p : Packet)
  /-- Ends a held, queued or signature-held command of the named ring and tag whose effect has not begun (R117). -/
  | cmdCancel (p : Packet)
  /-- Completes with ST_OK at its executed tick and has no other effect (R120). -/
  | nop (p : Packet)
  /-- Sets the tick period and TICK_IN mode before machine start (R701). -/
  | tickConfig (p : Packet)
  /-- Starts the machine's tick counting; the tick master places marker 1 after 16 periods or on a TICK_IN edge (R702).
    -/
  | tickStart (p : Packet)
  /-- Returns the current tick, period, tick master, TICK_IN mode, lock, phase and tick counters (R703). -/
  | tickStatus (p : Packet)
  /-- Returns run-ahead discard and correction counts for a job or for all jobs (R704). -/
  | tickRunaheadGet (p : Packet)
  /-- Starts a FULL discovery walk or a REFRESH of link records for the bolt (R209). -/
  | discoverStart (p : Packet)
  /-- Returns discovery progress: level, nodes found, claimed, attested, links and items (R208). -/
  | discoverStatus (p : Packet)
  /-- Returns a part of the topology record of a bolt section as it stood at the last completed change (R208). -/
  | topologyGet (p : Packet)
  /-- Walks, claims and numbers a newly cabled rack, optionally moving it from another bolt, and commits a new epoch
    (R237). -/
  | rackAbsorb (p : Packet)
  /-- Starts a full training of the named port under a current grant (R129). -/
  | linkRetrain (p : Packet)
  /-- Sets the shelf and rack ID of the nodes in each address range at its effective tick (R235). -/
  | shelfAssign (p : Packet)
  /-- Requests a FULL or DEST solve of routes and trees through the coordinator (R273). -/
  | routeSolve (p : Packet)
  /-- Has every bolt primary write a completed solve result into the FREE banks of its agents (R286). -/
  | routeStage (p : Packet)
  /-- Sends EPOCH_COMMIT so that every agent activates the staged bank at the commit tick (R290). -/
  | routeCommit (p : Packet)
  /-- Creates a pin bounding the ports of a node's entries for a destination range (R304). -/
  | routePin (p : Packet)
  /-- Removes a pin, in force from the commit of the next epoch solved after its effective tick (R305). -/
  | routeUnpin (p : Packet)
  /-- Returns the epoch state, drain records and pin conflict counts (R308). -/
  | routeStatus (p : Packet)
  /-- Computes and stages failover delta sets for chosen or automatically scored failures (R275). -/
  | failoverPrepare (p : Packet)
  /-- Admits a slice description, solves, stages, installs target entries and keys, and commits the slice (R313). -/
  | sliceCreate (p : Packet)
  /-- Replaces a slice description, adding and removing members at one commit tick (R315). -/
  | sliceModify (p : Packet)
  /-- Puts a slice in DRAINING and removes its targets, shares and keys once its streams close (R316). -/
  | sliceDestroy (p : Packet)
  /-- Returns the slice description, runs and shortfall items, or the retired list for job 0 (R318). -/
  | sliceGet (p : Packet)
  /-- Applies master entries and target grants together at its effective tick (R326). -/
  | accessSet (p : Packet)
  /-- Returns master entries and the target grants of a job (R709). -/
  | accessGet (p : Packet)
  /-- Moves a member's LEN to a spare in one epoch commit and retires the replaced unit (R334). -/
  | sparePromote (p : Packet)
  /-- Creates a collective group cut from the base trees and installs its tree entries (R346). -/
  | groupCreate (p : Packet)
  /-- Removes a group's tree entries, root contexts and streams at its effective tick (R350). -/
  | groupDestroy (p : Packet)
  /-- Returns a group's step, verdict and VOID-cause counts and its last 16 steps (R380). -/
  | groupStatus (p : Packet)
  /-- Creates an exchange plan and allocates its data and count streams (R381). -/
  | planCreate (p : Packet)
  /-- Closes a plan's streams and releases its counts at its effective tick (R385). -/
  | planDestroy (p : Packet)
  /-- Returns a plan's exchange state and its counters of rounds, failures and misses (R412). -/
  | planStatus (p : Packet)
  /-- Obtains a table ID, creates a shard on every Geneel of the shard set and allocates its streams (R425). -/
  | tableCreate (p : Packet)
  /-- Closes a table's streams and frees its pages, windows and cache lines (R428). -/
  | tableDestroy (p : Packet)
  /-- Loads the owned rows of a table from a host buffer or a restart generation (R429). -/
  | tableLoad (p : Packet)
  /-- Returns the records or initial values of named rows (R430). -/
  | tableRead (p : Packet)
  /-- Changes a table's hyperparameters and flags at step 6 of its effective tick (R427). -/
  | tableConfig (p : Packet)
  /-- Returns the occupancy and counters of the addressed Geneel's shard (R431). -/
  | tableStatus (p : Packet)
  /-- Streams a table's rows as of the snapshot tick into an open generation (R452). -/
  | tableSnapshot (p : Packet)
  /-- Sets the carve value between table and restart regions at a named tick (R38). -/
  | storeCarve (p : Packet)
  /-- Sets MIRROR or SPLIT placement and the SPILL flag while no generation is held (R470). -/
  | storeMode (p : Packet)
  /-- Opens the next checkpoint generation and reserves space at every holder (R458). -/
  | generationOpen (p : Packet)
  /-- Returns the state and shard counts of one or both generations of a job (R485). -/
  | generationStatus (p : Packet)
  /-- Has the holders serve the shards of a committed generation to the named members (R477). -/
  | restoreStart (p : Packet)
  /-- Drops a generation, freeing its slot or putting it in CLEARING (R481). -/
  | generationDrop (p : Packet)
  /-- Sets the preferred operating point and floor of each phase (R495). -/
  | oppointSet (p : Packet)
  /-- Returns operating points, sensors, guard band, counters, disabled units and shelf accounts (R519). -/
  | powerStatus (p : Packet)
  /-- Sets shelf budgets, release fractions and voltages for releases from its effective tick (R506). -/
  | shelfBudgetSet (p : Packet)
  /-- Puts a unit in DRAINING and completes when it reaches OFF (R489). -/
  | unitDisable (p : Packet)
  /-- Makes an OFF unit ACTIVE, powering and testing its domain if needed (R490). -/
  | unitEnable (p : Packet)
  /-- Declares the current steps of members per action kind for later bookings (R511). -/
  | currentDeclare (p : Packet)
  /-- Forwards a METROLOGY-signed parameter change to Buckram and completes once it is audited (R538). -/
  | mtrParamSet (p : Packet)
  /-- Queries Buckram for signed batches and copies them into the result (R544). -/
  | mtrBatchGet (p : Packet)
  /-- Queries Buckram for the signed job statements of the header job (R544). -/
  | mtrJobEnergyGet (p : Packet)
  /-- Queries Buckram for entries of its parameter audit trail (R544). -/
  | mtrAuditGet (p : Packet)
  /-- Queries Buckram for its code identity, serial, key and certificate (R544). -/
  | mtrIdentityGet (p : Packet)
  /-- Returns a signed attestation report with optional job, log and certificate sections (R584). -/
  | attestGet (p : Packet)
  /-- Enrols or replaces the OPERATOR and CUSTODIAN keys in the policy record (R567). -/
  | enrol (p : Packet)
  /-- Replaces the key policy, refusing agents whose measurement is no longer accepted (R572). -/
  | keyPolicySet (p : Packet)
  /-- Replaces the minimum firmware version and revoked digests (R558). -/
  | fwPolicySet (p : Packet)
  /-- Reads an image into the slot that is not running and verifies it (R558). -/
  | fwStage (p : Packet)
  /-- Names a verified slot as the boot slot from the next reset (R558). -/
  | fwActivate (p : Packet)
  /-- Returns a fresh debug nonce and the identity digest (R589). -/
  | debugChallenge (p : Packet)
  /-- Opens a debug session of the signed scope until reset when no tenant key is held (R590). -/
  | debugUnlock (p : Packet)
  /-- Clears security log records up to an index and appends a record of the clearing (R588). -/
  | seclogClear (p : Packet)
  /-- Rotates a job's link or memory key generation at a named tick (R579). -/
  | keyRotate (p : Packet)
  /-- Returns the change counter and the held co-sign commands (R707). -/
  | cosignStateGet (p : Packet)
  /-- Ends the co-sign hold that carries the named digest (R708). -/
  | cosignWithdraw (p : Packet)
  /-- Returns event records filtered by severity and by the caller's job (R619). -/
  | eventViewGet (p : Packet)
  /-- Clears event records below an index and appends a clearing record (R620). -/
  | eventClear (p : Packet)
  /-- Sets fault severities per source range and code, and the quiet period Q (R621). -/
  | severitySet (p : Packet)
  /-- Ends the fence of a unit, port or agent after any required self-test (R605). -/
  | unfence (p : Packet)
  /-- Clears LATCHED and the recovery history so that the device can leave FAULT (R609). -/
  | faultRelease (p : Packet)
  /-- Returns the fault summary, fence entries and per-source counts (R622). -/
  | faultSummaryGet (p : Packet)
  /-- Sets the Geneel's role and fencing token at step 10 of its effective tick (R644). -/
  | roleAssign (p : Packet)
  /-- Returns the roles, tokens, mirror state and heartbeat of the twin pair (R664). -/
  | twinStatus (p : Packet)
  /-- Sets the peer list and establishes peer sessions (R659). -/
  | peerListSet (p : Packet)
  /-- Returns each peer's state, role, tiles, last hello and token (R665). -/
  | peerStatus (p : Packet)
  /-- Makes a SECONDARY take over as PRIMARY at its effective tick with the given token (R656). -/
  | takeover (p : Packet)
  /-- Returns stream table entries visible to the caller (R29). -/
  | streamRead (p : Packet)
  /-- Returns a counter set filtered to the caller's job or rights (R338). -/
  | countersGet (p : Packet)
  /-- Reads an agent's counter block with COUNTERS_READ and returns it (R338). -/
  | agentCountersRead (p : Packet)
  /-- Returns its parameters echoed (R120). -/
  | loopback (p : Packet)
  /-- A PCIe configuration request is answered, with Retry Status until STAGE2 ends (R82). -/
  | configRequest (port : Nat)
  /-- A write of the submission doorbell count makes packets fetchable or puts the ring in ERROR (R86). -/
  | sqDoorbellWrite (port ring count : Nat)
  /-- A write of the completion doorbell frees consumed records or puts the ring in ERROR (R90). -/
  | cqDoorbellWrite (port ring count : Nat)
  /-- A write of ENABLE = 1 checks bases and sizes and makes the ring pair ACTIVE or sets CFG_ERR (R672). -/
  | ringEnable (port ring ctrl : Nat)
  /-- A write of ENABLE = 0 stops fetching and sets STOPPING (R672). -/
  | ringDisable (port ring ctrl : Nat)
  /-- At the first marker with no outstanding command a stopping ring becomes DISABLED (R672). -/
  | ringStopComplete (port ring : Nat)
  /-- A write of EVT.CUR.INDEX takes a snapshot of that event record (R618). -/
  | evtCurIndexWrite (port index : Nat)
  /-- A write of 1 to EVT.CUR.ADV advances the index by one and takes a snapshot (R618). -/
  | evtCurAdvWrite (port : Nat)
  /-- A PENDING snapshot read from flash becomes VALID within 2 ticks (R618). -/
  | eventSnapshotReady (port : Nat)
  /-- A W1C write clears interrupt cause bits and re-requests vector 64 if an unmasked cause stays set (R677). -/
  | intCauseClear (port causes : Nat)
  /-- A write of INT.MASK masks causes and requests vector 64 if an unmasked cause is set (R677). -/
  | intMaskWrite (port mask : Nat)
  /-- A 4-byte write of the lower half of an RW quadword is held until the upper half is written (R668). -/
  | rwQuadwordHalfWrite (port offset value : Nat)
  /-- A 4-byte read of a lower half latches the upper half for the function (R668). -/
  | quadwordLowReadLatch (port offset size : Nat)
  /-- A write to any other BAR0 field takes effect as its access code states or is ignored (R667). -/
  | registerWrite (port offset size value : Nat)
  /-- COAL_US after the first unsignalled record the ring's vector is requested (R676). -/
  | coalesceTimerExpire (port ring : Nat)
  /-- The Geneel fetches a packet covered by the doorbell and runs the acceptance checks (R106). -/
  | packetFetch (port ring : Nat) (packet : Packet) (bad : Bool)
  /-- A hold not completed by its expiry tick ends with ST_TIMEOUT (R105). -/
  | cosignHoldExpire (digest : Bytes)
  /-- A command queued behind a drain executes at the first tick after the drain ends (R116). -/
  | queuedCommandRelease (id : Nat)
  /-- A queued command whose drain has not ended 60 s after acceptance completes with ST_TIMEOUT (R116). -/
  | queuedCommandTimeout (id : Nat)
  /-- Queued orphan records are written to ring 0 when free records appear (R94). -/
  | orphanQueueDrain (port : Nat)
  /-- A rise of PWR_GOOD starts bring-up in BOOT and starts Buckram (R623). -/
  | pwrGoodRise (straps : Nat)
  /-- A fall of PWR_GOOD puts the device in OFF at once and clears a thermal trip (R692). -/
  | pwrGoodFall
  /-- RESET_N held low releases the firmware flash pins to the programming path (R694). -/
  | resetNAssert (programmed : List (Nat × Bytes))
  /-- Release of RESET_N after at least 1 ms low starts a bring-up unless a thermal trip holds (R694). -/
  | resetNRelease (us : Nat)
  /-- A port's PERST input disables its rings and sends their final records to the other port (R675). -/
  | perstAssert (port : Nat)
  /-- Release of PERST resets the port's ring registers and lets its PHY train (R635). -/
  | perstRelease (port : Nat)
  /-- BOOT ends after the clock check and strap sampling and STAGE1 begins (R624). -/
  | bootComplete (clockOk selvedgeOk : Bool) (copies : Nat)
  /-- STAGE1 ends and STAGE2 powers the mesh and host ports and tests them (R624). -/
  | stage1Complete
  /-- STAGE2 ends, BAR0 becomes readable, and STAGE3 trains and tests memory (R624). -/
  | stage2Complete
  /-- STAGE3 ends, fencing unfinished stacks, and STAGE4 tests and trains the fabric ports (R638). -/
  | stage3Complete
  /-- STAGE4 ends and STAGE5 powers and tests the remaining units (R639). -/
  | stage4Complete
  /-- STAGE5 ends with the floor plan built and the device READY (R626). -/
  | stage5Complete
  /-- A domain power-up or port training starts at the tick its rail-budget booking returns (R504). -/
  | railBookingStart (what : Nat)
  /-- A unit's self-test passes or fails, making it ACTIVE or fencing it (R637). -/
  | selfTestComplete (kind idx : Nat) (passed : Bool) (detail : Nat) (rows : List DefectRow)
  /-- Before its first marker a Geneel counts a local instant every 16 µs in place of a tick (R700). -/
  | localInstant
  /-- At each marker, emitted or received, the Geneel applies the switch actions due in the order of R64 (R64). -/
  | tickMarker (m : Option Msg)
  /-- The tick master emits marker 1 after its wait or on a TICK_IN edge (R702). -/
  | markerOneEmit (at_ : StartMoment)
  /-- No marker has arrived P/4 after the local tick instant and a miss is counted (R51). -/
  | markerMissed
  /-- After the master misses 2 markers the next candidate emits the next marker (R51). -/
  | backupMarkerEmit
  /-- A lower-ID Geneel healthy for 1 s takes back mastership after a 16-tick announcement (R53). -/
  | mastershipReturn (id : Nat)
  /-- A TICK_IN edge is time-stamped and steers or phases the tick generator (R54). -/
  | tickInEdge (ns : Int)
  /-- No TICK_IN edge within 2 intervals puts the master in holdover (R57). -/
  | tickInHoldover
  /-- At each marker with T mod N = 0 MTR_STROBE pulses, BOUNDARY is sent and block 3 counters are read (R528). -/
  | boundaryStrobe
  /-- At every marker that is a multiple of 4,096 one job notice per job is published (R339). -/
  | jobNoticePublish
  /-- Every 64 ticks the Geneel sends PEER_HELLO to every listed peer (R660). -/
  | peerHelloSend
  /-- Once PLL lock and ramp are done and droop is clear, the clock switches at a marker (R496). -/
  | oppointSwitch
  /-- A droop sensor below nominal + 5 mV makes the stretcher double the clock period (R498). -/
  | droopFlagSet
  /-- All droop sensors at nominal + 10 mV clear the droop flag and stop stretching (R497). -/
  | droopFlagClear
  /-- Stretching above 1 % for 4 ticks lowers the operating point one step (R498). -/
  | droopLowering
  /-- Each tick the thermal sensors are read and out-of-range sensors fenced (R501). -/
  | thermalSample (temps : List Int)
  /-- At 105 °C or more the point is lowered one step every 16th marker (R503). -/
  | thermalLowering
  /-- After 100 ms at or below 100 °C the point or crossbar rate is raised one step (R503). -/
  | thermalRecoveryRaise
  /-- A 115 °C comparator stops clocks, asserts THERM_TRIP_N and raises an S5 fault (R502). -/
  | thermComparatorTrip (sensor : Nat)
  /-- A 1 s power average above 835 W lowers the operating point one step (R505). -/
  | tdpLimitLowering (average logic : Nat)
  /-- After 100 ms with the average below 800 W the point may be raised again (R505). -/
  | tdpRecoveryRaise (average logic : Nat)
  /-- Every 3,600 operating seconds the ageing oscillators are measured and the guard band set (R500). -/
  | ageingMeasure (slowdown : Int) (refsReadable : Bool)
  /-- Every 64 s the operating seconds are written to the event header blocks (R616). -/
  | opsecWrite
  /-- Far-end signal on a DOWN port starts training (R124). -/
  | farEndSignalDetect (r : PortRef)
  /-- A training attempt runs equalisation, lane test, width selection and handshake (R125). -/
  | linkTrainingStart (r : PortRef) (good : LanesFound) (reversed : Bool) (polarity : Nat)
  /-- A training step past its limit fails the attempt, retrying or fencing the port (R125). -/
  | trainingStepTimeout (r : PortRef)
  /-- Both HELLOs are accepted and the port goes UP with the far end's identity recorded (R145). -/
  | trainingHandshakeDone (r : PortRef) (t1 : Nat)
  /-- During step 7 HELLO is sent again each microsecond (R145). -/
  | helloRepeat (r : PortRef)
  /-- Uncorrectable bursts, 8 replays or lock loss put an UP port in RETRAIN or fence it (R135). -/
  | retrainTrigger (r : RetrainSign)
  /-- A retrain succeeds within 20 ms and the port returns UP keeping link state (R128). -/
  | retrainComplete (r : PortRef)
  /-- A retrain that fails or passes 20 ms falls to TRAINING, discarding link state (R124). -/
  | retrainTimeout (r : PortRef)
  /-- A sequenced flit is accepted in LSEQ order, decrypted, credited and counted, or discarded (R136). -/
  | dataFlitReceive (r : PortRef) (f : Flit) (cw : Codewords)
  /-- A retry request makes the transmitter replay from the named LSEQ (R136). -/
  | retryRequestReceive (r : PortRef) (lseq : Nat) (f : BareFlit)
  /-- An idle flit's LACK frees the retry buffer (R139). -/
  | idleFlitReceive (r : PortRef) (f : BareFlit)
  /-- 2 µs after a retry request another may be sent for the same LSEQ (R136). -/
  | retryHoldoffExpire (r : PortRef)
  /-- No LACK progress for 4 µs replays from the oldest unacknowledged flit (R137). -/
  | lackStallReplay (r : PortRef)
  /-- An output port chooses its next flit by VC priority, deficit round robin and credits (R152). -/
  | outputFlitSelect (now : SendMoment)
  /-- A CREDIT link control flit adds returned credits (R144). -/
  | linkCreditReceive (r : PortRef) (f : Flit) (cw : Codewords)
  /-- A HELLO link control flit is accepted in training or ignored on an UP port (R145). -/
  | linkHelloReceive (r : PortRef) (f : Flit) (cw : Codewords)
  /-- The far end stamps t2, sends TS_RSP and then TS_FOLLOW with t3 (R146). -/
  | tsReqReceive (r : PortRef) (f : Flit) (cw : Codewords) (t2 t3 : Nat)
  /-- The measuring end stamps t4 on arrival of TS_RSP (R146). -/
  | tsRspReceive (r : PortRef) (f : Flit) (cw : Codewords) (t4 : Nat)
  /-- TS_FOLLOW completes one delay exchange (R146). -/
  | tsFollowReceive (r : PortRef) (f : Flit) (cw : Codewords)
  /-- An exchange without TS_FOLLOW 64 µs after its TS_REQ is discarded (R146). -/
  | tsExchangeDiscard (r : PortRef) (k : Nat)
  /-- After 64 exchanges the minimum delay is recorded (R131). -/
  | delayMeasurementDone (r : PortRef)
  /-- The far end's SESSION flit sets the receive session number and count (R148). -/
  | linkSessionFlitReceive (r : PortRef) (f : Flit) (cw : Codewords)
  /-- A port's encrypted count reaches 2^47 and a new session number is requested (R142). -/
  | sessionCountNear (r : PortRef)
  /-- An agent reset clears tables, keys and high token and enters RESET (R201). -/
  | agentReset
  /-- An agent places its tick instant from a TICK, forwards it and applies its timed actions (R60). -/
  | agentTickReceive (m : Msg) (port arrival residence : Nat)
  /-- An agent that misses a marker generates its tick by flywheel (R62). -/
  | agentFlywheelTick
  /-- After 16 flywheel ticks the agent declares tick loss and quiesces (R63). -/
  | agentTickLoss
  /-- PROBE op 0 is answered with IDENT (R174). -/
  | agentProbeIdentify (m : Msg)
  /-- CLAIM sets the owner bolt and raises the high token (R172). -/
  | agentProbeClaim (m : Msg)
  /-- CERT delivers the Geneel chain and the agent replies with its certificate or evidence (R570). -/
  | agentProbeCert (m : Msg)
  /-- SESSION is checked and the agent session key derived, making the agent ATTESTED (R176). -/
  | agentProbeSession (m : Msg)
  /-- A switch forwards a flit by source route, tree entry or the bank its EPB selects (R293). -/
  | switchFlitForward (inPort : Nat)
  /-- LINKSTATE is answered with port records (R175). -/
  | agentLinkstateRequest (m : Msg)
  /-- TABLE_WRITE writes entries into a FREE bank or standby table (R180). -/
  | agentTableWrite (m : Msg)
  /-- TABLE_COMMIT ACTIVATE is checked by CRC and reserves its bank for the named tick (R185). -/
  | agentCommitActivate (m : Msg)
  /-- TABLE_COMMIT RETIRE schedules the OLD bank's release (R183). -/
  | agentCommitRetire (m : Msg)
  /-- TABLE_COMMIT FAILOVER schedules a delta set whose epoch tag matches (R186). -/
  | agentCommitFailover (m : Msg)
  /-- TABLE_COMMIT CLEAR_STANDBY schedules the emptying of bank S (R183). -/
  | agentCommitClearStandby (m : Msg)
  /-- TABLE_COMMIT TARGET_SWAP is checked by CRC and scheduled (R184). -/
  | agentCommitTargetSwap (m : Msg)
  /-- COUNTERS_READ returns counters latched at the last marker (R197). -/
  | agentCountersRequest (m : Msg)
  /-- TREE_SET installs or removes a tree entry within the combining store (R190). -/
  | agentTreeSet (m : Msg)
  /-- CARDS delivers one round of a transfer list, ignoring duplicates (R191). -/
  | agentCards (m : Msg)
  /-- KEY_INSTALL unwraps a key into a slot (R192). -/
  | agentKeyInstall (m : Msg)
  /-- KEY_SWITCH schedules a transmit slot change (R193). -/
  | agentKeySwitch (m : Msg)
  /-- KEY_ERASE schedules the erasure of a slot (R193). -/
  | agentKeyErase (m : Msg)
  /-- CURRENT_GRANT installs or renews a grant with offset and expiry (R195). -/
  | agentCurrentGrant (m : Msg)
  /-- RELEASE names the base tick of a granted action (R196). -/
  | agentRelease (m : Msg)
  /-- LINK_SESSION delivers a port's session number, applied at once or at a tick (R194). -/
  | agentLinkSession (m : Msg)
  /-- A VERDICT is forwarded down the tree and settles a member's step (R374). -/
  | agentVerdict (m : Msg)
  /-- An acknowledgement ends the repetition of a FAULT_REPORT (R198). -/
  | agentFaultReportAck (m : Msg)
  /-- An unacknowledged FAULT_REPORT is sent again every 4 ticks, up to 8 sends (R198). -/
  | faultReportRepeat
  /-- A message incomplete 4 ticks after its first segment is discarded (R162). -/
  | segmentReassemblyExpire
  /-- A deferred tree removal or key erase takes effect once the flits have left (R190). -/
  | deferredActionComplete
  /-- A standing grant unused for 64 ticks becomes cold (R514). -/
  | agentGrantCold
  /-- A switch combines, forwards or checks a Twill record or tally (R363). -/
  | switchTwillRecord (port : Nat) (f : Flit)
  /-- A member checks result records and sends RECEIPT after DEND (R370). -/
  | memberResultReceive (f : Flit) (own : MemberUnits)
  /-- A kind 3 flit writes the member's plan area (R389). -/
  | agentPlanAreaWrite (f : Flit) (item countStream rank : Nat)
  /-- An exchange data flit lands at its offset or is discarded (R390). -/
  | agentExchangeData (port : Nat) (f : Flit) (item countStream rank : Nat)
  /-- The Geneel receives an IDENT and numbers or records the node (R212). -/
  | identReceive (m : Msg)
  /-- An unsolicited LINKSTATE updates link records and may trigger failover (R175). -/
  | linkstateReceive (m : Msg)
  /-- At the marker after a LINKSTATE the record and its generation change (R226). -/
  | topologyRecordChange
  /-- An agent FAULT_REPORT is acknowledged and classified (R594). -/
  | faultReportReceive (m : Msg)
  /-- A reply with its agent status is matched to the pending message (R164). -/
  | agentReplyReceive (m : Msg)
  /-- No reply by the 2-tick deadline makes the Geneel resend once (R118). -/
  | agentReplyResend (msgid : Nat)
  /-- No reply 2 ticks after the resend ends the command with ST_TIMEOUT (R118). -/
  | agentReplyTimeout (msgid : Nat)
  /-- Each level of the walk advances 4 ticks after the previous one (R213). -/
  | discoveryLevelStep
  /-- A peer's section delta is applied whole, in generation order (R233). -/
  | topologyDeltaReceive (src : Nat) (d : SectionDelta)
  /-- The coordinator receives a solve request and calls or queues it (R264). -/
  | solveReqReceive (m : Msg)
  /-- When a solve ends, queued requests merge and start (R272). -/
  | queuedSolveStart
  /-- A solver freezes a solve copy at the call tick and sends SOLVE_VECTOR (R265). -/
  | solveCallReceive (m : Msg)
  /-- The coordinator gathers vectors and sends SOLVE_GO with the agreed vector (R265). -/
  | solveVectorReceive (m : Msg)
  /-- A solver computes its share of batches from the agreed snapshot (R267). -/
  | solveGoReceive (m : Msg)
  /-- A batch finishes on the tiles and its entries are sent as SHARE_DATA (R259). -/
  | solveBatchComplete
  /-- Bolt Geneels place and check received entries (R269). -/
  | shareDataReceive (m : Msg)
  /-- A share not complete in time is moved to another solver (R270). -/
  | shareDataTimeout (share : Nat)
  /-- A share is reassigned to a new solver (R269). -/
  | shareMoveReceive (m : Msg)
  /-- Bolt results are gathered until the solve is complete (R271). -/
  | solveDoneReceive (m : Msg)
  /-- A solve is abandoned and partial results discarded (R272). -/
  | solveAbortReceive (m : Msg)
  /-- A primary writes its bolt's image into FREE banks (R286). -/
  | epochStageReceive (m : Msg)
  /-- The requester gathers staging reports until the machine is STAGED (R288). -/
  | epochStagedReceive (m : Msg)
  /-- A primary sends ACTIVATE to its agents for the commit tick (R290). -/
  | epochCommitReceive (m : Msg)
  /-- The requester receives a bolt's commit outcome and stranded count (R287). -/
  | epochDoneReceive (m : Msg)
  /-- A waiting slice change begins staging once the epoch is STABLE (R314). -/
  | sliceChangeStagingStart
  /-- A slice change not staged 60 s after acceptance ends with ST_TIMEOUT (R314). -/
  | sliceChangeTimeout (job : Nat)
  /-- A draining stream reaching CLOSED with nothing outstanding is released (R32). -/
  | streamRelease (id : Nat)
  /-- After the last stream closes the slice's targets, shares and keys are removed (R316). -/
  | sliceDrainEnd (job : Nat)
  /-- A root port adder checks and the root pipeline adds, rounds and sends down a unit (R364). -/
  | twillUpRecordReceive (port : Nat) (f : Flit)
  /-- A root receives END, RECEIPT or SUBEND tallies of a step (R361). -/
  | twillTallyReceive (port : Nat) (f : Flit)
  /-- When every tally and receipt has arrived clear the lead root decides COMMIT (R372). -/
  | twillCommitDecide (group step ns : Nat)
  /-- A step undecided at open tick plus D_s is VOID with cause 1 (R375). -/
  | twillStepDeadline (group step : Nat)
  /-- Count flits fill the count store and receive lists are written (R394). -/
  | countFlitReceive (f : Flit)
  /-- At the counts-complete tick the exchange is checked and planning starts (R395). -/
  | countsComplete (plan : Nat)
  /-- Counts incomplete D_c ticks after the first fail the exchange with cause 1 (R395). -/
  | countDeadline (plan : Nat)
  /-- A pass plans one round's cards, slipping the rounds if they are late (R397). -/
  | planningPass (plan : Nat)
  /-- 4 ticks after the last round unreported members are set to CHECK (R407). -/
  | exchangeCheckStart (plan : Nat)
  /-- A member silent 2 ticks after CHECK counts as short from every source (R407). -/
  | memberReportTimeout (plan rank : Nat)
  /-- A destination's report marks it complete or lists short pairs (R407). -/
  | reportFlitReceive (f : Flit)
  /-- Receive lists written, landed or failed status is gathered, leading to DONE or FAILED (R409). -/
  | xchgReadyReceive (m : Msg)
  /-- The source planner re-plans short pairs into follow-up rounds (R408). -/
  | xchgRepairReceive (m : Msg)
  /-- A VC5 request is checked, deduplicated and split into engine sub-requests (R436). -/
  | tableRequestReceive (f : Flit)
  /-- A lookup on a STRICT table starts after step 6 of the next marker (R447). -/
  | strictLookupRelease
  /-- An engine stalled for coalescing space resumes when lines are freed (R442). -/
  | coalescingStallResume (slot : Nat)
  /-- The background sweep re-encrypts an old-generation page (R449). -/
  | keySweepPage (part obj area : Nat)
  /-- A shard Geneel performs a create, config, destroy, snapshot or load op (R425). -/
  | tableShardReceive (m : Msg)
  /-- The requester gathers shard answers and completes the command (R425). -/
  | tableShardDoneReceive (m : Msg)
  /-- A shard Geneel silent for 8 ticks ends the command with ST_TIMEOUT (R425). -/
  | tableShardTimeout (cmd : Nat)
  /-- A DATA flit is stored and its lines marked covered (R464). -/
  | checkpointDataReceive (n : Node) (f : Flit)
  /-- An END makes the holder wait for coverage and then digest the shard (R465). -/
  | checkpointEndReceive (n : Node) (f : Flit)
  /-- A digested shard is answered with GAP ACCEPTED or MISMATCH (R465). -/
  | shardDigestComplete (job gen owner : Nat)
  /-- Every 8 ticks missing ranges are listed again in a GAP (R465). -/
  | gapResendTimer (job gen owner : Nat)
  /-- A GAP from a member or target accepts a shard or asks for lines again (R478). -/
  | gapReceive (f : Flit)
  /-- A holder serves the lines named in a PULL followed by REND (R479). -/
  | pullReceive (n : Node) (f : Flit)
  /-- A parity holder XORs a page in and returns PACK (R474). -/
  | parReceive (f : Flit)
  /-- A page becomes in parity or is freed from clearing (R474). -/
  | packReceive (f : Flit)
  /-- At the first marker with every shard checked the generation is COMMITTED (R468). -/
  | generationCommit (job gen : Nat)
  /-- A generation not committed D_g ticks after opening fails with cause 1 (R469). -/
  | generationDeadline (job gen : Nat)
  /-- A CLEARING slot becomes FREE and a waiting GENERATION_OPEN proceeds (R475). -/
  | clearingComplete (job gen : Nat)
  /-- After a commit with SPILL set the shards are written to the storage target (R482). -/
  | spillAfterCommit (job gen : Nat)
  /-- A holder opens, commits, fails, drops or restores a generation (R468). -/
  | genCtlReceive (m : Msg)
  /-- The requester gathers holder reports of checked shards (R468). -/
  | genReportReceive (m : Msg)
  /-- A draining unit reaches OFF and UNIT_DISABLE completes (R489). -/
  | unitDrainComplete (kind idx : Nat)
  /-- A drain not ended in 60 s returns the unit to ACTIVE with ST_TIMEOUT (R489). -/
  | unitDrainTimeout (kind idx : Nat)
  /-- Counter readings around a release yield a measured current step sample (R510). -/
  | currentStepSample (addr kind e0 e1 e2 e3 : Nat)
  /-- 16 ticks before expiry a standing grant is renewed (R514). -/
  | grantWarmRenew (addr kind action : Nat)
  /-- A fault is classified by severity, recorded and its action scheduled (R598). -/
  | faultDetect (source code key job : Nat) (detail : Bytes) (handling : Option Nat) (poison : PoisonLine)
  /-- A unit unresponsive for 64 ticks raises code 0x0005 (R596). -/
  | unitWatchdogExpire (kind idx : Nat)
  /-- A FENCING unit becomes FENCED once its work is discarded or moved (R603). -/
  | fencingComplete (kind idx : Nat)
  /-- At t + Q the device leaves FAULT automatically, or latches on the ninth recovery (R607). -/
  | faultQuietEnd
  /-- A full event block spills to flash 62,500 ticks after its newest record (R616). -/
  | eventBlockSpill (failures : Nat)
  /-- A failed block spill is retried every 62,500 ticks (R617). -/
  | eventSpillRetry (failures : Nat)
  /-- A PRIMARY refused for a stale token becomes SECONDARY at the next marker (R647). -/
  | deposition
  /-- The SECONDARY acknowledges a delta or requests resync on a gap (R651). -/
  | mirrorDeltaReceive (m : Msg) (item : Option MirrorItem)
  /-- An acknowledgement lets the PRIMARY act on mirrored state (R651). -/
  | mirrorAckReceive (m : Msg)
  /-- A delta unacknowledged for 4 µs is resent on the other M port (R652). -/
  | mirrorAckResend (seq : Nat)
  /-- A delta unacknowledged for 1 tick sets mirror state SINGLE (R652). -/
  | mirrorSingleTimeout
  /-- A twin heartbeat updates its role and token as last heard (R654). -/
  | heartbeatReceive (m : Msg)
  /-- A twin's HALT_NOTICE arms takeover at the next marker (R655). -/
  | haltNoticeReceive (m : Msg)
  /-- The PRIMARY snapshots its image and sends it as RESYNC_DATA (R653). -/
  | resyncReqReceive (m : Msg)
  /-- The SECONDARY stores image bytes until the image is complete (R653). -/
  | resyncDataReceive (m : Msg) (items : List MirrorItem)
  /-- A SECONDARY whose PRIMARY is silent or halted takes over and claims the bolt (R657). -/
  | automaticTakeover
  /-- A peer's hello updates its presence, role and digest (R660). -/
  | peerHelloReceive (m : Msg)
  /-- A peer silent for 256 ticks is treated as not healthy (R661). -/
  | peerAbsent (id : Nat)
  /-- The higher ID answers a peer session offer and sends its encapsulation key (R574). -/
  | peerSessionOffer (m : Msg)
  /-- The lower ID receives the answer to its offer (R574). -/
  | peerSessionAnswer (m : Msg)
  /-- The lower ID checks the peer and sends the ciphertext, deriving the session key (R575). -/
  | peerSessionKey (m : Msg)
  /-- The higher ID decapsulates and derives the peer session key (R575). -/
  | peerSessionCiphertext (m : Msg)
  /-- A wrapped job key from the key owner is installed (R575). -/
  | keyXferReceive (m : Msg)
  /-- The key owner gathers key states from serving Geneels (R581). -/
  | keyStateReceive (m : Msg)
  /-- A serving Geneel switches or erases a key generation at the named tick (R581). -/
  | keyOrderReceive (m : Msg)
  /-- An expired key lifetime starts a rotation automatically (R579). -/
  | keyLifetimeExpire (job kind : Nat)
  /-- With REATTEST set every attested agent is attested again at the interval (R572). -/
  | reattestInterval
  /-- A debug nonce expires after 60 s (R589). -/
  | debugNonceExpire
  /-- Every 1 ms Buckram sends SYNC and runs a meter bus cycle (R525). -/
  | meterBusCycle
  /-- A meter's short report extends the held shelf register (R527). -/
  | shortReportReceive (shelf : Nat) (frame : Bytes)
  /-- An extended report checks the meter ID and register, suspending on mismatch (R527). -/
  | extendedReportReceive (frame : Bytes)
  /-- A meter without a valid report for 1,000 cycles is flagged SILENT (R527). -/
  | meterSilent (shelf : Nat)
  /-- Buckram accepts or ignores a boundary strobe, closing the window (R528). -/
  | mtrStrobeReceive (us : Nat)
  /-- No strobe 64 s after opening closes the window flagged NOTICK (R528). -/
  | windowSelfClose
  /-- 5 ms after the strobe the window is sealed and apportioned (R530). -/
  | windowSeal
  /-- Buckram takes a BOUNDARY message with the tick number (R541). -/
  | mboxBoundary
  /-- Buckram takes counter readings and charges slot energy to jobs (R530). -/
  | mboxCounts
  /-- Buckram assembles and checks a parameter change packet (R538). -/
  | mboxParam
  /-- Buckram answers one segment of a query in its response area (R543). -/
  | mboxQuery
  /-- A SEAL_NOTICE seals a SHORT batch before a reset (R533). -/
  | mboxSealNotice
  /-- The cores copy an answered segment and request the next (R543). -/
  | mtrQuerySegmentAnswer
  /-- A segment unanswered for 64 ticks ends the command with ST_TIMEOUT (R544). -/
  | mtrQueryTimeout
  /-- A failed Buckram self-check fences Buckram and seals a SHORT batch (R523). -/
  | buckramSelfFault
  /-- A training attempt ends in failure, by bad lanes, a class mismatch or too few good lanes, and the port retries or
    is fenced (R124). -/
  | trainingAttemptFailed (r : PortRef)
  /-- The owner bolt's primary receives a request to release agents for a rack move and refuses or removes them at a
    named tick (R239). -/
  | moveReleaseRequestReceive (src : Nat) (serials : List Nat)
  /-- The absorbing primary receives the owner's confirmation or refusal and sends CLAIM or completes RACK_ABSORB with
    ST_DENIED (R239). -/
  | moveReleaseConfirmReceive (src : Nat) (granted : Bool)
  /-- The lead root receives its twin's report that tree 1 of a step is complete and clear (R372). -/
  | twinTreeReportReceive (group step : Nat)
  /-- A restoring member receives RDATA lines and REND, checks the shard digest and answers with a GAP (R478). -/
  | rdataReceive (n : Node) (f : Flit)
  /-- An agent finds a table memory error in a bank in use, sends FAULT_REPORT code 8 and enters FAULTED (R201). -/
  | tableMemoryError (unit : Nat)
  /-- An endpoint asks its agent to start a load-starting action, which starts under a warm grant or causes FAULT_REPORT
    code 7 when the grant is cold, absent or expired (R514). -/
  | loadStartingActionRequest (kind action job : Nat)
  deriving DecidableEq, Repr

end Sys2Proof
end

