-- ==== Sys2Proof/Decode.lean ====
section
/-! DEFINITION. The command that a word of spec/opcode_table.json spells. The table gives none of its 318 rows any bits: the block takes
commands, not words. -/

namespace Sys2Proof

/-- The command that a word of the table spells: none, as no row of the table has bits (its lists of fields are empty). -/
def decodeTableWord (_nbits _w : Nat) : Option Instr := none

end Sys2Proof
end

