-- ==== Sys2Proof/Config.lean ====
section
/-! DEFINITION. What the spec leaves to published algorithms, to a part's secrets or to chance: constants without a body,
so that no proof can lean on a value of theirs. Every statement about them holds whatever they are. -/

namespace Sys2Proof.Config

open Sys2Proof

/-- A value the spec leaves open, the n-th drawn (log entry 5). -/
opaque freeNat : Nat → Nat

/-- Random bytes of Selvedge, the n-th draw of `len` bytes (log entry 5; R549 and the rules that draw nonces and keys). -/
opaque freeBytes : (n len : Nat) → Bytes

/-- SHAKE256 (FIPS 202), `len` output bytes (R100, R466, R552). -/
opaque shake256 : (input : Bytes) → (len : Nat) → Bytes

/-- Signatures over a digest that Falcon-1024 verification accepts under a public key (R99). -/
opaque falconAccepts : (publicKey digest signature : Bytes) → Bool

/-- A padded signature over a digest that verifies under a public key (R99; log entry 249). -/
opaque falconSignature : (publicKey digest : Bytes) → Bytes

/-- Falcon-1024 signature over a digest under the signing key that a name stands for; `n` is its randomness (R99). -/
opaque falconSign : (key : String) → (digest : Bytes) → (n : Nat) → Bytes

/-- ML-KEM-1024 decapsulation under the key that a name stands for (R176, R574). -/
opaque kemDecap : (key : String) → (ciphertext : Bytes) → Bytes

/-- ML-KEM-1024 encapsulation to a public key: ciphertext and shared secret; `n` is its randomness (R571, R575). -/
opaque kemEncap : (publicKey : Bytes) → (n : Nat) → Bytes × Bytes

/-- ML-KEM-1024 public key of the key pair that a name stands for (R574). -/
opaque kemPublic : (key : String) → Bytes

/-- AES-256-GCM tag of a text with additional data under a key and nonce (R192, R194). -/
opaque gcmTag : (key nonce aad plain : Bytes) → Bytes

/-- AES-256-GCM ciphertext (R192). -/
opaque gcmEncrypt : (key nonce plain : Bytes) → Bytes

/-- AES-256-GCM plaintext of a ciphertext (R192). -/
opaque gcmDecrypt : (key nonce cipher : Bytes) → Bytes

/-- AES-256-XTS ciphertext of a 64-byte line under a key and tweak (R448, R460). -/
opaque xtsEncrypt : (key : Bytes) → (tweak : Nat) → (plain : Bytes) → Bytes

/-- The fields of a firmware image's 4,096-byte header, whose offsets R555 does not give: format, version, body length, image
digest, firmware-signing certificate and signature (R555). -/
opaque imageHeader : (header : Bytes) → Nat × Nat × Nat × Bytes × Bytes × Bytes

/-- The intermediate certificates that the running image carries beside the part's own (R571). -/
opaque imageIntermediates : List Bytes

/-- The part's public keys and certificates as byte strings, by name (R552 to R554). -/
opaque partBytes : String → Bytes

end Sys2Proof.Config
end

