-- ==== Sys2Proof/Machine/Bits.lean ====
section
/-! DEFINITION. Reading and writing little-endian fields (R12), check values (R526, R612) and the keyed lists in which
sparse tables are kept: keys strictly rising, one entry per key. -/

namespace Sys2Proof.Machine

open Sys2Proof

/-- The little-endian number of the bytes (R12). -/
def leVal : Bytes → Nat
  | [] => 0
  | b :: bs => b.toNat + 256 * leVal bs

/-- `n` bytes from offset `off`, missing bytes reading as zero. -/
def field (bs : Bytes) (off n : Nat) : Bytes :=
  let t := (bs.drop off).take n
  t ++ List.replicate (n - t.length) 0

/-- The little-endian field of `n` bytes at `off` (R12). -/
def le (bs : Bytes) (off n : Nat) : Nat := leVal (field bs off n)

/-- The `n` little-endian bytes of a number (R12). -/
def toLe : Nat → Nat → Bytes
  | 0, _ => []
  | n + 1, v => BitVec.ofNat 8 v :: toLe n (v / 256)

/-- `n` zero bytes. -/
def zeros (n : Nat) : Bytes := List.replicate n 0

/-- Two's complement of a signed number in `n` bytes. -/
def toLeInt (n : Nat) (v : Int) : Bytes := toLe n ((v % (256 ^ n : Int)).toNat)

/-- Bit `i` of a number. -/
def bit (v i : Nat) : Bool := v / 2 ^ i % 2 == 1

/-- Bits [hi:lo] of a number. -/
def bits (v hi lo : Nat) : Nat := v / 2 ^ lo % 2 ^ (hi + 1 - lo)

/-- 1 for true. -/
def flag (b : Bool) : Nat := if b then 1 else 0

/-- All bytes are zero: a reserved field as check 3 of R106 wants it. -/
def allZero (bs : Bytes) : Bool := bs.all (· == 0)

/-- Cut into pieces of `n` bytes, `k` of them. -/
def chunks (n : Nat) : Nat → Bytes → List Bytes
  | 0, _ => []
  | k + 1, bs => field bs 0 n :: chunks n k (bs.drop n)

/-- Replace the element at an index. -/
def setAt {α : Type} (l : List α) (i : Nat) (v : α) : List α := l.set i v

/-- Add to the number at an index. -/
def bump (l : List Nat) (i : Nat) (by_ : Nat := 1) : List Nat := l.modify i (· + by_)

/-- Saturating addition at `w` bits. -/
def satAdd (w a b : Nat) : Nat := min (2 ^ w - 1) (a + b)

/-- Ceiling division. -/
def cdiv (a b : Nat) : Nat := (a + b - 1) / b

/-- ⌈log2⌉ style: number of ticks of a window of `us` microseconds at period `p` (R46). -/
def ticksOf (us p : Nat) : Nat := cdiv us p

/-- Set bits among the lowest `n`. -/
def popcount : Nat → Nat → Nat
  | 0, _ => 0
  | n + 1, v => v % 2 + popcount n (v / 2)

/-- Look up a key. -/
def kvGet {α : Type} : List (Nat × α) → Nat → Option α
  | [], _ => none
  | (k, v) :: r, x => if k = x then some v else kvGet r x

/-- Insert or replace a key, keys kept rising. -/
def kvSet {α : Type} : List (Nat × α) → Nat → α → List (Nat × α)
  | [], x, v => [(x, v)]
  | (k, w) :: r, x, v =>
    if x < k then (x, v) :: (k, w) :: r
    else if x = k then (x, v) :: r
    else (k, w) :: kvSet r x v

/-- Remove a key. -/
def kvErase {α : Type} (m : List (Nat × α)) (x : Nat) : List (Nat × α) := m.filter (fun e => e.1 != x)

/-- Keys strictly rising. -/
def kvWf {α : Type} : List (Nat × α) → Bool
  | [] => true
  | [_] => true
  | a :: b :: r => decide (a.1 < b.1) && kvWf (b :: r)

/-- One bit of the reflected CRC-32 (R612). -/
def crc32Bit (c : BitVec 32) : BitVec 32 :=
  if c.getLsbD 0 then (c >>> 1) ^^^ 0xEDB88320#32 else c >>> 1

/-- One byte of the reflected CRC-32 (R612). -/
def crc32Byte (c : BitVec 32) (b : Byte) : BitVec 32 :=
  let x := c ^^^ b.zeroExtend 32
  crc32Bit (crc32Bit (crc32Bit (crc32Bit (crc32Bit (crc32Bit (crc32Bit (crc32Bit x)))))))

/-- CRC-32 of the event record (R612): IEEE 802.3. -/
def crc32 (bs : Bytes) : Nat := ((bs.foldl crc32Byte 0xFFFFFFFF#32) ^^^ 0xFFFFFFFF#32).toNat

/-- One bit of the CRC-16 of R526. -/
def crc16Bit (c : BitVec 16) : BitVec 16 :=
  if c.getLsbD 15 then (c <<< 1) ^^^ 0x1021#16 else c <<< 1

/-- One byte of the CRC-16 of R526. -/
def crc16Byte (c : BitVec 16) (b : Byte) : BitVec 16 :=
  let x := c ^^^ (b.zeroExtend 16 <<< 8)
  crc16Bit (crc16Bit (crc16Bit (crc16Bit (crc16Bit (crc16Bit (crc16Bit (crc16Bit x)))))))

/-- CRC-16 of the meter bus (R526): polynomial 0x1021, initial value 0xFFFF. -/
def crc16 (bs : Bytes) : Nat := (bs.foldl crc16Byte 0xFFFF#16).toNat

/-- Insert into a list kept in rising order of a key. -/
def insertBy {α : Type} (key : α → Nat) : List α → α → List α
  | [], v => [v]
  | w :: r, v => if key v < key w then v :: w :: r else w :: insertBy key r v

/-- Stable sort in rising order of a key. -/
def sortBy {α : Type} (key : α → Nat) (l : List α) : List α := l.foldl (insertBy key) []

/-- Keep the last `n` elements. -/
def lastN {α : Type} (n : Nat) (l : List α) : List α := l.drop (l.length - n)

/-- No element twice. -/
def nodup {α : Type} [DecidableEq α] : List α → Bool
  | [] => true
  | a :: r => !r.contains a && nodup r

/-- Grid position and local port of a unit, by kind and index of R641 (R25, R77): a port adder and a tile have local port 0, of two units of
one kind at a position the lower index has it, stream table banks and Jacquard engines have the second. -/
def gridPlace (kind idx : Nat) : Nat × Nat × Nat := match kind with
  | 1 => (if idx % 2 = 0 then 0 else 11, if idx < 2 then 0 else 11, 0)
  | 2 => (1, 0, 0)
  | 3 => (1, 11, 0)
  | 4 => (10, if idx = 0 then 0 else 11, 0)
  | 6 => if idx < 16 then (2 + idx / 2, 0, idx % 2) else (2 + (idx - 16) / 2, 11, idx % 2)
  | 8 =>
    if idx < 16 then (0, 2 + idx / 2, idx % 2) else if idx < 32 then (11, 2 + (idx - 16) / 2, idx % 2)
    else if idx < 36 then (1, 2 + (idx - 32), 0) else (10, 2 + (idx - 36), 0)
  | 9 => (2 + idx % 8, 2 + idx / 8, 0)
  | 10 => if idx < 4 then (1, 6 + idx, 0) else (10, 2 + idx, 0)
  | 11 => if idx < 8 then (2 + idx, 5, 1) else (2 + (idx - 8), 6, 1)
  | 12 => if idx < 16 then (2 + idx / 2, 1, idx % 2) else (2 + (idx - 16) / 2, 10, idx % 2)
  | 13 => ([0, 1, 10, 11].getD (idx % 4) 0, if idx < 4 then 1 else 10, 0)
  | 14 => if idx < 8 then (2 + idx, 3, 1) else (2 + (idx - 8), 8, 1)
  | _ => (0, 0, 0)

/-- Requester index of a unit at an on-die resource: 2 × router number + local port (R77); half of it is the router number 12 y + x. -/
def gridIndex (kind idx : Nat) : Nat :=
  let (x, y, p) := gridPlace kind idx
  2 * (12 * y + x) + p

/-- A Geneel address (R9). -/
def isGeneel (a : Nat) : Bool := decide (0xF000 ≤ a ∧ a ≤ 0xF03F)

/-- An address of the map (R9). -/
def inMap (a : Nat) : Bool := decide (a < 0xE400) || isGeneel a

/-- The data path port of a route entry for a stream: spread in proportion to the weights, one stream one port (R178).
DESIGN CHOICE: the stream ID modulo the sum of the weights picks it. -/
def dataPort (entry stream : Nat) : Nat :=
  let ws := [bits entry 35 32, bits entry 39 36, bits entry 43 40, bits entry 47 44]
  let ps := [bits entry 7 0, bits entry 15 8, bits entry 23 16, bits entry 31 24]
  let sum := ws.foldl (· + ·) 0
  let x := if sum = 0 then 0 else stream % sum
  let rec pick : List Nat → List Nat → Nat → Nat
    | w :: ws, p :: ps, x => if x < w then p else pick ws ps (x - w)
    | _, _, _ => 0xFF
  if sum = 0 then ps.getD 0 0xFF else pick ws ps x

/-- The first index at or after `w` in a cycle of `n` that is among the requesters: the rotating tie-break (R76). -/
def tieBreak (n w : Nat) (req : List Nat) : Option Nat :=
  match (sortBy (fun i => (i + n - w % n) % n) req) with
  | [] => none
  | i :: _ => some i

end Sys2Proof.Machine

namespace Sys2Proof

open Sys2Proof.Machine

/-- The result descriptor of a packet: address and capacity; capacity 0 without RD (R97). -/
def Packet.resultDesc (p : Packet) : Nat × Nat :=
  if bit p.flags 2 then (le p.params 0 8, le p.params 8 4) else (0, 0)

/-- The opcode's own parameters: those after the descriptor when RD is set (R97). -/
def Packet.body (p : Packet) : Bytes := if bit p.flags 2 then p.params.drop 16 else p.params

/-- Offset from the start of the packet of byte `o` of the opcode's own parameters (R111). -/
def Packet.off (p : Packet) (o : Nat) : Nat := 64 + (if bit p.flags 2 then 16 else 0) + o

/-- NSIG (R95). -/
def Packet.nsig (p : Packet) : Nat := bits p.flags 4 3

/-- The opcode's own parameters are exactly `n` bytes long. -/
def Packet.bodyLen (p : Packet) : Nat := p.len - (if bit p.flags 2 then 16 else 0)

/-- ASCII bytes of a name. -/
def ascii (s : String) : Bytes := s.toList.map (fun c => BitVec.ofNat 8 c.toNat)

/-- A message is source-routed: its DST is 0xFFFF and it travels on VC0, where VERDICT and TICK are on VC1 (R161, R163). -/
def Msg.sourceRouted (m : Msg) : Bool := m.dst == 0xFFFF && m.type != 0x0F && m.type != 0x10

/-- The body of a message behind the route block of a source-routed one (R163, R173). -/
def Msg.content (m : Msg) : Bytes := if m.sourceRouted then m.body.drop 34 else m.body

/-- The route block that every flit of a source-routed message begins with (R163, R173). -/
def Msg.routeBlock (m : Msg) : Bytes := if m.sourceRouted then field m.body 0 34 else []

/-- Bytes of a message's content that one flit carries: 208 less those of a route block (R160, R162, R163). -/
def Msg.perFlit (m : Msg) : Nat := if m.sourceRouted then 174 else 208

/-- The route block of the answer to a source-routed message: hop index 0, the two port lists exchanged (R173). -/
def Msg.routeBack (m : Msg) : Bytes := field m.body 0 1 ++ zeros 1 ++ field m.body 18 16 ++ field m.body 2 16

end Sys2Proof
end

