-- ==== Sys2Proof/Machine/Certs.lean ====
section
/-! DEFINITION. Signatures and certificates (spec 03_command_packets R99, spec 16_selvedge_security R552 to R555, R570, R571): Falcon-1024
verification, the Leraben certificate, the chains of R554 and the trust anchor. -/

namespace Sys2Proof.Machine

open Sys2Proof

/-- The first 32 bytes of SHAKE256. -/
def shake32 (b : Bytes) : Bytes := field (Config.shake256 b 32) 0 32

/-- Falcon-1024 verification of a padded signature over a digest under a public key (R99). Which signatures a key accepts is free, but for
one that it is known to: PRESUMED (log entry 249), a public key has for each digest some signature that verifies. -/
def falconVerify (publicKey digest signature : Bytes) : Bool :=
  Config.falconAccepts publicKey digest signature || signature == field (Config.falconSignature publicKey digest) 0 1280

/-- A key's ID: the first 8 bytes of SHAKE256 over the public key (R553). -/
def keyId (publicKey : Bytes) : Bytes := field (Config.shake256 publicKey 8) 0 8

/-- The public key in a Leraben certificate (R553). -/
def certKey (cert : Bytes) : Bytes := field cert 64 1793

/-- The public key that an issuer certifies in a certificate: format 1, the issuer's key ID, the issuer's signature (R553). -/
def issuedKey (issuer cert : Bytes) : Option Bytes :=
  if le cert 0 2 = 1 ∧ field cert 12 8 = keyId issuer
      ∧ falconVerify issuer (shake32 (ascii "GN7CERT1" ++ field cert 0 1864)) (field cert 1864 1280) = true
  then some (certKey cert) else none

/-- The Paruren root public key, the one trust anchor (R554). -/
def rootKey : Bytes := field (Config.partBytes "Paruren root public key") 0 1793

/-- The keys of the intermediates that the running image carries (R571), the part's own among them (R554). -/
def intermediateKeys : List Bytes :=
  certKey (field (Config.partBytes "intermediate certificate") 0 3144) :: Config.imageIntermediates.map certKey

/-- The key of a device or agent certificate that an intermediate of the running image has issued (R554, R571, R575). -/
def chainKey (cert : Bytes) : Option Bytes := intermediateKeys.findSome? (fun k => issuedKey k cert)

/-- The key of a firmware-signing certificate, kind 5 issued by the root (R554, R555). -/
def firmwareKey (cert : Bytes) : Option Bytes := if le cert 2 1 = 5 then issuedKey rootKey cert else none

/-- The Geneel key that an agent finds certified by the chain of CERT: the intermediate (kind 1) under the root, then the device certificate
(kind 2) under the intermediate (R176, R554, R570). -/
def geneelKey (chain : Bytes) : Option Bytes :=
  let inter := field chain 0 3144
  let device := field chain 3144 3144
  match issuedKey rootKey inter with
  | some k => if le inter 2 1 = 1 ∧ le device 2 1 = 2 then issuedKey k device else none
  | none => none

/-- The debug key ID held in mask ROM, that of a Paruren debug key (R590). -/
def debugKeyId : Bytes := keyId (field (Config.partBytes "Paruren debug public key") 0 1793)

end Sys2Proof.Machine
end

