-- ==== Sys2Proof/Machine/BuckramTypes.lean ====
section
/-! DEFINITION. The state of Buckram, the metrology section (spec 15_buckram_metering): registers, windows, batches, parameters,
audit trail, mailbox and window, and what the management cores keep of their queries. -/

namespace Sys2Proof.Machine

open Sys2Proof

/-- A shelf that Buckram reads (R527, R539). -/
structure MeterShelf where
  /-- shelf, 0 to 95; R524 -/
  shelf : Nat
  /-- enrolled meter ID; 64 bits; R539 -/
  meter : Nat
  /-- held register in mJ; 64 bits; R527 -/
  register : Nat := 0
  /-- register at the previous close; 64 bits; R529 -/
  base : Nat := 0
  /-- register at the last close of the last sealed batch, as kept in flash; 64 bits; R536, R546 -/
  stored : Nat := 0
  /-- no extended report has come since METER_ENROL: 1; since Buckram started: 2; otherwise 0; R527, R546 -/
  fresh : Nat := 1
  /-- gap energy of the open window in mJ; R546 -/
  gap : Nat := 0
  /-- suspended; R527 -/
  suspended : Bool := false
  /-- bus cycles without a valid report; R527 -/
  silent : Nat := 0
  /-- flagged SILENT in the open window; R527 -/
  silentMark : Bool := false
  /-- a status bit was set in a report of the open window; R527 -/
  statusMark : Bool := false
  /-- a valid report has come in this cycle; R542 -/
  reported : Bool := false
  /-- meter firmware version; 32 bits; R526 -/
  fw : Nat := 0
  deriving DecidableEq, Repr

/-- The last reading of an endpoint's slot (R530). -/
structure MeterReading where
  addr : Nat
  slot : Nat
  shelf : Nat
  job : Nat
  latch : Nat
  /-- counter in µJ; 64 bits -/
  value : Nat
  deriving DecidableEq, Repr

/-- Counter energy of a job on a shelf, in µJ (R530, R531). -/
structure MeterCharge where
  shelf : Nat
  job : Nat
  energy : Nat
  deriving DecidableEq, Repr

/-- Counter energy gathered for a window, and the shelves with a counter reset (R530, R532). -/
structure MeterCharges where
  charges : List MeterCharge := []
  resets : List Nat := []
  deriving DecidableEq, Repr

/-- A shelf's entry of a closed window before its seal (R529). -/
structure ClosedShelf where
  shelf : Nat
  energy : Nat
  gap : Nat
  /-- flags of R532 known at the close -/
  flags : Nat
  suspended : Bool
  deriving DecidableEq, Repr

/-- A window closed and not yet sealed (R528, R530). -/
structure ClosedWindow where
  /-- crystal time of the close in µs -/
  at_ : Nat
  seconds : Nat
  shelves : List ClosedShelf
  charges : MeterCharges
  deriving DecidableEq, Repr

/-- A window entry of a shelf (R532, R533). -/
structure WindowEntry where
  shelf : Nat
  energy : Nat
  k : Nat
  flags : Nat
  seconds : Nat
  deriving DecidableEq, Repr

/-- A job's share on a shelf over the open batch (R533): energy in mJ, counters in µJ. -/
structure JobShare where
  job : Nat
  shelf : Nat
  energy : Nat
  counters : Nat
  deriving DecidableEq, Repr

/-- A sealed batch with its statements (R533 to R536). -/
structure MeterBatch where
  number : Nat
  bytes : Bytes
  digest : Bytes
  /-- job statements, by job -/
  statements : List (Nat × Bytes)
  /-- MTR_BATCH_GET has returned it -/
  fetched : Bool := false
  deriving DecidableEq, Repr

/-- A query of the management cores (R543, R544). -/
structure MtrQuery where
  cmd : Nat
  kind : Nat
  first : Nat
  count : Nat
  job : Nat
  seq : Nat := 0
  offset : Nat := 0
  /-- instant of the last QUERY message -/
  sentAt : Nat := 0
  /-- Buckram has answered the last QUERY message -/
  answered : Bool := false
  /-- result bytes copied so far -/
  got : Bytes := []
  deriving DecidableEq, Repr

/-- Buckram (spec 15). -/
structure Buckram where
  /-- MTR.STAT.STATE, 0 INIT, 1 RUN, 2 NOTICK, 3 FAULT; 2 bits; R542; reset 0 -/
  state : Nat := 0
  /-- bus cycles since Buckram started, 1 ms each on its crystal; R525; reset 0 -/
  cycles : Nat := 0
  /-- shelves enrolled, ascending; R527, R539; reset empty, DESIGN CHOICE: flash of a part never used -/
  shelves : List MeterShelf := []
  /-- MTR.STAT.METERS; 8 bits; R542; reset 0 -/
  meters : Nat := 0
  /-- windows closed, MTR.STAT.WINDOW; 64 bits; R528, R542; reset 0, DESIGN CHOICE: flash of a part never used -/
  window : Nat := 0
  /-- crystal time in µs at which the open window began; R528; reset 0 -/
  openAt : Nat := 0
  /-- strobes ignored; R528; reset 0 -/
  ignored : Nat := 0
  /-- tick of the last BOUNDARY that no seal has used; R528, R541; reset none -/
  boundary : Option Nat := none
  /-- tick of the last boundary of a sealed window; R533; reset 0 -/
  lastBoundary : Nat := 0
  /-- last readings; R530; reset empty, an unlisted reading being 0, DESIGN CHOICE -/
  readings : List MeterReading := []
  /-- counter energy of the open window; R530; reset empty -/
  charges : MeterCharges := {}
  /-- window closed and not yet sealed; R530; reset none -/
  closed : Option ClosedWindow := none
  /-- entries of the windows of the open batch, oldest first; at most 60; R533; reset empty -/
  windows : List (List WindowEntry) := []
  /-- job shares of the open batch, ascending job and shelf; R533; reset empty -/
  shares : List JobShare := []
  /-- number the next batch takes; 64 bits; R533; reset 0 -/
  nextBatch : Nat := 0
  /-- digest of the last batch; 32 bytes; R533; reset empty for zero -/
  lastDigest : Bytes := []
  /-- batches held with their statements, oldest first; at most 4,096; R536; reset empty -/
  batches : List MeterBatch := []
  /-- MTR.STAT.LOST; 32 bits; R536, R542; reset 0 -/
  lost : Nat := 0
  /-- METROLOGY public key, empty while none is held; 1,793 bytes; R537, MTR.STAT.ENROLLED; reset empty -/
  metrology : Bytes := []
  /-- MTR.STAT.BILLING; 1 bit; R539, R542; reset 0 -/
  billing : Bool := false
  /-- low K threshold; 16 bits; R532, R539; reset 768 -/
  lowK : Nat := 768
  /-- high K threshold; 16 bits; R532, R539; reset 2,048 -/
  highK : Nat := 2048
  /-- changes audited and waiting for the seal of their window, (window, kind, body); R539; reset empty -/
  changes : List (Nat × Nat × Bytes) := []
  /-- audit entries, oldest first; at most 65,536; R540; reset empty -/
  audit : List Bytes := []
  /-- mailbox FIFO; at most 256 messages of 64 bytes; R541; reset empty -/
  mbox : List Bytes := []
  /-- sequence number of the last message taken; 8 bits; R541; reset none -/
  lastSeq : Option Nat := none
  /-- MTR.STAT.MBOX_DROP; 32 bits; R541, R542; reset 0 -/
  drops : Nat := 0
  /-- PARAM segments received so far, and their number; R538, R541; reset none -/
  param : Bytes × Nat := ([], 0)
  /-- response area; at most 4,096 bytes; R542, MTR.STAT.RESP_LEN is its length; reset empty -/
  resp : Bytes := []
  /-- MTR.STAT.RESP_SEQ; 32 bits; R542; reset 0 -/
  respSeq : Nat := 0
  /-- MTR.STAT.RESP_TOTAL; 32 bits; R542; reset 0 -/
  respTotal : Nat := 0
  /-- management cores: sequence number of the next mailbox message; 8 bits; R541; reset 0 -/
  sendSeq : Nat := 0
  /-- management cores: PARAM segments waiting for room in the mailbox; R541; reset empty -/
  outbox : List Bytes := []
  /-- management cores: the MTR_PARAM_SET command forwarded, with its packet; R538; reset none -/
  paramCmd : Option Nat := none
  /-- management cores: query sequence of the next query; 32 bits; R541; reset 1 -/
  nextQuery : Nat := 1
  /-- management cores: queries, the first being the one asked; R543; reset empty -/
  queries : List MtrQuery := []
  deriving DecidableEq, Repr

end Sys2Proof.Machine
end

