-- ==== Sys2Proof/Machine/CalicoTypes.lean ====
section
/-! DEFINITION. The state of Calico (spec 12_calico_tables): tables, their rows, update sets, replay windows and caches. -/

namespace Sys2Proof.Machine

open Sys2Proof

/-- A row held: its place, its record header (R420), row bytes and optimizer state (R419). -/
structure CalRow where
  slot : Nat
  bucket : Nat
  way : Nat
  /-- CAL.BKT.TAG; 32 bits; R421 -/
  tag : Nat
  /-- CAL.REC.ID; 64 bits; R420 -/
  id : Nat
  /-- CAL.REC.LAST; 32 bits; R420 -/
  last : Nat := 0
  /-- CAL.REC.TOUCH; 16 bits; R420 -/
  touch : Nat := 0
  /-- CAL.REC.POISON; R420 -/
  poison : Bool := false
  data : Bytes
  state : Bytes
  deriving DecidableEq, Repr

/-- An admission candidate of a bucket (R421, R445). -/
structure CalCand where
  slot : Nat
  bucket : Nat
  /-- index 0 to 3 -/
  index : Nat
  tag : Nat
  /-- low 16 bits of the row ID -/
  cid : Nat
  count : Nat
  deriving DecidableEq, Repr

/-- An entry of the coalescing store (R442): the FP32 gradient of a row. -/
structure CalEntry where
  slot : Nat
  row : Nat
  grad : List Nat
  /-- instant of admission; R443 -/
  at_ : Nat
  deriving DecidableEq, Repr

/-- A member's replay window (R423, R435). -/
structure CalWindow where
  len : Nat
  base : Nat := 0
  /-- numbers marked, at or above the base -/
  marks : List Nat := []
  deriving DecidableEq, Repr

/-- An UPDATE flit to be acknowledged (R435, R443). -/
structure CalAck where
  len : Nat
  req : Nat
  dup : Bool
  /-- records not yet admitted -/
  left : Nat
  /-- instant of the latest admission -/
  at_ : Nat
  deriving DecidableEq, Repr

/-- An update record that waits for space in its engine's coalescing store (R442). -/
structure CalStalled where
  slot : Nat
  len : Nat
  req : Nat
  row : Nat
  offset : Nat
  grad : List Nat
  deriving DecidableEq, Repr

/-- A lookup that waits: of a STRICT table, of an isolated job, or behind a stalled engine (R342, R442, R447). -/
structure CalHeld where
  flit : Flit
  /-- instant of arrival -/
  at_ : Nat
  /-- it is a duplicate of a request served before; R435 -/
  dup : Bool := false
  deriving DecidableEq, Repr

/-- A shard of a table (R413 to R435). -/
structure CalTable where
  /-- table ID; 12 bits; R413 -/
  id : Nat
  job : Nat
  /-- 0 ACTIVE, 1 DRAINING, 2 FAILED; R431; 3 while its creation is not in effect, the model's own -/
  state : Nat := 3
  format : Nat
  opt : Nat
  /-- flags of R424 -/
  flags : Nat
  /-- admission A; R424 -/
  admitAt : Nat
  d : Nat
  rowsAsked : Nat
  /-- learning rate, FP32 bits; R424 -/
  eta : Nat
  beta1 : Nat
  beta2 : Nat
  eps : Nat
  lambda : Nat
  sigma : Nat
  /-- shard set, Geneel IDs; R414 -/
  shards : List Nat
  /-- seed s; 64 bits; R415 -/
  seed : Nat
  /-- buckets B; R422 -/
  buckets : Nat
  reqStream : Nat
  rspStream : Nat
  /-- pages in each slot; R422 -/
  pages : Nat
  /-- first page in each of the 32 slots; R422 -/
  starts : List Nat
  rows : List CalRow := []
  /-- quadrants whose pages of the table are lost; R39; reset none -/
  lost : List Nat := []
  cands : List CalCand := []
  /-- entries admitted and not yet applied; R443 -/
  entries : List CalEntry := []
  windows : List CalWindow := []
  acks : List CalAck := []
  /-- counters of R431 but rows held, capacity and poisoned rows, which are counted from the rows: positions as there -/
  counters : List Nat := List.replicate 16 0
  /-- first page of each slot not yet swept while a key rotation runs; R449; reset none -/
  sweep : Option (List Nat) := none
  /-- pages re-encrypted ahead of the sweep by a write, (slot, page); R449 -/
  swept : List (Nat × Nat) := []
  /-- instant at which its creation takes effect; R424, R425 -/
  effAt : Nat := 0
  /-- changes of TABLE_CONFIG waiting for their instant, oldest first; R427 -/
  configs : List (Nat × Bytes) := []
  /-- instant at which TABLE_DESTROY takes effect; R428; reset none -/
  endAt : Option Nat := none
  deriving DecidableEq, Repr

/-- A table command that awaits answers of shard Geneels or an ID of the tick master (R425). -/
structure ShardOp where
  /-- the command, none for a creation that another Geneel asked this one to number -/
  cmd : Nat
  /-- op code of TABLE_SHARD -/
  op : Nat
  table : Nat
  /-- addresses not yet heard -/
  waiting : List Nat
  /-- instant of sending -/
  since : Nat
  /-- an ID is awaited -/
  needId : Bool := false
  /-- worst status heard, and the greatest shortfall or detail -/
  status : Nat := 0
  detail : Nat := 0
  deriving DecidableEq, Repr

/-- Rows loaded, refused and skipped (R429). -/
structure LoadCount where
  loaded : Nat := 0
  refused : Nat := 0
  skipped : Nat := 0
  deriving DecidableEq, Repr

/-- A load from a generation that awaits snapshot shards of other Geneels (R453). -/
structure CalLoad where
  /-- the table loaded -/
  table : Nat
  job : Nat
  gen : Nat
  /-- flags of R429 -/
  keep : Bool
  state : Bool
  /-- TABLE_LOAD command of this Geneel; none for one ordered by another Geneel -/
  cmd : Option Nat
  /-- shards still to come: owner number and the Geneel that has been sent PULL -/
  waiting : List (Nat × Nat)
  /-- lines received of them, (owner, line, bytes) -/
  parts : List (Nat × Nat × Bytes) := []
  count : LoadCount := {}
  deriving DecidableEq, Repr

/-- A line of a hot-row cache (R438). -/
structure CacheLine where
  slot : Nat
  job : Nat
  table : Nat
  /-- line within the table's range of the slot -/
  line : Nat
  deriving DecidableEq, Repr

/-- Calico (spec 12). -/
structure Calico where
  /-- shards, ascending table ID; at most 4,096; R413; reset empty -/
  tables : List CalTable := []
  /-- table IDs that this Geneel has assigned as tick master; R413; reset empty -/
  assigned : List Nat := []
  /-- commands awaiting shard Geneels; R425; reset empty -/
  ops : List ShardOp := []
  /-- update records waiting for coalescing space, in order; R442; reset empty -/
  stalled : List CalStalled := []
  /-- tables of the stalled records, in the same order; R442; reset empty -/
  stalledTables : List Nat := []
  /-- lookups held; R447; reset empty -/
  held : List CalHeld := []
  /-- snapshots waiting for their tick, (instant, table, parameters); R452; reset empty -/
  snapDue : List (Nat × Nat × Bytes) := []
  /-- loads ordered by other Geneels waiting for their tick, (instant, table, parameters); R429, R453; reset empty -/
  loadDue : List (Nat × Nat × Bytes) := []
  /-- loads from a generation that await shards of other Geneels; R453; reset empty -/
  loads : List CalLoad := []
  /-- lines of the hot-row caches, most recent first; R438; reset empty -/
  cache : List CacheLine := []
  /-- response flits with the instant at which they leave, oldest first (the model's record of its output); R432; reset
  empty -/
  sent : List (Nat × Flit) := []
  /-- of these, the ones whose instant is still to come, with the table of each; R433; reset empty -/
  leaving : List (Nat × Nat × Flit) := []
  deriving DecidableEq, Repr

end Sys2Proof.Machine
end

