-- ==== Sys2Proof/Machine/ClockTypes.lean ====
section
/-! DEFINITION. The state of the fabric tick (spec 02_fabric_tick) and of the stream table (spec 01_architecture). -/

namespace Sys2Proof.Machine

open Sys2Proof

/-- Run-ahead counts of one job (R80): six discarded and six corrected counts, kinds 0 to 5 of R79. -/
structure RunAhead where
  job : Nat
  discarded : List Nat := [0, 0, 0, 0, 0, 0]
  corrected : List Nat := [0, 0, 0, 0, 0, 0]
  deriving DecidableEq, Repr

/-- The tick generator, the tick counter and mastership (R41 to R58, R700 to R704). -/
structure Clock where
  /-- local instants and markers counted since the start of BOOT; R700; reset 0 -/
  now : Nat := 0
  /-- current tick; 48 bits; R44, R703; reset 0 -/
  tick : Nat := 0
  /-- a marker has been accepted; R45; reset false -/
  loaded : Bool := false
  /-- a TICK has arrived, of whatever period: the machine has started; R42, R45, R48; reset false -/
  heard : Bool := false
  /-- tick period P in us, 4 to 64; 8 bits; R41, R42; reset 16 -/
  period : Nat := 16
  /-- TICK_IN mode 0 OFF, 1 PERIOD, 2 PPS; 8 bits; R54; reset 0 -/
  mode : Nat := 0
  /-- lock state 0 not locked, 1 locked, 2 holdover; R57, R703; reset 0 -/
  lock : Nat := 0
  /-- phase of TICK_IN against the markers in ns, signed; none while no edge has been seen; R58, R703; reset none -/
  phase : Option Int := none
  /-- TICK_IN edges seen since the tick generator started; R54, R702; reset 0 -/
  edges : Nat := 0
  /-- markers missed and bridged; 32 bits; R51, R703; reset 0 -/
  missed : Nat := 0
  /-- markers missed in a row; R51; reset 0 -/
  missedRun : Nat := 0
  /-- mastership conflicts; 32 bits; R52, R703; reset 0 -/
  conflicts : Nat := 0
  /-- instant of the last TICK_IN edge, or of marker 1; R57; reset none -/
  edgeAt : Option Nat := none
  /-- tick of the last MTR_STROBE, 0 none; 48 bits; R528; reset 0 -/
  strobeTick : Nat := 0
  /-- tick of the last job notices, 0 none; 48 bits; R339; reset 0 -/
  noticeTick : Nat := 0
  /-- the tick tree, (node, its parent port, parent, port there); R59, R257; reset empty -/
  tree : List (Nat × Nat × Nat × Nat) := []
  /-- solve and tick master that the tree was built for; R257; reset none -/
  treeFor : Option (Nat × Nat) := none
  /-- the Geneel ID whose markers are followed; 8 bits; R50, R703; reset 0xFF, none -/
  master : Nat := 0xFF
  /-- this Geneel emits markers; R50, R703; reset false -/
  emitting : Bool := false
  /-- instant from which marker 1 may be emitted, set by TICK_START at the master; R702; reset none -/
  startFrom : Option Nat := none
  /-- handover tick announced to a returning master, 0 none; 48 bits; R53, R200; reset 0 -/
  handover : Nat := 0
  /-- next master announced; 8 bits; R200; reset 0xFF -/
  nextMaster : Nat := 0xFF
  /-- instant since which this Geneel has been healthy and eligible; R53; reset none -/
  eligibleSince : Option Nat := none
  /-- run-ahead counts by job, ascending; R80; reset empty -/
  runAhead : List RunAhead := []
  deriving DecidableEq, Repr

/-- One entry of the stream table (R29); an unlisted stream ID is an all-zero entry. -/
structure Stream where
  /-- STREAM.ENTRY.KIND; 3 bits; R29 -/
  kind : Nat := 0
  /-- STREAM.ENTRY.VC; 3 bits; R29 -/
  vc : Nat := 0
  /-- STREAM.ENTRY.EPB; 1 bit; R29 -/
  epb : Nat := 0
  /-- STREAM.ENTRY.JOB; 12 bits; R29 -/
  job : Nat := 0
  /-- STREAM.ENTRY.OWNER; 16 bits; R29 -/
  owner : Nat := 0
  /-- STREAM.ENTRY.PEER; 16 bits; R29 -/
  peer : Nat := 0
  /-- STREAM.ENTRY.STATE, 0 IDLE, 1 OPEN, 2 DRAINING, 3 CLOSED; 4 bits; R29 -/
  state : Nat := 0
  /-- STREAM.ENTRY.KSLOT; 2 bits; R29 -/
  kslot : Nat := 0
  /-- STREAM.ENTRY.OPEN_TICK; 48 bits; R29 -/
  openTick : Nat := 0
  /-- STREAM.ENTRY.TX_SEQ; 32 bits; R29 -/
  txSeq : Nat := 0
  /-- STREAM.ENTRY.RX_SEQ; 32 bits; R29 -/
  rxSeq : Nat := 0
  /-- STREAM.ENTRY.CCNT_CUR; 32 bits; R29, R30 -/
  ccntCur : Nat := 0
  /-- STREAM.ENTRY.CCNT_PREV; 32 bits; R29, R30 -/
  ccntPrev : Nat := 0
  /-- STREAM.ENTRY.EXPECT; 32 bits; R29 -/
  expect : Nat := 0
  /-- STREAM.ENTRY.LOSS; 32 bits, saturating; R29 -/
  loss : Nat := 0
  /-- STREAM.ENTRY.LAST_TICK; 48 bits; R29 -/
  lastTick : Nat := 0
  /-- STREAM.ENTRY.OUTSTANDING; 16 bits; R29 -/
  outstanding : Nat := 0
  /-- STREAM.ENTRY.CTX; 128 bits; R29 -/
  ctx : Nat := 0
  deriving DecidableEq, Repr

end Sys2Proof.Machine
end

