-- ==== Sys2Proof/Machine/FaultTypes.lean ====
section
/-! DEFINITION. The state of the units, of fault handling and of the event record (spec 01_architecture,
17_faults_and_events, 18_bring_up) and of the pins (spec 21_package_and_signals). -/

namespace Sys2Proof.Machine

open Sys2Proof

/-- The device states of R111, in the order of their codes. -/
inductive DevState where
  | off | boot | stage1 | stage2 | stage3 | stage4 | stage5 | ready | run | degraded | fault | halt
  deriving DecidableEq, Repr

/-- The status of one unit (R487, R603, R641). -/
inductive UnitStatus where
  | active | draining | off | fencing | fenced | absent
  deriving DecidableEq, Repr

/-- A unit that is not plainly ACTIVE, by kind and index of R641. -/
structure UnitRec where
  /-- kind 1 to 16 of R641 -/
  kind : Nat
  /-- index within the kind -/
  index : Nat
  /-- its status; R487, R603; an unlisted unit is ACTIVE -/
  status : UnitStatus
  /-- floor plan cause 0 to 7; R641 -/
  cause : Nat := 0
  /-- floor plan detail; 16 bits; R641 -/
  detail : Nat := 0
  /-- code of the fault that fenced it; R622 -/
  code : Nat := 0
  /-- tick of the fence; R622 -/
  tick : Nat := 0
  /-- outstanding flits, pages or entries of a draining or fencing unit; R116, R489, R605 -/
  outstanding : Nat := 0
  /-- instant at which its drain began; R489 -/
  since : Nat := 0
  deriving DecidableEq, Repr

/-- One event record (R611). -/
structure EventRec where
  index : Nat
  source : Nat
  code : Nat
  severity : Nat
  cls : Nat
  repeats : Nat := 0
  opsec : Nat := 0
  pcycle : Nat := 0
  firstTick : Nat := 0
  job : Nat := 0
  /-- bytes 24 to 27 as a number -/
  key : Nat := 0
  merged : Nat := 0
  raised : Bool := false
  action : Bool := false
  padding : Bool := false
  mergedSource : Nat := 0xFFFF
  mergedCode : Nat := 0
  /-- bytes 34 to 49 -/
  detail : Bytes := List.replicate 16 0
  repeatTick : Nat := 0
  /-- instant (R700) at which it was written -/
  written : Nat := 0
  deriving DecidableEq, Repr

/-- A fence or job failure decided and due at step 2 of the next marker (R599). -/
structure DueFence where
  source : Nat
  code : Nat
  severity : Nat
  /-- key of the fault: the port of an agent report (R598) -/
  key : Nat := 0
  /-- job of the fault's report, 0 none -/
  job : Nat := 0
  /-- index of the record of the handling -/
  record : Nat
  /-- instant of detection -/
  since : Nat
  deriving DecidableEq, Repr

/-- A fault handling that is running (R601). -/
structure Handling where
  source : Nat
  record : Nat
  since : Nat
  deriving DecidableEq, Repr

/-- A severity setting: a source range and a code, 0xFFFF every code (R621). -/
structure SevEntry where
  first : Nat
  last : Nat
  code : Nat
  severity : Nat
  deriving DecidableEq, Repr

/-- Counts kept at a source (R598, R622). -/
structure SourceCount where
  source : Nat
  s0 : Nat := 0
  s2 : Nat := 0
  lastTick : Nat := 0
  deriving DecidableEq, Repr

/-- Fault handling and the event record (R593 to R622). -/
structure Faults where
  /-- units that are not plainly ACTIVE; R16, R487, R603, R641; reset none listed -/
  units : List UnitRec := []
  /-- fences and job failures due at step 2 of the next marker; R599; reset empty -/
  due : List DueFence := []
  /-- handlings running, oldest first; R601; reset empty -/
  handlings : List Handling := []
  /-- severity settings in force, later ones win; R621; reset empty -/
  sevs : List SevEntry := []
  /-- quiet period Q in ticks; 32 bits; R607, R621; reset 62,500 -/
  q : Nat := 62500
  /-- instant of the last fault at S3 or above that counts for R606; R606, R607; reset none -/
  lastS3 : Option Nat := none
  /-- its tick number; 48 bits; R622; reset 0 -/
  lastS3Tick : Nat := 0
  /-- FAULT latched; R608; reset false -/
  latched : Bool := false
  /-- instant of a FAULT_RELEASE whose exit from FAULT is still to come; R609; reset none -/
  releasedAt : Option Nat := none
  /-- leader core, 0 to 3; R17, R18; reset 0 -/
  leader : Nat := 0
  /-- instants of the automatic recoveries kept, newest first, at most 9; R608; reset empty -/
  recoveries : List Nat := []
  /-- recovery counter; 32 bits; R607; reset 0 -/
  recoveryCount : Nat := 0
  /-- event records readable or awaiting spill, oldest first; R611, R615; reset empty -/
  records : List EventRec := []
  /-- first readable index; 64 bits; R615; reset 0, DESIGN CHOICE: flash of a part never used -/
  firstIndex : Nat := 0
  /-- index the next record takes; 64 bits; R615; reset 0, DESIGN CHOICE: flash of a part never used -/
  nextIndex : Nat := 0
  /-- first index not yet spilled to flash, a multiple of 64; R615, R616; reset 0 -/
  spillHead : Nat := 0
  /-- next index as the header blocks hold it; 64 bits; R616; reset 0, DESIGN CHOICE: flash of a part never used -/
  nextStored : Nat := 0
  /-- index at which the on-chip ring of this bring-up begins; 64 bits; R615, R618; reset 0 -/
  bootIndex : Nat := 0
  /-- instant of the last failed spill that is to be retried; R617; reset none -/
  spillRetry : Option Nat := none
  /-- records dropped; 32 bits; R617, R622; reset 0 -/
  dropped : Nat := 0
  /-- faults merged; 32 bits; R602, R622; reset 0 -/
  mergedFaults : Nat := 0
  /-- faults by severity S0 to S5; 64 bits each; R622; reset 0 -/
  bySeverity : List Nat := [0, 0, 0, 0, 0, 0]
  /-- counts per source; 32 bits each; R598, R622; reset empty -/
  counts : List SourceCount := []
  /-- operating seconds; 40 bits; R616; reset 0, DESIGN CHOICE: flash of a part never used -/
  opsec : Nat := 0
  /-- microseconds of the running operating second; R616; reset 0 -/
  usec : Nat := 0
  /-- operating seconds last written to the header blocks; R616; reset 0 -/
  opsecStored : Nat := 0
  /-- bytes 0 to 127 of the fault summary as latched at the last marker or local instant; R678; reset empty -/
  summaryLatch : Bytes := []
  /-- sources that fenced a fabric link, node and port, 0xFF the whole node, ROUTABLE = 0; R598; reset empty -/
  unroutable : List (Nat × Nat) := []
  /-- memory quadrants out of service after a stack or crossbar fence; R39; reset empty -/
  quadsOut : List Nat := []
  deriving DecidableEq, Repr

/-- The pins that the spec's events and rules name (R630, R694). Levels: true is high. -/
structure Pins where
  /-- PWR_GOOD input; R694; reset low -/
  pwrGood : Bool := false
  /-- RESET_N input; R694; reset high, DESIGN CHOICE -/
  resetN : Bool := true
  /-- FAULT_N output, low in HALT and on a failed clock check; R610, R624, R694; reset high -/
  faultN : Bool := true
  /-- THERM_TRIP_N output; R502, R694; reset high -/
  thermTripN : Bool := true
  /-- TICK_OUT pulses given since power-up (the model's record of the pulse train); R694; reset 0 -/
  tickOut : Nat := 0
  /-- MTR_STROBE pulses given since power-up; R528; reset 0 -/
  mtrStrobe : Nat := 0
  /-- firmware flash pins released to the programming path; R694, R696; reset false -/
  flashReleased : Bool := false
  /-- STRAP0 to STRAP4 levels on the board; 5 bits; R630; reset 0, DESIGN CHOICE -/
  straps : BitVec 5 := 0
  /-- straps as sampled at the start of BOOT; 5 bits; R630; reset 0 -/
  sampled : BitVec 5 := 0
  deriving DecidableEq, Repr

/-- Bring-up and the signed configuration record (spec 18). -/
structure BringUp where
  /-- device state; 4 bits; R111, R670 DEV.STATE; reset OFF -/
  dev : DevState := .off
  /-- ordering code, 0 LGN7-2048, 1 LGN7-1984; 1 bit; R1, R669; reset 0, DESIGN CHOICE: the part modelled -/
  order : Nat := 0
  /-- Geneel serial; 64 bits; R554; reset 0, DESIGN CHOICE -/
  serial : Nat := 0
  /-- power-cycle count; 24 bits; R560, R628, R670 DEV.PCYCLE; reset 0, DESIGN CHOICE: flash of a part never used -/
  pcycle : Nat := 0
  /-- power-cycle count as the policy record holds it; 24 bits; R560; reset 0, DESIGN CHOICE: flash of a part never used -/
  pcycleStored : Nat := 0
  /-- configuration region of the firmware flash, empty while erased; 16 KiB; R631; reset empty, DESIGN CHOICE -/
  region : Bytes := []
  /-- units whose test of this bring-up has ended, (kind, index, instant); R624, R637, R639; reset empty -/
  tested : List (Nat × Nat × Nat) := []
  /-- bookings of domains (0 to 19) and of port trainings (32 + port) that wait for their instant; R504, R629; reset empty -/
  booked : List (Nat × Nat) := []
  /-- configuration record accepted; R634; reset false -/
  placed : Bool := false
  /-- a record was present and refused; R640 flag 1; reset false -/
  rejected : Bool := false
  /-- bolt number; 5 bits; R632; reset 0 -/
  bolt : Nat := 0
  /-- twin bit; 1 bit; R632; reset 0 -/
  twin : Nat := 0
  /-- digest of the record in force, empty for zero; 32 bytes; R632, R585; reset empty -/
  recordDigest : Bytes := []
  /-- durations of BOOT and STAGE1 to STAGE5 in ms; 16 bits each; R640; reset 0 -/
  durations : List Nat := [0, 0, 0, 0, 0, 0]
  /-- instant at which the running stage began; R629, R700; reset 0 -/
  stageSince : Nat := 0
  /-- defect map rows; at most 4,096; R638; reset empty, DESIGN CHOICE: flash of a part never used -/
  defects : List DefectRow := []
  /-- defect rows added at this bring-up; R640; reset 0 -/
  defectsAdded : Nat := 0
  /-- rows repaired at this bring-up per stack, (stack, rows); R641; reset empty -/
  repaired : List (Nat × Nat) := []
  /-- HALT was entered before STAGE2 ended; R82, R666; reset false -/
  haltedEarly : Bool := false
  /-- power domains switched on; PD0 to PD19; R486, R624; reset none -/
  domains : List Nat := []
  /-- the last instant at which each domain was switched on, (domain, instant); R629; reset none -/
  onAt : List (Nat × Nat) := []
  /-- domains ordered off at the next marker; R487; reset none -/
  domainsOffDue : List Nat := []
  /-- units listed as disabled in the record, (kind, index) of R488; R632; reset none -/
  disabledByRecord : List (Nat × Nat) := []
  /-- thermal trip latched until PWR_GOOD falls; R502, R695; reset false -/
  tripped : Bool := false
  /-- the clock check of BOOT failed; R624; reset false -/
  clockBad : Bool := false
  /-- HALT: the model's mark that clocks other than PD0 and PD1 are stopped; R610; reset false -/
  clocksStopped : Bool := false
  deriving DecidableEq, Repr

end Sys2Proof.Machine
end

