-- ==== Sys2Proof/Machine/HostTypes.lean ====
section
/-! DEFINITION. The state of the host interface (spec 03_command_packets and 20_register_map): rings, doorbells,
interrupts, the commands accepted and not yet ended, and the log of what the Geneel wrote to host memory. -/

namespace Sys2Proof.Machine

open Sys2Proof

/-- The three states of a ring pair (R93). -/
inductive RingState where
  | disabled | active | error
  deriving DecidableEq, Repr

/-- One ring pair of a host port (R83, R671, R674). -/
structure Ring where
  /-- state of the pair; 2 bits; R671 RING.STAT.STATE; reset DISABLED -/
  state : RingState := .disabled
  /-- host address of the submission ring; 64 bits; R671 RING.SQ_BASE; reset 0 -/
  sqBase : Nat := 0
  /-- host address of the completion ring; 64 bits; R671 RING.CQ_BASE; reset 0 -/
  cqBase : Nat := 0
  /-- log2 of the submission slots; 4 bits; R671 RING.CTRL.SQ_LOG; reset 7 -/
  sqLog : Nat := 7
  /-- log2 of the completion records; 4 bits; R671 RING.CTRL.CQ_LOG; reset 4 -/
  cqLog : Nat := 4
  /-- records per interrupt; 8 bits; R671 RING.CTRL.COAL_CNT; reset 1 -/
  coalCnt : Nat := 1
  /-- coalescing time in us; 8 bits; R671 RING.CTRL.COAL_US; reset 0 -/
  coalUs : Nat := 0
  /-- fetch stopped, awaiting final records; 1 bit; R671 RING.STAT.STOPPING; reset 0 -/
  stopping : Bool := false
  /-- the last enable was refused; 1 bit; R671 RING.STAT.CFG_ERR; reset 0 -/
  cfgErr : Bool := false
  /-- cause of ERROR 0 to 7; 4 bits; R671 RING.STAT.ERR_CAUSE, R673; reset 0 -/
  errCause : Nat := 0
  /-- submission count at the first slot of the offending packet; 32 bits; R671 RING.ERR_SLOT; reset 0 -/
  errSlot : Nat := 0
  /-- submission head; 32 bits; R671 RING.SQ_HEAD, R87; reset 0 -/
  sqHead : Nat := 0
  /-- free-running count of records written; 32 bits; R671 RING.CQ_TAIL; reset 0 -/
  cqTail : Nat := 0
  /-- expected ring sequence of the next packet; 32 bits; R671 RING.SEQ_EXP; reset 0 -/
  seqExp : Nat := 0
  /-- submission doorbell last accepted; 32 bits; R674 RING.SQ_DB; reset 0 -/
  sqDb : Nat := 0
  /-- completion doorbell last accepted; 32 bits; R674 RING.CQ_DB; reset 0 -/
  cqDb : Nat := 0
  /-- records written since the vector was last requested; R676; reset 0 -/
  unsignalled : Nat := 0
  /-- no further record is written to the ring (causes 5 of a write and 6); R673; reset false -/
  noWrite : Bool := false
  /-- doorbell count at which the packet at the head was found not wholly written; R86, R96; reset none -/
  short : Option Nat := none
  deriving DecidableEq, Repr

/-- One MSI-X table entry (R666, PCIe). -/
structure MsixEntry where
  /-- message address; 64 bits; R666; reset 0 -/
  addr : Nat := 0
  /-- message data; 32 bits; R666; reset 0 -/
  data : Nat := 0
  /-- vector mask bit; 1 bit; R666, R676; reset 1 as PCIe has it -/
  masked : Bool := true
  /-- its bit of the pending bit array; 1 bit; R666, R676; reset 0 -/
  pendingBit : Bool := false
  deriving DecidableEq, Repr

/-- The event window cursor of one host port (R618, R679). -/
structure EvtCursor where
  /-- EVT.CUR.INDEX, the record shown; 64 bits; R618; reset the first index -/
  index : Nat := 0
  /-- EVT.CUR.STATUS, 0 VALID, 1 PENDING, 2 CLEARED, 3 NONE; 2 bits; R618; reset 0 -/
  status : Nat := 0
  /-- EVT.CUR.FLASH, the snapshot was read from flash; 1 bit; R618; reset 0 -/
  flash : Bool := false
  /-- EVT.WIN.RECORD, the 64-byte snapshot, empty standing for zero; R618; reset 0 -/
  record : Bytes := []
  deriving DecidableEq, Repr

/-- A record that waits for ring 0 of its receiving port (R94). -/
structure Orphan where
  origPort : Nat
  origRing : Nat
  tag : Nat
  status : Nat
  detail : Nat
  execTick : Nat
  opcode : Nat
  resultLen : Nat
  seq : Nat
  trunc : Bool
  deriving DecidableEq, Repr

/-- A completion record as the Geneel wrote it (R109). -/
structure Completion where
  /-- host port of the completion ring written -/
  port : Nat
  /-- completion ring written -/
  cq : Nat
  /-- host address of the record -/
  addr : Nat
  tag : Nat
  status : Nat
  phase : Bool
  final : Bool
  trunc : Bool := false
  orphan : Bool := false
  /-- byte 7: submission ring and host port of the packet -/
  origRing : Nat
  origPort : Nat
  detail : Nat := 0
  execTick : Nat := 0
  opcode : Nat
  resultLen : Nat := 0
  seq : Nat
  deriving DecidableEq, Repr

/-- A host port with its function's BAR0 (R81, R83, R668, R677). -/
structure HostPort where
  /-- the port's PERST input is asserted; R635, R675; reset asserted false, DESIGN CHOICE -/
  perst : Bool := false
  /-- the PHY is enabled and trained, STAGE2 or later with PERST deasserted; R635; reset false -/
  linkUp : Bool := false
  /-- ring pairs by number, an unlisted ring being at its reset values; 64 rings; R671; reset none listed -/
  rings : List (Nat × Ring) := []
  /-- INT.CAUSE bits 0 to 5; 6 bits; R677; reset 0 -/
  cause : BitVec 6 := 0
  /-- INT.MASK bits 0 to 5; 6 bits; R677; reset 0 -/
  mask : BitVec 6 := 0
  /-- MSI-X entries by vector, an unlisted one at its reset values; 65 entries; R666; reset none listed -/
  msix : List (Nat × MsixEntry) := []
  /-- interrupt messages sent, by vector, oldest first (the model's record of its output); R676, R677; reset empty -/
  raised : List Nat := []
  /-- the event window cursor; R618, R679; reset as EvtCursor -/
  evt : EvtCursor := {}
  /-- records waiting for this port's ring 0, oldest first; at most 262,144; R94; reset empty -/
  orphans : List Orphan := []
  /-- (offset, upper half) latched by the last 4-byte read of a lower half; R668; reset none -/
  readLatch : Option (Nat × Nat) := none
  /-- (offset, lower half) of the 4-byte writes of RW quadwords awaiting their upper halves; R668; reset empty -/
  writeHold : List (Nat × Nat) := []
  /-- how the last configuration request was answered, true with Retry Status (the model's record of its output); R82; reset none -/
  configRetry : Option Bool := none
  /-- the value the last read of BAR0 returned (the model's record of its output); R667, R668; reset 0 -/
  readData : Nat := 0
  deriving DecidableEq, Repr

/-- An object that a command reserves (R115). -/
inductive Obj where
  | port (addr port : Nat) | job (j : Nat) | slice (j : Nat) | group (g : Nat) | plan (p : Nat) | table (t : Nat) | generation (j slot : Nat)
  | unit (kind idx : Nat) | epoch | accessEntry (slot : Nat) | target (job : Nat) | shelf (n : Nat) | tickGen
  | discovery | policy | role | peers | carve | store | oppoint | severity | pins | debug
  deriving DecidableEq, Repr

/-- What a fetched command without a final record waits for. -/
inductive CmdPhase where
  /-- fetched behind an ORD packet, or itself ORD, and not yet accepted (R114) -/
  | ordered
  /-- held for the other signature until `expiry`; credential 1 or 2 given (R103) -/
  | signature (cred expiry : Nat)
  /-- queued behind a drain since acceptance (R116) -/
  | drain
  /-- accepted and waiting for its tick of effect (R69), or for its agents' replies -/
  | timed
  /-- its effect has begun and its final record is posted by a later event -/
  | running
  deriving DecidableEq, Repr

/-- A command fetched and without its final record (R69, R89, R103, R116). -/
structure Cmd where
  /-- number the model gives it, in order of acceptance -/
  id : Nat
  /-- the packet -/
  pkt : Packet
  /-- master slot it acts for (R107) -/
  master : Nat
  phase : CmdPhase
  /-- instant (R700) of fetch or acceptance -/
  since : Nat
  /-- instant (R700) at which it is due to take effect -/
  due : Nat
  /-- an agent message has been sent or an effect has begun (R117) -/
  begun : Bool := false
  /-- its ST_PENDING record has been posted (R110) -/
  pendingPosted : Bool := false
  /-- MSGIDs whose replies it awaits (R118) -/
  awaits : List Nat := []
  /-- objects it reserves (R115) -/
  reserves : List Obj := []
  /-- a packet with the other credential that completes the same hold gets the same final record (R103) -/
  twinPkt : Option Packet := none
  /-- stage of a command of several stages, numbered by its owning chapter -/
  stage : Nat := 0
  /-- numbers the owning chapter keeps between stages -/
  data : List Nat := []
  /-- what agents have answered for its result, in the order asked: message number and bytes -/
  parts : List (Nat × Bytes) := []
  /-- status to give at the end in place of ST_OK, set by a delay (R65) or shortfall; 0 none -/
  endStatus : Nat := 0
  endDetail : Nat := 0
  /-- host ports whose PERST has disabled its rings since it was accepted: its records there are orphans; R675 -/
  cut : List Nat := []
  /-- tick in which its effect, or the last part of it, came about, where its final record is posted later; R66, R74 -/
  effect : Option Nat := none
  deriving DecidableEq, Repr

/-- Host memory as the Geneel writes it: a result or a record (R91, R97, R109). -/
structure HostWrite where
  port : Nat
  addr : Nat
  bytes : Bytes
  deriving DecidableEq, Repr

/-- The host interface (spec 03, 20). -/
structure HostIf where
  /-- host ports H0 and H1; R81; reset both as HostPort -/
  h0 : HostPort := {}
  /-- host port H1; R81; reset as HostPort -/
  h1 : HostPort := {}
  /-- commands fetched that have no final record, in order of acceptance; R69, R89, R103, R110; reset empty -/
  cmds : List Cmd := []
  /-- number the next command takes (the model's own); reset 0 -/
  nextCmd : Nat := 0
  /-- signed commands accepted since power-up, bits [39:0] of the change counter; 40 bits; R101; reset 0 -/
  signed : Nat := 0
  /-- completion records written, oldest first (the model's record of its output); R109; reset empty -/
  completions : List Completion := []
  /-- results and records written to host memory, in the order written (the model's record of its output); R91, R97, R109; reset
  empty -/
  results : List HostWrite := []
  /-- TEL.GEN; 32 bits; R681; reset 0 -/
  telGen : Nat := 0
  /-- telemetry block as latched, from bit 32 on; R681; reset empty for zero -/
  tel : Bytes := []
  /-- flits sent by all fabric ports at the last latch; R681; reset 0 -/
  telFlits : Nat := 0
  /-- commands dispatched in this tick; R72; reset 0 -/
  dispatched : Nat := 0
  /-- rings served in this tick, the tie-break's g of R76, R71; reset 0 -/
  grants : Nat := 0
  deriving DecidableEq, Repr

end Sys2Proof.Machine
end

