-- ==== Sys2Proof/Machine/SecTypes.lean ====
section
/-! DEFINITION. The state of Selvedge (spec 16_selvedge_security): policy record, images, keys, security log, debug. -/

namespace Sys2Proof.Machine

open Sys2Proof

/-- The key policy (R572). -/
structure KeyPolicy where
  /-- flag REATTEST; R572; reset false, R568 -/
  reattest : Bool := false
  /-- minimum agent version; 8 bits; R572; reset 3, R568 -/
  minVersion : Nat := 3
  /-- accepted measurement digests; at most 64; R572; reset empty, R568 -/
  digests : List Bytes := []
  /-- exempt jobs; at most 256; R572; reset empty, R568 -/
  exempt : List Nat := []
  /-- link key lifetime in ticks, 0 none; 32 bits; R572; reset 0 -/
  linkLife : Nat := 0
  /-- memory key lifetime in ticks, 0 none; 32 bits; R572; reset 0 -/
  memLife : Nat := 0
  /-- re-attestation interval in ticks; 32 bits; R572; reset 0 -/
  interval : Nat := 0
  deriving DecidableEq, Repr

/-- The policy record (R559). -/
structure Policy where
  /-- policy version; 64 bits; R559, R560; reset 0, DESIGN CHOICE: a part never enrolled -/
  version : Nat := 0
  /-- OPERATOR public key, empty while not enrolled; 1,793 bytes; R559, R561; reset empty -/
  operator : Bytes := []
  /-- CUSTODIAN public key, empty while not enrolled; 1,793 bytes; R559, R561; reset empty -/
  custodian : Bytes := []
  /-- key policy; R568, R572; reset the default -/
  keys : KeyPolicy := {}
  /-- minimum firmware version; 32 bits; R558, R568; reset 0 -/
  minFw : Nat := 0
  /-- revoked image digests; at most 16; R558, R568; reset empty -/
  revoked : List Bytes := []
  /-- boot slot, 0 A, 1 B; R559, R561; reset 0 -/
  bootSlot : Nat := 0
  /-- slot before the last FW_ACTIVATE; R557; reset 0 -/
  prevSlot : Nat := 0
  /-- trial boots left plus one, 0 when no trial runs; R557; reset 0 -/
  trials : Nat := 0
  deriving DecidableEq, Repr

/-- An image slot of the firmware flash (R555). -/
structure ImageSlot where
  /-- header and certificate chain in order; R555, R556 -/
  present : Bool := false
  /-- firmware version; 32 bits; R555 -/
  version : Nat := 0
  /-- image digest; 32 bytes; R555 -/
  digest : Bytes := []
  /-- body length; 32 bits; R555, R625 -/
  length : Nat := 0
  /-- the signature and digest verify; R556 -/
  verified : Bool := false
  deriving DecidableEq, Repr

/-- A security log record (R587). -/
structure SecRec where
  index : Nat
  pcycle : Nat
  kind : Nat
  tick : Nat
  opcode : Nat
  signers : Nat
  job : Nat
  change : Nat
  subject : Bytes
  chain : Bytes
  deriving DecidableEq, Repr

/-- A job key that this Geneel holds (R576). -/
structure HeldKey where
  job : Nat
  /-- 0 link, 1 memory -/
  kind : Nat
  generation : Nat
  key : Bytes
  /-- in force for sending or writing -/
  current : Bool
  /-- instant at which it came into force, for its lifetime (R579) -/
  since : Nat
  /-- it has been in force; a staged key that has not is erased unused (R79) -/
  used : Bool := false
  /-- instant of the switch that a staged key is for, once it is known: with the generation, its assumption tag; R78, R79 -/
  tag : Option Nat := none
  deriving DecidableEq, Repr

/-- A node that holds a job's key (R577, R580). -/
structure KeyHolder where
  job : Nat
  kind : Nat
  addr : Nat
  deriving DecidableEq, Repr

/-- Where a rotation stands (R580, R581). -/
inductive RotationStage where
  /-- the new generation is being installed -/
  | installing
  /-- every holder has it and has been told to switch -/
  | ordered
  /-- link: switched, KEY_ERASE of the old slot not yet sent -/
  | erasing
  /-- link: KEY_ERASE sent, replies outstanding -/
  | erased
  /-- memory: sweeps run; serving Geneels that have not reported state 2 are outstanding -/
  | sweeping
  /-- memory: the erasure is due -/
  | ending
  /-- at a serving Geneel that is not the key owner: the key is being installed in its bolt -/
  | serving
  deriving DecidableEq, Repr

/-- A rotation under way (R580, R581), at the key owner or at a serving Geneel. -/
structure Rotation where
  job : Nat
  kind : Nat
  /-- the new generation -/
  generation : Nat
  /-- instant of the switch -/
  due : Nat
  /-- the job becomes exempt: there is no new generation (R573) -/
  plain : Bool := false
  /-- the command, none for an automatic rotation -/
  cmd : Option Nat := none
  stage : RotationStage := .installing
  /-- nodes not yet installed, not yet erased, or not yet swept -/
  outstanding : List Nat := []
  /-- instant named for the erasure -/
  eraseAt : Nat := 0
  /-- address of the key owner, for `serving` -/
  owner : Nat := 0xFFFF
  deriving DecidableEq, Repr

/-- A KEY_ORDER that waits for its tick at a serving Geneel (R574, R580, R581). -/
structure KeyOrder where
  job : Nat
  kind : Nat
  /-- 0 switch, 1 erase -/
  op : Nat
  generation : Nat
  /-- instant -/
  at_ : Nat
  owner : Nat
  deriving DecidableEq, Repr

/-- An attestation of an agent that is under way (R569 to R571). -/
structure Attesting where
  addr : Nat
  serial : Nat
  path : List Nat
  nonce : Bytes
  /-- message numbers of the two CERT messages and of SESSION -/
  cert0 : Nat
  cert1 : Nat
  session : Option Nat := none
  cert : Bytes := []
  /-- the evidence, once it is in and good -/
  evidence : Bytes := []
  /-- instant of CERT; R213 -/
  since : Nat := 0
  deriving DecidableEq, Repr

/-- Work that Selvedge has done in a tick (R550). -/
structure SelvedgeUse where
  /-- Falcon-1024 signatures -/
  sig : Nat := 0
  /-- Falcon-1024 verifications -/
  ver : Nat := 0
  /-- ML-KEM-1024 encapsulations and decapsulations -/
  kem : Nat := 0
  /-- key wraps -/
  wrap : Nat := 0
  deriving DecidableEq, Repr

/-- Selvedge (spec 16). -/
structure Sec where
  /-- policy record in use; R559; reset the unenrolled default -/
  policy : Policy := {}
  /-- a policy copy authenticates; R561; reset false: the record region is erased, DESIGN CHOICE -/
  recordPresent : Bool := false
  /-- image slots A and B; R555; reset none present, DESIGN CHOICE -/
  slotA : ImageSlot := {}
  /-- image slot B; R555; reset none present, DESIGN CHOICE -/
  slotB : ImageSlot := {}
  /-- running slot, 0 A, 1 B; R556, R669 ID.SLOT; reset 0 -/
  runSlot : Nat := 0
  /-- trial boot; R557, R669 ID.TRIAL; reset false -/
  trial : Bool := false
  /-- fallback at the last boot; R556, R585; reset false -/
  fallback : Bool := false
  /-- activation pending for the next reset; R558; reset none -/
  activated : Option Nat := none
  /-- security log records readable, oldest first; at most 65,536; R587; reset empty -/
  log : List SecRec := []
  /-- security log first index; 64 bits; R587; reset 0, DESIGN CHOICE: flash of a part never used -/
  logFirst : Nat := 0
  /-- security log next index; 64 bits; R587; reset 0, DESIGN CHOICE: flash of a part never used -/
  logNext : Nat := 0
  /-- debug session open; R591, R670 DEV.DEBUG; reset false -/
  debugOpen : Bool := false
  /-- debug scope; 3 bits; R590; reset 0 -/
  debugScope : Nat := 0
  /-- tick of the debug unlock; 48 bits; R585; reset 0 -/
  debugTick : Nat := 0
  /-- debug token digest; 32 bytes; R590; reset empty for zero -/
  debugToken : Bytes := []
  /-- debug nonce and its instant of issue; R589; reset none -/
  nonce : Option (Bytes × Nat) := none
  /-- keys held; R576; reset none, the key store being zeroed at every reset -/
  keys : List HeldKey := []
  /-- nodes holding each job's keys, as the key owner knows them; R577; reset empty -/
  holders : List KeyHolder := []
  /-- agent session keys, address to key; R176; reset empty -/
  sessions : List (Nat × Bytes) := []
  /-- rotations under way; R580, R581; reset empty -/
  rotations : List Rotation := []
  /-- KEY_ORDERs that wait for their tick; R574, R581; reset empty -/
  orders : List KeyOrder := []
  /-- attestations under way; R212, R571, R572; reset empty -/
  attesting : List Attesting := []
  /-- re-attestation interval: instant of the last pass; R572; reset 0 -/
  reattested : Nat := 0
  /-- work of Selvedge in this tick; R550; reset 0 of each -/
  used : SelvedgeUse := {}
  deriving DecidableEq, Repr

end Sys2Proof.Machine
end

