-- ==== Sys2Proof/Machine/TwinTypes.lean ====
section
/-! DEFINITION. The state of the twin pair and of the peers (spec 19_twin_and_peers), and the messages of the Geneel on
their way (spec 05_agent_protocol R160, R166, 03_command_packets R118). -/

namespace Sys2Proof.Machine

open Sys2Proof

/-- Mirror states in the order of their codes (R653, R664). -/
inductive MirrorState where
  | inSync | resync | single | none
  deriving DecidableEq, Repr

/-- A mirror delta (R649): its sequence, tick of effect, kind, object and data. -/
structure Delta where
  seq : Nat
  tick : Nat
  kind : Nat
  last : Bool
  obj : Nat
  data : Bytes
  /-- what it says, at the SECONDARY -/
  item : Option MirrorItem := none
  /-- instant of sending, or of arrival at the SECONDARY -/
  at_ : Nat := 0
  /-- the M port that it was last sent on, 36 or 37; R648, R652 -/
  port : Nat := 36
  deriving DecidableEq, Repr

/-- An object of the mirror image (R650, R653): kind, object ID, the data of its last delta and that delta's tick of effect as an
instant. -/
structure Mirrored where
  kind : Nat
  obj : Nat
  data : Bytes
  at_ : Nat := 0
  deriving DecidableEq, Repr

/-- A timed action of the PRIMARY as its twin knows it (R650 kind 11, R657). -/
structure MirrorAction where
  dst : Nat
  type : Nat
  body : Bytes
  /-- instant of its effect -/
  at_ : Nat
  deriving DecidableEq, Repr

/-- One listed peer (R659, R660, R665). -/
structure Peer where
  /-- Geneel ID; R659 -/
  id : Nat
  /-- device serial; 64 bits; R659 -/
  serial : Nat
  /-- tick of the last hello, instant of R700; none before the first; R661 -/
  heard : Option Nat := none
  /-- tick number of the last hello; R665 -/
  heardTick : Nat := 0
  /-- role of the last hello, 0 PRIMARY, 1 SECONDARY; R660 -/
  role : Nat := 1
  /-- device state of the last hello, coded as R111; R660 -/
  dev : Nat := 0
  /-- good Damask tiles of the last hello; R660 -/
  tiles : Nat := 0
  /-- token of the last hello; R660 -/
  token : Nat := 0
  /-- the last hello carried another list digest; R661 -/
  mismatch : Bool := false
  /-- absent under R661 -/
  absent : Bool := true
  /-- instant since which its hellos show a healthy PRIMARY; R53; reset none -/
  healthySince : Option Nat := none
  /-- peer session key; R574, R575 -/
  session : Option Bytes := none
  /-- nonce of this Geneel in the PEER_SESSION exchange that runs, none while none runs; R574; reset none -/
  ownNonce : Option Bytes := none
  /-- the peer's nonce in it; R574; reset empty -/
  farNonce : Bytes := []
  /-- the peer's device certificate; R574; reset empty -/
  farCert : Bytes := []
  /-- number of the key pair of the exchange that runs, at the higher ID; R574; reset 0 -/
  kem : Nat := 0
  /-- MSGIDs of this Geneel and of the peer at which the session began; R575; reset 0 -/
  since : Nat × Nat := (0, 0)
  deriving DecidableEq, Repr

/-- A request to an agent or a Geneel that awaits its reply (R118). -/
structure Waiting where
  msg : Msg
  /-- instant of the last sending -/
  sentAt : Nat
  resent : Bool := false
  /-- command it belongs to -/
  cmd : Option Nat := none
  /-- what the owning chapter does with the reply, numbered there -/
  purpose : Nat := 0
  deriving DecidableEq, Repr

/-- A message that waits for its budget or for the agent's room (R72, R74, R156). -/
structure OutMsg where
  msg : Msg
  /-- it is one of the messages of R73 -/
  reserved : Bool := false
  /-- its request awaits a reply, so that it counts among the 128 flits of R156 -/
  asks : Bool := false
  /-- the agent that it goes to, whatever its DST; R156 -/
  about : Nat := 0xFFFF
  /-- command it belongs to; R74 -/
  cmd : Option Nat := none
  /-- instant at which it would have left -/
  since : Nat := 0
  deriving DecidableEq, Repr

/-- Flits that this Geneel has sent on one of its ports in this tick (R72). -/
structure PortUse where
  port : Nat
  /-- VC0 flits -/
  vc0 : Nat := 0
  /-- of these, flits of the messages of R73 -/
  reserved : Nat := 0
  /-- VC1 flits -/
  vc1 : Nat := 0
  deriving DecidableEq, Repr

/-- Role, mirror and peers (spec 19). -/
structure Twin where
  /-- role, 0 PRIMARY, 1 SECONDARY; 1 bit; R643, R670; reset 1 -/
  role : Nat := 1
  /-- a role has been assigned; R653; reset false -/
  assigned : Bool := false
  /-- fencing token or standby token; 64 bits; R643; reset 0 -/
  token : Nat := 0
  /-- NOAUTO; R644; reset false -/
  noAuto : Bool := false
  /-- deposed; R647, R664; reset false -/
  deposed : Bool := false
  /-- deposition due at the next marker, with the higher token; R647; reset none -/
  deposeDue : Option Nat := none
  /-- mirror state; 2 bits; R653, R670; reset NONE -/
  mirror : MirrorState := .none
  /-- twin's role as last heard; R664; reset none -/
  heardRole : Option Nat := none
  /-- twin's device state as last heard; R649; reset 0 -/
  heardDev : Nat := 0
  /-- twin's mirror state as last heard; R655; reset 3 -/
  heardMirror : Nat := 3
  /-- twin's token as last heard; 64 bits; R664; reset 0 -/
  heardToken : Nat := 0
  /-- instant of the last heartbeat; R654; reset none -/
  heartbeat : Option Nat := none
  /-- tick of the last heartbeat; 48 bits; R664; reset 0 -/
  heartbeatTick : Nat := 0
  /-- instant at which a HALT_NOTICE has arrived; R655; reset none -/
  haltNotice : Option Nat := none
  /-- the bolt holds a version 2 agent, own or as heard; R203, R649; reset false -/
  version2 : Bool := false
  /-- sequence number of the next delta sent; 32 bits; R649; reset 1 -/
  nextSeq : Nat := 1
  /-- deltas sent and not acknowledged, oldest first; R651; reset empty -/
  unacked : List Delta := []
  /-- highest sequence acknowledged; 32 bits; R649; reset 0 -/
  acked : Nat := 0
  /-- highest sequence received without a gap; 32 bits; R649; reset 0 -/
  received : Nat := 0
  /-- deltas held for their tick of effect; R651; reset empty -/
  held : List Delta := []
  /-- the mirror image: objects by kind and ID; R650, R653; reset empty -/
  image : List Mirrored := []
  /-- timed actions of the PRIMARY that are not past; R650, R657; reset empty -/
  actions : List MirrorAction := []
  /-- RESYNC_DATA bytes stored, (offset, data); R653; reset empty -/
  resyncData : List (Nat × Bytes) := []
  /-- what the RESYNC_DATA stored says; R653; reset empty -/
  resyncItems : List MirrorItem := []
  /-- PRIMARY: a snapshot is due at the next marker; R653; reset false -/
  resyncDue : Bool := false
  /-- PRIMARY: the twin has acknowledged the snapshot; SECONDARY: the image is complete; R653; reset false -/
  resyncDone : Bool := false
  /-- snapshot sequence of the running resync; R649; reset none -/
  resyncSeq : Option Nat := none
  /-- resync progress in bytes; R664; reset 0 -/
  resyncBytes : Nat := 0
  /-- M port used for the last delta, 36 or 37; R648; reset 37 -/
  lastPort : Nat := 37
  /-- tick of the last takeover; 48 bits; R664; reset 0 -/
  takeoverTick : Nat := 0
  /-- takeovers since bring-up; 32 bits; R664; reset 0 -/
  takeovers : Nat := 0
  /-- deltas resent; 32 bits; R664; reset 0 -/
  deltasResent : Nat := 0
  /-- listed peers, ascending Geneel ID; at most 64; R659; reset empty -/
  peers : List Peer := []
  /-- digest of the list, empty while there is none; R660; reset empty -/
  listDigest : Bytes := []
  deriving DecidableEq, Repr

/-- The end of a command that waits for the twin's acknowledgement (R651). -/
structure HeldEnd where
  /-- highest sequence it depends on -/
  seq : Nat
  id : Nat
  status : Nat
  detail : Nat
  tick : Nat
  result : Bytes
  deriving DecidableEq, Repr

/-- Messages of the Geneel on their way (R159, R160, R166). -/
structure Mail where
  /-- number the next message takes; 32 bits; R160; reset 0 -/
  nextMsg : Nat := 0
  /-- messages sent, oldest first (the model's record of its output); R160; reset empty -/
  sent : List Msg := []
  /-- requests awaiting replies; R118; reset empty -/
  waiting : List Waiting := []
  /-- messages that wait for their budget, oldest first; R72, R74, R156; reset empty -/
  outbox : List OutMsg := []
  /-- flits of messages sent in this tick, by port; R72; reset empty -/
  used : List PortUse := []
  /-- work that Selvedge has done in this tick for messages; R550; reset 0 -/
  selvedge : SelvedgeUse := {}
  /-- entries of TABLE_WRITE sent in this tick, by agent; R75; reset empty -/
  written : List (Nat × Nat) := []
  /-- flits of the messages sent that wait for the output queue of their port, none where no port leads to their destination, oldest first;
  R152, R160, R162; reset empty -/
  flits : List (Option Nat × Flit) := []
  /-- reads of counter block 3 under way: message number, first index and the jobs of the slots read; R530; reset empty -/
  reads : List (Nat × Nat × List Nat) := []
  /-- link changes learned and not yet in the topology record, node address and 12-byte port record; R226; reset empty -/
  linkNews : List (Nat × Bytes) := []
  /-- messages that wait for the twin's acknowledgement, with the sequence they depend on; R651; reset empty -/
  gate : List (Nat × Msg) := []
  /-- ends of commands that wait for the twin's acknowledgement; R651; reset empty -/
  heldEnds : List HeldEnd := []
  deriving DecidableEq, Repr

end Sys2Proof.Machine
end

