-- ==== Sys2Proof/Machine/State.lean ====
section
/-! DEFINITION. The state of the block, as plain data: everything the spec gives the Geneel, the Olnan agent modelled
beside it, and the queue of commands waiting. -/

namespace Sys2Proof.Machine

open Sys2Proof

/-- The state of the block. -/
structure State where
  /-- commands waiting, first in, first out; the model's own queue; reset empty -/
  pending : List Instr := []
  /-- host ports, rings, commands and records (spec 03, 20) -/
  host : HostIf := {}
  /-- tick generator and counter (spec 02) -/
  clock : Clock := {}
  /-- units, fault handling and the event record (spec 01, 17) -/
  faults : Faults := {}
  /-- pins (spec 21) -/
  pins : Pins := {}
  /-- device state, bring-up and the configuration record (spec 18) -/
  up : BringUp := {}
  /-- stream table, an unlisted stream ID being an all-zero entry; 65,536 entries; R28, R29; reset none VALID -/
  streams : List (Nat × Stream) := []
  /-- carve value T; 6 bits; R36, R38; reset 31 -/
  carve : Nat := 31
  /-- fabric ports by port index of R488, an unlisted one at its reset values; R121 -/
  ports : List (Nat × Port) := []
  /-- slices, access tables (spec 09) -/
  access : AccessState := {}
  /-- twin and peers (spec 19) -/
  twin : Twin := {}
  /-- Selvedge (spec 16) -/
  sec : Sec := {}
  /-- messages (spec 05) -/
  mail : Mail := {}
  /-- the Olnan agent modelled (spec 05) -/
  agent : Agent := {}
  /-- discovery, topology record, solver, route epochs (spec 06, 07, 08) -/
  fabric : Fabric := {}
  /-- power, current and temperature (spec 14) -/
  power : Power := {}
  /-- collective groups (spec 10) -/
  twill : Twill := {}
  /-- exchange plans (spec 11) -/
  jacquard : Jacquard := {}
  /-- table service (spec 12) -/
  calico : Calico := {}
  /-- restart store (spec 13) -/
  store : Store := {}
  /-- Buckram (spec 15) -/
  buckram : Buckram := {}
  /-- free values drawn so far: the argument of the next free value, the model's own; reset 0, DESIGN CHOICE -/
  drawn : Nat := 0
  deriving DecidableEq, Repr

/-- Why a run could stop with a fault. No command of the spec stops the block: a command that the spec gives no effect in
the state it finds leaves the state as it is, and every trap or refusal of the spec is a completion record. The type is
empty, which is safe. -/
inductive Fault where
  deriving DecidableEq, Repr

/-- Why a command has no meaning. -/
inductive Refusal where
  /-- raised by a dispatch arm whose meaning is not written; safe: the model stops where the hardware goes on -/
  | notModelled (mnemonic : String)
  deriving DecidableEq, Repr

/-- The machine right after reset: power good not yet risen, the device OFF (R111, R623), every register at the value its
field's docstring states. -/
def State.reset : State := {}

end Sys2Proof.Machine
end

