-- ==== Sys2Proof/Machine/Ops.lean ====
section
/-! DEFINITION. The operations that every family shares: host ports and rings, interrupts, records, units, faults and the
event record, messages, streams, the core rail. Each says once, with its rule, what the spec says of it. -/

namespace Sys2Proof.Machine

open Sys2Proof

/-! ### Time -/

/-- The tick of a record, result or register: 0 until the first marker (R700). -/
def State.tickNow (s : State) : Nat := s.clock.tick

/-- Number of a marker, or of the local instant that stands for it (R700). -/
def State.markerNo (s : State) : Nat := if s.clock.loaded then s.clock.tick else s.clock.now

/-- How a tick `d` ticks ahead is named in a detail or field: the tick, or before the first marker the number of ticks that
remain (R700). -/
def State.nameTick (s : State) (d : Nat) : Nat := if s.clock.loaded then s.clock.tick + d else d

/-- The instant (R700) at which tick `t` begins, seen from now. -/
def State.instantOf (s : State) (t : Nat) : Nat := s.clock.now + (t - s.clock.tick)

/-- The tick at which the instant `i` falls, seen from now, named as R700 says. -/
def State.tickAt (s : State) (i : Nat) : Nat := s.nameTick (i - s.clock.now)

/-- The tick of an instant that may have passed: the tick number of a past one, 0 for one before the first tick (R519, R700). -/
def State.tickOf (s : State) (i : Nat) : Nat := if s.clock.now ≤ i then s.tickAt i else s.tickNow - (s.clock.now - i)

/-- A duration in microseconds counted in ticks (R46). -/
def State.ticks (s : State) (us : Nat) : Nat := cdiv us s.clock.period

/-- Draw the argument of the next free value. -/
def State.draw (s : State) : State × Nat := ({ s with drawn := s.drawn + 1 }, s.drawn)

/-! ### Host ports and rings -/

/-- Host port 0 H0 or 1 H1 (R81). -/
def State.hostPort (s : State) (p : Nat) : HostPort := if p = 0 then s.host.h0 else s.host.h1

/-- Replace a host port. -/
def State.setHostPort (s : State) (p : Nat) (h : HostPort) : State :=
  if p = 0 then { s with host := { s.host with h0 := h } } else { s with host := { s.host with h1 := h } }

/-- Change a host port. -/
def State.modHostPort (s : State) (p : Nat) (f : HostPort → HostPort) : State := s.setHostPort p (f (s.hostPort p))

/-- A ring pair of a host port (R83). -/
def HostPort.ring (h : HostPort) (r : Nat) : Ring := (kvGet h.rings r).getD {}

/-- A ring pair (R83). -/
def State.ring (s : State) (p r : Nat) : Ring := (s.hostPort p).ring r

/-- Replace a ring pair. -/
def State.setRing (s : State) (p r : Nat) (x : Ring) : State :=
  s.modHostPort p (fun h => { h with rings := kvSet h.rings r x })

/-- Slots of the submission ring (R84). -/
def Ring.slots (r : Ring) : Nat := 2 ^ r.sqLog

/-- Records of the completion ring (R84). -/
def Ring.records (r : Ring) : Nat := 2 ^ r.cqLog

/-- A ring takes records while it is ACTIVE, or stopping, or in ERROR for a cause that does not end its records
(R93, R672, R673). -/
def Ring.takesRecords (r : Ring) : Bool := r.state != .disabled && !r.noWrite

/-! ### Interrupts -/

/-- Request an MSI-X vector of a function: sent, or pending while masked (R676, R677). -/
def HostPort.request (h : HostPort) (v : Nat) : HostPort :=
  let e := (kvGet h.msix v).getD {}
  if e.masked then { h with msix := kvSet h.msix v { e with pendingBit := true } }
  else { h with raised := h.raised ++ [v] }

/-- An interrupt cause arises in one function's block: vector 64 is requested when an unmasked cause goes from 0 to 1
(R677). -/
def HostPort.setCause (h : HostPort) (c : Nat) : HostPort :=
  if h.cause.getLsbD c then h
  else
    let h' := { h with cause := h.cause ||| (1#6 <<< c) }
    if h.mask.getLsbD c then h' else h'.request 64

/-- A cause arises in both functions; entry to HALT requests no interrupt (R677). -/
def State.raiseCause (s : State) (c : Nat) : State :=
  { s with host := { s.host with h0 := s.host.h0.setCause c, h1 := s.host.h1.setCause c } }

/-- One record was written to a ring: coalescing (R676). -/
def Ring.recordWritten (r : Ring) : Ring × Bool :=
  if r.coalCnt = 0 then (r, false)
  else if r.unsignalled + 1 ≥ r.coalCnt then ({ r with unsignalled := 0 }, true)
  else ({ r with unsignalled := r.unsignalled + 1 }, false)

/-! ### Device state -/

/-- Codes of the device states (R111). -/
def DevState.code : DevState → Nat
  | .off => 0 | .boot => 1 | .stage1 => 2 | .stage2 => 3 | .stage3 => 4 | .stage4 => 5 | .stage5 => 6
  | .ready => 7 | .run => 8 | .degraded => 9 | .fault => 10 | .halt => 11

/-- The device state changes: INT.CAUSE.STATE, but for entry to HALT (R622, R677). -/
def State.setDev (s : State) (d : DevState) : State :=
  if s.up.dev = d then s
  else
    let s' := { s with up := { s.up with dev := d, haltedEarly := d == .halt && decide (s.up.dev.code < 4) } }
    if d = .halt || d = .off then s' else s'.raiseCause 1

/-- Healthy for mastership: READY, RUN or DEGRADED (R49). -/
def DevState.healthy : DevState → Bool
  | .ready | .run | .degraded => true
  | _ => false

/-! ### Units and sources -/

/-- Units built, by kind of R641. -/
def unitCount : Nat → Nat
  | 1 => 4 | 2 => 1 | 3 => 1 | 4 => 2 | 5 => 144 | 6 => 32 | 7 => 4 | 8 => 40 | 9 => 64 | 10 => 8 | 11 => 16
  | 12 => 32 | 13 => 8 | 14 => 16 | 15 => 48 | 16 => 64 | _ => 0

/-- Source ID of a unit (R593). -/
def unitSource (kind idx : Nat) : Nat :=
  match kind with
  | 1 => 0xF100 + idx | 2 => 0xF110 | 3 => 0xF118 | 4 => 0xF120 + idx | 5 => 0xF200 + idx | 6 => 0xF300 + idx
  | 7 => 0xF320 + idx | 8 => 0xF400 + idx | 9 => 0xF500 + idx | 10 => 0xF580 + idx | 11 => 0xF600 + idx
  | 12 => 0xF680 + idx | 13 => 0xF700 + idx | 14 => 0xF780 + idx | 15 => 0xF840 + idx | 16 => 0xF800 + idx
  | _ => 0xFFFF

/-- What a source ID names (R593). -/
inductive Source where
  | endpoint | switch | spare | peer | unit (kind idx : Nat) | adder (port : Nat) | tickLogic | power | damask
  | firmware (n : Nat) | invalid
  deriving DecidableEq, Repr

/-- Read a source ID (R593). -/
def sourceOf (x : Nat) : Source :=
  if x < 0x8000 then .endpoint
  else if x < 0xE000 then .switch
  else if x < 0xE400 then .spare
  else if x < 0xF000 then .invalid
  else if x < 0xF040 then .peer
  else if 0xF100 ≤ x ∧ x < 0xF104 then .unit 1 (x - 0xF100)
  else if x = 0xF110 then .unit 2 0
  else if x = 0xF118 then .unit 3 0
  else if x = 0xF120 ∨ x = 0xF121 then .unit 4 (x - 0xF120)
  else if x = 0xF128 then .tickLogic
  else if x = 0xF130 then .power
  else if 0xF200 ≤ x ∧ x < 0xF290 then .unit 5 (x - 0xF200)
  else if 0xF300 ≤ x ∧ x < 0xF320 then .unit 6 (x - 0xF300)
  else if 0xF320 ≤ x ∧ x < 0xF324 then .unit 7 (x - 0xF320)
  else if 0xF400 ≤ x ∧ x < 0xF428 then .unit 8 (x - 0xF400)
  else if 0xF440 ≤ x ∧ x < 0xF468 then .adder (x - 0xF440)
  else if 0xF500 ≤ x ∧ x < 0xF540 then .unit 9 (x - 0xF500)
  else if x = 0xF540 then .damask
  else if 0xF580 ≤ x ∧ x < 0xF588 then .unit 10 (x - 0xF580)
  else if 0xF600 ≤ x ∧ x < 0xF610 then .unit 11 (x - 0xF600)
  else if 0xF680 ≤ x ∧ x < 0xF6A0 then .unit 12 (x - 0xF680)
  else if 0xF700 ≤ x ∧ x < 0xF708 then .unit 13 (x - 0xF700)
  else if 0xF780 ≤ x ∧ x < 0xF790 then .unit 14 (x - 0xF780)
  else if 0xF800 ≤ x ∧ x < 0xF840 then .unit 16 (x - 0xF800)
  else if 0xF840 ≤ x ∧ x < 0xF870 then .unit 15 (x - 0xF840)
  else if 0xF900 ≤ x ∧ x < 0xF90E then .firmware (x - 0xF900)
  else .invalid

/-- The unit a source names; a port adder shares its port's fence (R27). -/
def sourceUnit (x : Nat) : Option (Nat × Nat) :=
  match sourceOf x with
  | .unit k i => some (k, i)
  | .adder p => some (8, p)
  | _ => none

/-- The record of a unit that is not plainly ACTIVE. -/
def State.unitRec (s : State) (kind idx : Nat) : Option UnitRec :=
  s.faults.units.find? (fun u => u.kind == kind && u.index == idx)

/-- Status of a unit; one that is not listed is ACTIVE. -/
def State.unitStatus (s : State) (kind idx : Nat) : UnitStatus :=
  match s.unitRec kind idx with
  | some u => u.status
  | none => .active

/-- Set the record of a unit. -/
def State.setUnit (s : State) (u : UnitRec) : State :=
  { s with faults := { s.faults with
      units := insertBy (fun v => v.kind * 256 + v.index)
        (s.faults.units.filter (fun v => !(v.kind == u.kind && v.index == u.index))) u } }

/-- Make a unit plainly ACTIVE. -/
def State.clearUnit (s : State) (kind idx : Nat) : State :=
  { s with faults := { s.faults with
      units := s.faults.units.filter (fun v => !(v.kind == kind && v.index == idx)) } }

/-- A unit does work: ACTIVE or DRAINING. -/
def State.unitGood (s : State) (kind idx : Nat) : Bool :=
  match s.unitStatus kind idx with
  | .active | .draining => true
  | _ => false

/-- A unit counts as lost: FENCING, FENCED or absent (R604). -/
def UnitStatus.lost : UnitStatus → Bool
  | .fencing | .fenced | .absent => true
  | _ => false

/-- Good units of a kind as the lost-capacity block counts them (R604); DEDUCED: a disabled unit is not lost (R487). -/
def State.goodCount (s : State) (kind : Nat) : Nat :=
  unitCount kind - (s.faults.units.filter (fun u => u.kind == kind && u.status.lost)).length

/-- Indices of the units of a kind that are ACTIVE. -/
def State.activeUnits (s : State) (kind : Nat) : List Nat :=
  (List.range (unitCount kind)).filter (fun i => s.unitStatus kind i == .active)

/-- Absent by ordering code: stack 31 of an LGN7-1984 (R2). -/
def State.absentByOrder (s : State) (kind idx : Nat) : Bool := s.up.order == 1 && kind == 6 && idx == 31

/-- A unit is lost beyond what the ordering code leaves absent (R604). -/
def State.anyLost (s : State) : Bool :=
  s.faults.units.any (fun u => u.status.lost && !s.absentByOrder u.kind u.index)

/-- RUN becomes DEGRADED and back as units are lost and return (R604); FAULT, HALT and the states of bring-up stay. -/
def State.refreshDev (s : State) : State :=
  match s.up.dev with
  | .run => if s.anyLost then s.setDev .degraded else s
  | .degraded => if s.anyLost then s else s.setDev .run
  | _ => s

/-- Stacks of a quadrant that are presented and good, its crossbar being good (R35, R39). -/
def State.quadStacks (s : State) (q : Nat) : Nat :=
  if (s.unitStatus 7 q).lost then 0
  else ((List.range 8).filter (fun i => !(s.unitStatus 6 (8 * q + i)).lost)).length

/-- N_q: the sub-channels of a quadrant, eight to a presented stack (R35). -/
def State.subChannels (s : State) (q : Nat) : Nat := 8 * s.quadStacks q

/-- Where a line of a quadrant lies: its sub-channel and its row there (R35). -/
def State.lineAt (s : State) (q line : Nat) : Nat × Nat := (line % s.subChannels q, line / s.subChannels q)

/-- Good stacks of the device. -/
def State.goodStacks (s : State) : Nat := s.quadStacks 0 + s.quadStacks 1 + s.quadStacks 2 + s.quadStacks 3

/-- Stacks of the ordering code (R1). -/
def State.orderStacks (s : State) : Nat := if s.up.order = 1 then 31 else 32

/-- The lost-capacity block (R604), 32 bytes. -/
def State.lostCapacity (s : State) : Bytes :=
  let lost := s.orderStacks - s.goodStacks
  let ports := (List.range 40).foldl (fun a p => if (s.unitStatus 8 p).lost then a + 2 ^ p else a) 0
  toLe 1 (s.goodCount 1) ++ toLe 1 (s.goodCount 9) ++ toLe 1 (s.goodCount 10) ++ toLe 1 (s.goodCount 11)
    ++ toLe 1 (s.goodCount 12) ++ toLe 1 (s.goodCount 13) ++ toLe 1 (s.goodCount 14) ++ toLe 1 (s.goodCount 6)
    ++ toLe 1 (s.goodCount 15) ++ toLe 1 (s.goodCount 16) ++ toLe 2 (64 * lost) ++ toLe 2 (min 0xFFFF (3328 * lost))
    ++ toLe 5 ports ++ zeros 13

/-- Change the entry of a command. -/
def State.modCmd (s : State) (id : Nat) (f : Cmd → Cmd) : State :=
  { s with host := { s.host with cmds := s.host.cmds.map (fun c => if c.id = id then f c else c) } }

/-- The entry of a command. -/
def State.cmd (s : State) (id : Nat) : Option Cmd := s.host.cmds.find? (fun c => c.id == id)

/-! ### Faults and the event record -/

/-- A fault as it is detected. -/
structure FaultIn where
  source : Nat
  code : Nat
  key : Nat := 0
  job : Nat := 0
  detail : Bytes := []
  /-- index of the record of the handling whose tagged action raised it (R601) -/
  handling : Option Nat := none
  deriving DecidableEq, Repr

/-- Class, default and minimum severity of a code at a source, where a row of R596 names the pair. -/
def codeRow (code source : Nat) : Option (Nat × Nat × Nat) :=
  let src := sourceOf source
  let unitIn (ks : List Nat) : Bool := match src with
    | .unit k _ => ks.contains k
    | _ => false
  let adder : Bool := match src with
    | .adder _ => true
    | _ => false
  let agent : Bool := src == .endpoint || src == .switch || src == .spare
  let onDie : Bool := match src with
    | .unit _ _ => true
    | .adder _ => true
    | .tickLogic => true
    | .power => true
    | _ => false
  match code with
  | 0x0001 => if unitIn [1, 2, 4, 5, 6, 7, 8, 9, 10, 11, 12, 13, 14] || adder then some (0, 2, 0) else none
  | 0x0002 =>
    if unitIn [1, 4, 6, 7, 8, 9, 10, 11, 12, 13] || adder then some (1, 3, 3)
    else if unitIn [14] then some (1, 4, 4)
    else if unitIn [2, 5] then some (1, 5, 5)
    else none
  | 0x0003 => if onDie then some (3, 3, 3) else none
  | 0x0004 => if unitIn [10, 12] then some (1, 3, 3) else none
  | 0x0005 => if onDie then some (3, 3, 3) else none
  | 0x0006 => if unitIn [1] then some (3, 5, 5) else none
  | 0x0008 => if unitIn [8] then some (2, 0, 0) else none
  | 0x0009 => if unitIn [8] then some (2, 2, 0) else none
  | 0x000A => if unitIn [8] then some (2, 3, 3) else none
  | 0x000B => if unitIn [8] then some (2, 2, 1) else none
  | 0x000C => if unitIn [8] then some (2, 1, 0) else none
  | 0x0010 => if unitIn [15, 16] then some (5, 3, 3) else none
  | 0x0011 => if src == .power then some (5, 2, 1) else none
  | 0x0012 => if unitIn [15] then some (5, 5, 5) else none
  | 0x0013 => if src == .power then some (5, 1, 1) else none
  | 0x0014 => if src == .power then some (5, 2, 1) else none
  | 0x0020 => if src == .firmware 0 then some (8, 1, 1) else none
  | 0x0021 => if src == .firmware 1 || unitIn [4] then some (6, 1, 0) else none
  | 0x0022 => if src == .tickLogic then some (6, 1, 0) else none
  | 0x0023 => if src == .firmware 4 then some (6, 1, 0) else none
  | 0x0024 => if src == .firmware 4 then some (6, 2, 1) else none
  | 0x0025 => if src == .firmware 5 then some (7, 1, 1) else none
  | 0x0026 => if src == .firmware 6 then some (7, 2, 1) else none
  | 0x0027 => if src == .firmware 6 then some (7, 4, 4) else none
  | 0x0028 => if src == .firmware 8 || src == .firmware 9 then some (7, 1, 0) else none
  | 0x0029 => if src == .firmware 0 || src == .firmware 11 then some (8, 1, 1) else none
  | 0x002A => if src == .firmware 0 then some (8, 1, 1) else none
  | 0x002B => if src == .firmware 13 then some (1, 2, 1) else none
  | 0x002C => if src == .firmware 0 then some (6, 1, 0) else none
  | 0x002D => if src == .peer then some (6, 2, 1) else none
  | 0x002E => if src == .peer then some (6, 1, 0) else none
  | 0x0101 => if agent then some (4, 1, 0) else none
  | 0x0102 => if agent then some (4, 2, 0) else none
  | 0x0103 => if agent then some (4, 3, 0) else none
  | 0x0104 => if agent then some (4, 2, 0) else none
  | 0x0105 => if agent then some (4, 2, 0) else none
  | 0x0106 => if agent then some (4, 1, 0) else none
  | 0x0107 => if agent then some (4, 0, 0) else none
  | 0x0108 => if agent then some (4, 3, 3) else none
  | 0x0109 => if agent then some (4, 2, 0) else none
  | 0x010A => if agent then some (4, 2, 0) else none
  | 0x010B => if agent then some (4, 1, 0) else none
  | 0x0110 => if agent then some (4, 2, 1) else none
  | _ => none

/-- The code under which a fault is recorded, with its class, default and minimum: an unlisted pair is 0x00FF (R596). -/
def classify (code source : Nat) : Nat × Nat × Nat × Nat :=
  match codeRow code source with
  | some (c, d, m) => (code, c, d, m)
  | none => (0x00FF, if source ≤ 0xE3FF then 4 else 6, 1, 0)

/-- The severity programmed for a source and code: the last setting that covers it (R621), never below the minimum, never
S5 below 0xF100, S2 at most for peer Geneels (R595). -/
def State.severity (s : State) (code source dflt minimum : Nat) : Nat :=
  let set := (s.faults.sevs.reverse.find? (fun e =>
    e.first ≤ source && source ≤ e.last && (e.code == 0xFFFF || e.code == code))).map SevEntry.severity
  let v := max minimum (set.getD dflt)
  let v := if source < 0xF100 then min v 4 else v
  if 0xF000 ≤ source ∧ source ≤ 0xF03F then min v 2 else v

/-- The fault's source is a unit that is FENCING or FENCED (R600). -/
def State.sourceFenced (s : State) (source : Nat) : Bool :=
  match sourceUnit source with
  | some (k, i) => match s.unitStatus k i with
    | .fencing | .fenced => true
    | _ => false
  | none => false

/-- Count a fault at its source and by severity (R598, R622). -/
def State.countFault (s : State) (source sev : Nat) : State :=
  let old := (s.faults.counts.find? (fun c => c.source == source)).getD { source := source }
  let new := { old with
    s0 := if sev = 0 then satAdd 32 old.s0 1 else old.s0
    s2 := if sev = 2 then satAdd 32 old.s2 1 else old.s2
    lastTick := s.tickNow }
  { s with faults := { s.faults with
      bySeverity := bump s.faults.bySeverity sev
      counts := insertBy SourceCount.source (s.faults.counts.filter (fun c => c.source != source)) new } }

/-- Change the record of an index. -/
def State.modRecord (s : State) (i : Nat) (f : EventRec → EventRec) : State :=
  { s with faults := { s.faults with records := s.faults.records.map (fun r => if r.index = i then f r else r) } }

/-- Records not yet spilled to flash (R615). -/
def Faults.unspilled (f : Faults) : Nat := f.nextIndex - f.spillHead

/-- A fence, a job failure or a halt follows a fault (R598, R611): none at S3 for a source that is no unit and no node, and none
for Buckram (R523). -/
def acts (sev source : Nat) : Bool :=
  decide (3 ≤ sev) && source != 0xF118 && (decide (4 ≤ sev) || (match sourceOf source with
    | .unit _ _ => true
    | .adder _ => true
    | .endpoint => true
    | .switch => true
    | .spare => true
    | _ => false))

/-- Write a new record, or drop it when the ring is full (R614, R615, R617); cause EVENT at S2 or above (R622). -/
def State.newRecord (s : State) (code cls sev : Nat) (f : FaultIn) : State :=
  let idx := s.faults.nextIndex
  let s1 :=
    if s.faults.unspilled ≥ 8192 then
      { s with faults := { s.faults with nextIndex := idx + 1, dropped := satAdd 32 s.faults.dropped 1 } }
    else
      let r : EventRec := {
        index := idx, source := f.source, code := code, severity := sev, cls := cls,
        opsec := s.faults.opsec, pcycle := s.up.pcycle, firstTick := s.tickNow, job := f.job, key := f.key,
        action := acts sev f.source, detail := field f.detail 0 16, written := s.clock.now }
      { s with faults := { s.faults with nextIndex := idx + 1, records := s.faults.records ++ [r] } }
  if 2 ≤ sev then s1.raiseCause 0 else s1

/-- The unspilled record that a fault at S1 or S2 repeats, among the 1,024 written last (R614). -/
def State.repeatOf (s : State) (code sev : Nat) (f : FaultIn) : Option Nat :=
  if sev = 1 ∨ sev = 2 then
    ((lastN 1024 (s.faults.records.filter (fun r => s.faults.spillHead ≤ r.index))).reverse.find? (fun r =>
      r.source == f.source && r.code == code && r.key == f.key && r.severity == sev)).map EventRec.index
  else none

/-- Spill every unspilled record, padding a partial block (R610, R616): the next record takes the next block. -/
def State.spillAll (s : State) : State :=
  let next := 64 * cdiv s.faults.nextIndex 64
  let pads := (List.range (next - s.faults.nextIndex)).map (fun i =>
    ({ index := s.faults.nextIndex + i, source := 0, code := 0, severity := 0, cls := 0, padding := true } : EventRec))
  { s with faults := { s.faults with
      records := s.faults.records ++ pads
      nextIndex := next
      nextStored := next
      spillHead := next
      opsecStored := s.faults.opsec } }

/-- The PRIMARY waits for its twin: a delta it sent is not acknowledged, and the mirror is neither SINGLE nor absent (R651,
R652). -/
def State.gating (s : State) : Bool :=
  s.twin.role == 0 && s.twin.assigned && (s.twin.mirror == .inSync || s.twin.mirror == .resync) && s.twin.unacked != []

/-- A message that changes something at an agent, or a VERDICT (R161, R651). -/
def mutates (m : Msg) : Bool :=
  !(0xF000 ≤ m.dst && m.dst ≤ 0xF03F) && !([0x02, 0x03, 0x06, 0x0E, 0x10].contains m.type) && m.flags % 2 == 0
    && !(m.type == 1 && (m.body.getD 34 0 == 0 || m.body.getD 34 0 == 2))

/-- An unplaced Geneel sends nothing beyond the training of its links (R634). A SECONDARY sends no mutating message (R645), and no CERT (R206);
a VERDICT on the tree it roots carries no token (R518) and is sent. -/
def State.silenced (s : State) (m : Msg) : Bool :=
  !s.up.placed || !(s.twin.role == 0 && s.twin.assigned)
    && ((mutates m && m.type != 0x0F) || (m.type == 1 && m.flags % 2 == 0 && !(0xF000 ≤ m.dst && m.dst ≤ 0xF03F) && m.body.getD 34 0 == 2))

/-- The ports by which the first `k` switches of a path lead back to the Geneel, the farthest first (R173): the far ends of the links
that the path takes, as HELLO and the topology record give them. -/
def State.reversePorts (s : State) (path : List Nat) : Nat → List Nat
  | 0 => []
  | 1 => [(((kvGet s.ports (path.getD 0 0xFF)).getD {}).link.far.map Hello.port).getD 0xFF]
  | k + 2 =>
    let own : TopoSection := (s.fabric.sections.find? (fun x => x.bolt == s.up.bolt)).getD { bolt := s.up.bolt }
    let far : Option TopoLink := match own.nodes.find? (fun n => n.path == path.take (k + 1)) with
      | some n => own.links.find? (fun (l : TopoLink) => l.src == n.addr && l.sport == path.getD (k + 1) 0xFF)
      | none => none
    (far.map TopoLink.dport).getD 0xFF :: s.reversePorts path (k + 1)

/-- A source-routed body (R163, R173): hop count, hop index 0, forward and reverse ports, then the body. -/
def State.routed (s : State) (path : List Nat) (body : Bytes) : Bytes :=
  let ports := path.drop 1
  toLe 1 ports.length ++ toLe 1 0 ++ field (ports.flatMap (toLe 1)) 0 16
    ++ field ((s.reversePorts path ports.length).flatMap (toLe 1)) 0 16 ++ body

/-- A message on its way: what goes to an agent of the bolt that has had no ACTIVATE is source-routed, since no bank leads to it and the
switches before it may forward nothing else (R163, R201, R222). -/
def State.outgoing (s : State) (m : Msg) : Msg :=
  let own : TopoSection := (s.fabric.sections.find? (fun x => x.bolt == s.up.bolt)).getD { bolt := s.up.bolt }
  match own.nodes.find? (fun n => n.addr == m.dst && !n.retired) with
  | some n =>
    if n.agState < 4 ∧ n.path ≠ [] ∧ m.dst ≠ 0xFFFF ∧ m.type ≠ 0x0F ∧ m.type ≠ 0x10 then
      { m with dst := 0xFFFF, body := s.routed n.path m.body }
    else m
  | none => m

/-- Own fabric address (R9); 0xFFFF while unplaced (R634). -/
def State.ownAddr (s : State) : Nat := if s.up.placed then 0xF000 + s.up.bolt * 2 + s.up.twin else 0xFFFF

/-- The twin's fabric address (R10). -/
def State.twinAddr (s : State) : Nat := 0xF000 + s.up.bolt * 2 + (1 - s.up.twin)

/-! ### The port a flit leaves on, and the budgets of VC0 and VC1 (R72 to R75, R156, R290) -/

/-- A fabric port of the Geneel, by port index of R488. -/
def State.port (s : State) (p : Nat) : Port := (kvGet s.ports p).getD {}

/-- The port is UP. -/
def State.portUp (s : State) (p : Nat) : Bool := (s.port p).link.state == .up

/-- The bank that this Geneel injects under: that of the epoch in force (R143, R281, R290). -/
def State.ownBank (s : State) : Bank :=
  match s.fabric.epoch.images.find? (fun i => i.addr == s.ownAddr) with
  | some i => if s.fabric.epoch.current % 2 = 0 then i.a else i.b
  | none => {}

/-- The ports by which a flit may leave this Geneel, the first that is UP before the others: that of the entry of the own bank (R178, R290); a port
whose far end is the destination; the first port of the way to a node of the record. -/
def State.exitPorts (s : State) (dst vc stream : Nat) : List Nat :=
  let byBank : List Nat := match kvGet s.ownBank.routes dst with
    | some e => if bit e 63 then [if vc ≤ 1 then bits e 55 48 else dataPort e stream] else []
    | none => []
  let near := (s.ports.filter (fun e => (e.2.link.far.map Hello.addr) == some dst)).map Prod.fst
  let own : TopoSection := (s.fabric.sections.find? (fun x => x.bolt == s.up.bolt)).getD { bolt := s.up.bolt }
  let known := match own.nodes.find? (fun n => n.addr == dst && !n.retired) with
    | some n => n.path.take 1
    | none => []
  byBank ++ near ++ known

/-- The port by which a flit leaves this Geneel: an M port for the twin while one is UP (R648), else one of the exits. None when no port that is UP
leads there. -/
def State.exitPort (s : State) (dst vc stream : Nat) : Option Nat :=
  ((if dst = s.twinAddr then [36, 37] else []) ++ s.exitPorts dst vc stream).find? (fun p => s.portUp p)

/-- The port by which a flit reaches the twin through the fabric, not by the mirror link (R654). -/
def State.fabricPort (s : State) : Option Nat :=
  (s.exitPorts s.twinAddr 0 0x21).find? (fun p => p != 36 && p != 37 && s.portUp p)

/-- The epoch bit that this Geneel injects with: that of the bank in force (R143, R281). -/
def State.epb (s : State) : Nat := s.fabric.epoch.current % 2

/-- The entry of a stream as a flit finds it. The streams 0 to 255 of job 0 (R32) are opened by no command: DESIGN CHOICE (log entry 197),
each is opened as a management stream by the first flit that names it. -/
def State.streamFor (s : State) (f : Flit) : Option Stream :=
  (kvGet s.streams f.stream).or (if f.job = 0 ∧ f.stream < 256 then
    some { kind := 0, vc := f.vc, epb := s.epb, job := 0, peer := 0xFFFF, state := 1, openTick := s.tickNow } else none)

/-- A flit joins the output queue of a port, behind what waits there, with the index of its requester (R77). -/
def State.enqueue (s : State) (p idx : Nat) (f : Flit) : State :=
  let x := s.port p
  { s with ports := kvSet s.ports p { x with link := { x.link with outQueue := x.link.outQueue ++ [(idx, f)] } } }

/-- A unit of this Geneel injects a flit, a copy on each of the ports (R10, R29, R143): it takes the epoch bit of the bank in force and the
stream's next sequence number, and each copy is outstanding until it is completed. Where no port leads to its destination it is lost on
its stream (DESIGN CHOICE, log entry 202). -/
def State.injectOn (s : State) (ports : List Nat) (idx : Nat) (f : Flit) : State :=
  let e := s.streamFor f
  let g : Flit := { f with epb := s.epb, sseq := (e.map Stream.txSeq).getD 0 % 2 ^ 20 }
  let s1 : State := match e with
    | none => s
    | some e => { s with streams := kvSet s.streams f.stream { e with
        txSeq := (e.txSeq + 1) % 2 ^ 32, lastTick := s.tickNow
        outstanding := min 65535 (e.outstanding + ports.length)
        loss := if ports = [] then satAdd 32 e.loss 1 else e.loss } }
  ports.foldl (fun t p => t.enqueue p idx g) s1

/-- A unit injects a flit on the port that leads to its destination (R143, R178). -/
def State.inject (s : State) (idx : Nat) (f : Flit) : State := s.injectOn (s.exitPort f.dst f.vc f.stream).toList idx f

/-- The flits of messages that were given to a port join its output queue: they are injected now, under the bank in force (R143, R152); those that
no port leads to are lost on their stream (log entry 202). -/
def State.injectMessages (s : State) (p : Nat) : State :=
  let (mine, rest) := s.mail.flits.partition (fun e => e.1 == some p || e.1 == none)
  mine.foldl (fun t e => t.injectOn e.1.toList (gridIndex 1 s.faults.leader) e.2) { s with mail := { s.mail with flits := rest } }

/-- VC of a message (R159). -/
def msgVc (m : Msg) : Nat := if m.type = 0x0F ∨ m.type = 0x10 then 1 else 0

/-- Flits of a message (R160, R162). -/
def msgFlits (m : Msg) : Nat := max 1 (cdiv m.content.length m.perFlit)

/-- The payloads of a message's flits: the header with the segment index and the last one, and 208 bytes of body each but for the last
(R160, R162), the route block in every one of a source-routed message, since each flit finds its way by its own (R163; DEDUCED, log entry
223). -/
def msgSegments (m : Msg) : List Bytes :=
  (List.range (msgFlits m)).map (fun k =>
    toLe 1 m.type ++ toLe 1 m.ver ++ toLe 1 m.flags ++ toLe 1 (16 * k + (msgFlits m - 1)) ++ toLe 4 m.msgid ++ toLe 8 m.token
      ++ m.routeBlock ++ (m.content.drop (m.perFlit * k)).take m.perFlit)

/-- The flits of a message (R159), injected under an epoch bit. -/
def msgAsFlits (m : Msg) (epb : Nat) : List Flit :=
  (msgSegments m).map (fun b =>
    { kind := .data, vc := msgVc m, epb := epb, dst := m.dst, src := m.src, stream := m.stream, payload := b })

/-- Number of the purpose of a takeover's CLAIM (R657). -/
def takeoverPurpose : Nat := 31

/-- The messages of R73: fault reports, a tick loss being one, the activation of a failover bank, and the CLAIMs of a takeover. -/
def reservedMsg (m : Msg) (purpose : Nat) : Bool :=
  m.type == 0x0E || (m.type == 0x05 && le m.content 0 1 == 2) || purpose % 256 == takeoverPurpose

/-- Flits per tick of a port of width `w` (R123): ⌊w × 128 × 10^9 × 514 / 544 / 2,048 × P⌋, P in microseconds. -/
def flitsPerTick (w period : Nat) : Nat := w * 128000 * 514 * period / (544 * 2048)

/-- Core clock in MHz at each operating point (R491). -/
def coreClock (op : Nat) : Nat := match op with
  | 0 => 800
  | 1 => 1400
  | 2 => 2000
  | _ => 2300

/-- Nominal core voltage of an operating point in mV (R491). -/
def coreVolts (op : Nat) : Nat := match op with
  | 0 => 600
  | 1 => 680
  | 2 => 750
  | _ => 800

/-- The set point that the core rail needs: nominal voltage plus guard band of the point in force (R491), or, while a rise is on its way, of
the point to come, to which the regulator ramps before the switch (R496); a guard band that falls, falls with the change (R500). -/
def State.coreTarget (s : State) : Nat :=
  let w := s.power
  max (coreVolts w.op + w.guard) (match w.change with
    | some (p, _) => if w.op < p then coreVolts p + w.guardNext.getD w.guard else 0
    | none => 0)

/-- Send the set point on AVSBus when it differs from the last one sent (R496, R690). -/
def State.driveCore (s : State) : State :=
  if s.power.avs.getLast? = some s.coreTarget then s
  else { s with power := { s.power with avs := s.power.avs ++ [s.coreTarget] } }

/-- A budget of Selvedge in this tick (R550): it scales with the period and with the core clock. -/
def State.selvedgeBudget (s : State) (b : Nat) : Nat := b * s.clock.period / 16 * coreClock s.power.op / coreClock 2

/-- Two amounts of Selvedge's work together. -/
def SelvedgeUse.plus (v u : SelvedgeUse) : SelvedgeUse :=
  { sig := v.sig + u.sig, ver := v.ver + u.ver, kem := v.kem + u.kem, wrap := v.wrap + u.wrap }

/-- Selvedge has room for more work in this tick beside what it has done for messages and else (R550). -/
def State.selvedgeRoom (s : State) (u : SelvedgeUse) : Bool :=
  let v := s.sec.used.plus s.mail.selvedge
  (u.sig == 0 || decide (v.sig + u.sig ≤ s.selvedgeBudget 160)) && (u.ver == 0 || decide (v.ver + u.ver ≤ s.selvedgeBudget 640))
    && (u.kem == 0 || decide (v.kem + u.kem ≤ s.selvedgeBudget 160)) && (u.wrap == 0 || decide (v.wrap + u.wrap ≤ s.selvedgeBudget 1024))

/-- Selvedge does work in this tick. -/
def State.selvedgeSpend (s : State) (u : SelvedgeUse) : State :=
  { s with sec := { s.sec with used := s.sec.used.plus u } }

/-- The work of Selvedge behind a message (R550): a SESSION follows the checks of a certificate and of evidence and takes an encapsulation and a
signature; a wrap for KEY_INSTALL and KEY_XFER; the parts of a peer session (R574). DESIGN CHOICE (log entry 221): the work is done in the
tick in which its message leaves. -/
def selvedgeWork (m : Msg) : SelvedgeUse :=
  let b := m.content
  if m.flags % 2 = 1 then {}
  else if m.type = 0x01 ∧ le b 0 1 = 3 then { sig := 1, ver := 2, kem := 1 }
  else if m.type = 0x09 ∨ m.type = 0x69 then { wrap := 1 }
  else if m.type = 0x68 then (match le b 0 1 with
    | 1 => { ver := 1 }
    | 2 => { sig := 1 }
    | 3 => { sig := 1, ver := 2, kem := 1 }
    | _ => {})
  else {}

/-- What a port has been given of messages in this tick: only they go on VC0 and VC1. -/
def State.portUse (s : State) (p : Nat) : PortUse := (s.mail.used.find? (fun e => e.port == p)).getD { port := p }

/-- The budget of a port leaves room for `n` more flits of a VC (R72, R73): 512 VC0 flits a tick at 16 µs, of which 64 are for the messages
of R73 alone, 256 VC1 flits; on M0 and M1 the port's capacity (R648). -/
def State.roomOn (s : State) (p vc : Nat) (reserved : Bool) (n : Nat) : Bool :=
  let u := s.portUse p
  let b (k : Nat) : Nat := k * s.clock.period / 16
  if vc = 1 then decide (u.vc1 + n ≤ b 256)
  else if vc ≠ 0 then true
  else if p = 36 ∨ p = 37 then decide (u.vc0 + n ≤ flitsPerTick (s.port p).link.width s.clock.period)
  else decide (u.vc0 + n ≤ b 512) && (reserved || decide (u.vc0 - u.reserved + b 64 + n ≤ b 512))

/-- The node a waiting request is about: its DST, or for a source-routed one the address kept with its purpose. -/
def Waiting.about (w : Waiting) : Nat := if w.msg.dst = 0xFFFF then w.purpose / 256 else w.msg.dst

/-- Flits of requests sent that an agent has not answered (R156), the request `but` left out; not those that still wait here. -/
def State.unanswered (s : State) (addr but : Nat) : Nat :=
  let here (n : Nat) : Bool := s.mail.outbox.any (fun o => o.asks && o.msg.msgid == n) || s.mail.gate.any (fun g => g.2.msgid == n)
  ((s.mail.waiting.filter (fun w => w.about == addr && w.msg.msgid != but && !here w.msg.msgid)).map
    (fun w => msgFlits w.msg)).foldl (· + ·) 0

/-- The agent has room for a request: at most 128 flits of requests unanswered (R156). A Geneel is no agent, and an agent whose address is
not known yet is asked by one flit at a time. -/
def State.roomAt (s : State) (o : OutMsg) : Bool :=
  !o.asks || decide (0xF000 ≤ o.about) || decide (s.unanswered o.about o.msg.msgid + msgFlits o.msg ≤ 128)

/-- Entries that a message has its agent apply: those of TABLE_WRITE (R72, R180). -/
def tableEntries (m : Msg) : Nat := if m.type = 0x04 ∧ m.flags % 2 = 0 then le m.content 3 1 else 0

/-- Entries of TABLE_WRITE that an agent applies in a tick (R72). -/
def State.entryBudget (s : State) : Nat := 1024 * s.clock.period / 16

/-- The agent's budget of entries leaves room for a message (R75). -/
def State.roomToWrite (s : State) (o : OutMsg) : Bool :=
  tableEntries o.msg == 0 || decide ((kvGet s.mail.written o.about).getD 0 + tableEntries o.msg ≤ s.entryBudget)

/-- The message is given to its port: recorded, its flits counted against the port's budget (R72) and waiting for its output queue, which
they join with the port's next choice (R152). -/
def State.handOver (s : State) (p : Option Nat) (o : OutMsg) : State :=
  let n := msgFlits o.msg
  let used := match p with
    | none => s.mail.used
    | some q =>
      let u := (s.mail.used.find? (fun e => e.port == q)).getD { port := q }
      s.mail.used.filter (fun e => e.port != q) ++ [{ u with
        vc0 := if msgVc o.msg = 0 then u.vc0 + n else u.vc0
        reserved := if msgVc o.msg = 0 ∧ o.reserved then u.reserved + n else u.reserved
        vc1 := if msgVc o.msg = 1 then u.vc1 + n else u.vc1 }]
  { s with mail := { s.mail with
      sent := s.mail.sent ++ [o.msg]
      flits := s.mail.flits ++ (msgAsFlits o.msg s.epb).map (fun f => (p, f))
      used := used
      selvedge := s.mail.selvedge.plus (selvedgeWork o.msg)
      written := if tableEntries o.msg = 0 then s.mail.written
        else kvSet s.mail.written o.about ((kvGet s.mail.written o.about).getD 0 + tableEntries o.msg)
      waiting := s.mail.waiting.map (fun w => if w.msg.msgid = o.msg.msgid then { w with sentAt := s.clock.now } else w) } }

/-- The port of a message: the one it names, or that of its exit, by the node it is about where it is source-routed. -/
def State.outPort (s : State) (o : OutMsg) : Option Nat :=
  o.msg.port.or <| s.exitPort (if o.msg.dst = 0xFFFF then o.about else o.msg.dst) (msgVc o.msg) o.msg.stream

/-- A message may leave: its port's budget, its agent, that one's budget of entries and the budgets of Selvedge have room, and no earlier one
waits for the same port, those of R73 before all (R72, R73, R156, R550). A message's segments leave in one tick (log entry 187). -/
def State.mayGo (s : State) (o : OutMsg) : Bool :=
  let p := s.outPort o
  let room := match p with
    | none => true
    | some q => s.roomOn q (msgVc o.msg) o.reserved (msgFlits o.msg)
  room && s.roomAt o && s.roomToWrite o && s.selvedgeRoom (selvedgeWork o.msg) && (o.reserved || (s.mail.outbox.takeWhile (fun x => x != o)).all (fun x => s.outPort x != p))

/-- A message leaves at once or waits for its turn: nothing is dropped (R74). -/
def State.dispatchMsg (s : State) (o : OutMsg) : State :=
  if s.mayGo o then s.handOver (s.outPort o) o else { s with mail := { s.mail with outbox := s.mail.outbox ++ [o] } }

/-- A message type's number in `waiting`: what the Geneel does with the reply. -/
inductive Purpose where
  | identify | claim | linkstate | cert0 | cert1 | session | jobKey | stageWrite | activate | retire | failover | counters
  | expired | expiredBase | refresh | reclaim | linkSession | standby | clearStandby | keyInstall | keySwitch | keyErase | tree | grant
  | release | target | targetSwap | cards | commit | other | takeover
  deriving DecidableEq, Repr

/-- Number of a purpose. -/
def Purpose.code : Purpose → Nat
  | .identify => 1 | .claim => 2 | .linkstate => 3 | .cert0 => 4 | .cert1 => 5 | .session => 6 | .jobKey => 7
  | .stageWrite => 8 | .activate => 9 | .retire => 10 | .failover => 11 | .counters => 12 | .expired => 13 | .refresh => 14
  | .reclaim => 15 | .linkSession => 16 | .standby => 17 | .clearStandby => 18 | .keyInstall => 19 | .keySwitch => 20
  | .keyErase => 21 | .tree => 22 | .grant => 23 | .release => 24 | .target => 25 | .targetSwap => 26 | .cards => 27
  | .commit => 28 | .other => 29 | .expiredBase => 30 | .takeover => 31

/-- What a waiting request is for. -/
def Waiting.kind (w : Waiting) : Nat := w.purpose % 256

/-- What the walk asks of agents (R212). -/
def walkPurposes : List Nat := [Purpose.identify.code, Purpose.claim.code, Purpose.linkstate.code, Purpose.refresh.code, Purpose.cert0.code,
  Purpose.cert1.code, Purpose.session.code, Purpose.jobKey.code]

/-- A message that left later than its command's tick: the command was spread over ticks, and its effect is that of the last part (R74).
A command with a tick of its own tells its delay itself (R65). -/
def State.noteSplit (s : State) (o : OutMsg) : State :=
  match o.cmd with
  | some id => if o.since < s.clock.now then s.modCmd id (fun c =>
      if c.pkt.effTick ≠ 0 ∨ (c.endStatus ≠ 0 ∧ c.endStatus ≠ 0x13) then c
      else { c with endStatus := 0x13, endDetail := max c.endDetail (s.clock.now - o.since), effect := some s.tickNow }) else s
  | none =>
    -- a message of the walk (R212): a tick more of the walk's command
    let w := s.fabric.walk
    if o.since < s.clock.now ∧ w.running ∧ w.lateAt ≠ s.clock.now ∧ s.mail.waiting.any (fun v => v.msg.msgid == o.msg.msgid
        && walkPurposes.contains v.kind) then
      { s with fabric := { s.fabric with walk := { w with late := w.late + 1, lateAt := s.clock.now } } }
    else s

/-- The messages that wait are tried again in their order: at each marker, and when an agent has answered (R74, R156). -/
def State.pumpOutbox (s : State) : State :=
  s.mail.outbox.foldl (fun t o =>
    if t.mayGo o then
      (State.handOver { t with mail := { t.mail with outbox := t.mail.outbox.erase o } } (t.outPort o) o).noteSplit o
    else t) s

/-- A message on its way, put into the terms of its budget. -/
def State.toOut (s : State) (m : Msg) (asks : Bool) (cmd : Option Nat) (purpose : Nat) : OutMsg :=
  { msg := s.outgoing m, reserved := reservedMsg m purpose, asks := asks, cmd := cmd, since := s.clock.now
    about := if m.dst = 0xFFFF then purpose / 256 else m.dst }

/-- A message that has its number goes out: what waited for the twin (R651), a resend (R118, already counted among the agent's flits), an
acknowledgement. -/
def State.sendAgain (s : State) (m : Msg) (resend : Bool := false) : State :=
  let w := s.mail.waiting.find? (fun w => w.msg.msgid == m.msgid)
  s.dispatchMsg (s.toOut m (w.isSome && !resend && m.flags % 2 == 0) (w.bind Waiting.cmd) ((w.map Waiting.purpose).getD 0))

/-- Send a message with the next message number (R160); one that depends on a delta waits for the twin (R651), any for its budget (R74);
the request is remembered when a reply is due (R118). -/
def State.send (s : State) (m : Msg) (awaitReply : Bool := false) (cmd : Option Nat := none) (purpose : Nat := 0) :
    State :=
  let m' := { m with msgid := s.mail.nextMsg % 2 ^ 32 }
  let held := s.gating && mutates m'
  let seq := (s.twin.unacked.getLast?.map Delta.seq).getD 0
  if s.silenced m then s
  else
    let s1 : State := { s with mail := { s.mail with
      nextMsg := (s.mail.nextMsg + 1) % 2 ^ 32
      gate := if held then s.mail.gate ++ [(seq, m')] else s.mail.gate } }
    let mail := if held then s1.mail else (s1.dispatchMsg (s1.toOut m' awaitReply cmd purpose)).mail
    { s with mail := { mail with
        waiting := if awaitReply then
            mail.waiting ++ [{ msg := m', sentAt := s.clock.now, cmd := cmd, purpose := purpose }]
          else mail.waiting } }

/-- Own Geneel ID (spec 02, The tick master). -/
def State.ownId (s : State) : Nat := s.up.bolt * 2 + s.up.twin

/-- This Geneel carries its bolt (R643). -/
def State.isPrimary (s : State) : Bool := s.twin.role == 0 && s.twin.assigned

/-- A message to another node with the fencing token of a PRIMARY (R645), encrypted to a node that holds the job 0 link key
(R141, R192). TICK and VERDICT have streams of their own and TOKEN 0 (R159, R160); a SECONDARY uses its token only when it takes over, and its
messages carry TOKEN 0 (R645; DEDUCED, log entry 260). -/
def State.msgTo (s : State) (dst type : Nat) (body : Bytes) (stream : Nat := 0) : Msg :=
  { src := s.ownAddr, dst := dst, type := type, token := if type = 0x0F ∨ type = 0x10 ∨ s.twin.role ≠ 0 then 0 else s.twin.token
    stream := if type = 0x10 then 3 else if type = 0x0F then 4 else stream, body := body
    enc := s.sec.holders.any (fun h => h.job == 0 && h.kind == 0 && h.addr == dst) }

/-- One message to each of several nodes, in their order. -/
def State.tellAll (s : State) (dests : List Nat) (type : Nat) (body : Bytes) : State :=
  dests.foldl (fun t a => t.send (t.msgTo a type body)) s

/-- Enter HALT on an S5 fault (R610): FAULT_N, HALT_NOTICE on both M ports, spill, clocks stopped. -/
def State.halt (s : State) (source code : Nat) : State :=
  let body := toLe 2 source ++ toLe 2 code ++ toLe 6 s.tickNow ++ zeros 6
  let s1 := s
  let notice (p : Nat) : Msg := { s1.msgTo s1.twinAddr 0x73 body 0x21 with port := some p }
  let s2 := (s1.send (notice 36)).send (notice 37)
  let s3 := s2.spillAll
  { s3.setDev .halt with up := { (s3.setDev .halt).up with clocksStopped := true } }

/-- The handling that a fault is secondary to: the earliest one whose unit is its source, or whose tagged action raised it
(R601). -/
def State.handlingOf (s : State) (f : FaultIn) : Option Handling :=
  s.faults.handlings.find? (fun h => h.source == f.source || f.handling == some h.record)

/-- Schedule the fence and job failures of a fault at S3 or above for step 2 of the next marker (R599). -/
def State.schedule (s : State) (code sev record : Nat) (f : FaultIn) : State :=
  { s with faults := { s.faults with
      due := s.faults.due ++ [{ source := f.source, code := code, severity := sev, key := f.key, job := f.job,
                                record := record, since := s.clock.now }] } }

/-- The severity whose action is taken: for Buckram's sources a setting changes the record alone (R523). -/
def actionSev (sev dflt source : Nat) : Nat := if source = 0xF118 then dflt else sev

/-- A fault merged into the record of its handling (R602). -/
def State.mergeFault (s : State) (code sev act : Nat) (f : FaultIn) (h : Handling) : State :=
  let old := ((s.faults.records.find? (fun r => r.index == h.record)).map EventRec.severity).getD 0
  let s1 := s.modRecord h.record (fun r => { r with
    merged := min 255 (r.merged + 1)
    mergedSource := if r.merged = 0 then f.source else r.mergedSource
    mergedCode := if r.merged = 0 then code else r.mergedCode
    raised := r.raised || decide (r.severity < sev)
    severity := max r.severity sev })
  let s2 := { s1 with faults := { s1.faults with mergedFaults := satAdd 32 s1.faults.mergedFaults 1 } }
  if act ≥ 5 then s2.halt f.source code
  else if f.source = h.source then
    if old < act ∧ 3 ≤ act then s2.schedule code act h.record f else s2
  else if 3 ≤ act then s2.schedule code act h.record f else s2

/-- A fault is detected: classified, counted, merged or recorded, and its action scheduled (R594 to R602, R614). -/
def State.fault (s : State) (f : FaultIn) : State :=
  let (code, cls, dflt, minimum) := classify f.code f.source
  let sev := s.severity code f.source dflt minimum
  let act := actionSev sev dflt f.source
  if s.sourceFenced f.source then s.countFault f.source 0
  else
    let s1 := s.countFault f.source sev
    match s1.handlingOf f with
      | some h => s1.mergeFault code sev act f h
      | none => if sev = 0 then s1 else
        match s1.repeatOf code sev f with
        | some i => s1.modRecord i (fun r =>
            { r with repeats := min 16777215 (r.repeats + 1), repeatTick := s1.tickNow })
        | none =>
          let idx := s1.faults.nextIndex
          let s2 := s1.newRecord code cls sev f
          if act ≥ 5 then s2.halt f.source code
          else if 3 ≤ act then
            let s3 := s2.schedule code act idx f
            { s3 with faults := { s3.faults with
                handlings := s3.faults.handlings ++ [{ source := f.source, record := idx, since := s3.clock.now }] } }
          else s2

/-- A fault found by a bring-up test: recorded at S3 with no part in R606 and R607, its unit fenced at once (R627). -/
def State.testFault (s : State) (kind idx cause detail : Nat) : State :=
  let s1 := (s.countFault (unitSource kind idx) 3).newRecord 3 3 3 { source := unitSource kind idx, code := 3 }
  s1.setUnit { kind := kind, index := idx, status := .fenced, cause := cause, detail := detail, code := 3, tick := s.tickNow }

/-- The 64 bytes of a record (R611); padding has mark 0x00. -/
def EventRec.bytes (r : EventRec) : Bytes :=
  let body := toLe 2 r.source ++ toLe 2 r.code ++ toLe 1 (r.severity + 8 * r.cls) ++ toLe 3 r.repeats
    ++ toLe 5 r.opsec ++ toLe 3 r.pcycle ++ toLe 6 r.firstTick ++ toLe 2 r.job ++ toLe 4 r.key ++ toLe 1 r.merged
    ++ toLe 1 (flag r.raised + 2 * flag r.action + 4 * flag r.padding) ++ toLe 2 r.mergedSource ++ toLe 2 r.mergedCode
    ++ field r.detail 0 16 ++ toLe 6 r.repeatTick
  body ++ toLe 4 (crc32 body) ++ zeros 3 ++ [if r.padding then 0x00 else 0xA5]

/-! ### Records to the host -/

/-- A final or pending record as it is to be posted. -/
structure Rec where
  port : Nat
  ring : Nat
  tag : Nat
  opcode : Nat
  seq : Nat
  status : Nat
  detail : Nat := 0
  execTick : Nat := 0
  resultLen : Nat := 0
  trunc : Bool := false
  /-- PERST has disabled the packet's ring since (R675) -/
  cut : Bool := false
  deriving DecidableEq, Repr

/-- The 32 bytes of a completion record (R109). -/
def Completion.bytes (c : Completion) : Bytes :=
  toLe 4 c.tag ++ toLe 2 c.status ++ toLe 1 (flag c.phase + 2 * flag c.final + 4 * flag c.trunc + 8 * flag c.orphan)
    ++ toLe 1 (c.origRing % 64 + 64 * (c.origPort % 2)) ++ toLe 8 c.detail ++ toLe 6 c.execTick ++ toLe 2 c.opcode
    ++ toLe 4 c.resultLen ++ toLe 4 c.seq

/-- Write a record into a completion ring (R89 to R92, R109, R676). -/
def State.writeRecord (s : State) (p r : Nat) (orphan : Bool) (c : Rec) : State :=
  let x := s.ring p r
  let done : Completion := {
    port := p, cq := r, addr := x.cqBase + 32 * (x.cqTail % x.records), tag := c.tag, status := c.status,
    phase := x.cqTail / x.records % 2 == 0, final := c.status != 1, trunc := c.trunc, orphan := orphan,
    origRing := c.ring, origPort := c.port, detail := c.detail, execTick := c.execTick, opcode := c.opcode,
    resultLen := c.resultLen, seq := c.seq }
  let (x1, fire) := { x with cqTail := (x.cqTail + 1) % 2 ^ 32 }.recordWritten
  let s1 := s.setRing p r x1
  let s2 := { s1 with host := { s1.host with
      completions := s1.host.completions ++ [done]
      results := s1.host.results ++ [{ port := p, addr := done.addr, bytes := done.bytes }] } }
  let s3 := if fire then s2.modHostPort p (fun h => h.request r) else s2
  if orphan then s3.modHostPort p (fun h => h.setCause 3) else s3

/-- Final records that a command still owes to a ring (R89, R103): one for its packet, one for the other packet of its hold; none where the
ring was disabled by PERST (R675). -/
def Cmd.owes (c : Cmd) (p r : Nat) : Nat :=
  if c.cut.contains p then 0
  else flag (c.pkt.port == p && c.pkt.ring == r) + flag (c.twinPkt.any (fun q => q.port == p && q.ring == r))

/-- Commands of a ring without a final record (R671 OUTSTANDING). -/
def State.outstanding (s : State) (p r : Nat) : Nat := (s.host.cmds.map (fun c => c.owes p r)).foldl (· + ·) 0

/-- Records that a command may still write to a ring: its final ones, and its ST_PENDING while that has not been posted (R89, R110). -/
def Cmd.mayOwe (c : Cmd) (p r : Nat) : Nat :=
  c.owes p r + flag (!c.pendingPosted && !c.cut.contains p && c.pkt.port == p && c.pkt.ring == r)

/-- Records of a ring that are spoken for. -/
def State.promised (s : State) (p r : Nat) : Nat := (s.host.cmds.map (fun c => c.mayOwe p r)).foldl (· + ·) 0

/-- Free records of a ring (R89). -/
def Ring.freeRecords (r : Ring) : Nat := r.records - ((r.cqTail + 2 ^ 32 - r.cqDb) % 2 ^ 32)

/-- A final record that its own ring cannot take goes to ring 0 of a port, through the orphan queue (R94, R673, R675); with
no ACTIVE ring 0 it is lost and the loss recorded. -/
def State.orphanTo (s : State) (p : Nat) (c : Rec) : State :=
  if (s.ring p 0).state = .active then
    let o : Orphan := {
      origPort := c.port, origRing := c.ring, tag := c.tag, status := c.status, detail := c.detail,
      execTick := c.execTick, opcode := c.opcode, resultLen := c.resultLen, seq := c.seq, trunc := c.trunc }
    s.modHostPort p (fun h => { h with orphans := h.orphans ++ [o] })
  else
    s.fault { source := 0xF120 + c.port, code := 0x21, key := c.port + 256 * c.ring + 65536 * 0xFF,
              detail := toLe 4 c.tag ++ toLe 2 c.opcode ++ toLe 2 c.status }

/-- Orphans go to ring 0 while it has records that are not reserved for its own commands, nor for `keep` records about to be posted
(R89, R94). -/
def State.drainOrphans (s : State) (p keep : Nat) : Nat → State
  | 0 => s
  | n + 1 =>
    let x := s.ring p 0
    match (s.hostPort p).orphans with
    | [] => s
    | o :: rest =>
      if !x.takesRecords ∨ (s.hostPort p).perst ∨ x.freeRecords ≤ s.promised p 0 + keep then s
      else
        let c : Rec := {
          port := o.origPort, ring := o.origRing, tag := o.tag, opcode := o.opcode, seq := o.seq, status := o.status
          detail := o.detail, execTick := o.execTick, resultLen := o.resultLen, trunc := o.trunc }
        ((s.modHostPort p (fun h => { h with orphans := rest })).writeRecord p 0 true c).drainOrphans p keep n

/-- Post a record for a packet: nothing in HALT or while rings do not run (R110, R112), the packet's ring (on ring 0 behind the orphans
that wait there, as far as they fit), or an orphan
(R94, R673, R675). A pending record is never an orphan. `keep` records of ring 0 are about to be posted that no entry speaks for, this one
among them. -/
def State.post (s : State) (c : Rec) (keep : Nat := 1) : State :=
  if s.up.dev = .halt ∨ s.up.dev = .off then s
  else
    let h := s.hostPort c.port
    let x := s.ring c.port c.ring
    if c.cut ∨ h.perst ∨ (s.unitStatus 4 c.port).lost then
      if c.status = 1 then s else s.orphanTo (1 - c.port) c
    else if x.takesRecords then
      let t := if c.ring = 0 then s.drainOrphans c.port keep h.orphans.length else s
      t.writeRecord c.port c.ring false c
    else if c.status = 1 then s
    else if x.noWrite then
      if c.ring = 0 then s.orphanTo (1 - c.port) c else s.orphanTo c.port c
    else s

/-- Write a result as far as its buffer goes and post the final record of one packet (R91, R97, R109). -/
def State.finishPacket (s : State) (p : Packet) (status detail execTick : Nat) (result : Bytes) (cut : Bool := false)
    (keep : Nat := 1) : State :=
  let (addr, cap) := p.resultDesc
  let s1 := if bit p.flags 2 ∧ result ≠ [] ∧ s.up.dev ≠ .halt ∧ s.up.dev ≠ .off then
      { s with host := { s.host with results := s.host.results ++
          [{ port := p.port, addr := addr, bytes := result.take cap }] } }
    else s
  s1.post { port := p.port, ring := p.ring, tag := p.tag, opcode := p.opcode, seq := p.seq, status := status,
            detail := detail, execTick := execTick, resultLen := result.length,
            trunc := decide (cap < result.length), cut := cut } keep

/-- Records of ring 0 that the two packets of a hold still need when the first of them is posted (R94, R103). -/
def keepFor (first second : Packet) : Nat := 1 + flag (second.ring == 0 && second.port == first.port)

/-- A status under which the command has taken effect (R108). -/
def tookEffect (status : Nat) : Bool := status == 0 || status == 0x13 || status == 0x31

/-- What a command staged for its tick is discarded when it ends before its effect has begun (R108): a group or plan and its streams, budgets
named for its tick, a table's coming configuration, a generation that was to open and its streams; a group that was to be destroyed is as it was, the state kept among the numbers of the
command. Tables, generations, slices and epochs have ends of their own in their chapters. -/
def State.discard (s : State) (c : Cmd) : State :=
  let drop (ids : List Nat) : List (Nat × Stream) := ids.foldl (fun m i => kvErase m i) s.streams
  match c.pkt.opcode, c.data with
  | 0x0501, gid :: _ =>
    let own (t : GroupTree) : List Nat := [t.up, t.down]
    let ids := (s.twill.groups.filter (fun g => g.id == gid)).flatMap (fun g => own g.t0 ++ ((g.t1.map own).getD []))
    { s with streams := drop ids, twill := { s.twill with groups := s.twill.groups.filter (fun g => g.id != gid) } }
  | 0x0502, was :: gid :: _ =>
    { s with twill := { s.twill with groups := s.twill.groups.map (fun g => if g.id = gid then
        { g with state := if was = 0 then .ready else if was = 1 then .rebuild else .waiting } else g) } }
  | 0x0601, i :: ids =>
    { s with streams := drop ids, jacquard := { s.jacquard with plans := s.jacquard.plans.filter (fun q => q.id != i) } }
  | 0x0705, _ =>
    { s with calico := { s.calico with tables := s.calico.tables.map (fun t =>
        if t.id = le c.pkt.body 0 2 then { t with configs := t.configs.filter (fun x => x != (c.due, c.pkt.body)) } else t) } }
  | 0x0803, gen :: ids =>
    -- the holders told of the opening are told that it is dropped
    let mine (k : GenTrack) : Bool := k.job == c.pkt.job && k.gen == gen
    let hs := ((s.store.tracks.filter mine).flatMap (fun k => k.holders.map Prod.fst)).filter (· != s.ownAddr)
    let s1 : State := { s with
      streams := drop ids
      store := { s.store with
        tracks := s.store.tracks.filter (fun k => !mine k)
        due := s.store.due.filter (fun d => !(d.op == 0 && d.job == c.pkt.job && d.gen == gen)) } }
    s1.tellAll hs 0x60 (toLe 1 3 ++ toLe 1 6 ++ toLe 2 c.pkt.job ++ toLe 4 gen ++ toLe 6 s.tickNow ++ zeros 2)
  | 0x0903, _ =>
    { s with power := { s.power with budgetsDue := s.power.budgetsDue.filter (fun d =>
        !(d.1 == c.due && c.reserves.contains (.shelf d.2.1))) } }
  | _, _ => s

/-- Final records of the packet that was held, if one shared the hold, and of the command's own; its entry leaves (R103, R110; the order
of the two: log entry 20). -/
def State.endNow (s : State) (id status detail tick : Nat) (result : Bytes) : State :=
  match s.host.cmds.find? (fun c => c.id == id) with
  | none => s
  | some c =>
    let s0 := { s with host := { s.host with cmds := s.host.cmds.filter (fun d => d.id != id) } }
    let s1 := if c.phase = .timed ∧ !tookEffect status then s0.discard c else s0
    let s2 := match c.twinPkt with
      | none => s1
      | some q => s1.finishPacket q status detail tick result (c.cut.contains q.port) (keepFor q c.pkt)
    s2.finishPacket c.pkt status detail tick result (c.cut.contains c.pkt.port)

/-- Opcodes whose effects depend on mirrored state (R650): classes 2 to 9 but for the carve and the operating points, and
KEY_ROTATE. -/
def mirroredOpcode (o : Nat) : Bool := (2 ≤ o / 256 && o / 256 ≤ 8) || o == 0x0903 || o == 0x0906 || o == 0x0B0A

/-- Status and detail with which a command ends: one that was late or was spread over ticks tells so where it would tell ST_OK (R65, R74). -/
def Cmd.endAs (c : Cmd) (status detail : Nat) : Nat × Nat :=
  if status = 0 ∧ c.endStatus = 0x13 then (0x13, c.endDetail) else (status, detail)

/-- A command ends; one that has taken effect on mirrored state waits for the twin (R108, R651). -/
def State.endCmd (s : State) (id status : Nat) (detail : Nat := 0) (result : Bytes := []) : State :=
  let entry := s.host.cmds.find? (fun c => c.id == id)
  let (status, detail) := (entry.map (fun c => c.endAs status detail)).getD (status, detail)
  let t := if tookEffect status then (entry.bind Cmd.effect).getD s.tickNow else 0
  let op := (entry.map (fun c => c.pkt.opcode)).getD 0
  if s.gating && tookEffect status && mirroredOpcode op then
    { s with mail := { s.mail with heldEnds := s.mail.heldEnds ++ [{
        seq := (s.twin.unacked.getLast?.map Delta.seq).getD 0, id := id, status := status, detail := detail, tick := t,
        result := result }] } }
  else s.endNow id status detail t result

/-- Post ST_PENDING for a command once (R69, R110, R111). -/
def State.postPending (s : State) (id detail : Nat) : State :=
  match s.cmd id with
  | none => s
  | some c =>
    if c.pendingPosted then s
    else (s.post { port := c.pkt.port, ring := c.pkt.ring, tag := c.pkt.tag, opcode := c.pkt.opcode, seq := c.pkt.seq,
                   status := 1, detail := detail, cut := c.cut.contains c.pkt.port } 0).modCmd id (fun d => { d with pendingPosted := true })

/-- Send a request for a command; its reply is awaited (R118). -/
def State.sendFor (s : State) (id : Nat) (m : Msg) (purpose : Nat := 0) : State :=
  let n := s.mail.nextMsg % 2 ^ 32
  if s.silenced m then s
  else (s.send m true (some id) purpose).modCmd id (fun c => { c with awaits := c.awaits ++ [n], begun := true })

/-- A ring enters ERROR (R93, R673): fetching stops, the first cause stays, RING_ERR and the record of S1. -/
def State.ringError (s : State) (p r cause errSlot : Nat) : State :=
  let x := s.ring p r
  let s1 := s.setRing p r { x with state := .error, errCause := cause, errSlot := errSlot,
                                   noWrite := x.noWrite || cause == 6 }
  let s2 := s1.modHostPort p (fun h => h.setCause 2)
  s2.fault { source := 0xF901, code := 0x21, key := p + 256 * r + 65536 * cause,
             detail := toLe 4 errSlot ++ toLe 4 x.seqExp }

/-! ### Masters (R107, R320 to R325) -/

/-- A master entry; an unlisted slot is empty. -/
def State.master (s : State) (slot : Nat) : Access := (kvGet s.access.masters slot).getD {}

/-- The master slot a ring acts for: the JOB entry it is bound to, or its port's master (R107, R324). -/
def State.masterOf (s : State) (p r : Nat) : Nat :=
  match s.access.masters.find? (fun e => 72 ≤ e.1 && e.2.cls == 5 && e.2.port == p && e.2.rings.getLsbD r) with
  | some e => e.1
  | none => p

/-- The master is the operator's host function (R322). -/
def State.isOperator (s : State) (slot : Nat) : Bool := (s.master slot).opr

/-- The job of a JOB master, none for another (R320). -/
def State.masterJob (s : State) (slot : Nat) : Option Nat :=
  if (s.master slot).cls = 5 then some (s.master slot).job else none

/-! ### Streams (R28 to R32) -/

/-- Stream IDs that are free for a job, lowest first, at most `n`; 0 to 255 belong to job 0 (R32), and those of a lost bank are withdrawn
(R27). As many IDs are tried in order as there are entries in use and IDs withdrawn, plus `n`, so that `n` are found when there are. -/
def State.freeStreams (s : State) (n : Nat) : List Nat :=
  let used := s.streams.map Prod.fst
  let lost := ((List.range 16).filter (fun b => (s.unitStatus 14 b).lost)).length
  (((List.range (min 65280 (used.length + n + 4096 * lost))).map (· + 256)).filter (fun i => !used.contains i &&
    !(s.unitStatus 14 (i / 4096)).lost)).take n

/-- The entry of a stream as it is opened now: under the epoch bit and the link key slot in use (R29, R580). -/
def State.opened (s : State) (e : Stream) : Stream :=
  let key := s.sec.keys.find? (fun k => k.job == e.job && k.kind == 0 && k.current)
  { e with state := 1, openTick := s.tickNow, epb := s.epb, kslot := (key.map (fun k => k.generation % 2)).getD 0 }

/-- The streams of a job use another link key slot (R29, R580). -/
def State.reslot (s : State) (job slot : Nat) : State :=
  { s with streams := s.streams.map (fun e => (e.1, if e.2.job = job then { e.2 with kslot := slot } else e.2)) }

/-- Every stream is re-pointed to the bank of another epoch bit (R29, R281). -/
def State.repoint (s : State) (epb : Nat) : State :=
  { s with streams := s.streams.map (fun e => (e.1, { e.2 with epb := epb })) }

/-- Open streams with the given entries, taking the lowest free IDs. -/
def State.openStreams (s : State) (l : List Stream) : State × List Nat :=
  let ids := s.freeStreams l.length
  ({ s with streams := (ids.zip l).foldl (fun m e => kvSet m e.1 (s.opened e.2)) s.streams }, ids)

/-- Release a stream: CLOSED and freed with nothing outstanding, DRAINING otherwise (R32). -/
def State.releaseStream (s : State) (id : Nat) : State :=
  match kvGet s.streams id with
  | none => s
  | some e =>
    if e.outstanding = 0 then { s with streams := kvErase s.streams id }
    else { s with streams := kvSet s.streams id { e with state := 2 } }

/-- The 64 bytes of a stream entry (R29). -/
def Stream.bytes (e : Stream) : Bytes :=
  toLe 8 (1 + 2 * e.kind + 2 ^ 4 * e.vc + 2 ^ 7 * e.epb + 2 ^ 8 * e.job + 2 ^ 20 * e.owner + 2 ^ 36 * e.peer
      + 2 ^ 52 * e.state + 2 ^ 56 * e.kslot)
    ++ toLe 6 e.openTick ++ toLe 4 e.txSeq ++ toLe 4 e.rxSeq ++ toLe 4 e.ccntCur ++ toLe 4 e.ccntPrev ++ toLe 4 e.expect
    ++ toLe 4 e.loss ++ toLe 6 e.lastTick ++ toLe 2 e.outstanding ++ zeros 2 ++ toLe 16 e.ctx

/-! ### Ports -/

/-- Replace a fabric port. -/
def State.setPort (s : State) (p : Nat) (x : Port) : State := { s with ports := kvSet s.ports p x }

/-- A port of a modelled node. -/
def State.nodePort (s : State) (r : PortRef) : Port :=
  match r.node with
  | .geneel => s.port r.port
  | .agent => (kvGet s.agent.ports r.port).getD {}

/-- Replace a port of a modelled node. -/
def State.setNodePort (s : State) (r : PortRef) (x : Port) : State :=
  match r.node with
  | .geneel => s.setPort r.port x
  | .agent => { s with agent := { s.agent with ports := kvSet s.agent.ports r.port x } }

/-- Change a port of a modelled node. -/
def State.modNodePort (s : State) (r : PortRef) (f : Port → Port) : State := s.setNodePort r (f (s.nodePort r))

/-! ### The outcome of a command -/

/-- Output pins follow the state: FAULT_N is low in HALT and on a failed clock check (R610, R624), THERM_TRIP_N while the
thermal trip is latched (R502). -/
def State.settle (s : State) : State :=
  { s with pins := { s.pins with
      faultN := !(s.up.dev == .halt || s.up.clockBad), thermTripN := !s.up.tripped } }

/-- The outcome of a command that takes `s` to `t`: the queue is not touched, and the output pins follow. -/
def State.finish (s t : State) : Host.Outcome State Fault Refusal := .next { t.settle with pending := s.pending }

/-! ### Booking accounts (R504, R507) -/

/-- The booking rule of R507: step `c`, earliest instant `t0`, allowance `b` per tick; the start and the account after it. -/
def Account.book (a : Account) (b c t0 : Nat) : Nat × Account :=
  let (f, left) := if a.frontier < t0 then (t0, b) else (a.frontier, a.left)
  let k := if c ≤ left ∨ b = 0 then 0 else cdiv (c - left) b
  (f + k, { frontier := f + k, left := left + k * b - c })

/-- Charge the core rail, in 0.01 A, from an instant on: the start, and the deferral counted (R504, R519). -/
def State.bookRail (s : State) (centiamps t0 : Nat) : State × Nat :=
  let (f, a) := s.power.rail.book (100 * s.power.railBudget) centiamps t0
  ({ s with power := { s.power with rail := a, railDeferrals := satAdd 32 s.power.railDeferrals (f - t0) } }, f)

/-- Count discarded or corrected run-ahead results of a job (R80, R704). -/
def State.countRunAhead (s : State) (job kind : Nat) (corrected : Bool) : State :=
  let old := (s.clock.runAhead.find? (fun r => r.job == job)).getD { job := job }
  let up (l : List Nat) : List Nat := l.modify kind (fun v => satAdd 32 v 1)
  let new := if corrected then { old with corrected := up old.corrected } else { old with discarded := up old.discarded }
  { s with clock := { s.clock with
      runAhead := insertBy RunAhead.job (s.clock.runAhead.filter (fun r => r.job != job)) new } }

end Sys2Proof.Machine
end

