-- ==== Sys2Proof/Machine/AgentOps.lean ====
section
/-! DEFINITION. Operations on the Olnan agent that its message rows and the link rows share (spec 05_agent_protocol):
its messages, replies, fault reports and link state reports. -/

namespace Sys2Proof.Machine

open Sys2Proof

/-- Change the agent's identity, ownership and timing part. -/
def State.modAgentCore (s : State) (f : AgentCore → AgentCore) : State :=
  { s with agent := { s.agent with core := f s.agent.core } }

/-- Change the agent's tables and work part. -/
def State.modAgentWork (s : State) (f : AgentWork → AgentWork) : State :=
  { s with agent := { s.agent with work := f s.agent.work } }

/-- A port of the agent. -/
def State.agentPort (s : State) (p : Nat) : Port := (kvGet s.agent.ports p).getD {}

/-- Own address in a message; 0xFFFF while the agent holds none (R144, R222). -/
def State.agentAddr (s : State) : Nat := s.agent.core.addr.getD 0xFFFF

/-- The epoch bit that the agent injects with: that of the bank in force (R143, R177); 0 before any is. -/
def State.agentEpb (s : State) : Nat := if s.agent.work.bankB.state = .active then 1 else 0

/-- A bank of the agent, 0 A, 1 B. -/
def AgentWork.bank (w : AgentWork) (b : Nat) : Bank := if b = 0 then w.bankA else w.bankB

/-- The route entry that a flit uses, by its bank's state and the overlay (R177, R183, R293); none when its epoch is no longer served. -/
def AgentWork.routeOf (w : AgentWork) (f : Flit) : Option (Option Nat) :=
  let k := w.bank f.epb
  match k.state with
  | .free => none
  | .active =>
    let o := match w.overlay with
      | some fid => (w.bankS.find? (fun d => d.failureId == fid)).bind (fun d => kvGet d.entries f.dst)
      | none => none
    some (match o with
      | some v => some v
      | none => kvGet k.routes f.dst)
  | _ => some (kvGet k.routes f.dst)

/-- The port by which an injected flit leaves: that of its entry in the bank in force, or in the overlay over it (R177, R178, R183); none
without a valid entry. -/
def State.agentExit (s : State) (f : Flit) : Option Nat :=
  if (s.agent.work.bank s.agentEpb).state ≠ .active then none
  else match s.agent.work.routeOf { f with epb := s.agentEpb } with
    | some (some e) =>
      let p := if f.vc ≤ 1 then bits e 55 48 else dataPort e f.stream
      if bit e 63 ∧ p ≠ 0xFF then some p else none
    | _ => none

/-- The agent's VC0 budget leaves room for one more flit to a Geneel: 64 flits a tick at 16 µs, of which 8 are for FAULT_REPORT alone
(R72, R167). Before its first marker an agent counts no ticks, and no budget of a tick holds (DEDUCED, log entry 224). -/
def State.agentRoom (s : State) (report : Bool) : Bool :=
  let c := s.agent.core
  let b (k : Nat) : Nat := k * c.period / 16
  !c.marked || (decide (c.vc0Sent + 1 ≤ b 64) && (report || decide (c.vc0Sent - c.vc0Reports + b 8 + 1 ≤ b 64)))

/-- A waiting flit has its budget: it waits for the output queue of its port, which it joins with the port's next choice (R152). -/
def State.agentLeave (s : State) (e : AgentOut) : State :=
  s.modAgentCore (fun c => { c with
    outbox := c.outbox.erase e, flits := c.flits ++ [(e.port, e.flit)], vc0Sent := c.vc0Sent + 1
    vc0Reports := if e.report then c.vc0Reports + 1 else c.vc0Reports })

/-- Waiting flits leave in their order while the budget has room, those of FAULT_REPORT past the others (R74, R167). -/
def State.agentPump (s : State) : State :=
  s.agent.core.outbox.foldl (fun t e => if t.agentRoom e.report then t.agentLeave e else t) s

/-- A message of the agent goes out, in segments of 208 bytes of body, as its budget allows (R160, R162, R167). -/
def State.agentDispatch (s : State) (m : Msg) : State :=
  let fs : List AgentOut := (msgAsFlits m s.agentEpb).map (fun f =>
    { report := m.type == 0x0E, port := if m.sourceRouted then m.port else none, flit := f })
  (s.modAgentCore (fun c => { c with sent := c.sent ++ [m], outbox := c.outbox ++ fs })).agentPump

/-- The agent sends a message of its own (R160); its token field is 0. -/
def State.agentSend (s : State) (dst type flags stream : Nat) (body : Bytes) : State :=
  let m : Msg := {
    src := s.agentAddr, dst := dst, type := type, flags := flags, msgid := s.agent.core.nextMsg, stream := stream,
    body := body }
  (s.modAgentCore (fun c => { c with nextMsg := (c.nextMsg + 1) % 2 ^ 32 })).agentDispatch m

/-- Both Geneels of the owner bolt (R175, R198). -/
def State.agentGeneels (s : State) : List Nat :=
  match s.agent.core.owner with
  | some b => [0xF000 + 2 * b, 0xF001 + 2 * b]
  | none => []

/-- Code of a link state (R175). -/
def LinkState.code : LinkState → Nat
  | .down => 0 | .training => 1 | .up => 2 | .retrain => 3 | .fenced => 4

/-- The 12-byte port record of LINKSTATE (R175). -/
def Port.record (x : Port) (n : Nat) : Bytes :=
  toLe 1 n ++ toLe 1 x.link.state.code ++ toLe 1 x.link.width ++ toLe 1 x.link.linkClass ++ toLe 4 x.link.delayPs
    ++ toLe 2 ((x.link.far.map Hello.addr).getD 0xFFFF) ++ toLe 1 ((x.link.far.map Hello.port).getD 0xFF)
    ++ toLe 1 (flag x.flow.sessionNear)

/-- A change of link state or width, or SESSION_NEAR, is reported: by the agent to both Geneels of its owner bolt in an
unsolicited LINKSTATE, at a Geneel port to its own firmware (R142, R175). -/
def State.reportLink (s : State) (r : PortRef) : State :=
  let rec_ := (s.nodePort r).record r.port
  match r.node with
  | .geneel => { s with mail := { s.mail with linkNews := s.mail.linkNews ++ [(s.ownAddr, rec_)] } }
  | .agent => s.agentGeneels.foldl (fun t g => t.agentSend g 0x03 2 2 rec_) s

/-- A fault occurs that is not reported by itself: it counts toward the next report of its code (R198). -/
def State.agentOccurred (s : State) (code : Nat) : State :=
  s.modAgentCore (fun c => { c with
    since := kvSet c.since code ((kvGet c.since code).getD 0 + 1)
    sinceTick := if (kvGet c.sinceTick code).isSome then c.sinceTick else kvSet c.sinceTick code c.tick })

/-- The agent reports a fault (R198): to both Geneels of its owner bolt, with the count since the last report of the code and the
tick of the first of them, repeated until
acknowledged. -/
def State.agentReport (s : State) (source code job : Nat) (data : Bytes := []) : State :=
  let n := (kvGet s.agent.core.since code).getD 0 + 1
  let first := (kvGet s.agent.core.sinceTick code).getD s.agent.core.tick
  let body := toLe 2 source ++ toLe 2 code ++ toLe 2 job ++ toLe 6 first ++ toLe 4 n ++ field data 0 16
  let id := s.agent.core.nextMsg
  let s1 := s.agentGeneels.foldl (fun t g => t.agentSend g 0x0E 2 2 body) s
  s1.modAgentCore (fun c => { c with
    since := kvErase c.since code, sinceTick := kvErase c.sinceTick code
    reports := c.reports ++ [{ msgid := id, body := body, sends := 1, lastTick := c.tick }] })

/-- Count in the agent's block 2 (R197). -/
def State.agentCount (s : State) (n : Nat) (k : Nat := 1) : State :=
  s.modAgentCore (fun c => { c with counters := bump c.counters n k })

/-! ### Replies -/

/-- An agent status with its detail and type-specific reply data (R164, R165). -/
structure AgentAnswer where
  status : Nat
  detail : Nat := 0
  data : Bytes := []
  deriving DecidableEq, Repr

/-- AS_OK. -/
def AgentAnswer.ok : AgentAnswer := { status := 0 }

/-- Only AS_OK and AS_DEFERRED have an effect (R165). -/
def AgentAnswer.good (a : AgentAnswer) : Bool := a.status == 0 || a.status == 8

/-- The reply message to a request: status block and data, the request's MSGID, source-routed back where the request was (R160, R164,
R173). -/
def State.replyMsg (s : State) (m : Msg) (a : AgentAnswer) : Msg :=
  let body := toLe 2 a.status ++ zeros 2 ++ toLe 4 a.detail ++ a.data
  { src := s.agentAddr, dst := if m.sourceRouted then 0xFFFF else m.src
    type := if m.type = 0x01 ∧ (m.body.getD 34 0).toNat ≤ 1 ∧ a.good then 0x02 else m.type
    flags := 1, msgid := m.msgid, stream := 1, enc := m.enc, port := m.port, body := if m.sourceRouted then m.routeBack ++ body else body }

/-- Reply to a request (R164). Only that of an accepted one is kept for a repeat of the request, the last 64 of each Geneel (R166); accepted
is what has an effect (DEDUCED from R165, log entry 205). -/
def State.agentReply (s : State) (m : Msg) (a : AgentAnswer) : State :=
  let r := s.replyMsg m a
  let mine := (s.agent.core.replies.filter (fun e => e.1 == m.src)).take 63
  let others := s.agent.core.replies.filter (fun e => e.1 != m.src)
  ((s.modAgentCore (fun c => { c with
    replies := if a.good then (m.src, m.msgid, r) :: (mine ++ others) else c.replies })).agentDispatch r).agentCount 1

/-- Message types that an agent knows (R161). -/
def agentTypes : List Nat := [0x01, 0x02, 0x03, 0x04, 0x05, 0x06, 0x07, 0x08, 0x09, 0x0A, 0x0B, 0x0C, 0x0D, 0x0E, 0x0F, 0x10, 0x11]

/-- A message has arrived whole (R161, R162): it waits to be acted on; one of any other TYPE is answered with AS_UNSUPPORTED. -/
def State.agentTake (s : State) (m : Msg) : State :=
  if agentTypes.contains m.type ∨ s.agent.core.state = .reset then s.modAgentCore (fun c => { c with inbox := c.inbox ++ [m] })
  else s.agentReply m { status := 6 }

/-- The agent's budget of TABLE_WRITE entries per tick (R72). -/
def State.agentBudget (s : State) : Nat := 1024 * s.agent.core.period / 16

end Sys2Proof.Machine
end

