-- ==== Sys2Proof/Machine/Fec.lean ====
section
/-! DEFINITION. What the lanes of a port carry (spec 04_fabric_links): the bytes of a flit (R139, R140), the codewords of RS(544,514) over
GF(2^10) that carry its bits (R133, R134), and their symbols on the trained lanes. -/

namespace Sys2Proof.Machine

open Sys2Proof

/-! ### The bytes of a flit (R139, R140) -/

/-- KIND (R139). -/
def flitKindCode : FlitKind → Nat
  | .data => 0 | .control => 1 | .retryRequest => 2 | .idle => 3

/-- PLEN (R140): the valid bytes of a data flit's payload; zero in the other flits, which do not use the field (R139). -/
def flitPlen (f : Flit) : Nat := match f.kind with
  | .data => if f.enc then f.plen else f.payload.length
  | _ => 0

/-- The 16 bytes of a flit's header (R140). -/
def flitHeader (f : Flit) : Bytes :=
  toLe 16 (f.lseq + 2 ^ 12 * f.lack + 2 ^ 24 * flitKindCode f.kind + 2 ^ 26 * f.vc + 2 ^ 29 * f.epb + 2 ^ 30 * f.kgen
    + 2 ^ 31 * flag f.enc + 2 ^ 32 * f.dst + 2 ^ 48 * f.src + 2 ^ 64 * f.stream + 2 ^ 80 * f.job + 2 ^ 92 * flitPlen f
    + 2 ^ 100 * f.crvc + 2 ^ 103 * f.crcnt + 2 ^ 108 * f.sseq)

/-- The 256 bytes of a flit: header, then the tag of an encrypted one, then the payload, unused bytes zero (R139, R140). -/
def flitBytes (f : Flit) : Bytes :=
  field (flitHeader f ++ (if f.enc then field f.tag 0 16 else []) ++ f.payload) 0 256

/-! ### GF(2^10)

R133 names the code of IEEE 802.3 and gives neither the field's polynomial nor the generator: PRESUMED (log entry 192), x^10 + x^3 + 1 and
the product of x - a^j for j from 0 to 29, a being the element x, the symbol sent first being the highest power; a symbol's bits come in the
order of the bytes, least significant first. -/

/-- Sum in the field. -/
def gfAdd (a b : Nat) : Nat := a ^^^ b

/-- Product with the element x. -/
def gfStep (a : Nat) : Nat := if 512 ≤ a then (2 * a) ^^^ 1033 else 2 * a

/-- Product of two elements, over `n` bits of the second. -/
def gfMulBits : Nat → Nat → Nat → Nat
  | 0, _, _ => 0
  | n + 1, a, b => gfAdd (if b % 2 = 1 then a else 0) (gfMulBits n (gfStep a) (b / 2))

/-- Product of two elements. -/
def gfMul (a b : Nat) : Nat := gfMulBits 10 a b

/-- Power of an element, over `n` bits of the exponent. -/
def gfPowBits : Nat → Nat → Nat → Nat
  | 0, _, _ => 1
  | n + 1, a, e => gfMul (if e % 2 = 1 then a else 1) (gfPowBits n (gfMul a a) (e / 2))

/-- A power of the element x; the exponent counts modulo 1,023. -/
def gfExp (e : Nat) : Nat := gfPowBits 10 2 (e % 1023)

/-- The inverse of an element other than zero. -/
def gfInv (a : Nat) : Nat := gfPowBits 10 a 1022

/-- Value of a polynomial, lowest coefficient first. -/
def gfEval (p : List Nat) (x : Nat) : Nat := p.foldr (fun c v => gfAdd c (gfMul x v)) 0

/-- Sum of two polynomials, lowest coefficient first. -/
def gfPolyAdd : List Nat → List Nat → List Nat
  | [], q => q
  | p, [] => p
  | a :: p, b :: q => gfAdd a b :: gfPolyAdd p q

/-- Product of two polynomials, lowest coefficient first. -/
def gfPolyMul (p q : List Nat) : List Nat :=
  p.foldr (fun c r => gfPolyAdd (q.map (gfMul c)) (0 :: r)) []

/-! ### RS(544,514) (R133) -/

/-- The generator polynomial without its leading 1, lowest coefficient first: 30 coefficients. -/
def rsGenerator : List Nat := ((List.range 30).foldl (fun g j => gfPolyMul [gfExp j, 1] g) [1]).take 30

/-- The 30 check symbols of 514 data symbols: the remainder of the data, shifted by 30, by the generator. -/
def rsCheck (data : List Nat) : List Nat :=
  (data.foldl (fun r d =>
    let q := gfAdd d (r.getD 29 0)
    (List.range 30).map (fun i => gfAdd (gfMul q (rsGenerator.getD i 0)) (if i = 0 then 0 else r.getD (i - 1) 0)))
    (List.replicate 30 0)).reverse

/-- A codeword: 514 data symbols and their check symbols. -/
def rsEncode (data : List Nat) : List Nat := data ++ rsCheck data

/-- The 30 syndromes of 544 received symbols. -/
def rsSyndromes (r : List Nat) : List Nat := (List.range 30).map (fun j => gfEval r.reverse (gfExp j))

/-- One step of the search for the shortest error locator: the locator, the one before it, the length, the gap, and the earlier
discrepancy. -/
def rsLocatorStep (syn : List Nat) (a : List Nat × List Nat × Nat × Nat × Nat) (n : Nat) : List Nat × List Nat × Nat × Nat × Nat :=
  let (c, b, l, m, e) := a
  let d := (List.range (l + 1)).foldl (fun v i => if n < i then v else gfAdd v (gfMul (c.getD i 0) (syn.getD (n - i) 0))) 0
  if d = 0 then (c, b, l, m + 1, e)
  else
    let c' := gfPolyAdd c (List.replicate m 0 ++ b.map (gfMul (gfMul d (gfInv e))))
    if 2 * l ≤ n then (c', c, n + 1 - l, 1, d) else (c', b, l, m + 1, e)

/-- The error locator and its length. -/
def rsLocator (syn : List Nat) : List Nat × Nat :=
  let (c, _, l, _, _) := (List.range 30).foldl (rsLocatorStep syn) ([1], [1], 0, 1, 1)
  (c, l)

/-- Decode 544 symbols (R133, R134): the codeword and the number of symbols corrected, at most 15; none where it is uncorrectable. -/
def rsDecode (r : List Nat) : Option (List Nat × Nat) :=
  let syn := rsSyndromes r
  if syn.all (· == 0) then some (r, 0)
  else
    let (c, l) := rsLocator syn
    -- power of x of each place, and whether the locator has its root there
    let bad := (List.range 544).filter (fun p => gfEval c (gfExp (1023 - p)) == 0)
    if 15 < l ∨ bad.length ≠ l then none
    else
      let omega := (gfPolyMul syn c).take 30
      let slope := (List.range (c.length - 1)).map (fun i => if i % 2 = 0 then c.getD (i + 1) 0 else 0)
      let fixed := bad.foldl (fun w p =>
        let x := gfExp (1023 - p)
        let v := gfMul (gfExp p) (gfMul (gfEval omega x) (gfInv (gfEval slope x)))
        w.modify (543 - p) (gfAdd v)) r
      if (rsSyndromes fixed).all (· == 0) then some (fixed, l) else none

/-! ### Flits in codewords, symbols on lanes (R133, R134) -/

/-- The bits of a byte string as one number, the first byte lowest. -/
def symbolsOf (n v : Nat) : List Nat := match n with
  | 0 => []
  | k + 1 => v % 1024 :: symbolsOf k (v / 1024)

/-- The data symbols of the whole codewords that a stream of flits fills; what does not fill one yet waits. -/
def dataSymbols (l : List Flit) : List Nat :=
  symbolsOf (2048 * l.length / 5140 * 514) (leVal (l.flatMap flitBytes))

/-- The codewords that a stream of flits fills, in order. -/
def codewordsOf (l : List Flit) : List (List Nat) :=
  let d := dataSymbols l
  (List.range (2048 * l.length / 5140)).map (fun k => rsEncode ((d.drop (514 * k)).take 514))

/-- The symbols of lane `i` of `w` trained lanes: those of successive codewords in round robin. -/
def laneSymbols (words : List (List Nat)) (w i : Nat) : List Nat :=
  ((words.flatten).zipIdx.filter (fun s => s.2 % w == i)).map Prod.fst

/-- The codewords that have a bit of flit `n` of a stream: a flit is 2,048 bits, a codeword carries 5,140. -/
def wordsOfFlit (n : Nat) : List Nat :=
  let (a, b) := (2048 * n / 5140, (2048 * n + 2047) / 5140)
  if a = b then [a] else [a, b]

/-- Symbol errors of a received codeword against the one sent. -/
def symbolErrors (sent got : List Nat) : Nat := ((sent.zip got).filter (fun p => p.1 != p.2)).length

/-- What the decoder finds in the codewords of flit `n` of a stream that was sent as `sent` and came as `got`: the operand of the rows at which
a flit arrives. More than 15 errors are one uncorrectable codeword (R134). -/
def codewordsFound (sent got : List (List Nat)) (n : Nat) : Codewords := {
  errors := (wordsOfFlit n).map (fun k => symbolErrors (sent.getD k []) (got.getD k []))
  shared := n != 0 && (wordsOfFlit (n - 1)).any (fun k => (wordsOfFlit n).head? == some k) }

end Sys2Proof.Machine
end

