-- ==== Sys2Proof/Machine/Links.lean ====
section
/-! DEFINITION. The link layer (spec 04_fabric_links): training, retraining, link control flits, retry, sessions, credits
and arbitration, at a Geneel port or an agent port alike. -/

namespace Sys2Proof.Machine

open Sys2Proof

/-! ### Shared parts -/

/-- Change the training part of a port. -/
def State.modLink (s : State) (r : PortRef) (f : Link → Link) : State :=
  s.modNodePort r (fun x => { x with link := f x.link })

/-- Change the traffic part of a port. -/
def State.modFlow (s : State) (r : PortRef) (f : Flow → Flow) : State :=
  s.modNodePort r (fun x => { x with flow := f x.flow })

/-- Count in block 0 of a port (R197). -/
def State.portCount (s : State) (r : PortRef) (n : Nat) (k : Nat := 1) : State :=
  s.modFlow r (fun w => { w with counters := bump w.counters n k })

/-- The key of a port's record: lane mask and width (R611). -/
def Link.key (l : Link) : Nat := l.goodLanes.toNat + 256 * l.width

/-- A port's fault: at a Geneel under the port's source ID, at an agent in FAULT_REPORT (R138, R198). -/
def State.portFault (s : State) (r : PortRef) (code agentCode : Nat) (job : Nat := 0) : State :=
  match r.node with
  | .geneel => s.fault { source := 0xF400 + r.port, code := code, key := (s.nodePort r).link.key }
  | .agent => if agentCode = 0 then s else s.agentReport r.port agentCode job

/-- A data flit that this Geneel sent has left its retry buffer (R29): its stream has one flit less outstanding, and one more lost where the
flit was dropped. What completes a flit is open (R29): DESIGN CHOICE (log entry 194), that the far end of the link has accepted it. A
DRAINING stream with nothing outstanding any more is CLOSED (R32). -/
def State.completed (s : State) (lost : Bool) (f : Flit) : State :=
  match kvGet s.streams f.stream with
  | some e =>
    if f.kind = .data ∧ e.job = f.job ∧ f.src = s.ownAddr then
      { s with streams := kvSet s.streams f.stream { e with
          outstanding := e.outstanding - 1, lastTick := s.tickNow, loss := if lost then satAdd 32 e.loss 1 else e.loss
          state := if e.state = 2 ∧ e.outstanding ≤ 1 then 3 else e.state } }
    else s
  | none => s

/-- Flits dropped by a training that discards link state, each counted in the port's drop counter, and a data flit in its stream's LOSS
where the dropping end holds the stream (R128). -/
def State.dropFlits (s : State) (r : PortRef) (l : List Flit) : State :=
  let s1 := s.portCount r 6 l.length
  match r.node with
  | .agent => s1
  | .geneel => l.foldl (State.completed · true ·) s1

/-- A flit that came in on a port of the agent has no way out: discarded and counted as misrouted (R178, R294). The first in a tick is
reported with code 11 (DESIGN CHOICE, log entry 209: R198 gives the code, no rule says how often). -/
def State.misroute (s : State) (port : Nat) : State :=
  let s1 := s.portCount { node := .agent, port := port } 7
  if s1.agent.core.misroutedReported then s1.agentOccurred 11
  else (s1.agentReport port 11 0).modAgentCore (fun c => { c with misroutedReported := true })

/-- A port of the agent leaves UP for DOWN, TRAINING or FENCED: what is queued for it is discarded and counted as misrouted (R294). -/
def State.dropQueue (s : State) (r : PortRef) : State :=
  match r.node with
  | .geneel => s
  | .agent => ((s.nodePort r).link.outQueue.foldl (fun t e => t.misroute e.1) s).modLink r (fun l => { l with outQueue := [] })

/-- Training that this port goes through waits for a release: at an agent that has been claimed since its reset (R515). -/
def State.agentWaits (s : State) : Bool := s.agent.core.state != .reset && s.agent.core.state != .unclaimed

/-- Go to TRAINING: link state is discarded at this end (R124, R128, R147, R151), and the codewords of the lanes begin anew (R133). No attempt
runs yet. -/
def State.discardLink (s : State) (r : PortRef) : State :=
  let l := (s.nodePort r).link
  let s1 := (s.dropQueue r).dropFlits r (l.retryBuf ++ l.inputBuf)
  let s2 := s1.modLink r (fun l => { l with
    state := .training, step := 0, width := 0, goodLanes := 0, far := none, helloAcked := false, hellosSent := 0,
    txSeq := 0, rxSeq := 0, retryBuf := [], inputBuf := [], replays := 0, retryHold := none, tagFailed := none,
    waits := false, unrecovered := false, control := [], wire := [] })
  s2.modFlow r (fun w => { w with
    owed := [0, 0, 0, 0, 0, 0, 0, 0], due := [0, 0, 0, 0, 0, 0, 0, 0], session := none, farSession := none,
    sessionsUsed := [], sessionAt := none, txCount := 0, rxCount := 0, sessionNear := false, exchanges := [],
    delays := [], askedLast := false })

/-- The next attempt begins with step 1 (R124, R125). -/
def State.beginAttempt (s : State) (r : PortRef) : State :=
  s.modLink r (fun l => { l with step := 1, attempts := l.attempts + 1, waits := false })

/-- Enter TRAINING with an attempt at once. -/
def State.enterTraining (s : State) (r : PortRef) : State := (s.discardLink r).beginAttempt r

/-- Enter TRAINING and wait for the release (R129, R515). -/
def State.awaitTraining (s : State) (r : PortRef) : State := (s.discardLink r).modLink r (fun l => { l with waits := true })

/-- The training of an own port is charged against the rail, 0.25 A per lane (R504): when its booking returns, `what` of RAIL_BOOKING_START
being the number given. -/
def State.bookPort (s : State) (what lanes : Nat) : State × Bool :=
  let (s1, f) := s.bookRail (25 * lanes) s.clock.now
  if f ≤ s1.clock.now then (s1, true) else ({ s1 with up := { s1.up with booked := s1.up.booked ++ [(what, f)] } }, false)

/-- A training that a retrain falls to (R124, R129, R515): at once, or once it is released. -/
def State.trainAgain (s : State) (r : PortRef) : State :=
  match r.node with
  | .agent => if s.agentWaits then s.awaitTraining r else s.enterTraining r
  | .geneel =>
    let (s1, go) := s.bookPort (32 + r.port) 8
    if go then s1.enterTraining r else s1.awaitTraining r

/-- Fence a link: FENCED at once at the port, S3 at the Geneel with the unit's fence at the next marker (R124, R138). -/
def State.fenceLink (s : State) (r : PortRef) (cause : Nat) : State :=
  let s1 := (s.dropQueue r).modLink r (fun l => { l with state := .fenced, step := 0, waits := false, fenceCause := cause })
  (s1.portFault r 0x0A 3).reportLink r

/-- Width that the good lanes allow, with the lanes used (R126). -/
def widthOf (good : BitVec 8) : Nat × BitVec 8 :=
  let g := good.toNat
  if g = 255 then (8, 0xFF#8)
  else if g % 16 = 15 then (4, 0x0F#8)
  else if g / 16 = 15 then (4, 0xF0#8)
  else if g % 4 = 3 then (2, 0x03#8)
  else if g / 4 % 4 = 3 then (2, 0x0C#8)
  else if g / 16 % 4 = 3 then (2, 0x30#8)
  else if g / 64 = 3 then (2, 0xC0#8)
  else (0, 0#8)

/-- TOPO.LINK.FCAUSE of a port that failed training: 1 below 2 lanes, 5 on a class mismatch, else 2 (R130, R229). -/
def failCause (l : Link) (geneel : Bool) : Nat :=
  if 5 < l.step ∧ popcount 8 l.goodLanes.toNat ≤ 1 then 1
  else match l.far with
    | some h => if h.linkClass ≠ l.linkClass ∨ (geneel = true ∧ 1 < h.linkClass) then 5 else 2
    | none => 2

/-- A running attempt ends in failure: the next attempt, or FENCED after the third or with 0 or 1 good lanes (R124); the width that it had is
reported gone (R175). While the port waits for its release no attempt runs (R129). -/
def State.failAttempt (s : State) (r : PortRef) : State :=
  let l := (s.nodePort r).link
  if l.state ≠ .training ∨ l.step = 0 then s
  else if 3 ≤ l.attempts ∨ (5 < l.step ∧ popcount 8 l.goodLanes.toNat ≤ 1) then
    s.fenceLink r (failCause l (r.node == .geneel))
  else if l.width = 0 then s.enterTraining r
  else (s.enterTraining r).reportLink r

/-- Free the retry buffer up to LACK (R136). -/
def freeAcked (buf : List Flit) (lack : Nat) : List Flit :=
  match buf.findIdx? (fun f => f.lseq == lack) with
  | some i => buf.drop (i + 1)
  | none => buf

/-- A received LACK: the retry buffer is freed, progress ends the replay count, a HELLO covered is noted (R136, R145), and the Geneel's
streams have what they had outstanding there completed (R29). -/
def State.takeLack (s : State) (r : PortRef) (lack : Nat) : State :=
  let l := (s.nodePort r).link
  let b := freeAcked l.retryBuf lack
  if b.length = l.retryBuf.length then s
  else
    let freed := l.retryBuf.take (l.retryBuf.length - b.length)
    let s1 := s.modLink r (fun l => { l with
      retryBuf := b, replays := 0
      helloAcked := l.helloAcked || freed.any (fun f => f.kind == .control && le f.payload 16 1 == 1) })
    match r.node with
    | .agent => s1
    | .geneel => freed.foldl (State.completed · false ·) s1

/-- One retry request for the expected LSEQ, none again until 2 us have passed (R136). -/
def State.askRetry (s : State) (r : PortRef) : State :=
  let l := (s.nodePort r).link
  if l.retryHold = some l.rxSeq then s
  else s.modLink r (fun l => { l with
    retryHold := some l.rxSeq
    wire := l.wire ++ [{ lseq := l.rxSeq, lack := (l.rxSeq + 4095) % 4096, kind := .retryRequest }] })

/-- Symbol errors of the codewords that are counted with this flit (R134). -/
def codewordsCounted (c : Codewords) : List Nat := if c.shared then c.errors.drop 1 else c.errors

/-- A codeword that has a bit of the flit is uncorrectable: more than 15 symbol errors (R134). -/
def codewordsBad (c : Codewords) : Bool := c.errors.any (fun n => decide (15 < n))

/-- The tick of a node: an agent's own (R60), the Geneel's instants (R700). -/
def State.nodeNow (s : State) (n : Node) : Nat := match n with
  | .geneel => s.clock.now
  | .agent => s.agent.core.tick

/-- A duration in microseconds counted in the ticks of a node (R46). -/
def State.nodeTicks (s : State) (n : Node) (us : Nat) : Nat := match n with
  | .geneel => s.ticks us
  | .agent => cdiv us s.agent.core.period

/-- Codewords of an arriving flit are counted: corrected ones at S0, uncorrectable ones for the retrain trigger (R134, R135, R138, R197). -/
def State.countCodewords (s : State) (r : PortRef) (c : Codewords) : State :=
  let l := codewordsCounted c
  let fixed := (l.filter (fun n => decide (0 < n) && decide (n ≤ 15))).length
  let bad := (l.filter (fun n => decide (15 < n))).length
  let s1 := if fixed = 0 then s else (s.portCount r 2 fixed).portFault r 0x08 0
  if bad = 0 then s1
  else (s1.portCount r 3 bad).modLink r (fun l => { l with uncorrTimes := l.uncorrTimes ++ List.replicate bad (s.nodeNow r.node) })

/-- A retry request or an idle flit arrives: its codewords count, and it is as if not received where one of them is uncorrectable; not
sequenced, it asks for no retry (R134, R136, R139). -/
def State.takeBare (s : State) (r : PortRef) (f : BareFlit) : State × Bool := (s.countCodewords r f.cw, !codewordsBad f.cw)

/-- The receiver of R136: whether a sequenced flit is the next expected one. A flit not received (R134) or a gap asks for a retry; a
flit already accepted is discarded (DEDUCED: it is a replay). -/
def State.takeSeq (s0 : State) (r : PortRef) (f : Flit) (c : Codewords) : State × Bool :=
  let s := s0.countCodewords r c
  let l := (s.nodePort r).link
  if codewordsBad c then ((s.modLink r (fun l => { l with unrecovered := true })).askRetry r, false)
  else
    let s1 := s.takeLack r f.lack
    if f.lseq = l.rxSeq then (s1, true)
    else if (l.rxSeq + 4096 - f.lseq) % 4096 ≤ 2048 then (s1, false)
    else (s1.askRetry r, false)

/-- Accept the LSEQ of a sequenced flit and add the credits of its header (R136, R149); an uncorrectable codeword is now recovered by
retry, at S2 (R138). -/
def State.acceptSeq (s : State) (r : PortRef) (f : Flit) : State :=
  let s0 := if (s.nodePort r).link.unrecovered then s.portFault r 0x09 4 else s
  let s1 := s0.modLink r (fun l => { l with
    rxSeq := (l.rxSeq + 1) % 4096, retryHold := none, tagFailed := none, unrecovered := false })
  s1.modFlow r (fun w => { w with owed := w.owed.modify f.crvc (· - f.crcnt) })

/-- Add the eight credit counts of a link control flit (R144). -/
def State.takeCredits (s : State) (r : PortRef) (f : Flit) : State :=
  s.modFlow r (fun w => { w with owed := w.owed.zipWith (· - ·) ((List.range 8).map (fun v => le f.payload (2 * v) 2)) })

/-- Unacknowledged flits that a port may have (R137): 256 at the Geneel, below 2,048 at the agent. -/
def windowOf (n : Node) : Nat := match n with
  | .geneel => 256
  | .agent => 2047

/-- Send a link control flit: sequenced, with all credits due (R139, R144). `fields` are bytes 32 on, op first. -/
def State.controlNow (s : State) (r : PortRef) (fields : Bytes) : State :=
  let x := s.nodePort r
  let f : Flit := {
    lseq := x.link.txSeq, lack := (x.link.rxSeq + 4095) % 4096, kind := .control
    payload := (x.flow.due.flatMap (fun n => toLe 2 (min n 65535))) ++ fields }
  (s.modLink r (fun l => { l with
      txSeq := (l.txSeq + 1) % 4096, retryBuf := l.retryBuf ++ [f], wire := l.wire ++ [f] })).modFlow r
    (fun w => { w with due := [0, 0, 0, 0, 0, 0, 0, 0] })

/-- A link control flit goes out, or waits in order for room in the window (R137); data wait behind it. -/
def State.sendControl (s : State) (r : PortRef) (fields : Bytes) : State :=
  let l := (s.nodePort r).link
  if l.control = [] ∧ l.retryBuf.length < windowOf r.node then s.controlNow r fields
  else s.modLink r (fun l => { l with control := l.control ++ [fields] })

/-- The first step of every sequenced link control row: accept, add credits, and go on when accepted. -/
def State.takeControl (s : State) (r : PortRef) (f : Flit) (c : Codewords) : State × Bool :=
  let (s1, ok) := s.takeSeq r f c
  if ok then ((s1.acceptSeq r f).takeCredits r f, true) else (s1, false)

/-- A link carries flits: UP, or training step 7 for link control (R124, R145). -/
def Link.talks (l : Link) : Bool := l.state == .up || (l.state == .training && l.step == 7)

/-- What each trained lane of a port has carried since its full training, which fixed the width: the symbols of the codewords that its transmit stream fills, in round robin (R133). -/
def State.laneStreams (s : State) (r : PortRef) : List (List Nat) :=
  let l := (s.nodePort r).link
  (List.range l.width).map (laneSymbols (codewordsOf l.wire) l.width)

/-- The HELLO of this end (R144): for a port of the Geneel or of the agent. -/
def State.helloBytes (s : State) (r : PortRef) : Bytes :=
  let l := (s.nodePort r).link
  let (ver, kind, addr, serial) := match r.node with
    | .geneel => (3, 4, s.ownAddr, s.up.serial)
    | .agent => (s.agent.core.version, s.agent.core.kind, s.agentAddr, s.agent.core.serial)
  toLe 1 1 ++ toLe 1 ver ++ toLe 1 kind ++ toLe 2 addr ++ toLe 1 r.port ++ toLe 1 l.linkClass ++ toLe 1 l.width
    ++ zeros 1 ++ toLe 8 serial

/-- Start a delay measurement at local time `t` in ps: 64 exchanges, due one per microsecond (R131, R146). OUTPUT_FLIT_SELECT sends the TS_REQ
of each, with t1 the time of that flit; that a microsecond lies between two is timing, which the model does not hold it to (log entry 195). -/
def State.startMeasure (s : State) (r : PortRef) (t : Nat) : State :=
  s.modFlow r (fun w => { w with
    exchanges := (List.range 64).map (fun k => { index := k, t1 := (t + k * 1000000) % 2 ^ 64 }), delays := [] })

/-- Local time at a port's serial pins, in ps, where no event brings it (R146): a free value. -/
def State.localTime (s : State) (q : Nat) : Nat := Config.freeNat (2 ^ 72 + s.clock.now * 256 + q) % 2 ^ 64

/-- Both ends of every link that is UP measure its delay at DISCOVER_START (R131); that the agent modelled does so at the same command is
DESIGN CHOICE (log entry 201: the spec names no message that tells it). -/
def State.measureAll (s : State) : State :=
  let start (t : State) (r : PortRef) (k : Nat) : State :=
    if (t.nodePort r).link.state = .up then t.startMeasure r (t.localTime k) else t
  let s1 := (List.range 40).foldl (fun t q => start t { node := .geneel, port := q } q) s
  (List.range s.agent.core.portCount).foldl (fun t q => start t { node := .agent, port := q } (128 + q)) s1

/-- A flit injected at the agent leaves by a port, or is discarded and counted as misrouted where none is for it (R178); the counter is that
of port 0, a flit injected having no port that it came by (DESIGN CHOICE, log entry 209). -/
def State.agentEnqueue (s : State) (port : Option Nat) (f : Flit) : State := match port with
  | some p => s.modLink { node := .agent, port := p } (fun l => { l with outQueue := l.outQueue ++ [(p, { f with epb := s.agentEpb })] })
  | none => s.misroute 0

/-- Flits of the agent's messages join the output queue of port `q`: injected now, with the epoch bit and by the port of the bank in force
(R143, R177, R293). -/
def State.agentInjectMessages (s : State) (q : Nat) : State :=
  s.agent.core.flits.foldl (fun t e =>
    let p := e.1.or (t.agentExit e.2)
    if p = some q ∨ p = none then
      (t.modAgentCore (fun c => { c with flits := c.flits.erase e })).agentEnqueue p e.2
    else t) s

/-- The number that the far end's SESSION carried is another than the one applied here: recorded at S2 and reported (R148). -/
def State.sessionMismatch (s : State) (r : PortRef) : State := (s.portFault r 0x0B 10).reportLink r

/-- Apply a session number: SESSION as the next sequenced flit, transmit count 0 (R148). A SESSION of the far end that came before, for this
change and with another number, is a mismatch. -/
def State.applySession (s : State) (r : PortRef) (n : Nat) : State :=
  let w := (s.nodePort r).flow
  let s1 := (s.modFlow r (fun w => { w with
    session := some n, sessionsUsed := w.sessionsUsed ++ [n], sessionAt := none, txCount := 0,
    sessionNear := false })).sendControl r (toLe 1 5 ++ toLe 3 n ++ zeros 4)
  if w.farSession.any (fun m => m != n) ∧ w.farSession ≠ w.session then s1.sessionMismatch r else s1

/-- The present address of the far end of a port: at a Geneel that of the topology record, which follows claims and promotions (R175), else
what its HELLO gave. An agent has nothing but the HELLO (DESIGN CHOICE, log entry 226: R141 does not say how it learns a later address). -/
def State.farAddr (s : State) (r : PortRef) : Nat :=
  let hello := ((s.nodePort r).link.far.map Hello.addr).getD 0xFFFF
  match r.node with
  | .agent => hello
  | .geneel =>
    match (s.fabric.sections.flatMap TopoSection.links).find? (fun l => l.src == s.ownAddr && l.sport == r.port) with
    | some l => if l.dst = 0xFFFF then hello else l.dst
    | none => hello

/-- The agent session key of an address, when one is held (R176). -/
def State.sessionKeyOf (s : State) (addr : Nat) : Bytes := (kvGet s.sec.sessions addr).getD []

/-- The link record of an own port's link, by whichever end holds it. -/
def ofLink (own p far farPort : Nat) (l : TopoLink) : Bool :=
  (l.src == far && l.sport == farPort) || (l.src == own && l.sport == p)

/-- The primary of the link's lower-addressed end assigns the next number of the link of one of its own ports: applied at
its end at once (`lead` 0) or so many ticks later, and sent to the far end in LINK_SESSION (R142, R147, R194). One counter goes with the
link's record; a link that has no record yet has it at the port, whose value the record takes over. -/
def State.assignSession (s0 : State) (p lead : Nat) : State :=
  let r : PortRef := { node := .geneel, port := p }
  let x := s0.port p
  let far := s0.farAddr r
  let farPort := (x.link.far.map Hello.port).getD 0
  let mine (l : TopoLink) : Bool := ofLink s0.ownAddr p far farPort l
  let last := (s0.fabric.sections.flatMap (fun y => (y.links.filter mine).map TopoLink.session)).foldl max x.flow.sessionCtr
  let n := (last + 1) % 2 ^ 24
  let s : State := { s0 with fabric := { s0.fabric with sections := s0.fabric.sections.map (fun y =>
    if y.bolt = s0.up.bolt then { y with links := y.links.map (fun l => if mine l then { l with session := n } else l) } else y) } }
  let tick := if lead = 0 then 0 else s.nameTick lead
  let head := toLe 1 farPort ++ zeros 1 ++ toLe 3 n ++ zeros 3 ++ toLe 6 tick ++ zeros 2
  let nonce := toLe 8 s.twin.token ++ toLe 4 s.mail.nextMsg
  let body := head ++ field (Config.gcmTag (s.sessionKeyOf far) nonce head []) 0 16
  let s1 := s.modFlow r (fun w => { w with sessionCtr := n })
  let s2 := if far < 0xF000 then s1.send (s1.msgTo far 0x11 body) true else s1
  if lead = 0 then s2.applySession r n else s2.modFlow r (fun w => { w with sessionAt := some (n, s.clock.now + lead) })

/-! ### Training rows -/

/-- A port of the Geneel may train: its unit is ACTIVE, its domain on, and in STAGE4 its loopback has ended (R624, R629). -/
def State.portReady (s : State) (p : Nat) : Bool :=
  s.unitStatus 8 p == .active && s.up.domains.contains (8 + p / 10) && (match s.up.dev with
    | .stage4 => s.up.tested.any (fun t => t.1 == 8 && t.2.1 == p)
    | .stage5 | .ready | .run | .degraded | .fault => true
    | _ => false)

/-- The training of an own port that is DOWN, or ordered by LINK_RETRAIN, is booked against the rail and begins when the booking returns
(R124, R129, R504, R629). -/
def State.trainPort (s : State) (p : Nat) : State :=
  if s.up.booked.any (fun e => e.1 == 32 + p) then s
  else
    let (s1, go) := s.bookPort (32 + p) 8
    if go then (s1.enterTraining { port := p }).reportLink { port := p } else s1

/-- FAR_END_SIGNAL_DETECT (R124): a DOWN port begins training; a Geneel port's training is booked at 0.25 A per lane against
the core rail and begins when the booking returns (R504, R629), a claimed agent's waits for its release (R515). -/
def execFarEndSignalDetect (r : PortRef) (s : State) : Host.Outcome State Fault Refusal :=
  if (s.nodePort r).link.state ≠ .down then s.finish s
  else match r.node with
    | .agent => s.finish ((s.trainAgain r).reportLink r)
    | .geneel => if s.portReady r.port then s.finish (s.trainPort r.port) else s.finish s

/-- LINK_TRAINING_START (R125 to R127, R130): steps 1 to 6 of the running attempt have their outcome: `good` holds the logical lanes that
both ends find good and the class of the link as this end finds it. With no width it waits at step 6 to be failed; a change of width is
reported (R175). -/
def execLinkTrainingStart (r : PortRef) (good : LanesFound) (reversed : Bool) (polarity : Nat) (s : State) :
    Host.Outcome State Fault Refusal :=
  let l := (s.nodePort r).link
  if l.state ≠ .training ∨ l.step ≠ 1 then s.finish s
  else
    let g := BitVec.ofNat 8 good.lanes
    let (w, _) := widthOf g
    let s1 := s.modLink r (fun l => { l with
      step := if w = 0 then 6 else 7, width := w, goodLanes := g, reversed := reversed, linkClass := good.cls % 4,
      polarity := BitVec.ofNat 8 polarity })
    s.finish (if w = 0 then s1 else s1.reportLink r)

/-- TRAINING_STEP_TIMEOUT (R125): a step past its limit, or an attempt past its 200 ms, fails the attempt. -/
def execTrainingStepTimeout (r : PortRef) (s : State) : Host.Outcome State Fault Refusal :=
  let l := (s.nodePort r).link
  if l.state = .training ∧ l.step ≠ 0 then s.finish (s.failAttempt r) else s.finish s

/-- TRAINING_ATTEMPT_FAILED (R124, R126, R130): bad lanes, a class mismatch or too few good lanes. -/
def execTrainingAttemptFailed (r : PortRef) (s : State) : Host.Outcome State Fault Refusal := s.finish (s.failAttempt r)

/-- The handshake of R130 and R145 is complete: HELLO of the far end accepted, own HELLO covered, same width, same class,
class 0 or 1 at a Geneel port, version 1 to 3. -/
def handshakeOk (l : Link) (geneel : Bool) : Bool :=
  match l.far with
  | none => false
  | some h => l.helloAcked && h.width == l.width && h.linkClass == l.linkClass && (!geneel || h.linkClass ≤ 1)
      && 1 ≤ h.version && h.version ≤ 3

/-- TRAINING_HANDSHAKE_DONE (R124, R131, R145, R147, R201): UP with the far end recorded, the delay measurement started at
local time `t1`, the change reported; the first port UP takes an agent out of RESET. -/
def execTrainingHandshakeDone (r : PortRef) (t1 : Nat) (s : State) : Host.Outcome State Fault Refusal :=
  let l := (s.nodePort r).link
  if l.state = .training ∧ l.step = 7 ∧ handshakeOk l (r.node == .geneel) then
    let s1 := s.modLink r (fun l => { l with state := .up, step := 0, attempts := 0, fenceCause := 0 })
    let s2 := (s1.startMeasure r t1).reportLink r
    match r.node with
    | .geneel => if s2.twin.role = 0 ∧ s2.ownAddr < ((l.far.map Hello.addr).getD 0) ∧ s2.up.placed
        then s.finish (s2.assignSession r.port 0) else s.finish s2
    | .agent => s.finish (s2.modAgentCore (fun c => if c.state = .reset then { c with state := .unclaimed } else c))
  else s.finish s

/-- HELLO_REPEAT (R145): HELLO again each microsecond of step 7 until the handshake is complete. -/
def execHelloRepeat (r : PortRef) (s : State) : Host.Outcome State Fault Refusal :=
  let l := (s.nodePort r).link
  if l.state = .training ∧ l.step = 7 ∧ !(l.helloAcked && l.far.isSome) then
    s.finish ((s.sendControl r (s.helloBytes r)).modLink r (fun l => { l with hellosSent := l.hellosSent + 1 }))
  else s.finish s

/-- A retrain is due (R135): more than 16 uncorrectable codewords in a second, a flit replayed 8 times, or codeword lock lost for more than
1 µs, which the event says. -/
def State.retrainDue (s : State) (n : Node) (l : Link) (lockLost : Bool) : Bool :=
  lockLost || decide (8 ≤ l.replays)
    || decide (16 < (l.uncorrTimes.filter (fun t => s.nodeNow n < t + s.nodeTicks n 1000000)).length)

/-- RETRAIN_TRIGGER (R124, R129, R135, R515): an UP port goes to RETRAIN, or is fenced on the fifth retrain of an hour. A Geneel port's is
booked against the rail, a claimed agent's waits for its release. Whether what was counted before a retrain counts after it is open: DESIGN
CHOICE (log entry 225), the codewords and replays are counted anew. -/
def execRetrainTrigger (sign : RetrainSign) (s : State) : Host.Outcome State Fault Refusal :=
  let r := sign.port
  let l := (s.nodePort r).link
  if l.state ≠ .up ∨ !s.retrainDue r.node l sign.lockLost then s.finish s
  else
    let now := s.nodeNow r.node
    let recent := l.retrainTimes.filter (fun t => now < t + s.nodeTicks r.node 3600000000)
    if 4 ≤ recent.length then s.finish ((s.modLink r (fun l => { l with retrainTimes := recent ++ [now] })).fenceLink r 3)
    else
      let s1 := (s.modLink r (fun l => { l with
        state := .retrain, retrainTimes := recent ++ [now], uncorrTimes := [], replays := 0 })).portCount r 5
      let (s2, go) := match r.node with
        | .agent => (s1, !s1.agentWaits)
        | .geneel => s1.bookPort (96 + r.port) l.width
      s.finish (((s2.modLink r (fun l => { l with waits := !go })).portFault r 0x09 2).reportLink r)

/-- RETRAIN_COMPLETE (R124, R128): UP again with link state kept; unacknowledged flits are replayed. -/
def execRetrainComplete (r : PortRef) (s : State) : Host.Outcome State Fault Refusal :=
  let l := (s.nodePort r).link
  if l.state = .retrain ∧ !l.waits ∧ 2 ≤ l.width then
    s.finish ((s.modLink r (fun l => { l with state := .up, wire := l.wire ++ l.retryBuf })).reportLink r)
  else s.finish s

/-- RETRAIN_TIMEOUT (R124, R128, R129): a retrain that fails or passes 20 ms falls to TRAINING and discards link state; the limits count from
its release (R515). -/
def execRetrainTimeout (r : PortRef) (s : State) : Host.Outcome State Fault Refusal :=
  let l := (s.nodePort r).link
  if l.state = .retrain ∧ !l.waits then s.finish ((s.trainAgain r).reportLink r) else s.finish s

/-! ### Flits -/

/-- The nonce of an encrypted flit (R141), most significant part first. -/
def flitNonce (addr port session count : Nat) : Bytes :=
  (toLe 2 addr).reverse ++ (toLe 1 port).reverse ++ (toLe 3 session).reverse ++ (toLe 6 count).reverse

/-- The 16-byte header of a flit (R140) with LACK, CRVC and CRCNT as zero: the additional data of R141. -/
def flitAad (f : Flit) : Bytes := flitHeader { f with lack := 0, crvc := 0, crcnt := 0 }

/-- The link key that a node holds in a slot of a job (R141, R576). -/
def State.linkKey (s : State) (n : Node) (job slot : Nat) : Option Bytes :=
  match n with
  | .geneel => (s.sec.keys.find? (fun k => k.job == job && k.kind == 0 && k.generation % 2 == slot)).map HeldKey.key
  | .agent => (s.agent.work.keys.find? (fun k => k.job == job && k.kind == 0 && k.slot == slot)).map KeySlot.key

/-- The node holds a link key of the job in some slot. -/
def State.hasLinkKey (s : State) (n : Node) (job : Nat) : Bool :=
  (s.linkKey n job 0).isSome || (s.linkKey n job 1).isSome

/-- The slot in which the node sends a job's flits (R193, R580). -/
def State.txSlot (s : State) (n : Node) (job : Nat) : Nat :=
  match n with
  | .geneel => ((s.sec.keys.find? (fun k => k.job == job && k.kind == 0 && k.current)).map (fun k => k.generation % 2)).getD 0
  | .agent => ((s.agent.work.txSlot.find? (fun e => e.1 == job && e.2.1 == 0)).map (fun e => e.2.2)).getD 0

/-- What becomes of a data flit that is next in order (R141, R142, R147). -/
inductive FlitFate where
  | good | retry | lost | refused
  deriving DecidableEq, Repr

/-- Judge a data flit in order: its key slot, its tag, or its plain form. R148 leaves open what an encrypted flit meets that comes before any
SESSION of the far end: DESIGN CHOICE (log entry 196), its LSEQ is accepted, it is discarded and counted as lost, without a retry. -/
def State.judgeFlit (s : State) (r : PortRef) (f : Flit) : FlitFate :=
  let x := s.nodePort r
  if f.enc then
    match s.linkKey r.node f.job f.kgen with
    | none => .lost
    | some k =>
      let far := x.link.far.getD { version := 3, kind := 0, addr := 0xFFFF, port := 0, linkClass := 0, width := 0, serial := 0 }
      match x.flow.farSession with
      | none => .lost
      | some n =>
        if f.tag = field (Config.gcmTag k (flitNonce (s.farAddr r) far.port n x.flow.rxCount) (flitAad f) f.payload) 0 16 then .good
        else if x.link.tagFailed = some f.lseq then .lost else .retry
  else if f.job = 0 ∧ x.flow.session = none then .good
  else if s.hasLinkKey r.node f.job then .refused
  else .good

/-- The 32-bit sequence number nearest to RX_SEQ with the low 20 bits of SSEQ (R154). -/
def extendSeq (rx sseq : Nat) : Nat :=
  let d := (sseq + 2 ^ 20 - rx % 2 ^ 20) % 2 ^ 20
  if d < 2 ^ 19 then (rx + d) % 2 ^ 32 else (rx + d + 2 ^ 32 - 2 ^ 20) % 2 ^ 32

/-- A data flit reaches the Geneel's stream table: counted in its stream, or misdelivered (R30, R154). -/
def State.streamFlit (s : State) (r : PortRef) (f : Flit) : State :=
  match s.streamFor f with
  | some e =>
    if (e.state = 1 ∨ e.state = 2) ∧ e.job = f.job then
      let q := extendSeq e.rxSeq f.sseq
      let ahead := (q + 2 ^ 32 - e.rxSeq) % 2 ^ 32 < 2 ^ 31
      { s with streams := kvSet s.streams f.stream { e with
          ccntCur := satAdd 32 e.ccntCur 1, lastTick := s.tickNow, rxSeq := if ahead then (q + 1) % 2 ^ 32 else e.rxSeq } }
    else (s.portCount r 8).portFault r 0x0C 0
  | none => (s.portCount r 8).portFault r 0x0C 0

/-- The flit leaves the input buffer: its credit is due (R149). -/
def State.creditDue (s : State) (r : PortRef) (vc : Nat) : State :=
  s.modFlow r (fun w => { w with due := bump w.due vc })

/-- Loss of a flit on its stream, where this node holds the stream (R128, R142). -/
def State.lostFlit (s : State) (r : PortRef) (f : Flit) : State :=
  match r.node with
  | .agent => s
  | .geneel => match kvGet s.streams f.stream with
    | some e => { s with streams := kvSet s.streams f.stream { e with loss := satAdd 32 e.loss 1 } }
    | none => s

/-- An endpoint agent's check of a job's data flit against its target table (R188). Of a source that is a spare or outside the address map
the spec says nothing: DESIGN CHOICE (log entry 247), it passes without the range check, as a switch or a Geneel does. -/
def State.targetAllows (s : State) (f : Flit) : Bool :=
  f.job == 0 || s.agent.work.target.any (fun e =>
    let v := e.2
    bit v 0 && bits v 12 1 == f.job
      && (if f.vc = 4 then bit v 49 else if f.vc = 6 then bit v 50 else if f.vc = 7 then bit v 51
          else decide (1 ≤ f.vc ∧ f.vc ≤ 3) && bit v 48)
      && (decide (0x8000 ≤ f.src) || (decide (bits v 30 16 ≤ f.src) && decide (f.src ≤ bits v 46 32))))

/-- A management flit's segment at the agent: messages of several segments are gathered, whole ones come to the inbox
(R160, R162), behind the route block that each flit of a source-routed one has (R163); the message keeps the port it came in on. -/
def State.agentSegment (s : State) (port : Nat) (f : Flit) : State :=
  let b := f.payload
  let seg := le b 3 1
  let msg (body : Bytes) : Msg := {
    src := f.src, dst := f.dst, type := le b 0 1, ver := le b 1 1, flags := le b 2 1, msgid := le b 4 4,
    token := le b 8 8, stream := f.stream, enc := f.enc, port := some port, body := body }
  let block := if f.dst = 0xFFFF ∧ f.vc = 0 then field b 16 34 else []
  if seg % 16 = 0 then s.agentTake (msg (b.drop 16))
  else
    let c := s.agent.core
    let old : Reassembly := (c.reassembly.find? (fun x => x.src == f.src && x.msgid == le b 4 4)).getD
      { src := f.src, msgid := le b 4 4, firstTick := c.tick, lastSeg := seg % 16, parts := [] }
    let new : Reassembly := { old with parts := kvSet old.parts (seg / 16) (b.drop (16 + block.length)) }
    let rest := c.reassembly.filter (fun x => !(x.src == f.src && x.msgid == le b 4 4))
    if new.parts.length = new.lastSeg + 1 then
      (s.modAgentCore (fun c => { c with reassembly := rest })).agentTake (msg (block ++ new.parts.flatMap Prod.snd))
    else s.modAgentCore (fun c => { c with reassembly := rest ++ [new] })

/-- A flit of a job counts in block 1 of an endpoint at the job's target slot: `d` 0 received, 1 sent (R197). -/
def State.countSlot (s : State) (f : Flit) (d : Nat) : State :=
  match s.agent.work.target.find? (fun e => bit e.2 0 && bits e.2 12 1 == f.job) with
  | some e => s.modAgentWork (fun w => { w with
      block1 := kvSet w.block1 (e.1 * 16 + f.vc * 2 + d) ((kvGet w.block1 (e.1 * 16 + f.vc * 2 + d)).getD 0 + 1) })
  | none => s

/-- The agent takes a flit for its own address, before any route lookup (R188, R197, R222). -/
def State.consumeFlit (s : State) (r : PortRef) (f : Flit) : State :=
  if f.job = 0 then s.agentSegment r.port f
  else if f.dst ≠ 0xFFFF ∧ s.agent.core.addr ≠ some f.dst then s.portCount r 8
  else if s.agent.core.kind = 1 ∧ !s.targetAllows f then
    let s1 := s.agentCount 7
    if s1.agent.core.violationReported then s1.agentOccurred 6
    else (s1.agentReport r.port 6 f.job).modAgentCore (fun c => { c with violationReported := true })
  else s.countSlot f 0

/-- A data flit that was accepted goes where the node needs it: at the Geneel it ends (R4, R143), at a switch it waits in the
input buffer to be forwarded (R149), at an endpoint it is checked against the target table (R188). -/
def State.deliverFlit (s : State) (r : PortRef) (f : Flit) : State :=
  match r.node with
  | .geneel => (s.streamFlit r f).creditDue r f.vc
  | .agent =>
    if s.agent.core.kind = 2 ∧ s.agent.core.addr ≠ some f.dst then
      s.modLink r (fun l => { l with inputBuf := l.inputBuf ++ [f] })
    else (s.consumeFlit r f).creditDue r f.vc

/-- DATA_FLIT_RECEIVE (R134, R136, R141, R142, R147, R149, R153, R154): a data flit is accepted in LSEQ order, decrypted,
credited and counted, or discarded; `cw` is what the decoder found in its codewords. -/
def execDataFlitReceive (r : PortRef) (f : Flit) (cw : Codewords) (s : State) : Host.Outcome State Fault Refusal :=
  if (s.nodePort r).link.state ≠ .up then s.finish s
  else
    let (s1, ok) := s.takeSeq r f cw
    if !ok then s.finish s1
    else match s1.judgeFlit r f with
      | .retry => s.finish ((s1.modLink r (fun l => { l with tagFailed := some f.lseq })).askRetry r)
      | .lost =>
        let s2 := ((s1.acceptSeq r f).modFlow r (fun w => { w with rxCount := w.rxCount + 1 })).portCount r
          (if (s1.linkKey r.node f.job f.kgen).isSome then 9 else 10)
        s.finish (((s2.lostFlit r f).portFault r 0x0B 5 f.job).creditDue r f.vc)
      | .refused =>
        s.finish (((((s1.acceptSeq r f).portCount r 11).lostFlit r f).portFault r 0x0B 5 f.job).creditDue r f.vc)
      | .good =>
        let s2 := (s1.acceptSeq r f).portCount r 1
        let g := if f.enc then
            match s1.linkKey r.node f.job f.kgen, (s1.nodePort r).link.far, (s1.nodePort r).flow.farSession with
            | some k, some far, some n =>
              let nonce := flitNonce (s1.farAddr r) far.port n (s1.nodePort r).flow.rxCount
              { f with payload := (Config.gcmDecrypt k nonce f.payload).take f.plen }
            | _, _, _ => f
          else f
        let s3 := if f.enc then s2.modFlow r (fun w => { w with rxCount := w.rxCount + 1 }) else s2
        s.finish (s3.deliverFlit r g)

/-- RETRY_REQUEST_RECEIVE (R136): free up to LACK and replay from the LSEQ named, the bytes first sent. A flit replayed 8
times is for RETRAIN_TRIGGER to act on (R135). -/
def execRetryRequestReceive (r : PortRef) (lseq : Nat) (f : BareFlit) (s : State) : Host.Outcome State Fault Refusal :=
  let (s0, ok) := s.takeBare r f
  let s1 := s0.takeLack r f.lack
  let l := (s1.nodePort r).link
  if !ok then s.finish s0
  else match l.retryBuf.findIdx? (fun f => f.lseq == lseq) with
  | none => s.finish s1
  | some i => s.finish (((s1.modLink r (fun l => { l with
      wire := l.wire ++ l.retryBuf.drop i, replays := if i = 0 then l.replays + 1 else 1 })).portCount r 4).portFault r 0x08 0)

/-- IDLE_FLIT_RECEIVE (R139): the LACK frees the retry buffer. -/
def execIdleFlitReceive (r : PortRef) (f : BareFlit) (s : State) : Host.Outcome State Fault Refusal :=
  let (s1, ok) := s.takeBare r f
  s.finish (if ok then s1.takeLack r f.lack else s1)

/-- RETRY_HOLDOFF_EXPIRE (R136): 2 us have passed; another retry request may be sent for the LSEQ. -/
def execRetryHoldoffExpire (r : PortRef) (s : State) : Host.Outcome State Fault Refusal :=
  s.finish (s.modLink r (fun l => { l with retryHold := none }))

/-- LACK_STALL_REPLAY (R137): 4 us without LACK progress while flits are unacknowledged. -/
def execLackStallReplay (r : PortRef) (s : State) : Host.Outcome State Fault Refusal :=
  if (s.nodePort r).link.retryBuf = [] then s.finish s
  else s.finish (((s.modLink r (fun l => { l with wire := l.wire ++ l.retryBuf, replays := l.replays + 1 })).portCount r 4).portFault
    r 0x08 0)

/-! ### Choosing the next flit -/

/-- Send an idle flit: not sequenced, LACK alone (R139). -/
def State.sendIdle (s : State) (r : PortRef) : State :=
  s.modLink r (fun l => { l with wire := l.wire ++ [{ kind := .idle, lack := (l.rxSeq + 4095) % 4096 }] })

/-- Dedicated credits D_v (R150). -/
def dedicated (v : Nat) : Nat := if v ≤ 1 then 64 else 16

/-- A flit of VC v has a credit (R150). -/
def hasCredit (owed : List Nat) (v : Nat) : Bool :=
  owed.getD v 0 < dedicated v ||
    (((List.range 8).map (fun u => owed.getD u 0 - dedicated u)).foldl (· + ·) 0) < 1824

/-- A new tick at a port: budgets, quotas and the arbiter's grants start afresh (R72, R76, R332); a tick through which flits stood with no
credit for any of them was a credit-stall tick (R197). -/
def Flow.newTick (w : Flow) (l : Link) : Flow :=
  let stalled := l.state == .up && l.outQueue != [] && l.outQueue.all (fun e => !hasCredit w.owed e.2.vc)
  { w with
    grants := 0, shareUsed := [], sentVc0 := 0, sentReserved := 0, sentVc1 := 0
    counters := if stalled then bump w.counters 13 else w.counters }

/-- The flit carries a message of the reserved VC0 share (R73): a fault report, a tick loss being one, or a FAILOVER commit. The CLAIMs of a
takeover (R657) are known by their request. -/
def reservedFlit (f : Flit) : Bool :=
  let off := if f.dst = 0xFFFF then 50 else 16
  le f.payload 0 1 == 0x0E || (le f.payload 0 1 == 0x05 && le f.payload off 1 == 2)

/-- A flit of the reserved VC0 share at this Geneel (R73): of a message that shows it, or of a request made for a takeover. -/
def State.flitReserved (s : State) (f : Flit) : Bool :=
  reservedFlit f || s.mail.waiting.any (fun w => w.purpose % 256 == takeoverPurpose && w.msg.msgid == le f.payload 4 4)

/-- VC0 and VC1 budgets of a Geneel port in this tick (R72): 512 VC0 flits, of which 64 are kept for the messages of R73; M0 and M1 have
none on VC0 (R648); agents none per port. -/
def State.budgetLeft (s : State) (r : PortRef) (f : Flit) : Bool :=
  match r.node with
  | .agent => true
  | .geneel =>
    let w := (s.nodePort r).flow
    let v := f.vc
    if v = 0 then decide (36 ≤ r.port ∧ r.port ≤ 37) || (decide (w.sentVc0 < 512 * s.clock.period / 16)
      && (s.flitReserved f || decide (w.sentVc0 - w.sentReserved + 64 * s.clock.period / 16 < 512 * s.clock.period / 16)))
    else if v = 1 then decide (w.sentVc1 < 256 * s.clock.period / 16)
    else true

/-- A flit may leave now: credit, budget, window (R137), and its encryption possible (R141, R142, R147). -/
def State.mayLeave (s : State) (r : PortRef) (f : Flit) : Bool :=
  let x := s.nodePort r
  let sess := x.flow.session.isSome && x.flow.session == x.flow.farSession && x.flow.txCount < 2 ^ 48 - 1
  x.link.control == [] && decide (x.link.retryBuf.length < windowOf r.node) && hasCredit x.flow.owed f.vc && s.budgetLeft r f
    && (if s.hasLinkKey r.node f.job then sess || (f.job == 0 && x.flow.session == none) else f.job == 0 || x.flow.session.isSome)

/-- A switch's share of a VC and job at a port, in 1/1,024, that of the ACTIVE bank for flits of both epochs (R181, R295, R332). R181 gives the share bits [39:32] alone, too few for the shares of up
to 896 of 1,024 that R332 has: DESIGN CHOICE (log entry 198), its upper bits stand in [41:40]. -/
def State.shareOf (s : State) (r : PortRef) (f : Flit) : Nat :=
  match r.node with
  | .geneel => 0
  | .agent =>
    match (s.agent.work.bank s.agentEpb).shares.find? (fun e => bit e.2 63 && bits e.2 11 0 == f.job && bits e.2 14 12 == f.vc && bits e.2 23 16 == r.port) with
    | some e => bits e.2 39 32 + 256 * bits e.2 41 40
    | none => 0

/-- The flit is within its job's quota of the tick (R332). -/
def State.inQuota (s : State) (r : PortRef) (f : Flit) : Bool :=
  let x := s.nodePort r
  let used := ((x.flow.shareUsed.find? (fun e => e.1 == f.vc && e.2.1 == f.job)).map (fun e => e.2.2)).getD 0
  used < s.shareOf r f * flitsPerTick x.link.width s.agent.core.period / 1024

/-- Among candidates of one VC the tie-break of R76 over inputs: n and base offset of R77. -/
def State.pickInput (s : State) (r : PortRef) (l : List (Nat × Flit)) : Option (Nat × Flit) :=
  let (n, o, t) := match r.node with
    | .geneel => (288, gridIndex 8 r.port / 2, s.clock.tick)
    | .agent => (max 1 s.agent.core.portCount, r.port, s.agent.core.tick)
  match tieBreak n ((t + o + (s.nodePort r).flow.grants) % n) (l.map Prod.fst) with
  | none => none
  | some i => l.find? (fun e => e.1 == i)

/-- The flit that the output port chooses next (R152, R332): VC0, VC1, quotas, then deficit round robin over VC2 to VC7 with
ties by R76 (DESIGN CHOICE: n = 8, the index is the VC, the base offset the port), and the deficits after the choice. -/
def State.chooseFlit (s : State) (r : PortRef) : Option ((Nat × Flit) × List Nat) :=
  let x := s.nodePort r
  let cand := x.link.outQueue.filter (fun e => s.mayLeave r e.2)
  let ofVc (v : Nat) := cand.filter (fun e => e.2.vc == v)
  let quota := cand.filter (fun e => 2 ≤ e.2.vc && s.inQuota r e.2)
  match s.pickInput r (ofVc 0) with
  | some e => some (e, x.flow.deficits)
  | none => match s.pickInput r (ofVc 1) with
    | some e => some (e, x.flow.deficits)
    | none => match s.pickInput r quota with
      | some e => some (e, x.flow.deficits)
      | none =>
        let waiting := [2, 3, 4, 5, 6, 7].filter (fun v => !(ofVc v).isEmpty)
        let ready := waiting.filter (fun v => 0 < x.flow.deficits.getD (v - 2) 0)
        let (d, pool) := if ready.isEmpty then
            ([2, 3, 4, 5, 6, 7].map (fun v => if waiting.contains v then x.flow.weights.getD (v - 2) 1 else 0), waiting)
          else (x.flow.deficits, ready)
        let t := match r.node with
          | .geneel => s.clock.tick
          | .agent => s.agent.core.tick
        match tieBreak 8 ((t + r.port + x.flow.grants) % 8) pool with
        | none => none
        | some v => (s.pickInput r (ofVc v)).map (fun e => (e, d.modify (v - 2) (· - 1)))

/-- Stamp and send a chosen flit: LSEQ, LACK, one VC's credits, encryption with the payload padded to 224 bytes, or the plain form; it
enters the retry buffer (R136, R141, R147, R149). Which VC's credits a data header returns when several have some due is open (R149): DESIGN
CHOICE (log entry 199), those of the lowest VC. -/
def State.emitFlit (s : State) (r : PortRef) (e : Nat × Flit) (deficits : List Nat) : State :=
  let x := s.nodePort r
  let cv := ((List.range 8).find? (fun v => 0 < x.flow.due.getD v 0)).getD 0
  let cn := min 31 (x.flow.due.getD cv 0)
  let f0 := { e.2 with lseq := x.link.txSeq, lack := (x.link.rxSeq + 4095) % 4096, crvc := cv, crcnt := cn }
  let own := match r.node with
    | .geneel => s.ownAddr
    | .agent => s.agentAddr
  let slot := s.txSlot r.node f0.job
  let f := match s.linkKey r.node f0.job slot, x.flow.session with
    | some k, some n =>
      let f1 := { f0 with enc := true, kgen := slot, plen := min 224 f0.payload.length, payload := field f0.payload 0 224 }
      let nonce := flitNonce own r.port n x.flow.txCount
      let c := Config.gcmEncrypt k nonce f1.payload
      { f1 with payload := c, tag := field (Config.gcmTag k nonce (flitAad f1) c) 0 16 }
    | _, _ => { f0 with enc := false, kgen := 0, plen := 0, tag := [] }
  let q := x.link.outQueue.erase e
  let used := ((x.flow.shareUsed.find? (fun u => u.1 == f.vc && u.2.1 == f.job)).map (fun u => u.2.2)).getD 0
  let s1 := s.modLink r (fun l => { l with
    outQueue := q, txSeq := (l.txSeq + 1) % 4096, retryBuf := l.retryBuf ++ [f], wire := l.wire ++ [f] })
  let s2 := s1.modFlow r (fun w => { w with
    askedLast := false, owed := bump w.owed f.vc, due := w.due.modify cv (· - cn), deficits := deficits, grants := w.grants + 1
    sentVc0 := if f.vc = 0 then w.sentVc0 + 1 else w.sentVc0
    sentReserved := if f.vc = 0 ∧ s.flitReserved e.2 then w.sentReserved + 1 else w.sentReserved
    sentVc1 := if f.vc = 1 then w.sentVc1 + 1 else w.sentVc1
    shareUsed := w.shareUsed.filter (fun u => !(u.1 == f.vc && u.2.1 == f.job)) ++ [(f.vc, f.job, used + 1)]
    txCount := if f.enc then w.txCount + 1 else w.txCount })
  let s3 := match r.node with
    | .agent => if s.agent.core.kind = 1 ∧ f.job ≠ 0 then s2.countSlot f 1 else s2
    | .geneel => s2
  s3.portCount r 0

/-- The TS_REQ of the next exchange of a running measurement, with t1 the time of that flit (R146). -/
def State.askTime (s : State) (r : PortRef) (e : TsExchange) (ps : Nat) : State :=
  (s.controlNow r (toLe 1 2 ++ toLe 1 e.index)).modFlow r (fun w => { w with
    askedLast := true, exchanges := w.exchanges.map (fun x => if x.index = e.index then { x with sent := true, t1 := ps % 2 ^ 64 } else x) })

/-- Flits of messages that wait for a port join its output queue. -/
def State.queueMessages (s : State) (r : PortRef) : State := match r.node with
  | .geneel => s.injectMessages r.port
  | .agent => s.agentInjectMessages r.port

/-- The flit that leaves an UP port: link control that waited for the window; a TS_REQ of a measurement, none after another while data may
leave; the choice of R152 from the output queue; with none that may leave and credits due, a CREDIT link control flit; else an idle flit, which
carries LACK (R137, R139, R144, R146, R152). -/
def State.selectFlit (s : State) (now : SendMoment) : State :=
  let r := now.port
  let x := s.nodePort r
  let room := decide (x.link.retryBuf.length < windowOf r.node)
  let ask := if room then x.flow.exchanges.find? (fun e => !e.sent) else none
  match x.link.control with
  | c :: rest => if room then (s.controlNow r c).modLink r (fun l => { l with control := rest }) else s.sendIdle r
  | [] => match s.chooseFlit r, ask with
    | some (e, d), none => s.emitFlit r e d
    | some (e, d), some a => if x.flow.askedLast then s.emitFlit r e d else s.askTime r a now.ps
    | none, some a => s.askTime r a now.ps
    | none, none => if room ∧ x.flow.due.any (0 < ·) then s.controlNow r (toLe 1 0) else s.sendIdle r

/-- OUTPUT_FLIT_SELECT (R76, R137, R139, R144, R146, R152): flits of messages for the port join its output queue, and the next flit leaves. -/
def execOutputFlitSelect (now : SendMoment) (s : State) : Host.Outcome State Fault Refusal :=
  if (s.nodePort now.port).link.state ≠ .up then s.finish s else s.finish ((s.queueMessages now.port).selectFlit now)

/-! ### Link control rows -/

/-- LINK_CREDIT_RECEIVE (R144, R149): credits returned are added. -/
def execLinkCreditReceive (r : PortRef) (f : Flit) (cw : Codewords) (s : State) : Host.Outcome State Fault Refusal :=
  if (s.nodePort r).link.talks then s.finish (s.takeControl r f cw).1 else s.finish s

/-- LINK_HELLO_RECEIVE (R145): the far end's HELLO is kept in step 7, ignored on a port in UP. -/
def execLinkHelloReceive (r : PortRef) (f : Flit) (cw : Codewords) (s : State) : Host.Outcome State Fault Refusal :=
  if !(s.nodePort r).link.talks then s.finish s
  else
    let (s1, ok) := s.takeControl r f cw
    let b := f.payload
    if ok ∧ (s1.nodePort r).link.state = .training then
      s.finish (s1.modLink r (fun l => { l with far := some {
        version := le b 17 1, kind := le b 18 1, addr := le b 19 2, port := le b 21 1, linkClass := le b 22 1,
        width := le b 23 1, serial := le b 25 8 } }))
    else s.finish s1

/-- TS_REQ_RECEIVE (R146): t2 at its arrival, TS_RSP with t2, t3 at that transmission, TS_FOLLOW with t3. -/
def execTsReqReceive (r : PortRef) (f : Flit) (cw : Codewords) (t2 t3 : Nat) (s : State) : Host.Outcome State Fault Refusal :=
  if (s.nodePort r).link.state ≠ .up then s.finish s
  else
    let (s1, ok) := s.takeControl r f cw
    let k := field f.payload 17 1
    if ok then s.finish ((s1.sendControl r (toLe 1 3 ++ k ++ zeros 6 ++ toLe 8 t2)).sendControl r
      (toLe 1 4 ++ k ++ zeros 6 ++ toLe 8 t3))
    else s.finish s1

/-- The exchange of an index changes. -/
def State.modExchange (s : State) (r : PortRef) (k : Nat) (g : TsExchange → TsExchange) : State :=
  s.modFlow r (fun w => { w with exchanges := w.exchanges.map (fun e => if e.index = k then g e else e) })

/-- Delay of an exchange (R131): ((t4 − t1) − (t3 − t2)) / 2 in ps, timestamps wrapping at 2^64. -/
def tsDelay (t1 t2 t3 t4 : Nat) : Nat :=
  (((t4 + 2 ^ 64 - t1) % 2 ^ 64) - ((t3 + 2 ^ 64 - t2) % 2 ^ 64)) / 2

/-- TS_RSP_RECEIVE (R146): t4 at its arrival, with the far end's t2. -/
def execTsRspReceive (r : PortRef) (f : Flit) (cw : Codewords) (t4 : Nat) (s : State) : Host.Outcome State Fault Refusal :=
  if (s.nodePort r).link.state ≠ .up then s.finish s
  else
    let (s1, ok) := s.takeControl r f cw
    if ok then s.finish (s1.modExchange r (le f.payload 17 1) (fun e =>
      { e with t2 := some (le f.payload 24 8), t4 := some t4 }))
    else s.finish s1

/-- TS_FOLLOW_RECEIVE (R146): t3 completes the exchange, whose delay joins the measurement. -/
def execTsFollowReceive (r : PortRef) (f : Flit) (cw : Codewords) (s : State) : Host.Outcome State Fault Refusal :=
  if (s.nodePort r).link.state ≠ .up then s.finish s
  else
    let (s1, ok) := s.takeControl r f cw
    let k := le f.payload 17 1
    let t3 := le f.payload 24 8
    if !ok then s.finish s1
    else match (s1.nodePort r).flow.exchanges.find? (fun e => e.index == k) with
      | some e => match e.t2, e.t4, e.t3 with
        | some t2, some t4, none =>
          s.finish ((s1.modExchange r k (fun e => { e with t3 := some t3 })).modFlow r (fun w =>
            { w with delays := w.delays ++ [tsDelay e.t1 t2 t3 t4] }))
        | _, _, _ => s.finish s1
      | none => s.finish s1

/-- TS_EXCHANGE_DISCARD (R146): an exchange without its TS_FOLLOW 64 us after its TS_REQ. -/
def execTsExchangeDiscard (r : PortRef) (k : Nat) (s : State) : Host.Outcome State Fault Refusal :=
  s.finish (s.modFlow r (fun w => { w with exchanges := w.exchanges.filter (fun e =>
    e.index != k || e.t3.isSome || !e.sent) }))

/-- Recorded length in 0.1 m (R132), and whether it lies in its class's range. -/
def lengthOf (cls delay : Nat) : Nat × Bool :=
  let (lc, vc, top) := match cls with
    | 1 => (12000, 4400, 70)
    | 2 => (0, 4900, 65535)
    | _ => (0, 4400, 20)
  let n := ((delay - lc) * 10 + vc / 2) / vc
  (n, decide (lc ≤ delay ∧ n ≤ top))

/-- DELAY_MEASUREMENT_DONE (R131, R132, R146): the minimum of the exchanges completed is recorded with the length; with none
the old delay stays; an S1 event for none completed or a length out of range (the spec gives it no code: log entry 12), which an agent
makes by a FAULT_REPORT of a code that R198 does not list. -/
def execDelayMeasurementDone (r : PortRef) (s : State) : Host.Outcome State Fault Refusal :=
  let x := s.nodePort r
  if x.flow.exchanges.any (fun e => e.t3.isNone) ∨ x.link.state ≠ .up then s.finish s
  else match x.flow.delays with
    | [] => s.finish ((s.modFlow r (fun w => { w with exchanges := [] })).portFault r 0xFF 0xFF)
    | d :: ds =>
      let m := ds.foldl min d
      let (n, good) := lengthOf x.link.linkClass m
      let s1 := (s.modLink r (fun l => { l with delayPs := m % 2 ^ 32, lengthDm := n % 2 ^ 16 })).modFlow r
        (fun w => { w with exchanges := [], delays := [] })
      s.finish (if good then s1 else s1.portFault r 0xFF 0xFF)

/-- LINK_SESSION_FLIT_RECEIVE (R148): the far end's number governs what follows; a mismatch with the number applied here is
recorded and reported. A SECONDARY's port takes the number that the primary of the bolt gave to the far end (R147, log entry 46). -/
def execLinkSessionFlitReceive (r : PortRef) (f : Flit) (cw : Codewords) (s : State) : Host.Outcome State Fault Refusal :=
  if (s.nodePort r).link.state ≠ .up then s.finish s
  else
    let (s1, ok) := s.takeControl r f cw
    if !ok then s.finish s1
    else
      let n := le f.payload 17 3
      let s2 := s1.modFlow r (fun w => { w with farSession := some n, rxCount := 0 })
      let own : Bool := match r.node with
        | .geneel => true
        | .agent => false
      match (s2.nodePort r).flow.session with
      | some m => if m = n then s.finish s2
        else if own ∧ !s2.isPrimary then s.finish (s2.applySession r n)
        else
          let s3 := s2.sessionMismatch r
          match r.node with
          | .geneel => s.finish (s3.assignSession r.port 0)
          | .agent =>
            let k := s3.agent.core.sessionFailures + 1
            s.finish (s3.modAgentCore (fun c => { c with
              sessionFailures := k, state := if 3 ≤ k then .faulted else c.state }))
      | none => match r.node with
        | .geneel => s.finish (if s2.isPrimary then s2 else s2.applySession r n)
        | .agent => s.finish s2

/-- SESSION_COUNT_NEAR (R142, R175): a count has reached 2^47: an agent reports SESSION_NEAR; at a Geneel port the primary
assigns a new number for a tick 3 ahead, the lead of R67; a SECONDARY's port is reported to the primary, its twin, in an unsolicited
LINKSTATE (DESIGN CHOICE, log entry 200: the spec names no message for it). -/
def execSessionCountNear (r : PortRef) (s : State) : Host.Outcome State Fault Refusal :=
  let x := s.nodePort r
  if x.flow.txCount < 2 ^ 47 ∨ x.flow.sessionNear then s.finish s
  else
    let s1 := (s.modFlow r (fun w => { w with sessionNear := true })).reportLink r
    match r.node with
    | .agent => s.finish s1
    | .geneel =>
      if s1.isPrimary then s.finish (s1.assignSession r.port 3)
      else s.finish (s1.send { s1.msgTo s1.twinAddr 0x03 ((s1.nodePort r).record r.port) 2 with flags := 2 })

end Sys2Proof.Machine
end

