-- ==== Sys2Proof/Machine/Agent.lean ====
section
/-! DEFINITION. The Olnan agent's meanings of the management messages (spec 05_agent_protocol): discovery, route banks,
commits, trees, cards, keys, grants, counters, ticks, and the forwarding of a switch. -/

namespace Sys2Proof.Machine

open Sys2Proof

/-! ### Flits that leave -/

/-- The agent takes and forwards what is not source-routed: SERVING and QUIESCED alone (R201). -/
def State.agentForwards (s : State) : Bool := s.agent.core.state == .serving || s.agent.core.state == .quiesced

/-- Queue a flit on an output port of the switch: discarded and counted as misrouted where the port is DOWN, TRAINING or
FENCED (R294). -/
def State.switchOut (s : State) (inPort outPort : Nat) (f : Flit) : State :=
  let x := s.agentPort outPort
  if outPort = 0xFF ∨ (x.link.state ≠ .up ∧ x.link.state ≠ .retrain) then s.misroute inPort
  else s.modLink { node := .agent, port := outPort } (fun l => { l with outQueue := l.outQueue ++ [(inPort, f)] })

/-- The agent injects a data flit: under the epoch bit of the bank in force, by the port that bank gives, or it is discarded and counted as
misrouted (R143, R177, R178, R294; the counter is that of port 0, log entry 209). -/
def State.agentInject (s : State) (f : Flit) : State := match s.agentExit f with
  | some p => s.switchOut p p { f with epb := s.agentEpb }
  | none => s.misroute 0

/-! ### Requests -/

/-- Messages that a state accepts (R201), by type and PROBE op; FAULTED only by the first two. A version 2 agent, which opens no
session, forwards by banks A and B all the same (R202), so it takes their writes and commits once claimed (log entry 41). -/
def AgentState.accepts (st : AgentState) (version type op : Nat) : Bool :=
  match st with
  | .reset => false
  | .unclaimed => (type == 1 && op ≤ 1) || type == 3 || type == 6 || type == 0x10
  | .claimed => type == 1 || type == 3 || type == 6 || type == 0x10 || (version == 2 && (type == 4 || type == 5))
  | .attested | .serving => true
  | .quiesced => type != 0x0D && type != 0x08
  | .faulted => (type == 1 && op == 0) || type == 6

/-- The source is a Geneel of the agent's owner bolt (R168). -/
def State.fromOwner (s : State) (src : Nat) : Bool :=
  isGeneel src && s.agent.core.owner == some ((src - 0xF000) / 2)

/-- Raise the high token: timed actions of a lower token are cancelled and counted, grants that have not expired among them; a bank
reserved by one, an ACTIVATE or a RETIRE, returns to FREE (R169, R185). A LINK_SESSION that waits for its tick is a timed action (R185) that the
list of R169 leaves out: DESIGN CHOICE (log entry 246), it is cancelled and counted like the others. -/
def State.raiseToken (s : State) (token : Nat) : State × Nat :=
  if token ≤ s.agent.core.highToken then (s, 0)
  else
    let gone := s.agent.work.timed.filter (fun t => t.token < token)
    let freed (b : Nat) : Bool := gone.any (fun t => match t.act with
      | .activate k _ => k == b
      | .retire k => k == b
      | _ => false)
    let n := gone.length + (s.agent.work.grants.filter (fun g => s.agent.core.tick < g.expiry)).length
    let s1 := s.modAgentWork (fun w => { w with
      grants := w.grants.filter (fun g => !decide (s.agent.core.tick < g.expiry))
      timed := w.timed.filter (fun t => token ≤ t.token)
      bankA := if freed 0 then { w.bankA with state := .free } else w.bankA
      bankB := if freed 1 then { w.bankB with state := .free } else w.bankB })
    ((s1.modAgentCore (fun c => { c with highToken := token })).agentCount 8 n, n)

/-- A request at the agent: a repeat is answered as before, then version, owner, token, state and encryption are checked and
the message applied (R161, R166, R168 to R170, R192, R201). After a rise of the high token the reply's detail has the count of cancelled
actions in [15:0], and with AS_OK it is the whole detail (R169). CLAIM, whose owner and token R172 judges, comes with `mutating` false and is
a mutating message all the same (R161). A mutating message that comes unencrypted after a job 0 key is held is not accepted (R192), and the
spec gives its status nowhere: DESIGN CHOICE (log entry 245), AS_DENIED. -/
def State.agentRequest (s : State) (m : Msg) (mutating : Bool) (op : Nat) (act : State → State × AgentAnswer) : State :=
  if s.agent.core.state = .reset then s
  else match s.agent.core.replies.find? (fun e => e.1 == m.src && e.2.1 == m.msgid) with
    | some e => (s.agentDispatch e.2.2).agentCount 1
    | none =>
      if m.ver < 3 ∧ isGeneel m.src then s.agentReply m { status := 6 }
      else if !s.agent.core.state.accepts s.agent.core.version m.type op then s.agentReply m { status := 5 }
      else if mutating && !s.fromOwner m.src then s.agentReply m { status := 5 }
      else if mutating && decide (m.token < s.agent.core.highToken) then
        (s.agentCount 3).agentReply m { status := 3, detail := s.agent.core.highToken % 2 ^ 32 }
      else if (mutating || (m.type == 1 && op == 1)) && s.hasLinkKey .agent 0 && !m.enc && m.type != 0x11 then
        s.agentReply m { status := 5 }
      else
        let (s1, n) := if mutating then s.raiseToken m.token else (s, 0)
        let (s2, a) := act s1
        (if a.good then s2.agentCount 0 else s2).agentReply m
          (if mutating && decide (s.agent.core.highToken < m.token) then { a with
            detail := (if a.status = 0 then 0 else a.detail / 65536 * 65536) + n % 65536 } else a)

/-! ### Discovery messages -/

/-- The IDENT body after the status block (R174). `Tree entries held` at bytes 62 to 63 can be read as the entries present or as the size of the
table: DESIGN CHOICE (log entry 248), the entries present now. -/
def State.identBody (s : State) : Bytes :=
  let c := s.agent.core
  let st := match c.state with
    | .reset => 0 | .unclaimed => 1 | .claimed => 2 | .attested => 3 | .serving => 4 | .quiesced => 5 | .faulted => 6
  toLe 8 c.serial ++ toLe 1 c.kind ++ toLe 1 c.version ++ toLe 1 c.portCount ++ toLe 1 st ++ toLe 4 c.firmware
    ++ field c.measurement 0 32 ++ toLe 8 c.highToken ++ toLe 1 (c.owner.getD 0xFF) ++ zeros 3
    ++ toLe 2 s.agent.work.standbyCap ++ toLe 2 s.agent.work.trees.length
    ++ toLe 2 (if c.kind = 2 then s.agent.work.store else 0) ++ toLe 2 (if c.kind = 1 then 64 else 0)
    ++ toLe 2 (if c.kind = 1 then s.agent.work.defaultStep else 0) ++ zeros 2

/-- AGENT_RESET (R201): tables, keys, high token and counters cleared, state RESET, ports down. -/
def execAgentReset (s : State) : Host.Outcome State Fault Refusal :=
  let c := s.agent.core
  let w := s.agent.work
  s.finish { s with agent := {
    core := { kind := c.kind, serial := c.serial, version := c.version, firmware := c.firmware,
              measurement := c.measurement, portCount := c.portCount, sent := c.sent, flits := c.flits }
    work := { store := w.store, standbyCap := w.standbyCap, treeCap := w.treeCap, defaultStep := w.defaultStep } } }

/-- AGENT_PROBE_IDENTIFY (R170, R174): answered with IDENT. -/
def execAgentProbeIdentify (m : Msg) (s : State) : Host.Outcome State Fault Refusal :=
  s.finish (s.agentRequest m false 0 (fun t => (t, { status := 0, data := t.identBody })))

/-- A change of owner: keys, banks, trees, cards and grants go (R172). -/
def AgentWork.disowned (w : AgentWork) : AgentWork :=
  { store := w.store, standbyCap := w.standbyCap, treeCap := w.treeCap, defaultStep := w.defaultStep
    block1 := w.block1, block3 := w.block3, latch := w.latch, started := w.started }

/-- AGENT_PROBE_CLAIM (R168, R172): sets the owner bolt and raises the high token; a Geneel of another bolt needs a higher token. -/
def execAgentProbeClaim (m : Msg) (s : State) : Host.Outcome State Fault Refusal :=
  s.finish (s.agentRequest m false 1 (fun t =>
    let bolt := (m.body.getD 35 0).toNat
    let c := t.agent.core
    let same := c.owner == some bolt
    if !isGeneel m.src then (t, { status := 5 })
    else if (c.owner.isSome ∧ !t.fromOwner m.src ∧ m.token ≤ c.highToken) ∨ m.token < c.highToken then
      (t.agentCount 3, { status := 3, detail := c.highToken % 2 ^ 32 })
    else
      let (t1, n) := t.raiseToken m.token
      let t2 := if same then t1
        else
          let t3 := t1.modAgentCore (fun c => { c with
            owner := some bolt, state := .claimed, sessionKey := none, addr := if c.owner.isSome then none else c.addr })
          if c.owner.isSome then t3.modAgentWork AgentWork.disowned else t3
      (t2, { status := 0, detail := n % 65536, data := t2.identBody })))

/-- AGENT_PROBE_CERT (R569, R570): the Geneel chain arrives in two messages; the reply is the agent's certificate or its
evidence with a fresh encapsulation key. -/
def execAgentProbeCert (m : Msg) (s : State) : Host.Outcome State Fault Refusal :=
  s.finish (s.agentRequest m false 2 (fun t =>
    let b := m.body.drop 35
    let cert := field b 36 3144
    if le b 0 1 = 0 then
      (t.modAgentCore (fun c => { c with chain := cert }), { status := 0, data := Config.partBytes "agent certificate" })
    else
      let chain := field t.agent.core.chain 0 3144 ++ cert
      match geneelKey chain with
      | none => (t, { status := 7 })
      | some _ =>
        let (t1, n) := t.draw
        let ev := field (Config.freeBytes n 1568) 0 1568 ++ field b 2 32 ++ field t1.agent.core.measurement 0 32
          ++ toLe 4 t1.agent.core.firmware ++ zeros 4
        let dig := field (Config.shake256 (ascii "GN7AGEV3" ++ toLe 8 t1.agent.core.serial ++ ev) 32) 0 32
        (t1.modAgentCore (fun c => { c with chain := chain }),
          { status := 0, data := ev ++ field (Config.falconSign "agent" dig n) 0 1280 })))

/-- The agent session key of R176. -/
def agentSessionKey (secret : Bytes) (serial geneel : Nat) : Bytes :=
  field (Config.shake256 (ascii "GN7AGSK3" ++ secret ++ toLe 8 serial ++ toLe 2 geneel) 32) 0 32

/-- AGENT_PROBE_SESSION (R171, R176, R201): signature checked under the certified key, session key derived, CLAIMED becomes
ATTESTED; the third failure makes the agent FAULTED. -/
def execAgentProbeSession (m : Msg) (s : State) : Host.Outcome State Fault Refusal :=
  s.finish (s.agentRequest m true 3 (fun t =>
    let b := m.body.drop 35
    let ct := field b 0 1568
    let dig := field (Config.shake256 ct 32) 0 32
    let good := match geneelKey t.agent.core.chain with
      | some k => falconVerify k dig (field b 1568 1280)
      | none => false
    if good then
      (t.modAgentCore (fun c => { c with
        sessionKey := some (m.src, agentSessionKey (Config.kemDecap "agent" ct) c.serial m.src), sessionFailures := 0
        state := if c.state = .claimed then .attested else c.state }), AgentAnswer.ok)
    else
      let k := t.agent.core.sessionFailures + 1
      (t.modAgentCore (fun c => { c with sessionFailures := k, state := if 3 ≤ k then .faulted else c.state }),
        { status := 7 })))

/-- The ports that a LINKSTATE request asks for (R175): every port for an empty body. What another body holds is open: DESIGN CHOICE (log entry
213), one port number in each byte. -/
def State.portsAsked (s : State) (m : Msg) : List Nat :=
  if m.content = [] then List.range s.agent.core.portCount else m.content.map BitVec.toNat

/-- Records of ports (R175). -/
def State.portRecords (s : State) (l : List Nat) : Bytes := l.flatMap (fun p => (s.agentPort p).record p)

/-- AGENT_LINKSTATE_REQUEST (R175): records of the ports asked for, at most 17 to a message. How the rest of a longer answer comes is open:
DESIGN CHOICE (log entry 204), in further replies of the same number, 17 records each. -/
def execAgentLinkstateRequest (m : Msg) (s : State) : Host.Outcome State Fault Refusal :=
  let ports := s.portsAsked m
  let s1 := s.agentRequest m false 0 (fun t => (t, { status := 0, data := t.portRecords (ports.take 17) }))
  let good := s1.agent.core.replies.any (fun e => e.1 == m.src && e.2.1 == m.msgid)
  let more := if good then (List.range (cdiv (ports.length - 17) 17)).map (fun i => (ports.drop (17 * i + 17)).take 17) else []
  s.finish (more.foldl (fun t l => (t.agentDispatch (t.replyMsg m { status := 0, data := t.portRecords l })).agentCount 1) s1)

/-! ### Route banks -/

/-- Change a bank. -/
def AgentWork.modBank (w : AgentWork) (b : Nat) (f : Bank → Bank) : AgentWork :=
  if b = 0 then { w with bankA := f w.bankA } else { w with bankB := f w.bankB }

/-- The entries of a TABLE_WRITE: indexed or consecutive (R180). -/
def writeEntries (b : Bytes) : List (Nat × Nat) :=
  let n := le b 3 1
  if le b 2 1 = 0 then (chunks 12 n (b.drop 8)).map (fun r => (le r 0 2, le r 4 8))
  else
    let base := le b 8 2
    (List.range n).map (fun i => (base + i, le b (16 + 8 * i) 8))

/-- Write entries into a keyed list. -/
def putAll (m : List (Nat × Nat)) (l : List (Nat × Nat)) : List (Nat × Nat) := l.foldl (fun a e => kvSet a e.1 e.2) m

/-- Entries a table has (R177, R181). -/
def tableSize : Nat → Nat
  | 0 => 65536
  | 1 => 256
  | 2 => 256
  | _ => 64

/-- Entries of bank S in all sets (R186). -/
def standbyEntries (l : List DeltaSet) : Nat := (l.map (fun d => d.entries.length)).foldl (· + ·) 0

/-- AGENT_TABLE_WRITE (R75, R179 to R181, R186): entries into a FREE bank, bank S or the standby target table; the reply names
how many were applied. Entries beyond the budget of the tick are applied and counted. -/
def execAgentTableWrite (m : Msg) (s : State) : Host.Outcome State Fault Refusal :=
  s.finish (s.agentRequest m true 0 (fun t =>
    let b := m.content
    let table := le b 0 1
    let bank := le b 1 1
    let es := writeEntries b
    let w := t.agent.work
    let kind := t.agent.core.kind
    let apply (t1 : State) : State × AgentAnswer :=
      let excess := t1.agent.core.entriesThisTick + es.length - max t1.agentBudget t1.agent.core.entriesThisTick
      ((t1.modAgentCore (fun c => { c with entriesThisTick := c.entriesThisTick + es.length })).agentCount 2 excess,
        { status := 0, detail := es.length })
    if 3 < table ∨ ((table = 1 ∨ table = 2) ∧ kind ≠ 2) ∨ (table = 3 ∧ kind ≠ 1) then (t, { status := 6 })
    else if 2 < bank ∨ (table = 3 ∧ bank ≠ 0) ∨ (bank = 2 ∧ table ≠ 0) then (t, { status := 1, detail := 1 })
    else if 1 < le b 2 1 then (t, { status := 1, detail := 2 })
    else if (le b 2 1 = 0 ∧ 16 < le b 3 1) ∨ 24 < le b 3 1 then (t, { status := 1, detail := 3 })
    else if es.any (fun e => tableSize table ≤ e.1) then
      (t, { status := 1, detail := if le b 2 1 = 0 then 8 + 12 * es.findIdx (fun e => tableSize table ≤ e.1) else 8 })
    else if table = 3 then apply (t.modAgentWork (fun w => { w with targetStandby := putAll w.targetStandby es }))
    else if bank = 2 then
      let fid := le b 6 2
      let tag := le b 4 2
      let old := w.bankS.find? (fun d => d.failureId == fid && d.epochTag == tag && !d.stale)
      let new : DeltaSet := { failureId := fid, epochTag := tag, entries := putAll ((old.map DeltaSet.entries).getD []) es }
      let sets := w.bankS.filter (fun d => d.failureId != fid) ++ [new]
      if 16 < sets.length then (t, { status := 2, detail := es.length })
      else if w.standbyCap < standbyEntries sets then (t, { status := 2, detail := standbyEntries sets - w.standbyCap })
      else apply (t.modAgentWork (fun w => { w with bankS := sets }))
    else if (w.bank bank).state ≠ .free then (t, { status := 5 })
    else apply (t.modAgentWork (fun w => w.modBank bank (fun k =>
      if table = 0 then { k with routes := putAll k.routes es }
      else if table = 1 then { k with weights := putAll k.weights es }
      else { k with shares := putAll k.shares es })))))

/-- The byte stream of the check value of ACTIVATE (R184). -/
def bankStream (k : Bank) (switch : Bool) : Bytes :=
  let entry (v : Option Nat) : Bytes := match v with
    | some x => if bit x 63 then toLe 8 x else zeros 8
    | none => zeros 8
  (List.range 65536).flatMap (fun i => entry (kvGet k.routes i))
    ++ if switch then
        (List.range 256).flatMap (fun i => match kvGet k.weights i with
          | some x => toLe 8 x
          | none => zeros 8)
        ++ (List.range 256).flatMap (fun i => entry (kvGet k.shares i))
      else []

/-- The byte stream of the check value of TARGET_SWAP (R184). -/
def targetStream (l : List (Nat × Nat)) : Bytes :=
  (List.range 64).flatMap (fun i => match kvGet l i with
    | some x => if bit x 0 then toLe 8 x else zeros 8
    | none => zeros 8)

/-- What R185 says of a timed action's tick: none before the first marker, a passed one late, one too far bad. R185 states the limit of
16,777,216 ticks for commits: DESIGN CHOICE (log entry 211), it holds for every timed action. -/
def State.timedTick (s : State) (tick off : Nat) : Option AgentAnswer :=
  if tick ≠ 0 ∧ !s.agent.core.marked then some { status := 5 }
  else if tick ≤ s.agent.core.tick then some { status := 4, detail := s.agent.core.tick % 2 ^ 32 }
  else if s.agent.core.tick + 16777216 < tick then some { status := 1, detail := off }
  else none

/-- Accept a timed action (R169). -/
def State.addTimed (s : State) (token tick : Nat) (a : TimedAct) : State :=
  s.modAgentWork (fun w => { w with timed := w.timed ++ [{ token := token, tick := tick, act := a }] })

/-- A pending commit names the bank. -/
def AgentWork.pendingBank (w : AgentWork) (b : Nat) : Bool :=
  w.timed.any (fun t => match t.act with
    | .activate k _ => k == b
    | .retire k => k == b
    | _ => false)

/-- AGENT_COMMIT_ACTIVATE (R182, R184, R185): checked by CRC, its bank reserved for the named tick. -/
def execAgentCommitActivate (m : Msg) (s : State) : Host.Outcome State Fault Refusal :=
  s.finish (s.agentRequest m true 0 (fun t =>
    let b := m.content
    let bank := le b 1 1
    let tick := le b 4 6
    let w := t.agent.work
    if 1 < bank then (t, { status := 1, detail := 1 })
    else match t.timedTick tick 4 with
      | some a => (t, a)
      | none =>
        let twice := w.timed.any (fun x => x.tick == tick && (match x.act with
          | .activate _ _ => true
          | _ => false))
        if w.pendingBank bank ∨ (w.bank bank).state ≠ .free ∨ twice then (t, { status := 5 })
        else if le b 12 4 ≠ crc32 (bankStream (w.bank bank) (t.agent.core.kind == 2)) then (t, { status := 7 })
        else
          let t1 := t.modAgentWork (fun w => w.modBank bank (fun k => { k with state := .reserved }))
          (t1.addTimed m.token tick (.activate bank (le b 2 2)), AgentAnswer.ok)))

/-- AGENT_COMMIT_RETIRE (R183, R185): schedules the OLD bank's release. -/
def execAgentCommitRetire (m : Msg) (s : State) : Host.Outcome State Fault Refusal :=
  s.finish (s.agentRequest m true 0 (fun t =>
    let b := m.content
    let bank := le b 1 1
    let tick := le b 4 6
    if 1 < bank then (t, { status := 1, detail := 1 })
    else match t.timedTick tick 4 with
      | some a => (t, a)
      | none =>
        if (t.agent.work.bank bank).state ≠ .old ∨ t.agent.work.pendingBank bank then (t, { status := 5 })
        else ((t.modAgentWork (fun w => w.modBank bank (fun k => { k with state := .reserved }))).addTimed m.token tick (.retire bank),
          AgentAnswer.ok)))

/-- The bank in force for injection and its index (R179). -/
def AgentWork.active (w : AgentWork) : Option Nat :=
  if w.bankA.state = .active then some 0 else if w.bankB.state = .active then some 1 else none

/-- AGENT_COMMIT_FAILOVER (R182, R185, R186): a delta set whose epoch tag is the ACTIVE bank's epoch. -/
def execAgentCommitFailover (m : Msg) (s : State) : Host.Outcome State Fault Refusal :=
  s.finish (s.agentRequest m true 0 (fun t =>
    let b := m.content
    let tick := le b 4 6
    let fid := le b 10 2
    match t.timedTick tick 4 with
    | some a => (t, a)
    | none =>
      let epoch := (t.agent.work.active.map (fun k => (t.agent.work.bank k).epoch))
      match t.agent.work.bankS.find? (fun d => d.failureId == fid && !d.stale) with
      | none => (t, { status := 7 })
      | some d =>
        if some d.epochTag ≠ epoch then (t, { status := 7 })
        else (t.addTimed m.token tick (.failover fid), AgentAnswer.ok)))

/-- AGENT_COMMIT_CLEAR_STANDBY (R182, R183, R185). -/
def execAgentCommitClearStandby (m : Msg) (s : State) : Host.Outcome State Fault Refusal :=
  s.finish (s.agentRequest m true 0 (fun t =>
    let tick := le m.content 4 6
    match t.timedTick tick 4 with
    | some a => (t, a)
    | none => (t.addTimed m.token tick .clearStandby, AgentAnswer.ok)))

/-- AGENT_COMMIT_TARGET_SWAP (R182, R184, R185): endpoints only, checked by CRC over the standby table. -/
def execAgentCommitTargetSwap (m : Msg) (s : State) : Host.Outcome State Fault Refusal :=
  s.finish (s.agentRequest m true 0 (fun t =>
    let b := m.content
    let tick := le b 4 6
    if t.agent.core.kind ≠ 1 then (t, { status := 6 })
    else match t.timedTick tick 4 with
      | some a => (t, a)
      | none =>
        if le b 12 4 ≠ crc32 (targetStream t.agent.work.targetStandby) then (t, { status := 7 })
        else (t.addTimed m.token tick .targetSwap, AgentAnswer.ok)))

/-- AGENT_COUNTERS_REQUEST (R170, R197): up to 25 counters, as latched at the last marker. R197 gives the block byte 0 and the first index
bytes 2 and 3, and the count no byte: DESIGN CHOICE (log entry 212), it stands in byte 4. -/
def execAgentCountersRequest (m : Msg) (s : State) : Host.Outcome State Fault Refusal :=
  s.finish (s.agentRequest m false 0 (fun t =>
    let b := m.content
    let n := le b 4 1
    if 3 < le b 0 1 then (t, { status := 1 })
    else if 25 < n then (t, { status := 1, detail := 4 })
    else
      let cs := (List.range n).flatMap (fun i =>
        toLe 8 ((kvGet t.agent.work.latch (le b 0 1 * 2 ^ 20 + le b 2 2 + i)).getD 0))
      (t, { status := 0, data := toLe 6 t.agent.core.tick ++ zeros 2 ++ cs })))

/-! ### Trees and cards -/

/-- The tree entry of a TREE_SET body (R189). -/
def treeOf (b : Bytes) : TreeEntry :=
  { tree := le b 1 1 % 2, group := le b 2 2, job := le b 4 2, up := le b 6 2, down := le b 8 2, parent := le b 10 1
    codes := le b 11 1, lane := le b 12 1, role := le b 13 1, reservation := le b 14 2, children := le b 16 32
    effTick := le b 48 6 }

/-- The same tree of the same group. -/
def TreeEntry.is (e : TreeEntry) (tree group : Nat) : Bool := e.tree == tree && e.group == group

/-- The entry is in force at a tick (R189, R190). -/
def TreeEntry.live (e : TreeEntry) (t : Nat) : Bool := decide (e.effTick ≤ t) && (e.removing || e.endTick.all (fun x => decide (t < x)))

/-- From an effective tick on there is no entry of this tree and group: at once when that tick has come (R189). -/
def AgentWork.endTree (w : AgentWork) (now : Nat) (e : TreeEntry) : AgentWork :=
  { w with trees := if e.effTick ≤ now then w.trees.filter (fun x => !x.is e.tree e.group)
    else w.trees.map (fun x => if x.is e.tree e.group then
      { x with endTick := some (match x.endTick with
        | some y => min y e.effTick
        | none => e.effTick) } else x) }

/-- Install an entry for its effective tick, in place of one of the same tree and group (R189). -/
def AgentWork.installTree (w : AgentWork) (now : Nat) (e : TreeEntry) : AgentWork :=
  let w1 := w.endTree now e
  { w1 with trees := w1.trees ++ [e] }

/-- A tree still holds flits in the combining store (R190). -/
def AgentWork.treeBusy (w : AgentWork) (tree group : Nat) : Bool :=
  w.combining.any (fun u => u.tree == tree && u.group == group)

/-- The entries that the table keeps at a tick beside one of this tree and group: those that do not end before, and those whose removal has
come but whose flits have not left (R190). -/
def AgentWork.otherTrees (w : AgentWork) (e : TreeEntry) (t : Nat) : List TreeEntry :=
  w.trees.filter (fun x => !x.is e.tree e.group
    && (x.endTick.all (fun y => decide (t < y)) || x.removing && w.treeBusy x.tree x.group))

/-- AGENT_TREE_SET (R189, R190): install within the combining store and the tree table, or remove, deferred while flits remain; either
takes effect at the tick it names. The delay that AS_DEFERRED tells (R165) is not known while flits remain: DESIGN CHOICE (log entry 206), the
ticks to the named one, at least 1. -/
def execAgentTreeSet (m : Msg) (s : State) : Host.Outcome State Fault Refusal :=
  s.finish (s.agentRequest m true 0 (fun t =>
    let e := treeOf m.content
    let w := t.agent.work
    let now := t.agent.core.tick
    let rest := w.otherTrees e (max now e.effTick)
    if le m.content 0 1 = 0 then
      let sum := (rest.map TreeEntry.reservation).foldl (· + ·) 0 + e.reservation
      if t.agent.core.kind = 2 ∧ w.store < sum then (t, { status := 2, detail := sum - w.store })
      else if w.treeCap < rest.length + 1 then (t, { status := 2, detail := rest.length + 1 - w.treeCap })
      else (t.modAgentWork (fun w => w.installTree now e), AgentAnswer.ok)
    else if le m.content 0 1 = 1 then
      if !w.treeBusy e.tree e.group then (t.modAgentWork (fun w => w.endTree now e), AgentAnswer.ok)
      else if e.effTick ≤ now then
        (t.modAgentWork (fun w => { w with trees := w.trees.map (fun x =>
          if x.is e.tree e.group then { x with removing := true } else x) }), { status := 8, detail := 1 })
      else (t.modAgentWork (fun w => w.endTree now e), { status := 8, detail := e.effTick - now })
    else (t, { status := 1 })))

/-- AGENT_CARDS (R191): one round of a transfer list; a round already delivered is ignored. -/
def execAgentCards (m : Msg) (s : State) : Host.Outcome State Fault Refusal :=
  s.finish (s.agentRequest m true 0 (fun t =>
    let b := m.content
    let n := le b 10 1
    if t.agent.core.kind ≠ 1 then (t, { status := 6 })
    else if 12 < n then (t, { status := 1, detail := 10 })
    else if t.agent.work.cards.any (fun r => r.plan == le b 0 2 && r.start == le b 4 6 && r.cards == chunks 16 n (b.drop 16)) then
      (t, AgentAnswer.ok)
    else
      let r : CardRound := { plan := le b 0 2, job := le b 2 2, start := le b 4 6, cards := chunks 16 n (b.drop 16) }
      (t.modAgentWork (fun w => { w with cards := w.cards ++ [r] }), AgentAnswer.ok)))

/-! ### Keys -/

/-- The transmit slot of a job and kind, when one is set. -/
def AgentWork.tx (w : AgentWork) (job kind : Nat) : Option Nat :=
  (w.txSlot.find? (fun e => e.1 == job && e.2.1 == kind)).map (fun e => e.2.2)

/-- Set the transmit slot. -/
def AgentWork.setTx (w : AgentWork) (job kind slot : Nat) : AgentWork :=
  { w with txSlot := w.txSlot.filter (fun e => !(e.1 == job && e.2.1 == kind)) ++ [(job, kind, slot)] }

/-- A key slot by job, kind and slot. -/
def KeySlot.is (k : KeySlot) (job kind slot : Nat) : Bool := k.job == job && k.kind == kind && k.slot == slot

/-- The nonce of R192: TOKEN and MSGID. -/
def keyNonce (m : Msg) : Bytes := toLe 8 m.token ++ toLe 4 m.msgid

/-- AGENT_KEY_INSTALL (R192): unwrap a key into a slot; AS_CHECK for a bad tag, AS_DENIED for the slot in use for
transmission. DEDUCED: a job's first key is the one it sends with. -/
def execAgentKeyInstall (m : Msg) (s : State) : Host.Outcome State Fault Refusal :=
  s.finish (s.agentRequest m true 0 (fun t =>
    let b := m.content
    let (job, kind, slot) := (le b 0 2, le b 2 1, le b 3 1)
    let key := match t.agent.core.sessionKey with
      | some (_, k) => k
      | none => []
    let held := t.agent.work.keys.any (fun k => k.is job kind slot)
    let plain := field (Config.gcmDecrypt key (keyNonce m) (field b 8 32)) 0 32
    if 1 < kind then (t, { status := 1, detail := 2 })
    else if 1 < slot then (t, { status := 1, detail := 3 })
    else if key = [] ∨ field b 40 16 ≠ field (Config.gcmTag key (keyNonce m) (field b 0 8) plain) 0 16 then
      (t, { status := 7 })
    else if held ∧ t.agent.work.tx job kind = some slot then (t, { status := 5 })
    else
      let k : KeySlot := { job := job, kind := kind, slot := slot, generation := le b 4 2,
                           key := plain }
      let t1 := t.modAgentWork (fun w => { w with keys := w.keys.filter (fun x => !x.is job kind slot) ++ [k] })
      (if (t.agent.work.tx job kind).isNone then t1.modAgentWork (fun w => w.setTx job kind slot) else t1, AgentAnswer.ok)))

/-- AGENT_KEY_SWITCH (R185, R193): the job's flits leave in the slot from the named tick. R193 counts bytes 0 to 9 and also a 6-byte tick
behind bytes 0 to 5: DESIGN CHOICE (log entry 207), the tick stands in bytes 6 to 11. -/
def execAgentKeySwitch (m : Msg) (s : State) : Host.Outcome State Fault Refusal :=
  s.finish (s.agentRequest m true 0 (fun t =>
    let b := m.content
    if 1 < le b 2 1 then (t, { status := 1, detail := 2 })
    else if 1 < le b 3 1 then (t, { status := 1, detail := 3 })
    else match t.timedTick (le b 6 6) 6 with
    | some a => (t, a)
    | none => (t.addTimed m.token (le b 6 6) (.keySwitch (le b 0 2) (le b 2 1) (le b 3 1)), AgentAnswer.ok)))

/-- Flits of a job and key slot in the agent's input buffers (R193). -/
def State.slotBusy (s : State) (job slot : Nat) : Bool :=
  s.agent.ports.any (fun p => p.2.link.inputBuf.any (fun f => f.job == job && f.kgen == slot && f.enc))

/-- The slot that a job's flits will leave in at a tick: a switch accepted for that tick or before counts (R193; DEDUCED, since
R315 and R578 erase a job's last key under R193: use for transmission is judged at the tick of the erasure). -/
def AgentWork.txAt (w : AgentWork) (job kind tick : Nat) : Option Nat :=
  (sortBy Prod.fst (w.timed.filterMap (fun t => match t.act with
    | .keySwitch j k sl => if j = job ∧ k = kind ∧ t.tick ≤ tick then some (t.tick, sl) else none
    | _ => none))).foldl (fun _ e => some e.2) (w.tx job kind)

/-- AGENT_KEY_ERASE (R193): the slot is zeroed at its tick; the slot in use for transmission is refused. The body is that of KEY_SWITCH (log
entry 207); the delay that AS_DEFERRED tells is that to the tick, the least it can be (log entry 206). -/
def execAgentKeyErase (m : Msg) (s : State) : Host.Outcome State Fault Refusal :=
  s.finish (s.agentRequest m true 0 (fun t =>
    let b := m.content
    let (job, kind, slot) := (le b 0 2, le b 2 1, le b 3 1)
    if 1 < kind then (t, { status := 1, detail := 2 })
    else if 1 < slot then (t, { status := 1, detail := 3 })
    else match t.timedTick (le b 6 6) 6 with
    | some a => (t, a)
    | none =>
      if t.agent.work.txAt job kind (le b 6 6) = some slot ∧ t.agent.work.keys.any (fun k => k.is job kind slot) then
        (t, { status := 5 })
      else (t.addTimed m.token (le b 6 6) (.keyErase job kind slot),
        if kind = 0 ∧ t.slotBusy job slot then { status := 8, detail := le b 6 6 - t.agent.core.tick } else AgentAnswer.ok)))

/-! ### Grants, releases, sessions -/

/-- AGENT_CURRENT_GRANT (R195): installs or renews a grant. -/
def execAgentCurrentGrant (m : Msg) (s : State) : Host.Outcome State Fault Refusal :=
  s.finish (s.agentRequest m true 0 (fun t =>
    let b := m.content
    let g : AgentGrant := {
      kind := le b 0 1, job := le b 2 2, action := le b 4 4, offset := le b 8 2, step := le b 10 2, expiry := le b 12 6
      used := t.agent.core.tick }
    let rest := t.agent.work.grants.filter (fun x => !(x.action == g.action && x.kind == g.kind))
    if 5 < g.kind then (t, { status := 1 })
    else
      -- expired grants make room
      let kept := if 64 ≤ rest.length then rest.filter (fun x => decide (t.agent.core.tick < x.expiry)) else rest
      if 64 ≤ kept.length then (t, { status := 2, detail := 1 })
      else (t.modAgentWork (fun w => { w with grants := kept ++ [g] }), AgentAnswer.ok)))

/-- The grant of a kind and action that is in force (R195, R196, R512). -/
def State.grantOf (s : State) (kind action : Nat) : Option AgentGrant :=
  s.agent.work.grants.find? (fun g => g.kind == kind && g.action == action && s.agent.core.tick < g.expiry)

/-- The grant that a RELEASE means: one of a kind whose base tick RELEASE names (R512). The message carries no kind: of several, the lowest
(DESIGN CHOICE, log entry 215). -/
def State.grantReleased (s : State) (action : Nat) : Option AgentGrant :=
  [1, 2, 3, 5].findSome? (fun k => s.grantOf k action)

/-- A grant is missing: counted and reported with the kind and the action (R196, R514). -/
def State.grantRefused (s : State) (kind action job : Nat) : State :=
  (s.agentCount 9).agentReport 0xFF00 7 job (toLe 1 kind ++ zeros 3 ++ toLe 4 action)

/-- AGENT_RELEASE (R185, R196): the base tick of a granted action; without a grant in force AS_DENIED and reported. -/
def execAgentRelease (m : Msg) (s : State) : Host.Outcome State Fault Refusal :=
  s.finish (s.agentRequest m true 0 (fun t =>
    let b := m.content
    let action := le b 0 4
    match t.grantReleased action with
    | none => (t.grantRefused 0 action 0, { status := 5 })
    | some g => match t.timedTick (le b 4 6) 4 with
      | some a => (t, a)
      | none => (t.addTimed m.token (le b 4 6 + g.offset) (.release g.kind action), AgentAnswer.ok)))

/-- AGENT_LINK_SESSION (R147, R148, R185, R194): a port's session number, applied on acceptance or at a named tick. -/
def execAgentLinkSession (m : Msg) (s : State) : Host.Outcome State Fault Refusal :=
  s.finish (s.agentRequest m true 0 (fun t =>
    let b := m.content
    let (port, n, tick) := (le b 0 1, le b 2 3, le b 8 6)
    let x := t.agentPort port
    let key := match t.agent.core.sessionKey with
      | some (_, k) => k
      | none => []
    if key = [] ∨ field b 16 16 ≠ field (Config.gcmTag key (keyNonce m) (field b 0 16) []) 0 16 then (t, { status := 7 })
    else if x.link.state ≠ .up then (t, { status := 1 })
    else if x.flow.sessionsUsed.contains n then (t, { status := 5 })
    else if tick = 0 then (t.applySession { node := .agent, port := port } n, AgentAnswer.ok)
    else match t.timedTick tick 8 with
      | some a => (t, a)
      | none => (t.addTimed m.token tick (.session port n), AgentAnswer.ok)))

/-! ### Forwarding on trees, ticks and verdicts -/

/-- Ports of a mask. -/
def maskPorts (mask : Nat) : List Nat := (List.range 256).filter (fun p => bit mask p)

/-- Queue a management message of the agent on VC1 to every port of a mask (R159, R190). -/
def State.forwardVc1 (s : State) (m : Msg) (body : Bytes) (mask : Nat) : State :=
  let f : Flit := {
    kind := .data, vc := 1, epb := s.agentEpb, dst := 0xFFFF, src := m.src, stream := m.stream
    payload := toLe 1 m.type ++ toLe 1 m.ver ++ toLe 1 m.flags ++ zeros 1 ++ toLe 4 m.msgid ++ toLe 8 m.token ++ body }
  (maskPorts mask).foldl (fun t p => t.modLink { node := .agent, port := p } (fun l =>
    { l with outQueue := l.outQueue ++ [(p, f)] })) s

/-- The agent's tree entry of a tree and group, in force. -/
def State.agentTree (s : State) (tree group : Nat) : Option TreeEntry :=
  s.agent.work.trees.find? (fun e => e.is tree group && e.live s.agent.core.tick)

/-- Address named by a bank's self entry (R222). -/
def Bank.selfAddr (k : Bank) : Option Nat :=
  (k.routes.find? (fun e => bit e.2 63 && e.2 % 2 ^ 56 == 0xFFFFFFFFFFFFFF)).map Prod.fst

/-- Weights of VC2 to VC7 of table 1 at a port, VC2 first; the defaults where the entry is unwritten (R152, R181, R295). Bytes
stand in drain order VC3, VC6, VC2, VC5, VC4, VC7. -/
def Bank.portWeights (k : Bank) (p : Nat) : List Nat :=
  match kvGet k.weights p with
  | some v => [bits v 23 16, bits v 7 0, bits v 39 32, bits v 31 24, bits v 15 8, bits v 47 40]
  | none => [24, 24, 64, 16, 24, 8]

/-- The port that a kind 5 release is for. Neither grant nor release names it (R195, R196): DESIGN CHOICE (log entry 227), the lowest that waits
for its release; when none waits, which LINK_RETRAIN can bring about, the lowest that is DOWN, else the lowest that is UP. -/
def State.portReleased (s : State) : Option (Nat × Port) :=
  let at_ (q : Port → Bool) : Option (Nat × Port) := s.agent.ports.find? (fun p => q p.2)
  ((at_ (fun x => x.link.waits)).or (at_ (fun x => x.link.state == .down))).or (at_ (fun x => x.link.state == .up))

/-- A kind 5 release: the port begins its attempt or its retrain (R515), or a full training that LINK_RETRAIN orders (R124, R129). -/
def State.startTraining (s : State) : State :=
  match s.portReleased with
  | none => s
  | some p =>
    let r : PortRef := { node := .agent, port := p.1 }
    if !p.2.link.waits then ((s.modLink r (fun l => { l with attempts := 0 })).enterTraining r).reportLink r
    else if p.2.link.state = .training then s.beginAttempt r else s.modLink r (fun l => { l with waits := false })

/-- A port discards what it holds of a retired bank's epoch, and counts it as epoch-expired (R183, R296). -/
def Port.retire (b : Nat) (p : Port) : Port :=
  let gone (f : Flit) : Bool := f.epb == b && f.dst != 0xFFFF
  let k := (p.link.inputBuf.filter gone).length + (p.link.outQueue.filter (fun e => gone e.2)).length
  if k = 0 then p else {
    link := { p.link with
      inputBuf := p.link.inputBuf.filter (fun f => !gone f), outQueue := p.link.outQueue.filter (fun e => !gone e.2) }
    flow := { p.flow with
      counters := bump p.flow.counters 12 k
      due := (p.link.inputBuf.filter gone).foldl (fun d f => bump d f.vc) p.flow.due } }

/-- A timed action takes effect (R183, R193, R194, R196). A FAILOVER whose set an ACTIVATE has made older meanwhile is not applied (R186); an
action whose grant is gone does not start and is reported (R196). -/
def State.runTimed (s : State) (a : TimedAct) : State :=
  match a with
  | .activate b e =>
    let w := s.agent.work
    let other := w.bank (1 - b)
    let w1 := (w.modBank b (fun k => { k with state := .active, epoch := e })).modBank (1 - b) (fun k =>
      { k with state := if other.state = .active then .old else k.state })
    let s1 := s.modAgentWork (fun _ => { w1 with overlay := none, bankS := w1.bankS.map (fun d => { d with stale := true }) })
    let s2 := s1.modAgentCore (fun c => { c with
      addr := match (w1.bank b).selfAddr with
        | some x => some x
        | none => c.addr
      state := if c.state = .attested ∨ (c.state = .claimed ∧ c.version = 2) then .serving else c.state })
    { s2 with agent := { s2.agent with ports := s2.agent.ports.map (fun p =>
        (p.1, { p.2 with flow := { p.2.flow with weights := (w1.bank b).portWeights p.1 } })) } }
  | .retire b =>
    let s1 := s.modAgentWork (fun w => w.modBank b (fun k => { k with state := .free }))
    { s1 with agent := { s1.agent with ports := s1.agent.ports.map (fun p => (p.1, p.2.retire b)) } }
  | .failover f =>
    let epoch := s.agent.work.active.map (fun k => (s.agent.work.bank k).epoch)
    if s.agent.work.bankS.any (fun d => d.failureId == f && !d.stale && epoch == some d.epochTag) then
      s.modAgentWork (fun w => { w with overlay := some f })
    else s
  | .clearStandby => s.modAgentWork (fun w => { w with overlay := none, bankS := [] })
  | .targetSwap => s.modAgentWork (fun w => { w with target := w.targetStandby, targetStandby := w.target })
  | .keySwitch j k sl => s.modAgentWork (fun w => w.setTx j k sl)
  | .keyErase j k sl =>
    if k = 0 ∧ s.slotBusy j sl then
      s.modAgentWork (fun w => { w with keys := w.keys.map (fun x => if x.is j k sl then { x with erasing := true } else x) })
    else s.modAgentWork (fun w => { w with keys := w.keys.filter (fun x => !x.is j k sl) })
  | .session p n => s.applySession { node := .agent, port := p } n
  | .release k a =>
    match s.grantOf k a with
    | some g =>
      let s1 := s.modAgentWork (fun w => { w with
        started := w.started ++ [(k, a, s.agent.core.tick)]
        grants := w.grants.map (fun x => if x.kind = k ∧ x.action = a then { x with used := s.agent.core.tick, cold := false } else x) })
      if g.kind = 5 then s1.startTraining else s1
    | none => s.grantRefused k a (((s.agent.work.grants.find? (fun g => g.kind == k && g.action == a)).map AgentGrant.job).getD 0)

/-- Step of R64 of an action (R183, R193, R194, R196). -/
def TimedAct.step : TimedAct → Nat
  | .activate _ _ | .retire _ | .failover _ | .clearStandby => 3
  | .keySwitch _ _ _ | .keyErase _ _ _ | .session _ _ => 4
  | .release _ _ => 8
  | .targetSwap => 10

/-- Card rounds that start at this tick, each under a grant of kind 4 in force for its plan and exchange (R191, R399, R404), the exchange being
that of the plan area where the member has one; none while QUIESCED (R63). -/
def State.startCards (s : State) : State :=
  let t := s.agent.core.tick
  let num (r : CardRound) : Option Nat :=
    (s.agent.work.exchanges.find? (fun x => x.area != [] && le x.area 0 2 == r.plan)).map (fun x => le x.area 4 4 % 65536)
  let granted (r : CardRound) : Bool :=
    s.agent.core.state == .serving && s.agent.work.grants.any (fun g => g.kind == 4 && g.job == r.job && t < g.expiry
      && g.action / 65536 == r.plan && (num r).all (fun n => g.action % 65536 == n))
  s.modAgentWork (fun w => { w with
    started := w.started ++ (w.cards.filter (fun r => r.start == t && !r.started && granted r)).map (fun r => (4, r.plan, t))
    cards := w.cards.map (fun r => if r.start = t ∧ granted r then { r with started := true } else r) })

/-- Latch the counters at a marker (R197). -/
def State.latchCounters (s : State) : State :=
  let b0 := s.agent.ports.flatMap (fun p => (List.range 16).map (fun n => (p.1 * 16 + n, p.2.flow.counters.getD n 0)))
  let b2 := (List.range 10).map (fun n => (2 * 2 ^ 20 + n, s.agent.core.counters.getD n 0))
  let b1 := s.agent.work.block1.map (fun e => (2 ^ 20 + e.1, e.2))
  let b3 := s.agent.work.block3.map (fun e => (3 * 2 ^ 20 + e.1, e.2))
  s.modAgentWork (fun w => { w with latch := b0 ++ b1 ++ b2 ++ b3 })

/-- Step 3 for the tree table: an entry whose end has come goes, at once where another replaces it, and once its flits have left where
it was removed (R189, R190). -/
def AgentWork.treesAt (w : AgentWork) (t : Nat) : AgentWork :=
  let ends (e : TreeEntry) : Bool := e.endTick.any (fun x => decide (x ≤ t))
  let replaced (e : TreeEntry) : Bool := w.trees.any (fun x => x.is e.tree e.group && !ends x && decide (x.effTick ≤ t))
  { w with trees := w.trees.filterMap (fun e =>
      if !ends e then some e
      else if w.treeBusy e.tree e.group ∧ !replaced e then some { e with removing := true }
      else none) }

/-- An endpoint's energy counters advance: one for the job of each target slot, and index 64 for the rest (R197). What was used is measured at
the endpoint: free values (log entry 208). -/
def State.energyTick (s : State) : State :=
  if s.agent.core.kind ≠ 1 then s
  else
    let (s1, n) := s.draw
    let slots := (s.agent.work.target.filter (fun e => bit e.2 0)).map Prod.fst ++ [64]
    s1.modAgentWork (fun w => { w with block3 := slots.foldl (fun m i =>
      kvSet m i (((kvGet m i).getD 0 + Config.freeNat (n * 128 + i)) % 2 ^ 64)) w.block3 })

/-- A timed action whose tick has passed without its marker, as a QUIESCED agent may have missed it: a commit applies only at its tick, and a
release starts nothing later (R185, R196), a bank reserved for it being FREE again; key switches, erasures and session numbers, which the
far ends go by, take effect at the next marker (DESIGN CHOICE, log entry 228). -/
def State.runMissed (s : State) (a : TimedAct) : State := match a with
  | .activate b _ => s.modAgentWork (fun w => w.modBank b (fun k => { k with state := .free }))
  | .retire b => s.modAgentWork (fun w => w.modBank b (fun k => { k with state := .free }))
  | .keySwitch _ _ _ | .keyErase _ _ _ | .session _ _ => s.runTimed a
  | _ => s

/-- Everything the agent does at its tick instant (R62, R64, R72, R183, R193, R196, R404). -/
def State.agentAtTick (s : State) (t : Nat) : State :=
  let s1 := s.energyTick.modAgentCore (fun c => { c with
    tick := t, entriesThisTick := 0, violationReported := false, misroutedReported := false, vc0Sent := 0, vc0Reports := 0 })
  let due := s1.agent.work.timed.filter (fun x => decide (x.tick ≤ t))
  let s2 := s1.modAgentWork (fun w => { w.treesAt t with timed := w.timed.filter (fun x => !decide (x.tick ≤ t)) })
  let run (u : State) (n : Nat) : State := (due.filter (fun x => x.act.step == n)).foldl (fun v x => if x.tick = t then v.runTimed x.act else v.runMissed x.act) u
  let s3 := { s2 with agent := { s2.agent with ports := s2.agent.ports.map (fun p =>
    (p.1, { p.2 with flow := p.2.flow.newTick p.2.link })) } }
  (run (run (run (run s3 3) 4).startCards 8) 10).latchCounters.agentPump

/-- Residence added to the correction field in units of 2^-16 ns (R59, R200). -/
def addCorrection (body : Bytes) (ps : Nat) : Bytes :=
  body.take 8 ++ toLe 8 (le body 8 8 + ps * 65536 / 1000) ++ body.drop 16

/-- The tick instant that a TICK gives: its arrival in ps, less the delay of the link and the correction (R60, R200). -/
def State.placeOf (s : State) (b : Bytes) (port arrival : Nat) : Int :=
  let corr : Int := if le b 8 8 < 2 ^ 63 then (le b 8 8 : Int) else (le b 8 8 : Int) - 2 ^ 64
  (arrival : Int) - (s.agentPort port).link.delayPs - corr * 1000 / 65536

/-- A switch forwards a TICK down the tick tree with its residence time (R59, R190). R201 lets an agent forward source-routed flits only before
SERVING, but markers must reach every agent of the tree (R59, R200): DESIGN CHOICE (log entry 210), a TICK is forwarded there too. -/
def State.forwardTick (s : State) (m : Msg) (residence : Nat) : State :=
  match s.agentTree 0 0xFFFF with
  | some e => if s.agent.core.kind = 2 then s.forwardVc1 m (addCorrection m.content residence) e.children else s
  | none => s

/-- AGENT_TICK_RECEIVE (R52, R59, R60, R62 to R64, R190, R200): a TICK on a port at local time `arrival` (ps): placed by delay and
correction, forwarded down the tick tree with the residence time, a second one of a tick or a late one too, timed actions of the tick
applied. Of two emitters of one tick the lower Geneel ID is followed and placed by. -/
def execAgentTickReceive (m : Msg) (port arrival residence : Nat) (s : State) : Host.Outcome State Fault Refusal :=
  let b := m.content
  let t := le b 0 6
  let master := le b 7 1
  let c := s.agent.core
  if c.state = .reset ∨ c.state = .faulted then s.finish s
  else if c.marked ∧ t = c.tick ∧ c.flywheel = 0 ∧ master ≠ c.master then
    let s1 := s.agentCount 6
    s.finish ((if master < c.master then s1.modAgentCore (fun c => { c with
        master := master, period := le b 6 1, placed := s.placeOf b port arrival }) else s1).forwardTick m residence)
  else if c.marked ∧ t ≤ c.tick ∧ c.flywheel = 0 then s.finish (s.forwardTick m residence)
  else
    let s1 := s.modAgentCore (fun c => { c with
      marked := true, master := master, period := le b 6 1, placed := s.placeOf b port arrival, flywheel := 0
      state := if c.state = .quiesced then .serving else c.state })
    let s2 := s1.forwardTick m residence
    s.finish (if c.tick < t ∨ !c.marked then s2.agentAtTick t else s2)

/-- AGENT_FLYWHEEL_TICK (R62): a missed marker is bridged by the agent's own rate. -/
def execAgentFlywheelTick (s : State) : Host.Outcome State Fault Refusal :=
  let c := s.agent.core
  if !c.marked ∨ c.state = .reset ∨ 16 ≤ c.flywheel then s.finish s
  else s.finish (((s.modAgentCore (fun c => { c with flywheel := c.flywheel + 1 })).agentCount 5).agentAtTick (c.tick + 1))

/-- AGENT_TICK_LOSS (R63, R201): after 16 flywheel ticks: FAULT_REPORT code 1 of unit 0xFF00, QUIESCED. R201 names no state that a tick loss
leaves: DESIGN CHOICE (log entry 214), only SERVING becomes QUIESCED, any other state stays. -/
def execAgentTickLoss (s : State) : Host.Outcome State Fault Refusal :=
  let c := s.agent.core
  if c.flywheel < 16 ∨ c.state = .quiesced ∨ c.state = .reset then s.finish s
  else s.finish (((s.agentCount 4).agentReport 0xFF00 1 0).modAgentCore (fun c =>
    { c with state := if c.state = .serving then .quiesced else c.state }))

/-! ### Forwarding by a switch -/

/-- SWITCH_FLIT_FORWARD (R143, R163, R173, R177, R178, R201, R293, R294): the oldest flit of an input port moves on: by its route
block, or by the bank its EPB selects; TICK, VERDICT and a flit for the agent's own address end here (R222). In states other than SERVING and QUIESCED
only source-routed flits move, and none to an address outside the map of R9. -/
def execSwitchFlitForward (inPort : Nat) (s : State) : Host.Outcome State Fault Refusal :=
  let r : PortRef := { node := .agent, port := inPort }
  match (s.nodePort r).link.inputBuf with
  | [] => s.finish s
  | f :: rest =>
    if s.agent.core.state = .reset then s.finish s
    else
      let s1 := (s.modLink r (fun l => { l with inputBuf := rest })).creditDue r f.vc
      if f.dst = 0xFFFF ∧ f.vc = 0 then
        let h := le f.payload 16 1
        let i := le f.payload 17 1
        if i < h then
          let out := le f.payload (18 + i) 1
          s.finish (s1.switchOut inPort out { f with payload := f.payload.take 17 ++ toLe 1 (i + 1) ++ f.payload.drop 18 })
        else s.finish (s1.agentSegment inPort f)
      else if f.dst = 0xFFFF ∧ f.vc = 1 then s.finish (s1.agentSegment inPort f)
      else if s.agent.core.addr = some f.dst then s.finish (s1.consumeFlit r f)
      else if !s.agentForwards ∨ !inMap f.dst then s.finish (s1.misroute inPort)
      else match s.agent.work.routeOf f with
        | none => s.finish (s1.portCount r 12)
        | some none => s.finish (s1.misroute inPort)
        | some (some e) =>
          if !bit e 63 then s.finish (s1.misroute inPort)
          else s.finish (s1.switchOut inPort (if f.vc ≤ 1 then bits e 55 48 else dataPort e f.stream) f)

/-! ### Reports, reassembly, deferred actions -/

/-- AGENT_FAULT_REPORT_ACK (R198): an acknowledgement ends the repetition. -/
def execAgentFaultReportAck (m : Msg) (s : State) : Host.Outcome State Fault Refusal :=
  s.finish (s.modAgentCore (fun c => { c with
    reports := c.reports.filter (fun r => !(r.msgid == m.msgid || r.msgid + 1 == m.msgid)) }))

/-- FAULT_REPORT_REPEAT (R198): every report unacknowledged for 4 ticks is sent again to each Geneel under the number that it had there, up to 8
sends. -/
def execFaultReportRepeat (s : State) : Host.Outcome State Fault Refusal :=
  let t := s.agent.core.tick
  let due := s.agent.core.reports.filter (fun r => r.lastTick + 4 ≤ t && r.sends < 8)
  let s1 := s.modAgentCore (fun c => { c with reports := (c.reports.map (fun r =>
    if r.lastTick + 4 ≤ t then { r with sends := r.sends + 1, lastTick := t } else r)).filter (fun r => r.sends ≤ 8) })
  s.finish (due.foldl (fun u r => u.agentGeneels.foldl (fun v g => v.agentDispatch {
    src := v.agentAddr, dst := g, type := 0x0E, flags := 6, msgid := (r.msgid + g % 2) % 2 ^ 32, stream := 2, body := r.body }) u) s1)

/-- SEGMENT_REASSEMBLY_EXPIRE (R162): messages incomplete 4 ticks after their first segment are discarded; before the agent's first marker it
counts no ticks, and the event says that 64 µs have passed. -/
def execSegmentReassemblyExpire (s : State) : Host.Outcome State Fault Refusal :=
  s.finish (s.modAgentCore (fun c => { c with reassembly := c.reassembly.filter (fun x => c.marked && c.tick < x.firstTick + 4) }))

/-- DEFERRED_ACTION_COMPLETE (R190, R193): tree removals and key erasures whose flits have left take effect. -/
def execDeferredActionComplete (s : State) : Host.Outcome State Fault Refusal :=
  s.finish (s.modAgentWork (fun w => { w with
    trees := w.trees.filter (fun e => !(e.removing && !w.treeBusy e.tree e.group))
    keys := w.keys.filter (fun k => !(k.erasing && !s.slotBusy k.job k.slot)) }))

/-- AGENT_GRANT_COLD (R514): a grant whose action has not started for 64 ticks becomes cold. -/
def execAgentGrantCold (s : State) : Host.Outcome State Fault Refusal :=
  s.finish (s.modAgentWork (fun w => { w with grants := w.grants.map (fun g =>
    if (g.kind = 1 ∨ g.kind = 2) ∧ g.used + 64 ≤ s.agent.core.tick then { g with cold := true } else g) }))

/-- TABLE_MEMORY_ERROR (R201): a table memory error in a bank in use: FAULT_REPORT code 8, FAULTED. -/
def execTableMemoryError (unit : Nat) (s : State) : Host.Outcome State Fault Refusal :=
  if s.agent.core.state = .reset ∨ s.agent.work.active.isNone then s.finish s
  else s.finish ((s.agentReport (0xFF00 + unit % 256) 8 0).modAgentCore (fun c => { c with state := .faulted }))

/-- LOAD_STARTING_ACTION_REQUEST (R362, R369, R514): under a warm grant in force the action starts; otherwise FAULT_REPORT code 7
with the kind and action. A QUIESCED agent starts none (R63). -/
def execLoadStartingActionRequest (kind action job : Nat) (s : State) : Host.Outcome State Fault Refusal :=
  if s.agent.core.kind ≠ 1 ∨ s.agent.core.state ≠ .serving then s.finish s
  else match s.grantOf kind action with
    | some g =>
      if g.cold then s.finish (s.grantRefused kind action job)
      else s.finish (s.runTimed (.release kind action))
    | none => s.finish (s.grantRefused kind action job)

end Sys2Proof.Machine
end

