-- ==== Sys2Proof/Machine/Accept.lean ====
section
/-! DEFINITION. How a host command is accepted (spec 03_command_packets, R98 to R120, R705): the checks of R106 in their
order, co-signing, holding for a tick, a signature or a drain, execution and the final record. Each opcode is described
by a `HostOp`; everything that opcodes share is said here once. -/

namespace Sys2Proof.Machine

open Sys2Proof

/-- The Co-sign column (R98). -/
inductive Cosign where
  | none | oc | o | m | p
  deriving DecidableEq, Repr

/-- The Effective at column (R119); `tick` for TICK_CONFIG and TICK_START, whose column is R47. -/
inductive EffAt where
  | d | ei | ea | tick
  deriving DecidableEq, Repr

/-- The job IDs an opcode allows (R705). -/
inductive JobRule where
  | nonzero | zero | any
  deriving DecidableEq, Repr

/-- The answer of one check of R106. -/
inductive Check where
  | ok
  | fail (status detail : Nat)
  /-- the target is draining: outstanding items (R116) -/
  | drain (outstanding : Nat)
  deriving DecidableEq, Repr

/-- Both checks in order. -/
def Check.and (a b : Check) : Check := match a with
  | .ok => b
  | r => r

/-- A condition whose failure is ST_BAD_PARAM with an offset (R111). -/
def need (c : Bool) (off : Nat) : Check := if c then .ok else .fail 0x11 off

/-- A condition whose failure is ST_DENIED with a reason (R111). -/
def needRight (c : Bool) (reason slot : Nat) : Check := if c then .ok else .fail 0x20 (reason + 256 * slot)

/-- All checks in order. -/
def checks (l : List Check) : Check := l.foldl Check.and .ok

/-- How the execution of a command ends at its tick. -/
inductive Fin where
  /-- final record now: status, detail, result -/
  | done (status detail : Nat) (result : Bytes)
  /-- the final record is posted by a later event -/
  | running
  deriving DecidableEq, Repr

/-- ST_OK with a result. -/
def Fin.result (b : Bytes) : Fin := .done 0 0 b

/-- ST_OK without a result. -/
def Fin.ok : Fin := .done 0 0 []

/-- What the opcode table and the owning chapter say of an opcode. -/
structure HostOp where
  opcode : Nat
  cosign : Cosign := .none
  eff : EffAt := .d
  jobs : JobRule := .any
  /-- a query of R322 -/
  query : Bool := false
  /-- refused to every JOB master (R323) -/
  noJobMaster : Bool := false
  /-- the command needs both signatures now: code P outside its policy (R98, R333) -/
  needsBoth : Packet → State → Bool := fun _ _ => false
  /-- check 8: parameters -/
  params : Packet → Nat → State → Check := fun _ _ _ => .ok
  /-- its effect needs no agent to be told of a tick: without an effective tick it takes effect on dispatch (R66) -/
  atOnce : Bool := false
  /-- objects the command reserves; check 9 (R115) -/
  reserves : Packet → State → List Obj := fun _ _ => []
  /-- check 10: resources -/
  resources : Packet → State → Check := fun _ _ => .ok
  /-- check 11: the target fenced or draining -/
  target : Packet → State → Check := fun _ _ => .ok
  /-- what begins at acceptance: the messages to agents, named by the command's number -/
  start : Packet → Nat → State → State := fun _ _ s => s
  /-- the effect at its tick -/
  apply : Packet → Nat → State → State × Fin := fun _ _ s => (s, Fin.ok)

/-! ### Signatures (R98 to R105) -/

/-- The identity digest, over the device public key (R552). -/
def identityDigest : Bytes := shake32 (ascii "GN7IDNT1" ++ certKey (field (Config.partBytes "device certificate") 0 3144))

/-- The change counter (R101). -/
def State.changeCounter (s : State) : Nat := s.up.pcycle * 2 ^ 40 + s.host.signed

/-- The co-sign digest (R100). -/
def State.cosignDigest (s : State) (p : Packet) : Bytes :=
  let flags := p.flags - 8 * bits p.flags 4 3
  let params := if bit p.flags 2 then zeros 16 ++ p.params.drop 16 else p.params
  field (Config.shake256 (ascii "GN7COSIG" ++ identityDigest
    ++ toLe 8 s.changeCounter ++ toLe 2 p.opcode ++ toLe 2 flags ++ toLe 6 p.effTick ++ toLe 2 p.job ++ toLe 4 p.len
    ++ params) 32) 0 32

/-- Public key of a credential: enrolled, or for ENROL FIRST on an unenrolled part the key in the parameters (R102,
R567). Empty when there is none. -/
def State.credentialKey (s : State) (p : Packet) (cred : Nat) : Bytes :=
  if s.sec.policy.operator = [] ∧ s.sec.policy.custodian = [] ∧ p.opcode = 0x0B02 ∧ le p.body 0 1 = 0 then
    if cred = 1 then field p.body 8 1793 else if cred = 2 then field p.body 1808 1793 else []
  else if cred = 1 then s.sec.policy.operator
  else if cred = 2 then s.sec.policy.custodian
  else s.buckram.metrology

/-- Credentials a code requires (R98). -/
def Cosign.required : Cosign → Bool → List Nat
  | .none, _ => []
  | .oc, _ => [1, 2]
  | .o, _ => [1]
  | .m, _ => [3]
  | .p, both => if both then [1, 2] else []

/-- Check one signature block by the four steps of R102; the credential when it is good. R102 names reasons 3 and 5 in one step without an
order: DESIGN CHOICE (log entry 188), a credential that the opcode does not require is found (5) before one that is not enrolled (3). -/
def State.checkBlock (s : State) (p : Packet) (slot i : Nat) (required : List Nat) : Nat ⊕ Check :=
  let b := p.sigs.getD i []
  let cred := le b 0 1
  if !(s.master slot).cosign then .inr (.fail 0x20 (7 + 256 * slot))
  else if !(1 ≤ cred && cred ≤ 3 && le b 1 1 == 1 && le b 2 2 == 1280 && le b 4 4 == 0) then
    .inr (.fail 0x22 (4 + 256 * i))
  else if !required.contains cred then .inr (.fail 0x22 (5 + 256 * i))
  else if s.credentialKey p cred = [] then .inr (.fail 0x22 (3 + 256 * i))
  else if p.digest ≠ s.cosignDigest p then .inr (.fail 0x22 (1 + 256 * i))
  else if !falconVerify (s.credentialKey p cred) p.digest (field b 8 1280) then .inr (.fail 0x22 (2 + 256 * i))
  else .inl cred

/-- What check 6 of R106 finds. -/
inductive Signed where
  /-- no signature is needed -/
  | free
  /-- every required credential has signed -/
  | full (signers : List Nat)
  /-- one of two has signed: hold, or complete the hold named (R103) -/
  | half (cred : Nat)
  | bad (c : Check)
  deriving DecidableEq, Repr

/-- Mask of missing credentials (R104). -/
def missingMask (required got : List Nat) : Nat :=
  (required.filter (fun c => !got.contains c)).foldl (fun a c => a + 2 ^ (c - 1)) 0

/-- Check 6 (R102 to R104). -/
def State.checkSigs (s : State) (op : HostOp) (p : Packet) (slot : Nat) : Signed :=
  let required := op.cosign.required (op.needsBoth p s)
  if required = [] then
    if p.nsig = 0 then .free else match s.checkBlock p slot 0 required with
      | .inl _ => .free
      | .inr c => .bad c
  else if op.cosign = .m then
    -- Buckram makes checks 2 to 4 on the forwarded packet (R538)
    if p.nsig = 0 then .bad (.fail 0x21 (missingMask required []))
    else if !(s.master slot).cosign then .bad (.fail 0x20 (7 + 256 * slot))
    else .free
  else if op.cosign = .oc ∧ s.sec.policy.operator = [] ∧ ¬(p.opcode = 0x0B02 ∧ le p.body 0 1 = 0) then
    .bad (.fail 0x22 3)
  else
    let r0 := if 0 < p.nsig then some (s.checkBlock p slot 0 required) else none
    let r1 := if 1 < p.nsig then some (s.checkBlock p slot 1 required) else none
    match r0, r1 with
    | none, _ => .bad (.fail 0x21 (missingMask required []))
    | some (.inr c), _ => .bad c
    | some (.inl a), none => if required = [a] then .full [a] else .half a
    | some (.inl _), some (.inr c) => .bad c
    | some (.inl a), some (.inl b) =>
      if missingMask required [a, b] = 0 then .full [a, b] else .bad (.fail 0x21 (missingMask required [a, b]))

/-! ### The checks of R106 -/

/-- Opcode classes that a device state accepts (R112), placed or not (R634). -/
def State.checkState (s : State) (op : HostOp) : Check :=
  let cls := op.opcode / 256
  let early := [0x0001, 0x0002, 0x0003, 0x0006, 0x0B01, 0x0B0B].contains op.opcode || cls == 0x0C || cls == 0x0E
  let accepted := match s.up.dev with
    | .stage3 | .stage4 | .stage5 => early
    | .ready | .run | .degraded => true
    | .fault => cls == 0 || (0x0A ≤ cls && cls ≤ 0x0E)
    | _ => false
  if !accepted then .fail 0x03 s.up.dev.code
  else if !s.up.placed && ((1 ≤ cls && cls ≤ 8) || cls == 0x0D) then .fail 0x03 (s.up.dev.code + 256 * 4)
  else .ok

/-- A class right with READ or WRITE, and the opcodes refused to JOB masters (R107, R322, R323). -/
def State.hasRight (s : State) (op : HostOp) (slot : Nat) : Bool :=
  let m := s.master slot
  m.classes.getLsbD (op.opcode / 256) && (if op.query then m.read else m.write) && !(op.noJobMaster && m.cls == 5)

/-- Check 5 (R107, R322): the ring's job, then the right. -/
def State.checkAccess (s : State) (op : HostOp) (p : Packet) (slot : Nat) : Check :=
  let jobOk := match s.masterJob slot with
    | some j => p.job == j
    | none => true
  (needRight jobOk 2 slot).and (needRight (s.hasRight op slot) 1 slot)

/-- Job ID allowed (R705). -/
def JobRule.allows : JobRule → Nat → Bool
  | .nonzero, j => 1 ≤ j && j ≤ 4095
  | .zero, j => j == 0
  | .any, j => j ≤ 4095

/-- Check 3 (R106): reserved fields, tag, L with RD, job ID, NSIG; the offset is that of the first bad field. -/
def State.checkHeader (s : State) (op : HostOp) (p : Packet) : Check :=
  let same (q : Packet) : Bool := q.port == p.port && q.ring == p.ring && q.tag == p.tag
  let tagUsed := s.host.cmds.any (fun c => same c.pkt || c.twinPkt.any same)
  checks [need (p.flags < 32 && (op.cosign != .none || p.nsig == 0)) 2, need (!tagUsed) 4,
    need (!bit p.flags 2 || 16 ≤ p.len) 12, need (p.job < 4096 && op.jobs.allows p.job) 22, need (allZero p.rsvd) 56]

/-- Lead in ticks that an opcode needs (R67, R119). -/
def EffAt.lead : EffAt → Nat
  | .ea => 3
  | _ => 1

/-- Check 7: the effective tick (R43, R45, R67, R68, R119): before the first marker no command may name one; a command effective on dispatch
never may. -/
def State.checkTick (s : State) (op : HostOp) (p : Packet) : Check :=
  if p.effTick = 0 then .ok
  else if !s.clock.loaded then .fail 0x03 (s.up.dev.code + 256 * (if s.clock.heard then 2 else 1))
  else match op.eff with
    | .d => .fail 0x11 16
    | .tick => .fail 0x11 16
    | e =>
      if p.effTick < s.clock.tick + e.lead then .fail 0x40 (s.clock.tick + e.lead)
      else if s.clock.tick + 16777216 < p.effTick then .fail 0x11 16
      else .ok

/-- The owning chapter states how two commands on one object combine: UNIT_ENABLE waits for the drain of a UNIT_DISABLE (R490). -/
def combines (opcode earlier : Nat) : Bool := opcode == 0x0905 && earlier == 0x0904

/-- Check 9 (R115): no object reserved by another command. Queries reserve nothing. -/
def State.checkReserved (s : State) (op : HostOp) (p : Packet) (slot : Nat) : Check :=
  let mine := op.reserves p s
  needRight (!s.host.cmds.any (fun c => !combines op.opcode c.pkt.opcode && c.reserves.any (fun o => mine.contains o))) 5 slot

/-- Commands held for a tick they name, or queued behind a drain (R69, R116). -/
def State.heldCount (s : State) : Nat :=
  (s.host.cmds.filter (fun c => (c.phase == .timed && c.pkt.effTick != 0) || c.phase == .drain)).length

/-- The command would be held: for its tick, or behind a drain (R69, R116). -/
def State.wouldWait (s : State) (op : HostOp) (p : Packet) : Bool :=
  p.effTick != 0 || (bit p.flags 0 && (match op.target p s with
    | .drain _ => true
    | _ => false))

/-- Check 10: the pending limit of R69 for a command to be held, then the opcode's own resources. -/
def State.checkResources (s : State) (op : HostOp) (p : Packet) : Check :=
  (if s.wouldWait op p ∧ 4096 ≤ s.heldCount then Check.fail 0x12 1 else .ok).and (op.resources p s)

/-! ### Execution -/

/-- Run the effect of an accepted command now and post its final record when it is done. A command with a tick of its own takes effect in the
tick in which it runs, however long its record waits (R65, R66). -/
def State.runCmd (s : State) (op : HostOp) (id : Nat) : State :=
  match s.cmd id with
  | none => s
  | some c =>
    let s1 := s.modCmd id (fun d => { d with
      phase := .running, begun := true, effect := if c.pkt.effTick = 0 then d.effect else some s.tickNow })
    let (s2, f) := op.apply c.pkt id s1
    match f with
    | .running => s2
    | .done st d r =>
      if st = 0 ∧ c.endStatus ≠ 0 then s2.endCmd id c.endStatus c.endDetail r else s2.endCmd id st d r

/-- The number of a new command: the next one, beyond every number in use. -/
def State.freshCmd (s : State) : Nat := s.host.cmds.foldl (fun n c => max n (c.id + 1)) s.host.nextCmd

/-- A new entry for an accepted command. -/
def State.addCmd (s : State) (op : HostOp) (p : Packet) (slot : Nat) (phase : CmdPhase) (due : Nat)
    (twin : Option Packet := none) : State × Nat :=
  let id := s.freshCmd
  let c : Cmd := {
    id := id, pkt := p, master := slot, phase := phase, since := s.clock.now, due := due,
    reserves := (match phase with
      | .signature _ _ => []
      | _ => op.reserves p s), twinPkt := twin }
  ({ s with host := { s.host with cmds := s.host.cmds ++ [c], nextCmd := id + 1 } }, id)

/-- Checks 7 to 11, in order (R106). -/
def State.lateChecks (s : State) (op : HostOp) (p : Packet) (slot : Nat) : Check :=
  checks [s.checkTick op p, op.params p slot s, s.checkReserved op p slot, s.checkResources op p, op.target p s]

/-- Without an effective tick the command waits 3 ticks for its agents, which are told of the tick (R66, R67); one whose effect needs no
agent to be told takes effect on dispatch. -/
def HostOp.waitsForAgents (op : HostOp) : Bool := op.eff == .ea && !op.atOnce

/-- A command that passed every check is accepted: it runs now, or waits for its tick or its agents (R66 to R69). -/
def State.accept (s : State) (op : HostOp) (p : Packet) (slot : Nat) (twin : Option Packet := none) : State :=
  let due := if p.effTick ≠ 0 then s.instantOf p.effTick
    else if op.waitsForAgents then s.clock.now + 3 else s.clock.now
  let (s1, id) := s.addCmd op p slot .timed due twin
  let s2 := op.start p id s1
  if p.effTick ≠ 0 then s2.postPending id p.effTick
  else if op.waitsForAgents then s2
  else s2.runCmd op id

/-- Post a failing or other final record for a packet that was not accepted. -/
def State.reject (s : State) (p : Packet) (status detail : Nat) : State := s.finishPacket p status detail 0 []

/-- End every co-sign hold because the change counter advanced (R105). -/
def State.dropHolds (s : State) : State :=
  let held := s.host.cmds.filter (fun c => match c.phase with
    | .signature _ _ => true
    | _ => false)
  held.foldl (fun t c => t.endCmd c.id 0x40 0) s

/-- Append to the security log (R587). -/
def State.secLog (s : State) (kind opcode signers job : Nat) (subject : Bytes) : State :=
  let prev := match s.sec.log.getLast? with
    | none => zeros 32
    | some r => field (Config.shake256 (toLe 8 r.index ++ toLe 3 r.pcycle ++ toLe 1 r.kind ++ toLe 6 r.tick
        ++ toLe 2 r.opcode ++ toLe 1 r.signers ++ zeros 1 ++ toLe 2 r.job ++ toLe 8 r.change ++ field r.subject 0 32
        ++ field r.chain 0 32) 32) 0 32
  let rec_ : SecRec := {
    index := s.sec.logNext, pcycle := s.up.pcycle, kind := kind, tick := s.tickNow, opcode := opcode,
    signers := signers, job := job, change := s.changeCounter, subject := field subject 0 32, chain := prev }
  let log := lastN 65536 (s.sec.log ++ [rec_])
  { s with sec := { s.sec with
      log := log
      logNext := s.sec.logNext + 1
      logFirst := max s.sec.logFirst (s.sec.logNext + 1 - 65536) } }

/-- A command's last required signature is accepted: the change counter advances, its release is logged, the other holds
end (R101, R105, R565). -/
def State.release (s : State) (op : HostOp) (p : Packet) (signers : List Nat) : State :=
  let s1 := { s with host := { s.host with signed := (s.host.signed + 1) % 2 ^ 40 } }
  let s2 := s1.dropHolds
  if op.cosign = .oc ∨ op.cosign = .p then
    s2.secLog 1 p.opcode (flag (signers.contains 1) + 2 * flag (signers.contains 2)) p.job p.digest
  else s2

/-- Checks 7 to 11, then acceptance, the drain queue or a failing record (R106, R116). -/
def State.takeIn (s : State) (op : HostOp) (p : Packet) (slot : Nat) (twin : Option Packet := none) : State :=
  match s.lateChecks op p slot with
  | .ok => s.accept op p slot twin
  | .fail st d =>
    let s1 := match twin with
      | none => s
      | some q => s.finishPacket q st d 0 [] false (keepFor q p)
    s1.reject p st d
  | .drain n =>
    if bit p.flags 0 then
      let due := if p.effTick ≠ 0 then s.instantOf p.effTick else s.clock.now
      let (s1, id) := s.addCmd op p slot .drain due twin
      s1.postPending id 0
    else
      let s1 := match twin with
        | none => s
        | some q => s.finishPacket q 0x02 n 0 [] false (keepFor q p)
      s1.reject p 0x02 n

/-- The hold that carries a digest, before the marker of its expiry (R103). -/
def State.holdOf (s : State) (digest : Bytes) : Option Cmd :=
  s.host.cmds.find? (fun c => c.pkt.digest == digest && (match c.phase with
    | .signature _ expiry => decide (s.clock.now < expiry)
    | _ => false))

/-- Holds end at the marker of their expiry tick (R103, R105). -/
def State.expireHolds (s : State) : State :=
  (s.host.cmds.filter (fun c => match c.phase with
    | .signature _ expiry => decide (expiry ≤ s.clock.now)
    | _ => false)).foldl (fun t c => t.endCmd c.id 0x50 0) s

/-- One valid signature of two: complete the hold of the other credential, refuse a repeat, or hold (R103, R104). -/
def State.holdOrComplete (s : State) (op : HostOp) (p : Packet) (slot cred : Nat) : State :=
  match s.holdOf p.digest with
  | some c =>
    match c.phase with
    | .signature a _ =>
      if a = cred then s.reject p 0x21 (missingMask [1, 2] [cred])
      else
        let s1 := { s with host := { s.host with cmds := s.host.cmds.filter (fun d => d.id != c.id) } }
        (s1.release op p [1, 2]).takeIn op p slot (some c.pkt)
    | _ => s
  | none =>
    let holds := s.host.cmds.filter (fun c => match c.phase with
      | .signature _ _ => true
      | _ => false)
    if 16 ≤ holds.length then s.reject p 0x12 1
    else
      let (s1, id) := s.addCmd op p slot (.signature cred (s.clock.now + 3750000)) s.clock.now
      s1.postPending id (s.nameTick 3750000)

/-- Checks 3 to 6, then the rest (R106). -/
def State.submit (s : State) (op : HostOp) (p : Packet) : State :=
  let slot := s.masterOf p.port p.ring
  match checks [s.checkHeader op p, s.checkState op, s.checkAccess op p slot] with
  | .fail st d => s.reject p st d
  | .drain _ => s
  | .ok =>
    match s.checkSigs op p slot with
    | .free => s.takeIn op p slot
    | .full signers => (s.release op p signers).takeIn op p slot
    | .half cred => s.holdOrComplete op p slot cred
    | .bad (.fail st d) => s.reject p st d
    | .bad _ => s

/-- A packet reaches its checks only from an ACTIVE ring of a port that runs, in a state in which rings run, while the leader
core is good (R18, R82, R93, R112). -/
def State.ringRuns (s : State) (p : Packet) : Bool :=
  (s.ring p.port p.ring).state == .active && !(s.ring p.port p.ring).stopping && !(s.hostPort p.port).perst
    && !(s.unitStatus 4 p.port).lost && s.unitGood 1 s.faults.leader && (match s.up.dev with
      | .off | .boot | .stage1 | .stage2 | .halt => false
      | _ => true)

/-- Commands that the leader core may still dispatch in this tick (R72), half as many with exactly two good cores (R19). -/
def State.dispatchLeft (s : State) : Nat :=
  (if s.goodCount 1 = 2 then 128 else 256) * s.clock.period / 16 - s.host.dispatched

/-- A ring may be fetched from: it runs, nothing of R88, R89 and R94 delays it. Beside the records that R89 names, one is left for every
ST_PENDING that an outstanding command may still post, so that no record is ever overwritten (R89, R110; DESIGN CHOICE, log entry 241). -/
def State.mayFetch (s : State) (p r : Nat) : Bool :=
  let x := s.ring p r
  s.ringRuns { port := p, ring := r } && decide (0 < s.dispatchLeft) && decide (s.outstanding p r < 4096)
    && decide (s.promised p r + 2 ≤ x.freeRecords)
    && (r != 0 || (s.hostPort p).orphans == [])

/-- Packets of a ring that wait behind an ORD packet, oldest first (R114). -/
def State.orderedOf (s : State) (p r : Nat) : List Cmd :=
  s.host.cmds.filter (fun c => c.pkt.port == p && c.pkt.ring == r && c.phase == .ordered)

/-- A packet waits behind earlier ones of its ring: an ORD packet until each has its final record, later packets behind it (R114). -/
def State.waitsBehind (s : State) (p : Packet) : Bool :=
  s.orderedOf p.port p.ring != [] || (bit p.flags 1 && s.outstanding p.port p.ring != 0)

/-- It is kept, not yet checked. -/
def State.keepOrdered (s : State) (p : Packet) : State :=
  { s with host := { s.host with
      nextCmd := s.freshCmd + 1
      cmds := s.host.cmds ++ [{
        id := s.freshCmd, pkt := p, master := s.masterOf p.port p.ring, phase := .ordered, since := s.clock.now
        due := s.clock.now }] } }

/-- A dispatch is counted against the budget of the tick (R72). -/
def State.countDispatch (s : State) : State :=
  { s with host := { s.host with dispatched := s.host.dispatched + 1 } }

/-- A command row: the packet, its opcode being the row's, is checked and executed as a fetched packet is once check 1 has passed; nothing
happens where no packet can be fetched (R72, R88, R89, R93, R112). -/
def State.command (s : State) (op : HostOp) (p : Packet) : State :=
  let q := { p with opcode := op.opcode }
  if s.mayFetch q.port q.ring then
    let t := s.countDispatch.selvedgeSpend { ver := q.nsig }
    if s.waitsBehind q then t.keepOrdered q else t.submit op q
  else s

/-- Rights, drain conditions and expiry are looked at again when a held command would begin (R327); then it runs. -/
def State.begin (s : State) (op : HostOp) (id : Nat) : State :=
  match s.cmd id with
  | none => s
  | some c =>
    if !c.begun && !s.hasRight op c.master then s.endCmd id 0x20 (1 + 256 * c.master)
    else s.runCmd op id

end Sys2Proof.Machine
end

