-- ==== Sys2Proof/Machine/Mirror.lean ====
section
/-! DEFINITION. What a PRIMARY sends its twin (spec 19_twin_and_peers R648 to R653), how messages between Geneels are checked
(R663), and the messages to agents that several chapters send. -/

namespace Sys2Proof.Machine

open Sys2Proof

/-- An object of the mirror image takes new data (R653). -/
def State.imageObject (s : State) (kind obj : Nat) (data : Bytes) (tick : Nat) : State :=
  if kind = 0 then s
  else
  let x : Mirrored := { kind := kind, obj := obj, data := data, at_ := s.clock.now + (tick - s.clock.tick) }
  { s with twin := { s.twin with image := s.twin.image.filter (fun m => !(m.kind == kind && m.obj == obj)) ++ [x] } }

/-- The MIRROR_DELTA of a delta, on the M port chosen for it (R648, R649). Its data are sent when the change is made, and each delta is marked the
last of its tick (DESIGN CHOICE, log entry 261). -/
def State.deltaMsg (s : State) (d : Delta) : Msg :=
  { s.msgTo s.twinAddr 0x70 (toLe 4 d.seq ++ toLe 6 d.tick ++ toLe 1 d.kind ++ toLe 1 (flag d.last) ++ toLe 4 d.obj ++ d.data) 0x20 with
      port := some d.port }

/-- The PRIMARY mirrors a change: a MIRROR_DELTA with the next sequence, alternating over the M ports that are UP (R648 to
R650), and the image holds it for a resync. Without an assigned role nothing is mirrored; in SINGLE a delta is not sent, the twin
being absent (R653). -/
def State.mirrorDelta (s : State) (kind obj : Nat) (data : Bytes := []) (tick : Nat := 0) : State :=
  let s := if s.isPrimary then s.imageObject kind obj (data.take 192) tick else s
  if s.isPrimary ∧ (s.twin.mirror = .inSync ∨ s.twin.mirror = .resync) then
    let t := if tick = 0 then s.tickNow else tick
    let up (p : Nat) : Bool := (s.port p).link.state == .up
    let other := if s.twin.lastPort = 36 then 37 else 36
    let port := if up other then other else s.twin.lastPort
    let d : Delta := {
      seq := s.twin.nextSeq, tick := t, kind := kind, last := true, obj := obj, data := data.take 192, at_ := s.clock.now, port := port }
    let s1 := s.send (s.deltaMsg d)
    { s1 with twin := { s1.twin with
        nextSeq := (s1.twin.nextSeq + 1) % 2 ^ 32, unacked := s1.twin.unacked ++ [d], lastPort := port } }
  else s

/-- Master slot of a Geneel that sends a message (R320): TWIN for the twin, PEER for a listed peer; this Geneel itself is
not checked. -/
def State.senderSlot (s : State) (src : Nat) : Option Nat :=
  if src = s.twinAddr then some 2
  else if s.twin.peers.any (fun p => 0xF000 + p.id == src) then some (8 + (src - 0xF000))
  else none

/-- The sender's slot holds the class a message needs (R663). -/
def State.senderMay (s : State) (src cls : Nat) : Bool :=
  src == s.ownAddr || (match s.senderSlot src with
    | some slot => (s.master slot).classes.getLsbD cls && (s.master slot).write
    | none => false)

/-- A message of a Geneel is discarded and recorded unless its sender's slot holds the class (R663, R711); `type` is its TYPE, 0
for a message to which the spec gives none. -/
def State.fromGeneel (s : State) (src cls type : Nat) (act : State → State) : State :=
  if s.senderMay src cls then act s
  else if 0xF000 ≤ src ∧ src ≤ 0xF03F then
    s.fault { source := src, code := 0x2E, key := type + 256 * cls + 65536 * (s.senderSlot src).getD 0xFF }
  else s

/-- Listed peers but this Geneel, by address (R659). -/
def State.peerAddrs (s : State) : List Nat :=
  (s.twin.peers.map (fun p => 0xF000 + p.id)).filter (fun a => a != s.ownAddr)

/-- A Geneel is healthy as this one sees it (R49, R661). -/
def State.healthyId (s : State) (id : Nat) : Bool :=
  if id = s.ownId then s.up.dev.healthy
  else s.twin.peers.any (fun p => p.id == id && !p.absent && 7 ≤ p.dev && p.dev ≤ 9)

/-- Role of a Geneel as this one knows it, PRIMARY being 0. -/
def State.primaryId (s : State) (id : Nat) : Bool :=
  if id = s.ownId then s.isPrimary else s.twin.peers.any (fun p => p.id == id && p.role == 0)

/-- The Geneels of the machine as listed, this one included, ascending. -/
def State.machineIds (s : State) : List Nat :=
  if s.twin.peers.any (fun p => p.id == s.ownId) then s.twin.peers.map Peer.id else sortBy id (s.ownId :: s.twin.peers.map Peer.id)

/-- The bolts of the machine, ascending. -/
def State.machineBolts (s : State) : List Nat := (s.machineIds.map (· / 2)).eraseDups

/-- The PRIMARY of a bolt as this Geneel knows it; its even Geneel where none is known. -/
def State.primaryOf (s : State) (bolt : Nat) : Nat :=
  0xF000 + (if s.primaryId (2 * bolt) then 2 * bolt else if s.primaryId (2 * bolt + 1) then 2 * bolt + 1 else 2 * bolt)

/-- The coordinator: the tick master (R264). This Geneel itself while it follows none. -/
def State.coordinator (s : State) : Nat := 0xF000 + (if s.clock.master = 0xFF then s.ownId else s.clock.master)

/-- Record a timed action sent to an agent with the twin, kind 11, before the message (R650): its data are the destination,
the type and the body. -/
def State.mirrorAction (s : State) (dst type : Nat) (body : Bytes) (tick : Nat) : State :=
  s.mirrorDelta 11 s.mail.nextMsg (toLe 2 dst ++ toLe 1 type ++ body) tick

/-- Send a request to an agent whose reply is awaited (R118, R161). -/
def State.ask (s : State) (dst type : Nat) (body : Bytes) (cmd : Option Nat := none) (purpose : Nat := 0) : State :=
  s.send (s.msgTo dst type body) true cmd purpose

/-- Send a TABLE_WRITE to an agent, the bank images mirrored with it (R650 kind 2): the message's number, and the state after. -/
def State.writeBank (s : State) (dst : Nat) (body : Bytes) (purpose : Nat) : Nat × State :=
  let t := s.mirrorDelta 2 dst body
  (t.mail.nextMsg, t.ask dst 0x04 body none purpose)

/-- The serials that a bolt has retired are mirrored (R650 kind 5). -/
def State.mirrorRetired (s : State) : State :=
  s.mirrorDelta 5 0x10000 ((lastN 21 s.access.retired).flatMap (fun e => toLe 1 e.1 ++ toLe 8 e.2))

/-- Send a request for a command, which then waits for the reply (R118). -/
def State.askFor (s : State) (id dst type : Nat) (body : Bytes) (purpose : Nat := 0) : State :=
  s.sendFor id (s.msgTo dst type body) purpose

end Sys2Proof.Machine
end

