-- ==== Sys2Proof/Machine/KeyOps.lean ====
section
/-! DEFINITION. Keys and agent attestation as several chapters use them (spec 16_selvedge_security R569 to R583, spec
05_agent_protocol R171, R176, R192, R193): certificates, evidence, the agent session, key generation and delivery. -/

namespace Sys2Proof.Machine

open Sys2Proof

/-- Draw random bytes of Selvedge (R549). -/
def State.randomBytes (s : State) (n : Nat) : State × Bytes :=
  let (s1, k) := s.draw
  (s1, field (Config.freeBytes k n) 0 n)

/-- Ask an agent over a path (R163, R173): source-routed, body after the route block; encrypted to an agent that holds the
job 0 link key. The address asked about, which the flits do not carry, is kept with the purpose. -/
def State.askPath (s : State) (path : List Nat) (type : Nat) (body : Bytes) (p : Purpose) (addr : Nat := 0xFFFF) :
    State :=
  s.send { s.msgTo addr type (s.routed path body) with dst := 0xFFFF } true none (p.code + 256 * addr)

/-- The number the next message will take, by which its reply is matched. -/
def State.nextId (s : State) : Nat := s.mail.nextMsg % 2 ^ 32

/-! ### Attestation of an agent (R212, R569 to R571) -/

/-- The CERT messages: intermediate and device certificate under one session nonce (R569). -/
def State.startAttest (s : State) (addr serial : Nat) (path : List Nat) : State :=
  let (s1, nonce) := s.randomBytes 32
  let body (i : Nat) (cert : String) : Bytes :=
    toLe 1 2 ++ toLe 1 i ++ toLe 1 2 ++ nonce ++ zeros 2 ++ field (Config.partBytes cert) 0 3144
  let s2 := s1.askPath path 0x01 (body 0 "intermediate certificate") .cert0 addr
  let s3 := s2.askPath path 0x01 (body 1 "device certificate") .cert1 addr
  { s3 with sec := { s3.sec with attesting := s3.sec.attesting.filter (fun a => a.serial != serial) ++ [{
      addr := addr, serial := serial, path := path, nonce := nonce, cert0 := s1.nextId, cert1 := s2.nextId, since := s.clock.now }] } }

/-- The measurement satisfies the key policy (R214, R568, R572). -/
def KeyPolicy.accepts (k : KeyPolicy) (measurement : Bytes) : Bool := k.digests == [] || k.digests.contains measurement

/-- Selvedge's checks before SESSION (R571): certificate, serial, evidence, nonce, measurement, version. -/
def State.evidenceGood (s : State) (serial ver : Nat) (measurement nonce cert evidence : Bytes) : Bool :=
  match chainKey cert with
  | none => false
  | some key =>
    let signed := field evidence 0 1640
    le cert 2 1 == 3 && le cert 4 8 == serial
      && falconVerify key (shake32 (ascii "GN7AGEV3" ++ toLe 8 serial ++ signed)) (field evidence 1640 1280)
      && field evidence 1568 32 == nonce && field evidence 1600 32 == field measurement 0 32
      && s.sec.policy.keys.accepts (field measurement 0 32) && decide (s.sec.policy.keys.minVersion ≤ ver)

/-- SESSION (R171, R571): encapsulation to the agent's key, signed by the device key; the agent session key is derived
(R176). -/
def State.startSession (s : State) (addr serial : Nat) (path : List Nat) (kemKey : Bytes) : State :=
  let (s1, n) := s.draw
  let (ct, secret) := Config.kemEncap kemKey n
  let (s2, k) := s1.draw
  let ct := field ct 0 1568
  let sig := field (Config.falconSign "device" (shake32 ct) k) 0 1280
  let key := field (Config.shake256 (ascii "GN7AGSK3" ++ secret ++ toLe 8 serial ++ toLe 2 s.ownAddr) 32) 0 32
  let s3 := s2.askPath path 0x01 (toLe 1 3 ++ ct ++ sig) .session addr
  { s3 with sec := { s3.sec with
      sessions := kvSet s3.sec.sessions addr key
      attesting := s3.sec.attesting.map (fun a =>
        if a.serial = serial then { a with session := some s2.nextId } else a) } }

/-! ### Keys -/

/-- Slot of a generation (R576). -/
def slotOf (generation : Nat) : Nat := generation % 2

/-- The key of a job, kind and generation that this Geneel holds (R576). -/
def State.heldKey (s : State) (job kind generation : Nat) : Option HeldKey :=
  s.sec.keys.find? (fun k => k.job == job && k.kind == kind && k.generation == generation)

/-- The key in force of a job and kind (R576). -/
def State.currentKey (s : State) (job kind : Nat) : Option HeldKey :=
  s.sec.keys.find? (fun k => k.job == job && k.kind == kind && k.current)

/-- Hold a key, replacing the one of the same slot (R576). -/
def State.holdKey (s : State) (k : HeldKey) : State :=
  let s1 := if k.current ∧ k.kind = 0 then s.reslot k.job (slotOf k.generation) else s
  { s1 with sec := { s1.sec with keys := s1.sec.keys.filter (fun j =>
      !(j.job == k.job && j.kind == k.kind && slotOf j.generation == slotOf k.generation)) ++ [k] } }

/-- KEY_INSTALL of a key at an agent that holds a session (R192): sealed under the agent session key, nonce TOKEN and MSGID,
bytes 0 to 7 as additional data. -/
def State.keyInstall (s : State) (addr : Nat) (k : HeldKey) (cmd : Option Nat) (p : Purpose) : State :=
  let head := toLe 2 k.job ++ toLe 1 k.kind ++ toLe 1 (slotOf k.generation) ++ toLe 2 k.generation ++ zeros 2
  let nonce := toLe 8 s.twin.token ++ toLe 4 s.nextId
  let sk := (kvGet s.sec.sessions addr).getD []
  let body := head ++ field (Config.gcmEncrypt sk nonce k.key) 0 32 ++ field (Config.gcmTag sk nonce head k.key) 0 16
  match cmd with
  | none => s.ask addr 0x09 body none p.code
  | some id => s.askFor id addr 0x09 body p.code

/-- KEY_SWITCH or KEY_ERASE of a slot at a tick (R193), mirrored as a timed action. -/
def State.keyAct (s : State) (type addr job kind slot tick : Nat) (p : Purpose) : State :=
  let body := toLe 2 job ++ toLe 1 kind ++ toLe 1 slot ++ zeros 2 ++ toLe 6 tick
  (s.mirrorAction addr type body tick).ask addr type body none p.code

/-- KEY_XFER to a peer or the twin that holds a peer session (R574 to R576). -/
def State.keyXfer (s : State) (dst : Nat) (k : HeldKey) : State :=
  match (s.twin.peers.find? (fun p => 0xF000 + p.id == dst)).bind Peer.session with
  | none => s
  | some sk =>
    let head := toLe 2 k.job ++ toLe 1 k.kind ++ zeros 1 ++ toLe 2 k.generation ++ zeros 2
    let nonce := toLe 4 s.nextId ++ zeros 8
    s.send (s.msgTo dst 0x69 (head ++ field (Config.gcmEncrypt sk nonce k.key) 0 32
      ++ field (Config.gcmTag sk nonce head k.key) 0 16))

/-- The state of a generation is mirrored (R650 kind 10): 0 held, 1 in force, 2 erased. -/
def State.mirrorKey (s : State) (k : HeldKey) (state : Nat) : State :=
  s.mirrorDelta 10 (k.job * 2 + k.kind) (toLe 2 k.generation ++ toLe 1 state)

/-- The key owner generates a generation and holds it (R576), staged for an instant or in force (R78), and mirrors its number (R650 kind
10). -/
def State.newKey (s : State) (job kind generation : Nat) (current : Bool) (tag : Option Nat := none) : State × HeldKey :=
  let (s1, key) := s.randomBytes 32
  let k : HeldKey := {
    job := job, kind := kind, generation := generation, key := key, current := current, since := s.clock.now, used := current
    tag := tag }
  ((s1.holdKey k).mirrorKey k 0, k)

/-- Erase a generation here, or every one. A staged key that has never been in force is erased unused, which counts as a discarded result
(R79, R80). -/
def State.eraseKey (s : State) (job kind : Nat) (gone : HeldKey → Bool) : State :=
  let mine (k : HeldKey) : Bool := k.job == job && k.kind == kind && gone k
  let s1 := (s.sec.keys.filter (fun k => mine k && !k.used)).foldl (fun t _ => t.countRunAhead job 5 false)
    { s with sec := { s.sec with keys := s.sec.keys.filter (fun k => !mine k) } }
  (s.sec.keys.filter mine).foldl (fun t k => t.mirrorKey k 2) s1

/-- A node holds a job's key (R577). -/
def State.addHolder (s : State) (job kind addr : Nat) : State :=
  let h : KeyHolder := { job := job, kind := kind, addr := addr }
  if s.sec.holders.contains h then s else { s with sec := { s.sec with holders := s.sec.holders ++ [h] } }

/-- KEY_XFER to a serving Geneel with which a session is held; it holds the key then (R576, R577). -/
def State.giveKey (s : State) (dst : Nat) (k : HeldKey) : State :=
  if (s.twin.peers.find? (fun p => 0xF000 + p.id == dst)).any (fun p => p.session.isSome) then
    (s.keyXfer dst k).addHolder k.job k.kind dst
  else s

/-- Nodes that hold a job's key of a kind (R577). -/
def State.holdersOf (s : State) (job kind : Nat) : List Nat :=
  (s.sec.holders.filter (fun h => h.job == job && h.kind == kind)).map KeyHolder.addr

/-- Erase the keys of a job at nodes that leave it, for the earliest tick (R193, R315, R578). The slot in use cannot be erased:
each node is switched to the other slot for the same tick first (DEDUCED). -/
def State.eraseAt (s : State) (job kind : Nat) (addrs : List Nat) : State :=
  let ks := sortBy (fun k => flag k.current) (s.sec.keys.filter (fun k => k.job == job && k.kind == kind))
  let hs := (s.holdersOf job kind).filter (fun a => addrs.contains a && a < 0xF000)
  let s1 := (hs.flatMap (fun a => ks.map (fun k => (a, k)))).foldl (fun t e =>
    let slot := slotOf e.2.generation
    let t1 := if e.2.current then t.keyAct 0x0A e.1 job kind (1 - slot) (t.nameTick 3) .keySwitch else t
    t1.keyAct 0x0B e.1 job kind slot (t1.nameTick 3) .keyErase) s
  { s1 with sec := { s1.sec with holders := s1.sec.holders.filter (fun h =>
      !(h.job == job && h.kind == kind && addrs.contains h.addr)) } }

end Sys2Proof.Machine
end

