-- ==== Sys2Proof/Machine/Topology.lean ====
section
/-! DEFINITION. The topology record (spec 06_discovery R223 to R236, R241, R247): sections, records and their bytes, link
updates, and how a change reaches the twin and the peers. -/

namespace Sys2Proof.Machine

open Sys2Proof

/-- A bolt's section; an unknown one is empty (R227). -/
def State.boltSection (s : State) (b : Nat) : TopoSection :=
  (s.fabric.sections.find? (fun x => x.bolt == b)).getD { bolt := b }

/-- The section of this Geneel's own bolt. -/
def State.ownSection (s : State) : TopoSection := s.boltSection s.up.bolt

/-- Replace a section, sections kept in ascending order of bolts. -/
def State.putSection (s : State) (x : TopoSection) : State :=
  { s with fabric := { s.fabric with
      sections := insertBy TopoSection.bolt (s.fabric.sections.filter (fun y => y.bolt != x.bolt)) x } }

/-- A node of a section by address. -/
def TopoSection.node (x : TopoSection) (a : Nat) : Option TopoNode :=
  x.nodes.find? (fun n => n.addr == a && !n.retired)

/-- A node of a section by serial (R221). -/
def TopoSection.bySerial (x : TopoSection) (serial : Nat) : Option TopoNode := x.nodes.find? (fun n => n.serial == serial)

/-- Insert or replace a node record, by serial; records in ascending address order. -/
def TopoSection.putNode (x : TopoSection) (n : TopoNode) : TopoSection :=
  { x with nodes := insertBy TopoNode.addr (x.nodes.filter (fun m => m.serial != n.serial)) n }

/-- A link record. -/
def TopoSection.link (x : TopoSection) (src sport : Nat) : Option TopoLink :=
  x.links.find? (fun l => l.src == src && l.sport == sport)

/-- Insert or replace a link record, ascending address and port. -/
def TopoSection.putLink (x : TopoSection) (l : TopoLink) : TopoSection :=
  { x with
      links := insertBy (fun k => k.src * 256 + k.sport)
        (x.links.filter (fun k => !(k.src == l.src && k.sport == l.sport))) l }

/-- Report an item: up to 4,096 stored, all counted (R231). DESIGN CHOICE (log entry 230): a walk's command empties the report when it starts, so
that the report is that of the last one (R211), with the items that trees have added since. -/
def TopoSection.item (x : TopoSection) (i : TopoItem) : TopoSection :=
  { x with items := if x.items.length < 4096 then x.items ++ [i] else x.items, itemCount := min 65535 (x.itemCount + 1) }

/-- The bolt of a fabric address (R9, R216, R218). -/
def boltOf (a : Nat) : Nat :=
  if a < 0x8000 then a / 1024
  else if a < 0xA000 then (a - 0x8000) / 256
  else if a < 0xA080 then (a - 0xA000) / 4
  else if 0xE000 ≤ a ∧ a < 0xE400 then (a - 0xE000) / 32
  else (a - 0xF000) / 2

/-- A delta is kept while a solve runs: at most 16 generations of a section (R266). One more during the call holds this solver out. -/
def State.keepDelta (s : State) (d : SectionDelta) : State := match s.fabric.solve with
  | none => s
  | some v =>
    if v.begun then s
    else if 16 ≤ (s.fabric.keptDeltas.filter (fun e : SectionDelta => e.bolt == d.bolt)).length then
      { s with fabric := { s.fabric with solve := some { v with overrun := true } } }
    else { s with fabric := { s.fabric with keptDeltas := s.fabric.keptDeltas ++ [d] } }

/-- The own section has changed whole, from `old` to `new`: the twin gets it over the mirror link and every listed peer gets the delta
(R232, R233). -/
def State.sendSection (s : State) (old new : TopoSection) : State :=
  let delta : SectionDelta := {
    bolt := new.bolt, gen := new.gen, tick := new.tick
    nodes := new.nodes.filter (fun n => !old.nodes.contains n)
    gone := (old.nodes.map TopoNode.addr).filter (fun a => !(new.nodes.any (fun n => n.addr == a)))
    links := new.links.filter (fun l => !old.links.contains l), items := new.items, itemCount := new.itemCount }
  let dsts := if s.isPrimary then s.peerAddrs.filter (fun a => a != s.twinAddr) else []
  let s2 := { s with fabric := { s.fabric with
      sentDeltas := s.fabric.sentDeltas ++ dsts.map (fun a => (a, delta)) } }
  (s2.keepDelta delta).mirrorDelta 1 new.bolt (toLe 4 new.gen ++ toLe 6 new.tick)

/-- The own section as it stood at the last completed change: what a walk has changed so far is not in it (R210). -/
def State.shownSection (s : State) : TopoSection := s.fabric.walk.before.getD s.ownSection

/-- Every section as it stands; what a walk has changed so far is in none (R210). -/
def State.shownSections (s : State) : List TopoSection := match s.fabric.walk.before with
  | none => s.fabric.sections
  | some x => s.fabric.sections.map (fun y => if y.bolt = x.bolt then x else y)

/-- The section changed at this marker: generation and tick advance (R232). While a walk runs, both what it works on and what is shown
change. -/
def State.changeSection (s : State) (f : TopoSection → TopoSection) : State :=
  let old := s.shownSection
  let next (x : TopoSection) : TopoSection := { f x with gen := (old.gen + 1) % 2 ^ 32, tick := s.tickNow }
  let s1 := s.putSection (next s.ownSection)
  let s2 := { s1 with fabric := { s1.fabric with walk := { s1.fabric.walk with before := s1.fabric.walk.before.map next } } }
  s2.sendSection old (next old)

/-- The walk's change is complete: it is shown from now on, as one change (R210, R232). -/
def State.publishSection (s : State) (f : TopoSection → TopoSection) : State :=
  let old := s.shownSection
  let new : TopoSection := { f s.ownSection with gen := (old.gen + 1) % 2 ^ 32, tick := s.tickNow }
  let s1 := s.putSection new
  State.sendSection { s1 with fabric := { s1.fabric with walk := { s1.fabric.walk with before := none } } } old new

/-! ### What Damask may route (R202, R214, R241) -/

/-- A node is eligible under R202 and R214. -/
def nodeEligible (n : TopoNode) : Bool :=
  !n.retired && n.addr != 0xFFFF
    && (n.kind == 4 || (n.kind != 3 && (n.attest == 1 || (n.attest == 3 && 2 ≤ n.ver))))

/-- A switch, or one of its ports: 0xFF names all of them (R598). -/
def hitsLink (a q : Nat) (l : TopoLink) : Bool :=
  (l.src == a && (q == 0xFF || l.sport == q)) || (l.dst == a && (q == 0xFF || l.dport == q))

/-- A fence keeps a link of the bolt from being ROUTABLE (R598). -/
def State.linkFenced (s : State) (l : TopoLink) : Bool := s.faults.unroutable.any (fun e => hitsLink e.1 e.2 l)

/-- A node of any section by address. -/
def findNode (sections : List TopoSection) (a : Nat) : Option TopoNode :=
  (sections.find? (fun x => x.bolt == boltOf a)).bind (fun x => x.node a)

/-- Damask routes over a directed link (R241): the records alone say so (R260). -/
def linkUsable (sections : List TopoSection) (l : TopoLink) : Bool :=
  l.routable && l.lstate == 2 && decide (2 ≤ l.width) &&
  (match findNode sections l.src, findNode sections l.dst with
    | some u, some v => nodeEligible u && nodeEligible v && (u.kind == 2 || v.kind == 2)
    | _, _ => false)

/-- Usable links of this bolt's section as shown, (source, port, width). -/
def State.usableOwn (s : State) : List (Nat × Nat × Nat) :=
  (s.shownSection.links.filter (fun l => linkUsable s.shownSections l)).map (fun l => (l.src, l.sport, l.width))

/-! ### Bytes of the record -/

/-- A node has a narrow or fenced link (R228). -/
def TopoSection.nodeDegr (x : TopoSection) (a : Nat) : Bool :=
  x.links.any (fun l => l.src == a && (l.degr || l.lstate == 4))

/-- The 32 bytes of a node record (R228). -/
def TopoSection.nodeBytes (x : TopoSection) (n : TopoNode) : Bytes :=
  let first := (x.links.findIdx? (fun l => l.src == n.addr)).getD 0
  let count := (x.links.filter (fun l => l.src == n.addr)).length
  toLe 16 (n.addr + 2 ^ 16 * n.serial + 2 ^ 80 * n.kind + 2 ^ 83 * n.ver + 2 ^ 87 * n.agState + 2 ^ 90 * n.attest
      + 2 ^ 92 * flag n.spare + 2 ^ 93 * flag (x.nodeDegr n.addr) + 2 ^ 94 * n.rack + 2 ^ 100 * n.shelf
      + 2 ^ 107 * n.level + 2 ^ 112 * n.ports)
    ++ toLe 16 (first + 2 ^ 20 * min 255 count + 2 ^ 32 * n.tick + 2 ^ 80 * n.combine + 2 ^ 96 * n.step)

/-- TOPO.LINK.RETRAINS: retrains in the last hour (R229). -/
def State.retrainCount (s : State) (l : TopoLink) : Nat :=
  min 255 (l.retrains.filter (fun t => s.clock.now ≤ t + s.ticks 3600000000)).length

/-- The 16 bytes of a link record (R229). A length that its 16 bits cannot hold shows as the greatest they can (DESIGN CHOICE, log entry 231). -/
def State.linkBytes (s : State) (l : TopoLink) : Bytes :=
  toLe 8 (l.src + 2 ^ 16 * l.sport + 2 ^ 24 * l.dst + 2 ^ 40 * l.dport + 2 ^ 48 * l.lstate + 2 ^ 51 * l.width
      + 2 ^ 55 * l.cls + 2 ^ 57 * flag l.degr + 2 ^ 58 * flag l.routable + 2 ^ 59 * flag l.boundary)
    ++ toLe 4 l.delay ++ toLe 2 (min 65535 l.length) ++ toLe 1 (s.retrainCount l) ++ toLe 1 l.fcause

/-- The 16 bytes of an item (R231). -/
def itemBytes (i : TopoItem) : Bytes :=
  toLe 1 i.kind ++ zeros 1 ++ toLe 2 i.addr ++ toLe 1 i.port ++ toLe 1 i.width ++ zeros 2 ++ toLe 8 i.extra

/-- The 64-byte header of a section (R227). -/
def TopoSection.header (x : TopoSection) : Bytes :=
  let body := toLe 4 0x4F504F54 ++ toLe 1 1 ++ toLe 1 x.bolt ++ toLe 4 x.gen ++ toLe 6 x.tick ++ toLe 2 x.nodes.length
    ++ toLe 3 x.links.length ++ zeros 1 ++ toLe 2 x.itemCount ++ zeros 36
  body ++ toLe 4 (crc32 body)

/-! ### Port records (R175, R223 to R225) -/

/-- Length in 0.1 m of a delay in ps by class (R132). -/
def linkLength (cls delay : Nat) : Nat :=
  let l := if cls = 1 then 12000 else 0
  let v := if cls = 2 then 4900 else 4400
  (10 * (delay - l) + v / 2) / v

/-- The longest recorded length of a class in 0.1 m (R132). -/
def lengthLimit (cls : Nat) : Nat := if cls = 0 then 20 else if cls = 1 then 70 else 65535

/-- TOPO.LINK.FCAUSE of an agent's fenced port, which no message of the agent gives (R175, R229; log entry 171): the cause already
recorded while it stays FENCED; a fifth retrain where an UP port with four retrains of the hour is fenced; else one of the
training causes, a free value. -/
def State.agentCause (s : State) (old : Option TopoLink) (addr port : Nat) : Nat :=
  let free := [1, 2, 5].getD (Config.freeNat (2 ^ 64 + s.clock.now * 2 ^ 24 + addr * 256 + port) % 3) 2
  match old with
  | some o => if o.lstate = 4 ∧ o.fcause ≠ 0 then o.fcause
      else if o.lstate = 2 ∧ 4 ≤ (o.retrains.filter (fun t => s.clock.now ≤ t + s.ticks 3600000000)).length then 3
      else free
  | none => free

/-- Link record of a node's port from its 12-byte port record (R223 to R225); what the record already knows of the far end,
its counts and its session counter stay. Its ROUTABLE is set only where the far end is in the record, or may be in another bolt's; a link
to a new node waits for RACK_ABSORB (R237). -/
def State.linkFrom (s : State) (x : TopoSection) (addr : Nat) (r : Bytes) (cleared : Bool := true) : TopoLink :=
  let port := le r 0 1
  let st := le r 1 1
  let w := le r 2 1
  let cls := le r 3 1
  let old := x.link addr port
  let far := le r 8 2
  let dst := match old with
    | some o => if o.dst ≠ 0xFFFF then o.dst else far
    | none => far
  let dport := match old with
    | some o => if o.dport ≠ 0xFF then o.dport else le r 10 1
    | none => le r 10 1
  let good := st == 2 && decide (2 ≤ w)
  let known := cls == 2 || (x.node dst).isSome
  let entered := st == 3 && (match old with
    | some o => o.lstate != 3
    | none => false)
  let l : TopoLink := {
    src := addr, sport := port, dst := dst, dport := dport, lstate := st, width := if st = 4 then 0 else w, cls := cls,
    degr := good && w != 8
    routable := (match old with
      | some o => o.routable || (cleared && good && known)
      | none => cleared && good && known)
    boundary := (cls == 2) && boltOf dst != x.bolt
    delay := le r 4 4, length := linkLength cls (le r 4 4)
    retrains := (match old with
      | some o => o.retrains
      | none => []) ++ (if entered then [s.clock.now] else [])
    fcause := if st ≠ 4 then 0
      else if addr = s.ownAddr then (s.port port).link.fenceCause else s.agentCause old addr port
    -- R127; R229 gives them no bits of the 16 bytes (log entry 220)
    reversed := addr == s.ownAddr && (s.port port).link.reversed
    polarity := if addr = s.ownAddr then (s.port port).link.polarity else 0
    session := (match old with
      | some o => o.session
      | none => 0) }
  { l with routable := l.routable && !s.linkFenced l }

/-- Items that a link record gives (R224, R225). -/
def linkItems (l : TopoLink) : List TopoItem :=
  (if l.lstate = 2 ∧ l.degr then [{ kind := 1, addr := l.src, port := l.sport, width := l.width }] else [])
    ++ (if l.lstate = 4 then [{ kind := 2, addr := l.src, port := l.sport }] else [])
    ++ (if l.lstate = 1 ∧ l.dst = 0xFFFF then [{ kind := 3, addr := l.src, port := l.sport }] else [])
    ++ (if l.lstate = 2 ∧ lengthLimit l.cls < l.length then
          [{ kind := 8, addr := l.src, port := l.sport, width := l.width, extra := l.length }] else [])

/-- Two items of one kind about the two ends of one link (R223, R224). -/
def TopoSection.pairItems (x : TopoSection) (i j : TopoItem) : Bool :=
  i.kind == j.kind && (i.kind == 1 || i.kind == 2 || i.kind == 8)
    && ((x.link i.addr i.port).any (fun l => l.dst == j.addr && l.dport == j.port)
      || (x.link j.addr j.port).any (fun l => l.dst == i.addr && l.dport == i.port))

/-- A link's two records give one item of a kind, that of the end recorded first (R224). -/
def TopoSection.mergeItems (x : TopoSection) : TopoSection :=
  let kept := x.items.foldl (fun l i => if l.any (fun j => x.pairItems j i) then l else l ++ [i]) []
  { x with items := kept, itemCount := x.itemCount - (x.items.length - kept.length) }

/-- The link table holds 1,048,576 records for the machine (R230). -/
def State.linkRoom (s : State) (x : TopoSection) : Bool :=
  decide ((s.fabric.sections.filter (fun y => y.bolt != x.bolt)).foldl (fun a y => a + y.links.length) 0 + x.links.length
    < 1048576)

/-- Record a port record of a node, with its items; a DOWN port that has no record gets none (R223, R230). -/
def State.recordPort (s : State) (x : TopoSection) (addr : Nat) (r : Bytes) (items : Bool) (cleared : Bool := true) :
    TopoSection :=
  let old := x.link addr (le r 0 1)
  if le r 1 1 = 0 ∧ old = none then x
  else if old = none ∧ !s.linkRoom x then x.item { kind := 10, addr := addr, port := le r 0 1 }
  else
    let l := s.linkFrom x addr r cleared
    let x1 := x.putLink l
    if items then (linkItems l).foldl TopoSection.item x1 else x1

/-- Record both ends of a link between two nodes found by the walk (R212, R223). -/
def TopoSection.join (x : TopoSection) (a p b q : Nat) : TopoSection :=
  let set (y : TopoSection) (src sport dst dport : Nat) : TopoSection := match y.link src sport with
    | some l => y.putLink { l with dst := dst, dport := if dport = 0xFF then l.dport else dport }
    | none => y
  set (set x a p b q) b q a p

/-- A walk ends without effect on the record: a deposed PRIMARY walks no further (R206, R648). -/
def State.dropWalk (s : State) : State :=
  let s1 := match s.fabric.walk.before with
    | some x => s.putSection x
    | none => s
  if s.fabric.walk.running then
    { s1 with fabric := { s1.fabric with walk := {} }, sec := { s1.sec with attesting := [] } }
  else s1

/-! ### Numbers in placement order (R219, R220) -/

/-- The lowest (switch, port) pair among an endpoint's links to switches; one that has none comes last (R219). -/
def TopoSection.placeKey (x : TopoSection) (a : Nat) : Nat :=
  let sw (u : Nat) : Bool := (x.node u).any (fun n => n.kind == 2)
  (x.links.filterMap (fun l =>
    if l.dst = a ∧ sw l.src then some (l.src * 256 + l.sport)
    else if l.src = a ∧ sw l.dst ∧ l.dport ≠ 0xFF then some (l.dst * 256 + l.dport) else none)).foldl min (2 ^ 24 + a)

/-- Addresses that the endpoints of a walk exchange, so that they are in placement order: spares among spares where the command names
spares, else all in one order, spares last (R219, R220). -/
def TopoSection.placement (x : TopoSection) (placed spares : List Nat) : List (Nat × Nat) :=
  let order := sortBy (fun (n : TopoNode) => x.placeKey n.addr) (x.nodes.filter (fun n => placed.contains n.serial && !n.retired))
  let addrs := sortBy id (order.map TopoNode.addr)
  if spares = [] then (order.map TopoNode.addr).zip addrs
  else
    let named (n : TopoNode) : Bool := spares.contains n.serial
    ((order.filter (fun n => !named n)).map TopoNode.addr).zip (addrs.filter (· < 0x8000))
      ++ ((order.filter named).map TopoNode.addr).zip (addrs.filter (0x8000 ≤ ·))

/-- A section whose endpoints have exchanged addresses, its items with them. -/
def TopoSection.renumber (x : TopoSection) (m : List (Nat × Nat)) : TopoSection :=
  let to_ (a : Nat) : Nat := (kvGet m a).getD a
  { x with
      nodes := sortBy TopoNode.addr (x.nodes.map (fun n => if (kvGet m n.addr).isSome then
        { n with addr := to_ n.addr, spare := decide (0x8000 ≤ to_ n.addr) } else n))
      links := sortBy (fun l => l.src * 256 + l.sport) (x.links.map (fun l => { l with src := to_ l.src, dst := to_ l.dst }))
      items := x.items.map (fun i => { i with addr := to_ i.addr }) }

/-! ### Tiers (R247) -/

/-- Hop distances from the endpoints and spares, one round of the search. -/
def tierRound (x : TopoSection) (known : List (Nat × Nat)) (k : Nat) : List (Nat × Nat) :=
  x.links.foldl (fun m l =>
    match kvGet known l.dst, kvGet m l.src, x.node l.src with
    | some d, none, some u => if d = k ∧ u.kind = 2 then kvSet m l.src (k + 1) else m
    | _, _, _ => m) known

/-- Hop distances of the switches to the nearest endpoint or spare, at most 15 rounds. -/
def tierDistances (x : TopoSection) : List (Nat × Nat) :=
  (List.range 15).foldl (tierRound x) ((x.nodes.filter (fun n => n.kind == 1 && !n.retired)).foldl
    (fun m n => kvSet m n.addr 0) [])

/-- Give a tier to every node that has none (R247). -/
def TopoSection.giveTiers (x : TopoSection) : TopoSection :=
  let d := tierDistances x
  { x with nodes := x.nodes.map (fun n => match n.tier with
      | some _ => n
      | none => { n with tier := some (if n.kind = 2 then (kvGet d n.addr).getD 15 else 0) }) }

/-- Tier of a node, 0 for an edge node (R247). -/
def nodeTier (n : TopoNode) : Nat := n.tier.getD 0

end Sys2Proof.Machine
end

