-- ==== Sys2Proof/Machine/PowerOps.lean ====
section
/-! DEFINITION. Shelf accounts, current grants and releases as the chapters that start load use them (spec
14_power_and_current R506 to R518, spec 05_agent_protocol R195, R196). -/

namespace Sys2Proof.Machine

open Sys2Proof

/-- A shelf (R506). -/
def State.shelf (s : State) (h : Nat) : Shelf := (kvGet s.power.shelves h).getD {}

/-- Replace a shelf; accounts are mirrored with each booking (R650 kind 9). -/
def State.setShelf (s : State) (h : Nat) (x : Shelf) : State :=
  ({ s with power := { s.power with shelves := kvSet s.power.shelves h x } }).mirrorDelta 9 h
    (toLe 8 x.booked.frontier ++ toLe 4 x.booked.left)

/-- Release part S_h of a shelf (R507). -/
def Shelf.release (x : Shelf) : Nat := x.budget * x.phi / 16

/-- The slice that holds a LEN. -/
def State.sliceOfLen (s : State) (a : Nat) : Option Slice :=
  s.access.slices.find? (fun x => x.ranges.any (fun r => r.1 ≤ a && a ≤ r.2))

/-- The greatest of some fractions. -/
def maxFraction (l : List (Nat × Nat)) : Nat × Nat := l.foldl (fun a x => if a.1 * x.2 < x.1 * a.2 then x else a) (0, 1)

/-- The measured step, 1.05 × the largest of the last 16 samples rounded up to 0.1 A, once 4 exist; else the default step of the
member's IDENT (R509, R510). -/
def State.measuredStep (s : State) (addr kind : Nat) : Nat :=
  let m := (kvGet s.power.samples (addr * 8 + kind)).getD []
  let (n, d) := maxFraction m
  if 4 ≤ m.length then cdiv (105 * n) (100 * d) else ((findNode s.fabric.sections addr).map TopoNode.step).getD 0

/-- The step of a member for an action kind (R509): declared, a declared 0 selecting measurement (R511); the slice's; measured or
default. -/
def State.memberStep (s : State) (job addr kind : Nat) : Nat :=
  match kvGet s.power.declared (addr * 8 + kind) with
  | some v => if v = 0 then s.measuredStep addr kind else v
  | none =>
    let sl := ((s.access.slices.find? (fun x => x.job == job)).map Slice.step).getD 0
    if sl ≠ 0 then sl else s.measuredStep addr kind

/-- Shelf of a node of this bolt, none for shelf 127 (R228); a bolt's PRIMARY keeps the accounts of its own shelves. -/
def State.shelfOf (s : State) (addr : Nat) : Option Nat :=
  match (findNode [s.ownSection] addr).map TopoNode.shelf with
  | some h => if h < 96 then some h else none
  | none => none

/-- The booked part's allowance for a base instant: a budget named for an earlier or equal instant governs it (R506, R507). -/
def State.bookedPart (s : State) (h t : Nat) : Nat :=
  match (s.power.budgetsDue.filter (fun d => d.1 ≤ t && d.2.1 == h)).getLast? with
  | some d => d.2.2.2.1 - d.2.2.2.1 * d.2.2.1 / 16
  | none => (s.shelf h).budget - (s.shelf h).release

/-- Book a start on the booked part of a node's shelf: the start, and the start had only this job booked (R507, R517). A node
without a shelf starts at once. -/
def State.bookShelf (s : State) (addr job step t0 : Nat) : State × Nat × Nat :=
  match s.shelfOf addr with
  | none => (s, t0, t0)
  | some h =>
    let x := s.shelf h
    let b := s.bookedPart h t0
    let (f, a) := x.booked.book b step t0
    let (alone, own) := ((kvGet x.alone job).getD {}).book b step t0
    (s.setShelf h { x with booked := a, alone := kvSet x.alone job own }, f, alone)

/-- CURRENT_GRANT to one agent (R195), mirrored as a timed action. -/
def State.sendGrant (s : State) (g : Grant) (offset : Nat) : State :=
  let expiry := match g.expiry with
    | some e => s.tickAt e
    | none => 0xFFFFFFFFFFFF
  let body := toLe 1 g.kind ++ zeros 1 ++ toLe 2 g.job ++ toLe 4 g.action ++ toLe 2 (min 65535 offset) ++ toLe 2 g.step
    ++ toLe 6 expiry
  (s.mirrorAction g.addr 0x0C body (s.tickAt g.start)).ask g.addr 0x0C body none 23

/-- Keep a grant, replacing the one of the same agent, kind and action (R512). -/
def State.keepGrant (s : State) (g : Grant) : State :=
  { s with power := { s.power with grants := s.power.grants.filter (fun x =>
      !(x.addr == g.addr && x.kind == g.kind && x.action == g.action)) ++ [g] } }

/-- Grants of an agent that still stand (R516). -/
def State.grantsAt (s : State) (addr : Nat) : Nat :=
  (s.power.grants.filter (fun g => g.addr == addr && (match g.expiry with
    | some e => decide (s.clock.now < e)
    | none => true))).length

/-- Book one member of an action whose base is `base` and send its grant; at 64 grants the booking waits (R516). -/
def State.grantMember (s : State) (kind job action base addr : Nat) (standing : Bool) : State :=
  if 64 ≤ s.grantsAt addr then
    { s with power := { s.power with
        waiting := s.power.waiting ++ [{ addr := addr, kind := kind, job := job, action := action, standing := standing }]
        shelfDeferrals := satAdd 32 s.power.shelfDeferrals 1 } }
  else
    let step := s.memberStep job addr kind
    let (s1, start, alone) := s.bookShelf addr job step base
    let g : Grant := {
      addr := addr, kind := kind, job := job, action := action, start := start, alone := alone, step := step
      expiry := some (base + 16384), standing := standing }
    (s1.keepGrant g).sendGrant g (start - base)

/-- RELEASE of an action at a base instant to its members (R196), mirrored as a timed action. -/
def State.sendRelease (s : State) (kind action base : Nat) (members : List Nat) : State :=
  let tick := s.tickAt base
  let body := toLe 4 action ++ toLe 6 tick
  let s1 := members.foldl (fun t a => (t.mirrorAction a 0x0D body tick).ask a 0x0D body none 24) s
  { s1 with power := { s1.power with releases := s1.power.releases ++ [(kind, action, base)] } }

/-- Take the next booking count of an owner (R512). -/
def State.nextAction (s : State) (kind owner : Nat) : State × Nat :=
  let k := kind * 65536 + owner
  let n := (kvGet s.power.bookings k).getD 0
  ({ s with power := { s.power with bookings := kvSet s.power.bookings k ((n + 1) % 65536) } }, owner * 65536 + n % 65536)

/-- Start an action for members: booked in ascending LEN at least 2 ticks ahead, granted and released (R508, R512). The
action and its base. -/
def State.launch (s : State) (kind owner job : Nat) (members : List Nat) (standing : Bool) (t0 : Nat := 0) :
    State × Nat × Nat :=
  let (s1, action) := s.nextAction kind owner
  let base := max t0 (s1.clock.now + 2)
  let ms := sortBy id members
  let s2 := ms.foldl (fun t a => t.grantMember kind job action base a standing) s1
  (s2.sendRelease kind action base ms, action, base)

/-- An action that its agent must start again, its grant cold, absent or expired, gets a new release for that member alone (R514). Of
a grant that is kept no more, the job is the report's, whose slice must hold the member. -/
def State.regrant (s : State) (addr kind action job : Nat) : State :=
  match s.power.grants.find? (fun g => g.addr == addr && g.kind == kind && g.action == action) with
  | none =>
    if 1 ≤ kind ∧ kind ≤ 3 ∧ (s.sliceOfLen addr).any (fun x => x.job == job) then
      let base := s.clock.now + 2
      (s.grantMember kind job action base addr (kind != 3)).sendRelease kind action base [addr]
    else s
  | some g =>
    let base := s.clock.now + 2
    let s1 := { s with power := { s.power with grants := s.power.grants.filter (fun x => x != g) } }
    if kind = 5 then
      let (s2, start, _) := s1.bookShelf addr 0 g.step base
      let h : Grant := { g with start := start, alone := start, expiry := some (start + 16384) }
      ((s2.keepGrant h).sendGrant h (start - base)).sendRelease 5 action base [addr]
    else (s1.grantMember kind g.job action base addr g.standing).sendRelease kind action base [addr]

/-- Book the training of a link at both ends for one common start, the later of the two, and release each agent end (R509,
R515): 0.25 A a lane at each end with a shelf, and against the rail at a Geneel port, `port`, which trains at that start as well. -/
def State.grantTraining (s : State) (a b lanes : Nat) (port : Option Nat := none) : State :=
  let step := cdiv (5 * lanes) 2
  let ends := ([a, b].filter (· != 0xFFFF)).eraseDups
  let base := s.clock.now + 2
  let (s1, action) := s.nextAction 5 0xFFFF
  let (s2, start) := ends.foldl (fun (acc : State × Nat) e =>
    if e = acc.1.ownAddr then
      let (t, f) := acc.1.bookRail (25 * lanes) base
      (t, max acc.2 f)
    else
      let (t, f, _) := acc.1.bookShelf e 0 step base
      (t, max acc.2 f)) (s1, base)
  let agents := ends.filter (fun e => e < 0xF000)
  let s3 := agents.foldl (fun t e =>
    let g : Grant := {
      addr := e, kind := 5, job := 0, action := action, start := start, alone := start, step := step
      expiry := some (start + 16384) }
    (t.keepGrant g).sendGrant g (start - base)) s2
  let own := if ends.contains s.ownAddr then port.toList.map (fun q => (32 + q, start)) else []
  let s4 : State := { s3 with up := { s3.up with booked := s3.up.booked ++ own } }
  if agents = [] then s4 else s4.sendRelease 5 action base agents

/-- Grants of an owner's action end with it. -/
def State.dropGrants (s : State) (kind owner : Nat) : State :=
  { s with power := { s.power with
      grants := s.power.grants.filter (fun g => !(g.kind == kind && g.action / 65536 == owner))
      waiting := s.power.waiting.filter (fun g => !(g.kind == kind && g.action / 65536 == owner)) } }

/-- Members of a job's slice on a shelf, m_j,h of R513. -/
def State.sliceOnShelf (s : State) (job h : Nat) : Nat :=
  (((s.access.slices.filter (fun x => x.job == job)).flatMap (fun x => x.ranges.flatMap (fun r =>
    (List.range (r.2 + 1 - r.1)).map (· + r.1)))).filter (fun a => s.shelfOf a == some h)).length

/-- Offsets of a barrier group: each shelf's members booked against an empty account of the job's quota (R513). `all` counts
the slice members of every job with a barrier group per shelf. Against a quota of 0 every member starts at offset 0 (DESIGN CHOICE, log entry
255). -/
def State.barrierOffsets (s : State) (job : Nat) (members : List Nat) (all : Nat → Nat) : List (Nat × Nat × Nat) :=
  let shelves := (members.filterMap (fun a => s.shelfOf a)).eraseDups
  let free := (members.filter (fun a => (s.shelfOf a).isNone)).map (fun a => (a, 0, s.memberStep job a 0))
  free ++ shelves.flatMap (fun h =>
    let mine := sortBy id (members.filter (fun a => s.shelfOf a == some h))
    let quota := (s.shelf h).release * s.sliceOnShelf job h / max 1 (all h)
    (mine.foldl (fun (acc : Account × List (Nat × Nat × Nat)) a =>
      let step := s.memberStep job a 0
      let (f, x) := acc.1.book quota step 0
      (x, acc.2 ++ [(a, f, step)])) (({ left := quota } : Account), [])).2)

end Sys2Proof.Machine
end

