-- ==== Sys2Proof/Machine/Solver.lean ====
section
/-! DEFINITION. The route solver's computation (spec 07_route_solver R241 to R258, R267, R277): link costs, ranks, the two
phases, path selection, pins, trees and failover deltas. Pure functions of a snapshot. -/

namespace Sys2Proof.Machine

open Sys2Proof

/-- INF, unreachable (R246). -/
def inf : Nat := 0xFFFFFFFF

/-- Cost of a usable directed link in 0.1 ns (R245), sums saturating (R246). -/
def linkCost (p : SolveParams) (l : TopoLink) : Nat := min inf (p.h + cdiv l.delay 100 + p.q * 8 / l.width)

/-- Rank of a node (R248). -/
def rank (tier addr : Nat) : Nat := tier * 65536 + addr

/-- Nodes of a snapshot that produce or receive routes: every eligible node, and the rest as destinations (R243, R244). -/
def snapNodes (sections : List TopoSection) : List SnapNode :=
  sections.flatMap (fun x => (x.nodes.filter (fun n => !n.retired && n.addr != 0xFFFF)).map (fun n =>
    { addr := n.addr, kind := n.kind, tier := nodeTier n, ver := n.ver, ok := nodeEligible n,
      bolt := x.bolt }))

/-- A node of a snapshot. -/
def snapNode (nodes : List SnapNode) (a : Nat) : Option SnapNode := nodes.find? (fun n => n.addr == a)

/-- Usable links of a snapshot with their costs and directions (R241, R245, R248). -/
def snapLinks (sections : List TopoSection) (p : SolveParams) : List SnapLink :=
  sections.flatMap (fun x => (x.links.filter (fun l => linkUsable sections l)).map (fun l =>
    let r (a : Nat) : Nat := rank (((findNode sections a).map nodeTier).getD 0) a
    { src := l.src, sport := l.sport, dst := l.dst, width := l.width, cost := linkCost p l, up := decide (r l.src < r l.dst) }))

/-- Destinations of a solve, ascending (R243): all, or those in the ranges of a DEST solve (R273). -/
def destinations (nodes : List SnapNode) (p : SolveParams) : List Nat :=
  sortBy id (((nodes.filter (fun n => n.kind != 3)).map SnapNode.addr).filter (fun a =>
    p.scope == 0 || p.ranges.any (fun r => r.1 ≤ a && a ≤ r.2)))

/-! ### The two phases (R250 to R252) -/

/-- Value of a node, INF where none. -/
def valueOf (x : List (Nat × Nat)) (a : Nat) : Nat := (kvGet x a).getD inf

/-- Relax one link: the least of the old value and cost plus the value of the far end, read from the previous sweep. -/
def relax (old : List (Nat × Nat)) (ok : SnapLink → Bool) (new : List (Nat × Nat)) (l : SnapLink) : List (Nat × Nat) :=
  if ok l then
    let v := min inf (l.cost + valueOf old l.dst)
    if v < valueOf new l.src then kvSet new l.src v else new
  else new

/-- One sweep over the links (R250). -/
def sweep (links : List SnapLink) (ok : SnapLink → Bool) (x : List (Nat × Nat)) : List (Nat × Nat) :=
  links.foldl (relax x ok) x

/-- Sweeps until one changes nothing, at most `n`, with their count (R252). -/
def sweeps (links : List SnapLink) (ok : SnapLink → Bool) : Nat → List (Nat × Nat) → List (Nat × Nat) × Nat
  | 0, x => (x, 0)
  | n + 1, x =>
    let x' := sweep links ok x
    if x' = x then (x, 1)
    else
      let (y, k) := sweeps links ok n x'
      (y, k + 1)

/-- What the two phases give for one destination. -/
structure Lane where
  dest : Nat
  xd : List (Nat × Nat)
  y : List (Nat × Nat)
  sd : Nat
  su : Nat
  deriving DecidableEq, Repr

/-- Solve one destination: the down phase, then the up phase over the nodes that have no finite down value and are not
frozen (R250, R277); `depth` sweeps at most in a phase, 8 but for the test of R251. -/
def solveLane (links : List SnapLink) (frozen : Nat → Bool) (depth d : Nat) : Lane :=
  let (xd, sd) := sweeps links (fun l => !l.up) depth [(d, 0)]
  let (y, su) := sweeps links (fun l => l.up && valueOf xd l.src == inf && !frozen l.src) depth xd
  { dest := d, xd := xd, y := y, sd := sd, su := su }

/-- A node's entry is in down mode (R250). -/
def Lane.down (l : Lane) (u : Nat) : Bool := valueOf l.xd u != inf && u != l.dest

/-! ### Path selection (R253 to R256) -/

/-- The 64-bit entry of chosen ports and widths (R178, R254). -/
def mkEntry (chosen : List SnapLink) : Nat :=
  let port (i : Nat) : Nat := ((chosen[i]?).map SnapLink.sport).getD 0xFF
  let w (i : Nat) : Nat := ((chosen[i]?).map SnapLink.width).getD 0
  port 0 + 2 ^ 8 * port 1 + 2 ^ 16 * port 2 + 2 ^ 24 * port 3 + 2 ^ 32 * (w 0 + 16 * w 1 + 256 * w 2 + 4096 * w 3)
    + 2 ^ 48 * port 0 + 2 ^ 63

/-- The self entry (R222). -/
def selfEntry : Nat := 0xFFFFFFFF + 2 ^ 32 * 0xFFFF + 2 ^ 48 * 0xFF + 2 ^ 63

/-- Ports of an entry, P0 first (R178). -/
def entryPorts (e : Nat) : List Nat :=
  if bit e 63 then ([bits e 7 0, bits e 15 8, bits e 23 16, bits e 31 24]).filter (· != 0xFF) else []

/-- Candidates of a node for a destination that qualify by direction and value, best first (R253, R256). -/
def candidates (links : List SnapLink) (l : Lane) (u : Nat) : List (Nat × SnapLink) :=
  let down := l.down u
  let value := if down then l.xd else l.y
  let own := links.filter (fun k => k.src == u && k.up == !down && valueOf value k.dst != inf)
  sortBy (fun e => e.1 * 256 + e.2.sport) (own.map (fun k => (min inf (k.cost + valueOf value k.dst), k)))

/-- Ports that the pins in force leave a pair (R255, R304); none when no pin covers it. Of several pins that cover it, no rule says how they
combine: the ports of all of them are left (DESIGN CHOICE, log entry 234). -/
def pinnedPorts (pins : List Pin) (u d : Nat) : Option (List Nat) :=
  match pins.filter (fun p => p.node == u && p.first ≤ d && d ≤ p.last) with
  | [] => none
  | l => some (l.flatMap Pin.ports)

/-- The entry of a pair, with the cause when it is not VALID (R244, R251, R253 to R255). `far` is the lane solved without the
limit of 8 links. -/
def selectEntry (links : List SnapLink) (nodes : List SnapNode) (pins : List Pin) (p : SolveParams) (l far : Lane) (u : Nat) :
    Nat × Option Nat :=
  if u = l.dest then (selfEntry, none)
  else
    let best := if l.down u then valueOf l.xd u else valueOf l.y u
    let cs := if best = inf then [] else candidates links l u
    match pinnedPorts pins u l.dest with
    | some ports =>
      match (cs.filter (fun c => ports.contains c.2.sport)).take p.paths with
      | [] => (0, some 2)
      | ok => (mkEntry (ok.map Prod.snd), none)
    | none =>
      match (cs.filter (fun c => c.1 ≤ best + p.s)).take p.paths with
      | [] =>
        let young := ((snapNode nodes l.dest).map SnapNode.ver).getD 3 < 2
        (0, some (if young then 3 else if valueOf far.y u ≠ inf then 1 else 0))
      | ok => (mkEntry (ok.map Prod.snd), none)

/-- A pin changed what the node would have chosen, or left it nothing that qualifies (R255, R307). -/
def pinConflict (links : List SnapLink) (nodes : List SnapNode) (pins : List Pin) (p : SolveParams) (l far : Lane) (u : Nat) :
    Bool :=
  (pinnedPorts pins u l.dest).isSome
    && ((selectEntry links nodes pins p l far u).2 == some 2
      || (selectEntry links nodes pins p l far u).1 != (selectEntry links nodes [] p l far u).1)

/-- Nodes that get an entry: eligible agents and Geneels, storage targets excepted (R218, R244). -/
def entryNodes (nodes : List SnapNode) : List SnapNode := nodes.filter (fun n => n.kind != 3 && n.ok)

/-- What one destination gives: entries (node, destination, entry), unroutable pairs, sweep counts. -/
structure Column where
  entries : List (Nat × Nat × Nat)
  unroutable : List Unroutable
  sd : Nat
  su : Nat
  deriving DecidableEq, Repr

/-- Solve a destination whole (R244). -/
def solveColumn (links : List SnapLink) (nodes : List SnapNode) (pins : List Pin) (p : SolveParams) (frozen : Nat → Bool)
    (d : Nat) : Column :=
  let l := solveLane links frozen 8 d
  let far := solveLane links frozen nodes.length d
  let rows := (entryNodes nodes).map (fun n => (n.addr, selectEntry links nodes pins p l far n.addr))
  { entries := rows.map (fun r => (r.1, d, r.2.1))
    unroutable := rows.filterMap (fun r => r.2.2.map (fun c => { src := r.1, dst := d, cause := c }))
    sd := l.sd, su := l.su }

/-! ### Batches and shares (R252, R259, R267) -/

/-- Tile-cycles of a batch (R259). -/
def batchCycles (links : List SnapLink) (sd su tiles : Nat) : Nat :=
  let ed := (links.filter (fun l => !l.up)).length
  let eu := (links.filter (fun l => l.up)).length
  cdiv (sd * ed + su * eu + (ed + eu)) (max 1 tiles)

/-- Batches of destinations of each solver: (Geneel ID, first batch, end batch) in ascending ID (R267). -/
def splitShares (dests : Nat) (tiles : List (Nat × Nat)) : List (Nat × Nat × Nat) :=
  let b := cdiv dests 64
  let total := tiles.foldl (fun a t => a + t.2) 0
  (tiles.foldl (fun (acc : Nat × List (Nat × Nat × Nat)) t =>
    (acc.1 + t.2, acc.2 ++ [(t.1, b * acc.1 / max 1 total, b * (acc.1 + t.2) / max 1 total)])) (0, [])).2

/-- The solver whose share holds a batch. -/
def solverOf (dests : Nat) (tiles : List (Nat × Nat)) (batch : Nat) : Option Nat :=
  ((splitShares dests tiles).find? (fun e => e.2.1 ≤ batch && batch < e.2.2)).map Prod.fst

/-! ### Trees (R257, R258) -/

/-- Follow MPORT from a node to the root of a lane, at most 16 links: the links taken. -/
def treePath (links : List SnapLink) (l : Lane) (m : Nat) : Nat → Nat → Option (List SnapLink)
  | 0, u => if u = l.dest then some [] else none
  | n + 1, u =>
    if u = l.dest then some []
    else match candidates links l u with
      | [] => none
      | c :: _ => (treePath links l m n c.2.dst).map (fun r => c.2 :: r)

/-- The in-tree toward a root over the usable links less some, pruned to the paths of members: its links, and the members
it cannot reach (R258). -/
def memberTree (links : List SnapLink) (excluded : List (Nat × Nat)) (root : Nat) (members : List Nat) :
    List SnapLink × List Nat :=
  let ls := links.filter (fun l => !excluded.contains (l.src, l.sport))
  let lane := solveLane ls (fun _ => false) 8 root
  members.foldl (fun (acc : List SnapLink × List Nat) m =>
    match treePath ls lane m 16 m with
    | some path => ((acc.1 ++ path).eraseDups, acc.2)
    | none => (acc.1, acc.2 ++ [m])) ([], [])

/-- Nodes whose MPORT path to a root is longer than 8 links, or that have none (R59, R257). -/
def farFrom (links : List SnapLink) (nodes : List SnapNode) (root : Nat) : List SnapNode :=
  let lane := solveLane links (fun _ => false) 8 root
  (entryNodes nodes).filter (fun n => n.addr != root && (treePath links lane n.addr 8 n.addr).isNone)

/-- Good tiles of this Geneel: those that are ACTIVE, in a domain that is on (R259, R262, R488). -/
def State.tiles (s : State) : Nat := (s.activeUnits 9).length

/-- Trees and failover deltas take cycles of the tiles, which the batches of a solve then lack (R72, R258, R279); they themselves are there at
once (DESIGN CHOICE, log entry 235). -/
def State.chargeTiles (s : State) (cycles : Nat) : State :=
  { s with fabric := { s.fabric with tileDebt := s.fabric.tileDebt + cycles } }

/-- The batch of tree requests toward a root (R258, R259). -/
def State.chargeTree (s : State) (links : List SnapLink) (root : Nat) : State :=
  let lane := solveLane links (fun _ => false) 8 root
  s.chargeTiles (batchCycles links lane.sd lane.su s.tiles)

/-! ### Failover deltas (R277) -/

/-- A failed element: a link by one of its ends, or a switch (R275). -/
structure Element where
  /-- 0 link, 1 switch -/
  kind : Nat
  addr : Nat
  port : Nat
  deriving DecidableEq, Repr

/-- A directed link falls out with an element. -/
def Element.hits (e : Element) (far : SnapLink → Option (Nat × Nat)) (l : SnapLink) : Bool :=
  if e.kind = 1 then l.src == e.addr || l.dst == e.addr
  else (l.src == e.addr && l.sport == e.port) || far l == some (e.addr, e.port)

/-- The entry without some ports: local repair (R277). -/
def dropPorts (links : List SnapLink) (u e : Nat) (gone : List Nat) : Nat :=
  let keep := (entryPorts e).filter (fun p => !gone.contains p)
  mkEntry (keep.filterMap (fun p => links.find? (fun l => l.src == u && l.sport == p)))

/-- Entries in force that a failure may change: a failed switch has none, and is no destination of the snapshot less it (R277). -/
def Element.leaves (e : Element) (current : List (Nat × Nat × Nat)) : List (Nat × Nat × Nat) :=
  if e.kind = 1 then current.filter (fun c => c.1 != e.addr && c.2.1 != e.addr) else current

/-- Ports of a node that fall out with an element. -/
def Element.portsOf (e : Element) (links : List SnapLink) (far : SnapLink → Option (Nat × Nat)) (u : Nat) : List Nat :=
  (links.filter (fun l => e.hits far l && l.src == u)).map SnapLink.sport

/-- Destinations for which some entry loses every port (R277). -/
def Element.again (e : Element) (links : List SnapLink) (far : SnapLink → Option (Nat × Nat)) (current : List (Nat × Nat × Nat)) : List Nat :=
  (((e.leaves current).filter (fun c => entryPorts c.2.2 != []
    && (entryPorts c.2.2).all (fun q => (e.portsOf links far c.1).contains q))).map (fun c => c.2.1)).eraseDups

/-- Changed entries of a failure: local repair where a port remains, else the destination is solved again with the
down-mode nodes frozen (R277). -/
def failoverDelta (links : List SnapLink) (nodes : List SnapNode) (pins : List Pin) (p : SolveParams)
    (far : SnapLink → Option (Nat × Nat)) (e : Element) (current : List (Nat × Nat × Nat)) : List (Nat × Nat × Nat) :=
  let left := links.filter (fun l => !(e.hits far l))
  let nodes := if e.kind = 1 then nodes.filter (fun n => n.addr != e.addr) else nodes
  let cur := e.leaves current
  let again := e.again links far current
  let touched := cur.filter (fun c => !again.contains c.2.1 && (entryPorts c.2.2).any (fun q => (e.portsOf links far c.1).contains q))
  let down (u d : Nat) : Bool := cur.any (fun c => c.1 == u && c.2.1 == d && (match entryPorts c.2.2 with
    | q :: _ => links.any (fun l => l.src == u && l.sport == q && !l.up)
    | [] => false))
  let solved := again.flatMap (fun d => (solveColumn left nodes pins p (fun u => down u d) d).entries)
  let repaired := touched.map (fun c => (c.1, c.2.1, dropPorts links c.1 c.2.2 (e.portsOf links far c.1)))
  (repaired ++ solved).filter (fun n => !(cur.contains n) && (n.2.2 != 0 || cur.any (fun c => c.1 == n.1 && c.2.1 == n.2.1)))

/-- Core cycles that a delta takes: the batches of its affected destinations, and one step for each entry repaired (R279). -/
def deltaCycles (links : List SnapLink) (far : SnapLink → Option (Nat × Nat)) (e : Element) (current : List (Nat × Nat × Nat))
    (tiles : Nat) : Nat :=
  let left := links.filter (fun l => !(e.hits far l))
  let again := e.again links far current
  let lanes := again.map (solveLane left (fun _ => false) 8)
  let touched := (e.leaves current).filter (fun c => (entryPorts c.2.2).any (fun q => (e.portsOf links far c.1).contains q))
  cdiv again.length 64 * batchCycles left ((lanes.map Lane.sd).foldl max 0) ((lanes.map Lane.su).foldl max 0) tiles
    + cdiv touched.length (64 * max 1 tiles)

end Sys2Proof.Machine
end

