-- ==== Sys2Proof/Machine/Epochs.lean ====
section
/-! DEFINITION. Route epochs (spec 08_route_epochs R280 to R308): staging into FREE banks, commit, drain and retirement,
failover, pins. The part of this Geneel as requester and as primary of its bolt. -/

namespace Sys2Proof.Machine

open Sys2Proof

/-- Change the epoch state. -/
def State.modEpoch (s : State) (f : Epoch → Epoch) : State :=
  { s with fabric := { s.fabric with epoch := f s.fabric.epoch } }

/-- Enter a state of R282; each change is mirrored (R650 kind 3). -/
def State.setEpochState (s : State) (st : EpochState) : State :=
  if s.fabric.epoch.state = st then s
  else (s.modEpoch (fun e => { e with state := st })).mirrorDelta 3 0
    (toLe 2 s.fabric.epoch.current ++ toLe 1 st.ctorIdx ++ zeros 1 ++ toLe 4 s.fabric.epoch.stagedId)

/-- Bank of an epoch: A for even, B for odd (R281). -/
def bankOfEpoch (e : Nat) : Nat := e % 2

/-- A node's bank in the primary's image. -/
def BankImage.bank (i : BankImage) (b : Nat) : Bank := if b = 0 then i.a else i.b

/-- Change a bank of an image. -/
def BankImage.mod (i : BankImage) (b : Nat) (f : Bank → Bank) : BankImage :=
  if b = 0 then { i with a := f i.a } else { i with b := f i.b }

/-- The image of a node's banks; a node without one has both banks cleared (R286). -/
def State.bankImage (s : State) (a : Nat) : BankImage :=
  (s.fabric.epoch.images.find? (fun i => i.addr == a)).getD { addr := a }

/-- Replace an image; bank images are mirrored as each TABLE_WRITE is sent (R650 kind 2). -/
def State.putImage (s : State) (i : BankImage) : State :=
  s.modEpoch (fun e => { e with images := insertBy BankImage.addr (e.images.filter (fun j => j.addr != i.addr)) i })

/-- Nodes of the bolt whose banks the primary writes: eligible agents and both Geneels (R244, R286). -/
def State.bankNodes (s : State) : List TopoNode :=
  s.ownSection.nodes.filter (fun n => nodeEligible n && n.kind != 3)

/-- Agents among them. -/
def State.bankAgents (s : State) : List Nat := ((s.bankNodes).filter (fun n => n.kind != 4)).map TopoNode.addr

/-! ### Results and their tags (R271, R281, R285) -/

/-- The machine's next epoch as a result has it: bolts that run hold one epoch (R280), and one that has none yet has tagged 0 (R281). -/
def SolveResult.machineTag (r : SolveResult) (bolts : List Nat) : Nat := (bolts.map (fun b => r.tags.getD b 0)).foldl max 0

/-- The next epoch: the current one plus 1, or, at a bolt that has had none, the machine's as the result has it (R281; DEDUCED, log entry
236). -/
def State.nextEpoch (s : State) (r : Option SolveResult) : Nat :=
  if s.fabric.epoch.started then (s.fabric.epoch.current + 1) % 65536
  else ((r.map (fun r => r.machineTag s.machineBolts)).getD 0)

/-- A result by its solve ID. -/
def State.result (s : State) (id : Nat) : Option SolveResult := s.fabric.results.find? (fun r => r.id == id)

/-- Every bolt's tag is the machine's next epoch; a bolt that has had no epoch yet tags 0 and takes it too (R281, R285). -/
def State.resultFresh (s : State) (r : SolveResult) : Bool :=
  let tag := s.nextEpoch (some r)
  s.machineBolts.all (fun b => r.tags.getD b 0 == tag || (r.tags.getD b 0 == 0 && (b != s.up.bolt || !s.fabric.epoch.started)))

/-- A result that is found stale is discarded (R79, R285). One of an epoch that has passed here was counted then; another counts now (R80). -/
def State.discardResult (s : State) (id : Nat) : State :=
  match s.result id with
  | none => s
  | some r =>
    let s1 := { s with fabric := { s.fabric with results := s.fabric.results.filter (fun q => q.id != id) } }
    if r.tags.getD s.up.bolt 0 = s.nextEpoch (some r) then s1.countRunAhead 0 0 false else s1

/-! ### Staging (R283 to R288) -/

/-- Table 1 entry of the default weights, VC2 to VC7 from byte 0 (R152, R181). -/
def weightEntry (w : List Nat) : Nat := leVal (field (w.flatMap (toLe 1)) 0 6 ++ zeros 2)

/-- Bolts that hold members of a slice. -/
def sliceBolts (x : Slice) : List Nat := (x.ranges.flatMap (fun r => [r.1 / 1024, r.2 / 1024])).eraseDups

/-- The slices as a bank staged now carries them: those that drain have left, an accepted modification is already in (R314,
R316, R330). -/
def State.stagedSlices (s : State) : List Slice :=
  (s.access.slices.filter (fun x => x.state != .draining)).map (fun x =>
    match s.access.changes.find? (fun c => c.op == 1 && c.job == x.job) with
    | some c => c.slice
    | none => x)

/-- Share entries of a switch, one per share installed, at most 256 (R181, R330, R331). -/
def State.shareEntries (s : State) (a : Nat) : List (Nat × Nat) :=
  let l := s.stagedSlices.flatMap (fun x => (x.granted.filter (fun g => g.1 == a)).map (fun g => (x.job, g.2.2.1, g.2.1, g.2.2.2)))
  (l.take 256).zipIdx.map (fun c => (c.2, c.1.1 + 2 ^ 12 * c.1.2.1 + 2 ^ 16 * c.1.2.2.1 + 2 ^ 32 * (c.1.2.2.2 % 256) + 2 ^ 63))

/-- A promotion carried by a result: routes to the LEN lead to the spare, whose self entry is at the LEN; the spare's old
address and the replaced unit have none (R334). -/
def renameRoutes (cs : List SliceChange) (a : Nat) (m : List (Nat × Nat)) : List (Nat × Nat) :=
  if cs.any (fun c => c.len == a) then [(0xFFFF, selfEntry)]
  else cs.foldl (fun m c => match kvGet m c.spare with
    | some e => kvSet (kvErase m c.spare) c.len e
    | none => kvErase m c.len) m

/-- Entries of a node in a result; a DEST result replaces its columns in the entries in force (R272). -/
def State.resultRoutes (s : State) (r : SolveResult) (a : Nat) : List (Nat × Nat) :=
  let own := (r.image.filter (fun e => e.1 == a)).map Prod.snd
  let active := (s.bankImage a).bank (bankOfEpoch s.fabric.epoch.current)
  let base := if r.params.scope = 0 ∨ active.state ≠ .active then []
    else active.routes.filter (fun e => !r.columns.contains e.1)
  let m := renameRoutes (s.access.changes.filter (fun c => c.op == 2 && c.solveId == r.id)) a
    ((own.filter (fun e => e.2 != 0)).foldl (fun m e => kvSet m e.1 e.2) base)
  -- a bank without its self entry, where a DEST result has none for it, is given it (R222)
  if m.any (fun e => e.2 == selfEntry) then m else kvSet m a selfEntry

/-- Switches of a version below 3, whose links carry only jobs that the key policy lets travel plain (R202). -/
def agedSwitches (nodes : List SnapNode) : List Nat := (nodes.filter (fun n => n.kind == 2 && decide (n.ver < 3))).map SnapNode.addr

/-- An address is a member of a job that must be encrypted (R202, R577). -/
def State.mustEncrypt (s : State) (d : Nat) : Bool :=
  s.stagedSlices.any (fun x => x.ranges.any (fun r => r.1 ≤ d && d ≤ r.2) && !s.sec.policy.keys.exempt.contains x.job)

/-- An entry without the ports onto links of switches of version 2, where its destination is a member of a job that must be encrypted: no bank
and no failover delta takes such a job over them (R202; log entry 217). -/
def State.youngPorts (s : State) (links : List SnapLink) (aged : List Nat) (u d e : Nat) : Nat :=
  let gone := (links.filter (fun l => l.src == u && (aged.contains u || aged.contains l.dst))).map SnapLink.sport
  if aged = [] ∨ u = d ∨ !((entryPorts e).any (fun q => gone.contains q)) ∨ !s.mustEncrypt d then e
  else
    let left := dropPorts links u e gone
    if entryPorts left = [] then 0 else left

/-- Entries of a node that a bank is given of a result (R202, R272). -/
def State.newRoutes (s : State) (r : SolveResult) (a : Nat) : List (Nat × Nat) :=
  let aged := agedSwitches r.nodes
  if aged = [] then s.resultRoutes r a
  else ((s.resultRoutes r a).map (fun e => (e.1, s.youngPorts r.links aged a e.1 e.2))).filter (fun e => e.2 != 0)

/-- What must be written into a table to turn its contents into new ones: an entry that goes is written as zero. -/
def tableDiff (old new : List (Nat × Nat)) : List (Nat × Nat) :=
  new.filter (fun e => kvGet old e.1 != some e.2)
    ++ (old.filter (fun e => e.2 != 0 && kvGet new e.1 == none)).map (fun e => (e.1, 0))

/-- Runs of consecutive indices, at most 24 entries each, for the consecutive mode (R180). -/
def packRuns : List (Nat × Nat) → List (Nat × List Nat) → List (Nat × List Nat)
  | [], acc => acc.reverse
  | e :: r, [] => packRuns r [(e.1, [e.2])]
  | e :: r, (b, vs) :: acc =>
    if e.1 = b + vs.length ∧ vs.length < 24 then packRuns r ((b, vs ++ [e.2]) :: acc)
    else packRuns r ((e.1, [e.2]) :: (b, vs) :: acc)

/-- TABLE_WRITE bodies of entries: indexed, or consecutive for a bank that was cleared (R180, R286), with the entry count of
each. -/
def writeBodies (table bank tag failure : Nat) (cleared : Bool) (es : List (Nat × Nat)) : List (Nat × Bytes) :=
  let head (mode n : Nat) : Bytes := toLe 1 table ++ toLe 1 bank ++ toLe 1 mode ++ toLe 1 n ++ toLe 2 tag ++ toLe 2 failure
  if cleared then
    (packRuns (sortBy Prod.fst es) []).map (fun r =>
      (r.2.length, head 1 r.2.length ++ toLe 2 r.1 ++ zeros 6 ++ r.2.flatMap (toLe 8)))
  else
    ((List.range (cdiv es.length 16)).map (fun i => (es.drop (16 * i)).take 16)).map (fun l =>
      (l.length, head 0 l.length ++ l.flatMap (fun e => toLe 2 e.1 ++ zeros 2 ++ toLe 8 e.2)))

/-- A bank holds nothing: it was cleared by a reset (R286). -/
def Bank.blank (b : Bank) : Bool := b.routes == [] && b.weights == [] && b.shares == []

/-- The messages that bring a node's FREE bank to a result, and the bank as it will then be (R286). -/
def State.nodeWrites (s : State) (r : SolveResult) (bank tag : Nat) (n : TopoNode) : List (Nat × Bytes) × Bank :=
  let old := (s.bankImage n.addr).bank bank
  let routes := s.newRoutes r n.addr
  let weights := if n.kind = 2 then
      ((s.ownSection.links.filter (fun l => l.src == n.addr)).map TopoLink.sport).map (fun p =>
        (p, weightEntry [24, 24, 64, 16, 24, 8])) else []
  let shares := if n.kind = 2 then s.shareEntries n.addr else []
  let w (t : Nat) (o x : List (Nat × Nat)) : List (Nat × Bytes) := writeBodies t bank tag 0 old.blank (tableDiff o x)
  (w 0 old.routes routes ++ w 1 old.weights weights ++ w 2 old.shares shares,
    { old with state := .free, routes := routes, weights := putAll old.weights weights, shares := shares })

/-! ### Slice changes and promotions within an epoch (R313, R314, R328 to R334) -/

/-- Change the entry of a slice change. -/
def State.modChange (s : State) (id : Nat) (f : SliceChange → SliceChange) : State :=
  { s with access := { s.access with changes := s.access.changes.map (fun c => if c.id = id then f c else c) } }

/-- A slice change or a promotion ends without effect: its command gets its status, a slice that was PENDING goes (R312,
R314, R337). -/
def State.failChange (s : State) (c : SliceChange) (status detail : Nat) : State :=
  let s1 := { s with access := { s.access with
      changes := s.access.changes.filter (fun d => d.id != c.id)
      slices := if c.op = 0 then s.access.slices.filter (fun x => x.job != c.job) else s.access.slices } }
  match c.cmd with
  | some id => s1.endCmd id status detail
  | none => s1

/-- Members of a slice, ascending. -/
def Slice.members (x : Slice) : List Nat := x.ranges.flatMap (fun r => (List.range (r.2 + 1 - r.1)).map (· + r.1))

/-- Runs of consecutive LENs (R318, R328). -/
def mergeRuns : List (Nat × Nat) → List (Nat × Nat)
  | [] => []
  | r :: rest => match mergeRuns rest with
    | q :: t => if r.2 + 1 = q.1 then (r.1, q.2) :: t else r :: q :: t
    | [] => [r]

/-- Merge the two runs with the smallest gap, the lowest LEN winning a tie (R329). -/
def mergeOnce (l : List (Nat × Nat)) : List (Nat × Nat) :=
  let gaps := (l.zip (l.drop 1)).map (fun p => p.2.1 - p.1.2)
  match gaps.findIdx? (· == gaps.foldl min 65536) with
  | none => l
  | some i => l.take i ++ [((l.getD i (0, 0)).1, (l.getD (i + 1) (0, 0)).2)] ++ l.drop (i + 2)

/-- Merge runs until at most `n` remain (R329); the first number bounds the merges. -/
def mergeTo (n : Nat) : Nat → List (Nat × Nat) → List (Nat × Nat)
  | 0, l => l
  | k + 1, l => if l.length ≤ n then l else mergeTo n k (mergeOnce l)

/-- A target entry (R187). -/
def targetEntry (job lo hi rights : Nat) : Nat := 1 + 2 * job + 2 ^ 16 * lo + 2 ^ 32 * hi + 2 ^ 48 * rights

/-- Target grants of a job, ascending number (R328). -/
def State.jobGrants (s : State) (job : Nat) : List TargetGrant := s.access.grants.filter (fun g => g.job == job)

/-- The target entries of a member of a slice (R328, R329). -/
def State.targetsOf (s : State) (x : Slice) : List (Nat × Nat) :=
  let gs := s.jobGrants x.job
  let runs := mergeTo (64 - gs.length) 504 (mergeRuns x.ranges)
  (runs.map (fun r => targetEntry x.job r.1 r.2 15) ++ gs.map (fun g => targetEntry g.source g.first g.last g.rights)).zipIdx.map
    (fun e => (e.2, e.1))

/-- The target tables of a member as the Geneel wrote them; a node without an image holds none. -/
def State.targetImage (s : State) (a : Nat) : TargetImage :=
  (s.access.targets.find? (fun i => i.addr == a)).getD { addr := a }

/-- Replace a target image. -/
def State.putTargetImage (s : State) (i : TargetImage) : State :=
  { s with access := { s.access with
      targets := insertBy TargetImage.addr (s.access.targets.filter (fun j => j.addr != i.addr)) i } }

/-- Write target entries into the standby table of a member (R181, R313); the message numbers to await. -/
def State.sendTargets (s : State) (a : Nat) (want : List (Nat × Nat)) : State × List Nat :=
  let i := s.targetImage a
  let (s1, ids) := (writeBodies 3 0 0 0 false (tableDiff i.standby want)).foldl (fun (acc : State × List Nat) w =>
    (acc.1.ask a 0x04 w.2 none Purpose.target.code, acc.2 ++ [acc.1.nextId])) (s, [])
  (s1.putTargetImage { i with standby := want }, ids)

/-- TARGET_SWAP at an instant (R182, R184, R313). -/
def State.swapTargets (s : State) (at_ a : Nat) : State :=
  let tick := s.tickAt at_
  let body := toLe 1 4 ++ zeros 1 ++ toLe 2 s.fabric.epoch.current ++ toLe 6 tick ++ zeros 2
    ++ toLe 4 (crc32 (targetStream (s.targetImage a).standby))
  ({ s with access := { s.access with swaps := s.access.swaps ++ [(at_, a)] } }.mirrorAction a 0x05 body tick).ask a 0x05 body none
    Purpose.targetSwap.code

/-- The swap has taken place: the copies of the image exchange. -/
def State.swapImage (s : State) (a : Nat) : State :=
  let i := s.targetImage a
  s.putTargetImage { i with active := i.standby, standby := i.active }

/-- Switches of the bolt on a legal route between members, as the given entries of its nodes have the routes (R577): reached from
the members of the bolt, and from its boundary switches when the slice spans bolts (DEDUCED). -/
def State.routeSwitches (s : State) (entries : Nat → List (Nat × Nat)) (x : Slice) : List Nat :=
  let sec := s.ownSection
  let start := x.members.filter (fun a => (sec.node a).isSome)
    ++ (if (sliceBolts x).length ≤ 1 then [] else (sec.links.filter TopoLink.boundary).map TopoLink.src)
  let routes := ((sec.nodes.filter nodeEligible).map TopoNode.addr).map (fun a => (a, entries a))
  let next (d : Nat) (us : List Nat) : List Nat := (us ++ us.flatMap (fun u =>
    (entryPorts ((kvGet ((kvGet routes u).getD []) d).getD 0)).filterMap (fun q => (sec.link u q).map TopoLink.dst))).eraseDups
  let reach (d : Nat) : List Nat := (List.range 16).foldl (fun us _ => next d us) start
  ((x.members.flatMap reach).eraseDups).filter (fun a => (sec.node a).map TopoNode.kind == some 2)

/-- Nodes of the bolt that hold a slice's link key in the current epoch: members and switches on their routes (R577). -/
def State.keyNodes (s : State) (x : Slice) : List Nat :=
  let bank := bankOfEpoch s.fabric.epoch.current
  x.members.filter (fun a => a / 1024 == s.up.bolt)
    ++ s.routeSwitches (fun a => ((s.bankImage a).bank bank).routes) x

/-- A node of a version below 3 takes no keys (R202). -/
def State.keyUnable (s : State) (a : Nat) : Bool := (s.ownSection.node a).any (fun n => n.ver < 3)

/-- Install the slots of a job's link key that this Geneel holds at nodes that do not hold it (R577, R583), none at a node of a version
below 3 (R202). -/
def State.sendKeys (s : State) (job : Nat) (addrs : List Nat) : State × List Nat :=
  let ks := s.sec.keys.filter (fun k => k.job == job && k.kind == 0)
  let have_ := s.holdersOf job 0
  ((addrs.filter (fun a => !have_.contains a && !s.keyUnable a)).flatMap (fun a => ks.map (fun k => (a, k)))).foldl
    (fun (acc : State × List Nat) e => (acc.1.keyInstall e.1 e.2 none .keyInstall, acc.2 ++ [acc.1.nextId])) (s, [])

/-- Both Geneels of every bolt that holds members, and the twin of this Geneel (R576). -/
def State.memberGeneels (s : State) (x : Slice) : List Nat :=
  ((s.up.bolt :: sliceBolts x).flatMap (fun b => [0xF000 + 2 * b, 0xF001 + 2 * b])).eraseDups

/-- Home bolt of a slice (R345). -/
def Slice.home (x : Slice) : Nat := (x.ranges.map Prod.fst).foldl min 0x7FFF / 1024

/-- The keys of a job that has none: the key owner generates generation 0 of both kinds, of the memory key alone for an exempt
job, and sends them to the serving Geneels (R576, R577). -/
def State.firstKeys (s : State) (x : Slice) : State :=
  if s.primaryOf x.home ≠ s.ownAddr ∨ (s.currentKey x.job 1).isSome then s
  else
    let (s1, k1) := s.newKey x.job 1 0 true
    let give (k : HeldKey) (t : State) : State :=
      ((t.memberGeneels x).filter (fun a => a != t.ownAddr)).foldl (fun u a => u.giveKey a k) t
    if s.sec.policy.keys.exempt.contains x.job then give k1 s1
    else
      let (s2, k0) := s1.newKey x.job 0 0 true
      give k1 (give k0 s2)

/-- Keys of the jobs whose routes a result takes through nodes that do not hold them go there before its banks are written (R303, R577): the
jobs of a change that the result carries have theirs already. -/
def State.keyRoutes (s : State) (r : SolveResult) : State :=
  (s.access.slices.filter (fun x => (x.state == .active || x.state == .failed) && !s.sec.policy.keys.exempt.contains x.job
    && !s.access.changes.any (fun c => c.job == x.job && c.solveId == r.id))).foldl (fun t x =>
      (t.sendKeys x.job (t.routeSwitches (t.newRoutes r) x)).1) s

/-- Steps 4 and 5 of R313, or what a promotion's spare receives before C (R334): target entries into standby tables, and keys;
a job that the key policy exempts gets no link key (R577). A job that it does not exempt may not travel over a switch of version 2 (R202):
its change fails with ST_DENIED reason 5 (DESIGN CHOICE, log entry 217: the spec names no status). -/
def State.prepareChange (s : State) (r : SolveResult) (c : SliceChange) : State :=
  let x := if c.op = 2 then (s.access.slices.find? (fun x => x.job == c.job)).getD c.slice else c.slice
  let own (l : List Nat) : List Nat := l.filter (fun a => a / 1024 == s.up.bolt)
  let old := if c.op = 1 then ((s.access.slices.find? (fun y => y.job == c.job)).map Slice.members).getD [] else []
  let s0 := if c.op = 2 then s else s.firstKeys x
  let gives := if c.op = 2 then (if c.len / 1024 = s.up.bolt then [c.spare] else []) else own x.members
  let gone := if c.op = 2 then own [c.len] else own (old.filter (fun a => !x.members.contains a))
  let (s1, w1) := gives.foldl (fun (acc : State × List Nat) a =>
    let (t, ids) := acc.1.sendTargets a (s.targetsOf x)
    (t, acc.2 ++ ids)) (s0, [])
  let (s2, w2) := gone.foldl (fun (acc : State × List Nat) a =>
    let (t, ids) := acc.1.sendTargets a []
    (t, acc.2 ++ (if c.op = 2 then [] else ids))) (s1, w1)
  let exempt := s.sec.policy.keys.exempt.contains c.job
  let way := s2.routeSwitches (s2.resultRoutes r) (if c.op = 2 then c.slice else x)
  if !exempt && way.any s.keyUnable then s.failChange c 0x20 5
  else
    let (s3, w3) := if exempt then (s2, []) else s2.sendKeys c.job (gives ++ way)
    s3.modChange c.id (fun d => { d with stage := .staging, awaits := w2 ++ w3 })

/-- Prepare every change that a result carries (R313, R314, R337). -/
def State.prepareChanges (s : State) (r : SolveResult) : State :=
  (s.access.changes.filter (fun c => c.stage == .waiting && c.solveId == r.id)).foldl (fun t c => t.prepareChange r c) s

/-- The commit tick of a change is named: TARGET_SWAP to every member concerned, the description to the primaries of other
bolts that hold members; a unit that a promotion replaces loses the job's keys at that tick (R313, R334). -/
def State.orderChange (s : State) (at_ : Nat) (c : SliceChange) : State :=
  let old := if c.op = 1 then ((s.access.slices.find? (fun y => y.job == c.job)).map Slice.members).getD [] else []
  let ms := if c.op = 2 then (if c.len / 1024 = s.up.bolt then [c.spare, c.len] else [])
    else ((c.slice.members ++ old).eraseDups).filter (fun a => a / 1024 == s.up.bolt)
  let s0 := ms.foldl (fun t a => t.swapTargets at_ a) s
  let s1 := if c.op = 2 then s0.eraseAt c.job 0 [c.len] else s0
  let others := if c.op = 2 then [] else (sliceBolts c.slice).filter (· != s.up.bolt)
  let s2 := { s1 with access := { s1.access with
      told := s1.access.told ++ others.map (fun b => (s1.primaryOf b, s1.tickAt at_, c.slice)) } }
  s2.modChange c.id (fun d => { d with stage := .ordered, at_ := at_ })

/-- Changes being staged from a result whose targets and keys are all acknowledged (R313, R577). -/
def State.readyChanges (s : State) (solveId : Nat) : List SliceChange :=
  s.access.changes.filter (fun c => c.stage == .staging && c.solveId == solveId && c.awaits == [])

/-! ### Global shares (R330, R331) -/

/-- Bolts that hold members of a slice and global ports between them, (switch, port) (R205, R330). -/
def State.globalPorts (s : State) (x : Slice) : List (Nat × Nat) :=
  let bs := sliceBolts x
  s.fabric.sections.flatMap (fun sec => if bs.contains sec.bolt then
    (sec.links.filter (fun l => l.boundary && bs.contains (boltOf l.dst) && boltOf l.dst != sec.bolt)).map (fun l => (l.src, l.sport))
    else [])

/-- Install a slice's shares at its global ports, each cut to what the others leave: 896 at a port, 256 entries at a switch
(R331). What it holds already stays as far as it is still asked for. Items of kinds 3 and 4 say what does not fit. -/
def raiseShares (others : List (Nat × Nat × Nat × Nat)) (ports : List (Nat × Nat)) (x : Slice) : Slice × List SliceItem :=
  let wanted := ports.flatMap (fun p => (sortBy Prod.fst x.shares).map (fun v => (p, v.1, v.2)))
  let kept := x.granted.filterMap (fun g => (wanted.find? (fun w => w.1 == (g.1, g.2.1) && w.2.1 == g.2.2.1)).map (fun w =>
    (g.1, g.2.1, g.2.2.1, min g.2.2.2 w.2.2)))
  let (granted, items) := wanted.foldl (fun (acc : List (Nat × Nat × Nat × Nat) × List SliceItem) w =>
    let all := others ++ acc.1
    let used := (all.filter (fun g => g.1 == w.1.1 && g.2.1 == w.1.2)).foldl (fun t g => t + g.2.2.2) 0
    let mine := ((acc.1.find? (fun g => g.1 == w.1.1 && g.2.1 == w.1.2 && g.2.2.1 == w.2.1)).map (fun g => g.2.2.2)).getD 0
    let slots := (all.filter (fun g => g.1 == w.1.1)).length
    let new := min w.2.2 (mine + (896 - used))
    if mine = 0 ∧ new ≠ 0 ∧ 256 ≤ slots then
      (acc.1, acc.2 ++ [{ kind := 4, vc := w.2.1, addr := w.1.1, port := 0xFF, len := 0
                          requested := (wanted.filter (fun v => v.1.1 == w.1.1)).length, available := 256 - slots }])
    else
      let rest := acc.1.filter (fun g => !(g.1 == w.1.1 && g.2.1 == w.1.2 && g.2.2.1 == w.2.1))
      (if new = 0 then rest else rest ++ [(w.1.1, w.1.2, w.2.1, new)],
        if new < w.2.2 then acc.2 ++ [{ kind := 3, vc := w.2.1, addr := w.1.1, port := w.1.2, len := 0, requested := w.2.2
                                        available := new }]
        else acc.2)) (kept, [])
  ({ x with granted := granted }, items)

/-- Before a bank is staged, every slice's shares are installed at its global ports of now; cut shares are restored in ascending
job order (R319, R330). -/
def State.refreshShares (s : State) : State :=
  s.stagedSlices.foldl (fun t x =>
    let others := (t.stagedSlices.filter (fun y => y.job != x.job)).flatMap Slice.granted
    let g := (raiseShares others (t.globalPorts x) x).1.granted
    { t with access := { t.access with
        slices := t.access.slices.map (fun y => if y.job = x.job then { y with granted := g } else y)
        changes := t.access.changes.map (fun c =>
          if c.job = x.job ∧ c.op ≠ 2 then { c with slice := { c.slice with granted := g } } else c) } }) s

/-- Send staged writes as far as each agent's budget of this tick goes, whoever else has used of it (R72, R74, R75, R286); the rest waits for
the next marker. -/
def State.stagePump (s : State) : State :=
  match s.fabric.epoch.staging with
  | none => s
  | some g =>
    let budget := s.entryBudget
    let (s1, rest, _) := g.writes.foldl (fun (acc : State × List (Nat × Nat × Bytes) × List (Nat × Nat)) w =>
      let used := (kvGet acc.2.2 w.1).getD 0
      if used + w.2.1 ≤ budget then
        let (id, t) := acc.1.writeBank w.1 w.2.2 Purpose.stageWrite.code
        (t.modEpoch (fun e => { e with staging := e.staging.map (fun h => { h with awaits := h.awaits ++ [id] }) }),
          acc.2.1, kvSet acc.2.2 w.1 (used + w.2.1))
      else (acc.1, acc.2.1 ++ [w], kvSet acc.2.2 w.1 budget)) (s, [], s.mail.written)
    s1.modEpoch (fun e => { e with staging := e.staging.map (fun h =>
      if rest.length = g.writes.length then h
      else { h with writes := rest, extra := s.clock.now - h.begun, sentTick := s.tickNow }) })

/-- End the command that staged, when the host did (R288). -/
def State.endStageCmd (s : State) (status detail : Nat) : State :=
  match s.fabric.epoch.stageCmd with
  | none => s
  | some id => (s.modEpoch (fun e => { e with stageCmd := none })).endCmd id status detail

/-- Send EPOCH_COMMIT for a tick (R287, R290), to the primary of every other bolt. -/
def State.sendCommit (s : State) (solveId epoch window at_ : Nat) : State :=
  let body := toLe 4 solveId ++ toLe 2 epoch ++ toLe 2 window ++ toLe 6 (s.tickAt at_) ++ zeros 2
  (s.machineBolts.filter (· != s.up.bolt)).foldl (fun t b => t.send (t.msgTo (t.primaryOf b) 0x4A body)) s

/-- The check value of ACTIVATE over an image (R184). -/
def Bank.check (k : Bank) (switch : Bool) : Nat := crc32 (bankStream k switch)

/-- A primary orders the commit: ACTIVATE to every agent of its bolt with the check value of its image, and the same for both
Geneels' own banks (R290). -/
def State.orderCommit (s : State) (solveId epoch window at_ : Nat) : State :=
  let bank := bankOfEpoch epoch
  let tick := s.tickAt at_
  let s1 := s.modEpoch (fun e => { e with
    next := epoch, commitAt := some at_, window := if window = 0 then 128 else window, acked := [], awaits := []
    stagedId := solveId, images := e.images.map (fun i => i.mod bank (fun k => { k with state := .reserved })) })
  let s2 := s1.bankNodes.foldl (fun t n =>
    if n.kind = 4 then t
    else
      let check := ((t.bankImage n.addr).bank bank).check (n.kind == 2)
      let body := toLe 1 0 ++ toLe 1 bank ++ toLe 2 epoch ++ toLe 6 tick ++ zeros 2 ++ toLe 4 check
      let t1 := t.mirrorAction n.addr 0x05 body tick
      let id := t1.nextId
      (t1.ask n.addr 0x05 body none Purpose.activate.code).modEpoch (fun e => { e with
        awaits := e.awaits ++ [(id, n.addr)] })) s1
  s2.setEpochState .committing

/-- Commit the staged result at an instant: the requester's part (R290). -/
def State.commitStaged (s : State) (solveId window at_ : Nat) (cmd : Option Nat) : State :=
  let epoch := s.nextEpoch (s.result solveId)
  let s1 := (s.modEpoch (fun e => { e with commitCmd := cmd, commitBy := some s.ownAddr, doneBy := [] })).sendCommit solveId epoch window at_
  s1.orderCommit solveId epoch window at_

/-- An epoch of slice changes or promotions is STAGED everywhere: when their targets and keys are in as well, it is committed
for the latest tick that any of them asks for, three ticks ahead of it (R313). -/
def State.commitChanges (s : State) : State :=
  let e := s.fabric.epoch
  let mine := s.access.changes.filter (fun c => c.stage == .staging && c.solveId == e.stagedId)
  if e.state ≠ .staged ∨ e.owner ≠ .slice ∨ mine = [] ∨ mine.any (fun c => c.awaits != []) then s
  else
    let at_ := (mine.map SliceChange.due).foldl max (s.clock.now + 3)
    if s.clock.now + 3 < at_ then s else mine.foldl (fun t c => t.orderChange at_ c) (s.commitStaged e.stagedId 0 at_ none)

/-- Every EPOCH_STAGED is in (R282, R288): STAGED, or the failure of the first bolt that failed, a stale result being discarded (R285). At the
requester the command ends; a repair, an absorption or an APPLY commits at once at the earliest tick R67 allows, or at the pin's tick (R237,
R301, R305), and where their staging has failed what asked for them is told. -/
def State.stagedAll (s : State) : State :=
  let e := s.fabric.epoch
  if !(s.machineBolts.all (fun b => e.stagedBy.any (fun d => d.1 == b))) then s
  else match e.stagedBy.find? (fun d => d.2.1 != 0) with
    | some d =>
      let s0 := (s.setEpochState (if e.retireAt.isSome then .draining else .stable)).modEpoch (fun e => { e with
        stagedId := 0, owner := .host })
      let s1 := if d.2.1 = 1 then s0 else s0.discardResult e.stagedId
      let outcome := if d.2.1 = 1 then 0x50 + 256 * d.2.2 else 0x40
      let told (w : SolveFor) : State := { s1 with fabric := { s1.fabric with finished := s1.fabric.finished ++ [(w, 0, outcome)] } }
      match e.owner with
      | .absorb => told .absorb
      | .pin id => told (.pin id)
      | .host | .repair | .slice => s1.endStageCmd (outcome % 256) (outcome / 256)
    | none =>
      let extra := (e.staging.map Staging.extra).getD 0
      let sent := (e.staging.map Staging.sentTick).getD s.tickNow
      let s1 := match e.stageCmd with
        | some id => (s.setEpochState .staged).modCmd id (fun c => { c with effect := some sent })
        | none => s.setEpochState .staged
      match e.owner with
      | .host => if extra = 0 then s1.endStageCmd 0 0 else s1.endStageCmd 0x13 extra
      | .pin id =>
        let due := ((s1.cmd id).map Cmd.due).getD 0
        s1.commitStaged e.stagedId 0 (max due (s1.clock.now + 3)) none
      | .absorb =>
        let due := (s1.fabric.walk.cmd.bind (fun id => (s1.cmd id).map Cmd.due)).getD 0
        s1.commitStaged e.stagedId 0 (max due (s1.clock.now + 3)) none
      | .repair =>
        let at_ := s1.clock.now + 3
        (s1.readyChanges e.stagedId).foldl (fun t c => t.orderChange at_ c) (s1.commitStaged e.stagedId 0 at_ none)
      | .slice => s1.commitChanges

/-- A bolt's EPOCH_STAGED reaches the requester (R287, R288). -/
def State.gotStaged (s : State) (bolt status silent : Nat) : State :=
  (s.modEpoch (fun e => { e with stagedBy := e.stagedBy.filter (fun d => d.1 != bolt) ++ [(bolt, status, silent)] })).stagedAll

/-- Entries that a TABLE_WRITE body names: table, bank and indices (R180). -/
def writtenEntries (b : Bytes) : Nat × Nat × List Nat :=
  (le b 0 1, le b 1 1, (List.range (le b 3 1)).map (fun i => if le b 2 1 = 0 then le b (8 + 12 * i) 2 else le b 8 2 + i))

/-- A write that was never sent or acknowledged: the image no longer knows these entries, marked by a value no entry has, so a later
staging writes them again (R286, R288). -/
def State.unwritten (s : State) (a : Nat) (body : Bytes) : State :=
  let (table, bank, is) := writtenEntries body
  let forget (l : List (Nat × Nat)) : List (Nat × Nat) := is.foldl (fun m i => kvSet m i (2 ^ 64)) l
  s.putImage ((s.bankImage a).mod bank (fun k =>
    if table = 0 then { k with routes := forget k.routes }
    else if table = 1 then { k with weights := forget k.weights }
    else { k with shares := forget k.shares }))

/-- The primary reports its staging to the requester (R287), and to the other primaries, whose epoch objects follow the machine's state and
could not else know it (R282; DESIGN CHOICE, log entry 237). -/
def State.reportStaged (s : State) (status : Nat) : State :=
  match s.fabric.epoch.staging with
  | none => s
  | some g =>
    if g.reported then s
    else
      let s1 := (g.writes.foldl (fun t w => t.unwritten w.1 w.2.2) s).modEpoch (fun e => { e with
        staging := some { g with reported := true, writes := [] } })
      let to_ := (g.requester :: (s.machineBolts.filter (· != s.up.bolt)).map s.primaryOf).eraseDups
      let body := toLe 4 g.solveId ++ toLe 1 s.up.bolt ++ toLe 1 status ++ toLe 2 (g.silent.getD 0) ++ toLe 4 g.written ++ toLe 6 g.lastAck
        ++ zeros 2
      ((to_.filter (· != s.ownAddr)).foldl (fun t a => t.send (t.msgTo a 0x49 body)) s1).gotStaged s.up.bolt status (g.silent.getD 0)

/-- Report as soon as every write is acknowledged (R288). -/
def State.stageCheck (s : State) : State :=
  match s.fabric.epoch.staging with
  | none => s
  | some g =>
    if g.reported then s
    else if g.silent.isSome then s.reportStaged 1
    else if g.writes = [] ∧ g.awaits = [] then s.reportStaged 0
    else s

/-- A primary stages its bolt's image of a result into the FREE banks (R285, R286). -/
def State.orderStage (s : State) (solveId flags requester : Nat) : State :=
  let s := s.modEpoch (fun e => { e with
    stagedBy := (e.stagedEarly.filter (fun d => d.1 == solveId)).map Prod.snd, stagedEarly := [], stagedId := solveId })
  let tag := s.nextEpoch (s.result solveId)
  let bank := bankOfEpoch tag
  let g : Staging := { solveId := solveId, requester := requester, flags := flags, lastAck := s.tickNow, begun := s.clock.now, sentTick := s.tickNow }
  match s.result solveId with
  | none => (s.modEpoch (fun e => { e with staging := some g })).reportStaged 2
  | some r =>
    let s := s.refreshShares.keyRoutes r
    if s.fabric.epoch.started ∧ r.tags.getD s.up.bolt 0 ≠ tag then (s.modEpoch (fun e => { e with staging := some g })).reportStaged 2
    else
      let (s1, ws) := s.bankNodes.foldl (fun (acc : State × List (Nat × Nat × Bytes)) n =>
        let (w, k) := acc.1.nodeWrites r bank tag n
        let t1 := acc.1.putImage ((acc.1.bankImage n.addr).mod bank (fun _ => k))
        if n.kind = 4 then (t1, acc.2)
        else if acc.1.access.changes.any (fun c => c.op == 2 && c.solveId == r.id && c.len == n.addr) then
          -- the unit that is replaced may be silent: what it is sent is not awaited (R334)
          (w.foldl (fun u x => (u.writeBank n.addr x.2 Purpose.other.code).2) t1, acc.2)
        else (t1, acc.2 ++ w.map (fun x => (n.addr, x.1, x.2)))) (s, [])
      let n := (ws.map (fun w => w.2.1)).foldl (· + ·) 0
      ((s1.modEpoch (fun e => { e with staging := some { g with writes := ws, written := n } })).stagePump).stageCheck

/-- EPOCH_STAGE to the primaries of the other bolts (R286, R287). -/
def State.announceStage (s : State) (solveId flags : Nat) : State :=
  let body := toLe 4 solveId ++ toLe 1 flags ++ zeros 3
  (s.machineBolts.filter (· != s.up.bolt)).foldl (fun t b => t.send (t.msgTo (t.primaryOf b) 0x48 body)) s

/-- The requester stages its own bolt and awaits the others (R286, R288). -/
def State.beginStaging (s : State) (solveId flags : Nat) (owner : EpochFor) (cmd : Option Nat) : State :=
  let s1 := (s.setEpochState .staging).modEpoch (fun e => { e with
    owner := owner, stageCmd := cmd, stagedId := solveId })
  s1.orderStage solveId flags s1.ownAddr

/-- The requester starts staging on every bolt (R286): EPOCH_STAGE to the other primaries, its own bolt at once. -/
def State.startStaging (s : State) (solveId flags : Nat) (owner : EpochFor) (cmd : Option Nat) : State :=
  (s.announceStage solveId flags).beginStaging solveId flags owner cmd

/-! ### Commit, drain, retirement (R290 to R298) -/

/-- Stranded agents at the commit: no AS_OK to ACTIVATE before the marker (R291). -/
def State.strandedNow (s : State) : List Nat :=
  s.bankAgents.filter (fun a => !s.fabric.epoch.acked.contains a)

/-- Rewrite a stranded agent's bank in full and activate it for the earliest tick (R291): three ticks after the last of the ticks over which
the agent's budget of entries spreads the writes (R75; a message holds up to 25 entries and is not split). -/
def State.rejoin (s : State) (n : TopoNode) : State :=
  let e := s.fabric.epoch
  let bank := bankOfEpoch e.current
  let k := (s.bankImage n.addr).bank bank
  let all (t : Nat) (l : List (Nat × Nat)) : List Bytes := (writeBodies t bank e.current 0 true l).map Prod.snd
  let writes := all 0 k.routes ++ (if n.kind = 2 then all 1 k.weights ++ all 2 k.shares else [])
  let s1 := writes.foldl (fun t b => (t.writeBank n.addr b Purpose.other.code).2) s
  let entries := k.routes.length + (if n.kind = 2 then k.weights.length + k.shares.length else 0)
  let tick := s1.nameTick (3 + entries / (s.entryBudget - 24))
  let body := toLe 1 0 ++ toLe 1 bank ++ toLe 2 e.current ++ toLe 6 tick ++ zeros 2 ++ toLe 4 (k.check (n.kind == 2))
  let s2 := s1.mirrorAction n.addr 0x05 body tick
  let id := s2.nextId
  (s2.ask n.addr 0x05 body none Purpose.activate.code).modEpoch (fun e => { e with awaits := e.awaits ++ [(id, n.addr)] })

/-- Read the epoch-expired counter of every port of every agent (R298). -/
def State.readExpired (s : State) (p : Purpose) : State :=
  ((s.bankNodes.filter (fun n => n.kind != 4)).flatMap (fun n => (List.range n.ports).map (fun q => (n.addr, q)))).foldl
    (fun t e => t.ask e.1 0x06 (toLe 1 0 ++ zeros 1 ++ toLe 2 (16 * e.2 + 12) ++ toLe 1 1) none p.code) s

/-- A bolt's EPOCH_DONE reaches the requester; when every bolt's is in, the command completes (R287, R292). -/
def State.gotDone (s : State) (bolt stranded : Nat) : State :=
  let s1 := s.modEpoch (fun e => { e with doneBy := e.doneBy.filter (fun d => d.1 != bolt) ++ [(bolt, stranded)] })
  let e := s1.fabric.epoch
  if s1.machineBolts.all (fun b => e.doneBy.any (fun d => d.1 == b)) then
    let n := (e.doneBy.map Prod.snd).foldl (· + ·) 0
    match e.commitCmd with
    | none => s1
    | some id =>
      let s2 := s1.modEpoch (fun e => { e with commitCmd := none })
      if n = 0 then s2.endNow id 0 0 e.commitTick [] else s2.endNow id 0x31 n e.commitTick []
  else s1

/-- A bolt's commit is done: the Geneel that ordered it is told (R287, R292). -/
def State.reportDone (s : State) : State :=
  let e := s.fabric.epoch
  match e.commitBy with
  | none => s
  | some a =>
    let s1 := s.modEpoch (fun e => { e with commitBy := none })
    if a = s.ownAddr then s1.gotDone s.up.bolt e.stranded.length
    else s1.send (s1.msgTo a 0x4B (toLe 4 e.stagedId ++ toLe 1 s.up.bolt ++ toLe 1 e.stranded.length ++ zeros 2 ++ toLe 6 e.commitTick
      ++ zeros 2))

/-- A repair is still pending after a commit: another has been asked for, or is solved and waits, or this one's result had been overtaken
(R301). -/
def State.repairWaits (s : State) : Bool :=
  let e := s.fabric.epoch
  e.repairPending && (e.owner != .repair || s.fabric.requested.any (fun r => r.1 == .repair)
    || s.fabric.finished.any (fun f => f.1 == .repair) || ((s.result e.stagedId).map SolveResult.moved).getD false)

/-- The commit marker (R183, R281, R291 to R296): the new bank becomes ACTIVE everywhere, the other OLD; the overlay and the
prepared failures of the outgoing epoch end; unpinned pins leave (R305); stranded agents are brought back. -/
def State.commitMarker (s : State) : State :=
  let e := s.fabric.epoch
  if e.commitAt ≠ some s.clock.now then s
  else
    let bank := bankOfEpoch e.next
    let stranded := s.strandedNow
    let bound := ((s.result e.stagedId).map SolveResult.pins).map (fun l => l.map Pin.id)
    let rec_ : DrainRecord := {
      epoch := e.current, repair := e.repairEpoch, stranded := e.strandedCount, commitTick := e.commitTick }
    let s1 := s.modEpoch (fun e => { e with
      current := e.next, started := true, commitAt := none, commitTick := s.tickNow, retireAt := some (s.clock.now + e.window)
      retireSent := false, forced := false, expiredAtCommit := 0, stranded := stranded, strandedCount := stranded.length, overlay := none
      overlayAt := none, prepared := [], repairEpoch := e.owner == .repair, repairPending := s.repairWaits
      applyPending := e.applyPending && (match e.owner with
        | .pin _ => false
        | _ => true)
      pins := match bound with
        | none => e.pins
        | some ids => (e.pins.filter (fun p => ids.contains p.id || p.until_.isNone)).map (fun p =>
            { p with inForce := p.inForce || ids.contains p.id })
      drains := if !e.started then e.drains else (rec_ :: e.drains).take 8
      images := e.images.map (fun i => (i.mod bank (fun k => { k with state := .active, epoch := e.next })).mod (1 - bank)
        (fun k => if k.state = .active then { k with state := .old } else k)) })
    let s2 := (s1.repoint (e.next % 2)).setEpochState .draining
    let s3 := (s2.bankNodes.filter (fun n => stranded.contains n.addr)).foldl (fun t n => t.rejoin n) s2
    (s3.readExpired .expiredBase).reportDone

/-- Three ticks before the retire tick the primary sends RETIRE for the OLD bank (R296). -/
def State.sendRetire (s : State) (at_ : Nat) : State :=
  let e := s.fabric.epoch
  let bank := 1 - bankOfEpoch e.current
  let body := toLe 1 1 ++ toLe 1 bank ++ toLe 2 ((e.current + 65535) % 65536) ++ toLe 6 (s.tickAt at_) ++ zeros 6
  (s.bankAgents.foldl (fun t a => (t.mirrorAction a 0x05 body (t.tickAt at_)).ask a 0x05 body none Purpose.retire.code)
    s).modEpoch (fun e => { e with retireSent := true })

/-- FORCE (R297): the retire tick moves to the earliest tick that R67 allows, unless it is nearer already. -/
def State.forceRetire (s : State) : State :=
  let at_ := s.clock.now + 3
  match s.fabric.epoch.retireAt with
  | some r => if r ≤ at_ then s.modEpoch (fun e => { e with forced := true })
      else (s.modEpoch (fun e => { e with retireAt := some at_, retireSent := false, forced := true })).sendRetire at_
  | none => s

/-- Markers of a drain: RETIRE goes out three ticks ahead; at the retire tick OLD banks become FREE, what this Geneel's ports still hold of
the old epoch is discarded and counted as at an agent, the counters are read, and agents still stranded are given up (R291, R296, R298). -/
def State.retireMarker (s : State) : State :=
  match s.fabric.epoch.retireAt with
  | none => s
  | some at_ =>
    let s1 := if at_ ≤ s.clock.now + 3 ∧ !s.fabric.epoch.retireSent then s.sendRetire at_ else s
    if s1.clock.now < at_ then s1
    else
      let e := s1.fabric.epoch
      let lost := e.stranded
      let old := 1 - bankOfEpoch e.current
      let s2 := State.modEpoch { s1 with ports := s1.ports.map (fun p => (p.1, p.2.retire old)) } (fun e => { e with
        retireAt := none, stranded := [], expiredAfter := 0
        images := e.images.map (fun i => (i.mod 0 (fun k => if k.state = .old then { k with state := .free } else k)).mod 1
          (fun k => if k.state = .old then { k with state := .free } else k))
        drains := match e.drains with
          | d :: r => { d with retireTick := s1.tickNow, forced := e.forced } :: r
          | [] => [] })
      let s3 := if s2.fabric.epoch.state = .draining then s2.setEpochState .stable else s2
      let s4 := s3.readExpired .expired
      let s5 := match s4.fabric.epoch.forcedStage with
        | some f => ((s4.modEpoch (fun e => { e with forcedStage := none })).setEpochState .staging).orderStage f.1 f.2.1 f.2.2
        | none => s4
      lost.foldl (fun t a =>
        if a < 0x8000 then { t with access := { t.access with failDue := t.access.failDue ++ [a] } }
        else { t with fabric := { t.fabric with resetDue := t.fabric.resetDue ++ [a] } }) s5

/-! ### Failover (R299, R300) -/

/-- Count conflicts of pins (R307). -/
def State.countPins (s : State) (hit : Pin → Bool) : State :=
  let n := (s.fabric.epoch.pins.filter hit).length
  s.modEpoch (fun e => { e with
    pins := e.pins.map (fun p => if hit p then { p with conflicts := satAdd 32 p.conflicts 1 } else p)
    pinConflicts := satAdd 32 e.pinConflicts n })

/-- No neighbour's link to a switch is UP or in RETRAIN, those reported now or waiting for the marker included: the switch is lost (R299, R302).
A lost switch tells of its own ends no more. -/
def State.switchGone (s : State) (lost : List (Nat × Nat)) (a : Nat) : Bool :=
  let toward := s.ownSection.links.filter (fun l => l.dst == a)
  let now_ (l : TopoLink) : Nat := ((s.mail.linkNews.reverse.find? (fun e => e.1 == l.src && le e.2 0 1 == l.sport)).map (fun e =>
    le e.2 1 1)).getD l.lstate
  toward != [] && toward.all (fun l => lost.contains (l.src, l.sport) || (now_ l != 2 && now_ l != 3))

/-- A prepared failure covers a lost switch, or a lost link (R275, R299). -/
def State.preparedFor (s : State) (lost : List (Nat × Nat)) : Option Prepared :=
  let sets := s.fabric.epoch.prepared.filter (fun p => p.tag == s.fabric.epoch.current)
  (sets.find? (fun p => p.kind == 1 && s.switchGone lost p.addr)).or (sets.find? (fun p => p.kind == 0 &&
    lost.any (fun l => (l.1 == p.addr && l.2 == p.port) || (match (s.boltSection (boltOf p.addr)).link p.addr p.port with
      | some k => k.dst == l.1 && k.dport == l.2
      | none => false))))

/-- Send FAILOVER for 3 ticks ahead when a prepared set covers the loss, no overlay is in force and no ACTIVATE is pending at
or before that tick (R299, R300). -/
def State.failoverFor (s : State) (lost : List (Nat × Nat)) : State :=
  let e := s.fabric.epoch
  let late : Bool := match e.commitAt with
    | some c => decide (c ≤ s.clock.now + 3)
    | none => false
  if e.overlay.isSome ∨ late ∨ !s.isPrimary then s
  else match s.preparedFor lost with
    | none => s
    | some p =>
      let tick := s.nameTick 3
      let body := toLe 1 2 ++ zeros 1 ++ toLe 2 e.current ++ toLe 6 tick ++ toLe 2 p.id ++ zeros 4
      let agents := ((p.entries.map Prod.fst).eraseDups).filter (· < 0xF000)
      let s1 := agents.foldl (fun t a => (t.mirrorAction a 0x05 body tick).ask a 0x05 body none Purpose.failover.code) s
      (s1.countPins (fun q => p.bound.contains q.id)).modEpoch (fun e => { e with
        overlay := some p.id, overlayAt := some (s.clock.now + 3) })

end Sys2Proof.Machine
end

