-- ==== Sys2Proof/Machine/Solving.lean ====
section
/-! DEFINITION. How Geneels solve together (spec 07_route_solver R264 to R279): the coordinator's, a solver's and a
receiver's part, and the messages between them. What a Geneel would send itself is done at once. -/

namespace Sys2Proof.Machine

open Sys2Proof

/-- The parameters of R273 as a message carries them. -/
def encodeParams (p : SolveParams) : Bytes :=
  toLe 1 p.scope ++ toLe 1 p.flags ++ toLe 1 p.paths ++ toLe 1 p.ranges.length ++ toLe 4 p.h ++ toLe 4 p.q ++ toLe 4 p.s
    ++ p.ranges.flatMap (fun r => toLe 2 r.1 ++ toLe 2 r.2)

/-- Read the parameters of R273; with DEFAULTS those of R246 stand in for bytes 4 to 15. -/
def decodeParams (b : Bytes) : SolveParams :=
  let dflt := bit (le b 1 1) 1
  { scope := le b 0 1, flags := le b 1 1, paths := le b 2 1
    ranges := (chunks 4 (le b 3 1) (b.drop 16)).map (fun r => (le r 0 2, le r 2 2))
    h := if dflt then 3000 else le b 4 4, q := if dflt then 400 else le b 8 4, s := if dflt then 1000 else le b 12 4 }

/-- Change the running solve. -/
def State.modSolve (s : State) (f : Solve → Solve) : State :=
  { s with fabric := { s.fabric with solve := s.fabric.solve.map f } }

/-- Geneels that take part: this one and the listed peers that are not absent (R264, R661). -/
def State.solverIds (s : State) : List Nat :=
  s.machineIds.filter (fun i => i == s.ownId || s.twin.peers.any (fun p => p.id == i && !p.absent))

/-- Core cycles of the tiles in a tick (R72, R259). -/
def State.tileRate (s : State) : Nat := coreClock s.power.op * s.clock.period

/-- Send to every solver but this Geneel. -/
def State.toSolvers (s : State) (type : Nat) (body : Bytes) : State :=
  (s.solverIds.filter (· != s.ownId)).foldl (fun t i => t.send (t.msgTo (0xF000 + i) type body)) s

/-! ### The end of a solve -/

/-- The solver list with tiles, ascending Geneel ID (R267). -/
def Solve.tileList (v : Solve) : List (Nat × Nat) := (v.tiles.zipIdx.map (fun t => (t.2, t.1))).filter (fun t => t.2 != 0)

/-- The lanes of a destination: within 8 links, and without that limit (R250, R251). -/
def Solve.lanes (v : Solve) (d : Nat) : Lane × Lane :=
  (solveLane v.links (fun _ => false) 8 d, solveLane v.links (fun _ => false) v.nodes.length d)

/-- The bolt's image as its pins bound it. Solvers hold the pins of their own bolt alone, so each bolt selects its pinned entries again
on the agreed copy (log entry 173; R255, R306). -/
def Solve.pinnedImage (v : Solve) : List (Nat × Nat × Nat) :=
  v.image.map (fun e => match pinnedPorts v.pins e.1 e.2.1 with
    | none => e
    | some _ => (e.1, e.2.1, (selectEntry v.links v.nodes v.pins v.params (v.lanes e.2.1).1 (v.lanes e.2.1).2 e.1).1))

/-- Unroutable pairs of the nodes that a test takes, with their causes, pins of this bolt among them; a node too far from the tick
master for the tick tree is one too (R59, R251, R255, R257). -/
def State.solveUnroutable (s : State) (v : Solve) (of : Nat → Bool) : List Unroutable :=
  let bad := (v.dests.flatMap (fun d => (solveColumn v.links v.nodes v.pins v.params (fun _ => false) d).unroutable)).filter
    (fun u => of u.src)
  let root := s.coordinator
  let far : List Unroutable := if !v.dests.contains root then [] else
    ((farFrom v.links v.nodes root).filter (fun n => of n.addr && !bad.any (fun u => u.src == n.addr && u.dst == root))).map (fun n => { src := n.addr, dst := root, cause := 1 })
  bad ++ far

/-- The batches of a solve: greatest sweep counts and the solver's good tiles (R259, R267, R269). -/
def Solve.batchList (v : Solve) : List (Nat × Nat × Nat) :=
  (splitShares v.dests.length v.tileList).flatMap (fun e =>
    let to_ := ((v.shares.find? (fun x => x.1 == e.1)).map Prod.snd).getD e.1
    let tiles := ((v.tileList.find? (fun t => t.1 == to_)).map Prod.snd).getD 1
    (List.range (e.2.2 - e.2.1)).map (fun i =>
      let lanes := ((v.dests.drop (64 * (e.2.1 + i))).take 64).map (fun d => (v.lanes d).1)
      ((lanes.map Lane.sd).foldl max 0, (lanes.map Lane.su).foldl max 0, tiles)))

/-- The result of R274. -/
def State.solveReport (s : State) (v : Solve) (pairs : Nat) : Bytes :=
  let batches := v.batchList
  let steps := (batches.map (fun b => 64 * b.2.2 * batchCycles v.links b.1 b.2.1 b.2.2)).foldl (· + ·) 0
  let tags := (List.range 32).map (fun b => ((v.done.find? (fun d => d.2.1 == b)).map (fun d => d.2.2.2.2.1)).getD 0)
  toLe 4 v.id ++ toLe 1 v.tileList.length ++ toLe 1 (flag v.stale + 2 * flag (decide (v.tileList.length = 1)))
    ++ toLe 2 v.repeats ++ toLe 4 v.dests.length ++ toLe 4 pairs ++ toLe 8 steps ++ toLe 6 v.startTick ++ toLe 6 s.tickNow
    ++ toLe 1 ((batches.map (fun b => b.1)).foldl max 0) ++ toLe 1 ((batches.map (fun b => b.2.1)).foldl max 0) ++ toLe 2 v.moved ++ field (v.agreed.flatMap (toLe 4)) 0 128 ++ tags.flatMap (toLe 2)
    ++ field (((s.solveUnroutable v (fun _ => true)).take 64).flatMap (fun u => toLe 2 u.src ++ toLe 2 u.dst ++ toLe 1 u.cause ++ zeros 3)) 0 512

/-- A request is served by a solve: equal parameters, the scope covered (R272). -/
def coversRequest (v p : SolveParams) : Bool :=
  v.paths == p.paths && v.h == p.h && v.q == p.q && v.s == p.s
    && (v.scope == 0 || (p.scope == 1 && p.ranges.all (fun r => v.ranges.contains r)))

/-- Requests of this Geneel that an ended solve serves are noted with its outcome. -/
def State.noteFinished (s : State) (p : SolveParams) (id outcome : Nat) : State :=
  let mine := s.fabric.requested.filter (fun r => coversRequest p r.2)
  { s with fabric := { s.fabric with
      requested := s.fabric.requested.filter (fun r => !coversRequest p r.2)
      requestIds := s.fabric.requestIds.filter (fun r => !mine.any (fun m => m.1 == r.1))
      finished := s.fabric.finished ++ mine.map (fun r => (r.1, id, outcome)) } }

/-- Call a solve as coordinator (R264, R265): SOLVE_CALL for the next tick but one of the request. -/
def State.callSolve (s : State) (p : SolveParams) (reqs : List (Nat × Nat)) (repeats : Nat) (epochRepeat : Bool := false) : State :=
  let id := s.fabric.nextSolve
  let v : Solve := {
    id := id, params := p, coordinator := s.ownAddr, callTick := s.nameTick 1, callAt := s.clock.now + 1, from_ := reqs
    repeats := repeats, epochRepeat := epochRepeat }
  let s1 := { s with fabric := { s.fabric with solve := some v, nextSolve := id % (2 ^ 32 - 1) + 1, keptDeltas := [] } }
  s1.toSolvers 0x41 (toLe 4 id ++ toLe 6 v.callTick ++ zeros 2 ++ encodeParams p)

/-- Requests with equal parameters merge into one solve, whose scope is the union (R272). -/
def mergeRequests (a b : SolveRequest) : Option SolveRequest :=
  let (p, q) := (a.params, b.params)
  if p.paths = q.paths ∧ p.h = q.h ∧ p.q = q.q ∧ p.s = q.s then
    some { params := { p with scope := if p.scope = 0 ∨ q.scope = 0 then 0 else 1, flags := p.flags ||| q.flags
                              ranges := if p.scope = 0 ∨ q.scope = 0 then [] else (p.ranges ++ q.ranges).eraseDups }
           from_ := a.from_ ++ b.from_ }
  else none

/-- When a solve ends, the oldest queued request runs, merged with the later ones of equal parameters (R272). -/
def State.nextQueued (s : State) : State :=
  if s.fabric.solve.isSome then s
  else match s.fabric.queue with
    | [] => s
    | r :: rest =>
      let (merged, left) := rest.foldl (fun (acc : SolveRequest × List SolveRequest) q =>
        match mergeRequests acc.1 q with
        | some m => (m, acc.2)
        | none => (acc.1, acc.2 ++ [q])) (r, [])
      ({ s with fabric := { s.fabric with queue := left } }).callSolve merged.params merged.from_ 0

/-- The coordinator abandons a solve (R272): SOLVE_ABORT to all; for reason 1 it is repeated once at once, the others end it. -/
def State.abortSolve (s : State) (reason : Nat) : State :=
  match s.fabric.solve with
  | none => s
  | some v =>
    let s1 := s.toSolvers 0x46 (toLe 4 v.id ++ toLe 1 reason)
    let s2 := { s1 with fabric := { s1.fabric with solve := none, keptDeltas := [] } }
    if reason = 1 ∧ !v.epochRepeat then s2.callSolve v.params v.from_ (v.repeats + 1) true
    else if reason = 2 then (s2.noteFinished v.params v.id 2).nextQueued
    else if reason = 3 ∨ reason = 1 then (s2.noteFinished v.params v.id 3).nextQueued
    else s2

/-- A usable link or node of the agreed copy is gone (R272). -/
def State.copyStale (s : State) (v : Solve) : Bool :=
  let now := snapLinks s.shownSections v.params
  v.links.any (fun l => !(now.any (fun k => k.src == l.src && k.sport == l.sport && k.dst == l.dst)))

/-- Links have come, gone or changed their width since the agreed copy (R301). -/
def State.copyMoved (s : State) (v : Solve) : Bool :=
  let key (l : SnapLink) : Nat × Nat × Nat × Nat := (l.src, l.sport, l.dst, l.width)
  let now := (snapLinks s.shownSections v.params).map key
  let then_ := v.links.map key
  now.any (fun l => !then_.contains l) || then_.any (fun l => !now.contains l)

/-- The coordinator repeats a solve on a new snapshot when a link or node of its copy is lost, up to 3 times for that (R272). A repair's solve, a
FULL one with the PREP flag, is repeated for a return or a change of width as well (R301; DEDUCED, log entry 238: no message says that a request is
a repair's). -/
def State.staleMarker (s : State) : State :=
  match s.fabric.solve with
  | none => s
  | some v =>
    if v.begun ∧ v.coordinator = s.ownAddr ∧ v.repeats - flag v.epochRepeat < 3
        ∧ (s.copyStale v ∨ (v.params.scope = 0 ∧ v.params.flags % 2 = 1 ∧ s.copyMoved v)) then
      ({ s with fabric := { s.fabric with solve := none, keptDeltas := [] } }).callSolve v.params v.from_ (v.repeats + 1) v.epochRepeat
    else s

/-- Every bolt's Geneels have sent SOLVE_DONE with status 0 (R271). -/
def State.solveComplete (s : State) (v : Solve) : Bool :=
  s.solverIds.all (fun i => v.done.any (fun d => d.1 == 0xF000 + i && d.2.2.1 == 0))

/-- The result this Geneel keeps of a solve (R271, R274, R286). -/
def State.solveResult (s : State) (v : Solve) : SolveResult :=
  let bolts := (v.done.map (fun d => d.2.1)).eraseDups
  let pairs := (bolts.map (fun b => ((v.done.find? (fun d => d.2.1 == b)).map (fun d => d.2.2.2.2.2)).getD 0)).foldl (· + ·) 0
  { id := v.id, params := v.params, image := v.pinnedImage
    tags := (List.range 32).map (fun b => ((v.done.find? (fun d => d.2.1 == b)).map (fun d => d.2.2.2.2.1)).getD 0)
    agreed := v.agreed, stale := v.stale, moved := s.copyMoved v, destinations := v.dests.length, columns := v.dests, links := v.links
    nodes := v.nodes, report := s.solveReport v pairs, called := v.callAt, unroutableCount := pairs, pins := v.pins }

/-- Batches of a share, first destination index and share (R267). -/
def Solve.shareBatches (v : Solve) (share : Nat) : List (Nat × Nat) :=
  ((splitShares v.dests.length v.tileList).filter (fun e => e.1 == share)).flatMap (fun e =>
    (List.range (e.2.2 - e.2.1)).map (fun i => (64 * (e.2.1 + i), share)))

/-- A share goes to an assignee, who may be the same (R269, R270): its data here are dropped, every Geneel is to report anew, the assignee
computes and sends it again, and a solver that loses it records the event at S2. -/
def State.moveShare (s : State) (share to_ : Nat) : State :=
  match s.fabric.solve with
  | none => s
  | some v =>
    let old := ((v.shares.find? (fun e => e.1 == share)).map Prod.snd).getD share
    let s1 := s.modSolve (fun w => { w with
      reported := false, done := []
      moved := if old = to_ then w.moved else w.moved + 1
      shares := w.shares.map (fun e => if e.1 = share then (share, to_) else e)
      refused := if old = to_ ∨ w.refused.contains old then w.refused else w.refused ++ [old]
      batches := w.batches.filter (fun e => e.2 != share) ++ (if to_ = s.ownId then w.shareBatches share else [])
      image := w.image.filter (fun e =>
        solverOf w.dests.length w.tileList ((w.dests.findIdx (· == e.2.1)) / 64) != some share) })
    if old = s.ownId ∧ to_ ≠ s.ownId then s1.fault { source := 0xF904, code := 0x24 } else s1

/-- A complete solve ends here: the result is held, the bolt's pin conflicts are counted, and requests that it serves are noted (R255, R271,
R307). -/
def State.endSolve (s : State) (v : Solve) : State :=
  let w := { v with stale := s.copyStale v }
  let s1 := { s with fabric := { s.fabric with
      results := lastN 16 (s.fabric.results ++ [s.solveResult w]), solve := none, keptDeltas := [], repeating := none } }
  let hit (p : Pin) : Bool := v.pins.any (fun q => q.id == p.id) && v.dests.any (fun d => p.first ≤ d && d ≤ p.last
    && pinConflict v.links v.nodes v.pins v.params (v.lanes d).1 (v.lanes d).2 p.node)
  let s2 := (s1.countPins hit).noteFinished v.params v.id 0
  if v.coordinator = s.ownAddr then s2.nextQueued else s2

/-- A SOLVE_DONE is counted (R271). The coordinator moves a refused share and has differing images sent again once (R269, R270); with every
SOLVE_DONE in, and images that agree, the solve is complete. -/
def State.gotSolveDone (s : State) (addr bolt status share tag : Nat) (digest : Bytes) (pairs : Nat) : State :=
  match s.fabric.solve with
  | none => s
  | some v =>
    let v1 := { v with done := v.done.filter (fun d => d.1 != addr) ++ [(addr, bolt, status, digest, tag, pairs)] }
    let s1 := s.modSolve (fun _ => v1)
    let mine : Bool := v.coordinator == s.ownAddr
    if mine ∧ status = 1 then
      let old := ((v.shares.find? (fun e => e.1 == share)).map Prod.snd).getD share
      let others := v.tileList.filter (fun t => t.1 != share && t.1 != old && !v.refused.contains t.1)
      match (sortBy (fun t => (255 - t.2) * 256 + t.1) others) with
      | [] => s1.abortSolve 2
      | t :: _ => (s1.toSolvers 0x47 (toLe 4 v.id ++ toLe 1 share ++ toLe 1 t.1)).moveShare share t.1
    else if s1.solveComplete v1 then
      if v1.done.any (fun d => v1.done.any (fun e => d.2.1 == e.2.1 && d.2.2.2.1 != e.2.2.2.1)) then
        if !mine then s1
        else if v.resent then s1.abortSolve 3
        else (v.shares.foldl (fun t e => (t.toSolvers 0x47 (toLe 4 v.id ++ toLe 1 e.1 ++ toLe 1 e.2)).moveShare e.1 e.2) s1).modSolve
          (fun w => { w with resent := true })
      else s1.endSolve v1
    else s1

/-- This Geneel's SOLVE_DONE (R264, R271), to the coordinator and the requester; no message names the requester to a solver, so it goes to
every Geneel that takes part (DESIGN CHOICE, log entry 59), each of which so learns when the solve is complete. -/
def State.sendSolveDone (s : State) (status share : Nat) : State :=
  match s.fabric.solve with
  | none => s
  | some v =>
    let img := sortBy (fun e => e.1 * 65536 + e.2.1) v.image
    let digest := if status = 0 then shake32 (img.flatMap (fun e => toLe 2 e.1 ++ toLe 2 e.2.1 ++ toLe 8 e.2.2)) else zeros 32
    let pairs := (s.solveUnroutable v (fun a => boltOf a == s.up.bolt)).length
    let body := toLe 4 v.id ++ toLe 1 s.up.bolt ++ toLe 1 status ++ toLe 1 share ++ zeros 1 ++ toLe 2 v.tag ++ zeros 2 ++ digest
      ++ toLe 4 pairs
    let s1 := s.modSolve (fun w => { w with reported := true })
    (s1.toSolvers 0x45 body).gotSolveDone s.ownAddr s.up.bolt status share v.tag digest pairs

/-! ### Receiving and checking (R268, R269) -/

/-- The direction of an entry at a node: up, down, or mixed. -/
def entryUp (links : List SnapLink) (u e : Nat) : Option Bool :=
  match (entryPorts e).map (fun q => links.find? (fun l => l.src == u && l.sport == q)) with
  | [] => none
  | l =>
    if l.all (fun k => match k with
      | some x => x.up
      | none => false) then some true
    else if l.all (fun k => match k with
      | some x => !x.up
      | none => false) then some false
    else none

/-- The checks of R269 on one entry of the bolt's image: at its own address an agent has the self entry, elsewhere none. -/
def entryOk (v : Solve) (bolt : Nat) (e : Nat × Nat × Nat) : Bool :=
  if e.1 = e.2.1 then e.2.2 == selfEntry
  else if e.2.2 = 0 then true
  else match entryUp v.links e.1 e.2.2 with
    | none => false
    | some true => true
    | some false => (entryPorts e.2.2).all (fun q => match v.links.find? (fun l => l.src == e.1 && l.sport == q) with
        | none => false
        | some l =>
          if boltOf l.dst ≠ bolt then true
          else v.image.any (fun f => f.1 == l.dst && f.2.1 == e.2.1 &&
            (f.2.2 == selfEntry || entryUp v.links f.1 f.2.2 == some false)))

/-- Nodes of the bolt that must hold entries (R244). -/
def Solve.boltNodes (v : Solve) (bolt : Nat) : List SnapNode := (entryNodes v.nodes).filter (fun n => n.bolt == bolt)

/-- Check the image once every entry is in, and report (R269). -/
def State.imageCheck (s : State) : State :=
  match s.fabric.solve with
  | none => s
  | some v =>
    if v.reported ∨ !v.begun ∨ v.image.length < (v.boltNodes s.up.bolt).length * v.dests.length then s
    else
      let bad := v.image.find? (fun e => !entryOk v s.up.bolt e)
      match bad with
      | none => s.sendSolveDone 0 0
      | some e =>
        let share := (solverOf v.dests.length v.tileList ((v.dests.findIdx (· == e.2.1)) / 64)).getD 0
        s.sendSolveDone 1 share

/-- Place entries of a node from a destination index on, replacing earlier ones (R268). -/
def Solve.place (v : Solve) (node first : Nat) (es : List Nat) : Solve :=
  let new := es.zipIdx.filterMap (fun e => (v.dests[first + e.2]?).map (fun d => (node, d, e.1)))
  { v with image := v.image.filter (fun o => !(new.any (fun n => n.1 == o.1 && n.2.1 == o.2.1))) ++ new }

/-! ### Solving (R259, R265, R267) -/

/-- Apply the kept deltas of a section up to the agreed generation (R265). -/
def applyDelta (x : TopoSection) (d : SectionDelta) : TopoSection :=
  if d.gen ≠ (x.gen + 1) % 2 ^ 32 then x
  else
    let x1 := { x with
      gen := d.gen, tick := d.tick, items := d.items, itemCount := d.itemCount, nodes := x.nodes.filter (fun n => !d.gone.contains n.addr) }
    let x2 := d.nodes.foldl TopoSection.putNode x1
    d.links.foldl TopoSection.putLink { x2 with links := x2.links.filter (fun l => !d.gone.contains l.src) }

/-- The solve copy moved to the agreed vector, or none when it is not held (R265). -/
def agreeCopy (copy : List TopoSection) (kept : List SectionDelta) (agreed : List Nat) : Option (List TopoSection) :=
  let moved := copy.map (fun x => (sortBy SectionDelta.gen (kept.filter (fun d => d.bolt == x.bolt
    && d.gen ≤ agreed.getD x.bolt 0))).foldl applyDelta x)
  if (List.range 32).all (fun b =>
    ((moved.find? (fun x => x.bolt == b)).map TopoSection.gen).getD 0 == agreed.getD b 0) then some moved else none

/-- The bolt's pins that bind a solve (R305, R306): those whose tick came before its call, and those whose APPLY it serves. -/
def State.pinsFor (s : State) (v : Solve) : List Pin :=
  let serves (c : Option Nat) : Bool := match c with
    | none => false
    | some id => s.fabric.requested.any (fun r => r.1 == .pin id && coversRequest v.params r.2)
  s.fabric.epoch.pins.filter (fun p => (decide (p.from_ < v.callAt) || serves p.apply) && !serves p.unapply
    && (match p.until_ with
      | some u => decide (v.callAt ≤ u)
      | none => true))

/-- The start tick: the solve copy moves to the agreed vector, and the Geneel has its batches; one that does not hold the vector, or of which a
section moved more than 16 generations, solves nothing and tells so with status 2 (R265 to R267). -/
def State.goSolve (s : State) : State :=
  match s.fabric.solve with
  | none => s
  | some v =>
    let s0 := s.modSolve (fun w => { w with begun := true, tag := (s.fabric.epoch.current + 1) % 65536 })
    match (if v.overrun then none else agreeCopy v.copy s.fabric.keptDeltas v.agreed) with
    | none => s0.sendSolveDone 2 0
    | some copy =>
      let nodes := snapNodes copy
      let dests := destinations nodes v.params
      let list := v.tileList
      let split := splitShares dests.length list
      (s0.modSolve (fun w => { w with
        copy := copy, nodes := nodes, links := snapLinks copy v.params, dests := dests, shares := list.map (fun t => (t.1, t.1))
        pins := s.pinsFor v, tilesSeen := s.tiles
        batches := (split.filter (fun e => e.1 == s.ownId)).flatMap (fun e =>
          (List.range (e.2.2 - e.2.1)).map (fun i => (64 * (e.2.1 + i), s.ownId))) }))

/-- The marker of the start tick (R265). -/
def State.goMarker (s : State) : State :=
  if s.fabric.solve.any (fun v => !v.begun && v.agreed != [] && decide (v.startAt ≤ s.clock.now)) then s.goSolve else s

/-- SOLVE_GO is in: the agreed vector, the tiles and the start tick (R265). -/
def State.setGo (s : State) (startTick startAt : Nat) (agreed tiles : List Nat) : State :=
  s.modSolve (fun w => if w.begun then w else { w with agreed := agreed, tiles := tiles, startTick := startTick, startAt := startAt })

/-- A vector reaches the coordinator; with all in hand it sends SOLVE_GO, or aborts when no solver has a tile (R265,
R272). A Geneel that is not healthy takes part as a receiver alone (R49). -/
def State.gotVector (s : State) (id tiles status : Nat) (gens : List Nat) : State :=
  match s.fabric.solve with
  | none => s
  | some v =>
    if v.gone ∨ v.coordinator ≠ s.ownAddr then s
    else
      let vs := v.vectors.filter (fun e => e.1 != id) ++ [(id, tiles, status, gens)]
      let s1 := s.modSolve (fun w => { w with vectors := vs })
      if !(s.solverIds.all (fun i => vs.any (fun e => e.1 == i))) then s1
      else
        let good := (List.range 64).map (fun i =>
          ((vs.find? (fun e => e.1 == i && e.2.2.1 == 0 && s.healthyId i)).map (fun e => e.2.1)).getD 0)
        if good.all (· == 0) then s1.abortSolve 2
        else
          let agreed := (List.range 32).map (fun b => (vs.map (fun e => e.2.2.2.getD b 0)).foldl max 0)
          let start := s1.nameTick 2
          let s2 := s1.modSolve (fun w => { w with gone := true })
          let s3 := s2.toSolvers 0x43 (toLe 4 v.id ++ toLe 6 start ++ zeros 2 ++ agreed.flatMap (toLe 4) ++ good.flatMap (toLe 1))
          s3.setGo start (s.clock.now + 2) agreed good

/-- The marker of the call tick: the solve copy is frozen and its generations reported (R265). -/
def State.freezeCopy (s : State) : State :=
  match s.fabric.solve with
  | none => s
  | some v =>
    if v.frozen ∨ s.clock.now < v.callAt then s
    else
      let copy := s.shownSections
      let gens := (List.range 32).map (fun b => ((copy.find? (fun x => x.bolt == b)).map TopoSection.gen).getD 0)
      let t := s.tiles
      let status := flag (decide (t = 0))
      let s1 := { s with fabric := { s.fabric with
          solve := some { v with frozen := true, copy := copy }, keptDeltas := s.fabric.heldDeltas } }
      if v.coordinator = s.ownAddr then s1.gotVector s.ownId t status gens
      else s1.send (s1.msgTo v.coordinator 0x42 (toLe 4 v.id ++ toLe 1 t ++ toLe 1 status ++ zeros 2 ++ gens.flatMap (toLe 4)))

/-- Core cycles of the batch that begins at a destination (R259). -/
def State.batchCost (s : State) (v : Solve) (first : Nat) : Nat :=
  let lanes := ((v.dests.drop first).take 64).map (fun d => (v.lanes d).1)
  batchCycles v.links ((lanes.map Lane.sd).foldl max 0) ((lanes.map Lane.su).foldl max 0) s.tiles

/-- A tick gives the tiles its cycles (R72): what trees and deltas took is paid first; the rest is the present batch's, which is abandoned and
run whole again where a tile has been lost (R261). A tick without a batch gives nothing to a later one. -/
def State.tileMarker (s : State) : State :=
  let paid := min s.tileRate s.fabric.tileDebt
  let s1 := { s with fabric := { s.fabric with tileDebt := s.fabric.tileDebt - paid } }
  let t := s.tiles
  s1.modSolve (fun v =>
    if !v.begun ∨ v.batches = [] ∨ t = 0 then { v with ran := 0, tilesSeen := t }
    else { v with ran := (if t < v.tilesSeen then 0 else v.ran) + (s.tileRate - paid), tilesSeen := t })

/-- A batch finishes on the tiles: its entries go to both Geneels of every bolt, 24 to a message; this Geneel's own are placed
(R252, R259, R268). Batches run one after the other, and none is done before the tiles have had the cycles that it takes (R72). -/
def State.batchDone (s : State) : State :=
  match s.fabric.solve with
  | none => s
  | some v =>
    match v.batches with
    | [] => s
    | (first, _) :: rest =>
      let cost := s.batchCost v first
      if !v.begun ∨ s.tiles = 0 ∨ v.ran < cost then s
      else
        let ds := (v.dests.drop first).take 64
        let entries := ds.flatMap (fun d => (solveColumn v.links v.nodes [] v.params (fun _ => false) d).entries)
        let nodeEntries (a : Nat) : List Nat := ds.map (fun d =>
          ((entries.find? (fun e => e.1 == a && e.2.1 == d)).map (fun e => e.2.2)).getD 0)
        let msgs := (entryNodes v.nodes).flatMap (fun n => (List.range (cdiv ds.length 24)).map (fun i =>
          (n, first + 24 * i, ((nodeEntries n.addr).drop (24 * i)).take 24)))
        let s1 := msgs.foldl (fun t m =>
          let body := toLe 4 v.id ++ toLe 1 s.ownId ++ zeros 1 ++ toLe 2 m.1.addr ++ toLe 3 m.2.1 ++ toLe 1 m.2.2.length
            ++ m.2.2.flatMap (toLe 8)
          ([0xF000 + 2 * m.1.bolt, 0xF001 + 2 * m.1.bolt].filter (fun a => a != s.ownAddr
            && s.solverIds.contains (a - 0xF000))).foldl (fun u a => u.send (u.msgTo a 0x44 body)) t) s
        let mine := msgs.filter (fun m => m.1.bolt == s.up.bolt)
        (s1.modSolve (fun w => { mine.foldl (fun x m => x.place m.1.addr m.2.1 m.2.2) w with
          batches := rest, cycles := v.cycles + cost, ran := v.ran - cost })).imageCheck

/-! ### Requests -/

/-- A request reaches the coordinator: called at once, queued, or refused beyond 64 (R272). -/
def State.gotRequest (s : State) (p : SolveParams) (src msgid : Nat) : State × Bool :=
  let r : SolveRequest := { params := p, from_ := [(src, msgid)] }
  if s.fabric.solve.isNone ∧ s.fabric.queue = [] then (s.callSolve p r.from_ 0, true)
  else if 64 ≤ s.fabric.queue.length then (s, false)
  else ({ s with fabric := { s.fabric with queue := s.fabric.queue ++ [r] } }, true)

/-- SOLVE_REQ to another coordinator (R264). -/
def State.sendRequest (s : State) (why : SolveFor) (p : SolveParams) : State :=
  let id := s.nextId
  let s1 := s.send (s.msgTo s.coordinator 0x40 (encodeParams p))
  { s1 with fabric := { s1.fabric with requestIds := s1.fabric.requestIds.filter (fun r => r.1 != why) ++ [(why, id)] } }

/-- Request a solve (R264): SOLVE_REQ to the coordinator, or the coordinator's own part. False when its own queue is full. -/
def State.requestSolve (s : State) (why : SolveFor) (p : SolveParams) : State × Bool :=
  let s1 := { s with fabric := { s.fabric with requested := s.fabric.requested ++ [(why, p)] } }
  if s.coordinator = s.ownAddr then
    let (s2, ok) := s1.gotRequest p s.ownAddr s.nextId
    if ok then (s2, true) else (s, false)
  else (s1.sendRequest why p, true)

/-- A request is refused for a full queue (R272): what asked for it is told ST_NO_RESOURCE. -/
def State.requestRefused (s : State) (msgid : Nat) : State :=
  match s.fabric.requestIds.find? (fun r => r.2 == msgid) with
  | none => s
  | some r => { s with fabric := { s.fabric with
      requestIds := s.fabric.requestIds.filter (fun q => q.2 != msgid)
      requested := s.fabric.requested.filter (fun q => q.1 != r.1)
      finished := s.fabric.finished ++ [(r.1, 0, 0x12 + 256)] } }

/-- The parameters of a repair: FULL, defaults, the PREP flag (R301). -/
def repairParams : SolveParams := { scope := 0, flags := 1 }

/-- Start a repair epoch (R301): the primary requests a FULL solve and records the trigger at S1; changes before the call
tick join it. The key is the address, the port (0xFF for a node) and what changed, the detail the new epoch tag and whether an
overlay applies (R711). -/
def State.requestRepair (s : State) (addr port change : Nat) : State :=
  if !s.isPrimary then s
  else
    let open_ := s.fabric.requested.any (fun r => r.1 == .repair)
    let s1 := s.fault { source := 0xF904, code := 0x23, key := addr + 65536 * port + 16777216 * change,
                        detail := toLe 2 ((s.fabric.epoch.current + 1) % 65536) ++ toLe 1 (flag s.fabric.epoch.overlay.isSome) }
    let s2 := s1.modEpoch (fun e => { e with repairPending := true })
    if open_ then s2 else (s2.requestSolve .repair repairParams).1

/-- A repair that is pending and that nobody works on is asked for again: its solve or its staging has failed, or changes came too late for the
solve of the last one (R301). -/
def State.repairMarker (s : State) : State :=
  let e := s.fabric.epoch
  if s.isPrimary ∧ e.repairPending ∧ e.owner ≠ .repair ∧ !(s.fabric.requested.any (fun r => r.1 == .repair))
      ∧ !(s.fabric.finished.any (fun f => f.1 == .repair)) then (s.requestSolve .repair repairParams).1
  else s

/-- The topology changed at this marker: a change of usability or width starts a repair epoch (R301). Before the first epoch
there is nothing to repair. -/
def State.repairIfChanged (s : State) (before : List (Nat × Nat × Nat)) : State :=
  let after := s.usableOwn
  if before = after ∨ !s.fabric.epoch.started then s
  else
    let on (l : Nat × Nat × Nat) (m : List (Nat × Nat × Nat)) : Bool := m.any (fun k => k.1 == l.1 && k.2.1 == l.2.1)
    match before.find? (fun l => !on l after), after.find? (fun l => !on l before), after.find? (fun l => !before.contains l) with
    | some l, _, _ => s.requestRepair l.1 l.2.1 0
    | none, some l, _ => s.requestRepair l.1 l.2.1 1
    | none, none, some l => s.requestRepair l.1 l.2.1 2
    | none, none, none => s

/-! ### Failover preparation (R275 to R279) -/

/-- The other end of a usable link, from the records. -/
def farEnd (sections : List TopoSection) (l : SnapLink) : Option (Nat × Nat) :=
  (sections.find? (fun x => x.bolt == boltOf l.src)).bind (fun x => (x.link l.src l.sport).map (fun k => (k.dst, k.dport)))

/-- Score of a candidate (R276): a switch by the FAULT_REPORTs received from it in the last hour. -/
def State.failoverScore (s : State) (e : Element) : Nat :=
  if e.kind = 0 then match s.ownSection.link e.addr e.port with
    | some l => 16 * s.retrainCount l + 8 * flag l.degr + (if l.cls = 2 then 4 else 0)
    | none => 0
  else
    let window := s.ticks 3600000000
    1 + 16 * (s.fabric.switchReports.filter (fun r => r.1 == e.addr && decide (s.clock.now ≤ r.2 + window))).length

/-- Candidates of AUTO: the bolt's links by their lower-addressed end, and its switches (R275, R276). -/
def State.failoverCandidates (s : State) : List Element :=
  (s.ownSection.links.filter (fun l => l.lstate == 2 && (l.src < l.dst))).map (fun l =>
      ({ kind := 0, addr := l.src, port := l.sport } : Element))
    ++ (s.ownSection.nodes.filter (fun n => n.kind == 2)).map (fun n => ({ kind := 1, addr := n.addr, port := 0xFF } : Element))

/-- The entries in force at the bolt's nodes. -/
def State.activeEntries (s : State) : List (Nat × Nat × Nat) :=
  s.fabric.epoch.images.flatMap (fun i =>
    ((i.bank (bankOfEpoch s.fabric.epoch.current)).routes).map (fun e => (i.addr, e.1, e.2)))

/-- Every node's entries in force, as far as this primary knows them: the images of its own bolt, and for the nodes of other bolts what the
solve gives them (DEDUCED, log entry 233: their banks come of the same columns). -/
def State.currentEntries (s : State) (r : SolveResult) : List (Nat × Nat × Nat) :=
  let other := r.columns.flatMap (fun d => (solveColumn r.links r.nodes [] r.params (fun _ => false) d).entries)
  s.activeEntries ++ other.filter (fun e => boltOf e.1 != s.up.bolt && e.2.2 != 0)

/-- Status of preparing an element (R275, R278): 0 prepared, 1 no fit, 2 agent below version 3, 3 more than 16 sets. -/
def State.failoverStatus (s : State) (delta : List (Nat × Nat × Nat)) : Nat :=
  let agents := ((delta.map Prod.fst).eraseDups).filter (· < 0xF000)
  let sets (a : Nat) : List Prepared := s.fabric.epoch.prepared.filter (fun p => p.entries.any (fun e => e.1 == a))
  let used (a : Nat) : Nat := ((sets a).map (fun p => (p.entries.filter (fun e => e.1 == a)).length)).foldl (· + ·) 0
  let node (a : Nat) : Option TopoNode := findNode s.fabric.sections a
  if agents.any (fun a => ((node a).map TopoNode.ver).getD 0 < 3) then 2
  else if agents.any (fun a => ((node a).map TopoNode.standby).getD 0
      < used a + (delta.filter (fun e => e.1 == a)).length) then 1
  else if agents.any (fun a => 16 ≤ (sets a).length) then 3
  else 0

/-- Prepare one element on a result: the delta is installed whole or not at all (R277 to R279); its line of the result. -/
def State.prepareOne (s : State) (r : SolveResult) (cmd : Option Nat) (e : Element) : State × Bytes :=
  let current := s.currentEntries r
  let far := farEnd s.fabric.sections
  let aged := agedSwitches r.nodes
  let young (l : List (Nat × Nat × Nat)) : List (Nat × Nat × Nat) := l.map (fun d => (d.1, d.2.1, s.youngPorts r.links aged d.1 d.2.1 d.2.2))
  let delta := young (failoverDelta r.links r.nodes r.pins r.params far e current)
  let st := s.failoverStatus delta
  let id := s.up.bolt * 2048 + s.fabric.epoch.failureSeq
  let line := toLe 2 id ++ toLe 1 e.kind ++ zeros 1 ++ toLe 2 e.addr ++ toLe 1 e.port ++ toLe 1 st ++ toLe 4 delta.length
  let s0 := s.chargeTiles (deltaCycles r.links far e current s.tiles)
  if st ≠ 0 then (s0, line)
  else
    let tag := s0.fabric.epoch.current
    let agents := ((delta.map Prod.fst).eraseDups).filter (· < 0xF000)
    let s1 := agents.foldl (fun t a =>
      (writeBodies 0 2 tag id false ((delta.filter (fun d => d.1 == a)).map Prod.snd)).foldl (fun u w =>
        match cmd with
        | none => (u.writeBank a w.2 Purpose.standby.code).2
        | some c => (u.mirrorDelta 2 a w.2).askFor c a 0x04 w.2 Purpose.standby.code) t) s0
    let free := young (failoverDelta r.links r.nodes [] r.params far e current)
    let differ := delta.filter (fun d => !free.contains d) ++ free.filter (fun d => !delta.contains d)
    let bound := (r.pins.filter (fun q => differ.any (fun d => d.1 == q.node && q.first ≤ d.2.1 && d.2.1 ≤ q.last))).map Pin.id
    (s1.modEpoch (fun x => { x with
      failureSeq := (x.failureSeq + 1) % 2048
      prepared := x.prepared ++ [{ id := id, kind := e.kind, addr := e.addr, port := e.port, tag := tag, entries := delta, bound := bound }] }),
      line)

/-- Run FAILOVER_PREPARE on a solved snapshot (R275 to R278): the listed elements, or up to 64 candidates in descending score
until 16 are prepared. A pin that changed an entry of any of them counts one conflict (R307). -/
def State.prepareFailover (s : State) (r : SolveResult) (cmd : Option Nat) (mode : Nat) (elements : List (Nat × Nat × Nat)) :
    State × Bytes :=
  let auto := mode % 2 = 0
  let list := if auto then
      let current := s.currentEntries r
      let key (e : Element) : Nat :=
        let changed := (failoverDelta r.links r.nodes r.pins r.params (farEnd s.fabric.sections) e current).length
        ((2 ^ 32 - min (2 ^ 32) (s.failoverScore e)) * 2 ^ 32 + (2 ^ 32 - min (2 ^ 32) changed)) * 2 ^ 24 + e.addr * 256 + e.port
      (sortBy key s.failoverCandidates).take 64
    else elements.map (fun e => ({ kind := e.1, addr := e.2.1, port := e.2.2 } : Element))
  let (s1, lines) := list.foldl (fun (acc : State × Bytes) e =>
    if 16 ≤ acc.1.fabric.epoch.prepared.length then acc
    else
      let (t, line) := acc.1.prepareOne r cmd e
      (t, acc.2 ++ line)) (s, [])
  let new := s1.fabric.epoch.prepared.filter (fun p => !s.fabric.epoch.prepared.contains p)
  (s1.countPins (fun q => new.any (fun p => p.bound.contains q.id)), lines)

end Sys2Proof.Machine
end

