-- ==== Sys2Proof/Machine/Discovery.lean ====
section
/-! DEFINITION. The walk (spec 06_discovery R204 to R240): levels, numbering, claims, attestation, the end of a discovery, and
the absorption of a rack. -/

namespace Sys2Proof.Machine

open Sys2Proof

/-- Change the walk. -/
def State.modWalk (s : State) (f : Walk → Walk) : State := { s with fabric := { s.fabric with walk := f s.fabric.walk } }

/-- Change the own section while a walk runs; the generation advances when the walk's change is complete (R210, R232). -/
def State.modOwn (s : State) (f : TopoSection → TopoSection) : State := s.putSection (f s.ownSection)

/-- Report an item of the walk (R211, R231). -/
def State.walkItem (s : State) (i : TopoItem) : State :=
  (s.modOwn (fun x => x.item i)).modWalk (fun w => { w with items := w.items + 1 })

/-- Fields of an IDENT (R174), without its status block. -/
structure IdentInfo where
  serial : Nat
  kind : Nat
  ver : Nat
  ports : Nat
  state : Nat
  measurement : Bytes
  owner : Nat
  /-- the agent's high token (R172) -/
  high : Nat
  standby : Nat
  combine : Nat
  step : Nat
  deriving DecidableEq, Repr

/-- Read an IDENT (R174). -/
def readIdent (b : Bytes) : IdentInfo :=
  { serial := le b 0 8, kind := le b 8 1, ver := le b 9 1, ports := le b 10 1, state := le b 11 1, measurement := field b 16 32
    owner := le b 56 1, high := le b 48 8, standby := le b 60 2, combine := le b 64 2, step := le b 68 2 }

/-- Probe a path of the level: PROBE op 0 (R171, R212); the walk awaits the IDENT. -/
def State.probePath (s : State) (path : List Nat) : State :=
  let id := s.nextId
  (s.askPath path 0x01 (toLe 1 0) .identify).modWalk (fun w => { w with
    awaits := w.awaits ++ [id], probes := w.probes.map (fun p => if p.path = path then { p with msgid := id } else p) })

/-- CLAIM and a LINKSTATE request for every port to a node of the walk (R171, R212). -/
def State.claimNode (s : State) (addr : Nat) (path : List Nat) : State :=
  let id := s.nextId
  let s1 := s.askPath path 0x01 (toLe 1 1 ++ toLe 1 s.up.bolt) .claim addr
  let id2 := s1.nextId
  (s1.askPath path 0x03 [] .linkstate addr).modWalk (fun w => { w with awaits := w.awaits ++ [id, id2] })

/-- The lowest free number below `n` whose address is unused in a section (R216 to R220). -/
def TopoSection.free (x : TopoSection) (n : Nat) (addr : Nat → Nat) : Option Nat :=
  (List.range n).find? (fun k => (x.node (addr k)).isNone)

/-- The address that a new node takes (R216 to R220), and whether it is a spare; none when the bolt's limit for its kind is
full. The endpoints of a walk exchange these numbers at its end, so that they are in placement order. -/
def State.numberFor (s : State) (x : TopoSection) (i : IdentInfo) (path : List Nat) : Option (Nat × Bool) :=
  let b := s.up.bolt
  let spare := (x.free 32 (fun k => 0xE000 + b * 32 + k)).map (fun k => (0xE000 + b * 32 + k, true))
  if i.kind = 2 then (x.free 256 (fun n => 0x8000 + b * 256 + n)).map (fun n => (0x8000 + b * 256 + n, false))
  else if i.kind = 3 then
    let port := path.headD 0
    if port = 38 ∨ port = 39 then some (0xA000 + s.ownId * 2 + (port - 38), false) else none
  else if s.fabric.walk.spares.contains i.serial then spare
  else match x.free 1024 (fun n => b * 1024 + n) with
    | some n => some (b * 1024 + n, false)
    | none => if s.fabric.walk.spares = [] then spare else none

/-- A new node record of an IDENT (R228). -/
def State.newNode (s : State) (i : IdentInfo) (addr : Nat) (spare : Bool) (path : List Nat) : TopoNode :=
  { addr := addr, serial := i.serial, kind := i.kind, ver := min 15 i.ver, agState := i.state, spare := spare
    attest := if i.ver < 3 then 3 else 0, rack := if s.fabric.walk.mode = .absorb then s.fabric.walk.rack else 0
    level := s.fabric.walk.level, ports := i.ports, tick := s.tickNow, combine := i.combine, step := i.step, path := path
    measurement := i.measurement, standby := i.standby }

/-- Ask another bolt's primary to release a serial for a rack move (R239). The spec gives the message no code: the model keeps
the serials asked for. -/
def State.askRelease (s : State) (owner serial : Nat) : State :=
  s.modWalk (fun w => { w with
    asked := w.asked ++ [serial]
    releasing := if w.releasing.contains owner then w.releasing else w.releasing ++ [owner] })

/-- Ports that lead to a node which stays silent have an unknown far end (R215). -/
def TopoSection.unjoin (x : TopoSection) (hit : TopoLink → Bool) : TopoSection :=
  { x with links := x.links.map (fun l => if hit l then { l with dst := 0xFFFF, dport := 0xFF } else l) }

/-- A claimed node stays silent (R215): item kind 7, and the ports that lead to it have an unknown far end; one that did not answer CLAIM
is not in the record. -/
def State.nodeSilent (s : State) (addr : Nat) (unclaimed : Bool) : State :=
  match s.ownSection.node addr with
  | none => s
  | some n =>
    let s1 := (s.walkItem { kind := 7, addr := addr, extra := n.serial }).modOwn (fun x => x.unjoin (fun l => l.dst == addr))
    let s2 := s1.modWalk (fun w => { w with claimed := w.claimed.filter (· != addr) })
    if unclaimed then s2.modOwn (fun x => { x with nodes := x.nodes.filter (fun m => m.addr != addr) }) else s2

/-- The far end of a port that does not answer is unknown (R215); one that the handshake named a Geneel stays known (DEDUCED, log entry 53: R205,
R241 and R244 route to it). -/
def TopoSection.unjoinSilent (x : TopoSection) (src sport : Nat) : TopoSection :=
  x.unjoin (fun l => l.src == src && l.sport == sport && !(0xF000 ≤ l.dst && l.dst ≤ 0xF03F))

/-- A rack move lets an agent of another bolt be claimed: its owner has released it, and the own token exceeds its high token (R172, R239). -/
def State.released (s : State) (i : IdentInfo) : Bool :=
  s.fabric.walk.asked.contains i.serial && !s.fabric.walk.releasing.contains i.owner && decide (i.high < s.twin.token)

/-- One path of a level whose IDENT is in or will not come (R205, R207, R212, R215, R239). -/
def State.walkNode (s : State) (p : Probe) : State :=
  let port := p.path.getLastD 0
  let x := s.ownSection
  match p.ident with
  | none => (s.walkItem { kind := 7, addr := p.parent, port := port }).modOwn (fun y => y.unjoinSilent p.parent port)
  | some b =>
    let i := readIdent b
    let joinTo (t : State) (a : Nat) : State := t.modOwn (fun y => y.join p.parent port a 0xFF)
    match x.bySerial i.serial with
    | some n =>
      if n.retired ∧ s.fabric.walk.mode = .absorb ∧ s.fabric.walk.spares.contains i.serial then
        match x.free 32 (fun k => 0xE000 + s.up.bolt * 32 + k) with
        | none => s.walkItem { kind := 6, extra := i.serial }
        | some k =>
          let a := 0xE000 + s.up.bolt * 32 + k
          let s1 := s.modOwn (fun y => (y.putNode { n with addr := a, spare := true, retired := false }))
          let s2 := (joinTo s1 a).modWalk (fun w => { w with placed := w.placed ++ [i.serial] })
          State.mirrorRetired { s2 with access := { s2.access with retired := s2.access.retired.filter (fun e => e.2 != i.serial) } }
      else if n.addr = 0xFFFF then s else joinTo s n.addr
    | none =>
      let s0 := if s.fabric.walk.asked.contains i.serial then s else s.modWalk (fun w => { w with found := w.found + 1 })
      if p.boundary then s0.modOwn (fun y => match y.link p.parent port with
        | some l => y.putLink { l with boundary := true }
        | none => y)
      else if i.owner ≠ 0xFF ∧ i.owner ≠ s.up.bolt ∧ !s.released i then
        if s.fabric.walk.mode = .absorb ∧ s.fabric.walk.move ∧ !s.fabric.walk.asked.contains i.serial then
          s0.askRelease i.owner i.serial
        else if s.fabric.walk.releasing.contains i.owner then s0
        else s0.walkItem { kind := 9, addr := p.parent, port := port, extra := i.serial }
      else if s.fabric.walk.mode = .refresh then s0.walkItem { kind := 11, addr := p.parent, port := port, extra := i.serial }
      else match s0.numberFor x i p.path with
        | none => s0.walkItem { kind := 6, addr := p.parent, port := port, extra := i.serial }
        | some (a, spare) =>
          let n := s0.newNode i a spare p.path
          let s1 := joinTo (s0.modOwn (fun y => y.putNode n)) a
          let s2 := if i.ver < 3 then s1.walkItem { kind := 5, addr := a, extra := i.serial } else s1
          (s2.claimNode a p.path).modWalk (fun w => { w with
            claimed := w.claimed ++ [a], placed := if i.kind = 1 then w.placed ++ [i.serial] else w.placed })

/-- The probes of a level in the order in which their nodes are numbered: path order, but for endpoints placement order, by the lowest
(switch, port) that leads to each (R212, R219). -/
def State.placementOrder (s : State) (l : List Probe) : List Probe :=
  let fresh (p : Probe) : Bool := match p.ident with
    | some b => (readIdent b).kind == 1 && (s.ownSection.bySerial (readIdent b).serial).isNone
    | none => false
  l.filter (fun p => !fresh p) ++ sortBy (fun (p : Probe) => p.parent * 256 + p.path.getLastD 0) (l.filter fresh)

/-- The level's IDENTs are in, 2 ticks after its probes or later: number and claim (R212, R213). -/
def State.walkIdents (s : State) : State :=
  let w := s.fabric.walk
  if w.stage ≠ 1 ∨ w.awaits ≠ [] ∨ s.clock.now < w.since + 2 then s
  else ((s.placementOrder w.probes).foldl State.walkNode s).modWalk (fun v => { v with stage := 2, probes := [] })

/-- Paths of the next level from one node: ports that have left DOWN and whose far end is not yet found, ascending; none beyond
16 hops (R205, R212). A far end that the handshake names a Geneel is found (DEDUCED, log entry 53). -/
def nextPaths (x : TopoSection) (addr : Nat) : List Probe :=
  match x.node addr with
  | none => []
  | some n =>
    if 16 ≤ n.path.length then []
    else (x.links.filter (fun l => l.src == addr && l.lstate != 0 && l.sport != 0xFF
        && (l.dst == 0xFFFF || (x.node l.dst).isNone) && !(0xF000 ≤ l.dst && l.dst ≤ 0xF03F))).map (fun l =>
      ({ path := n.path ++ [l.sport], parent := addr, boundary := l.cls == 2 } : Probe))

/-- The first level: the Geneel's own UP ports in order F0 to F35, M0, M1, S0, S1 (R212). -/
def State.ownPaths (s : State) : List Probe :=
  ((List.range 40).filter (fun p => (s.port p).link.state == .up)).map (fun p => ({ path := [p], parent := s.ownAddr } : Probe))

/-- A Geneel's own node record (R228). -/
def geneelNode (addr serial tick : Nat) : TopoNode := {
  addr := addr, serial := serial, kind := 4, ver := 3, attest := 1, ports := 40, tick := tick, tier := some 0 }

/-- The twin is a node of the bolt once a link record names it as its far end (R205; DEDUCED: an unreached twin is no node). -/
def State.recordTwin (s : State) : State :=
  let serial := ((s.twin.peers.find? (fun p => 0xF000 + p.id == s.twinAddr)).map Peer.serial).getD (2 ^ 64 - 1)
  s.modOwn (fun x => if x.links.any (fun l => l.dst == s.twinAddr) && !(x.node s.twinAddr).isSome
    then x.putNode (geneelNode s.twinAddr serial s.tickNow) else x)

/-- A port record is taken in by a walk, which reports its items (R223 to R225, R231). -/
def State.walkPort (s : State) (addr : Nat) (rec_ : Bytes) (cleared : Bool) : State :=
  let t := s.modOwn (fun x => s.recordPort x addr rec_ true cleared)
  t.modWalk (fun w => { w with items := w.items + (t.ownSection.itemCount - s.ownSection.itemCount) })

/-- The Geneel itself and its ports enter the section, with its twin where a port names it (R127, R223, R228). -/
def State.recordSelf (s : State) : State :=
  let s1 := s.modOwn (fun x => if (x.node s.ownAddr).isSome then x else x.putNode (geneelNode s.ownAddr s.up.serial s.tickNow))
  ((List.range 40).foldl (fun t p => t.walkPort t.ownAddr ((t.port p).record p) true) s1).recordTwin

/-- Send a session number for a link between agents to both ends: from the one counter of the link, which goes with both its records (R147,
R194). -/
def State.sessionForLink (s : State) (l : TopoLink) (tick : Nat) : State :=
  let both (k : TopoLink) : Bool := ofLink l.src l.sport l.dst l.dport k
  let n := (((s.ownSection.links.filter both).map TopoLink.session).foldl max l.session + 1) % 2 ^ 24
  let s1 := s.modOwn (fun x => { x with links := x.links.map (fun k => if both k then { k with session := n } else k) })
  ([(l.src, l.sport), (l.dst, l.dport)].filter (fun e => e.1 < 0xF000)).foldl (fun t e =>
    let head := toLe 1 e.2 ++ zeros 1 ++ toLe 3 n ++ zeros 3 ++ toLe 6 tick ++ zeros 2
    let nonce := toLe 8 t.twin.token ++ toLe 4 t.nextId
    t.ask e.1 0x11 (head ++ field (Config.gcmTag (t.sessionKeyOf e.1) nonce head []) 0 16) none Purpose.linkSession.code) s1

/-- LINK_SESSION for every UP port of every ATTESTED agent (R147, R194, R212): each link once, from its lower-addressed end or
from this Geneel's own port; a link of an agent of version 2, which has no keys, carries plain flits alone (R202). -/
def State.linkSessions (s : State) (addrs : List Nat) : State :=
  let x := s.ownSection
  let keyed (a : Nat) : Bool := (x.node a).all (fun n => decide (3 ≤ n.ver))
  let links := x.links.filter (fun l => l.lstate == 2 && keyed l.src && keyed l.dst && (addrs.contains l.src || addrs.contains l.dst))
  links.foldl (fun t l =>
    if l.src = t.ownAddr then t.assignSession l.sport 0
    else if l.dst = t.ownAddr ∨ (l.dst < l.src ∧ (x.node l.dst).isSome) then t
    else t.sessionForLink l 0) s

/-- The job 0 link key: generated at the first discovery, and installed in every ATTESTED agent (R212, R577). -/
def State.jobZeroKey (s : State) (addrs : List Nat) : State :=
  let (s1, k) := match s.currentKey 0 0 with
    | some k => (s, k)
    | none =>
      let (t, k) := s.newKey 0 0 0 true
      ((t.peerAddrs.foldl (fun u a => u.keyXfer a k) t).addHolder 0 0 t.ownAddr, k)
  addrs.foldl (fun t a =>
    let id := t.nextId
    (t.keyInstall a k none .jobKey).modWalk (fun w => { w with awaits := w.awaits ++ [id] })) s1

/-- Attested agents of the bolt that do not hold the job 0 link key. -/
def State.keyless (s : State) : List Nat :=
  (s.ownSection.nodes.filter (fun n => n.attest == 1 && n.kind != 4 && !n.retired
    && !(s.holdersOf 0 0).contains n.addr)).map TopoNode.addr

/-- The walk's command ends (R211), with the status of R238 for an absorption, and with the ticks that its budgets added (R74); a release
denied, a solve or a staging that failed gives its own status (R237, R239). -/
def State.walkDone (s : State) : State :=
  let w := s.fabric.walk
  let s1 := { s with fabric := { s.fabric with walk := {
    level := w.level, found := w.found, claims := w.claims, attested := w.attested, items := w.items } } }
  match w.cmd with
  | none => s1
  | some id =>
    let delay := ((s1.cmd id).map (fun c : Cmd => if c.pkt.effTick = 0 then w.late else s1.clock.now - c.due)).getD 0
    if let some (st, d) := w.failed then s1.endCmd id st d
    else if w.items ≠ 0 then s1.endCmd id 0x31 w.items
    else if delay ≠ 0 then s1.endCmd id 0x13 delay
    else s1.endCmd id 0

/-- The walk ends otherwise than R211 says. -/
def State.walkFail (s : State) (status detail : Nat) : State := (s.modWalk (fun w => { w with failed := some (status, detail) })).walkDone

/-- A node of the bolt whose MPORT path to the tick master is longer than 8 links, or that has none, is reported (R59, R257). DESIGN CHOICE (log
entry 216): item kind 6, R231 having none for it. One reported already is not reported again. -/
def TopoSection.reportFar (x : TopoSection) (far : List SnapNode) : TopoSection :=
  (far.filter (fun n => n.bolt == x.bolt)).foldl (fun y n =>
    if y.items.any (fun i => i.kind == 6 && i.addr == n.addr) then y
    else y.item { kind := 6, addr := n.addr, extra := ((x.node n.addr).map TopoNode.serial).getD 0 }) x

/-- The own section at the end of a walk: tiers for the new nodes; links to nodes now in the record are routable, an absorption's too; one
item for the two ends of a link (R224, R237, R247). -/
def State.walkedSection (s : State) (x : TopoSection) : TopoSection :=
  let y := x.giveTiers.mergeItems
  if s.fabric.walk.mode = .refresh then y else { y with links := y.links.map (fun l =>
    if l.lstate = 2 ∧ 2 ≤ l.width ∧ (y.node l.dst).isSome ∧ !s.linkFenced l then { l with routable := true } else l) }

/-- The marker at which a walk's change is applied whole: generation, delta to twin and peers (R210, R232). An absorption then has the solver
solve (R237); what a REFRESH found may need a repair (R301). -/
def State.walkMarker (s : State) : State :=
  if !s.fabric.walk.running ∨ s.fabric.walk.stage ≠ 6 then s
  else
    let before := s.usableOwn
    let s1 := s.recordTwin.modOwn s.walkedSection
    let s2 := (s1.modOwn (fun x => x.reportFar (farFrom (snapLinks s1.fabric.sections {}) (snapNodes s1.fabric.sections) s1.coordinator))).publishSection id
    let s3 := s2.modWalk (fun w => { w with items := s2.ownSection.itemCount })
    if s3.fabric.walk.failed.isSome then s3.walkDone
    else if s3.fabric.walk.mode = .absorb then
      let (s4, ok) := s3.requestSolve .absorb { repairParams with flags := 0 }
      if ok then s4.modWalk (fun w => { w with stage := 5 }) else s3.walkFail 0x12 1
    else if s3.fabric.walk.mode = .refresh then s3.walkDone.repairIfChanged before
    else s3.walkDone

/-- The walk's work is done: its change is applied at the next marker (R232). -/
def State.walkFinish (s : State) : State := s.modWalk (fun w => { w with stage := 6, awaits := [] })

/-- The endpoints of a walk exchange their numbers for placement order, once all are found and before any is written to an agent (R219, R220). -/
def State.placeNodes (s : State) : State :=
  let m := s.ownSection.placement s.fabric.walk.placed s.fabric.walk.spares
  let s1 := s.modOwn (fun x => x.renumber m)
  { s1 with sec := { s1.sec with sessions := s1.sec.sessions.map (fun e => ((kvGet m e.1).getD e.1, e.2)) } }

/-- Where the walk of RACK_ABSORB starts: far ends of records that are not routable and not in the record, and the retired
units that its spare list names (R237). -/
def State.absorbPaths (s : State) : List Probe :=
  let x := s.ownSection
  let own := s.ownPaths.filter (fun p => match x.link s.ownAddr (p.path.headD 0) with
    | some l => l.dst == 0xFFFF || ((x.node l.dst).isNone && !(0xF000 ≤ l.dst && l.dst ≤ 0xF03F))
    | none => true)
  let retired := x.nodes.filter (fun n => n.retired && s.fabric.walk.spares.contains n.serial)
  own ++ (x.links.filter (fun l => !l.routable && l.lstate == 2 && !l.boundary
      && (l.dst == 0xFFFF || (x.node l.dst).isNone) && l.src < 0xF000)).filterMap (fun l =>
    (x.node l.src).bind (fun n => if 16 ≤ n.path.length then none else some ({ path := n.path ++ [l.sport], parent := l.src } : Probe)))
    ++ retired.filterMap (fun n => if n.path = [] then none else some ({ path := n.path, parent := 0xFFFF } : Probe))

/-- Probe a level (R212). -/
def State.probeLevel (s : State) (paths : List Probe) : State :=
  paths.foldl (fun u p => u.probePath p.path) (s.modWalk (fun v => { v with
    stage := 1, probes := paths, claimed := [], reported := [], level := v.level + 1, since := s.clock.now }))

/-- The walk has no level left, and no owner is still to answer: agents released since are probed again (R239); then LINK_SESSION and the job 0
key, and the end (R212). -/
def State.walkKeys (s : State) : State :=
  let w := s.fabric.walk
  if w.stage ≠ 3 ∨ w.sessions ≠ [] ∨ s.sec.attesting ≠ [] ∨ w.releasing ≠ [] then s
  else
    let paths := if w.regrant then s.absorbPaths else []
    if paths ≠ [] then (s.modWalk (fun v => { v with regrant := false })).probeLevel paths
    else
      let s0 := if w.mode = .refresh then s else s.placeNodes
      let fresh := s0.keyless
      if w.mode = .refresh ∨ fresh = [] then s0.walkFinish
      else (((s0.linkSessions fresh).modWalk (fun v => { v with stage := 4, awaits := [] })).jobZeroKey fresh)

/-- The keys are installed or their agents silent: the end (R212). -/
def State.walkKeyed (s : State) : State :=
  if s.fabric.walk.stage = 4 ∧ s.fabric.walk.awaits = [] then s.walkFinish else s

/-- A level is claimed: its links are recorded, its agents attested, and the next level's paths probed (R212, R213). -/
def State.walkLevel (s : State) : State :=
  let w := s.fabric.walk
  if w.stage ≠ 2 ∨ w.awaits ≠ [] then s
  else
    let cleared := w.mode ≠ .absorb
    let s1 := w.reported.foldl (fun t r =>
      (chunks 12 (r.2.length / 12) r.2).foldl (fun u rec_ => u.walkPort r.1 rec_ cleared) t) s
    let s2 := s1.ownSection.links.foldl (fun t l => match t.ownSection.link l.dst l.dport with
      | some k => if k.dst = 0xFFFF then t.modOwn (fun x => x.putLink { k with dst := l.src, dport := l.sport }) else t
      | none => t) s1
    let own := if w.mode = .refresh ∧ w.level = 0 then s2.ownPaths.filter (fun p =>
        match s2.ownSection.link s2.ownAddr (p.path.headD 0) with
        | some l => l.dst == 0xFFFF || (s2.ownSection.node l.dst).isNone
        | none => true) else []
    let next := own ++ w.claimed.flatMap (fun a => nextPaths s2.ownSection a)
    let s3 := w.claimed.foldl (fun t a => match t.ownSection.node a with
      | some n => if w.mode ≠ .refresh ∨ n.attest = 0 ∨ n.agState ≤ 1 then
          (t.startAttest a n.serial n.path).modWalk (fun v => { v with sessions := v.sessions ++ [a] })
        else t
      | none => t) s2
    if next = [] then (s3.modWalk (fun v => { v with stage := 3, claimed := [], reported := [] })).walkKeys
    else s3.probeLevel next

/-- A command begins a walk: the section as it stands is shown until the walk's change is complete, and the item report is empty (R210, R211;
log entry 230). -/
def State.beginWalk (s : State) (w : Walk) : State :=
  (s.modWalk (fun _ => { w with before := some s.ownSection })).modOwn (fun x => { x with items := [], itemCount := 0 })

/-- Begin a walk on a list of paths (R212, R237). -/
def State.walkStart (s : State) (w : Walk) (paths : List Probe) : State :=
  let s1 := s.modWalk (fun _ => { w with running := true, stage := 1, level := 1, since := s.clock.now, probes := paths })
  if paths = [] then (s1.modWalk (fun v => { v with stage := 3 })).walkKeys
  else paths.foldl (fun t p => t.probePath p.path) s1

/-- What a reply tells of a node: part of the walk's change while the walk attests it, else a change of its own at the next marker (R232). -/
def State.noteNode (s : State) (inWalk : Bool) (serial : Nat) (attest agState : Option Nat) : State :=
  match s.ownSection.bySerial serial with
  | none => s
  | some n =>
    let m := { n with attest := attest.getD n.attest, agState := agState.getD n.agState }
    if inWalk then s.modOwn (fun x => x.putNode m)
    else if m = n then s
    else { s with fabric := { s.fabric with news := s.fabric.news ++ [.node serial attest agState] } }

/-- The outcome of R214 of a node, with what waits for the next marker. -/
def State.attestOf (s : State) (serial : Nat) : Option Nat :=
  (s.fabric.news.reverse.findSome? (fun e => match e with
    | .node k a _ => if k = serial then a else none
    | _ => none)).or ((s.ownSection.bySerial serial).map TopoNode.attest)

/-- An attestation ends with an outcome (R214); a refused switch loses its links, and item kind 4 is reported. A node of a version below 3
stays OLD whatever comes of it. -/
def State.attestDone (s : State) (a : Attesting) (outcome : Nat) : State :=
  let aged : Bool := (s.ownSection.bySerial a.serial).any (fun n => n.ver < 3)
  let outcome := if aged then 3 else outcome
  let s0 := if outcome = 2 then s.secLog 6 0 0 0 (toLe 8 a.serial) else s
  let s1 := { s0 with sec := { s0.sec with attesting := s0.sec.attesting.filter (fun b => b.serial != a.serial) } }
  let inWalk := s1.fabric.walk.sessions.contains a.addr
  let s2 := s1.noteNode inWalk a.serial (some outcome) (if outcome = 1 then some 3 else none)
  let s3 := if outcome = 2 ∧ inWalk then s2.walkItem { kind := 4, addr := a.addr, extra := a.serial } else s2
  if inWalk then
    (s3.modWalk (fun w => { w with
      sessions := w.sessions.filter (· != a.addr), attested := w.attested + flag (decide (outcome = 1)) })).walkKeys
  else s3

/-- Replies of the walk (R212 to R215): IDENT, LINKSTATE, CERT, SESSION, the job 0 key. A bad status of CLAIM leaves the node
silent. -/
def State.walkReply (s : State) (w : Waiting) (status : Nat) (data : Bytes) : State :=
  let got (t : State) : State := t.modWalk (fun v => { v with awaits := v.awaits.filter (· != w.msg.msgid) })
  if w.kind = Purpose.linkstate.code then
    got (s.modWalk (fun v => { v with reported := v.reported ++ [(w.about, data)] }))
  else if w.kind = Purpose.refresh.code then
    got (s.modWalk (fun v => { v with reported := v.reported ++ [(w.msg.dst, data)] }))
  else if w.kind = Purpose.jobKey.code then
    let s1 := if status = 0 then s.addHolder 0 0 w.msg.dst else s
    (got s1).walkKeyed
  else if w.kind = Purpose.cert0.code then
    { s with sec := { s.sec with attesting := s.sec.attesting.map (fun a =>
        if a.cert0 = w.msg.msgid then { a with cert := data } else a) } }
  else if w.kind = Purpose.cert1.code then
    match s.sec.attesting.find? (fun a => a.cert1 == w.msg.msgid) with
    | none => s
    | some a =>
      match s.ownSection.bySerial a.serial with
      | none => s
      | some n =>
        if status = 0 ∧ s.evidenceGood a.serial n.ver n.measurement a.nonce a.cert data then
          if s.fabric.walk.sessions.contains a.addr then
            { s with sec := { s.sec with attesting := s.sec.attesting.map (fun b =>
                if b.serial = a.serial then { b with evidence := data } else b) } }
          else s.startSession a.addr a.serial a.path (field data 0 1568)
        else (s.selvedgeSpend { ver := 2 }).attestDone a 2
  else if w.kind = Purpose.session.code then
    match s.sec.attesting.find? (fun a => a.session == some w.msg.msgid) with
    | none => s
    | some a => s.attestDone a (if status = 0 then 1 else 2)
  else got s

/-- SESSION to the nodes of a walk, two ticks after their CERT, once their evidence is in and good (R212, R213). -/
def State.walkSessions (s : State) : State :=
  (s.sec.attesting.filter (fun a => s.fabric.walk.sessions.contains a.addr && a.session.isNone && a.evidence != []
    && decide (a.since + 2 ≤ s.clock.now))).foldl (fun t a => t.startSession a.addr a.serial a.path (field a.evidence 0 1568)) s

/-- A message of the walk stays without a reply after its resend (R118, R215). -/
def State.walkSilent (s : State) (w : Waiting) : State :=
  let s1 := s.modWalk (fun v => { v with awaits := v.awaits.filter (· != w.msg.msgid) })
  if w.kind = Purpose.cert0.code ∨ w.kind = Purpose.cert1.code ∨ w.kind = Purpose.session.code then
    match s1.sec.attesting.find? (fun a => a.cert0 == w.msg.msgid || a.cert1 == w.msg.msgid
        || a.session == some w.msg.msgid) with
    | none => s1
    | some a => s1.attestDone a 2
  else if w.kind = Purpose.claim.code ∨ w.kind = Purpose.linkstate.code ∨ w.kind = Purpose.refresh.code then s1.nodeSilent w.about (w.kind == Purpose.claim.code)
  else s1.walkKeyed

/-! ### The marker of the sections (R232, R233) -/

/-- A section with the held deltas that follow it, in order (R233). -/
def applyHeld : Nat → TopoSection → List SectionDelta → TopoSection × List SectionDelta
  | 0, x, held => (x, held)
  | n + 1, x, held =>
    match held.find? (fun d => d.bolt == x.bolt && d.gen == (x.gen + 1) % 2 ^ 32) with
    | none => (x, held)
    | some d => applyHeld n (applyDelta x d) (held.filter (· != d))

/-- The copy of another bolt's section moves on by the deltas that are in (R233). -/
def State.applyPeer (s : State) (bolt : Nat) : State :=
  let (y, held) := applyHeld s.fabric.heldDeltas.length (s.boltSection bolt) s.fabric.heldDeltas
  if y = s.boltSection bolt then s
  else
    let s1 := s.putSection y
    { s1 with fabric := { s1.fabric with heldDeltas := held } }

/-- A change of the own section takes effect (R232, R239, R605). -/
def State.applyNews (s : State) (n : SectionNews) : State := match n with
  | .node serial attest agState => s.changeSection (fun x => match x.bySerial serial with
      | some n => x.putNode { n with attest := attest.getD n.attest, agState := agState.getD n.agState }
      | none => x)
  | .restore a q => s.changeSection (fun x => { x with links := x.links.map (fun l =>
      if hitsLink a q l ∧ !s.linkFenced l ∧ l.lstate = 2 ∧ 2 ≤ l.width ∧ (l.boundary ∨ (x.node l.dst).isSome)
      then { l with routable := true } else l) })
  | .leave _ serials => s.changeSection (fun x =>
      let gone (a : Nat) : Bool := x.nodes.any (fun n => n.addr == a && serials.contains n.serial)
      { x with
          nodes := x.nodes.filter (fun n => !serials.contains n.serial)
          links := (x.links.filter (fun l => !gone l.src)).map (fun l =>
            if gone l.dst then { l with dst := 0xFFFF, dport := 0xFF, routable := false } else l) })

/-- A change is due at this marker. -/
def SectionNews.due (n : SectionNews) (now : Nat) : Bool := match n with
  | .leave at_ _ => decide (at_ ≤ now)
  | _ => true

/-- The sections change at a marker: the own one by what replies and commands have told since the last, each change with its own generation,
and by a walk that is done; the others by the deltas of their primaries (R232, R233). A change of what is usable starts a repair (R301). -/
def State.sectionMarker (s : State) : State :=
  let before := s.usableOwn
  let now_ := s.fabric.news.filter (fun n => n.due s.clock.now)
  let s1 : State := { s with fabric := { s.fabric with news := s.fabric.news.filter (fun n => !n.due s.clock.now) } }
  let s2 := if s1.isPrimary then (now_.foldl State.applyNews s1).repairIfChanged before else s1
  (((s2.fabric.heldDeltas.map SectionDelta.bolt).eraseDups).foldl State.applyPeer s2).walkMarker

/-! ### Slice changes and promotions, as far as solves and epochs know them (R313, R314, R337) -/

/-- Request the solve of a slice change or promotion: the members' columns, or the columns of the bolt's spares, so that
promotions accepted before the call share it (R313, R334, R337). More than 64 ranges are covered by one range per bolt. -/
def State.solveChange (s : State) (c : SliceChange) : State :=
  let ranges := if c.op = 2 then [(0xE000 + 32 * (c.len / 1024), 0xE01F + 32 * (c.len / 1024))]
    else if c.slice.ranges.length ≤ 64 then c.slice.ranges
    else ((c.slice.ranges.map (fun r => r.1 / 1024)).eraseDups).map (fun b => (1024 * b, 1024 * b + 1023))
  let (s1, ok) := s.requestSolve (.slice c.id) { scope := 1, ranges := ranges }
  if ok then s1.modChange c.id (fun d => { d with rides := 0 }) else s.failChange c 0x12 1

/-- A solve has ended for change `n`, or for the pending repair (n = 0 of `rides` 1): the changes that use it wait for STABLE,
or request their own solve when it failed. -/
def State.solvedChanges (s : State) (mine : SliceChange → Bool) (r : Option SolveResult) : State :=
  (s.access.changes.filter (fun c => c.stage == .solving && mine c)).foldl (fun t c =>
    match r with
    | some r => t.modChange c.id (fun d => { d with stage := .waiting, solveId := r.id })
    | none => if c.rides = 0 then t.failChange c 0x30 0xF540 else t.solveChange c) s

/-- A repair whose solve was called after a change was accepted carries it (R314, R337). -/
def State.joinRepair (s : State) (r : SolveResult) : State :=
  (s.access.changes.filter (fun c => (c.stage == .solving || c.stage == .waiting) && c.since ≤ r.called
    && (c.op != 2 || c.rides == 1))).foldl (fun t c =>
      t.modChange c.id (fun d => { d with stage := .waiting, solveId := r.id, rides := 1 })) s

/-! ### What follows a solve and an epoch -/

/-- An APPLY that fails leaves the pins as they were (R108, R305). -/
def State.dropApply (s : State) (c : Nat) : State := s.modEpoch (fun e => { e with
  applyPending := false
  pins := (e.pins.filter (fun p => p.apply != some c)).map (fun p =>
    if p.unapply = some c then { p with unapply := none, until_ := none } else p) })

/-- A result that is to be staged at once is; one whose epoch has passed is discarded, and its solve asked for again (R285, R301, R305): a
repair's at the next marker. -/
def State.stageFor (s : State) (r : SolveResult) (owner : EpochFor) (why : SolveFor) (first : State → State) : State :=
  if s.resultFresh r then (first s).startStaging r.id 0 owner none
  else
    let s1 := s.discardResult r.id
    if owner = .repair then s1
    else
      let (s2, ok) := s1.requestSolve why r.params
      if ok then s2 else { s1 with fabric := { s1.fabric with finished := s1.fabric.finished ++ [(why, 0, 0x12 + 256)] } }

/-- Act on the solves that have ended for requesters of this Geneel (R271 to R274, R237, R275, R301, R305). -/
def State.settleSolve (s : State) (f : SolveFor × Nat × Nat) : State :=
  let (why, id, outcome) := f
  let r := s.fabric.results.find? (fun r => r.id == id)
  match why, r with
  | .command c, some r =>
    if r.unroutableCount = 0 then s.endCmd c 0 0 r.report else s.endCmd c 0x31 r.unroutableCount r.report
  | .command c, none => if 16 ≤ outcome then s.endCmd c (outcome % 256) (outcome / 256) else if outcome = 2 then s.endCmd c 0x30 0xF540 else s.endCmd c 0xF0 0xF540
  | .failover c mode els, some r =>
    let (s1, res) := s.prepareFailover r c mode els
    match c with
    | none => s1
    | some id =>
      let s2 := s1.modCmd id (fun d => { d with data := res.map BitVec.toNat, stage := 1 })
      if ((s2.cmd id).map Cmd.awaits).getD [] = [] then s2.endCmd id 0 0 res else s2
  | .failover c _ _, none => match c with
    | some id => if 16 ≤ outcome then s.endCmd id (outcome % 256) (outcome / 256) else if outcome = 2 then s.endCmd id 0x30 0xF540 else s.endCmd id 0xF0 0xF540
    | none => s
  | .repair, some r => s.stageFor r .repair why (fun t => (t.joinRepair r).prepareChanges r)
  | .repair, none => s.solvedChanges (fun c => c.rides == 1) none
  | .slice n, r => s.solvedChanges (fun c => (c.id == n && c.rides == 0) || c.rides == n + 2) r
  | .absorb, some r => s.stageFor r .absorb why (fun t => t)
  | .absorb, none => if 16 ≤ outcome then s.walkFail (outcome % 256) (outcome / 256) else if outcome = 2 then s.walkFail 0x30 0xF540 else s.walkFail 0xF0 0xF540
  | .pin c, some r => s.stageFor r (.pin c) why (fun t => t)
  | .pin c, none => if 16 ≤ outcome then (s.dropApply c).endCmd c (outcome % 256) (outcome / 256)
    else (s.dropApply c).endCmd c 0xF0 0xF540
  | .peer _ _, _ => s

/-- Act on every ended solve (R271). A repair waits while the machine is neither STABLE nor draining (R284, R301). -/
def State.settleSolves (s : State) : State :=
  let ready := s.fabric.epoch.state == .stable
  let stages (f : SolveFor × Nat × Nat) : Bool := f.2.2 == 0 && (match f.1 with
    | .repair | .absorb | .pin _ => true
    | _ => false)
  let now := s.fabric.finished.filter (fun f => ready || !stages f)
  let later := s.fabric.finished.filter (fun f => !ready && stages f)
  -- one staging at a time: of several that could stage, the first does
  let stagers := now.filter stages
  let rest := now.filter (fun f => !stages f)
  let s1 := { s with fabric := { s.fabric with finished := later ++ stagers.drop 1 } }
  (rest ++ stagers.take 1).foldl State.settleSolve s1

/-- After a commit: an absorption and an APPLY end with the commit (R237, R305); with PREP the bolt's standing mode is prepared
on the result in force, every bolt's by its own primary (R273, R301). -/
def State.afterCommit (s : State) (before : Nat) : State :=
  let e := s.fabric.epoch
  if e.current = before then s
  else
    let s1 := match e.owner with
      | .absorb => s.walkDone
      | .pin id =>
        let delay := ((s.cmd id).map (fun c : Cmd => if c.pkt.effTick = 0 then 0 else s.clock.now - c.due)).getD 0
        let res := ((s.cmd id).map (fun c : Cmd => c.data.flatMap (toLe 2))).getD []
        if delay = 0 then s.endCmd id 0 0 res else s.endCmd id 0x13 delay res
      | _ => s
    match s1.fabric.results.find? (fun r => r.id == e.stagedId) with
    | none => s1.modEpoch (fun e => { e with owner := .host, prep := false })
    | some r =>
      let prep := r.params.flags % 2 == 1
      let s2 := s1.modEpoch (fun e => { e with owner := .host, prep := prep, params := r.params })
      if prep then (s2.prepareFailover r none e.standing.1 e.standing.2).1 else s2

end Sys2Proof.Machine
end

