-- ==== Sys2Proof/Machine/FabricRows.lean ====
section
/-! DEFINITION. The meanings of the discovery, solving and epoch commands (spec 06, 07, 08; opcode classes 0x02 and 0x03) and
of the messages between Geneels that belong to them. -/

namespace Sys2Proof.Machine

open Sys2Proof

/-- Parameters of exactly `n` bytes, else ST_BAD_PARAM at the header's length field (R95, R106). -/
def needLen (p : Packet) (n : Nat) : Check := need (p.bodyLen == n) 12

/-- At least `n` bytes. -/
def needAtLeast (p : Packet) (n : Nat) : Check := need (n ≤ p.bodyLen) 12

/-! ### Discovery commands (R208 to R211) -/

/-- Serials named from byte 8 on. -/
def namedSerials (p : Packet) : List Nat := (List.range (le p.body 2 1)).map (fun i => le p.body (8 + 8 * i) 8)

/-- DISCOVER_START (R208 to R212). At a SECONDARY, for which no rule gives a status, the command measures the delays of its own ports, all that
R206 leaves it, and ends with ST_OK (DESIGN CHOICE, log entry 55). -/
def opDiscoverStart : HostOp := {
  opcode := 0x0201, jobs := .zero
  params := fun p _ s => checks [needAtLeast p 8, need (le p.body 0 1 ≤ 1) (p.off 0),
    need (le p.body 0 1 == 1 || s.ownSection.nodes == []) (p.off 0), need (le p.body 2 1 ≤ 32) (p.off 2),
    needLen p (8 + 8 * le p.body 2 1)]
  reserves := fun _ _ => [.discovery]
  apply := fun p id s =>
    let s1 := s.measureAll
    let w : Walk := {
      cmd := some id, mode := if le p.body 0 1 = 0 then .full else .refresh, spares := namedSerials p }
    if !s.isPrimary then (s1, Fin.ok)
    else if le p.body 0 1 = 0 then
      let s2 := (s1.beginWalk w).recordSelf
      ((s2.walkStart s2.fabric.walk s2.ownPaths).postPending id 0, .running)
    else
      let nodes := s1.ownSection.nodes.filter (fun n => n.kind != 4 && !n.retired && n.addr != 0xFFFF)
      let s2 := (s1.beginWalk { w with running := true, stage := 2, level := 0, since := s1.clock.now }).recordSelf
      let s3 := nodes.foldl (fun t n =>
        let k := t.nextId
        (t.ask n.addr 0x03 [] none Purpose.refresh.code).modWalk (fun v => { v with
          awaits := v.awaits ++ [k], claimed := v.claimed ++ [n.addr] })) s2
      (s3.postPending id 0, .running) }

/-- DISCOVER_START: a FULL walk or a REFRESH (R209). -/
def execDiscoverStart (p : Packet) (s : State) : Host.Outcome State Fault Refusal := s.finish (s.command opDiscoverStart p)

/-- DISCOVER_STATUS (R208): six counts of 4 bytes; the spec gives the fields no widths (DESIGN CHOICE). -/
def opDiscoverStatus : HostOp := {
  opcode := 0x0202, jobs := .zero, query := true, params := fun p _ _ => needLen p 0
  apply := fun _ _ s =>
    let w := s.fabric.walk
    (s, Fin.result (toLe 4 w.level ++ toLe 4 w.found ++ toLe 4 w.claims ++ toLe 4 w.attested
      ++ toLe 4 s.ownSection.links.length ++ toLe 4 w.items)) }

/-- DISCOVER_STATUS. -/
def execDiscoverStatus (p : Packet) (s : State) : Host.Outcome State Fault Refusal := s.finish (s.command opDiscoverStatus p)

/-- A slot of the node table, which is indexed by fabric address; an empty one holds the reset values, ADDR 0xFFFF (R228, R230). -/
def TopoSection.slot (x : TopoSection) (a : Nat) : TopoNode := (x.node a).getD { serial := 0 }

/-- TOPOLOGY_GET (R208, R210, R227 to R231): a part of a bolt's section; the index of a node record is its fabric address. -/
def opTopologyGet : HostOp := {
  opcode := 0x0203, jobs := .zero, query := true
  params := fun p _ _ => checks [needLen p 12, need (le p.body 0 1 ≤ 3) (p.off 0), need (le p.body 1 1 ≤ 31) (p.off 1)]
  apply := fun p _ s =>
    let x := if le p.body 1 1 = s.up.bolt then s.shownSection else s.boltSection (le p.body 1 1)
    let cut {α : Type} (l : List α) : List α := (l.drop (le p.body 4 4)).take (le p.body 8 4)
    (s, Fin.result (match le p.body 0 1 with
      | 0 => x.header
      | 1 => ((List.range (min (le p.body 8 4) (65536 - le p.body 4 4))).map (fun i => x.slot (le p.body 4 4 + i))).flatMap x.nodeBytes
      | 2 => (cut x.links).flatMap s.linkBytes
      | _ => (cut x.items).flatMap itemBytes)) }

/-- TOPOLOGY_GET. -/
def execTopologyGet (p : Packet) (s : State) : Host.Outcome State Fault Refusal := s.finish (s.command opTopologyGet p)

/-- RACK_ABSORB (R237 to R239): walks from the far ends that are not in the record; its epoch commits at the effective tick
or later. -/
def opRackAbsorb : HostOp := {
  opcode := 0x0204, eff := .ea, jobs := .zero
  params := fun p _ _ => checks [needAtLeast p 8, need (le p.body 0 1 ≤ 63) (p.off 0), need (le p.body 2 1 ≤ 32) (p.off 2),
    needLen p (8 + 8 * le p.body 2 1)]
  reserves := fun _ _ => [.discovery]
  start := fun p id s =>
    if !s.isPrimary then s
    else
      let w : Walk := {
        cmd := some id, mode := .absorb, rack := le p.body 0 1, move := bit (le p.body 1 1) 0, spares := namedSerials p }
      let s1 := (s.modCmd id (fun c => { c with phase := .running, begun := true })).beginWalk w
      (s1.walkStart s1.fabric.walk s1.absorbPaths).postPending id p.effTick
  apply := fun _ _ s => if s.isPrimary then (s, .running) else (s, .done 0x20 5 []) }

/-- RACK_ABSORB. -/
def execRackAbsorb (p : Packet) (s : State) : Host.Outcome State Fault Refusal := s.finish (s.command opRackAbsorb p)

/-- LINK_RETRAIN (R124, R127, R129, R216, R515): a full training of the named port, released through a current grant; the final
record follows from the trained width and shows the tick of its dispatch (R66). An own port that is FENCED, or whose unit or domain is off, leaves that state otherwise (R124,
R490): ST_FENCED (DESIGN CHOICE, log entry 193, for one that is off). -/
def opLinkRetrain : HostOp := {
  opcode := 0x0205, eff := .ea, atOnce := true, jobs := .zero
  params := fun p _ s =>
    let a := le p.body 0 2
    checks [needLen p 3, need (s.ownSection.node a).isSome (p.off 0),
      need ((s.ownSection.link a (le p.body 2 1)).isSome || (a == s.ownAddr && le p.body 2 1 < 40)) (p.off 2)]
  reserves := fun p s => if le p.body 0 2 = s.ownAddr then [.unit 8 (le p.body 2 1)] else [.port (le p.body 0 2) (le p.body 2 1)]
  target := fun p s =>
    let q := le p.body 2 1
    if le p.body 0 2 = s.ownAddr ∧ ((s.unitStatus 8 q).lost ∨ (s.port q).link.state = .fenced ∨ !s.portReady q)
    then .fail 0x30 (0xF400 + q) else .ok
  apply := fun p id s =>
    let (a, q) := (le p.body 0 2, le p.body 2 1)
    let s1 := s.modCmd id (fun c => { c with data := [a, q], stage := 0, effect := some s.tickNow })
    if a = s.ownAddr then
      let r : PortRef := { node := .geneel, port := q }
      ((s1.modLink r (fun l => { l with attempts := 0 })).trainPort q, .running)
    else
      let link := s.ownSection.link a q
      (s1.grantTraining a ((link.map TopoLink.dst).getD 0xFFFF) 8 (link.map TopoLink.dport), .running) }

/-- LINK_RETRAIN. -/
def execLinkRetrain (p : Packet) (s : State) : Host.Outcome State Fault Refusal := s.finish (s.command opLinkRetrain p)

/-- Entries of SHELF_ASSIGN: first, last, shelf, rack (R208). -/
def shelfEntries (p : Packet) : List (Nat × Nat × Nat × Nat) :=
  (chunks 8 (le p.body 0 1) (p.body.drop 8)).map (fun r => (le r 0 2, le r 2 2, le r 4 1, le r 5 1))

/-- SHELF_ASSIGN would change the shelf of an endpoint that is a member of a slice (R236). -/
def State.shelfMoves (s : State) (es : List (Nat × Nat × Nat × Nat)) : Bool :=
  es.any (fun e => s.ownSection.nodes.any (fun n => e.1 ≤ n.addr && n.addr ≤ e.2.1 && n.shelf != e.2.2.1
    && n.kind == 1 && (s.sliceOfLen n.addr).isSome))

/-- SHELF_ASSIGN (R208, R216, R235, R236): membership is tested when it is accepted, and again at its tick. -/
def opShelfAssign : HostOp := {
  opcode := 0x0206, eff := .ei, jobs := .zero
  params := fun p slot s =>
    let es := shelfEntries p
    let held (a : Nat) : Bool := (s.ownSection.node a).isSome
    checks ([needAtLeast p 8, need (1 ≤ le p.body 0 1 && le p.body 0 1 ≤ 128) (p.off 0),
        needLen p (8 + 8 * le p.body 0 1)]
      ++ es.zipIdx.map (fun e => checks [need (held e.1.1) (p.off (8 + 8 * e.2)),
          need (held e.1.2.1 && e.1.1 ≤ e.1.2.1) (p.off (10 + 8 * e.2)), need (e.1.2.2.1 ≤ 95) (p.off (12 + 8 * e.2)),
          need (e.1.2.2.2 ≤ 63) (p.off (13 + 8 * e.2))])
      ++ [needRight (!s.shelfMoves es) 5 slot])
  reserves := fun _ _ => [.discovery]
  apply := fun p id s =>
    let es := shelfEntries p
    if s.shelfMoves es then (s, .done 0x20 (5 + 256 * ((s.cmd id).map Cmd.master).getD 0) []) else
    (s.changeSection (fun x => { x with nodes := x.nodes.map (fun n =>
      es.foldl (fun m e => if e.1 ≤ m.addr ∧ m.addr ≤ e.2.1 then { m with shelf := e.2.2.1, rack := e.2.2.2 } else m) n) }),
      Fin.ok) }

/-- SHELF_ASSIGN. -/
def execShelfAssign (p : Packet) (s : State) : Host.Outcome State Fault Refusal := s.finish (s.command opShelfAssign p)

/-! ### Solving commands (R273 to R275) -/

/-- The checks of R273; both ends of a range are addresses that the record holds (R216). -/
def solveChecks (p : Packet) (s : State) : Check :=
  let b := p.body
  let n := le b 3 1
  let dflt := bit (le b 1 1) 1
  let nodes := snapNodes s.fabric.sections
  let ds := destinations nodes {}
  let held (a : Nat) : Bool := (findNode s.fabric.sections a).isSome
  checks ([needAtLeast p 16, need (le b 0 1 ≤ 1) (p.off 0), need (1 ≤ le b 2 1 && le b 2 1 ≤ 4) (p.off 2),
      need (if le b 0 1 = 0 then n == 0 else 1 ≤ n && n ≤ 64) (p.off 3), needLen p (16 + 4 * n)]
    ++ (if dflt then [] else [need (1 ≤ le b 4 4 && le b 4 4 ≤ 65535) (p.off 4), need (le b 8 4 ≤ 65535) (p.off 8),
        need (le b 12 4 ≤ 65535) (p.off 12)])
    ++ (List.range n).map (fun i => checks [need (held (le b (16 + 4 * i) 2)) (p.off (16 + 4 * i)),
        need (held (le b (18 + 4 * i) 2)) (p.off (18 + 4 * i))])
    ++ (List.range n).map (fun i =>
        need (ds.any (fun d => le b (16 + 4 * i) 2 ≤ d && d ≤ le b (18 + 4 * i) 2)) (p.off (16 + 4 * i))))

/-- ROUTE_SOLVE (R264, R272 to R274): requested of the coordinator; the final record follows the last SOLVE_DONE. -/
def opRouteSolve : HostOp := {
  opcode := 0x0301, jobs := .zero, params := fun p _ s => solveChecks p s
  apply := fun p id s =>
    let (s1, ok) := s.requestSolve (.command id) (decodeParams p.body)
    if ok then (s1.postPending id 0, .running) else (s, .done 0x12 1 []) }

/-- ROUTE_SOLVE. -/
def execRouteSolve (p : Packet) (s : State) : Host.Outcome State Fault Refusal := s.finish (s.command opRouteSolve p)

/-- Agents that still hold an OLD bank (R284). -/
def State.oldBanks (s : State) : Nat :=
  (s.fabric.epoch.images.filter (fun i => i.addr < 0xF000 && (i.a.state == .old || i.b.state == .old))).length

/-- ROUTE_STAGE (R283 to R288, R297): in STABLE, or in DRAINING with FORCE, whose drain ends at the earliest tick. -/
def opRouteStage : HostOp := {
  opcode := 0x0302, jobs := .zero
  params := fun p slot s =>
    let e := s.fabric.epoch
    let r := s.fabric.results.find? (fun r => r.id == le p.body 0 4)
    checks [needLen p 8, need r.isSome (p.off 0),
      needRight (!e.repairPending && s.access.changes == [] && (e.state == .stable || e.state == .draining)) 5 slot]
  reserves := fun _ _ => [.epoch]
  target := fun p s =>
    if s.fabric.epoch.state = .draining ∧ !bit (le p.body 4 1) 0 then .drain s.oldBanks else .ok
  apply := fun p id s =>
    if !(s.result (le p.body 0 4)).any s.resultFresh then (s.discardResult (le p.body 0 4), .done 0x40 0 [])
    else if s.fabric.epoch.state = .draining then
      -- the others end their drains as well, and each stages at its retirement
      let s1 := (s.announceStage (le p.body 0 4) (le p.body 4 1)).forceRetire
      (s1.modCmd id (fun c => { c with phase := .timed, due := (s1.fabric.epoch.retireAt.getD s.clock.now), stage := 1 }), .running)
    else if (s.cmd id).any (fun c => c.stage == 1) then
      (s.beginStaging (le p.body 0 4) (le p.body 4 1) .host (some id), .running)
    else (s.startStaging (le p.body 0 4) (le p.body 4 1) .host (some id), .running) }

/-- ROUTE_STAGE. -/
def execRouteStage (p : Packet) (s : State) : Host.Outcome State Fault Refusal := s.finish (s.command opRouteStage p)

/-- ROUTE_COMMIT (R289 to R292): EPOCH_COMMIT on dispatch; the command completes at the commit tick. -/
def opRouteCommit : HostOp := {
  opcode := 0x0303, eff := .ea, jobs := .zero
  params := fun p slot s =>
    let e := s.fabric.epoch
    let d := le p.body 4 2
    checks [needLen p 8, need (p.effTick != 0) 16, needRight (!e.repairPending && s.access.changes == []) 5 slot,
      need (e.state == .staged && e.stagedId == le p.body 0 4) (p.off 0), need (d == 0 || (16 ≤ d && d ≤ 4096)) (p.off 4)]
  reserves := fun _ _ => [.epoch]
  start := fun p id s =>
    (s.modCmd id (fun c => { c with phase := .running, begun := true })).commitStaged (le p.body 0 4) (le p.body 4 2)
      (s.instantOf p.effTick) (some id)
  apply := fun _ _ s => (s, .running) }

/-- ROUTE_COMMIT. -/
def execRouteCommit (p : Packet) (s : State) : Host.Outcome State Fault Refusal := s.finish (s.command opRouteCommit p)

/-- With APPLY the Geneel solves the destinations of a pin, stages and commits it (R305): the solve begins as soon as the command is accepted, so
that the commit can come at its tick. A request that the solver has no room for leaves the pins as they were. -/
def State.applyPin (s : State) (id first last : Nat) : State :=
  let s0 := s.modCmd id (fun c => { c with phase := .running, begun := true })
  let p : SolveParams := { scope := 1, ranges := [(first, last)] }
  let (s1, ok) := (s0.modEpoch (fun e => { e with applyPending := true })).requestSolve (.pin id) p
  if ok then s1 else (s0.dropApply id).endCmd id 0x12 1

/-- The pin of a ROUTE_PIN, numbered and recorded (R304); from its instant on the solves that are called take it into account (R305). -/
def State.addPin (s : State) (p : Packet) (from_ : Nat) (apply : Option Nat) : State × Pin :=
  let b := p.body
  let used := s.fabric.epoch.pins.map Pin.id
  let n := (tieBreak 65536 s.fabric.epoch.nextPin ((List.range 4097).map (fun i => (s.fabric.epoch.nextPin + i) % 65536)
    |>.filter (fun i => !used.contains i))).getD 0
  let pin : Pin := {
    id := n, node := le b 0 2, first := le b 2 2, last := le b 4 2
    ports := (List.range (le b 6 1)).map (fun i => le b (8 + i) 1), from_ := from_, apply := apply }
  ((s.modEpoch (fun e => { e with pins := e.pins ++ [pin], nextPin := (n + 1) % 65536 })).mirrorDelta 4 n (b.take 12), pin)

/-- A pin leaves with the next epoch that is solved after an instant (R305). -/
def State.unpin (s : State) (n at_ : Nat) (unapply : Option Nat) : State :=
  (s.modEpoch (fun e => { e with
    pins := e.pins.map (fun q => if q.id = n then { q with until_ := some at_, unapply := unapply } else q) })).mirrorDelta 4 n

/-- ROUTE_PIN (R304 to R307). -/
def opRoutePin : HostOp := {
  opcode := 0x0304, eff := .ea, atOnce := true, jobs := .zero
  params := fun p _ s =>
    let b := p.body
    let k := le b 6 1
    let held (a : Nat) : Bool := (findNode s.fabric.sections a).isSome
    checks ([needLen p 12, need (match s.ownSection.node (le b 0 2) with
        | some n => n.kind == 2 || n.kind == 4
        | none => false) (p.off 0), need (held (le b 2 2)) (p.off 2),
      need (held (le b 4 2) && le b 2 2 ≤ le b 4 2) (p.off 4), need (1 ≤ k && k ≤ 4) (p.off 6)]
      ++ (List.range 4).map (fun i => need ((le b (8 + i) 1 == 0xFF) == decide (k ≤ i)) (p.off (8 + i))))
  reserves := fun _ _ => [.pins]
  resources := fun _ s => if 4096 ≤ s.fabric.epoch.pins.length then .fail 0x12 1 else .ok
  start := fun p id s =>
    if bit (le p.body 7 1) 0 then
      let (s1, pin) := s.addPin p (((s.cmd id).map Cmd.due).getD s.clock.now) (some id)
      (s1.modCmd id (fun c => { c with data := [pin.id] })).applyPin id pin.first pin.last
    else s
  apply := fun p _ s =>
    if bit (le p.body 7 1) 0 then (s, .running)
    else
      let (s1, pin) := s.addPin p s.clock.now none
      (s1, Fin.result (toLe 2 pin.id)) }

/-- ROUTE_PIN. -/
def execRoutePin (p : Packet) (s : State) : Host.Outcome State Fault Refusal := s.finish (s.command opRoutePin p)

/-- ROUTE_UNPIN (R304, R305). -/
def opRouteUnpin : HostOp := {
  opcode := 0x0305, eff := .ea, atOnce := true, jobs := .zero
  params := fun p _ s => checks [needLen p 3, need (s.fabric.epoch.pins.any (fun q => q.id == le p.body 0 2)) (p.off 0)]
  reserves := fun _ _ => [.pins]
  start := fun p id s =>
    match s.fabric.epoch.pins.find? (fun (q : Pin) => q.id == le p.body 0 2), bit (le p.body 2 1) 0 with
    | some q, true => (s.unpin q.id (((s.cmd id).map Cmd.due).getD s.clock.now) (some id)).applyPin id q.first q.last
    | _, _ => s
  apply := fun p _ s =>
    if bit (le p.body 2 1) 0 then (s, .running) else (s.unpin (le p.body 0 2) s.clock.now none, Fin.ok) }

/-- ROUTE_UNPIN. -/
def execRouteUnpin (p : Packet) (s : State) : Host.Outcome State Fault Refusal := s.finish (s.command opRouteUnpin p)

/-- The 24 bytes of a drain record (R308). -/
def DrainRecord.bytes (d : DrainRecord) : Bytes :=
  toLe 2 d.epoch ++ toLe 1 (flag d.forced + 2 * flag d.repair + 4 * flag (decide (d.stranded ≠ 0))) ++ zeros 1
    ++ toLe 2 d.stranded ++ zeros 2 ++ toLe 6 d.commitTick ++ toLe 6 d.retireTick ++ toLe 4 d.expired

/-- ROUTE_STATUS (R308). -/
def opRouteStatus : HostOp := {
  opcode := 0x0306, jobs := .zero, query := true, params := fun p _ _ => needLen p 0
  apply := fun _ _ s =>
    let e := s.fabric.epoch
    (s, Fin.result (toLe 2 e.current ++ toLe 1 e.state.ctorIdx ++ toLe 1 (flag e.repairPending + 2 * flag e.applyPending)
      ++ toLe 4 (if e.state = .staged then e.stagedId else 0) ++ toLe 6 e.commitTick
      ++ toLe 6 ((e.retireAt.map s.tickAt).getD 0) ++ toLe 2 (if e.overlayAt.isSome then 0xFFFF else e.overlay.getD 0xFFFF)
      ++ toLe 1 (e.prepared.filter (fun p => p.tag == e.current)).length ++ toLe 1 e.stranded.length ++ toLe 2 (e.pins.filter Pin.inForce).length
      ++ toLe 4 e.pinConflicts ++ zeros 2 ++ field (e.drains.flatMap DrainRecord.bytes) 0 192
      ++ e.pins.flatMap (fun p => toLe 2 p.id ++ zeros 2 ++ toLe 4 p.conflicts))) }

/-- ROUTE_STATUS. -/
def execRouteStatus (p : Packet) (s : State) : Host.Outcome State Fault Refusal := s.finish (s.command opRouteStatus p)

/-- FAILOVER_PREPARE (R275 to R279): run as a solve through the coordinator, with the parameters of the result in force; a link is named by
either end, and belongs to the bolt of the lower; the STANDING modes set the bolt's standing mode. -/
def opFailoverPrepare : HostOp := {
  opcode := 0x0307, jobs := .zero
  params := fun p _ s =>
    let b := p.body
    let n := le b 1 1
    let x := s.boltSection
    checks ([needAtLeast p 8, need (le b 0 1 ≤ 3) (p.off 0),
        need (if le b 0 1 % 2 = 0 then n == 0 else 1 ≤ n && n ≤ 16) (p.off 1), needLen p (8 + 8 * n)]
      ++ (List.range n).map (fun i =>
        let o := 8 + 8 * i
        let (kind, a, q) := (le b o 1, le b (o + 2) 2, le b (o + 4) 1)
        checks [need (kind ≤ 1) (p.off o),
          need (if kind = 1 then (s.ownSection.node a).map TopoNode.kind == some 2 else ((x (boltOf a)).node a).isSome) (p.off (o + 2)),
          need (if kind = 1 then q == 0xFF else match (x (boltOf a)).link a q with
            | some l => decide (boltOf (min a l.dst) = s.up.bolt) && l.dst != 0xFFFF
            | none => false) (p.off (o + 4))]))
  apply := fun p id s =>
    let b := p.body
    let mode := le b 0 1
    let els := (chunks 8 (le b 1 1) (b.drop 8)).map (fun r => (le r 0 1, le r 2 2, le r 4 1))
    let s1 := if 2 ≤ mode then s.modEpoch (fun e => { e with standing := (mode - 2, els) }) else s
    let (s2, ok) := s1.requestSolve (.failover (some id) (mode % 2) els) { s.fabric.epoch.params with scope := 0, flags := 0, ranges := [] }
    if ok then (s2.postPending id 0, .running) else (s1, .done 0x12 1 []) }

/-- FAILOVER_PREPARE. -/
def execFailoverPrepare (p : Packet) (s : State) : Host.Outcome State Fault Refusal :=
  s.finish (s.command opFailoverPrepare p)

/-! ### Discovery messages -/

/-- IDENT_RECEIVE (R164, R202, R207, R212, R216 to R218, R303): an IDENT answers a PROBE op 0 of the walk, a CLAIM, or the
probe of a lost switch that has returned. -/
def execIdentReceive (m : Msg) (s : State) : Host.Outcome State Fault Refusal :=
  match s.mail.waiting.find? (fun w => w.msg.msgid == m.msgid) with
  | none => s.finish s
  | some w =>
    let s1 := { s with mail := { s.mail with waiting := s.mail.waiting.filter (fun v => v.msg.msgid != m.msgid) } }
    let data := m.content.drop 8
    let info := readIdent data
    let s2 := s1.modWalk (fun v => { v with awaits := v.awaits.filter (· != m.msgid) })
    if w.kind = Purpose.identify.code then
      if s2.fabric.walk.probes.any (fun p => p.msgid == m.msgid) then
        s.finish (s2.modWalk (fun v => { v with
          probes := v.probes.map (fun p => if p.msgid = m.msgid then { p with ident := some data } else p) }))
      else match s2.ownSection.bySerial info.serial with
        | none => s.finish s2
        | some n =>
          if s2.fabric.lostSwitches.contains n.addr then
            s.finish (s2.askPath n.path 0x01 (toLe 1 1 ++ toLe 1 s2.up.bolt) .reclaim n.addr)
          else s.finish s2
    else
      let s3 := s2.noteNode (w.kind == Purpose.claim.code && s2.fabric.walk.running) info.serial none (some info.state)
      if w.kind = Purpose.claim.code then s.finish (s3.modWalk (fun v => { v with claims := v.claims + 1 }))
      else if w.kind = Purpose.reclaim.code then
        match s3.ownSection.bySerial info.serial with
        | some n => s.finish (s3.startAttest n.addr n.serial n.path)
        | none => s.finish s3
      else s.finish s3

/-- A link record's port record as an unsolicited LINKSTATE brings it: kept for the next marker (R226); a loss that a prepared
failure covers is bridged at once (R299). -/
def State.linkstateNews (s : State) (addr : Nat) (records : List Bytes) : State :=
  let x := s.ownSection
  let lost := records.filterMap (fun r => match x.link addr (le r 0 1) with
    | some l => if l.lstate = 2 ∧ (le r 1 1 ≠ 2 ∨ le r 2 1 < 2) then some (addr, le r 0 1) else none
    | none => none)
  let back := records.filterMap (fun r => match x.link addr (le r 0 1) with
    | some l => if l.lstate ≠ 2 ∧ le r 1 1 = 2 ∧ s.fabric.lostSwitches.contains l.dst then x.node l.dst else none
    | none => none)
  let s1 := { s with mail := { s.mail with linkNews := s.mail.linkNews ++ records.map (fun r => (addr, r)) } }
  let s2 := if lost = [] then s1 else s1.failoverFor lost
  back.foldl (fun t n => t.askPath n.path 0x01 (toLe 1 0) .identify n.addr) s2

/-- LINKSTATE_RECEIVE (R175, R226, R299, R303): an unsolicited LINKSTATE of a node of the bolt. -/
def execLinkstateReceive (m : Msg) (s : State) : Host.Outcome State Fault Refusal :=
  match s.ownSection.node m.src with
  | none => s.finish s
  | some _ => s.finish (s.linkstateNews m.src (chunks 12 (m.body.length / 12) m.body))

/-- DISCOVERY_LEVEL_STEP (R212, R213): the walk's messages leave by its table of ticks, each with the replies before it in: CLAIM and
LINKSTATE 2 ticks after a level's probes, CERT and the next level 4 ticks after them, SESSION 2 ticks after CERT. -/
def execDiscoveryLevelStep (s : State) : Host.Outcome State Fault Refusal :=
  let w := s.fabric.walk
  let s1 := s.walkSessions
  if !w.running ∨ !s.isPrimary then s.finish s
  else if w.stage = 1 then s.finish s1.walkIdents
  else if w.stage = 2 ∧ w.awaits = [] ∧ w.since + 4 ≤ s.clock.now then s.finish s1.walkLevel
  else s.finish s1

/-- TOPOLOGY_DELTA_RECEIVE (R233, R266, R663): a peer's delta waits for the next marker, and for its predecessor; one is kept while a solve
runs. -/
def execTopologyDeltaReceive (src : Nat) (d : SectionDelta) (s : State) : Host.Outcome State Fault Refusal :=
  s.finish (s.fromGeneel src 2 0 (fun t =>
    if d.bolt = t.up.bolt then t
    else ({ t with fabric := { t.fabric with heldDeltas := t.fabric.heldDeltas ++ [d] } }).keepDelta d))

/-- MOVE_RELEASE_REQUEST_RECEIVE (R239): the owner's primary refuses when an agent is a member of a slice; otherwise it names a tick, the
next, at whose marker the nodes leave its section, and confirms (DESIGN CHOICE, log entry 232: which tick). The spec gives these messages no layout: the command carries their
content, and the answer is kept with the walk of the other side. -/
def execMoveReleaseRequestReceive (src : Nat) (serials : List Nat) (s : State) : Host.Outcome State Fault Refusal :=
  s.finish (s.fromGeneel src 2 0 (fun t =>
    let mine := t.ownSection.nodes.filter (fun n => serials.contains n.serial)
    if !t.isPrimary then t
    else if mine.any (fun n => (t.sliceOfLen n.addr).isSome) then
      { t with fabric := { t.fabric with releaseAnswers := t.fabric.releaseAnswers ++ [(src, false, 0)] } }
    else
      { t with fabric := { t.fabric with
          news := t.fabric.news ++ [.leave (t.clock.now + 1) serials]
          releaseAnswers := t.fabric.releaseAnswers ++ [(src, true, t.nameTick 1)] } }))

/-- MOVE_RELEASE_CONFIRM_RECEIVE (R239): a refusal ends RACK_ABSORB with ST_DENIED reason 5 at the next marker, which shows what it has claimed
by then (R232); a confirmation lets the absorbing primary number and claim the released agents from a fresh probe, once its levels are
done. -/
def execMoveReleaseConfirmReceive (src : Nat) (granted : Bool) (s : State) : Host.Outcome State Fault Refusal :=
  s.finish (s.fromGeneel src 2 0 (fun t =>
    let w := t.fabric.walk
    let bolt := (src - 0xF000) / 2
    if !(w.running && w.releasing.contains bolt) then t
    else if !granted then
      let slot := ((w.cmd.bind t.cmd).map Cmd.master).getD 0
      (t.modWalk (fun v => { v with failed := some (0x20, 5 + 256 * slot) })).walkFinish
    else (t.modWalk (fun v => { v with releasing := v.releasing.filter (· != bolt), regrant := true })).walkKeys))

/-! ### Solving messages (R264 to R272) -/

/-- SOLVE_REQ_RECEIVE (R264, R272): called, queued, or, with 64 queued, answered under its number with a status block that says so (DESIGN
CHOICE, log entry 63: R264 gives no other way); at the requester, such an answer ends what asked. -/
def execSolveReqReceive (m : Msg) (s : State) : Host.Outcome State Fault Refusal :=
  s.finish (s.fromGeneel m.src 3 m.type (fun t =>
    if m.flags % 2 = 1 then (t.requestRefused m.msgid).settleSolves
    else if t.coordinator ≠ t.ownAddr then t
    else
      let (u, ok) := t.gotRequest (decodeParams m.body) m.src m.msgid
      if ok then u else t.sendAgain { t.msgTo m.src 0x40 (toLe 2 2 ++ zeros 6) with flags := 1, msgid := m.msgid }))

/-- QUEUED_SOLVE_START (R272): when no solve runs the oldest queued request is called, merged with its equals. -/
def execQueuedSolveStart (s : State) : Host.Outcome State Fault Refusal :=
  if s.coordinator = s.ownAddr then s.finish s.nextQueued else s.finish s

/-- SOLVE_CALL_RECEIVE (R264, R265): the copy is frozen at the marker of the call tick, at once when that has come. -/
def execSolveCallReceive (m : Msg) (s : State) : Host.Outcome State Fault Refusal :=
  s.finish (s.fromGeneel m.src 3 m.type (fun t =>
    let b := m.body
    let p := decodeParams (b.drop 12)
    -- a call with the parameters of a solve that has not ended repeats it (R272)
    let again := match t.fabric.solve, t.fabric.repeating with
      | some w, _ => if w.params = p then (w.repeats + 1, w.epochRepeat) else (0, false)
      | none, some r => if r.1 = p then (r.2 + 1, true) else (0, false)
      | none, none => (0, false)
    let v : Solve := {
      id := le b 0 4, params := p, coordinator := m.src, callTick := le b 4 6
      callAt := t.instantOf (le b 4 6), repeats := again.1
      epochRepeat := again.2 }
    ({ t with fabric := { t.fabric with solve := some v, keptDeltas := [], repeating := none } }).freezeCopy))

/-- SOLVE_VECTOR_RECEIVE (R265, R272). -/
def execSolveVectorReceive (m : Msg) (s : State) : Host.Outcome State Fault Refusal :=
  s.finish (s.fromGeneel m.src 3 m.type (fun t =>
    let b := m.body
    if (t.fabric.solve.map Solve.id) = some (le b 0 4) then
      (t.gotVector (m.src - 0xF000) (le b 4 1) (le b 5 1) ((List.range 32).map (fun i => le b (8 + 4 * i) 4))).settleSolves
    else t))

/-- SOLVE_GO_RECEIVE (R241 to R258, R265, R267): the agreed vector, with which the solve begins at the start tick. -/
def execSolveGoReceive (m : Msg) (s : State) : Host.Outcome State Fault Refusal :=
  s.finish (s.fromGeneel m.src 3 m.type (fun t =>
    let b := m.body
    if (t.fabric.solve.map Solve.id) = some (le b 0 4) then
      (t.setGo (le b 4 6) (t.instantOf (le b 4 6)) ((List.range 32).map (fun i => le b (12 + 4 * i) 4))
        ((List.range 64).map (fun i => le b (140 + i) 1))).goMarker
    else t))

/-- SOLVE_BATCH_COMPLETE (R252, R259, R268). -/
def execSolveBatchComplete (s : State) : Host.Outcome State Fault Refusal := s.finish (s.batchDone.settleSolves)

/-- SHARE_DATA_RECEIVE (R268, R269): placed by node and destination; data of another solve or of a solver that is not the
assignee of the destination's share are rejected. -/
def execShareDataReceive (m : Msg) (s : State) : Host.Outcome State Fault Refusal :=
  s.finish (s.fromGeneel m.src 3 m.type (fun t =>
    match t.fabric.solve with
    | none => t
    | some v =>
      let b := m.body
      let first := le b 8 3
      let share := (solverOf v.dests.length v.tileList (first / 64)).getD 0
      let assignee := ((v.shares.find? (fun e => e.1 == share)).map Prod.snd).getD share
      if v.id ≠ le b 0 4 ∨ !v.begun ∨ assignee ≠ le b 4 1 then t
      else
        let t1 := t.modSolve (fun w => w.place (le b 6 2) first ((List.range (le b 11 1)).map (fun i => le b (12 + 8 * i) 8)))
        t1.imageCheck.settleSolves))

/-- Compute ticks of a share under R259, each batch on the good tiles of its solver, at this Geneel's core clock: the messages give
no other (log entry 170; R270). -/
def State.shareTicks (s : State) (v : Solve) (share : Nat) : Nat :=
  let tiles := ((v.tileList.find? (fun t => t.1 == share)).map Prod.snd).getD 1
  let first := ((splitShares v.dests.length v.tileList).filter (fun e => e.1 == share)).flatMap (fun e =>
    (List.range (e.2.2 - e.2.1)).map (fun i => 64 * (e.2.1 + i)))
  let cycles := first.map (fun f =>
    let cols := ((v.dests.drop f).take 64).map (fun d => solveColumn v.links v.nodes v.pins v.params (fun _ => false) d)
    batchCycles v.links ((cols.map Column.sd).foldl max 0) ((cols.map Column.su).foldl max 0) tiles)
  cdiv (cycles.foldl (· + ·) 0) (max 1 (coreClock s.power.op * s.clock.period))

/-- SHARE_DATA_TIMEOUT (R270): a share that is not complete here 176 ticks and its compute time after the start tick is moved,
as a refused one is. -/
def execShareDataTimeout (share : Nat) (s : State) : Host.Outcome State Fault Refusal :=
  match s.fabric.solve with
  | none => s.finish s
  | some v =>
    let mine := (splitShares v.dests.length v.tileList).filter (fun e => e.1 == share)
    let idx := mine.flatMap (fun e => (List.range (64 * (e.2.2 - e.2.1))).map (fun i => 64 * e.2.1 + i))
    let ds := idx.filterMap (fun i => v.dests[i]?)
    let missing := (v.boltNodes s.up.bolt).any (fun n => ds.any (fun d =>
      !(v.image.any (fun e => e.1 == n.addr && e.2.1 == d))))
    if v.reported ∨ !v.begun ∨ s.clock.now < v.startAt + s.shareTicks v share + 176 ∨ !missing then s.finish s
    else s.finish ((s.sendSolveDone 1 share).settleSolves)

/-- SHARE_MOVE_RECEIVE (R269, R270): a share goes to a new assignee, or the same one is to send its data again. -/
def execShareMoveReceive (m : Msg) (s : State) : Host.Outcome State Fault Refusal :=
  s.finish (s.fromGeneel m.src 3 m.type (fun t =>
    if t.fabric.solve.any (fun v => v.id == le m.body 0 4) then t.moveShare (le m.body 4 1) (le m.body 5 1) else t))

/-- SOLVE_DONE_RECEIVE (R269 to R271, R274). -/
def execSolveDoneReceive (m : Msg) (s : State) : Host.Outcome State Fault Refusal :=
  s.finish (s.fromGeneel m.src 3 m.type (fun t =>
    let b := m.body
    if (t.fabric.solve.map Solve.id) = some (le b 0 4) then
      (t.gotSolveDone m.src (le b 4 1) (le b 5 1) (le b 6 1) (le b 8 2) (field b 12 32) (le b 44 4)).settleSolves
    else t))

/-- SOLVE_ABORT_RECEIVE (R272): partial results are discarded; after a change of coordinator the requests are sent again. -/
def execSolveAbortReceive (m : Msg) (s : State) : Host.Outcome State Fault Refusal :=
  s.finish (s.fromGeneel m.src 3 m.type (fun t =>
    match t.fabric.solve with
    | none => t
    | some v =>
      if v.id ≠ le m.body 0 4 then t
      else
        let reason := le m.body 4 1
        let t1 := { t with fabric := { t.fabric with solve := none, keptDeltas := [], repeating := none } }
        if reason = 0 then t1.fabric.requested.foldl (fun u r =>
            if u.coordinator = u.ownAddr then (u.gotRequest r.2 u.ownAddr u.nextId).1 else u.sendRequest r.1 r.2) t1
        else if reason = 1 ∧ !v.epochRepeat then
          { t1 with fabric := { t1.fabric with repeating := some (v.params, v.repeats) } }
        else (t1.noteFinished v.params v.id (if reason = 2 then 2 else 3)).settleSolves))

/-! ### Epoch messages (R286 to R292) -/

/-- EPOCH_STAGE_RECEIVE (R286, R287): the primary stages its bolt's image of the result. -/
def execEpochStageReceive (m : Msg) (s : State) : Host.Outcome State Fault Refusal :=
  s.finish (s.fromGeneel m.src 3 m.type (fun t =>
    if !t.isPrimary then t
    else
      let u := t.modEpoch (fun e => { e with owner := .host, stageCmd := none })
      if u.fabric.epoch.state = .draining then
        u.forceRetire.modEpoch (fun e => { e with forcedStage := some (le m.body 0 4, le m.body 4 1, m.src) })
      else (u.setEpochState .staging).orderStage (le m.body 0 4) (le m.body 4 1) m.src))

/-- EPOCH_STAGED_RECEIVE (R282, R287, R288): one of a staging that has not begun here is kept for it. -/
def execEpochStagedReceive (m : Msg) (s : State) : Host.Outcome State Fault Refusal :=
  s.finish (s.fromGeneel m.src 3 m.type (fun t =>
    if t.fabric.epoch.stagedId = le m.body 0 4 ∧ t.fabric.epoch.state = .staging then
      t.gotStaged (le m.body 4 1) (le m.body 5 1) (le m.body 6 2)
    else t.modEpoch (fun e => { e with
      stagedEarly := lastN 64 (e.stagedEarly ++ [(le m.body 0 4, le m.body 4 1, le m.body 5 1, le m.body 6 2)]) })))

/-- EPOCH_COMMIT_RECEIVE (R287, R290): ACTIVATE goes to every agent of the bolt in this tick. -/
def execEpochCommitReceive (m : Msg) (s : State) : Host.Outcome State Fault Refusal :=
  s.finish (s.fromGeneel m.src 3 m.type (fun t =>
    if !t.isPrimary then t
    else (t.modEpoch (fun e => { e with commitBy := some m.src, commitCmd := none })).orderCommit (le m.body 0 4) (le m.body 4 2) (le m.body 6 2)
      (t.instantOf (le m.body 8 6))))

/-- EPOCH_DONE_RECEIVE (R287, R292). -/
def execEpochDoneReceive (m : Msg) (s : State) : Host.Outcome State Fault Refusal :=
  s.finish (s.fromGeneel m.src 3 m.type (fun t => t.gotDone (le m.body 4 1) (le m.body 5 1)))

end Sys2Proof.Machine
end

