-- ==== Sys2Proof/Machine/BuckramOps.lean ====
section
/-! DEFINITION. Buckram's operations (spec 15_buckram_metering): mailbox, registers, windows, apportionment, batches and
statements, parameter changes, answers to queries. -/

namespace Sys2Proof.Machine

open Sys2Proof

/-- Change Buckram's state. -/
def State.modBuckram (s : State) (f : Buckram → Buckram) : State := { s with buckram := f s.buckram }

/-- MTR.STAT.STATE changes: INT.CAUSE.MTR (R542, R677). -/
def State.setMtrState (s : State) (st : Nat) : State :=
  if s.buckram.state = st then s else (s.modBuckram (fun b => { b with state := st })).raiseCause 5

/-- Crystal time in µs at the start of the running bus cycle (R525, R528). -/
def Buckram.time (b : Buckram) : Nat := 1000 * b.cycles

/-- Buckram works: powered, started and not in FAULT (R521, R523). -/
def Buckram.works (b : Buckram) : Bool := b.state == 1 || b.state == 2

/-! ### Mailbox (R541) -/

/-- A message of the management cores: dropped and counted when the FIFO is full (R541). -/
def Buckram.post (b : Buckram) (kind : Nat) (body : Bytes) : Buckram :=
  let b1 := { b with sendSeq := (b.sendSeq + 1) % 256 }
  if 256 ≤ b.mbox.length then { b1 with drops := satAdd 32 b.drops 1 }
  else { b1 with mbox := b.mbox ++ [toLe 1 kind ++ toLe 1 b.sendSeq ++ field body 0 62] }

/-- PARAM segments enter the mailbox as it has room (DESIGN CHOICE: the cores do not send what would be dropped). -/
def Buckram.pump : Nat → Buckram → Buckram
  | 0, b => b
  | n + 1, b => match b.outbox with
    | [] => b
    | x :: rest => if 256 ≤ b.mbox.length then b else ({ b with outbox := rest }.post 3 x).pump n

/-- Take the first message when it is of a kind; a gap in the sequence is counted (R541). -/
def Buckram.take (b : Buckram) (kind : Nat) : Option (Buckram × Bytes) :=
  match b.mbox with
  | [] => none
  | m :: rest =>
    if le m 0 1 ≠ kind then none
    else
      let seq := le m 1 1
      let gap := match b.lastSeq with
        | some q => decide ((q + 1) % 256 ≠ seq)
        | none => false
      let b1 := { b with mbox := rest, lastSeq := some seq, drops := if gap then satAdd 32 b.drops 1 else b.drops }
      some (b1.pump 64, m)

/-- Segments of 60 bytes with their number from `i` on; the last is marked. -/
def paramSegments : Nat → Nat → Bytes → List Bytes
  | 0, _, _ => []
  | k + 1, i, b =>
    (toLe 1 i ++ toLe 1 (flag (decide (b.length ≤ 60))) ++ b.take 60) :: (if b.length ≤ 60 then [] else paramSegments k (i + 1) (b.drop 60))

/-- The bytes of a packet: header, parameters, signature blocks (R95, R99). -/
def packetBytes (p : Packet) : Bytes :=
  toLe 2 p.opcode ++ toLe 2 p.flags ++ toLe 4 p.tag ++ toLe 4 p.seq ++ toLe 4 p.len ++ toLe 6 p.effTick ++ toLe 2 p.job
    ++ field p.digest 0 32 ++ field p.rsvd 0 8 ++ field p.params 0 p.len ++ field (p.sigs.getD 0 []) 0 1288

/-- The packet that Buckram reads from the segments. -/
def packetOf (b : Bytes) : Packet :=
  let len := le b 12 4
  { opcode := le b 0 2, flags := le b 2 2, tag := le b 4 4, seq := le b 8 4, len := len, effTick := le b 16 6, job := le b 22 2
    digest := field b 24 32, rsvd := field b 56 8, params := field b 64 len, sigs := [field b (64 + len) 1288] }

/-! ### Registers (R526, R527, R546) -/

/-- Change a shelf. -/
def Buckram.modShelf (b : Buckram) (h : Nat) (f : MeterShelf → MeterShelf) : Buckram :=
  { b with shelves := b.shelves.map (fun x => if x.shelf = h then f x else x) }

/-- The smallest value at or above a register with given low 32 bits (R527). -/
def extend32 (r low : Nat) : Nat := r + (low + 2 ^ 32 - r % 2 ^ 32) % 2 ^ 32

/-- A valid report of a shelf: heard in this cycle, with its status bits (R527, R542). -/
def MeterShelf.heard (x : MeterShelf) (status : Nat) : MeterShelf :=
  { x with reported := true, silent := 0, statusMark := x.statusMark || status % 8 != 0 }

/-- A short report extends the held register (R527). -/
def MeterShelf.short (x : MeterShelf) (low status : Nat) : MeterShelf :=
  let y := x.heard status
  if x.suspended ∨ x.fresh ≠ 0 then y else { y with register := extend32 x.register low % 2 ^ 64 }

/-- An extended report: another meter ID or a register below the held one suspends; the first after METER_ENROL is a new start; the
first after Buckram started adds what it exceeds the stored register by as gap energy (R527, R546). -/
def MeterShelf.extended (x : MeterShelf) (meter reg fw status : Nat) : MeterShelf :=
  let y := { x.heard status with fw := fw }
  if x.suspended then y
  else if meter ≠ x.meter then { y with suspended := true }
  else if x.fresh = 1 then { y with fresh := 0, register := reg, base := reg, stored := reg }
  else if reg < x.register then { y with suspended := true }
  else if x.fresh = 2 then { y with fresh := 0, register := reg, gap := reg - x.register }
  else { y with register := reg }

/-! ### Closing a window (R528, R529) -/

/-- Flags of R532. -/
def winFlag (i : Nat) (c : Bool) : Nat := if c then 2 ^ i else 0

/-- Close the open window at a crystal time: E of each shelf, and the next window opens (R528, R529, R546). -/
def Buckram.close (b : Buckram) (at_ : Nat) (notick : Bool) : Buckram :=
  let entry (x : MeterShelf) : ClosedShelf := {
    shelf := x.shelf, energy := x.register - x.base, gap := x.gap, suspended := x.suspended
    flags := winFlag 0 notick + winFlag 2 (x.silentMark || decide (1000 ≤ x.silent)) + winFlag 3 x.suspended
      + winFlag 6 (x.gap != 0) + winFlag 7 x.statusMark }
  { b with
      window := (b.window + 1) % 2 ^ 64, openAt := at_
      closed := some {
        at_ := at_, seconds := max 1 (min 64 ((at_ - b.openAt + 500000) / 1000000)), shelves := b.shelves.map entry
        charges := b.charges }
      charges := {}
      shelves := b.shelves.map (fun x => { x with base := x.register, gap := 0, silentMark := false, statusMark := false }) }

/-! ### Counters (R530) -/

/-- Add counter energy of a job on a shelf. -/
def MeterCharges.add (c : MeterCharges) (shelf job energy : Nat) (reset : Bool) : MeterCharges :=
  let old := ((c.charges.find? (fun x => x.shelf == shelf && x.job == job)).map MeterCharge.energy).getD 0
  { charges := insertBy (fun x => x.shelf * 4096 + x.job) (c.charges.filter (fun x => !(x.shelf == shelf && x.job == job)))
      { shelf := shelf, job := job, energy := old + energy }
    resets := if reset && !c.resets.contains shelf then c.resets ++ [shelf] else c.resets }

/-- A reading belongs to the closed window while that is not sealed and its latch tick is no later than T + 255 (R530). -/
def Buckram.forClosed (b : Buckram) (latch : Nat) : Bool :=
  b.closed.isSome && (match b.boundary with
    | some t => decide (latch ≤ t + 255)
    | none => true)

/-- Take one reading (R530). -/
def Buckram.reading (b : Buckram) (r : MeterReading) : Buckram :=
  let held := ((b.readings.find? (fun x => x.addr == r.addr && x.slot == r.slot)).map MeterReading.value).getD 0
  let reset := decide (r.value < held)
  let energy := if reset then r.value else r.value - held
  let b1 : Buckram := { b with readings := b.readings.filter (fun (x : MeterReading) => !(x.addr == r.addr && x.slot == r.slot)) ++ [r] }
  if b.forClosed r.latch then
    { b1 with closed := b.closed.map (fun (w : ClosedWindow) => { w with charges := w.charges.add r.shelf r.job energy reset }) }
  else { b1 with charges := b.charges.add r.shelf r.job energy reset }

/-- A reading of 20 bytes (R541). -/
def readingOf (b : Bytes) : MeterReading :=
  { addr := le b 0 2, slot := le b 2 1, shelf := le b 3 1, job := le b 4 2, latch := le b 6 6, value := le b 12 8 }

/-! ### Apportionment (R531, R532) -/

/-- Shares of a shelf's energy: K, and each job's energy; the residue goes to job 0. -/
def apportion (energy : Nat) (charges : List MeterCharge) : Nat × List (Nat × Nat) :=
  let c := (charges.map MeterCharge.energy).foldl (· + ·) 0
  if c = 0 then (0, [(0, energy)])
  else
    let k := min 65535 (1024000 * energy / c)
    let others := (charges.filter (fun x => x.job != 0 && x.energy != 0)).map (fun x => (x.job, k * x.energy / 1024000))
    (k, (0, energy - (others.map Prod.snd).foldl (· + ·) 0) :: others)

/-- Add a window's share of a job to the batch. -/
def addShare (l : List JobShare) (job shelf energy counters : Nat) : List JobShare :=
  let old := (l.find? (fun x => x.job == job && x.shelf == shelf)).getD { job := job, shelf := shelf, energy := 0, counters := 0 }
  insertBy (fun x => x.job * 128 + x.shelf) (l.filter (fun x => !(x.job == job && x.shelf == shelf)))
    { old with energy := old.energy + energy, counters := old.counters + counters }

/-- A reading known of a shelf has not come for the window: LATE (R530, R532). -/
def Buckram.late (b : Buckram) (shelf : Nat) : Bool :=
  b.readings.any (fun r => r.shelf == shelf && (match b.boundary with
    | some t => !(decide (t ≤ r.latch) && decide (r.latch ≤ t + 255))
    | none => true))

/-- Split one shelf of the closed window: its entry and the batch's shares (R531, R532, R546). -/
def Buckram.sealShelf (b : Buckram) (w : ClosedWindow) (x : ClosedShelf) (l : List JobShare) : WindowEntry × List JobShare :=
  let mine := w.charges.charges.filter (fun c => c.shelf == x.shelf)
  let (k, parts) := apportion (x.energy - x.gap) mine
  let capped := decide (65535 ≤ k)
  let flags := x.flags + winFlag 1 (b.late x.shelf) + winFlag 4 (!x.suspended && (capped || decide (b.highK < k)))
    + winFlag 5 (!x.suspended && decide (k < b.lowK))
    + (if bit x.flags 7 then 0 else winFlag 7 (w.charges.resets.contains x.shelf))
  let counters (j : Nat) : Nat := ((mine.find? (fun c => c.job == j)).map MeterCharge.energy).getD 0
  let l1 := if x.suspended then l
    else parts.foldl (fun m p => addShare m p.1 x.shelf (p.2 + if p.1 = 0 then x.gap else 0) (counters p.1)) l
  ({ shelf := x.shelf, energy := x.energy, k := if x.suspended then 0 else k, flags := flags, seconds := w.seconds }, l1)

/-! ### Batches and statements (R533 to R536) -/

/-- A signature block by the Buckram key over a digest: credential 4 (R99, R534); `n` names the signature's randomness. -/
def mtrSignature (digest : Bytes) (n : Nat) : Bytes :=
  toLe 1 4 ++ toLe 1 1 ++ toLe 2 1280 ++ zeros 4 ++ field (Config.falconSign "Buckram" digest n) 0 1280

/-- Flags of a shelf ORed over windows. -/
def orFlags (ws : List (List WindowEntry)) (shelf : Nat) : Nat :=
  ((ws.flatMap (fun w => w.filter (fun e => e.shelf == shelf))).map WindowEntry.flags).foldl (· ||| ·) 0

/-- Buckram serial (R522). -/
def mtrSerial : Bytes := field (Config.partBytes "Buckram serial") 0 8

/-- Buckram code identity (R710). -/
def mtrCode : Bytes := toLe 8 0xB3E07A5C19D462F8

/-- A shelf's register at the close of the last sealed window: a window closed and not yet sealed is no part of the batch (R533, R536). -/
def Buckram.sealedRegister (b : Buckram) (x : MeterShelf) : Nat := match b.closed with
  | some w => x.base - ((w.shelves.find? (fun c => c.shelf == x.shelf)).map ClosedShelf.energy).getD 0
  | none => x.base

/-- The bytes of a batch before its signature block (R533). -/
def Buckram.batchBytes (b : Buckram) (short entries : Bool) (shares : List JobShare) : Bytes :=
  let w := b.windows.length
  let gap := b.windows.any (fun v => v.any (fun e => bit e.flags 6))
  let meter (x : MeterShelf) : Bytes :=
    toLe 1 x.shelf ++ toLe 1 (orFlags b.windows x.shelf) ++ zeros 2 ++ toLe 8 x.meter ++ toLe 8 (b.sealedRegister x) ++ toLe 4 x.fw
  let win (e : WindowEntry) : Bytes := toLe 4 e.energy ++ toLe 2 e.k ++ toLe 1 e.flags ++ toLe 1 e.seconds
  let row (v : List WindowEntry) : Bytes := b.shelves.flatMap (fun x =>
    win ((v.find? (fun e => e.shelf == x.shelf)).getD { shelf := x.shelf, energy := 0, k := 0, flags := 0, seconds := 1 }))
  let pending := if b.closed.isSome then 1 else 0
  toLe 8 b.nextBatch ++ mtrSerial ++ mtrCode ++ toLe 8 (b.window + 1 - pending - w) ++ toLe 1 w
    ++ toLe 1 (flag short + 2 * flag gap + 4 * flag b.billing) ++ toLe 1 b.shelves.length ++ zeros 1 ++ toLe 2 shares.length ++ zeros 2
    ++ toLe 4 b.audit.length ++ field ((b.audit.getLast?.map shake32).getD []) 0 32 ++ field b.lastDigest 0 32
    ++ toLe 6 b.lastBoundary ++ zeros 6 ++ b.shelves.flatMap meter ++ (if entries then b.windows.flatMap row else [])
    ++ shares.flatMap (fun x => toLe 2 x.job ++ toLe 1 x.shelf ++ zeros 1 ++ toLe 4 x.energy ++ toLe 8 (x.counters / 1000))

/-- The statement of a job before its signature block (R535). -/
def Buckram.statement (b : Buckram) (digest : Bytes) (job : Nat) (shares : List JobShare) : Bytes :=
  let mine := shares.filter (fun x => x.job == job)
  let w := b.windows.length
  let k (v : List WindowEntry) (h : Nat) : Nat := ((v.find? (fun e => e.shelf == h)).map WindowEntry.k).getD 0
  let pending := if b.closed.isSome then 1 else 0
  toLe 2 job ++ toLe 1 mine.length ++ toLe 1 w ++ toLe 8 b.nextBatch ++ mtrSerial ++ field digest 0 32
    ++ toLe 8 (b.window + 1 - pending - w)
    ++ mine.flatMap (fun x => toLe 1 x.shelf ++ toLe 1 (orFlags b.windows x.shelf) ++ zeros 2 ++ toLe 4 x.energy
      ++ b.windows.flatMap (fun v => toLe 2 (k v x.shelf)))

/-- Seal one batch of the open windows with some of the shares; the ring keeps 4,096 (R533 to R536). -/
def State.sealPart (s : State) (short entries : Bool) (shares : List JobShare) : State :=
  let b := s.buckram
  let body := b.batchBytes short entries shares
  let digest := shake32 (ascii "GN7MTRB1" ++ body)
  let (s1, n) := s.draw
  let jobs := (shares.map JobShare.job).eraseDups
  let (s2, statements) := jobs.foldl (fun (acc : State × List (Nat × Bytes)) j =>
    let st := b.statement digest j shares
    let (t, k) := acc.1.draw
    (t, acc.2 ++ [(j, st ++ mtrSignature (shake32 (ascii "GN7MTRJ1" ++ st)) k)])) (s1, [])
  let all := b.batches ++ [{
    number := b.nextBatch, bytes := body ++ mtrSignature digest n, digest := digest, statements := statements }]
  let gone := all.take (all.length - 4096)
  s2.modBuckram (fun x => { x with
    nextBatch := (x.nextBatch + 1) % 2 ^ 64, lastDigest := digest, batches := lastN 4096 all
    lost := satAdd 32 x.lost (gone.filter (fun g => !g.fetched)).length })

/-- Batches of at most 2,048 job entries: the first carries the window entries, the rest are SHORT (R533). -/
def State.sealParts : Nat → State → Bool → Bool → List JobShare → State
  | 0, s, _, _, _ => s
  | n + 1, s, short, first, shares =>
    let s1 := s.sealPart (short || !first) first (shares.take 2048)
    if shares.length ≤ 2048 then s1 else s1.sealParts n short false (shares.drop 2048)

/-- Seal the open batch (R533); the chain state with the registers goes to flash (R536). -/
def State.sealBatch (s : State) (short : Bool) : State :=
  if s.buckram.windows = [] then s
  else (s.sealParts 8 short true s.buckram.shares).modBuckram (fun b => { b with
    windows := [], shares := [], shelves := b.shelves.map (fun x => { x with stored := b.sealedRegister x }) })

/-! ### Parameters (R537 to R540) -/

/-- A parameter change takes effect (R539). -/
def Buckram.change (b : Buckram) (kind : Nat) (body : Bytes) : Buckram :=
  let shelf := le body 0 1
  match kind with
  | 1 => { b with metrology := field body 0 1793 }
  | 2 => { b with metrology := field body 0 1793 }
  | 3 =>
    let y : MeterShelf := match b.shelves.find? (fun x => x.shelf == shelf) with
      | some x => { x with meter := le body 8 8, suspended := false, fresh := 1, gap := 0 }
      | none => { shelf := shelf, meter := le body 8 8 }
    { b with shelves := insertBy MeterShelf.shelf (b.shelves.filter (fun x => x.shelf != shelf)) y }
  | 4 => { b with shelves := b.shelves.filter (fun x => x.shelf != shelf) }
  | 5 => { b with billing := le body 0 1 == 1 }
  | 6 => { b with lowK := le body 0 2, highK := le body 2 2 }
  | _ => b

/-- Length of a change's body by kind (R539). -/
def changeLen : Nat → Nat
  | 1 => 1793
  | 2 => 1793
  | 3 => 16
  | 4 => 1
  | 5 => 1
  | _ => 4

/-- Seal the closed window: apportionment, pending changes, and the batch at its 60th window (R530 to R533, R539). -/
def State.sealWindow (s : State) : State :=
  match s.buckram.closed with
  | none => s
  | some w =>
    let b := s.buckram
    let (entries, shares) := w.shelves.foldl (fun (acc : List WindowEntry × List JobShare) x =>
      let (e, l) := b.sealShelf w x acc.2
      (acc.1 ++ [e], l)) ([], b.shares)
    let b1 := { b with
      windows := b.windows ++ [entries], shares := shares, closed := none, boundary := none
      lastBoundary := b.boundary.getD b.lastBoundary }
    let s1 := s.modBuckram (fun _ => b1)
    let s2 := if 60 ≤ b1.windows.length then s1.sealBatch false else s1
    let due := s2.buckram.changes.filter (fun c => decide (c.1 ≤ b.window))
    s2.modBuckram (fun x => { due.foldl (fun y c => y.change c.2.1 c.2.2) x with
      changes := x.changes.filter (fun c => decide (b.window < c.1)) })

/-- Checks 2 to 4 of R102 on the forwarded packet, by Buckram (R537, R538): METRO_ENROL is signed by the key that it enrols. -/
def State.mtrSignatureCheck (s : State) (p : Packet) : Check :=
  let b := p.sigs.getD 0 []
  let cred := le b 0 1
  let key := if s.buckram.metrology = [] ∧ le p.body 0 1 = 1 then field p.body 16 1793 else s.buckram.metrology
  if !(1 ≤ cred && cred ≤ 3 && le b 1 1 == 1 && le b 2 2 == 1280 && le b 4 4 == 0) then .fail 0x22 4
  else if cred ≠ 3 then .fail 0x22 5
  else if key = [] then .fail 0x22 3
  else if p.digest ≠ s.cosignDigest p then .fail 0x22 1
  else if !falconVerify key p.digest (field b 8 1280) then .fail 0x22 2
  else .ok

/-- The checks of R538 to R540 on a signed change. -/
def State.mtrParamCheck (s : State) (p : Packet) : Check :=
  let b := p.body
  let kind := le b 0 1
  checks [need (1 ≤ kind && kind ≤ 6) (p.off 0), need (le b 1 3 == 0) (p.off 1), need (le b 4 4 == s.buckram.audit.length) (p.off 4),
    need (field b 8 8 == mtrSerial) (p.off 8), need (p.bodyLen == 16 + changeLen kind) 12,
    need (kind != 1 || s.buckram.metrology == []) (p.off 0), need (!(kind == 3 || kind == 4) || le b 16 1 ≤ 95) (p.off 16),
    if 65536 ≤ s.buckram.audit.length then .fail 0x12 1 else .ok]

/-- Append an audit entry (R540): number, window, digest of the previous entry, parameters, signature block, Buckram's signature; the
spec gives the entry no layout (DESIGN CHOICE: these in order, the parameters with their length). -/
def State.auditEntry (s : State) (p : Packet) : State :=
  let b := s.buckram
  let body := toLe 4 b.audit.length ++ toLe 8 (b.window + 1) ++ field ((b.audit.getLast?.map shake32).getD []) 0 32
    ++ toLe 4 p.bodyLen ++ field p.body 0 p.bodyLen ++ field (p.sigs.getD 0 []) 0 1288
  let (s1, n) := s.draw
  s1.modBuckram (fun x => { x with audit := x.audit ++ [body ++ mtrSignature (shake32 (ascii "GN7MTRA1" ++ body)) n] })

/-! ### Queries (R543, R544) -/

/-- The whole answer to a query; none when something named is not held (R543, R544). -/
def Buckram.answer (b : Buckram) (kind first count job : Nat) : Option Bytes :=
  let all (l : List (Option Bytes)) : Option Bytes :=
    l.foldl (fun a x => match a, x with
      | some p, some q => some (p ++ q)
      | _, _ => none) (some [])
  match kind with
  | 1 => all ((List.range count).map (fun i => (b.batches.find? (fun x => x.number == first + i)).map MeterBatch.bytes))
  | 2 => all ((List.range count).map (fun i =>
      (b.batches.find? (fun x => x.number == first + i)).bind (fun x => kvGet x.statements job)))
  | 3 => all ((List.range count).map (fun i => b.audit[first + i]?))
  | 4 => some (mtrCode ++ mtrSerial ++ field (Config.partBytes "Buckram public key") 0 1793
      ++ field (Config.partBytes "Buckram certificate") 0 3144)
  | _ => none

/-- Send the QUERY message of the first query for its offset (R541, R543). -/
def State.sendQuery (s : State) : State :=
  match s.buckram.queries with
  | [] => s
  | q :: rest =>
    let body := toLe 1 q.kind ++ zeros 1 ++ toLe 8 q.first ++ toLe 2 q.count ++ toLe 2 q.job ++ toLe 4 q.seq ++ toLe 4 q.offset
    s.modBuckram (fun b => { b.post 4 body with queries := { q with sentAt := s.clock.now, answered := false } :: rest })

/-- The management cores ask a query for a command, one after another, since a new one would abandon the last (R543). -/
def State.startQuery (s : State) (cmd kind first count job : Nat) : State :=
  let q : MtrQuery := { cmd := cmd, kind := kind, first := first, count := count, job := job, seq := s.buckram.nextQuery }
  let s1 := s.modBuckram (fun b => { b with queries := b.queries ++ [q], nextQuery := (b.nextQuery + 1) % 2 ^ 32 })
  if s.buckram.queries = [] then s1.sendQuery else s1

/-- The query asked ends with its command; the next one is asked. -/
def State.endQuery (s : State) (status detail : Nat) (result : Bytes) : State :=
  match s.buckram.queries with
  | [] => s
  | q :: rest =>
    let s1 := (s.modBuckram (fun b => { b with queries := rest })).endCmd q.cmd status detail result
    s1.sendQuery

end Sys2Proof.Machine
end

