-- ==== Sys2Proof/Machine/Buckram.lean ====
section
/-! DEFINITION. The meanings of the metering commands (spec 15_buckram_metering; opcode class 0x0A), of Buckram's bus, strobe and
mailbox events, and of the management cores' part of a query. -/

namespace Sys2Proof.Machine

open Sys2Proof

/-- While Buckram is in FAULT its commands complete with ST_FENCED (R523). -/
def State.mtrTarget (s : State) : Check :=
  if s.buckram.state = 3 then .fail 0x30 (unitSource 3 0) else .ok

/-- MTR_PARAM_SET (R538): the packet is forwarded to Buckram in PARAM segments; the command ends when Buckram has checked and audited
the change. Where the signature steps 2 to 4 of R538 stand among the checks of R106 is open: DESIGN CHOICE (log entry 243), after check 11, so
that a packet the device itself refuses is answered by the device and never reaches Buckram. -/
def opMtrParamSet : HostOp := {
  opcode := 0x0A01, cosign := .m, jobs := .zero, noJobMaster := true
  params := fun p _ _ => checks [need (p.nsig == 1) 2, needAtLeast p 16]
  reserves := fun _ _ => [.unit 3 0]
  target := fun _ s => s.mtrTarget
  apply := fun p id s =>
    (s.modBuckram (fun b => { b with
      outbox := paramSegments 128 0 (packetBytes p), paramCmd := some id }.pump 128), .running) }

/-- MTR_PARAM_SET. -/
def execMtrParamSet (p : Packet) (s : State) : Host.Outcome State Fault Refusal := s.finish (s.command opMtrParamSet p)

/-- MTR_BATCH_GET (R544). -/
def opMtrBatchGet : HostOp := {
  opcode := 0x0A02, query := true
  params := fun p slot s => checks [needLen p 10, need (1 ≤ le p.body 8 2 && le p.body 8 2 ≤ 16) (p.off 8),
    needRight (s.masterJob slot).isNone 2 slot]
  target := fun _ s => s.mtrTarget
  apply := fun p id s => (s.startQuery id 1 (le p.body 0 8) (le p.body 8 2) 0, .running) }

/-- MTR_BATCH_GET. -/
def execMtrBatchGet (p : Packet) (s : State) : Host.Outcome State Fault Refusal := s.finish (s.command opMtrBatchGet p)

/-- MTR_JOB_ENERGY_GET (R338, R544): JOB(j) for its job, the operator's host function for any. -/
def opMtrJobEnergyGet : HostOp := {
  opcode := 0x0A03, query := true, jobs := .nonzero
  params := fun p slot s => checks [needLen p 10, need (1 ≤ le p.body 8 2 && le p.body 8 2 ≤ 1440) (p.off 8),
    needRight (s.masterJob slot == some p.job || s.isOperator slot) 2 slot]
  target := fun _ s => s.mtrTarget
  apply := fun p id s => (s.startQuery id 2 (le p.body 0 8) (le p.body 8 2) p.job, .running) }

/-- MTR_JOB_ENERGY_GET. -/
def execMtrJobEnergyGet (p : Packet) (s : State) : Host.Outcome State Fault Refusal := s.finish (s.command opMtrJobEnergyGet p)

/-- MTR_AUDIT_GET (R544). -/
def opMtrAuditGet : HostOp := {
  opcode := 0x0A04, query := true
  params := fun p _ _ => checks [needLen p 6, need (1 ≤ le p.body 4 2 && le p.body 4 2 ≤ 64) (p.off 4)]
  target := fun _ s => s.mtrTarget
  apply := fun p id s => (s.startQuery id 3 (le p.body 0 4) (le p.body 4 2) 0, .running) }

/-- MTR_AUDIT_GET. -/
def execMtrAuditGet (p : Packet) (s : State) : Host.Outcome State Fault Refusal := s.finish (s.command opMtrAuditGet p)

/-- MTR_IDENTITY_GET (R522, R544), in FAULT as well (R523). -/
def opMtrIdentityGet : HostOp := {
  opcode := 0x0A05, query := true
  params := fun p _ _ => needLen p 0
  apply := fun _ id s => (s.startQuery id 4 0 0 0, .running) }

/-- MTR_IDENTITY_GET. -/
def execMtrIdentityGet (p : Packet) (s : State) : Host.Outcome State Fault Refusal := s.finish (s.command opMtrIdentityGet p)

/-! ### The meter bus (R525 to R527) -/

/-- METER_BUS_CYCLE (R525, R527, R542): SYNC starts the next cycle; the meters heard in the last one are counted, and shelves not
heard grow silent. -/
def execMeterBusCycle (s : State) : Host.Outcome State Fault Refusal :=
  if !s.buckram.works then s.finish s
  else s.finish (s.modBuckram (fun b => { b with
    cycles := b.cycles + 1
    meters := (b.shelves.filter MeterShelf.reported).length
    shelves := b.shelves.map (fun x => { x with
      silent := if x.reported then 0 else x.silent + 1, reported := false }) }))

/-- SHORT_REPORT_RECEIVE (R526, R527): 8 bytes in the slot of a shelf. -/
def execShortReportReceive (shelf : Nat) (frame : Bytes) (s : State) : Host.Outcome State Fault Refusal :=
  let b := s.buckram
  if !b.works ∨ crc16 (field frame 0 6) ≠ le frame 6 2 ∨ le frame 0 1 ≠ b.cycles % 256 then s.finish s
  else s.finish (s.modBuckram (fun x => x.modShelf shelf (fun m => m.short (le frame 1 4) (le frame 5 1))))

/-- EXTENDED_REPORT_RECEIVE (R526, R527, R546): 32 bytes in the extended slot, from the meter whose turn the cycle is. -/
def execExtendedReportReceive (frame : Bytes) (s : State) : Host.Outcome State Fault Refusal :=
  let b := s.buckram
  let cycle := b.cycles % 65536
  if !b.works ∨ crc32 (field frame 0 28) ≠ le frame 28 4 ∨ le frame 0 2 ≠ cycle ∨ le frame 2 1 ≠ cycle % 96 then s.finish s
  else s.finish (s.modBuckram (fun x => x.modShelf (le frame 2 1) (fun m =>
    m.extended (le frame 4 8) (le frame 12 8) (le frame 20 4) (le frame 3 1))))

/-- METER_SILENT (R527): 1,000 cycles without a valid report flag the shelf SILENT. -/
def execMeterSilent (shelf : Nat) (s : State) : Host.Outcome State Fault Refusal :=
  if !s.buckram.works then s.finish s
  else s.finish (s.modBuckram (fun b => b.modShelf shelf (fun x =>
    if 1000 ≤ x.silent then { x with silentMark := true } else x)))

/-! ### Windows (R528 to R533) -/

/-- MTR_STROBE_RECEIVE (R528): `us` is the time on Buckram's crystal since the running bus cycle began. -/
def execMtrStrobeReceive (us : Nat) (s : State) : Host.Outcome State Fault Refusal :=
  let b := s.buckram
  let now := b.time + us % 1000
  if !b.works then s.finish s
  else if now < b.openAt + 990000 then s.finish (s.modBuckram (fun x => { x with ignored := x.ignored + 1 }))
  else s.finish (((s.sealWindow).modBuckram (fun x => x.close now false)).setMtrState 1)

/-- WINDOW_SELF_CLOSE (R528): no strobe accepted for 64 s. -/
def execWindowSelfClose (s : State) : Host.Outcome State Fault Refusal :=
  let b := s.buckram
  if !b.works ∨ b.time < b.openAt + 64000000 then s.finish s
  else s.finish (((s.sealWindow).modBuckram (fun x => x.close (b.openAt + 64000000) true)).setMtrState 2)

/-- WINDOW_SEAL (R530 to R536, R539): 5 ms after the close on Buckram's crystal. -/
def execWindowSeal (s : State) : Host.Outcome State Fault Refusal :=
  match s.buckram.closed with
  | none => s.finish s
  | some w => if !s.buckram.works ∨ s.buckram.time < w.at_ + 5000 then s.finish s else s.finish s.sealWindow

/-! ### The mailbox (R541) -/

/-- In FAULT a message other than a query for the identity is taken and has no effect (R523). -/
def State.mboxDiscard (s : State) (kind : Nat) : State :=
  if s.buckram.state ≠ 3 then s
  else match s.buckram.take kind with
    | some (b, _) => s.modBuckram (fun _ => b)
    | none => s

/-- MBOX_BOUNDARY (R528, R541). -/
def execMboxBoundary (s : State) : Host.Outcome State Fault Refusal :=
  if !s.buckram.works then s.finish (s.mboxDiscard 1)
  else match s.buckram.take 1 with
    | none => s.finish s
    | some (b, m) => s.finish (s.modBuckram (fun _ => { b with boundary := some (le m 2 6) }))

/-- MBOX_COUNTS (R530, R541): up to three readings; a reading whose slot is above 64 fills the message up. -/
def execMboxCounts (s : State) : Host.Outcome State Fault Refusal :=
  if !s.buckram.works then s.finish (s.mboxDiscard 2)
  else match s.buckram.take 2 with
    | none => s.finish s
    | some (b, m) =>
      let rs := ((chunks 20 3 (m.drop 2)).map readingOf).filter (fun r => r.slot ≤ 64 && r.shelf ≤ 95)
      s.finish (s.modBuckram (fun _ => rs.foldl (fun x r => x.reading r) b))

/-- Buckram judges an assembled change (R537 to R540): checks 2 to 4, its own checks, the audit entry, then the effect at the seal of
the window. The command that forwarded it ends; the signature is accepted with it (R101). -/
def State.mtrParam (s : State) (packet : Bytes) : State :=
  let p := packetOf packet
  let done (t : State) (status detail : Nat) : State := match t.buckram.paramCmd with
    | none => t
    | some id => (t.modBuckram (fun b => { b with paramCmd := none })).endCmd id status detail
  match s.mtrSignatureCheck p with
  | .fail st d => done s st d
  | .drain _ => s
  | .ok =>
   let s0 := s.release { opcode := 0x0A01, cosign := .m } p [3]
   match s.mtrParamCheck p with
   | .fail st d => done s0 st d
   | .drain _ => s0
   | .ok =>
    let s1 := s0.auditEntry p
    let s2 := s1.modBuckram (fun b => { b with changes := b.changes ++ [(b.window + 1, le p.body 0 1, p.body.drop 16)] })
    done s2 0 0

/-- MBOX_PARAM (R538, R541): a segment; the last one completes the packet. A segment out of order abandons what came before. -/
def execMboxParam (s : State) : Host.Outcome State Fault Refusal :=
  if !s.buckram.works then s.finish (s.mboxDiscard 3)
  else match s.buckram.take 3 with
    | none => s.finish s
    | some (b, m) =>
      let i := le m 2 1
      let (got, n) := if i = 0 then ([], 0) else b.param
      let s1 := s.modBuckram (fun _ => b)
      if i ≠ n then s.finish (s1.modBuckram (fun x => { x with param := ([], 0) }))
      else
        let all := got ++ field m 4 60
        if le m 3 1 = 1 then s.finish ((s1.modBuckram (fun x => { x with param := ([], 0) })).mtrParam all)
        else s.finish (s1.modBuckram (fun x => { x with param := (all, n + 1) }))

/-- MBOX_QUERY (R541 to R543): one segment of at most 4,096 bytes from the answer's offset; lengths of 0 where something named is not
held. In FAULT only the identity is answered (R523). -/
def execMboxQuery (s : State) : Host.Outcome State Fault Refusal :=
  match s.buckram.take 4 with
  | none => s.finish s
  | some (b, m) =>
    let (kind, first, count, job, seq, off) := (le m 2 1, le m 4 8, le m 12 2, le m 14 2, le m 16 4, le m 20 4)
    if s.buckram.state = 0 ∨ (s.buckram.state = 3 ∧ kind ≠ 4) then s.finish (s.modBuckram (fun _ => b))
    else
      let (resp, total) := match b.answer kind first count job with
        | some a => ((a.drop off).take 4096, a.length)
        | none => ([], 0)
      let batches := if kind = 1 ∧ total ≠ 0 ∧ total ≤ off + resp.length then b.batches.map (fun x =>
          if first ≤ x.number ∧ x.number < first + count then { x with fetched := true } else x) else b.batches
      let queries := b.queries.map (fun q => if q.seq = seq ∧ q.offset = off then { q with answered := true } else q)
      s.finish (s.modBuckram (fun _ => { b with
        resp := resp, respSeq := seq, respTotal := total, batches := batches, queries := queries }))

/-- MBOX_SEAL_NOTICE (R533). -/
def execMboxSealNotice (s : State) : Host.Outcome State Fault Refusal :=
  if !s.buckram.works then s.finish (s.mboxDiscard 5)
  else match s.buckram.take 5 with
    | none => s.finish s
    | some (b, _) => s.finish ((s.modBuckram (fun _ => b)).sealBatch true)

/-! ### The management cores' part (R543, R544) -/

/-- MTR_QUERY_SEGMENT_ANSWER (R543): the segment is copied; the next is asked, or the command ends. -/
def execMtrQuerySegmentAnswer (s : State) : Host.Outcome State Fault Refusal :=
  match s.buckram.queries with
  | [] => s.finish s
  | q :: rest =>
    let b := s.buckram
    if !q.answered ∨ b.respSeq ≠ q.seq then s.finish s
    else if b.resp = [] ∧ b.respTotal = 0 then
      let off := ((s.cmd q.cmd).map (fun c : Cmd => c.pkt.off 0)).getD 64
      s.finish (s.endQuery 0x11 off q.got)
    else
      let got := q.got ++ b.resp
      if b.respTotal ≤ got.length then s.finish (s.endQuery 0 0 got)
      else s.finish ((s.modBuckram (fun x => { x with queries := { q with got := got, offset := got.length } :: rest })).sendQuery)

/-- MTR_QUERY_TIMEOUT (R544). -/
def execMtrQueryTimeout (s : State) : Host.Outcome State Fault Refusal :=
  match s.buckram.queries with
  | [] => s.finish s
  | q :: _ => if q.answered ∨ s.clock.now < q.sentAt + 64 then s.finish s else s.finish (s.endQuery 0x50 0 [])

/-- BUCKRAM_SELF_FAULT (R523, R533): a SHORT batch is sealed, and Buckram fences itself; a change that waits for it ends with
ST_FENCED. -/
def execBuckramSelfFault (s : State) : Host.Outcome State Fault Refusal :=
  if s.buckram.state = 3 then s.finish s
  else
    let s1 := (s.sealBatch true).setMtrState 3
    let s2 := s1.fault { source := unitSource 3 0, code := 3 }
    let s3 := s2.setUnit { kind := 3, index := 0, status := .fenced, code := 3, tick := s.tickNow, since := s.clock.now }
    match s3.buckram.paramCmd with
    | some id => s.finish (((s3.modBuckram (fun b => { b with paramCmd := none, outbox := [] })).endCmd id 0x30 (unitSource 3 0)).refreshDev)
    | none => s.finish s3.refreshDev

end Sys2Proof.Machine
end

