-- ==== Sys2Proof/Machine/Float.lean ====
section
/-! DEFINITION. Floating-point formats of spec 10_twill_collectives R356 and 12_calico_tables R444: exact values as a sign, an
integer and a power of two, rounded once. -/

namespace Sys2Proof.Machine

open Sys2Proof

/-- A binary floating-point format: exponent and mantissa field widths and the greatest finite magnitude. -/
structure FpFormat where
  eb : Nat
  mb : Nat
  /-- bits of the greatest finite magnitude -/
  maxBits : Nat
  /-- overflow goes to infinity, encoded as the bits after the greatest finite magnitude -/
  inf : Bool
  /-- the canonical NaN, none where the format has none; DESIGN CHOICE: positive, quiet bit alone set -/
  nan : Option Nat
  deriving DecidableEq, Repr

/-- FP8 E4M3. -/
def fpE4M3 : FpFormat := { eb := 4, mb := 3, maxBits := 0x7E, inf := false, nan := some 0x7F }
/-- FP8 E5M2. -/
def fpE5M2 : FpFormat := { eb := 5, mb := 2, maxBits := 0x7B, inf := true, nan := some 0x7E }
/-- BF16. -/
def fpBf16 : FpFormat := { eb := 8, mb := 7, maxBits := 0x7F7F, inf := true, nan := some 0x7FC0 }
/-- FP16. -/
def fp16 : FpFormat := { eb := 5, mb := 10, maxBits := 0x7BFF, inf := true, nan := some 0x7E00 }
/-- FP32. -/
def fp32 : FpFormat := { eb := 8, mb := 23, maxBits := 0x7F7FFFFF, inf := true, nan := some 0x7FC00000 }
/-- FP6 E3M2. -/
def fpE3M2 : FpFormat := { eb := 3, mb := 2, maxBits := 0x1F, inf := false, nan := none }
/-- FP6 E2M3. -/
def fpE2M3 : FpFormat := { eb := 2, mb := 3, maxBits := 0x1F, inf := false, nan := none }
/-- FP4 E2M1. -/
def fpE2M1 : FpFormat := { eb := 2, mb := 1, maxBits := 0x7, inf := false, nan := none }

/-- Exponent bias. -/
def FpFormat.bias (f : FpFormat) : Int := 2 ^ (f.eb - 1) - 1

/-- Bits of the format. -/
def FpFormat.width (f : FpFormat) : Nat := 1 + f.eb + f.mb

/-- Largest exponent of a finite value. -/
def FpFormat.emax (f : FpFormat) : Int := (f.maxBits / 2 ^ f.mb : Nat) - f.bias

/-- Drop `k` low bits of a magnitude: to nearest even, or with a random integer added first (R364). -/
def dropBits (m k : Nat) (rnd : Option Nat) : Nat :=
  match rnd with
  | some r => (m + r % 2 ^ k) / 2 ^ k
  | none =>
    let q := m / 2 ^ k
    let r := m % 2 ^ k
    if 2 * r > 2 ^ k ∨ (2 * r = 2 ^ k ∧ q % 2 = 1 ∧ k ≠ 0) then q + 1 else q

/-- Magnitude bits of m × 2^p, rounded once, overflow showing as bits above `maxBits`. -/
def FpFormat.magnitude (f : FpFormat) (m : Nat) (p : Int) (rnd : Option Nat := none) : Nat :=
  if m = 0 then 0
  else
    let emin : Int := 1 - f.bias
    let e : Int := max (m.log2 + p) emin
    let k : Int := e - f.mb - p
    let q := if k ≤ 0 then m * 2 ^ (-k).toNat else dropBits m k.toNat rnd
    (e - emin).toNat * 2 ^ f.mb + q

/-- The value ±m × 2^p in a format, and whether it overflowed: to infinity, or saturated (R364). -/
def FpFormat.encode (f : FpFormat) (neg : Bool) (m : Nat) (p : Int) (rnd : Option Nat := none) : Nat × Bool :=
  let sign := if neg then 2 ^ (f.width - 1) else 0
  let b := f.magnitude m p rnd
  if b ≤ f.maxBits then (sign + b, false)
  else (sign + (if f.inf then f.maxBits + 1 else f.maxBits), true)

/-- A floating-point datum. -/
inductive Fp where
  | nan
  | inf (neg : Bool)
  /-- ±m × 2^p -/
  | fin (neg : Bool) (m : Nat) (p : Int)
  deriving DecidableEq, Repr

/-- What bits of a format denote. -/
def FpFormat.decode (f : FpFormat) (b : Nat) : Fp :=
  let neg := bit b (f.width - 1)
  let mag := b % 2 ^ (f.width - 1)
  if f.maxBits < mag then (if f.inf ∧ mag = f.maxBits + 1 then .inf neg else .nan)
  else
    let e := mag / 2 ^ f.mb
    let m := mag % 2 ^ f.mb
    if e = 0 then .fin neg m (1 - f.bias - f.mb) else .fin neg (m + 2 ^ f.mb) (e - f.bias - f.mb)

/-- The signed integer at a scale. -/
def signed (neg : Bool) (m : Nat) : Int := if neg then -(m : Int) else m

/-- Sum of two finite numbers, exactly: integer and exponent. -/
def addExact (a b : Int) (pa pb : Int) : Int × Int :=
  let p := min pa pb
  (a * 2 ^ (pa - p).toNat + b * 2 ^ (pb - p).toNat, p)

/-- Round an exact number to FP32, to nearest even. A zero is positive. -/
def fp32Of (v : Int) (p : Int) : Nat := (fp32.encode (decide (v < 0)) v.natAbs p).1

/-- The FP32 NaN. -/
def fp32Nan : Nat := 0x7FC00000

/-- FP32 infinity. -/
def fp32Inf (neg : Bool) : Nat := if neg then 0xFF800000 else 0x7F800000

/-- IEEE 754 FP32 addition, to nearest even. -/
def fadd (a b : Nat) : Nat :=
  match fp32.decode a, fp32.decode b with
  | .nan, _ => fp32Nan
  | _, .nan => fp32Nan
  | .inf x, .inf y => if x = y then fp32Inf x else fp32Nan
  | .inf x, _ => fp32Inf x
  | _, .inf y => fp32Inf y
  | .fin x m p, .fin y n q =>
    if m = 0 ∧ n = 0 then (if x && y then 0x80000000 else 0)
    else
      let (v, r) := addExact (signed x m) (signed y n) p q
      fp32Of v r

/-- Negation. -/
def fneg (a : Nat) : Nat := if bit a 31 then a - 2 ^ 31 else a + 2 ^ 31

/-- Subtraction. -/
def fsub (a b : Nat) : Nat := fadd a (fneg b)

/-- IEEE 754 FP32 multiplication, to nearest even. -/
def fmul (a b : Nat) : Nat :=
  match fp32.decode a, fp32.decode b with
  | .nan, _ => fp32Nan
  | _, .nan => fp32Nan
  | .inf x, .inf y => fp32Inf (xor x y)
  | .inf x, .fin y n _ => if n = 0 then fp32Nan else fp32Inf (xor x y)
  | .fin x m _, .inf y => if m = 0 then fp32Nan else fp32Inf (xor x y)
  | .fin x m p, .fin y n q => (fp32.encode (xor x y) (m * n) (p + q)).1

/-- IEEE 754 FP32 division, to nearest even; a quotient cut short keeps a sticky bit. -/
def fdiv (a b : Nat) : Nat :=
  match fp32.decode a, fp32.decode b with
  | .nan, _ => fp32Nan
  | _, .nan => fp32Nan
  | .inf _, .inf _ => fp32Nan
  | .inf x, .fin y _ _ => fp32Inf (xor x y)
  | .fin x _ _, .inf y => if xor x y then 2 ^ 31 else 0
  | .fin x m p, .fin y n q =>
    if n = 0 then (if m = 0 then fp32Nan else fp32Inf (xor x y))
    else
      let t := m * 2 ^ 64
      (fp32.encode (xor x y) (2 * (t / n) + flag (decide (t % n ≠ 0))) (p - q - 65)).1

/-- Integer square root by bits: `k` bits left to try. -/
def isqrtAux (n : Nat) : Nat → Nat → Nat
  | 0, r => r
  | k + 1, r => isqrtAux n k (if (r + 2 ^ k) * (r + 2 ^ k) ≤ n then r + 2 ^ k else r)

/-- ⌊√n⌋ of a number below 2^128. -/
def isqrt (n : Nat) : Nat := isqrtAux n 64 0

/-- IEEE 754 FP32 square root, to nearest even; the root of a negative number is NaN. -/
def fsqrt (a : Nat) : Nat :=
  match fp32.decode a with
  | .nan => fp32Nan
  | .inf x => if x then fp32Nan else fp32Inf false
  | .fin x m p =>
    if m = 0 then a
    else if x then fp32Nan
    else
      let (n, q) := if p % 2 = 0 then (m * 2 ^ 64, p - 64) else (m * 2 ^ 65, p - 65)
      let r := isqrt n
      (fp32.encode false (2 * r + flag (decide (r * r ≠ n))) (q / 2 - 1)).1

end Sys2Proof.Machine
end

