-- ==== Sys2Proof/Machine/CalicoOps.lean ====
section
/-! DEFINITION. Calico's operations (spec 12_calico_tables): placement, sizes, formats, optimizers, the apply pass, lookups and
responses. -/

namespace Sys2Proof.Machine

open Sys2Proof

/-! ### Placement and sizes (R415 to R422) -/

/-- Where a row lies (R415). -/
structure Place where
  /-- index into the shard set -/
  shard : Nat
  slot : Nat
  bucket : Nat
  tag : Nat
  deriving DecidableEq, Repr

/-- place(x) (R415). -/
def placeOf (seed shards buckets x : Nat) : Place :=
  let y := x ^^^ seed
  let h0 := y * 0x9E3779B97F4A7C15 % 2 ^ 64
  let h := h0 ^^^ (h0 / 2 ^ 32)
  let tag := y * 0xC2B2AE3D27D4EB4F % 2 ^ 64 / 2 ^ 32
  { shard := h / 2 ^ 32 * shards / 2 ^ 32, slot := bits h 31 27, bucket := h % 2 ^ 27 % buckets
    tag := if tag = 0 then 1 else tag }

/-- place(x) in a table. -/
def CalTable.place (t : CalTable) (x : Nat) : Place := placeOf t.seed t.shards.length t.buckets x

/-- A row whose pages are lost with their quadrant: a read of it fails (R39, R454). -/
def CalTable.rowLost (t : CalTable) (x : Nat) : Bool := t.lost.contains ((t.place x).slot / 8)

/-- Row size R_b (R418). -/
def rowBytes (format d : Nat) : Nat :=
  let raw := match format with
    | 0 => 4 * d
    | 1 => 2 * d
    | _ => d + 4
  16 * cdiv raw 16

/-- Optimizer state bytes (R419). -/
def optBytes (opt d : Nat) : Nat := match opt with
  | 2 => 4 * d
  | 3 => 16
  | 4 => 8 * d + 16
  | _ => 0

/-- Record size (R419). -/
def recordBytes (format opt d : Nat) : Nat := 64 * cdiv (16 + rowBytes format d + optBytes opt d) 64

/-- Lookup lines (R419). -/
def lookupLines (format d : Nat) : Nat := cdiv (16 + rowBytes format d) 64

/-- R_b of a table. -/
def CalTable.rb (t : CalTable) : Nat := rowBytes t.format t.d

/-- State bytes of a table. -/
def CalTable.sb (t : CalTable) : Nat := optBytes t.opt t.d

/-- Record size of a table. -/
def CalTable.record (t : CalTable) : Nat := recordBytes t.format t.opt t.d

/-- The least power of two at or above `n`, at most 2^27; none when it would be larger (R422). -/
def bucketCount (rows shards : Nat) : Option Nat :=
  let n := cdiv rows (224 * shards)
  ((List.range 28).find? (fun k => decide (n ≤ 2 ^ k))).map (2 ^ ·)

/-- Pages that a table takes in each slot (R422). -/
def tablePages (buckets record : Nat) : Nat := cdiv (buckets * (64 + 8 * record)) 4096

/-- Pages of an engine slot: one eighth of its quadrant's table region (R36, R422); none while the quadrant is out of service (R39). -/
def State.slotPages (s : State) (e : Nat) : Nat :=
  if s.faults.quadsOut.contains (e / 8) then 0 else s.quadStacks (e / 8) * s.carve * 2 ^ 30 / 4096 / 8

/-- The lowest free run of `n` pages in a slot (R422). -/
def State.freeRun (s : State) (e n : Nat) : Option Nat :=
  let used := s.calico.tables.map (fun t => (t.starts.getD e 0, t.starts.getD e 0 + t.pages))
  let fits (a : Nat) : Bool := decide (a + n ≤ s.slotPages e) && used.all (fun u => decide (u.2 ≤ a) || decide (a + n ≤ u.1))
  (sortBy (fun a => a) (0 :: used.map Prod.snd)).find? fits

/-- Pages free in a slot. -/
def State.slotFree (s : State) (e : Nat) : Nat :=
  s.slotPages e - s.calico.tables.foldl (fun a t => a + t.pages) 0

/-! ### Formats (R417, R424) -/

/-- FP32 of a datum of another format. -/
def fp32From (f : FpFormat) (b : Nat) : Nat :=
  match f.decode b with
  | .nan => fp32Nan
  | .inf n => fp32Inf n
  | .fin n m p => (fp32.encode n m p).1

/-- A finite FP32 number rounded to another format, saturating or overflowing as it does. -/
def fpTo (f : FpFormat) (b : Nat) (rnd : Option Nat) : Nat :=
  match fp32.decode b with
  | .nan => f.nan.getD 0
  | .inf n => (if n then 2 ^ (f.width - 1) else 0) + (if f.inf then f.maxBits + 1 else f.maxBits)
  | .fin n m p => (f.encode n m p rnd).1

/-- An FP32 number rounded to an integer and clamped to ±127 (R424). -/
def toInt8 (b : Nat) (rnd : Option Nat) : Int :=
  match fp32.decode b with
  | .nan => 0
  | .inf n => if n then -127 else 127
  | .fin n m p =>
    let v := if 0 ≤ p then m * 2 ^ p.toNat else dropBits m (-p).toNat rnd
    signed n (min 127 v)

/-- FP32 is finite. -/
def fpFinite (b : Nat) : Bool := decide (b % 2 ^ 31 < 0x7F800000)

/-- The elements of row bytes in FP32 (R418). -/
def decodeRow (format d : Nat) (b : Bytes) : List Nat :=
  match format with
  | 0 => (List.range d).map (fun i => le b (4 * i) 4)
  | 1 => (List.range d).map (fun i => le b (2 * i) 2 * 65536)
  | 2 => (List.range d).map (fun i => fmul (le b 0 4) (fp32From fpE4M3 (le b (4 + i) 1)))
  | _ => (List.range d).map (fun i =>
      let v := le b (4 + i) 1
      fmul (le b 0 4) (fp32Of (if v < 128 then (v : Int) else (v : Int) - 256) 0))

/-- Encode elements as row bytes (R424). The random integers of stochastic rounding are free values; with every element 0 the
elements of INT8, which the spec divides by a zero scale, are free values too. -/
def encodeRow (format : Nat) (stoch : Bool) (w : List Nat) (n : Nat) : Bytes :=
  let rnd (i : Nat) : Option Nat := if stoch then some (Config.freeNat (n * 4096 + i)) else none
  let top := w.foldl (fun a x => max a (x % 2 ^ 31)) 0
  let raw : Bytes := match format with
    | 0 => w.flatMap (toLe 4)
    | 1 => w.zipIdx.flatMap (fun x => toLe 2 (fpTo fpBf16 x.1 (rnd x.2)))
    | 2 =>
      let scale := if top = 0 then fp32Of 1 0 else fdiv top (fp32Of 448 0)
      toLe 4 scale ++ w.zipIdx.flatMap (fun x => toLe 1 (fpTo fpE4M3 (fdiv x.1 scale) (rnd x.2)))
    | _ =>
      let scale := fdiv top (fp32Of 127 0)
      toLe 4 scale ++ w.zipIdx.flatMap (fun x =>
        if top = 0 then toLe 1 (Config.freeNat (n * 4096 + x.2)) else toLeInt 1 (toInt8 (fdiv x.1 scale) (rnd x.2)))
  raw ++ zeros (16 * cdiv raw.length 16 - raw.length)

/-- Flag STOCH (R424). -/
def CalTable.stoch (t : CalTable) : Bool := bit t.flags 3

/-- Flag EVICT (R424). -/
def CalTable.evict (t : CalTable) : Bool := bit t.flags 2

/-- Flag STRICT (R424). -/
def CalTable.strict (t : CalTable) : Bool := bit t.flags 0

/-- Initial elements of a row (R417). -/
def CalTable.initialValues (t : CalTable) (x : Nat) : List Nat :=
  (List.range t.d).map (fun i =>
    if t.sigma % 2 ^ 31 = 0 then 0
    else
      let y := x ^^^ t.seed
      let r : Nat := (y + i * 0xD1B54A32D192ED03) * 0x9E3779B97F4A7C15 % 2 ^ 64 / 2 ^ 40
      fmul t.sigma (fp32Of (2 * (r : Int) - 2 ^ 24) (-24)))

/-- Initial row bytes (R417). -/
def CalTable.initialBytes (t : CalTable) (x n : Nat) : Bytes := encodeRow t.format t.stoch (t.initialValues x) n

/-! ### The apply pass (R443 to R445) -/

/-- What an optimizer leaves: weights and state bytes, as FP32 numbers checked for being finite. -/
structure Applied where
  w : List Nat
  state : Bytes
  finite : Bool
  deriving DecidableEq, Repr

/-- FP32 words of state bytes. -/
def words (b : Bytes) (off n : Nat) : List Nat := (List.range n).map (fun i => le b (off + 4 * i) 4)

/-- w − η × k, element by element. -/
def stepDown (eta : Nat) (w k : List Nat) : List Nat := List.zipWith (fun a b => fsub a (fmul eta b)) w k

/-- apply(r, g) up to the check for finite values (R444). -/
def CalTable.optimize (t : CalTable) (w0 : List Nat) (state : Bytes) (g0 : List Nat) : Applied :=
  let wd := bit t.flags 1
  let g := if wd ∧ 1 ≤ t.opt ∧ t.opt ≤ 3 then List.zipWith (fun a w => fadd a (fmul t.lambda w)) g0 w0 else g0
  match t.opt with
  | 0 =>
    let w := List.zipWith fadd w0 g
    { w := w, state := state, finite := w.all fpFinite }
  | 1 =>
    let w := stepDown t.eta w0 g
    { w := w, state := state, finite := w.all fpFinite }
  | 2 =>
    let u := List.zipWith (fun u x => fadd (fmul t.beta1 u) x) (words state 0 t.d) g
    let w := stepDown t.eta w0 u
    { w := w, state := u.flatMap (toLe 4), finite := (w ++ u).all fpFinite }
  | 3 =>
    let acc := fadd (le state 0 4) (fdiv (g.foldl (fun a x => fadd a (fmul x x)) 0) (fp32Of t.d 0))
    let den := fadd (fsqrt acc) t.eps
    let w := List.zipWith (fun a x => fsub a (fdiv (fmul t.eta x) den)) w0 g
    { w := w, state := toLe 4 acc ++ zeros 12, finite := (acc :: w).all fpFinite }
  | _ =>
    let one := fp32Of 1 0
    let k := (le state (8 * t.d) 4 + 1) % 2 ^ 32
    let p1 := if k = 1 then t.beta1 else fmul (le state (8 * t.d + 4) 4) t.beta1
    let p2 := if k = 1 then t.beta2 else fmul (le state (8 * t.d + 8) 4) t.beta2
    let m := List.zipWith (fun m x => fadd (fmul t.beta1 m) (fmul (fsub one t.beta1) x)) (words state 0 t.d) g
    let v := List.zipWith (fun v x => fadd (fmul t.beta2 v) (fmul (fmul (fsub one t.beta2) x) x)) (words state (4 * t.d) t.d) g
    let w1 := List.zipWith (fun a (mv : Nat × Nat) =>
      fsub a (fdiv (fmul t.eta (fdiv mv.1 (fsub one p1))) (fadd (fsqrt (fdiv mv.2 (fsub one p2))) t.eps))) w0 (m.zip v)
    let w := if wd then List.zipWith (fun a b => fsub a (fmul (fmul t.eta t.lambda) b)) w1 w0 else w1
    { w := w, state := (m ++ v).flatMap (toLe 4) ++ toLe 4 k ++ toLe 4 p1 ++ toLe 4 p2 ++ zeros 4
      finite := (p1 :: p2 :: w ++ m ++ v).all fpFinite }

/-- A row the table holds. -/
def CalTable.row (t : CalTable) (x : Nat) : Option CalRow := t.rows.find? (fun r => r.id == x)

/-- Order of rows: slot, bucket, way (R452). -/
def CalRow.order (r : CalRow) : Nat := (r.slot * 2 ^ 27 + r.bucket) * 8 + r.way

/-- Keep a row in its place. -/
def CalTable.putRow (t : CalTable) (r : CalRow) : CalTable :=
  { t with rows := insertBy CalRow.order (t.rows.filter (fun q => q.order != r.order)) r }

/-- Count at a position of R431. -/
def CalTable.count (t : CalTable) (i : Nat) (n : Nat := 1) : CalTable := { t with counters := bump t.counters i n }

/-- A write to a page that a sweep has not reached re-encrypts it first (R449). -/
def CalTable.touchPage (t : CalTable) (slot pg : Nat) : CalTable :=
  match t.sweep with
  | none => t
  | some next =>
    if next.getD slot 0 ≤ pg ∧ !t.swept.contains (slot, pg) then
      { t with swept := t.swept ++ [(slot, pg)], counters := bump t.counters 15 }
    else t

/-- Write `len` bytes at an offset of the table's range in a slot: every page they lie in. -/
def CalTable.touchBytes (t : CalTable) (slot off len : Nat) : CalTable :=
  (List.range ((off + len - 1) / 4096 + 1 - off / 4096)).foldl (fun u i => u.touchPage slot (off / 4096 + i)) t

/-- Write the header of a bucket (R421). -/
def CalTable.touchHeader (t : CalTable) (p : Place) : CalTable :=
  t.touchBytes p.slot (p.bucket * (64 + 8 * t.record)) 64

/-- Write the record of a row (R421). -/
def CalTable.touchRow (t : CalTable) (r : CalRow) : CalTable :=
  t.touchBytes r.slot (r.bucket * (64 + 8 * t.record) + 64 + r.way * t.record) t.record

/-- The way that a new row takes: the first empty one, or the way evicted, none when admission is refused (R445). -/
def CalTable.wayFor (t : CalTable) (p : Place) : Option (Nat × Bool) :=
  let here := t.rows.filter (fun r => r.slot == p.slot && r.bucket == p.bucket)
  match (List.range 8).find? (fun w => !here.any (fun r => r.way == w)) with
  | some w => some (w, false)
  | none =>
    if t.evict then
      (sortBy (fun r => (r.touch * 2 ^ 32 + r.last) * 8 + r.way) here).head?.map (fun r => (r.way, true))
    else none

/-- Take a row into its bucket, counting evictions and refusals (R445); the row's tag and place are computed. -/
def CalTable.insertRow (t : CalTable) (x : Nat) (data state : Bytes) : CalTable × Bool :=
  let p := t.place x
  match t.wayFor p with
  | none => (t.count 8, false)
  | some (w, evicted) =>
    let t1 := if evicted then t.count 9 else t
    let r : CalRow := { slot := p.slot, bucket := p.bucket, way := w, tag := p.tag, id := x, data := data, state := state }
    (((t1.touchHeader p).touchRow r).putRow r, true)

/-- Candidates of a bucket count an update; true when the row is to be admitted (R445). -/
def CalTable.candidate (t : CalTable) (x : Nat) : CalTable × Bool :=
  if t.admitAt = 0 then (t, true)
  else
    let p := t.place x
    let here := t.cands.filter (fun c => c.slot == p.slot && c.bucket == p.bucket)
    let rest := t.cands.filter (fun c => !(c.slot == p.slot && c.bucket == p.bucket))
    let mine := here.find? (fun c => c.tag == p.tag && c.cid == x % 65536)
    let index := match mine with
      | some c => c.index
      | none =>
        let load (i : Nat) : Nat := ((here.find? (fun c => c.index == i)).map CalCand.count).getD 0
        ((sortBy (fun i => load i * 4 + i) (List.range 4)).head?).getD 0
    let n := min 15 ((mine.map CalCand.count).getD 0 + 1)
    let others := here.filter (fun c => c.index != index)
    if t.admitAt ≤ n then ({ t with cands := rest ++ others }, true)
    else ({ t with cands := rest ++ others ++ [{
        slot := p.slot, bucket := p.bucket, index := index, tag := p.tag, cid := x % 65536, count := n }] }, false)

/-- Apply one entry of a committed set at tick `tick` (R443 to R445, R454); `n` names the free values of its rounding. -/
def CalTable.applyEntry (t : CalTable) (tick n : Nat) (e : CalEntry) : CalTable :=
  let go (t : CalTable) (r : CalRow) : CalTable :=
    let a := t.optimize (decodeRow t.format t.d r.data) r.state e.grad
    if !a.finite then t.count 12
    else ((t.touchRow r).putRow { r with
      data := encodeRow t.format t.stoch a.w n, state := a.state, touch := min 65535 (r.touch + 1)
      last := tick % 2 ^ 32 }).count 5
  if t.rowLost e.row then t.count 10
  else match t.row e.row with
  | some r => if r.poison then t.count 10 else go t r
  | none =>
    let (t1, yes) := (if t.admitAt = 0 then t else t.touchHeader (t.place e.row)).candidate e.row
    if !yes then t1.count 10
    else
      let (t2, ok) := t1.insertRow e.row (t1.initialBytes e.row n) (zeros t1.sb)
      match ok, t2.row e.row with
      | true, some r => go (t2.count 7) r
      | _, _ => t2

/-- Apply every entry admitted before an instant, in slot order (R443); the sets are whole. -/
def CalTable.applySets (t : CalTable) (now tick n : Nat) : CalTable :=
  let due := sortBy CalEntry.slot (t.entries.filter (fun e => decide (e.at_ < now)))
  due.zipIdx.foldl (fun u e => u.applyEntry tick (n + e.2) e.1) { t with entries := t.entries.filter (fun e => decide (now ≤ e.at_)) }

/-- Change a table. -/
def State.modTable (s : State) (i : Nat) (f : CalTable → CalTable) : State :=
  { s with calico := { s.calico with tables := s.calico.tables.map (fun t => if t.id = i then f t else t) } }

/-- A table whose shard this Geneel holds. -/
def State.table (s : State) (i : Nat) : Option CalTable := s.calico.tables.find? (fun t => t.id == i)

/-! ### Engines and caches (R27, R342, R438) -/

/-- The engine that serves a slot: its own, the other on its router, or the lowest good one of the quadrant (R27, R416). -/
def State.engineOf (s : State) (e : Nat) : Nat :=
  let good (i : Nat) : Bool := s.unitStatus 12 i == .active || s.unitStatus 12 i == .draining
  let other := if e % 2 = 0 then e + 1 else e - 1
  if good e then e else if good other then other
  else ((List.range 8).map (fun i => e / 8 * 8 + i)).find? good |>.getD e

/-- A job is isolated: its slice is ACTIVE with ISOLATE (R342). -/
def State.isolated (s : State) (job : Nat) : Option Slice :=
  s.access.slices.find? (fun x => x.job == job && x.isolate && x.state == .active)

/-- Sixteenths of a cache that isolated jobs own (R342). -/
def State.isoTotal (s : State) : Nat :=
  (s.access.slices.filter (fun x => x.isolate && x.state == .active)).foldl (fun a x => a + popcount 15 x.isoSlots) 0

/-- Bytes of a job's partition of an engine's cache (R342). -/
def State.partition (s : State) (job : Nat) : Nat := match s.isolated job with
  | some x => popcount 15 x.isoSlots * 131072
  | none => (16 - s.isoTotal) * 131072

/-- Both jobs share a partition. -/
def State.samePart (s : State) (a b : Nat) : Bool := a == b || ((s.isolated a).isNone && (s.isolated b).isNone)

/-- Bytes of a coalescing entry (R442). -/
def CalTable.entryBytes (t : CalTable) : Nat := 64 * cdiv (16 + 4 * t.d) 64

/-- Bytes pinned at an engine in a job's partition (R442). -/
def State.pinned (s : State) (engine job : Nat) : Nat :=
  s.calico.tables.foldl (fun a t =>
    if s.samePart t.job job then
      a + t.entryBytes * (t.entries.filter (fun e => s.engineOf e.slot == engine)).length
    else a) 0

/-- Read or write lines through an engine's cache: the hits, and the lines brought to the front; the least recently used ones leave a partition
in which they and the pinned lines of the coalescing store no longer fit (R438, R442). -/
def State.cacheRead (s : State) (engine job table slot : Nat) (lines : List Nat) : State × Nat :=
  let read (a : State × Nat) (l : Nat) : State × Nat :=
    let c : CacheLine := { slot := slot, job := job, table := table, line := l }
    let hit := a.1.calico.cache.contains c
    let all := c :: a.1.calico.cache.filter (· != c)
    let part := all.filter (fun x => a.1.engineOf x.slot == engine && a.1.samePart x.job job)
    let gone := part.drop ((s.partition job - s.pinned engine job) / 64)
    ({ a.1 with calico := { a.1.calico with cache := all.filter (fun x => !gone.contains x) } }, a.2 + flag hit)
  lines.foldl read (s, 0)

/-- Lines of a bucket's header and of a row's record. -/
def CalTable.recordLines (t : CalTable) (x : Nat) : List Nat :=
  let base := (t.place x).bucket * (1 + 8 * t.record / 64)
  base :: (match t.row x with
    | some r => (List.range (t.record / 64)).map (fun i => base + 1 + r.way * (t.record / 64) + i)
    | none => [])

/-- Commit and apply the sets of a table; the apply pass reads and writes its lines through the cache (R437, R438, R443). -/
def State.applyTable (s : State) (i : Nat) : State :=
  match s.table i with
  | none => s
  | some t =>
    let due := sortBy CalEntry.slot (t.entries.filter (fun e => decide (e.at_ < s.clock.now)))
    let s1 := s.modTable i (fun t => t.applySets s.clock.now s.tickNow s.drawn)
    due.foldl (fun u e => match u.table i with
      | some v => (u.cacheRead (u.engineOf e.slot) v.job i e.slot (v.recordLines e.row)).1
      | none => u) { s1 with drawn := s1.drawn + due.length }

/-- Room for a new entry: pinned lines stay within half the partition (R442). -/
def State.coalesceRoom (s : State) (t : CalTable) (slot : Nat) : Bool :=
  decide (2 * (s.pinned (s.engineOf slot) t.job + t.entryBytes) ≤ s.partition t.job)

/-- Add a contribution to an entry's range of elements (R442). -/
def addRange (old : List Nat) (off : Nat) (g : List Nat) : List Nat :=
  old.zipIdx.map (fun x => if off ≤ x.2 ∧ x.2 < off + g.length then fadd x.1 (g.getD (x.2 - off) 0) else x.1)

/-- A stalled record, or one that has just arrived, enters the coalescing store where it may (R442). -/
def State.admitRecord (s : State) (t : CalTable) (r : CalStalled) : Option State :=
  let now := s.clock.now
  let note (s : State) : State := s.modTable t.id (fun t => { t with
    acks := t.acks.map (fun a => if a.len = r.len ∧ a.req = r.req ∧ !a.dup then { a with left := a.left - 1, at_ := now } else a) })
  if t.entries.any (fun e => e.row == r.row && e.at_ == now) then
    some (note (s.modTable t.id (fun t => { t with entries := t.entries.map (fun e =>
      if e.row = r.row ∧ e.at_ = now then { e with grad := addRange e.grad r.offset r.grad } else e) })))
  else if s.coalesceRoom t r.slot then
    let zero := List.replicate t.d 0
    let g := zero.zipIdx.map (fun x => if r.offset ≤ x.2 ∧ x.2 < r.offset + r.grad.length then r.grad.getD (x.2 - r.offset) 0 else 0)
    some (note (s.modTable t.id (fun t => { t with
      entries := t.entries ++ [{ slot := r.slot, row := r.row, grad := g, at_ := now }] })))
  else none

/-- The engine of a slot is stalled (R442). -/
def State.stalledAt (s : State) (slot : Nat) : Bool :=
  s.calico.stalled.any (fun r => s.engineOf r.slot == s.engineOf slot)

/-- Take one update record: admitted, or behind its stalled engine (R437, R442). -/
def State.takeRecord (s : State) (table : Nat) (r : CalStalled) : State :=
  match s.table table with
  | none => s
  | some t =>
    let wait (s : State) : State := { s with calico := { s.calico with
      stalled := s.calico.stalled ++ [r], stalledTables := s.calico.stalledTables ++ [table] } }
    if s.stalledAt r.slot then wait s
    else match s.admitRecord t r with
      | some s1 => s1
      | none => wait (s.modTable table (fun t => t.count 6))

/-! ### Requests and responses (R432 to R436) -/

/-- The Calico header (R432). -/
structure CalHeader where
  op : Nat
  flags : Nat
  count : Nat
  table : Nat
  top : Nat
  req : Nat
  offset : Nat
  n : Nat
  tick : Nat
  deriving DecidableEq, Repr

/-- Read it. -/
def calHeader (b : Bytes) : CalHeader :=
  { op := le b 0 1 % 16, flags := le b 0 1 / 16, count := le b 1 1, table := le b 2 2 % 4096, top := le b 2 2 / 4096
    req := le b 4 4, offset := le b 8 2, n := le b 10 2, tick := le b 12 4 }

/-- Bytes of a record of a request (R433). -/
def CalHeader.size (h : CalHeader) : Nat := match h.op with
  | 1 => 8
  | 2 => 16
  | _ => 8 + h.n * (if bit h.flags 0 then 2 else 4)

/-- Room for records in a flit (R433). -/
def calRoom (enc : Bool) : Nat := if enc then 208 else 224

/-- The records of a request. -/
def calRecords (h : CalHeader) (b : Bytes) : List Bytes := chunks h.size h.count (b.drop 16)

/-- A well-formed request (R432, R433, R436 reason 3); what is reserved in it is ignored (R13). -/
def CalHeader.good (h : CalHeader) (t : CalTable) (enc : Bool) (b : Bytes) : Bool :=
  let base := 1 ≤ h.count && decide (h.count * h.size ≤ calRoom enc)
    && b.length == 16 + h.count * h.size
  match h.op with
  | 1 => base && h.flags == 0 && h.offset == 0 && h.n == 0
  | 2 => base && decide (h.flags < 8 && h.flags % 4 ≤ 2 && h.flags ≠ 6) && h.offset == 0 && h.n == 0
  | 3 => base && h.flags < 2 && 1 ≤ h.n && h.offset + h.n ≤ t.d
  | _ => false

/-- A response flit of a table (R432). -/
def calFlit (s : State) (t : CalTable) (dst op flags count req offset n tick : Nat) (records : Bytes) : Flit :=
  { kind := .data, vc := 6, dst := dst, src := s.ownAddr, stream := t.rspStream, job := t.job
    enc := (s.currentKey t.job 0).isSome
    payload := toLe 1 (op + 16 * flags) ++ toLe 1 count ++ toLe 2 t.id ++ toLe 4 req ++ toLe 2 offset ++ toLe 2 n ++ toLe 4 tick
      ++ records }

/-- Requester index of a table's flits. A response gathers rows of several engines, and which of them injects it is open: DESIGN CHOICE (log
entry 203), the Calico engine of the table ID modulo 32. -/
def calIndex (table : Nat) : Nat := gridIndex 12 (table % 32)

/-- A response leaves at an instant: it is injected then, or now when that is no later. -/
def State.calSend (s : State) (at_ : Nat) (f : Flit) : State :=
  let c := s.calico
  let table := le f.payload 2 2
  let s1 : State := { s with calico := { c with
    sent := c.sent ++ [(at_, f)]
    leaving := if at_ ≤ s.clock.now then c.leaving else c.leaving ++ [(at_, table, f)] } }
  if at_ ≤ s.clock.now then s1.inject (calIndex table) f else s1

/-- Responses whose instant has come are injected, in the order in which they were made. -/
def State.leaveNow (s : State) : State :=
  let due := s.calico.leaving.filter (fun e => decide (e.1 ≤ s.clock.now))
  let s1 : State := { s with calico := { s.calico with leaving := s.calico.leaving.filter (fun e => decide (s.clock.now < e.1)) } }
  due.foldl (fun t e => t.inject (calIndex e.2.1) e.2.2) s1

/-- Groups of at most `k` of a list, `n` groups. -/
def groupsOf {α : Type} (k : Nat) : Nat → List α → List (List α)
  | 0, _ => []
  | n + 1, l => if l = [] then [] else l.take k :: groupsOf k n (l.drop k)

/-- Response flits of records with a head and a body of equal lengths, the body counted in `unit` bytes: several to a flit where
one fits, else one record per flit over its ranges (R433). -/
def State.calPack (s : State) (t : CalTable) (at_ dst op req unit : Nat) (recs : List (Bytes × Bytes)) : State :=
  let room := calRoom (s.currentKey t.job 0).isSome
  let tick := s.tickNow % 2 ^ 32
  match recs with
  | [] => s
  | (h, b) :: _ =>
    let size := h.length + b.length
    if size ≤ room then
      (groupsOf (room / size) recs.length recs).foldl (fun u g =>
        u.calSend at_ (calFlit u t dst op 0 g.length req 0 (b.length / unit) tick (g.flatMap (fun r => r.1 ++ r.2)))) s
    else
      let step := (room - h.length) / unit * unit
      recs.foldl (fun u r => (List.range (cdiv r.2.length step)).foldl (fun v k =>
        let part := (r.2.drop (k * step)).take step
        v.calSend at_ (calFlit v t dst op 0 1 req (k * step / unit) (part.length / unit) tick (r.1 ++ part))) u) s

/-- A row as a lookup sees it: status and row bytes (R440). -/
def CalTable.look (t : CalTable) (x n : Nat) : Nat × Bytes :=
  if t.rowLost x then (2, zeros t.rb)
  else match t.row x with
    | some r => if r.poison then (2, zeros t.rb) else (0, r.data)
    | none => (1, t.initialBytes x n)

/-- The greater of two FP32 numbers; a NaN wins (R441). -/
def fmax (a b : Nat) : Nat :=
  if fp32.decode a = .nan ∨ fp32.decode b = .nan then fp32Nan
  else
    let key (x : Nat) : Int := signed (bit x 31) (x % 2 ^ 31)
    if key a < key b then b else a

/-- Element-wise fold of rows, the first row standing as it is; none without rows. -/
def foldRows (f : Nat → Nat → Nat) : List (List Nat) → Option (List Nat)
  | [] => none
  | r :: rs => some (rs.foldl (fun a b => List.zipWith f a b) r)

/-- One bag of a POOL (R441): engine partials in order of position, added in ascending slot order. Without any row the sum is 0;
the maximum, which the spec does not state, is a free value. -/
def CalTable.pool (t : CalTable) (flags n : Nat) (bag : Nat) (rs : List Bytes) : Bytes × Bytes :=
  let mine := rs.filter (fun r => le r 8 2 == bag)
  let seen := mine.zipIdx.map (fun r => (le r.1 0 8, le r.1 12 4, t.look (le r.1 0 8) (n + r.2)))
  let good := seen.filter (fun r => r.2.2.1 != 2)
  let max_ := flags % 4 = 2
  let vals := good.map (fun r =>
    let v := decodeRow t.format t.d r.2.2.2
    ((t.place r.1).slot, if bit flags 2 then v.map (fmul r.2.1) else v))
  let f := if max_ then fmax else fadd
  let partials := (List.range 32).filterMap (fun e => foldRows f ((vals.filter (fun v => v.1 == e)).map Prod.snd))
  let out := (foldRows f partials).getD
    (if max_ then (List.range t.d).map (fun i => Config.freeNat (n * 4096 + i) % 2 ^ 32) else List.replicate t.d 0)
  (toLe 2 bag ++ toLe 2 good.length ++ toLe 2 (seen.length - good.length) ++ zeros 2, out.flatMap (toLe 4))

/-- Memory lines of a lookup of a row: header line, and the lookup lines of the way it stands in (R419, R450). -/
def CalTable.rowLines (t : CalTable) (x : Nat) : List Nat :=
  let p := t.place x
  let base := p.bucket * (1 + 8 * t.record / 64)
  base :: (match t.row x with
    | some r => (List.range (lookupLines t.format t.d)).map (fun i => base + 1 + r.way * (t.record / 64) + i)
    | none => [])

/-- Serve a lookup now, its responses leaving at an instant (R440, R441, R447). -/
def State.serveLookup (s : State) (f : Flit) (leave : Nat) : State :=
  let h := calHeader f.payload
  match s.table h.table with
  | none => s
  | some t =>
    let rs := calRecords h f.payload
    let (s1, hits) := rs.foldl (fun (a : State × Nat) r =>
      let x := le r 0 8
      let e := (t.place x).slot
      let (u, k) := a.1.cacheRead (s.engineOf e) t.job t.id e (t.rowLines x)
      (u, a.2 + k)) (s, 0)
    let s2 := s1.modTable t.id (fun t => (t.count 2 h.count).count 3 hits)
    let n := s2.drawn
    let s3 := { s2 with drawn := n + rs.length }
    if h.op = 1 then
      s3.calPack t leave f.src 9 h.req 1 (rs.zipIdx.map (fun r =>
        let (st, b) := t.look (le r.1 0 8) (n + r.2)
        (toLe 8 (le r.1 0 8) ++ toLe 1 st ++ zeros 7, b)))
    else
      let bags := sortBy (fun b => b) (rs.map (fun r => le r 8 2)).eraseDups
      s3.calPack t leave f.src 10 h.req 4 (bags.map (fun b => t.pool h.flags n b rs))

/-- A slot in which one of the lookup's rows lies has a stalled engine (R437, R442). -/
def State.lookupStalled (s : State) (t : CalTable) (f : Flit) : Bool :=
  (calRecords (calHeader f.payload) f.payload).any (fun r => s.stalledAt (t.place (le r 0 8)).slot)

/-- Take an update (R435, R442): every record a contribution, acknowledged when its set commits. -/
def State.takeUpdate (s : State) (t : CalTable) (f : Flit) : State :=
  let h := calHeader f.payload
  let w := if bit h.flags 0 then 2 else 4
  let rs := calRecords h f.payload
  let s1 := s.modTable t.id (fun t => { t.count 4 h.count with
    acks := t.acks ++ [{ len := f.src, req := h.req, dup := false, left := h.count, at_ := s.clock.now }] })
  rs.foldl (fun u r =>
    let x := le r 0 8
    let g := (List.range h.n).map (fun i => if w = 2 then le r (8 + 2 * i) 2 * 65536 else le r (8 + 4 * i) 4)
    u.takeRecord t.id { slot := (t.place x).slot, len := f.src, req := h.req, row := x, offset := h.offset, grad := g }) s1

/-- An accepted request runs: an update enters the store; a lookup is served, or waits behind a stalled engine (R437, R442). -/
def State.runRequest (s : State) (f : Flit) (at_ leave : Nat) (dup : Bool) : State :=
  match s.table (calHeader f.payload).table with
  | none => s
  | some t =>
    if (calHeader f.payload).op = 3 then s.takeUpdate t f
    else if s.lookupStalled t f then
      { s with calico := { s.calico with held := s.calico.held ++ [{ flit := f, at_ := at_, dup := dup }] } }
    else s.serveLookup f leave

/-! ### The replay window (R423, R435) -/

/-- A member's window. -/
def CalTable.window (t : CalTable) (len : Nat) : CalWindow := (t.windows.find? (fun w => w.len == len)).getD { len := len }

/-- The base passes every marked number, at most as many as are marked. -/
def CalWindow.advance : Nat → CalWindow → CalWindow
  | 0, w => w
  | n + 1, w =>
    if w.marks.contains w.base then CalWindow.advance n { w with base := (w.base + 1) % 2 ^ 32, marks := w.marks.filter (· != w.base) }
    else w

/-- 0 accepted, 1 duplicate, 2 beyond the window (R435); numbers wrap at 2^32. -/
def CalWindow.judge (w : CalWindow) (req : Nat) : Nat :=
  let d := (req + 2 ^ 32 - w.base) % 2 ^ 32
  if d < 256 then flag (w.marks.contains req) else if 2 ^ 31 ≤ d then 1 else 2

/-- Mark a number. -/
def CalTable.mark (t : CalTable) (len req : Nat) : CalTable :=
  let w := t.window len
  let w1 := CalWindow.advance (w.marks.length + 1) { w with marks := w.marks ++ [req] }
  { t with windows := insertBy CalWindow.len (t.windows.filter (fun x => x.len != len)) w1 }

/-- Windows of members that leave, or of a promoted unit, are dropped (R434, R454). -/
def State.dropWindows (s : State) (job : Nat) (gone : Nat → Bool) : State :=
  { s with calico := { s.calico with tables := s.calico.tables.map (fun t =>
      if t.job = job then { t with windows := t.windows.filter (fun w => !gone w.len) } else t) } }

/-! ### Capacity of an isolated job (R342, R451) -/

/-- Memory lines of a slot of one engine (R451). -/
def State.slotLines (s : State) (e : Nat) : Nat :=
  if s.quadStacks (e / 8) = 7 then 4550 * s.clock.period / 16 else 5200 * s.clock.period / 16

/-- Row entries of a slot (R451). -/
def State.slotRows (s : State) : Nat := s.clock.period * coreClock s.power.op / 16

/-- Place a sub-request of `rows` rows and `lines` lines in an engine's slots, (slots left, lines left, rows left): the next slot is
taken when it does not fit, an empty slot always takes one (R451). -/
def placeSub (k lines0 rows0 : Nat) (used : Nat × Nat × Nat) (lines rows : Nat) : Option (Nat × Nat × Nat) :=
  let (slot, l, r) := used
  if slot < k ∧ lines ≤ l ∧ rows ≤ r then some (slot, l - lines, r - rows)
  else if slot < k ∧ l = lines0 ∧ r = rows0 then some (slot, 0, 0)
  else if slot + 1 < k then some (if lines ≤ lines0 ∧ rows ≤ rows0 then (slot + 1, lines0 - lines, rows0 - rows) else (slot + 1, 0, 0))
  else none

/-- Serve an isolated job's held requests in its slots of this tick, in order, until one does not fit (R342, R451): the use of each
engine, and whether the job's slots are spent. -/
def State.serveIso (s : State) (x : Slice) (hs : List CalHeld) : State :=
  let go (a : State × List (Nat × Nat × Nat × Nat) × Bool) (h : CalHeld) : State × List (Nat × Nat × Nat × Nat) × Bool :=
    let (u, use_, full) := a
    let keep : State := { u with calico := { u.calico with held := u.calico.held ++ [h] } }
    match u.table (calHeader h.flit.payload).table with
    | none => a
    | some t =>
      if full then (keep, use_, true)
      else
        let rs := calRecords (calHeader h.flit.payload) h.flit.payload
        let engines := (rs.map (fun r => u.engineOf (t.place (le r 0 8)).slot)).eraseDups
        let fit := engines.foldl (fun (acc : Option (List (Nat × Nat × Nat × Nat))) e => acc.bind (fun l =>
          let mine := rs.filter (fun r => u.engineOf (t.place (le r 0 8)).slot == e)
          let lines := mine.foldl (fun n r => n + ((t.rowLines (le r 0 8)).filter (fun ln =>
            !u.calico.cache.any (fun c => c.table == t.id && c.line == ln && c.slot == (t.place (le r 0 8)).slot))).length) 0
          let now := (kvGet l e).getD (0, u.slotLines e, u.slotRows)
          (placeSub (popcount 15 x.isoSlots) (u.slotLines e) u.slotRows now lines mine.length).map (fun v => kvSet l e v))) (some use_)
        match fit with
        | some l => (u.runRequest h.flit h.at_ (u.clock.now + 1) h.dup, l, false)
        | none => (keep, use_, true)
  (hs.foldl go (s, [], false)).1

/-- Requests of isolated jobs that arrived before this tick are served (R342). -/
def State.serveIsolated (s : State) : State :=
  let jobOf (h : CalHeld) : Nat := h.flit.job
  let mine (h : CalHeld) : Bool := (s.isolated (jobOf h)).isSome && decide (h.at_ < s.clock.now)
  let ready := s.calico.held.filter mine
  let s1 := { s with calico := { s.calico with held := s.calico.held.filter (fun h => !mine h) } }
  (s.access.slices.filter (fun x => x.isolate && x.state == .active)).foldl (fun u x =>
    u.serveIso x (ready.filter (fun h => jobOf h == x.job))) s1

/-! ### Step 6 of a marker (R427, R428, R442, R443) -/

/-- Hyperparameters and flags of TABLE_CONFIG (R427). -/
def CalTable.configure (t : CalTable) (b : Bytes) : CalTable :=
  let m := le b 2 1
  let pick (i old off : Nat) : Nat := if bit m i then le b off 4 else old
  let fl (i : Nat) (cond : Bool) : Nat := if cond then flag (bit (le b 3 1) i) * 2 ^ i else flag (bit t.flags i) * 2 ^ i
  { t with
    eta := pick 0 t.eta 8, beta1 := pick 1 t.beta1 12, beta2 := pick 2 t.beta2 16, eps := pick 3 t.eps 20
    lambda := pick 4 t.lambda 24
    flags := fl 0 (bit m 5) + fl 1 false + fl 2 (bit m 7) + fl 3 false
    admitAt := if bit m 6 then le b 4 1 else t.admitAt }

/-- ACKs of the sets committed at this marker, and of duplicates of the tick before (R435, R443). -/
def State.sendAcks (s : State) (t : CalTable) : State :=
  let due := t.acks.filter (fun a => a.left == 0 && decide (a.at_ < s.clock.now))
  let s1 := due.foldl (fun u a => u.calSend u.clock.now (calFlit u t a.len 11 (flag a.dup) 0 a.req 0 0 (u.tickNow % 2 ^ 32) [])) s
  s1.modTable t.id (fun t => { t with acks := t.acks.filter (fun a => !(a.left == 0 && decide (a.at_ < s.clock.now))) })

/-- Members of a job in this bolt, which its primary grants (R514). -/
def State.boltMembers (s : State) (job : Nat) : List Nat :=
  match s.access.slices.find? (fun x => x.job == job) with
  | some x => (x.ranges.flatMap (fun r => (List.range (r.2 + 1 - r.1)).map (· + r.1))).filter (fun a => a / 1024 == s.up.bolt)
  | none => []

/-- A table's standing grant of kind 2 for every member, at its effective tick (R514). -/
def State.grantTable (s : State) (t : CalTable) : State :=
  if s.isPrimary then (s.launch 2 t.id t.job (s.boltMembers t.job) true).1 else s

/-- A table ends: its streams close, its pages, windows and cache lines are freed (R428). -/
def State.endTable (s : State) (t : CalTable) : State :=
  let s1 := ((s.releaseStream t.reqStream).releaseStream t.rspStream).dropGrants 2 t.id
  { s1 with calico := { s1.calico with
      tables := s1.calico.tables.filter (fun x => x.id != t.id)
      assigned := s1.calico.assigned.filter (· != t.id)
      cache := s1.calico.cache.filter (fun c => c.table != t.id)
      held := s1.calico.held.filter (fun h => (calHeader h.flit.payload).table != t.id) } }

/-- One table at step 6 of a marker: creation and configuration take effect, the set commits, destruction takes effect. -/
def State.tableMarker (s : State) (i : Nat) : State :=
  match s.table i with
  | none => s
  | some t =>
    let now := s.clock.now
    let due := t.configs.filter (fun c => decide (c.1 ≤ now))
    let born := t.state = 3 ∧ t.effAt ≤ now
    let t1 := due.foldl (fun u c => u.configure c.2)
      { t with configs := t.configs.filter (fun c => decide (now < c.1)), state := if born then 0 else t.state }
    let s1 := s.modTable i (fun _ => t1)
    let s2 := if born then [t.reqStream, t.rspStream].foldl (fun u k => match kvGet u.streams k with
        | some e => { u with streams := kvSet u.streams k (u.opened e) }
        | none => u) (s1.grantTable t1)
      else s1
    let s3 := s2.applyTable i
    let s4 := match s3.table i with
      | some u => s3.sendAcks u
      | none => s3
    match t.endAt with
    | some e => if e ≤ now then s4.endTable t1 else s4
    | none => s4

/-- Step 6 of R64: responses due leave, every table, then the requests of isolated jobs. -/
def State.calicoMarker (s : State) : State :=
  ((s.calico.tables.map CalTable.id).foldl (fun u i => u.tableMarker i) s.leaveNow).serveIsolated

/-! ### Losses (R454) -/

/-- Jobs with an admitted update unapplied at an engine; they fail when it is fenced (R454). -/
def State.unappliedJobs (s : State) (engine : Nat) : List Nat :=
  ((s.calico.tables.filter (fun t => t.entries.any (fun e => s.engineOf e.slot == engine))).map CalTable.job).eraseDups

/-- Jobs with table pages in a quadrant (R39, R454): every table takes pages in every slot. -/
def State.tableJobs (s : State) : List Nat := (s.calico.tables.map CalTable.job).eraseDups

/-- A shard Geneel is lost: tables with it in their shard set are FAILED (R454); the jobs concerned. -/
def State.shardLost (s : State) (id : Nat) : State × List Nat :=
  let hit := s.calico.tables.filter (fun t => t.shards.contains id && t.state != 2)
  ({ s with calico := { s.calico with tables := s.calico.tables.map (fun t =>
      if t.shards.contains id then { t with state := 2 } else t) } }, (hit.map CalTable.job).eraseDups)

end Sys2Proof.Machine
end

