-- ==== Sys2Proof/Machine/RestartOps.lean ====
section
/-! DEFINITION. Operations of the restart store (spec 13_restart_store): placement, flits, digests, the life of a generation,
parity and restores. -/

namespace Sys2Proof.Machine

open Sys2Proof

/-! ### Memory (R36, R458, R460, R474) -/

/-- Change the store. -/
def State.modStore (s : State) (f : Store → Store) : State := { s with store := f s.store }

/-- Restart pages of a quadrant (R36). -/
def State.restartPages (s : State) (q : Nat) : Nat := s.quadStacks q * (63 - s.carve) * 2 ^ 30 / 4096

/-- The restart stream engine that serves in the place of engine `i`: itself, the other of its quadrant, or, with both fenced, one of the
next quadrant over the mesh (R27). -/
def State.restartEngine (s : State) (i : Nat) : Nat :=
  let good (k : Nat) : Bool := s.unitStatus 13 k == .active || s.unitStatus 13 k == .draining
  let other := if i % 2 = 0 then i + 1 else i - 1
  (([i, other] ++ [1, 2, 3].flatMap (fun d => [2 * ((i / 2 + d) % 4), 2 * ((i / 2 + d) % 4) + 1])).find? good).getD i

/-- P of R474, the group's smallest region being taken as this Geneel's own: all eight hold the same code and carve value
(R471). -/
def State.parityArea (s : State) : Nat := ((List.range 4).foldl (fun a q => a + s.restartPages q) 0) / 5

/-- Pages of a quadrant that shards may take; none while it is out of service (R39). -/
def State.storePages (s : State) (q : Nat) : Nat :=
  if s.faults.quadsOut.contains q then 0
  else if s.store.mode = 1 then min s.parityArea (s.restartPages q) else s.restartPages q

/-- Pages of a shard. -/
def StoreShard.pages (x : StoreShard) : Nat := cdiv x.reserved 64

/-- Shards that hold pages. -/
def State.storedShards (s : State) : List StoreShard := s.store.slots.flatMap StoreSlot.shards

/-- Free pages of a quadrant, with shards about to be placed counted. -/
def State.storeFree (s : State) (more : List StoreShard) (q : Nat) : Nat :=
  s.storePages q - (((s.storedShards ++ more).filter (fun x => x.quadrant == q)).foldl (fun a x => a + x.pages) 0)

/-- The lowest free run of `n` pages in a quadrant. -/
def State.storeRun (s : State) (more : List StoreShard) (q n : Nat) : Option Nat :=
  let used := ((s.storedShards ++ more).filter (fun x => x.quadrant == q)).map (fun x => (x.page, x.page + x.pages))
  let fits (a : Nat) : Bool := decide (a + n ≤ s.storePages q) && used.all (fun u => decide (u.2 ≤ a) || decide (a + n ≤ u.1))
  (sortBy (fun a => a) (0 :: used.map Prod.snd)).find? fits

/-- Place shards one after another, each in the quadrant with the most free pages (R460): those placed, and the pages short. -/
def State.placeShards (s : State) (l : List (Nat × Nat)) : List StoreShard × Nat :=
  l.foldl (fun (acc : List StoreShard × Nat) x =>
    let best := (sortBy (fun q => 2 ^ 40 - s.storeFree acc.1 q) [0, 1, 2, 3]).headD 0
    let n := cdiv x.2 64
    match s.storeRun acc.1 best n with
    | some a => (acc.1 ++ [{ owner := x.1, quadrant := best, page := a, reserved := x.2 }], acc.2)
    | none => (acc.1, acc.2 + max 1 (n - s.storeFree acc.1 best))) ([], 0)

/-- Data page of a shard's page (R474): quadrant areas of P pages in order. -/
def State.dataPage (s : State) (x : StoreShard) (k : Nat) : Nat := x.quadrant * s.parityArea + x.page + k

/-- The parity holder of a data page of this Geneel (R474). -/
def State.parityHolder (s : State) (page : Nat) : Nat := 0xF000 + 2 * (s.up.bolt / 4 * 4 + page % 4) + (1 - s.up.twin)

/-! ### Slots -/

/-- The slot of a job's generation. -/
def State.genSlot (s : State) (job gen : Nat) : Option StoreSlot := s.store.slots.find? (fun x => x.job == job && x.gen == gen)

/-- Change it. -/
def State.modGen (s : State) (job gen : Nat) (f : StoreSlot → StoreSlot) : State :=
  s.modStore (fun t => { t with slots := t.slots.map (fun x => if x.job = job ∧ x.gen = gen then f x else x) })

/-- Change a shard of it. -/
def State.modShard (s : State) (job gen owner : Nat) (f : StoreShard → StoreShard) : State :=
  s.modGen job gen (fun x => { x with shards := x.shards.map (fun y => if y.owner = owner then f y else y) })

/-- A shard. -/
def State.shard (s : State) (job gen owner : Nat) : Option StoreShard :=
  (s.genSlot job gen).bind (fun x => x.shards.find? (fun y => y.owner == owner))

/-- Newest committed generation of a job, 0 none (R455): among the slots held here, or, for a requester that holds none of the job,
among those that it committed. -/
def State.newestGen (s : State) (job : Nat) : Nat :=
  if s.store.slots.any (fun x => x.job == job) then
    (s.store.slots.filter (fun x => x.job == job && x.state == 3)).foldl (fun a x => max a x.gen) 0
  else (s.store.known.filter (fun k => k.1 == job)).foldl (fun a k => max a k.2.1) 0

/-- A generation is COMMITTED as far as this Geneel knows. -/
def State.committedGen (s : State) (job gen : Nat) : Bool :=
  (s.genSlot job gen).any (fun x => x.state == 3) || ((s.genSlot job gen).isNone && s.store.known.any (fun k => k.1 == job && k.2.1 == gen))

/-- A requester's note of a committed generation ends. -/
def State.forgetGen (s : State) (job : Nat) (gone : Nat → Bool) : State :=
  s.modStore (fun t => { t with known := t.known.filter (fun k => !(k.1 == job && gone k.2.1)) })

/-- Generation a GENERATION_OPEN takes (R455). -/
def State.nextGen (s : State) (job : Nat) : Nat := s.newestGen job + 1

/-- Members of a job's slice. -/
def State.jobMembers (s : State) (job : Nat) : List Nat :=
  match s.access.slices.find? (fun x => x.job == job) with
  | some x => x.ranges.flatMap (fun r => (List.range (r.2 + 1 - r.1)).map (· + r.1))
  | none => []

/-- Owner number of a table shard (R461). -/
def tableOwner (table index : Nat) : Nat := 0x80000000 + table * 64 + index

/-- Geneels of the parity and of the bolt that a member sends to (R472, R473). -/
def State.memberHolders (s : State) (len : Nat) : List Nat :=
  let b := len / 1024
  if s.store.mode = 1 then [0xF000 + 2 * b + len % 2] else [0xF000 + 2 * b, 0xF001 + 2 * b]

/-- Geneels that hold a table's shard (R472, R473). -/
def State.tableHolders (s : State) (id : Nat) : List Nat :=
  if s.store.mode = 1 then [0xF000 + id] else [0xF000 + id, 0xF000 + (if id % 2 = 0 then id + 1 else id - 1)]

/-- Shards of a generation, with their holders (R458, R472, R473). -/
def State.genShards (s : State) (job : Nat) (tables : List Nat) : List (Nat × List Nat) :=
  (s.jobMembers job).map (fun a => (a, s.memberHolders a)) ++ tables.flatMap (fun i => match s.table i with
    | some t => t.shards.zipIdx.map (fun g => (tableOwner i g.2, s.tableHolders g.1))
    | none => [])

/-- Lines that a shard reserves (R458). -/
def State.shardLines (s : State) (lm owner : Nat) : Nat :=
  if owner < 0x80000000 then lm
  else match s.table ((owner - 0x80000000) / 64) with
    | some t => t.pages * 32 * 64
    | none => 0

/-- A Geneel other than this one is in service as far as this one knows (R49, R472). -/
def State.geneelUp (s : State) (addr : Nat) : Bool := s.healthyId (addr - 0xF000)

/-- Tables of the parameters of GENERATION_OPEN. -/
def genTables (b : Bytes) : List Nat := (chunks 2 (le b 8 1) (b.drop 16)).map (fun x => le x 0 2)

/-! ### Flits (R461, R462) -/

/-- The header of a flit. -/
structure RsHeader where
  kind : Nat
  flags : Nat
  owner : Nat
  gen : Nat
  off : Nat
  deriving DecidableEq, Repr

/-- Read it (R461). -/
def rsHeader (b : Bytes) : RsHeader :=
  { kind := le b 0 1 % 16, flags := le b 1 1, owner := le b 2 4, gen := le b 6 4, off := le b 10 6 }

/-- A flit's payload (R461). -/
def rsPayload (kind flags owner gen off : Nat) (rest : Bytes) : Bytes :=
  toLe 1 kind ++ toLe 1 flags ++ toLe 4 owner ++ toLe 4 gen ++ toLe 6 off ++ rest

/-- Send a restart flit from this Geneel, by an engine of the quadrant that holds the shard, or by one that serves in its place (R27, R460), whose
index it has where it contends (R77). Which of the quadrant's two is open, and for parity also which quadrant's: DESIGN CHOICE (log entry
203), the one of the job's number modulo 2, and quadrant 0. -/
def State.rsSend (s : State) (dst job stream kind flags owner gen off : Nat) (rest : Bytes) : State :=
  let f : Flit := {
    kind := .data, vc := 7, dst := dst, src := s.ownAddr, stream := stream, job := job
    enc := (s.currentKey job 0).isSome, payload := rsPayload kind flags owner gen off rest }
  let quadrant := ((s.shard job gen owner).map StoreShard.quadrant).getD 0
  (s.modStore (fun t => { t with sent := t.sent ++ [f] })).inject (gridIndex 13 (s.restartEngine (2 * quadrant + job % 2))) f

/-- Streams of a job. -/
def State.storeStreams (s : State) (job : Nat) : StoreStreams :=
  (s.store.streams.find? (fun x => x.job == job)).getD { job := job, ckpt := 0, rest := 0 }

/-- Lines of a shard in a range, three to a flit, those not stored left out (R461). -/
def lineGroups (x : StoreShard) (first count : Nat) : List (Nat × List Bytes) :=
  let mine := x.lines.filter (fun l => first ≤ l.1 && l.1 < first + count)
  mine.foldl (fun (acc : List (Nat × List Bytes)) l => match acc.reverse with
    | (o, ls) :: r => if o + ls.length = l.1 ∧ ls.length < 3 then r.reverse ++ [(o, ls ++ [l.2])] else acc ++ [(l.1, [l.2])]
    | [] => [(l.1, [l.2])]) []

/-- Send lines of a shard, then its END or REND (R462, R478): kinds 1 and 2, or 3 and 4. -/
def State.sendLines (s : State) (dst job gen : Nat) (x : StoreShard) (kind : Nat) (ranges : List (Nat × Nat)) : State :=
  let st := s.storeStreams job
  let stream := if kind = 1 then st.ckpt else st.rest
  let s1 := ranges.foldl (fun t r => (lineGroups x r.1 r.2).foldl (fun u g =>
    u.rsSend dst job stream kind g.2.length x.owner gen g.1 g.2.flatten) t) s
  match x.fin with
  | some (total, dig) => s1.rsSend dst job stream (kind + 1) 0 x.owner gen 0 (toLe 4 total ++ zeros 4 ++ field dig 0 32)
  | none => s1

/-- Records of a GAP or PULL: first line and count (R462). -/
def rsRecords (n : Nat) (b : Bytes) : List (Nat × Nat) := (chunks 8 n (b.drop 16)).map (fun r => (le r 0 4, le r 4 4))

/-- The bytes of records. -/
def recordBytesOf (l : List (Nat × Nat)) : Bytes := l.flatMap (fun r => toLe 4 r.1 ++ toLe 4 r.2)

/-! ### Digests (R465, R466) -/

/-- Every line below a total is stored. -/
def coveredTo (lines : List (Nat × Bytes)) (total : Nat) : Bool :=
  (lines.filter (fun l => l.1 < total)).length == total

/-- The shard digest (R466). -/
def shardDigest (job gen owner total : Nat) (lines : List (Nat × Bytes)) : Bytes :=
  let page (k : Nat) : Bytes :=
    shake32 ((lines.filter (fun l => 64 * k ≤ l.1 && l.1 < 64 * (k + 1) && l.1 < total)).flatMap (fun l => field l.2 0 64))
  shake32 (ascii "GN7CKPT1" ++ toLe 2 job ++ toLe 4 gen ++ toLe 4 owner ++ toLe 4 total
    ++ (List.range (cdiv total 64)).flatMap page)

/-- Missing ranges below a total, at most 15 (R465): the gaps between the lines stored. -/
def missingRanges (lines : List (Nat × Bytes)) (total : Nat) : List (Nat × Nat) :=
  let have_ := (lines.map Prod.fst).filter (fun l => l < total)
  let go (acc : List (Nat × Nat) × Nat) (l : Nat) : List (Nat × Nat) × Nat :=
    (if acc.2 < l then acc.1 ++ [(acc.2, l - acc.2)] else acc.1, max acc.2 (l + 1))
  let (gaps, last) := have_.foldl go ([], 0)
  (gaps ++ (if last < total then [(last, total - last)] else [])).take 15

/-! ### Messages (R468) -/

/-- GEN_CTL to a Geneel; to itself it is a change that waits for its tick. -/
def State.genCtl (s : State) (dst op cause job gen at_ : Nat) (params : Bytes) : State :=
  if dst = s.ownAddr then
    s.modStore (fun t => { t with due := t.due ++ [{
      op := op, at_ := at_, cause := cause, job := job, gen := gen, src := dst, params := params }] })
  else
    s.send (s.msgTo dst 0x60 (toLe 1 op ++ toLe 1 cause ++ toLe 2 job ++ toLe 4 gen ++ toLe 6 (s.tickAt at_) ++ zeros 2 ++ params))

/-- The requester's record of a generation. -/
def State.modTrack (s : State) (job gen : Nat) (f : GenTrack → GenTrack) : State :=
  s.modStore (fun t => { t with tracks := t.tracks.map (fun x => if x.job = job ∧ x.gen = gen then f x else x) })

/-- It. -/
def State.track (s : State) (job gen : Nat) : Option GenTrack := s.store.tracks.find? (fun x => x.job == job && x.gen == gen)

/-- A command ends ST_OK with the commit tick as its executed tick (R468). -/
def State.endAtCommit (s : State) (id tick : Nat) (result : Bytes) : State :=
  (s.modCmd id (fun c => { c with effect := some tick })).endCmd id 0 0 result

/-- The TABLE_SNAPSHOT commands of a generation end with it, at its commit tick or, where there is none, as failed (R452, R468). -/
def State.endSnaps (s : State) (job gen : Nat) (commit : Option Nat) : State :=
  let mine := s.store.snaps.filter (fun x => x.2.1 == job && x.2.2 == gen)
  let s1 := s.modStore (fun t => { t with snaps := t.snaps.filter (fun x => !(x.2.1 == job && x.2.2 == gen)) })
  mine.foldl (fun t x => match commit with
    | some tick => t.endAtCommit x.1 tick []
    | none => t.endCmd x.1 0xF0 0xF909) s1

/-- The commands of a generation end (R468, R469). A generation that fails ends them with ST_INTERNAL and the source of the
restart store. -/
def State.endTrack (s : State) (job gen : Nat) (good : Bool) : State :=
  match s.track job gen with
  | none => s
  | some k =>
    let s1 := s.modStore (fun t => { t with tracks := t.tracks.filter (fun x => !(x.job == job && x.gen == gen)) })
    let pagesHere := ((s1.genSlot job gen).map (fun x => x.shards.foldl (fun a y => a + y.pages) 0)).getD 0
    let st := s1.storeStreams job
    let result := toLe 4 gen ++ toLe 1 (gen % 2) ++ toLe 1 s1.store.mode ++ toLe 2 st.ckpt ++ toLe 2 st.rest ++ zeros 2
      ++ toLe 4 k.expected ++ toLe 8 pagesHere
    match k.cmd with
    | some c => if good then s1.endAtCommit c s1.tickNow result else s1.endCmd c 0xF0 0xF909
    | none => s1

/-- Streams of the job close when no slot of it holds a generation (R459). -/
def State.closeStore (s : State) (job : Nat) : State :=
  if s.store.slots.any (fun x => x.job == job) then s
  else match s.store.streams.find? (fun x => x.job == job) with
    | none => s
    | some st =>
      let s1 := (s.releaseStream st.ckpt).releaseStream st.rest
      s1.modStore (fun t => { t with streams := t.streams.filter (fun x => x.job != job) })

/-- A restart page is still encrypted under the outgoing generation: a sweep runs that has not reached it, and no write has
re-encrypted it (R449, R460). -/
def State.oldPage (s : State) (job q page : Nat) : Bool :=
  s.store.sweep.any (fun e => e.1 == job && e.2.1 == q && decide (e.2.2 ≤ page)) && !s.store.swept.contains (job, q, page)

/-- Ciphertext of a line of a shard under a key (R460). -/
def lineCipher (key : Bytes) (x : StoreShard) (l : Nat × Bytes) : Bytes :=
  field (Config.xtsEncrypt key (x.quadrant * 2 ^ 40 + 64 * (64 * x.page + l.1)) l.2) 0 64

/-- The key of the generation that a job's sweeps leave behind, and the one in force (R448, R581). -/
def State.memKey (s : State) (job : Nat) (old : Bool) : Bytes :=
  ((s.sec.keys.find? (fun k => k.job == job && k.kind == 1 && k.current == !old)).map HeldKey.key).getD []

/-- Ciphertext of a line of a shard, under the generation that its page's GEN names (R448, R460). -/
def State.storedLine (s : State) (job : Nat) (x : StoreShard) (l : Nat × Bytes) : Bytes :=
  lineCipher (s.memKey job (s.oldPage job x.quadrant (x.page + l.1 / 64))) x l

/-- A write to restart pages that a sweep has not reached re-encrypts them first (R449, R460). -/
def State.touchRestart (s : State) (job : Nat) (x : StoreShard) (lines : List (Nat × Bytes)) : State :=
  let pages := ((lines.map (fun l => x.page + l.1 / 64)).eraseDups).filter (fun p => s.oldPage job x.quadrant p)
  s.modStore (fun t => { t with swept := t.swept ++ pages.map (fun p => (job, x.quadrant, p)) })

/-- Send a shard's pages as PAR to their parity holders (R474, R475). -/
def State.sendParity (s : State) (job : Nat) (x : StoreShard) : State :=
  (List.range x.pages).foldl (fun t k =>
    let page := t.dataPage x k
    let ls := (x.lines.filter (fun l => 64 * k ≤ l.1 && l.1 < 64 * (k + 1))).map (fun l => (l.1 - 64 * k, t.storedLine job x l))
    (List.range 22).foldl (fun u g =>
      let part := (List.range (min 3 (64 - 3 * g))).map (fun i => (kvGet ls (3 * g + i)).getD (zeros 64))
      u.rsSend (u.parityHolder page) 0 0x0010 7 part.length 0 0 (64 * page + 3 * g) part.flatten) t) s

/-- The slot leaves: FREE, or CLEARING in SPLIT while its pages leave parity (R457, R475). Only pages sent into parity are taken
out. -/
def State.dropGen (s : State) (job gen : Nat) : State :=
  match s.genSlot job gen with
  | none => s
  | some x =>
    if s.store.mode = 1 ∧ x.state ≠ 1 ∧ x.shards.any StoreShard.accepted then
      let inPar := x.shards.filter StoreShard.accepted
      let s1 := inPar.foldl (fun t y => t.sendParity job y) s
      (s1.modGen job gen (fun z => { z with
        state := 1
        shards := (z.shards.filter StoreShard.accepted).map (fun y => { y with parity := (List.range y.pages).map (s.dataPage y) }) })).mirrorDelta
        8 (job * 2 + gen % 2) (toLe 4 gen ++ toLe 1 1)
    else if x.state = 1 then s
    else
      let s1 := s.modStore (fun t => { t with
        slots := t.slots.filter (fun z => !(z.job == job && z.gen == gen))
        serving := t.serving.filter (fun v => !(v.job == job && v.gen == gen)) })
      (s1.closeStore job).mirrorDelta 8 (job * 2 + gen % 2) (toLe 4 gen ++ toLe 1 0)

/-- The generation fails here (R469). -/
def State.failGenHere (s : State) (job gen cause : Nat) : State :=
  match s.genSlot job gen with
  | some x =>
    if x.state = 2 then
      ((s.modGen job gen (fun z => { z with state := 4, cause := cause })).mirrorDelta 8 (job * 2 + gen % 2)
        (toLe 4 gen ++ toLe 1 4 ++ toLe 1 cause)).endSnaps job gen none
    else s
  | none => s

/-- A failure of this generation waits here for the next marker (R469). -/
def State.failing (s : State) (job gen : Nat) : Bool := s.store.due.any (fun d => d.op == 2 && d.job == job && d.gen == gen)

/-- An OPEN generation fails on a cause found here: it fails at the next marker, for which a requester tells every holder and any other
holder its requester (R468, R469). -/
def State.failGen (s : State) (job gen cause : Nat) : State :=
  let at_ := s.clock.now + 1
  if s.failing job gen then s
  else match s.track job gen with
    | some k =>
      let s1 := (k.holders.filter (fun h => h.1 != s.ownAddr)).foldl (fun t h => t.genCtl h.1 2 cause job gen at_ []) s
      s1.genCtl s.ownAddr 2 cause job gen at_ []
    | none =>
      if (s.genSlot job gen).any (fun x => x.state == 2) then
        let requester := ((s.genSlot job gen).map StoreSlot.requester).getD s.ownAddr
        (s.send (s.msgTo requester 0x61 (toLe 1 2 ++ toLe 1 2 ++ toLe 2 job ++ toLe 4 gen ++ toLe 4 0 ++ toLe 4 cause
          ++ toLe 6 s.tickNow ++ zeros 2))).genCtl s.ownAddr 2 cause job gen at_ []
      else s

/-- Shards of a slot that count as checked here (R468, R472, R474). -/
def State.checkedHere (s : State) (x : StoreSlot) : Nat :=
  (x.shards.filter (fun y => y.accepted && (s.store.mode == 0 || y.parity == []))).length

/-- Parity pages pending of a slot (R485). -/
def StoreSlot.pendingPages (x : StoreSlot) : Nat := x.shards.foldl (fun a y => a + y.parity.length) 0

/-- A report reaches the requester: the open's answer, checked shards, or a failure (R458, R468). -/
def State.gotReport (s : State) (src op status job gen checked pages : Nat) : State :=
  match s.track job gen with
  | none => s
  | some k =>
    if status = 2 then s.failGen job gen pages
    else if op = 0 then
      let s1 := s.modTrack job gen (fun x => { x with
        opening := x.opening.filter (· != src), short := max x.short (if status = 1 then pages else 0)
        refused := x.refused || status == 1 })
      match s1.track job gen with
      | some x =>
        if x.opening = [] ∧ x.refused then
          let s2 := x.holders.foldl (fun t h => t.genCtl h.1 3 6 job gen (t.clock.now + 1) []) s1
          let s3 := s2.modStore (fun t => { t with tracks := t.tracks.filter (fun y => !(y.job == job && y.gen == gen)) })
          match k.cmd with
          | some c => s3.endCmd c 0x12 x.short
          | none => s3
        else s1
      | none => s1
    else s.modTrack job gen (fun x => { x with
      holders := x.holders.map (fun h => if h.1 = src then (h.1, h.2.1, checked) else h) })

/-- Report to the requester of a generation. -/
def State.genReport (s : State) (dst op status job gen checked pages : Nat) : State :=
  if dst = s.ownAddr then s.gotReport dst op status job gen checked pages
  else s.send (s.msgTo dst 0x61 (toLe 1 op ++ toLe 1 status ++ toLe 2 job ++ toLe 4 gen ++ toLe 4 checked ++ toLe 4 pages
    ++ toLe 6 s.tickNow ++ zeros 2))

/-- Shards checked have become more: the requester is told (R468). -/
def State.tellChecked (s : State) (job gen : Nat) : State :=
  match s.genSlot job gen with
  | none => s
  | some x =>
    let n := s.checkedHere x
    if n = x.told ∨ x.state ≠ 2 then s
    else (s.modGen job gen (fun z => { z with told := n })).genReport x.requester 1 0 job gen n x.pendingPages

/-- Members granted a checkpoint or restore stream, by the primary of their bolt (R464, R512). -/
def State.grantStreams (s : State) (job gen : Nat) (members : List Nat) : State :=
  if s.isPrimary ∧ members ≠ [] then (s.launch 3 (gen % 65536) job members false).1 else s

/-- A generation opens at a holder (R456, R458, R460): what its slot holds is dropped, space is reserved, or the shortfall in GiB
reported. `true` when the open waits for clearing (R475). -/
def State.openGen (s : State) (d : GenDue) : State × Bool :=
  let s1 := match s.store.slots.find? (fun x => x.job == d.job && x.gen % 2 == d.gen % 2) with
    | some x => s.dropGen d.job x.gen
    | none => s
  if s1.store.slots.any (fun x => x.job == d.job && x.gen % 2 == d.gen % 2) then (s1, true)
  else
    let b := d.params
    let lm := le b 0 4
    let dg := if le b 4 4 = 0 then 3750000 else le b 4 4
    let tables := genTables b
    let all := s1.genShards d.job tables
    let mine := (all.filter (fun x => x.2.contains s1.ownAddr)).map (fun x => (x.1, s1.shardLines lm x.1))
    let (placed, short) := s1.placeShards mine
    if short ≠ 0 then (s1.genReport d.src 0 1 d.job d.gen 0 (cdiv (4096 * short) (2 ^ 30)), false)
    else
      let off := 16 + 2 * tables.length
      let (ck, rs) := (le b off 2, le b (off + 2) 2)
      let slot : StoreSlot := {
        job := d.job, gen := d.gen, state := 2, deadline := dg, openAt := s1.clock.now, openTick := s1.tickNow
        expected := all.length, requester := d.src, shards := placed
        tables := (tables.filterMap s1.table).map (fun t => { id := t.id, format := t.format, d := t.d, opt := t.opt, shards := t.shards })
        single := s1.store.mode == 0 && all.any (fun x => x.2.any (fun h => !s1.geneelUp h)) }
      let fresh := !s1.store.streams.any (fun x => x.job == d.job)
      let entry (kind : Nat) : Stream :=
        s1.opened { kind := kind, vc := 7, job := d.job, owner := d.gen % 65536, peer := 0xFFFF }
      let s2 := s1.modStore (fun t => { t with
        slots := t.slots ++ [slot]
        streams := if fresh then t.streams ++ [{ job := d.job, ckpt := ck, rest := rs }] else t.streams })
      let own (t : State) (k : Nat) : State := match kvGet t.streams k with
        | some e => { t with streams := kvSet t.streams k { e with owner := d.gen % 65536 } }
        | none => t
      let s3 := if fresh then { s2 with streams := kvSet (kvSet s2.streams ck (entry 5)) rs (entry 6) } else s2
      let st := s3.storeStreams d.job
      let s3 := own (own s3 st.ckpt) st.rest
      let s4 := s3.grantStreams d.job d.gen (s3.boltMembers d.job)
      ((s4.mirrorDelta 8 (d.job * 2 + d.gen % 2) (toLe 4 d.gen ++ toLe 1 2)).genReport d.src 0 0 d.job d.gen 0 0, false)

/-- COMMITTED at this holder, at the commit tick (R457, R468). -/
def State.commitGenHere (s : State) (job gen tick : Nat) : State :=
  match s.genSlot job gen with
  | some x =>
    if x.state = 2 then
      ((s.modGen job gen (fun z => { z with state := 3, commitTick := tick })).mirrorDelta 8 (job * 2 + gen % 2)
        (toLe 4 gen ++ toLe 1 3)).endSnaps job gen (some tick)
    else s
  | none => s

/-! ### Restores (R477 to R479) -/

/-- The Geneel that serves a member shard (R478). -/
def State.serverOf (s : State) (len : Nat) : Nat :=
  let (a, b) := (0xF000 + 2 * (len / 1024) + len % 2, 0xF000 + 2 * (len / 1024) + (1 - len % 2))
  if s.store.mode = 1 ∨ s.geneelUp a then a else b

/-- A shard that this Geneel spills, so that each leaves the bolt once (R482): a member shard that it serves under R478, a table shard
of its own, or the copy of a lost twin's. -/
def State.spillsHere (s : State) (y : StoreShard) : Bool :=
  if 0x80000000 ≤ y.owner then y.sender == s.ownAddr || !s.geneelUp s.twinAddr else s.serverOf y.owner == s.ownAddr

/-- Members named by RESTORE_START (R477). -/
def State.restoreMembers (s : State) (job : Nat) (b : Bytes) : List Nat :=
  let r := le b 6 2
  let ranges := (chunks 4 r (b.drop 8)).map (fun x => (le x 0 2, le x 2 2))
  (s.jobMembers job).filter (fun a => r == 0 || ranges.any (fun q => q.1 ≤ a && a ≤ q.2))

/-- The storage target of the Geneel: the one on S0, or on S1 when S0 is not UP (R482); ports 38 and 39. -/
def State.storageTarget (s : State) : Option Nat :=
  let far (p : Nat) : Option Nat := if (s.port p).link.state = .up then (s.port p).link.far.map Hello.addr else none
  match far 38 with
  | some a => some a
  | none => far 39

/-- Serve a member that waits: RDATA and REND under its grant, a failed member once its promotion commits (R478); from the
storage target a PULL is sent first (R483). -/
def State.serve (s : State) (v : Serving) : State :=
  let failed : Bool := match s.access.slices.find? (fun x => x.job == v.job) with
    | some x => x.failedMembers.contains v.len
    | none => false
  let mark (k : Nat) (s : State) : State := s.modStore (fun t => { t with serving := t.serving.map (fun w =>
    if w = v then { w with sent := true, kind := k } else w) })
  if v.sent || failed then s
  else match s.shard v.job v.gen v.len with
    | none => s
    | some x =>
      if v.kind = 3 ∧ x.fin.isNone then
        match s.storageTarget with
        | some a => mark 3 (s.rsSend a v.job (s.storeStreams v.job).rest 5 1 x.owner v.gen 0 (recordBytesOf [(0, 0)]))
        | none => s
      else
        let total := (x.fin.map Prod.fst).getD 0
        mark v.kind (s.sendLines v.len v.job v.gen x 3 [(0, total)])

/-- Lines that each of `n` shards of unknown length may take: the pages that are free in every quadrant shared evenly, at most the 2^30
of R458 (DESIGN CHOICE, log entry 117). -/
def State.roomEach (s : State) (n : Nat) : Nat :=
  let free := ([0, 1, 2, 3].map (s.storeFree [])).foldl min (2 ^ 40)
  min (2 ^ 30) (64 * (free / max 1 (cdiv n 4)))

/-- A restore from the storage target opens a slot that the generation no longer fills as a COMMITTED one, which the target fills, and the
job's streams where none are open, at the values that the requester named (R459, R483). -/
def State.openSpilled (s : State) (d : GenDue) (gen : Nat) (mine : List Nat) : State :=
  let off := 8 + 4 * le d.params 6 2
  let (ck, rs) := (le d.params off 2, le d.params (off + 2) 2)
  let room := s.roomEach mine.length
  let s1 := s.modStore (fun t => { t with slots := t.slots ++ [{
    job := d.job, gen := gen, state := 3, spilled := true, deadline := 0, openAt := s.clock.now, openTick := s.tickNow
    expected := mine.length, requester := d.src, shards := (s.placeShards (mine.map (fun a => (a, room)))).1 }] })
  if s1.store.streams.any (fun x => x.job == d.job) ∨ ck = 0 then s1
  else
    let entry (kind : Nat) : Stream := s1.opened { kind := kind, vc := 7, job := d.job, owner := gen % 65536, peer := 0xFFFF }
    { (s1.modStore (fun t => { t with streams := t.streams ++ [{ job := d.job, ckpt := ck, rest := rs }] })) with
      streams := kvSet (kvSet s1.streams ck (entry 5)) rs (entry 6) }

/-- A restore begins at a serving Geneel (R477, R478); the PRIMARY of a bolt grants the named members of its bolt that have not failed
their kind 3 actions, whichever twin serves them (R478, R512). -/
def State.restoreHere (s0 : State) (d : GenDue) : State :=
  let gen := if d.gen = 0 then s0.newestGen d.job else d.gen
  let named := s0.restoreMembers d.job d.params
  let failed := ((s0.access.slices.find? (fun x => x.job == d.job)).map Slice.failedMembers).getD []
  let granted := named.filter (fun a => a / 1024 == s0.up.bolt && !failed.contains a)
  let s := s0.grantStreams d.job gen granted
  let mine := named.filter (fun a => s.serverOf a == s.ownAddr && !s.store.serving.any (fun v =>
    v.job == d.job && v.gen == gen && v.len == a && v.kind != 2))
  let fromTarget := le d.params 4 1 = 1
  let s1 := if fromTarget ∧ (s.genSlot d.job gen).isNone ∧ mine ≠ [] then s.openSpilled d gen mine else s
  let new := mine.map (fun a =>
    ({ job := d.job, gen := gen, len := a, kind := if fromTarget then 3 else 1, requester := d.src } : Serving))
  let s2 := s1.modStore (fun t => { t with serving := t.serving ++ new })
  let s3 := new.foldl (fun t v => t.serve v) s2
  if s3.store.serving.any (fun v => v.job == d.job && v.gen == gen && v.kind != 2) then s3
  else s3.genReport d.src 4 0 d.job gen 0 0

/-- A serving Geneel has finished a restore: the command ends when all have (R477). -/
def State.gotRestored (s : State) (src job gen : Nat) : State :=
  match s.store.restores.find? (fun r => r.job == job && r.gen == gen && r.waiting.contains src) with
  | none => s
  | some r =>
    let left := r.waiting.filter (· != src)
    if left = [] then
      (s.modStore (fun t => { t with restores := t.restores.filter (fun x => x.cmd != r.cmd) })).endCmd r.cmd 0 0
    else s.modStore (fun t => { t with restores := t.restores.map (fun x => if x.cmd = r.cmd then { x with waiting := left } else x) })

/-- A member has answered ACCEPTED (R478): the last of a restore here is reported. -/
def State.served (s : State) (v : Serving) : State :=
  let s1 := s.modStore (fun t => { t with serving := t.serving.filter (· != v) })
  if v.kind = 2 ∨ s1.store.serving.any (fun w => w.job == v.job && w.gen == v.gen && w.kind != 2) then s1
  else if v.requester = s1.ownAddr then s1.gotRestored v.requester v.job v.gen
  else s1.genReport v.requester 4 0 v.job v.gen 0 0

/-! ### The marker -/

/-- A GEN_CTL change takes effect (R468). `true` when it must wait. -/
def State.genApply (s : State) (d : GenDue) : State × Bool := match d.op with
  | 0 => s.openGen d
  | 1 => (s.commitGenHere d.job d.gen (s.tickOf d.at_), false)
  | 2 => ((s.failGenHere d.job d.gen d.cause).endTrack d.job d.gen false, false)
  | 3 =>
    match s.genSlot d.job d.gen with
    | some x => (((if x.state = 2 then s.failGenHere d.job d.gen 6 else s).endTrack d.job d.gen false).dropGen d.job d.gen, false)
    -- an opening that waits for its tick does not come about (R108)
    | none => ((s.modStore (fun t => { t with
        due := t.due.filter (fun e => !(e.op == 0 && e.job == d.job && e.gen == d.gen)) })).endTrack d.job d.gen false, false)
  | _ => (s.restoreHere d, false)

/-- Changes due at a marker, in the order in which they came (R468); then members that wait are served. -/
def State.storeMarker (s : State) : State :=
  let now := s.clock.now
  let due := s.store.due.filter (fun d => decide (d.at_ ≤ now))
  let s1 := s.modStore (fun t => { t with due := t.due.filter (fun d => decide (now < d.at_)) })
  let s2 := due.foldl (fun t d =>
    let (u, wait) := t.genApply d
    if wait then u.modStore (fun x => { x with due := x.due ++ [{ d with at_ := now + 1 }] }) else u) s1
  (s2.store.serving.filter (fun v => !v.sent)).foldl (fun t v => t.serve v) s2

/-! ### Losses (R469, R484) -/

/-- A job fails at S4, or a member of it: its OPEN generation fails with cause 3 (R469, R480). -/
def State.storeJobFailed (s : State) (job : Nat) : State :=
  let gens := (s.store.slots.filter (fun x => x.job == job && x.state == 2)).map StoreSlot.gen
    ++ (s.store.tracks.filter (fun k => k.job == job)).map GenTrack.gen
  gens.foldl (fun t g => t.failGen job g 3) s

/-- A member is declared failed: the OPEN generation of its job fails (R469), and a restore that was serving it serves it again once its
promotion commits (R478). -/
def State.storeMemberFailed (s : State) (job len : Nat) : State :=
  (s.storeJobFailed job).modStore (fun t => { t with serving := t.serving.map (fun v =>
    if v.job = job ∧ v.len = len ∧ v.kind ≠ 2 then { v with sent := false } else v) })

/-- A shard's lost copy is refilled from the twin (R484): it takes pages of another quadrant, which releases those that it lost, and its
lines are asked for by PULL. Without room, or without a twin, the other copy serves alone. -/
def State.refillShard (s : State) (job gen : Nat) (y : StoreShard) : State :=
  match (s.placeShards [(y.owner, y.reserved)]).1.head? with
  | none => s
  | some z =>
    (s.modShard job gen y.owner (fun x => { x with quadrant := z.quadrant, page := z.page, lost := false })).rsSend s.twinAddr job
      (s.storeStreams job).rest 5 1 y.owner gen 0 (recordBytesOf [(0, 0)])

/-- A quadrant is lost (R39, R469, R484): its restart pages are, and OPEN generations with shards there fail with cause 5. In MIRROR the
lost copies of COMMITTED ones are refilled from the twin. In SPLIT they are rebuilt from parity under R476 on demand: the lines are the same, so
the model keeps them (DEDUCED, log entry 219). The jobs with pages there. -/
def State.storeQuadLost (s : State) (q : Nat) : State × List Nat :=
  let hit := s.store.slots.filter (fun x => x.shards.any (fun y => y.quadrant == q))
  let s1 := (hit.filter (fun x => x.state == 2)).foldl (fun t x => t.failGen x.job x.gen 5) s
  let s2 := hit.foldl (fun t x =>
    (x.shards.filter (fun y => y.quadrant == q)).foldl (fun u y =>
      u.modShard x.job x.gen y.owner (fun z => { z with
        lost := true, lines := if x.state = 3 ∧ u.store.mode = 1 then z.lines else [] })) t) s1
  let s3 := if s2.store.mode = 0 then
      (hit.filter (fun x => x.state == 3)).foldl (fun t x =>
        (x.shards.filter (fun y => y.quadrant == q)).foldl (fun u y => u.refillShard x.job x.gen y) t) s2
    else s2
  (s3, (hit.map StoreSlot.job).eraseDups)

/-- A line of a restart shard is poisoned (R34). What a failed read of one does is open: DESIGN CHOICE (log entry 218), the line counts as not
stored; the copy in a COMMITTED generation is fetched from the twin in MIRROR, as a lost one is. -/
def State.poisonShard (s : State) (job gen owner line : Nat) : State :=
  match s.genSlot job gen, s.shard job gen owner with
  | some x, some y =>
    if !y.lines.any (fun l => l.1 == line) then s
    else
      let s1 := s.modShard job gen owner (fun z => { z with lines := z.lines.filter (fun l => l.1 != line) })
      if x.state = 3 ∧ s.store.mode = 0 then
        s1.rsSend s.twinAddr job (s.storeStreams job).rest 5 1 owner gen 0 (recordBytesOf [(line, 1)])
      else s1
  | _, _ => s

/-- The parameters of a restore for the members alone that a Geneel served, in MIRROR those of its twin bit (R478, R479). -/
def State.restoreParamsOf (s : State) (job addr : Nat) (b : Bytes) : Bytes :=
  let mine := (s.restoreMembers job b).filter (fun a => 0xF000 + 2 * (a / 1024) + a % 2 == addr)
  field b 0 6 ++ toLe 2 mine.length ++ mine.flatMap (fun a => toLe 2 a ++ toLe 2 a)

/-- A Geneel is lost (R469, R472, R479, R484): what it was to check counts on its twin alone, SINGLE; where the twin is lost too the
generation fails with cause 4. Restores it was serving pass to the other holder. -/
def State.storeGeneelLost (s : State) (addr : Nat) : State :=
  let s1 := s.store.tracks.foldl (fun t k =>
    if k.holders.any (fun h => h.1 == addr) then
      let twin := if addr % 2 = 0 then addr + 1 else addr - 1
      if t.store.mode = 0 ∧ t.geneelUp twin then
        (t.modTrack k.job k.gen (fun x => { x with holders := x.holders.filter (fun h => h.1 != addr), opening := x.opening.filter (· != addr) })).modGen
          k.job k.gen (fun x => { x with single := true })
      else t.failGen k.job k.gen 4
    else t) (if addr = s.twinAddr ∧ s.store.mode = 0 then s.modStore (fun t => { t with
      slots := t.slots.map (fun x => if x.state = 2 then { x with single := true } else x) }) else s)
  s1.store.restores.foldl (fun t r =>
    if r.waiting.contains addr then
      let other := if addr % 2 = 0 then addr + 1 else addr - 1
      let t1 := t.modStore (fun x => { x with restores := x.restores.map (fun y =>
        if y.cmd = r.cmd then { y with waiting := (y.waiting.filter (· != addr)) ++ (if y.waiting.contains other then [] else [other]) }
        else y) })
      t1.genCtl other 4 0 r.job r.gen t1.clock.now (t1.restoreParamsOf r.job addr (((t1.cmd r.cmd).map (fun c => (c.pkt).body)).getD []))
    else t) s1

end Sys2Proof.Machine
end

