-- ==== Sys2Proof/Machine/TableLoad.lean ====
section
/-! DEFINITION. Rows brought into a table from outside (spec 12_calico_tables R429, R453): records of a host, and snapshot shards of a
generation, which this Geneel holds or pulls from the Geneels that do. -/

namespace Sys2Proof.Machine

open Sys2Proof

/-- One record of a load (R429): taken when this Geneel owns the row, whatever A is. Without state bytes the row's optimizer state
starts at zero. A row that the load writes loses its poison, unless the record carries it (R452, R454). A row in a lost quadrant has no page
to be written to and is refused (R39). -/
def State.loadRow (s : State) (table : Nat) (keep poison : Bool) (x : Nat) (data state : Bytes) (n : LoadCount) : State × LoadCount :=
  match s.table table with
  | none => (s, n)
  | some t =>
    let mine := t.shards.getD (t.place x).shard 0xFF == s.ownId
    let held := t.row x
    if !mine ∨ (keep ∧ held.isSome) then (s, { n with skipped := n.skipped + 1 })
    else if t.rowLost x then (s, { n with refused := n.refused + 1 })
    else match held with
      | some r => (s.modTable table (fun _ => (t.touchRow r).putRow { r with data := data, state := state, poison := poison }),
          { n with loaded := n.loaded + 1 })
      | none =>
        let (t2, ok) := t.insertRow x data state
        let t3 := if ok ∧ poison then { t2 with rows := t2.rows.map (fun r => if r.id = x then { r with poison := true } else r) } else t2
        (s.modTable table (fun _ => t3),
          if ok then { n with loaded := n.loaded + 1 } else { n with refused := n.refused + 1 })

/-- Load the records of a snapshot shard (R452, R453). -/
def State.loadShard (s : State) (table : Nat) (keep state : Bool) (y : StoreShard) (n : LoadCount) : State × LoadCount :=
  match s.table table with
  | none => (s, n)
  | some t =>
    let total := (y.fin.map Prod.fst).getD 0
    let bytes := ((y.lines.filter (fun l => l.1 < total)).flatMap (fun l => field l.2 0 64))
    let withState := bit (le bytes 8 1) 0
    let size := 16 + t.rb + (if withState then t.sb else 0)
    (chunks size (le bytes 0 8) (bytes.drop 64)).foldl (fun (a : State × LoadCount) r =>
      a.1.loadRow table keep (bit (le r 8 1) 0) (le r 0 8) (field r 16 t.rb)
        (if withState && state then field r (16 + t.rb) t.sb else zeros t.sb) a.2) (s, n)

/-- The table whose snapshot a load reads: the one named if the generation took it, else the first that it took (R453). -/
def StoreSlot.source (x : StoreSlot) (table : Nat) : Option SnapTable :=
  match x.tables.find? (fun t => t.id == table) with
  | some t => some t
  | none => x.tables.head?

/-- A snapshot fits a table: the same format, d and optimizer (R453). -/
def SnapTable.fits (y : SnapTable) (t : CalTable) : Bool := y.format == t.format && y.d == t.d && y.opt == t.opt

/-- The generation's snapshot, as far as this Geneel knows it, fits the table (R453). -/
def State.snapFits (s : State) (t : CalTable) (gen : Nat) : Bool :=
  ((s.genSlot t.job gen).bind (fun x => x.source t.id)).all (fun y => y.fits t)

/-- Every line of a shard below its END's total is stored. -/
def StoreShard.whole (y : StoreShard) : Bool := match y.fin with
  | some (n, _) => coveredTo y.lines n
  | none => false

/-- Table shards of a slot that are stored here: of the table named, or, where the slot knows no table, all. -/
def StoreSlot.tableShards (x : StoreSlot) (table : Nat) : List StoreShard :=
  let all := x.shards.filter (fun y => 0x80000000 ≤ y.owner)
  let mine (i : Nat) : List StoreShard := all.filter (fun y => (y.owner - 0x80000000) / 64 == i)
  match x.source table with
  | some t => mine t.id
  | none => if mine table = [] then all else mine table

/-- Shards of a snapshot not stored whole here, each with the Geneel to ask (R453, R472, R473). -/
def State.awayShards (s : State) (x : StoreSlot) (table : Nat) : List (Nat × Option Nat) :=
  match x.source table with
  | none => []
  | some t =>
    let here := ((x.tableShards table).filter StoreShard.whole).map StoreShard.owner
    let all := t.shards.zipIdx.map (fun g => (tableOwner t.id g.2, (s.tableHolders g.1).find? (fun h => h != s.ownAddr && s.geneelUp h)))
    all.filter (fun o => !here.contains o.1)

/-- PULL of a whole shard, or of ranges of it, from another Geneel (R462, R484). -/
def State.pullShard (s : State) (dst job gen owner : Nat) (ranges : List (Nat × Nat)) : State :=
  s.rsSend dst job (s.storeStreams job).rest 5 ranges.length owner gen 0 (recordBytesOf ranges)

/-- Counts of a load as its result (R429). -/
def LoadCount.bytes (n : LoadCount) : Bytes := toLe 8 n.loaded ++ toLe 8 n.refused ++ toLe 8 n.skipped

/-- Start a load from a generation (R453): shards stored here at once, the others by PULL. The counts where nothing is awaited. A
shard that no Geneel in service holds is left out. -/
def State.startLoad (s : State) (t : CalTable) (gen : Nat) (keep state : Bool) (cmd : Option Nat) : State × Option LoadCount :=
  match s.genSlot t.job gen with
  | none => (s, some {})
  | some x =>
    let (s1, n) := ((x.tableShards t.id).filter StoreShard.whole).foldl (fun (a : State × LoadCount) y =>
      a.1.loadShard t.id keep state y a.2) (s, {})
    let away := (s.awayShards x t.id).filterMap (fun o => o.2.map (fun h => (o.1, h)))
    if away = [] then (s1, some n)
    else
      let l : CalLoad := { table := t.id, job := t.job, gen := gen, keep := keep, state := state, cmd := cmd, waiting := away, count := n }
      (away.foldl (fun u o => u.pullShard o.2 t.job gen o.1 [(0, 0)])
        { s1 with calico := { s1.calico with loads := s1.calico.loads ++ [l] } }, none)

/-- Change the loads that await a shard. -/
def State.modLoads (s : State) (job gen owner : Nat) (f : CalLoad → CalLoad) : State :=
  { s with calico := { s.calico with loads := s.calico.loads.map (fun l =>
      if l.job = job ∧ l.gen = gen ∧ l.waiting.any (fun o => o.1 == owner) then f l else l) } }

/-- A load awaits a shard. -/
def State.loadAwaits (s : State) (job gen owner : Nat) : Bool :=
  s.calico.loads.any (fun l => l.job == job && l.gen == gen && l.waiting.any (fun o => o.1 == owner))

/-- A shard that loads await has arrived whole: its rows are taken, and a load with nothing left to await ends. -/
def State.loadArrived (s : State) (job gen : Nat) (y : StoreShard) : State :=
  let mine := s.calico.loads.filter (fun l => l.job == job && l.gen == gen && l.waiting.any (fun o => o.1 == y.owner))
  let s1 : State := { s with calico := { s.calico with loads := s.calico.loads.filter (fun l => !mine.contains l) } }
  mine.foldl (fun u l =>
    let (v, n) := u.loadShard l.table l.keep l.state y l.count
    let left : List (Nat × Nat) := l.waiting.filter (fun o => o.1 != y.owner)
    if left = [] then match l.cmd with
      | some c => v.endCmd c 0 0 n.bytes
      | none => v
    else
      { v with calico := { v.calico with loads := v.calico.loads ++ [{ l with
          waiting := left, parts := l.parts.filter (fun q => q.1 != y.owner), count := n }] } }) s1

/-- RDATA of a shard that is not stored here but that a load awaits (R453). -/
def State.loadLines (s : State) (job gen owner : Nat) (lines : List (Nat × Bytes)) : State :=
  s.modLoads job gen owner (fun l => { l with
    parts := l.parts.filter (fun q => !(q.1 == owner && lines.any (fun n => n.1 == q.2.1))) ++ lines.map (fun n => (owner, n.1, n.2)) })

/-- REND of such a shard: its digest is checked, and missing lines are pulled again (R465, R466). -/
def State.loadEnd (s : State) (src job gen owner total : Nat) (dig : Bytes) : State :=
  match s.calico.loads.find? (fun l => l.job == job && l.gen == gen && l.waiting.any (fun o => o.1 == owner)) with
  | none => s
  | some l =>
    let lines := sortBy Prod.fst ((l.parts.filter (fun q => q.1 == owner)).map Prod.snd)
    let y : StoreShard := { owner := owner, quadrant := 0, page := 0, reserved := total, lines := lines, fin := some (total, dig) }
    if coveredTo lines total ∧ shardDigest job gen owner total lines = dig then
      (s.loadArrived job gen y).rsSend src job (s.storeStreams job).rest 6 1 owner gen 0 []
    else
      let m := missingRanges lines total
      s.pullShard src job gen owner (if m = [] then [(0, 0)] else m)

/-- A Geneel that loads await is lost: its twin is asked where it holds the copy, and otherwise the load ends with ST_TIMEOUT. -/
def State.loadGeneelLost (s : State) (addr : Nat) : State :=
  let other := if addr % 2 = 0 then addr + 1 else addr - 1
  let hit := s.calico.loads.filter (fun l => l.waiting.any (fun o => o.2 == addr))
  if s.store.mode = 0 ∧ other ≠ s.ownAddr ∧ s.geneelUp other then
    hit.foldl (fun u l => (l.waiting.filter (fun o => o.2 == addr)).foldl (fun v o => v.pullShard other l.job l.gen o.1 [(0, 0)]) u)
      { s with calico := { s.calico with loads := s.calico.loads.map (fun l =>
          { l with waiting := l.waiting.map (fun o => if o.2 = addr then (o.1, other) else o) }) } }
  else
    hit.foldl (fun u l => match l.cmd with
      | some c => u.endCmd c 0x50 addr
      | none => u)
      { s with calico := { s.calico with loads := s.calico.loads.filter (fun l => !hit.contains l) } }

end Sys2Proof.Machine
end

