-- ==== Sys2Proof/Machine/TwillOps.lean ====
section
/-! DEFINITION. Twill collectives: block-integer arithmetic, records and tallies, trees, and the steps of a group at its roots
(spec 10_twill_collectives). -/

namespace Sys2Proof.Machine

open Sys2Proof

/-! ### Types and widths (R356, R357) -/

/-- Significand width m of a type (R356). -/
def typeBits : Nat → Nat
  | 0 => 5 | 1 => 4 | 2 => 9 | 3 => 12 | 4 => 25 | 5 => 32 | 6 => 5 | 7 => 4 | 8 => 4 | 9 => 5 | _ => 3

/-- Elements of a unit (R356). -/
def typeUnit (t : Nat) : Nat := if t = 4 ∨ t = 5 then 8 else 32

/-- Down data bytes of a unit (R356). -/
def typeData : Nat → Nat
  | 0 => 32 | 1 => 32 | 2 => 64 | 3 => 64 | 4 => 32 | 5 => 32 | 6 => 34 | 7 => 34 | 8 => 26 | 9 => 26 | _ => 18

/-- ⌈log2 n⌉ (R357). -/
def clog2 (n : Nat) : Nat := if n ≤ 1 then 0 else (n - 1).log2 + 1

/-- Lane width of a group (R357). -/
def laneWidth (type n : Nat) : Nat := if type = 4 ∨ type = 5 then 64 else min 40 (4 * cdiv (typeBits type + clog2 n + 4) 4)

/-- Element format of a floating type. -/
def typeFormat : Nat → FpFormat
  | 0 => fpE4M3 | 1 => fpE5M2 | 2 => fpBf16 | 3 => fp16 | 4 => fp32 | 6 => fpE4M3 | 7 => fpE5M2 | 8 => fpE3M2
  | 9 => fpE2M3 | _ => fpE2M1

/-- The tree entry's code byte of operation, operator and type (R189): the spec names its contents and gives no packing (DESIGN
CHOICE). -/
def treeCodes (op operator type : Nat) : Nat := (op * 3 + operator) * 11 + type

/-- Operation of a code byte. -/
def codesOp (c : Nat) : Nat := c / 33

/-- Operator of a code byte. -/
def codesOperator (c : Nat) : Nat := c / 11 % 3

/-- Type of a code byte. -/
def codesType (c : Nat) : Nat := c % 11

/-! ### Records and tallies (R358 to R361, R365) -/

/-- Signed number of a field of `w` bits. -/
def toSigned (w v : Nat) : Int := if 2 ^ (w - 1) ≤ v then (v : Int) - 2 ^ w else v

/-- Lanes of a combine-class record (R360). -/
def lanesOf (w count : Nat) (data : Bytes) : List Int :=
  let v := leVal data
  (List.range count).map (fun i => toSigned w (v / 2 ^ (w * i) % 2 ^ w))

/-- Lane bytes of a combine-class record (R360). -/
def lanesBytes (w : Nat) (lanes : List Int) : Bytes :=
  toLe (w * lanes.length / 8) (lanes.zipIdx.foldl (fun a l => a + (l.1 % (2 ^ w : Int)).toNat * 2 ^ (w * l.2)) 0)

/-- Residue of the lanes of a combine-class record (R365). -/
def laneResidue (lanes : List Int) : Nat :=
  ((lanes.zipIdx.foldl (fun a l => a + l.1 * (2 ^ (l.2 % 16) : Int)) 0) % 65535).toNat

/-- Residue of the data bytes of a down or forward-class record (R365). -/
def dataResidue (data : Bytes) : Nat :=
  ((chunks 2 (cdiv data.length 2) data).zipIdx.foldl (fun a x => a + leVal x.1 * 2 ^ (x.2 % 16)) 0) % 65535

/-- A record (R360). -/
structure TwillRecord where
  offset : Nat
  special : Bool
  e : Nat
  residue : Nat
  data : Bytes
  deriving DecidableEq, Repr

/-- Bytes of a record. -/
def TwillRecord.bytes (r : TwillRecord) : Bytes :=
  toLe 1 (r.offset + 128 * flag r.special) ++ toLe 1 r.e ++ toLe 2 r.residue ++ r.data

/-- Data bytes of a record going up in a class: lanes of a combine class, the type's bytes otherwise (R358). -/
def upData (op type w : Nat) : Nat := if op ≤ 2 then (if w = 64 then 64 else 4 * w) else typeData type

/-- The records of a flit's payload (R358 to R360). -/
def recordsOf (size : Nat) (payload : Bytes) : List TwillRecord :=
  let body := payload.drop 8
  (chunks (4 + size) (body.length / (4 + size)) body).map (fun b =>
    { offset := le b 0 1 % 128, special := bit (le b 0 1) 7, e := le b 1 1, residue := le b 2 2, data := b.drop 4 })

/-- A tally record (R361). -/
structure Tally where
  type : Nat
  flags : Nat
  addr : Nat
  data : Nat
  deriving DecidableEq, Repr

/-- Tally records of a tally flit (R361). -/
def talliesOf (payload : Bytes) : List Tally :=
  let body := payload.drop 8
  (chunks 8 (min 29 (body.length / 8)) body).map (fun b =>
    { type := le b 0 1, flags := le b 1 1, addr := le b 2 2, data := le b 4 4 })

/-- A flit's collective header: step, first unit, span (R359). -/
def twillHeader (f : Flit) : Nat × Nat × Nat := (le f.payload 0 4, le f.payload 4 3, le f.payload 7 1)

/-- Payload of a tally flit (R359, R361). -/
def tallyPayload (step : Nat) (ts : List Tally) : Bytes :=
  toLe 4 step ++ zeros 3 ++ zeros 1
    ++ ts.flatMap (fun t => toLe 1 t.type ++ toLe 1 t.flags ++ toLe 2 t.addr ++ toLe 4 t.data)

/-- Payload bytes for records: 232 plain, 216 encrypted (R358). -/
def recordRoom (enc : Bool) : Nat := if enc then 216 else 232

/-- Cut records that cover units `from_` to `to_` into payloads: whole records, spans of at most 128 (R358, R359). -/
def cutRecords (step size room : Nat) : Nat → Nat → Nat → List (Nat × TwillRecord) → List Bytes
  | 0, _, _, _ => []
  | fuel + 1, from_, to_, rs =>
    if to_ ≤ from_ then []
    else
      let fit := ((rs.takeWhile (fun r => r.1 < from_ + 128)).take (room / (4 + size)))
      let rest := rs.drop fit.length
      let end_ := match rest with
        | r :: _ => min r.1 (min to_ (from_ + 128))
        | [] => min to_ (from_ + 128)
      (toLe 4 step ++ toLe 3 from_ ++ toLe 1 (end_ - from_) ++ fit.flatMap (fun r => { r.2 with offset := r.1 - from_ }.bytes))
        :: cutRecords step size room fuel end_ to_ rest

/-! ### Adding (R363) -/

/-- Align lanes from exponent `e` to `e'`: arithmetic shift right, toward minus infinity. -/
def alignLanes (e e' : Nat) (l : List Int) : List Int := l.map (fun v => v / (2 ^ (e' - e) : Int))

/-- One lane of the operator. -/
def laneOp (operator : Nat) (a b : Int) : Int := if operator = 1 then max a b else if operator = 2 then min a b else a + b

/-- Combine two units at the greater exponent (R363). -/
def addLanes (operator ea : Nat) (a : List Int) (eb : Nat) (b : List Int) : Nat × List Int :=
  let e := max ea eb
  (e, List.zipWith (laneOp operator) (alignLanes ea e a) (alignLanes eb e b))

/-! ### Rounding at the root (R364) -/

/-- Pack elements of `k` bits little-endian, lane 0 lowest. -/
def packBits (k : Nat) (es : List Nat) : Bytes :=
  toLe (k * es.length / 8) (es.zipIdx.foldl (fun a x => a + x.1 * 2 ^ (k * x.2)) 0)

/-- Random integer of element `i` of a stochastic rounding: a free value (R364). -/
def stochastic (on : Bool) (n i : Nat) : Option Nat := if on then some (Config.freeNat (n * 64 + i)) else none

/-- The data bytes of a result in a floating type and the elements that saturated or overflowed (R364). -/
def roundFloat (type e : Nat) (lanes : List Int) (rnd : Bool) (n : Nat) : Bytes × Nat :=
  let f := typeFormat type
  let xs := lanes.zipIdx.map (fun l => f.encode (decide (l.1 < 0)) l.1.natAbs ((e : Int) - 160) (stochastic rnd n l.2))
  (packBits f.width (xs.map Prod.fst), (xs.filter Prod.snd).length)

/-- The data bytes of an INT32 result (R356, R362, R364). -/
def roundInt (e : Nat) (lanes : List Int) (rnd : Bool) (n : Nat) : Bytes × Nat :=
  let xs := lanes.zipIdx.map (fun l =>
    let m := if 160 ≤ e then l.1.natAbs * 2 ^ (e - 160) else dropBits l.1.natAbs (160 - e) (stochastic rnd n l.2)
    let v : Int := signed (decide (l.1 < 0)) m
    let w : Int := max (-2147483648) (min 2147483647 v)
    (w, decide (w ≠ v)))
  (xs.flatMap (fun x => toLeInt 4 x.1), (xs.filter Prod.snd).length)

/-- The data bytes of an MX result: scale ⌊log2 max|x|⌋ less the element type's largest exponent, elements rounded at it and
saturated, scale byte and pad after them (R356, R364). -/
def roundMx (type e : Nat) (lanes : List Int) (rnd : Bool) (n : Nat) : Bytes × Nat :=
  let f := typeFormat type
  let top := lanes.foldl (fun a v => max a v.natAbs) 0
  let x : Int := if top = 0 then -127 else max (-127) (min 127 ((top.log2 : Int) + (e : Int) - 160 - f.emax))
  let xs := lanes.zipIdx.map (fun l =>
    let b := f.magnitude l.1.natAbs ((e : Int) - 160 - x) (stochastic rnd n l.2)
    let sign := if l.1 < 0 then 2 ^ (f.width - 1) else 0
    (sign + min b f.maxBits, decide (f.maxBits < b)))
  (packBits f.width (xs.map Prod.fst) ++ toLe 1 (x + 127).toNat ++ zeros 1, (xs.filter Prod.snd).length)

/-- The data bytes of a SPECIAL unit: every element the canonical NaN, for MX the scale 0xFF; elements of MX and INT32 are free
values, the spec giving them none (R364). -/
def specialData (type n : Nat) : Bytes :=
  if 6 ≤ type then field (Config.freeBytes n (typeData type - 2)) 0 (typeData type - 2) ++ toLe 1 0xFF ++ zeros 1
  else match (typeFormat type).nan, type with
    | _, 5 => field (Config.freeBytes n 32) 0 32
    | some v, _ => packBits (typeFormat type).width (List.replicate (typeUnit type) v)
    | none, _ => []

/-- A finished unit as the data bytes of its down record, and its saturations (R364). -/
def roundUnit (type : Nat) (rnd : Bool) (u : RootUnit) (n : Nat) : Bytes × Nat :=
  if u.special then (specialData type n, 0)
  else if type = 5 then roundInt u.e u.lanes rnd n
  else if 6 ≤ type then roundMx type u.e u.lanes rnd n
  else roundFloat type u.e u.lanes rnd n

/-! ### Trees (R351, R353) -/

/-- Usable links as tree links (R241). -/
def State.treeLinks (s : State) : List TreeLink :=
  (snapLinks s.shownSections {}).map (fun l =>
    let rec_ := (s.boltSection (boltOf l.src)).link l.src l.sport
    { src := l.src, sport := l.sport, dst := l.dst, dport := (rec_.map TopoLink.dport).getD 0xFF, width := l.width,
      delay := (rec_.map TopoLink.delay).getD 0 })

/-- One or two root ports of a root, the lowest usable F ports whose far ends are switches, those not in `avoid` first where
there are such (R351). -/
def rootPorts (links : List TreeLink) (root : Nat) (avoid : List Nat) : List Nat :=
  let all := links.filter (fun l => l.dst == root && l.dport < 36 && 0x8000 ≤ l.src && l.src < 0xE000)
  let fresh := all.filter (fun l => !avoid.contains l.src)
  (sortBy id ((if fresh = [] then all else fresh).map TreeLink.dport)).take 2

/-- A tree toward a root through its root ports, some links excluded, and the members it cannot reach (R258, R351). -/
def State.growTree (s : State) (root : Nat) (avoid : List Nat) (excluded : List (Nat × Nat)) (members : List Nat) :
    BaseTree × List Nat :=
  let links := s.treeLinks
  let ports := rootPorts links root avoid
  let other := (links.filter (fun l => l.dst == root && !ports.contains l.dport)).map (fun l => (l.src, l.sport))
  let (ls, missed) := memberTree (snapLinks s.shownSections {}) (excluded ++ other) root members
  ({ root := root, ports := ports
     links := ls.filterMap (fun l => links.find? (fun t => t.src == l.src && t.sport == l.sport)) }, missed)

/-- The path of a member to the root in a tree, as links. -/
def pathIn (links : List TreeLink) (root : Nat) : Nat → Nat → List TreeLink
  | 0, _ => []
  | k + 1, a =>
    if a = root then []
    else match links.find? (fun l => l.src == a) with
      | some l => l :: pathIn links root k l.dst
      | none => []

/-- Members that a tree leaves unreached or more than 8 links from the root (R351). -/
def tooFar (t : BaseTree) (members : List Nat) : List Nat :=
  members.filter (fun m =>
    let p := pathIn t.links t.root 16 m
    8 < p.length || (p.getLast?.map TreeLink.dst) != some t.root)

/-- Switch-to-switch. -/
def TreeLink.inner (l : TreeLink) : Bool := 0x8000 ≤ l.src && l.src < 0xE000 && 0x8000 ≤ l.dst && l.dst < 0xE000

/-- The twin is healthy, as its heartbeat says (R49). -/
def State.twinHealthy (s : State) : Bool :=
  s.twin.heartbeat.isSome && 7 ≤ s.twin.heardDev && s.twin.heardDev ≤ 9 && !s.twin.deposed

/-- Roots of the two base trees: the PRIMARY of the job's home bolt and its twin, or twice the one of them that is healthy (R345, R351). -/
def State.treeRoots (s : State) (members : List Nat) : Nat × Nat :=
  let home := members.foldl min 0x7FFF / 1024
  if home = s.up.bolt then (s.ownAddr, if s.twinHealthy then s.twinAddr else s.ownAddr)
  else
    let p := s.primaryOf home
    let q := if p % 2 = 0 then p + 1 else p - 1
    if s.healthyId (q - 0xF000) then (if s.healthyId (p - 0xF000) then (p, q) else (q, q)) else (p, p)

/-- A link by each of its ends: what excludes it in both directions (R258, R351). -/
def TreeLink.ends (l : TreeLink) : List (Nat × Nat) := [(l.src, l.sport), (l.dst, l.dport)]

/-- The base trees of a job over its members, some nodes left out (R351); and the members that are unreached or too far. -/
def State.baseTrees (s : State) (job : Nat) (members without : List Nat) : BasePair × List Nat :=
  let cut := (s.treeLinks.filter (fun l => without.contains l.src || without.contains l.dst)).map (fun l => (l.src, l.sport))
  let (r0, r1) := s.treeRoots members
  let (t0, m0) := s.growTree r0 [] cut members
  let tops := (s.treeLinks.filter (fun l => l.dst == r0 && t0.ports.contains l.dport)).map TreeLink.src
  let try_ (ex : List (Nat × Nat)) : BaseTree × List Nat := s.growTree r1 tops (cut ++ ex) members
  let all := t0.links.flatMap TreeLink.ends
  let inner := (t0.links.filter TreeLink.inner).flatMap TreeLink.ends
  let (a, ma) := try_ all
  let (b, mb) := try_ inner
  let (c, mc) := try_ []
  let (t1, m1, joint, shared) := if ma = [] then (a, ma, false, false) else if mb = [] then (b, mb, true, false)
    else (c, mc, true, true)
  ({ job := job, t0 := t0, t1 := t1, shared := shared, joint := joint, oneRoot := decide (r1 = r0) },
    (m0 ++ m1 ++ tooFar t0 members ++ tooFar t1 members).eraseDups)

/-- Keep the base trees of a slice (R351). -/
def State.putBase (s : State) (b : BasePair) : State :=
  { s with twill := { s.twill with
      bases := insertBy BasePair.job (s.twill.bases.filter (fun x => x.job != b.job)) b } }

/-- Free contexts of a root pipeline (R379). -/
def State.freeContexts (s : State) (root k : Nat) : Nat :=
  512 - (s.twill.groups.flatMap (fun g => (g.t0 :: g.t1.toList).map (fun t => (t, g.window)))).foldl (fun a x =>
    if x.1.root = root ∧ x.1.pipeline = k then a + x.2 else a) 0

/-- The good pipeline with the most free contexts, the lowest on a tie, other than `but` (R377; DEDUCED at creation). -/
def State.pickPipeline (s : State) (root : Nat) (but : Option Nat) : Option Nat :=
  let good := (List.range 8).filter (fun k =>
    (root != s.ownAddr || s.unitStatus 10 k == .active) && some k != but)
  good.foldl (fun a k => match a with
    | none => some k
    | some b => if s.freeContexts root b < s.freeContexts root k then some k else a) none

/-- A group's tree: its base tree pruned to the paths of its members, with its figures (R348, R351). -/
def State.groupTree (s : State) (b : BaseTree) (members : List Nat) (pipeline up down : Nat) : GroupTree :=
  let paths := members.map (fun m => pathIn b.links b.root 16 m)
  let links := paths.flatten.eraseDups
  { root := b.root, pipeline := pipeline, ports := b.ports, up := up, down := down, links := links
    depth := paths.foldl (fun a p => max a p.length) 0
    reach := paths.foldl (fun a p =>
      max a (cdiv (p.foldl (fun x l => x + l.delay) 0) 1000 + 1000 * (p.length - 1))) 0
    rate := links.foldl (fun a l => min a (flitsPerTick l.width s.clock.period)) (flitsPerTick 8 s.clock.period)
    combining := ((links.filter (fun l => 0x8000 ≤ l.dst && l.dst < 0xE000)).map TreeLink.dst).eraseDups.length }

/-- Nodes of a tree that hold a tree entry: every node but the root. -/
def GroupTree.nodes (t : GroupTree) : List Nat := (t.links.map TreeLink.src).eraseDups

/-- The TREE_SET body of a node of a tree (R189, R353, R355). An entry of tally class carries no data: its switches take the forwarding role and
reserve nothing (DEDUCED, log entry 251). -/
def Group.treeBody (g : Group) (tree : Nat) (t : GroupTree) (install : Bool) (tick node : Nat) : Bytes :=
  let kids := (t.links.filter (fun l => l.dst == node)).map TreeLink.dport
  let parent := ((t.links.find? (fun l => l.src == node)).map TreeLink.sport).getD 0xFF
  let role := if kids = [] then 0 else if g.op ≤ 2 then 1 else 2
  let store := if role = 1 then g.q + 16 * kids.length else if role = 2 ∧ g.op ≠ 5 then 16 * kids.length else 0
  toLe 1 (flag (!install)) ++ toLe 1 tree ++ toLe 2 g.id ++ toLe 2 g.job ++ toLe 2 t.up ++ toLe 2 t.down ++ toLe 1 parent
    ++ toLe 1 (treeCodes g.op g.operator g.type) ++ toLe 1 g.w ++ toLe 1 role ++ toLe 2 store
    ++ toLe 32 (kids.foldl (fun a p => a + 2 ^ p) 0) ++ toLe 6 tick

/-- TREE_SET of both trees to their nodes, for a command or not (R189, R350). -/
def State.sendTrees (s : State) (g : Group) (t0 : GroupTree) (t1 : Option GroupTree) (install : Bool) (tick : Nat)
    (cmd : Option Nat) : State :=
  let one (s : State) (k : Nat) (t : GroupTree) : State := t.nodes.foldl (fun u n =>
    let body := g.treeBody k t install tick n
    match cmd with
    | some id => u.askFor id n 0x07 body Purpose.tree.code
    | none => u.ask n 0x07 body none Purpose.tree.code) s
  let s1 := one s 0 t0
  match t1 with
  | some t => one s1 1 t
  | none => s1

/-! ### Groups -/

/-- A group. -/
def State.group (s : State) (id : Nat) : Option Group := s.twill.groups.find? (fun g => g.id == id)

/-- Replace a group. -/
def State.putGroup (s : State) (g : Group) : State :=
  { s with twill := { s.twill with
      groups := insertBy Group.id (s.twill.groups.filter (fun x => x.id != g.id)) g } }

/-- Change a group. -/
def State.modGroup (s : State) (id : Nat) (f : Group → Group) : State :=
  { s with twill := { s.twill with groups := s.twill.groups.map (fun g => if g.id = id then f g else g) } }

/-- Members of a group: its LENs in ascending order (R347). -/
def Group.members (g : Group) : List Nat := g.ranges.flatMap (fun r => (List.range (r.2 + 1 - r.1)).map (· + r.1))

/-- Undecided steps (R350). -/
def Group.undecided (g : Group) : Nat := (g.steps.filter (fun x => x.verdict == 0)).length

/-- The root pipeline of a tree sends a flit down on every root port, each a copy of one sequence number (R77, R352). -/
def State.twillSend (s : State) (t : GroupTree) (f : Flit) : State :=
  let s1 := s.injectOn t.ports (gridIndex 10 t.pipeline) f
  { s1 with twill := { s1.twill with sent := s1.twill.sent ++ t.ports.map (fun p => (p, { f with epb := s.epb })) } }

/-- A down flit of a tree (R352). -/
def Group.downFlit (g : Group) (t : GroupTree) (vc : Nat) (payload : Bytes) : Flit :=
  { kind := .data, vc := vc, dst := 0xFFFF, src := t.root, stream := t.down, job := g.job, payload := payload }

/-- The tree of a group that a root of this Geneel serves. -/
def Group.tree (g : Group) (k : Nat) : Option GroupTree := if k = 0 then some g.t0 else g.t1

/-- What a root has of one tree of a step. -/
def GroupStep.tree (x : GroupStep) (k : Nat) : TreeStep := if k = 0 then x.t0 else x.t1

/-- Change it. -/
def GroupStep.modTree (x : GroupStep) (k : Nat) (f : TreeStep → TreeStep) : GroupStep :=
  if k = 0 then { x with t0 := f x.t0 } else { x with t1 := f x.t1 }

/-- Change a step of a group. -/
def State.modStep (s : State) (id step : Nat) (f : GroupStep → GroupStep) : State :=
  s.modGroup id (fun g => { g with steps := g.steps.map (fun x => if x.step = step then f x else x) })

/-- A step of a group. -/
def Group.stepOf (g : Group) (step : Nat) : Option GroupStep := g.steps.find? (fun x => x.step == step)

/-- An undecided step has failed: VOID is decided at the next marker, the first cause standing (R372). -/
def State.failStep (s : State) (id step cause : Nat) : State :=
  s.modStep id step (fun x => if x.verdict = 0 ∧ x.failed = 0 then { x with failed := cause } else x)

/-- Every undecided step of a group has failed (R377). -/
def State.failSteps (s : State) (id cause : Nat) : State :=
  s.modGroup id (fun g => { g with steps := g.steps.map (fun x =>
    if x.verdict = 0 ∧ x.failed = 0 then { x with failed := cause } else x) })

/-- The group and tree that an up flit belongs to (R352): a tree rooted here with the flit's stream. -/
def State.groupOfFlit (s : State) (f : Flit) : Option (Group × Nat × GroupTree) :=
  if f.dst ≠ s.ownAddr then none
  else s.twill.groups.findSome? (fun g =>
    if g.t0.root = s.ownAddr ∧ g.t0.up = f.stream then some (g, 0, g.t0)
    else match g.t1 with
      | some t => if t.root = s.ownAddr ∧ t.up = f.stream then some (g, 1, t) else none
      | none => none)

/-- The step of a flit, opened by its first flit or tally while the group is READY (R349, R375); none for a step already
decided or a group that opens none. -/
def State.openStep (s : State) (g : Group) (step : Nat) : Option State :=
  match g.stepOf step with
  | some x => if x.verdict = 0 then some s else none
  | none =>
    if g.state = .ready ∧ g.opening = false ∧ (step + 2 ^ 32 - (g.lastStep + 1) % 2 ^ 32) % 2 ^ 32 < 2 ^ 31 then
      some (s.modGroup g.id (fun h => { h with
        lastStep := step, steps := h.steps ++ [{ step := step, openAt := s.clock.now }] }))
    else none

/-- Units that every root port has covered, or has ended below (R363, R364). -/
def TreeStep.ready (x : TreeStep) (ports : List Nat) : Nat :=
  let far := x.cover.foldl (fun a c => max a c.2) 0
  ports.foldl (fun a p =>
    if x.subends.any (fun e => e.1 == p) then a
    else min a (((x.cover.find? (fun c => c.1 == p)).map Prod.snd).getD 0)) far

/-- Every root port has sent SUBEND and the counts make the group (R372). -/
def TreeStep.ended (x : TreeStep) (n : Nat) : Bool := (x.subends.foldl (fun a e => a + e.2) 0) == n

/-- The root rounds and sends down what is ready, and DEND once every member has ended (R361, R364). -/
def State.pumpRoot (s : State) (g : Group) (k : Nat) (t : GroupTree) (step : Nat) : State :=
  match (s.group g.id).bind (fun h => h.stepOf step) with
  | none => s
  | some x =>
    let r := x.tree k
    let upTo := r.ready t.ports
    let due := sortBy RootUnit.unit (r.sums.filter (fun u => u.unit < upTo && (u.special || u.lanes.any (· != 0))))
    let (recs, sat) := due.foldl (fun (acc : List (Nat × TwillRecord) × Nat) u =>
      let (d, n) := roundUnit g.type g.stochastic u (s.drawn + acc.1.length)
      (acc.1 ++ [(u.unit, { offset := 0, special := u.special, e := 0, residue := dataResidue d, data := d })], acc.2 + n)) ([], 0)
    let pays := if g.op ≤ 2 then cutRecords step (typeData g.type) (recordRoom (s.currentKey g.job 0).isSome) (upTo + 1 - r.sent) r.sent upTo recs else []
    let s1 := { s with drawn := s.drawn + due.length }
    let s2 := pays.foldl (fun u b => u.twillSend t (g.downFlit t 3 b)) s1
    let finish := r.ended g.n && !r.dend
    let top := r.cover.foldl (fun a c => max a c.2) 0
    let s3 := if finish then
        s2.twillSend t (g.downFlit t 3 (tallyPayload step [{ type := 4, flags := 0, addr := t.root, data := top }]))
      else s2
    (s3.modGroup g.id (fun h => { h with saturations := satAdd 32 h.saturations sat })).modStep g.id step (fun y =>
      y.modTree k (fun z => { z with
        sums := z.sums.filter (fun u => upTo ≤ u.unit), sent := max z.sent upTo, dend := z.dend || finish }))

/-- Add a combine-class record to the root's sums. -/
def TreeStep.add (x : TreeStep) (operator unit e : Nat) (lanes : List Int) (special : Bool) : TreeStep :=
  match x.sums.find? (fun u => u.unit == unit) with
  | none => { x with sums := x.sums ++ [{ unit := unit, e := e, lanes := lanes, special := special }] }
  | some u =>
    let (e', l) := addLanes operator u.e u.lanes e lanes
    { x with sums := x.sums.map (fun v =>
        if v.unit = unit then { v with e := e', lanes := l, special := v.special || special } else v) }

/-- Everything of R372 has arrived on one tree: counts, results, DEND, clear receipts of every member. -/
def TreeStep.complete (x : TreeStep) (n : Nat) : Bool := x.ended n && x.dend && x.receipts.length == n

/-- VERDICT body (R199). -/
def verdictBody (g : Group) (tree : Nat) (x : GroupStep) (tick : Nat) : Bytes :=
  let barrier := x.verdict = 1 ∧ g.op = 5
  toLe 2 g.id ++ toLe 1 tree ++ toLe 1 x.verdict ++ toLe 4 x.step ++ toLe 6 tick
    ++ toLe 4 (if barrier then g.id * 65536 else 0) ++ toLe 6 (if barrier then tick else 0) ++ toLe 2 x.slowest

/-- VERDICT down every tree of the group rooted here (R199, R372). -/
def State.sendVerdict (s : State) (g : Group) (x : GroupStep) : State :=
  let tick := s.tickAt x.at_
  let one (s : State) (k : Nat) (t : GroupTree) : State :=
    if t.root = s.ownAddr then s.send (s.msgTo 0xFFFF 0x0F (verdictBody g k x tick) t.down) else s
  let s1 := one s 0 g.t0
  match g.t1 with
  | some t => one s1 1 t
  | none => s1

/-- The slowest member and the lag of a step (R375), by the ENDs and RECEIPTs that have reached the lead root. -/
def Group.slowest (g : Group) (x : GroupStep) (deadline : Bool) : Nat × Nat :=
  let ends := x.t0.ends ++ x.t1.ends
  let latest := ends.foldl (fun a e => max a e.2) 0
  let earliest := ends.foldl (fun a e => min a e.2) latest
  let late := (sortBy (fun a => a) ((ends.filter (fun e => e.2 == latest)).map Prod.fst)).head?
  let seen := x.t0 :: (match g.t1 with
    | some t => if t.root = g.t0.root then [x.t1] else []
    | none => [])
  let noEnd := g.members.find? (fun m => seen.any (fun y => !(y.ends.any (fun e => e.1 == m))))
  let noReceipt := g.members.find? (fun m => seen.any (fun y => !y.receipts.contains m))
  let named := if deadline then (match noEnd with
    | some m => some m
    | none => noReceipt) else late
  (named.getD 0xFFFF, min 65535 (latest - earliest))

/-- The verdict instant: the first marker at or after `ns` from the last marker plus the reach and 1 us (R373). -/
def State.verdictAt (s : State) (g : Group) (ns : Nat) : Nat :=
  let reach := max g.t0.reach ((g.t1.map GroupTree.reach).getD 0)
  s.clock.now + cdiv (ns + reach + 1000) (1000 * s.clock.period)

/-- The lead root decides a step: the decision is mirrored before any VERDICT leaves (R372, R650 kind 6). -/
def State.decideStep (s : State) (id step verdict cause ns : Nat) : State :=
  match s.group id with
  | none => s
  | some g => match g.stepOf step with
    | none => s
    | some x =>
      if x.verdict ≠ 0 then s
      else
        let (slow, lag) := g.slowest x (decide (cause = 1))
        let y : GroupStep := {
          x with verdict := verdict, cause := cause, at_ := s.verdictAt g ns, slowest := slow, lag := lag }
        let s1 := (s.modStep id step (fun _ => y)).mirrorDelta 6 id (verdictBody g 0 y (s.tickAt y.at_))
        s1.sendVerdict g y

/-- A VOID takes every later undecided step with it, cause 8 (R374). -/
def State.voidStep (s : State) (id step cause : Nat) : State :=
  let later : List GroupStep := match s.group id with
    | none => []
    | some g => ((g.steps.dropWhile (fun x => x.step != step)).drop 1).filter (fun x => x.verdict == 0)
  later.foldl (fun t x => t.decideStep id x.step 2 8 0) (s.decideStep id step 2 cause 0)

/-- Barrier schedules of every job with a barrier group, booked again against empty accounts and sent (R513); each replacement
counts one discard (R80). -/
def State.bookBarriers (s : State) : State :=
  let gs := s.twill.groups.filter (fun g => g.op == 5 && g.state != .draining && !g.opening)
  let all (h : Nat) : Nat := gs.foldl (fun a g => a + s.sliceOnShelf g.job h) 0
  gs.foldl (fun t g =>
    let offs := t.barrierOffsets g.job g.members all
    let t0 := if (kvGet t.power.barriers g.id).isSome then t.countRunAhead g.job 4 false else t
    let t1 := { t0 with power := { t0.power with barriers := kvSet t0.power.barriers g.id t0.tickNow } }
    offs.foldl (fun u o =>
      let gr : Grant := {
        addr := o.1, kind := 0, job := g.job, action := g.id * 65536, start := u.clock.now + o.2.1, alone := u.clock.now + o.2.1
        step := o.2.2, standing := true }
      (u.keepGrant gr).sendGrant gr o.2.1) t1) s

/-- A quota, a shelf budget or the member set has changed: a schedule made for the state before assumes what no longer holds (R79, R513). -/
def State.quotaChanged (s : State) : State := { s with power := { s.power with quotaTick := s.tickNow } }

/-- Step 11 of R64 for barrier schedules: one whose tag is older than the state it is to serve is discarded and booked again (R79). -/
def State.checkBarriers (s : State) : State :=
  if s.power.barriers.any (fun b => decide (b.2 < s.power.quotaTick)) then s.bookBarriers else s

/-- Base trees of a job over all members of its slice, kept and mirrored; the members that they leave out (R351, R650 kind 6). -/
def State.renewBase (s : State) (job : Nat) (without : List Nat) : State × BasePair × List Nat :=
  let members := ((s.access.slices.filter (fun x => x.job == job)).flatMap (fun x => x.ranges)).flatMap
    (fun r => (List.range (r.2 + 1 - r.1)).map (· + r.1))
  let (base, missed) := s.baseTrees job members without
  (((s.chargeTree (snapLinks s.shownSections {}) base.t0.root).putBase base).mirrorDelta 6 (0x10000 + job), base, missed)

/-- New trees for a group: removal of the old entries and installation of the new at one tick (R377). A group with a member that the
base trees leave out stays as it is. -/
def State.rebuildGroup (s : State) (id : Nat) (without : List Nat) (at_ : Nat) : State :=
  match s.group id with
  | none => s
  | some g =>
    let (s, base, missed) := s.renewBase g.job without
    if g.members.any (fun m => missed.contains m) then s.modGroup id (fun h => { h with rebuildAt := none, newTrees := none })
    else
      let t0 := s.groupTree base.t0 g.members g.t0.pipeline g.t0.up g.t0.down
      let t1 := g.t1.map (fun t => s.groupTree base.t1 g.members t.pipeline t.up t.down)
      let s2 := s.sendTrees g g.t0 g.t1 false (s.tickAt at_) none
      let s3 := s2.sendTrees g t0 t1 true (s2.tickAt at_) none
      s3.modGroup id (fun h => { h with rebuildAt := some at_, newTrees := some (t0, t1) })

/-- A tree of the group is lost: its undecided steps are VOID at the next marker and it passes through REBUILD; one that waits for
a promotion gets its new trees with it (R377). -/
def State.loseTree (s : State) (id : Nat) (without : List Nat) : State :=
  let s1 := (s.failSteps id 6).modGroup id (fun g => { g with
    state := if g.state = .draining ∨ g.state = .waiting then g.state else .rebuild })
  match s1.group id with
  | none => s1
  | some g =>
    if g.state ≠ .waiting then s1.rebuildGroup id without (s.clock.now + 3)
    else match g.rebuildAt with
      | some a => s1.rebuildGroup id without (max a (s.clock.now + 3))
      | none => s1

/-- Links have come back: a group that still has no trees for its rebuild gets them now (R377). -/
def State.twillRetry (s : State) : State :=
  let stuck := s.twill.groups.filter (fun g => g.state == .rebuild && g.rebuildAt.isNone && g.t0.root == s.ownAddr)
  stuck.foldl (fun t g => t.rebuildGroup g.id [] (t.clock.now + 3)) s

/-- Links or switches have stopped being usable: base trees and groups on them are built again (R351, R377). -/
def State.twillLost (s : State) (hit : TreeLink → Bool) : State :=
  let bases := s.twill.bases.filter (fun b => b.t0.links.any hit || b.t1.links.any hit)
  let s := bases.foldl (fun t b => (t.renewBase b.job []).1) s
  let lost := s.twill.groups.filter (fun g => !g.opening && (
    g.t0.links.any hit || (match g.t1 with
      | some t => t.links.any hit
      | none => false)))
  lost.foldl (fun t g => t.loseTree g.id []) s

/-- A member of a job has been declared failed: its groups' undecided steps are VOID with cause 5, and they wait for the
promotion (R377). -/
def State.twillMemberFailed (s : State) (job addr : Nat) : State :=
  let hit := s.twill.groups.filter (fun g => g.job == job && g.members.contains addr)
  hit.foldl (fun t g => (t.failSteps g.id 5).modGroup g.id (fun h => { h with
    state := if h.state = .draining then .draining else .waiting })) s

/-- The promotion of a member commits at an instant: the groups' new entries are installed at the same tick (R377). -/
def State.twillPromote (s : State) (job addr at_ : Nat) : State :=
  let hit := s.twill.groups.filter (fun g => g.job == job && g.members.contains addr)
  hit.foldl (fun t g => t.rebuildGroup g.id [] at_) s

/-- The root pipeline of a tree is lost: undecided steps VOID with cause 7, the groups re-homed (R27, R377). -/
def State.twillPipelineLost (s : State) (k : Nat) : State :=
  let mine (t : GroupTree) : Bool := t.root == s.ownAddr && t.pipeline == k
  let hit := s.twill.groups.filter (fun g => mine g.t0 || (match g.t1 with
    | some t => mine t
    | none => false))
  hit.foldl (fun u g =>
    let new := (u.pickPipeline u.ownAddr (some k)).getD k
    let move (t : GroupTree) : GroupTree := if mine t then { t with pipeline := new } else t
    (u.failSteps g.id 7).modGroup g.id (fun h => { h with t0 := move h.t0, t1 := h.t1.map move })) s

/-- A fault of some trees found after COMMIT fails the job of every committed step it overlaps (R378). -/
def State.postCommitOn (s : State) (on : GroupTree → Bool) : State :=
  let hit := s.twill.groups.filter (fun g =>
    (on g.t0 || (match g.t1 with
      | some t => on t
      | none => false))
    && (g.steps.any (fun x => x.verdict == 1) || g.notes.any (fun n => n.verdict == 1 && s.clock.now ≤ n.endAt)))
  hit.foldl (fun t g => t.fault { source := 0xF906, code := 0x27, job := g.job }) s

/-- A fault of a switch found after COMMIT (R378). -/
def State.postCommit (s : State) (node : Nat) : State :=
  s.postCommitOn (fun t => t.links.any (fun l => l.src == node || l.dst == node))

/-- An uncorrectable error in the store of a root pipeline of this Geneel, found after COMMIT (R378). -/
def State.postCommitPipeline (s : State) (k : Nat) : State :=
  s.postCommitOn (fun t => t.root == s.ownAddr && t.pipeline == k)

/-- A verdict settles at its tick. A group that has reached its VOID limit is recorded with its causes, as R376 asks, where R711 gives the code
no key and no detail (DESIGN CHOICE, log entry 262). It settles: counts, causes and the last 16 steps (R374, R376, R380). -/
def State.settleStep (s : State) (id : Nat) (x : GroupStep) : State :=
  let note : StepNote := {
    step := x.step, verdict := x.verdict, cause := x.cause, slowest := x.slowest, lag := x.lag, tick := s.tickAt x.at_
    openAt := x.openAt, endAt := x.at_ }
  let s1 := s.modGroup id (fun g => { g with
    steps := g.steps.filter (fun y => y.step != x.step)
    notes := (note :: g.notes).take 16
    committed := g.committed + flag (x.verdict == 1)
    voided := g.voided + flag (x.verdict == 2)
    voidBy := if x.verdict = 2 then g.voidBy.modify (x.cause - 1) (fun v => satAdd 32 v 1) else g.voidBy
    voidRun := if x.verdict = 2 then g.voidRun + 1 else 0
    causes := if x.verdict = 2 then g.causes ++ [x.cause] else []
    poisoners := if x.verdict = 1 then [] else g.poisoners })
  match s1.group id with
  | none => s1
  | some g =>
    let s2 := if x.verdict = 2 then s1.countRunAhead g.job 3 false else s1
    if x.verdict = 2 ∧ g.voidLimit ≤ g.voidRun then
      ((s2.fault { source := 0xF906, code := 0x26, key := g.id, job := g.job, detail := g.causes.flatMap (toLe 1)
        }).loseTree id g.poisoners).modGroup id (fun h => { h with voidRun := 0, causes := [], poisoners := [] })
    else s2

/-- What step 5 of R64 does for Twill: verdicts due settle, rebuilt trees come in, then VOID is decided for every step that has
failed (R372, R373, R377). -/
def State.twillMarker (s : State) : State :=
  let ids := s.twill.groups.map Group.id
  let due (t : State) (id : Nat) : List GroupStep :=
    ((t.group id).map (fun g => g.steps.filter (fun x => x.verdict != 0 && x.at_ ≤ t.clock.now))).getD []
  let s1 := ids.foldl (fun t id => (due t id).foldl (fun u x => u.settleStep id x) t) s
  let s2 := ids.foldl (fun t id => match t.group id with
    | none => t
    | some g => match g.rebuildAt, g.newTrees with
      | some a, some (t0, t1) =>
        if a ≤ t.clock.now then
          (t.failSteps id 6).modGroup id (fun h => { h with
            t0 := t0, t1 := t1, rebuildAt := none, newTrees := none
            state := if h.state = .draining then .draining else .ready })
        else t
      | _, _ => t) s1
  ids.foldl (fun t id => match t.group id with
    | none => t
    | some g =>
      if g.t0.root ≠ t.ownAddr then t
      else (g.steps.filter (fun x => x.verdict == 0 && x.failed != 0)).foldl (fun u x => u.voidStep id x.step x.failed) t) s2

end Sys2Proof.Machine
end

