-- ==== Sys2Proof/Machine/Twill.lean ====
section
/-! DEFINITION. The meanings of the Twill commands (opcode class 0x05) and of the events at a root (spec
10_twill_collectives). -/

namespace Sys2Proof.Machine

open Sys2Proof

/-! ### Streams that a command reserves before its tick (R32) -/

/-- Reserve the lowest free stream IDs for entries of a command accepted and not yet due: allocated, IDLE. -/
def State.reserveStreams (s : State) (l : List Stream) : State × List Nat :=
  let ids := s.freeStreams l.length
  ({ s with streams := (ids.zip l).foldl (fun m e => kvSet m e.1 { e.2 with state := 0 }) s.streams }, ids)

/-- Reserved streams open at the tick of effect. -/
def State.openReserved (s : State) (ids : List Nat) : State :=
  ids.foldl (fun t i => match kvGet t.streams i with
    | some e => { t with streams := kvSet t.streams i (t.opened e) }
    | none => t) s

/-- Reserved streams are given back. -/
def State.dropReserved (s : State) (ids : List Nat) : State :=
  { s with streams := ids.foldl (fun m i => kvErase m i) s.streams }

/-- Check that `n` streams are free; the shortfall is the detail (R32). -/
def State.needStreams (s : State) (n : Nat) : Check :=
  let k := (s.freeStreams n).length
  if k < n then .fail 0x12 (n - k) else .ok

/-! ### Member ranges (R347) -/

/-- Ranges of 4 bytes from an offset. -/
def rangesAt (b : Bytes) (off n : Nat) : List (Nat × Nat) :=
  (chunks 4 n (b.drop off)).map (fun r => (le r 0 2, le r 2 2))

/-- Ascending and without overlap, from the i-th on the previous end being `prev`. -/
def rangesOk : Nat → List (Nat × Nat) → Bool
  | _, [] => true
  | prev, r :: rest => decide (prev ≤ r.1 && r.1 ≤ r.2) && rangesOk (r.2 + 1) rest

/-- The slice of a job. -/
def State.slice (s : State) (job : Nat) : Option Slice := s.access.slices.find? (fun x => x.job == job)

/-- A range lies within a slice. -/
def Slice.holds (x : Slice) (r : Nat × Nat) : Bool :=
  (List.range (r.2 + 1 - r.1)).all (fun i => x.ranges.any (fun q => q.1 ≤ r.1 + i && r.1 + i ≤ q.2))

/-- Every range names members of the header job's ACTIVE slice, ascending; the detail is the range's offset (R347). -/
def checkRanges (s : State) (p : Packet) (off : Nat) (rs : List (Nat × Nat)) : Check :=
  let sl := s.slice p.job
  checks (rs.zipIdx.map (fun r => need (rangesOk 0 (rs.take (r.2 + 1)) && (match sl with
    | some x => x.state == .active && x.holds r.1
    | none => false)) (p.off (off + 4 * r.2))))

/-- Home bolt of a job: the bolt of the lowest LEN of its slice (R345). -/
def State.homeBolt (s : State) (job : Nat) : Nat :=
  match s.slice job with
  | some x => (x.ranges.map Prod.fst).foldl min 0x7FFF / 1024
  | none => s.up.bolt

/-! ### GROUP_CREATE (R344 to R354, R379) -/

/-- The lowest free group slot of the home bolt (R344, R345). -/
def State.freeGroup (s : State) (bolt : Nat) : Option Nat :=
  let n := if bolt = 31 then 2047 else 2048
  let used := s.twill.groups.map Group.id
  ((List.range (min n (used.length + 1))).map (fun k => bolt * 2048 + k)).find? (fun i => !used.contains i)

/-- Pipelines of the two trees: the freest at each root, two different ones at one root (R351, R379). -/
def State.groupPipelines (s : State) (b : BasePair) : Option Nat × Option Nat :=
  let a := s.pickPipeline b.t0.root none
  (a, s.pickPipeline b.t1.root (if b.t1.root = b.t0.root then a else none))

/-- The group that a GROUP_CREATE describes, with its trees and streams. -/
def State.makeGroup (s : State) (p : Packet) (gid : Nat) (b : BasePair) (ids : List Nat) : Group :=
  let d := p.body
  let ranges := rangesAt d 16 (le d 12 2)
  let members := ranges.flatMap (fun r => (List.range (r.2 + 1 - r.1)).map (· + r.1))
  let single := bit (le d 7 1) 0
  let (p0, p1) := s.groupPipelines b
  let dflt (v k : Nat) : Nat := if v = 0 then k else v
  { id := gid, job := p.job, op := le d 0 1, operator := le d 1 1, type := le d 2 1, stochastic := le d 3 1 == 1
    window := le d 4 1, voidLimit := dflt (le d 5 1) 4, weight := dflt (le d 6 1) 1, single := single
    q := dflt (le d 8 2) 1024, deadline := dflt (le d 10 2) 1024, ranges := ranges, n := members.length
    w := laneWidth (le d 2 1) members.length, state := .ready, opening := true
    t0 := s.groupTree b.t0 members (p0.getD 0) (ids.getD 0 0) (ids.getD 1 0)
    t1 := if single then none else some (s.groupTree b.t1 members (p1.getD 0) (ids.getD 2 0) (ids.getD 3 0))
    flags := if single then 8 else flag b.shared + 2 * flag b.joint + 4 * flag b.oneRoot }

/-- The 24-byte block of a tree (R348). -/
def GroupTree.bytes (t : GroupTree) : Bytes :=
  toLe 2 t.root ++ toLe 1 t.pipeline ++ toLe 1 t.ports.length ++ toLe 1 (t.ports.getD 0 0xFF) ++ toLe 1 (t.ports.getD 1 0xFF)
    ++ toLe 2 t.up ++ toLe 2 t.down ++ toLe 1 t.depth ++ zeros 1 ++ toLe 4 t.reach ++ toLe 4 t.rate ++ toLe 2 t.combining
    ++ zeros 2

/-- The result of GROUP_CREATE (R348). -/
def Group.result (g : Group) : Bytes :=
  toLe 2 g.id ++ toLe 1 (g.id / 2048) ++ toLe 1 g.flags ++ toLe 1 g.w ++ zeros 1 ++ toLe 2 g.n ++ g.t0.bytes
    ++ (match g.t1 with
      | some t => t.bytes
      | none => zeros 24)

/-- Streams of a group: an up and a down stream for each tree (R348). -/
def groupStreams (job gid : Nat) (trees : Nat) : List Stream :=
  (List.range trees).flatMap (fun _ =>
    [({ kind := 1, vc := 2, job := job, owner := gid, peer := 0xFFFF } : Stream),
     { kind := 1, vc := 3, job := job, owner := gid, peer := 0xFFFF }])

/-- Steps kinds 0 and 1 are given grants: barrier schedules or a standing launch grant (R512 to R514). -/
def State.grantGroup (s : State) (g : Group) : State :=
  if g.op = 5 then s.bookBarriers else (s.launch 1 g.id g.job g.members true).1

/-- GROUP_CREATE (R346 to R354, R379, R513): the tree entries are sent at acceptance for the tick of effect; a refusal for want
of store ends it with ST_NO_RESOURCE and takes the entries back. Where a link of its trees is lost before that tick, the group begins with a
REBUILD (R377). -/
def opGroupCreate : HostOp := {
  opcode := 0x0501, eff := .ea, jobs := .nonzero
  params := fun p _ s =>
    let d := p.body
    let op := le d 0 1
    let rs := rangesAt d 16 (le d 12 2)
    checks [need (16 ≤ p.bodyLen) 12, need (op ≤ 5) (p.off 0), need (le d 1 1 ≤ (if op ≤ 2 then 2 else 0)) (p.off 1),
      need (le d 2 1 ≤ (if op = 5 then 0 else 10)) (p.off 2), need (le d 3 1 ≤ (if op ≤ 2 then 1 else 0)) (p.off 3),
      need (1 ≤ le d 4 1 && le d 4 1 ≤ 4) (p.off 4), need (le d 5 1 ≤ 15) (p.off 5), need (le d 6 1 ≤ 8) (p.off 6),
      need (le d 8 2 == 0 || (128 ≤ le d 8 2 && le d 8 2 ≤ 8192)) (p.off 8),
      need (le d 10 2 == 0 || 16 ≤ le d 10 2) (p.off 10),
      need (1 ≤ le d 12 2 && le d 12 2 ≤ 1016) (p.off 12), need (p.bodyLen == 16 + 4 * le d 12 2) 12,
      checkRanges s p 16 rs]
  resources := fun p s =>
    let d := p.body
    let trees := if bit (le d 7 1) 0 then 1 else 2
    let barrier := s.twill.groups.any (fun g => g.job == p.job && g.op == 5 && g.state != .draining)
    match s.freeGroup (s.homeBolt p.job), s.twill.bases.find? (fun b => b.job == p.job) with
    | none, _ => .fail 0x12 1
    | _, none => .fail 0x12 1
    | some _, some b =>
      let (p0, p1) := s.groupPipelines b
      let room (root : Nat) (k : Option Nat) : Nat := match k with
        | some k => le d 4 1 - s.freeContexts root k
        | none => le d 4 1
      let short := room b.t0.root p0 + (if trees = 1 then 0 else room b.t1.root p1)
      checks [if le d 0 1 = 5 ∧ barrier then .fail 0x12 1 else .ok, if short ≠ 0 then .fail 0x12 short else .ok,
        s.needStreams (2 * trees)]
  start := fun p id s =>
    match s.freeGroup (s.homeBolt p.job), s.twill.bases.find? (fun b => b.job == p.job) with
    | some gid, some b =>
      let trees := if bit (le p.body 7 1) 0 then 1 else 2
      let (s1, ids) := s.reserveStreams (groupStreams p.job gid trees)
      let g := s1.makeGroup p gid b ids
      let due := ((s1.cmd id).map Cmd.due).getD s1.clock.now
      let s2 := s1.sendTrees g g.t0 g.t1 true (s1.tickAt due) (some id)
      { s2.modCmd id (fun c => { c with data := [gid] }) with
        twill := { s2.twill with groups := insertBy Group.id s2.twill.groups g } }
    | _, _ => s
  apply := fun _ id s =>
    match ((s.cmd id).map Cmd.data).bind List.head? with
    | none => (s, .done 0x12 1 [])
    | some gid => match s.group gid with
      | none => (s, .done 0x12 1 [])
      | some g =>
        let c := s.cmd id
        let ids := [g.t0.up, g.t0.down] ++ ((g.t1.map (fun t => [t.up, t.down])).getD [])
        let bad := (c.map Cmd.endStatus).getD 0
        if bad ≠ 0 ∧ bad ≠ 0x13 then
          let s1 := (s.sendTrees g g.t0 g.t1 false (s.nameTick 3) none).dropReserved ids
          ({ s1 with twill := { s1.twill with groups := s1.twill.groups.filter (fun x => x.id != gid) } },
            .done bad ((c.map Cmd.endDetail).getD 0) [])
        else
          let s1 := (s.modGroup gid (fun h => { h with opening := false })).openReserved ids
          let s2 := (s1.grantGroup g).mirrorDelta 6 gid g.result
          let gone (l : TreeLink) : Bool := !s2.treeLinks.any (fun x => x.src == l.src && x.sport == l.sport && l.width ≤ x.width)
          let s3 := if g.t0.links.any gone ∨ (g.t1.any (fun t => t.links.any gone)) then s2.loseTree gid [] else s2
          (s3, Fin.result g.result) }

/-- GROUP_CREATE. -/
def execGroupCreate (p : Packet) (s : State) : Host.Outcome State Fault Refusal := s.finish (s.command opGroupCreate p)

/-- The group of the header's job that bytes 0 to 1 name. -/
def namedGroup (p : Packet) (s : State) : Option Group :=
  (s.group (le p.body 0 2)).filter (fun g => g.job == p.job && !g.opening)

/-- GROUP_DESTROY (R350): DRAINING from acceptance, its trees removed and the group at its tick; an agent that stays silent leaves the group
as it was (R118). -/
def opGroupDestroy : HostOp := {
  opcode := 0x0502, eff := .ea, jobs := .nonzero
  params := fun p _ s => checks [needLen p 2, need (namedGroup p s).isSome (p.off 0)]
  reserves := fun p _ => [.group (le p.body 0 2)]
  target := fun p s => match namedGroup p s with
    | some g => if g.undecided ≠ 0 then .drain g.undecided else .ok
    | none => .ok
  start := fun p id s => match namedGroup p s with
    | none => s
    | some g =>
      let due := ((s.cmd id).map Cmd.due).getD s.clock.now
      let was := match g.state with
        | .rebuild => 1
        | .waiting => 2
        | _ => 0
      ((s.modGroup g.id (fun h => { h with state := .draining })).modCmd id (fun c => { c with data := [was, g.id] })).sendTrees
        g g.t0 g.t1 false (s.tickAt due) (some id)
  apply := fun p id s => match namedGroup p s with
    | none => (s, Fin.ok)
    | some g =>
      let bad := ((s.cmd id).map Cmd.endStatus).getD 0
      if bad ≠ 0 ∧ bad ≠ 0x13 then
        (((s.cmd id).map (fun c => s.discard c)).getD s, .done bad (((s.cmd id).map Cmd.endDetail).getD 0) [])
      else
      let ids := [g.t0.up, g.t0.down] ++ ((g.t1.map (fun t => [t.up, t.down])).getD [])
      let s1 := ids.foldl (fun t i => t.releaseStream i) s
      let s2 := { s1 with twill := { s1.twill with groups := s1.twill.groups.filter (fun x => x.id != g.id) } }
      let s3 := (s2.dropGrants 0 g.id).dropGrants 1 g.id
      let s4 := { s3 with power := { s3.power with barriers := kvErase s3.power.barriers g.id } }
      ((if g.op = 5 then s4.quotaChanged.bookBarriers else s4).mirrorDelta 6 g.id, Fin.ok) }

/-- GROUP_DESTROY. -/
def execGroupDestroy (p : Packet) (s : State) : Host.Outcome State Fault Refusal := s.finish (s.command opGroupDestroy p)

/-- One of the last 16 steps, 16 bytes (R380). -/
def StepNote.bytes (n : StepNote) : Bytes :=
  toLe 4 n.step ++ toLe 1 n.verdict ++ toLe 1 n.cause ++ toLe 2 n.slowest ++ toLe 2 n.lag ++ toLe 6 n.tick

/-- The result of GROUP_STATUS (R380). -/
def Group.statusBytes (g : Group) : Bytes :=
  toLe 2 g.id ++ toLe 1 g.state.ctorIdx ++ toLe 1 g.flags ++ toLe 4 g.lastStep ++ toLe 8 g.committed ++ toLe 8 g.voided
    ++ g.voidBy.flatMap (toLe 4) ++ toLe 4 g.saturations ++ toLe 2 g.lastPoison ++ zeros 2
    ++ field (g.notes.flatMap StepNote.bytes) 0 256

/-- GROUP_STATUS (R380). -/
def opGroupStatus : HostOp := {
  opcode := 0x0503, jobs := .nonzero, query := true
  params := fun p _ s => checks [needLen p 2, need (namedGroup p s).isSome (p.off 0)]
  apply := fun p _ s => match namedGroup p s with
    | some g => (s, Fin.result g.statusBytes)
    | none => (s, Fin.ok) }

/-- GROUP_STATUS. -/
def execGroupStatus (p : Packet) (s : State) : Host.Outcome State Fault Refusal := s.finish (s.command opGroupStatus p)

/-! ### Events at a root -/

/-- Units a flit covers are marked at its root port (R359). -/
def TreeStep.coverTo (x : TreeStep) (port upTo : Nat) : TreeStep :=
  let old := ((x.cover.find? (fun c => c.1 == port)).map Prod.snd).getD 0
  { x with cover := x.cover.filter (fun c => c.1 != port) ++ [(port, max old upTo)] }

/-- The first cause of a poisoned step is its own, and the poisoning node is remembered (R366, R376). -/
def State.poison (s : State) (id step node : Nat) : State :=
  (s.failStep id step 2).modGroup id (fun g => { g with
    lastPoison := node
    poisoners := if 0x8000 ≤ node ∧ node < 0xE000 ∧ !g.poisoners.contains node then g.poisoners ++ [node] else g.poisoners })

/-- One up record at a root: a failed residue poisons with the root's own address; a combine-class record is added, a
forward-class record goes down as it is, a second sender of a broadcast unit being a conflict (R355, R363 to R366, R377). -/
def State.rootRecord (s : State) (g : Group) (k : Nat) (t : GroupTree) (step u0 src : Nat) (r : TwillRecord) : State :=
  let unit := u0 + r.offset
  if g.op ≤ 2 then
    let lanes := lanesOf g.w (typeUnit g.type) r.data
    let s1 := if r.residue ≠ laneResidue lanes then s.poison g.id step t.root else s
    s1.modStep g.id step (fun x => x.modTree k (fun y => y.add g.operator unit r.e lanes r.special))
  else
    let s1 := if r.residue ≠ dataResidue r.data then s.poison g.id step t.root else s
    let other := (((s1.group g.id).bind (fun h => h.stepOf step)).map (fun x =>
      (x.tree k).senders.any (fun e => e.1 == unit && e.2 != src))).getD false
    let s2 := if g.op = 3 ∧ other then s1.failStep g.id step 9 else s1
    let s3 := s2.modStep g.id step (fun x => x.modTree k (fun y => { y with senders := y.senders ++ [(unit, src)] }))
    let pay := toLe 4 step ++ toLe 3 unit ++ toLe 1 1 ++ { r with offset := 0, residue := dataResidue r.data }.bytes
    s3.twillSend t (g.downFlit t 3 pay)

/-- TWILL_UP_RECORD_RECEIVE (R352, R359 to R366, R379): a data flit of a tree at a root port. A flit of no tree is discarded
and counted as misrouted. -/
def execTwillUpRecordReceive (port : Nat) (f : Flit) (s : State) : Host.Outcome State Fault Refusal :=
  match s.groupOfFlit f with
  | none => s.finish { s with twill := { s.twill with misrouted := s.twill.misrouted + 1 } }
  | some (g, k, t) =>
    let (step, u0, span) := twillHeader f
    if span = 0 ∨ !t.ports.contains port then s.finish s
    else match s.openStep g step with
      | none => s.finish s
      | some s1 =>
        let rs := recordsOf (upData g.op g.type g.w) f.payload
        let s2 := rs.foldl (fun u r => u.rootRecord g k t step u0 f.src r) s1
        let s3 := s2.modStep g.id step (fun x => x.modTree k (fun y => y.coverTo port (u0 + span)))
        s.finish (s3.pumpRoot g k t step)

/-- The twin that roots tree 1 reports it complete and clear (R372). -/
def State.reportTree (s : State) (g : Group) (step : Nat) : State :=
  match g.t1 with
  | none => s
  | some t =>
    if t.root = s.ownAddr ∧ g.t0.root ≠ s.ownAddr then
      match (s.group g.id).bind (fun h => h.stepOf step) with
      | some x =>
        if x.t1.complete g.n ∧ x.failed = 0 ∧ !x.reported then
          let s1 := s.modStep g.id step (fun y => { y with reported := true })
          { s1 with twill := { s1.twill with
              reports := s1.twill.reports ++ [{ dst := g.t0.root, group := g.id, step := step }] } }
        else s
      | none => s
    else s

/-- One tally at a root (R361, R366, R372, R377). -/
def State.rootTally (s : State) (g : Group) (k port step : Nat) (y : Tally) : State :=
  match y.type with
  | 1 => s.modStep g.id step (fun x => x.modTree k (fun t => { t with
      ends := t.ends.filter (fun e => e.1 != y.addr) ++ [(y.addr, y.data)] }))
  | 2 =>
    if bit y.flags 1 then s.failStep g.id step 10
    else if bit y.flags 0 then s.failStep g.id step 3
    else s.modStep g.id step (fun x => x.modTree k (fun t => { t with
      receipts := if t.receipts.contains y.addr then t.receipts else t.receipts ++ [y.addr] }))
  | 3 =>
    let s1 := if bit y.flags 0 then s.poison g.id step y.addr else s
    let s2 := if bit y.flags 1 then s1.failStep g.id step 4 else s1
    s2.modStep g.id step (fun x => x.modTree k (fun t => { t with
      subends := t.subends.filter (fun e => e.1 != port) ++ [(port, y.data)] }))
  | _ => s

/-- TWILL_TALLY_RECEIVE (R359, R361, R372, R377): END, RECEIPT and SUBEND tallies at a root port. -/
def execTwillTallyReceive (port : Nat) (f : Flit) (s : State) : Host.Outcome State Fault Refusal :=
  match s.groupOfFlit f with
  | none => s.finish { s with twill := { s.twill with misrouted := s.twill.misrouted + 1 } }
  | some (g, k, t) =>
    let (step, _, span) := twillHeader f
    if span ≠ 0 ∨ !t.ports.contains port then s.finish s
    else match s.openStep g step with
      | none => s.finish s
      | some s1 =>
        let s2 := (talliesOf f.payload).foldl (fun u y => u.rootTally g k port step y) s1
        s.finish ((s2.pumpRoot g k t step).reportTree g step)

/-- Every condition of R372 for COMMIT holds at the lead root. -/
def Group.mayCommit (g : Group) (own : Nat) (x : GroupStep) : Bool :=
  x.verdict == 0 && x.failed == 0 && x.t0.complete g.n && (match g.t1 with
    | none => true
    | some t => if t.root = own then x.t1.complete g.n else x.twinDone)

/-- TWILL_COMMIT_DECIDE (R372, R373, R375): `ns` is τ from the last marker, in ns. Only the lead root decides. -/
def execTwillCommitDecide (group step ns : Nat) (s : State) : Host.Outcome State Fault Refusal :=
  match s.group group with
  | none => s.finish s
  | some g => match g.stepOf step with
    | none => s.finish s
    | some x =>
      if g.t0.root = s.ownAddr ∧ g.mayCommit s.ownAddr x then s.finish (s.decideStep group step 1 0 ns) else s.finish s

/-- TWILL_STEP_DEADLINE (R374, R375): a step undecided at the marker of its open tick plus D_s is VOID with cause 1. -/
def execTwillStepDeadline (group step : Nat) (s : State) : Host.Outcome State Fault Refusal :=
  match s.group group with
  | none => s.finish s
  | some g => match g.stepOf step with
    | none => s.finish s
    | some x =>
      if g.t0.root = s.ownAddr ∧ x.verdict = 0 ∧ x.openAt + g.deadline ≤ s.clock.now then s.finish (s.voidStep group step 1)
      else s.finish s

/-- TWIN_TREE_REPORT_RECEIVE (R372): tree 1 of a step is complete and clear at the twin. The spec gives the report no layout:
its group and step are operands. -/
def execTwinTreeReportReceive (group step : Nat) (s : State) : Host.Outcome State Fault Refusal :=
  match s.group group with
  | none => s.finish s
  | some g =>
    if g.t0.root = s.ownAddr then s.finish (s.modStep group step (fun x => { x with twinDone := true })) else s.finish s

end Sys2Proof.Machine
end

