-- ==== Sys2Proof/Machine/Restart.lean ====
section
/-! DEFINITION. The meanings of the restart store's commands (opcode class 0x08) and of its flits, messages and timers (spec
13_restart_store). -/

namespace Sys2Proof.Machine

open Sys2Proof

/-! ### Commands -/

/-- Pages above the end of a region that a new carve value would give (R37): in a table slot, and in a restart quadrant. -/
def State.carveShort (s : State) (t : Nat) : Nat :=
  let tableTop (e : Nat) : Nat := s.calico.tables.foldl (fun a x => max a (x.starts.getD e 0 + x.pages)) 0
  let restTop (q : Nat) : Nat := (s.storedShards.filter (fun x => x.quadrant == q)).foldl (fun a x => max a (x.page + x.pages)) 0
  let gib := 2 ^ 30 / 4096
  let tShort (e : Nat) : Nat :=
    let n := s.quadStacks (e / 8)
    if n = 0 then 0 else cdiv (8 * tableTop e - min (8 * tableTop e) (n * t * gib)) (n * gib)
  let rShort (q : Nat) : Nat :=
    let n := s.quadStacks q
    if n = 0 then 0 else cdiv (restTop q - min (restTop q) (n * (63 - t) * gib)) (n * gib)
  ((List.range 32).map tShort ++ (List.range 4).map rShort).foldl max 0

/-- STORE_CARVE (R36 to R38, R471). The spec gives no parameter layout: byte 0 is T. Occupied space is looked at in the effective
tick, the detail the shortfall in GiB per stack. In SPLIT mode no generation may be held. -/
def opStoreCarve : HostOp := {
  opcode := 0x0801, eff := .ei, jobs := .zero, noJobMaster := true
  params := fun p _ _ => checks [needAtLeast p 1, need (le p.body 0 1 ≤ 63) (p.off 0)]
  reserves := fun _ _ => [.carve]
  apply := fun p _ s =>
    let t := le p.body 0 1
    if s.store.mode = 1 ∧ s.store.slots ≠ [] then (s, .done 0x20 5 [])
    else if s.carveShort t ≠ 0 then (s, .done 0x12 (s.carveShort t) [])
    else ({ s with carve := t }, Fin.ok) }

/-- STORE_CARVE. -/
def execStoreCarve (p : Packet) (s : State) : Host.Outcome State Fault Refusal := s.finish (s.command opStoreCarve p)

/-- STORE_MODE (R470): only while no generation is held. -/
def opStoreMode : HostOp := {
  opcode := 0x0802, eff := .ei, jobs := .zero, noJobMaster := true
  params := fun p _ _ => checks [needLen p 8, need (le p.body 0 1 ≤ 1) (p.off 0)]
  reserves := fun _ _ => [.store]
  apply := fun p _ s =>
    let m := le p.body 0 1
    if m ≠ s.store.mode ∧ s.store.slots ≠ [] then (s, .done 0x20 5 [])
    else (s.modStore (fun t => { t with mode := m, spill := bit (le p.body 1 1) 0 }), Fin.ok) }

/-- STORE_MODE. -/
def execStoreMode (p : Packet) (s : State) : Host.Outcome State Fault Refusal := s.finish (s.command opStoreMode p)

/-- The placement rule of R471 for the bolts that a generation touches: under SPLIT every group of four has its eight Geneels. Modes,
carve values and ordering codes of the others reach no Geneel and are taken to be this one's. -/
def State.splitWhole (s : State) (job : Nat) (tables : List Nat) : Bool :=
  let ids := (((s.genShards job tables).flatMap Prod.snd).map (· - 0xF000)).eraseDups
  s.store.mode == 0 || ids.all (fun i => (List.range 8).all (fun k => s.machineIds.contains (i / 8 * 8 + k)))

/-- GENERATION_OPEN (R455, R456, R458, R459, R468, R471): the requester asks every holder to open at the effective tick; the command ends
when the generation commits or fails. -/
def opGenerationOpen : HostOp := {
  opcode := 0x0803, eff := .ea, jobs := .nonzero
  params := fun p _ s =>
    let d := p.body
    let ts := genTables d
    checks [needAtLeast p 16, need (1 ≤ le d 0 4 && le d 0 4 ≤ 2 ^ 30) (p.off 0),
      need (le d 4 4 == 0 || (1024 ≤ le d 4 4 && le d 4 4 ≤ 16777216)) (p.off 4), need (le d 8 1 ≤ 16) (p.off 8),
      need (p.bodyLen == 16 + 2 * le d 8 1) 12,
      checks (ts.zipIdx.map (fun t => need ((s.table t.1).any (fun x => x.job == p.job && x.state == 0)) (p.off (16 + 2 * t.2)))),
      (match s.slice p.job with
      | some x => if x.state = .active then .ok else .fail 0x03 s.up.dev.code
      | none => .fail 0x03 s.up.dev.code),
      need (s.splitWhole p.job ts) 0]
  reserves := fun p s => [.generation p.job (s.nextGen p.job % 2)]
  resources := fun p s =>
    checks [if s.store.slots.any (fun x => x.job == p.job && x.state == 2) ∨ s.store.tracks.any (fun k => k.job == p.job) then
        .fail 0x20 5 else .ok,
      if s.store.serving.any (fun v => v.job == p.job && v.gen % 2 == s.nextGen p.job % 2)
        ∨ s.store.restores.any (fun r => r.job == p.job && r.gen % 2 == s.nextGen p.job % 2) then .fail 0x20 5 else .ok,
      if s.store.streams.any (fun x => x.job == p.job) then .ok else s.needStreams 2]
  start := fun p id s =>
    let gen := s.nextGen p.job
    let have_ := s.store.streams.find? (fun x => x.job == p.job)
    let (s1, ck, rs) := match have_ with
      | some x => (s, x.ckpt, x.rest)
      | none =>
        let e (k : Nat) : Stream := { kind := k, vc := 7, job := p.job, owner := gen % 65536, peer := 0xFFFF }
        let (t, ids) := s.reserveStreams [e 5, e 6]
        (t, ids.getD 0 0, ids.getD 1 0)
    let all := s1.genShards p.job (genTables p.body)
    let everyone := (all.flatMap Prod.snd).eraseDups
    let up := everyone.filter (fun h => s1.geneelUp h)
    let due := ((s1.cmd id).map Cmd.due).getD s1.clock.now
    let s2 := s1.modStore (fun t => { t with tracks := t.tracks ++ [{
      job := p.job, gen := gen, cmd := some id, expected := all.length
      holders := up.map (fun h => (h, (all.filter (fun x => x.2.contains h)).length, 0)), opening := up }] })
    let s3 := up.foldl (fun t h => t.genCtl h 0 0 p.job gen due (p.body ++ toLe 2 ck ++ toLe 2 rs)) s2
    s3.modCmd id (fun c => { c with data := gen :: (if have_.isSome then [] else [ck, rs]) })
  apply := fun p id s =>
    let gen := ((s.cmd id).bind (fun c => c.data.head?)).getD 0
    let s1 := s.forgetGen p.job (fun g => g % 2 == gen % 2)
    -- a shard that no Geneel in service can hold (R469, cause 4)
    let homeless := (s.genShards p.job (genTables p.body)).any (fun x => x.2.all (fun h => !s.geneelUp h))
    (if homeless then s1.failGen p.job gen 4 else s1, .running) }

/-- GENERATION_OPEN. -/
def execGenerationOpen (p : Packet) (s : State) : Host.Outcome State Fault Refusal := s.finish (s.command opGenerationOpen p)

/-- The status record of a slot (R485). -/
def State.genRecord (s : State) (x : StoreSlot) : Bytes :=
  let restoring := s.store.serving.any (fun v => v.job == x.job && v.gen == x.gen)
  let arrived := (x.shards.filter (fun y => match y.fin with
    | some (n, _) => coveredTo y.lines n
    | none => y.accepted)).length
  toLe 4 x.gen ++ toLe 1 x.state ++ toLe 1 (flag x.single + 2 * flag x.spilled + 4 * flag restoring) ++ toLe 1 x.cause ++ zeros 1
    ++ toLe 4 x.shards.length ++ toLe 4 arrived ++ toLe 4 (s.checkedHere x) ++ toLe 4 x.pendingPages ++ toLe 6 x.openTick
    ++ toLe 6 x.commitTick

/-- GENERATION_STATUS (R485): one record for each generation named that a slot holds. -/
def opGenerationStatus : HostOp := {
  opcode := 0x0804, jobs := .nonzero, query := true
  params := fun p _ s => checks [needLen p 4, need (le p.body 0 4 == 0 || (s.genSlot p.job (le p.body 0 4)).isSome) (p.off 0)]
  apply := fun p _ s =>
    let g := le p.body 0 4
    let xs := s.store.slots.filter (fun x => x.job == p.job && (g == 0 || x.gen == g))
    (s, Fin.result ((sortBy (fun x => x.gen % 2) xs).flatMap s.genRecord)) }

/-- GENERATION_STATUS. -/
def execGenerationStatus (p : Packet) (s : State) : Host.Outcome State Fault Refusal := s.finish (s.command opGenerationStatus p)

/-- RESTORE_START (R477, R478): every Geneel that serves a named member is asked at the effective tick; the command ends when all
have been served. -/
def opRestoreStart : HostOp := {
  opcode := 0x0805, eff := .ea, atOnce := true, jobs := .nonzero
  params := fun p _ s =>
    let d := p.body
    let r := le d 6 2
    let gen := if le d 0 4 = 0 then s.newestGen p.job else le d 0 4
    let rs := rangesAt d 8 r
    checks [needAtLeast p 8, need (r ≤ 1017) (p.off 6), need (p.bodyLen == 8 + 4 * r) 12, need (le d 4 1 ≤ 1) (p.off 4),
      need (gen ≠ 0 && (s.committedGen p.job gen || (le d 4 1 == 1 && (s.genSlot p.job gen).isNone))) (p.off 0),
      checks (rs.zipIdx.map (fun x => need (decide (x.1.1 ≤ x.1.2) && (s.slice p.job).any (fun y => y.holds x.1))
        (p.off (8 + 4 * x.2))))]
  reserves := fun p s =>
    let gen := if le p.body 0 4 = 0 then s.newestGen p.job else le p.body 0 4
    [.generation p.job (gen % 2)]
  resources := fun p s =>
    if le p.body 4 1 ≠ 1 ∨ s.store.streams.any (fun x => x.job == p.job) then .ok else s.needStreams 2
  apply := fun p id s =>
    let gen := if le p.body 0 4 = 0 then s.newestGen p.job else le p.body 0 4
    let named := s.restoreMembers p.job p.body
    let servers := (named.map s.serverOf).eraseDups
    -- the PRIMARY grants the members that its twin serves (R478, R512)
    let told := (servers ++ named.map (fun a => s.primaryOf (a / 1024))).eraseDups
    let s0 := s.modStore (fun t => { t with restores := t.restores ++ [{ cmd := id, job := p.job, gen := gen, waiting := servers }] })
    let (s1, ids) :=
      if le p.body 4 1 ≠ 1 ∨ s.store.streams.any (fun x => x.job == p.job) then (s0, [])
      else
        let e (k : Nat) : Stream := { kind := k, vc := 7, job := p.job, owner := gen % 65536, peer := 0xFFFF }
        s0.reserveStreams [e 5, e 6]
    let s2 := told.foldl (fun t h => t.genCtl h 4 0 p.job gen t.clock.now (p.body ++ ids.flatMap (toLe 2))) s1
    if servers = [] then
      (s2.modStore (fun t => { t with restores := t.restores.filter (fun r => r.cmd != id) }), Fin.ok)
    else (s2.storeMarker, .running) }

/-- RESTORE_START. -/
def execRestoreStart (p : Packet) (s : State) : Host.Outcome State Fault Refusal := s.finish (s.command opRestoreStart p)

/-- GENERATION_DROP (R481): an OPEN generation fails with cause 6 (R469); every holder of the job drops the slot. -/
def opGenerationDrop : HostOp := {
  opcode := 0x0806, eff := .ei, jobs := .nonzero
  params := fun p _ s => checks [needLen p 4,
    need ((s.genSlot p.job (le p.body 0 4)).isSome || s.committedGen p.job (le p.body 0 4)) (p.off 0)]
  reserves := fun p _ => [.generation p.job (le p.body 0 4 % 2)]
  target := fun p s =>
    let n := (s.store.serving.filter (fun v => v.job == p.job && v.gen == le p.body 0 4)).length
      + (s.store.restores.filter (fun r => r.job == p.job && r.gen == le p.body 0 4)).length
      + (s.calico.loads.filter (fun l => l.job == p.job && l.gen == le p.body 0 4)).length
    if n ≠ 0 then .drain n else .ok
  apply := fun p _ s =>
    let gen := le p.body 0 4
    let noted := (s.store.known.filter (fun k => k.1 == p.job && k.2.1 == gen)).flatMap (fun k => k.2.2)
    let tabled := (((s.genSlot p.job gen).map StoreSlot.tables).getD []).flatMap (fun t => t.shards.flatMap s.tableHolders)
    let holders := ((s.genShards p.job []).flatMap Prod.snd ++ tabled ++ noted).eraseDups.filter (fun h => h != s.ownAddr)
    let s1 := holders.foldl (fun t h => t.genCtl h 3 6 p.job gen t.clock.now []) s
    (((((s1.failGen p.job gen 6).failGenHere p.job gen 6).dropGen p.job gen).forgetGen p.job (· == gen)), Fin.ok) }

/-- GENERATION_DROP. -/
def execGenerationDrop (p : Packet) (s : State) : Host.Outcome State Fault Refusal := s.finish (s.command opGenerationDrop p)

/-! ### Flits at a node: the Geneel as holder, or the agent as restoring member or storage target -/

/-- A shard at the agent. -/
def State.agentShard (s : State) (job gen owner : Nat) : MemberShard :=
  (s.agent.work.shards.find? (fun x => x.job == job && x.generation == gen && x.owner == owner)).getD
    { job := job, generation := gen, owner := owner }

/-- Keep it. -/
def State.putAgentShard (s : State) (x : MemberShard) : State :=
  s.modAgentWork (fun w => { w with shards := w.shards.filter (fun y =>
    !(y.job == x.job && y.generation == x.generation && y.owner == x.owner)) ++ [x] })

/-- The agent sends a restart flit, routed by its own bank. -/
def State.agentRs (s : State) (dst job stream kind flags owner gen off : Nat) (rest : Bytes) : State :=
  s.agentInject {
    kind := .data, vc := 7, dst := dst, src := s.agentAddr, stream := stream, job := job
    payload := rsPayload kind flags owner gen off rest }

/-- A shard at the agent, which has its END or REND, is judged once its lines are all there (R465, R478, R483): ACCEPTED, or MISMATCH with
one record that covers it, after which it is sent again. -/
def State.agentJudge (s : State) (x : MemberShard) : State :=
  match x.rend with
  | none => s.putAgentShard x
  | some (total, dig) =>
    if x.done ∨ !coveredTo x.lines total then s.putAgentShard x
    else if shardDigest x.job x.generation x.owner total x.lines = dig then
      (s.putAgentShard { x with done := true }).agentRs x.sender x.job x.stream 6 1 x.owner x.generation 0 []
    else
      (s.putAgentShard { x with rend := none }).agentRs x.sender x.job x.stream 6 18 x.owner x.generation 0 (recordBytesOf [(0, total)])

/-- An END or REND at the agent. -/
def MemberShard.ended (x : MemberShard) (f : Flit) (tick : Nat) : MemberShard :=
  { x with rend := some (le f.payload 16 4, field f.payload 24 32), done := false, sender := f.src, stream := f.stream, gapAt := tick }

/-- 8 ticks after the END or REND, and every 8 ticks, the agent lists the missing ranges of a shard (R465, R478, R483). -/
def State.agentGap (s : State) (job gen owner : Nat) : State :=
  let x := s.agentShard job gen owner
  let tick := s.agent.core.tick
  match x.rend with
  | some (total, _) =>
    if s.agentForwards ∧ !x.done ∧ !coveredTo x.lines total ∧ x.gapAt + 8 ≤ tick then
      let m := missingRanges x.lines total
      (s.putAgentShard { x with gapAt := tick }).agentRs x.sender job x.stream 6 (16 * m.length) owner gen 0 (recordBytesOf m)
    else s
  | none => s

/-- Lines of a flit with their offsets. -/
def rsLines (h : RsHeader) (b : Bytes) : List (Nat × Bytes) :=
  (chunks 64 (min 3 h.flags) (b.drop 16)).zipIdx.map (fun l => (h.off + l.2, l.1))

/-- Store lines, each at its offset. -/
def putLines (m l : List (Nat × Bytes)) : List (Nat × Bytes) := l.foldl (fun a x => kvSet a x.1 x.2) m

/-- CHECKPOINT_DATA_RECEIVE (R461 to R464, R483): at a holder the lines land, idempotently, while the generation is OPEN, the owner
is listed and the lines lie within its reservation; any other flit is discarded at S1 under the job. A storage target keeps
what it is sent. -/
def execCheckpointDataReceive (n : Node) (f : Flit) (s : State) : Host.Outcome State Fault Refusal :=
  let h := rsHeader f.payload
  if h.kind ≠ 1 then s.finish s
  else match n with
    | .agent =>
      if s.agent.core.kind = 3 ∧ s.agentForwards then
        let x := s.agentShard f.job h.gen h.owner
        s.finish (s.agentJudge { x with lines := putLines x.lines (rsLines h f.payload) })
      else s.finish s
    | .geneel =>
      match s.genSlot f.job h.gen, s.shard f.job h.gen h.owner with
      | some x, some y =>
        if x.state = 2 ∧ f.stream = (s.storeStreams f.job).ckpt ∧ h.off + min 3 h.flags ≤ y.reserved then
          s.finish ((s.touchRestart f.job y (rsLines h f.payload)).modShard f.job h.gen h.owner (fun z =>
          { z with lines := putLines z.lines (rsLines h f.payload) }))
        else s.finish (s.fault { source := 0xF909, code := 0x28, job := f.job })
      | _, _ => s.finish (s.fault { source := 0xF909, code := 0x28, job := f.job })

/-- A GAP of a holder to a shard's sender. -/
def State.sendGap (s : State) (dst job gen owner flags : Nat) (ranges : List (Nat × Nat)) : State :=
  s.rsSend dst job (s.storeStreams job).ckpt 6 (flags + 16 * ranges.length) owner gen 0 (recordBytesOf ranges)

/-- CHECKPOINT_END_RECEIVE (R462, R465): the total and the digest of a shard. -/
def execCheckpointEndReceive (n : Node) (f : Flit) (s : State) : Host.Outcome State Fault Refusal :=
  let h := rsHeader f.payload
  let (total, dig) := (le f.payload 16 4, field f.payload 24 32)
  if h.kind ≠ 2 then s.finish s
  else match n with
    | .agent =>
      if s.agent.core.kind = 3 ∧ s.agentForwards then
        s.finish (s.agentJudge ((s.agentShard f.job h.gen h.owner).ended f s.agent.core.tick))
      else s.finish s
    | .geneel =>
      match s.genSlot f.job h.gen, s.shard f.job h.gen h.owner with
      | some x, some y =>
        if y.accepted then
          -- the answer of a shard that stands is given again to a repeated END, any other END of it is void
          s.finish (if y.fin = some (total, dig) then s.sendGap f.src f.job h.gen h.owner 1 [] else s)
        else if x.state = 2 ∧ total ≤ y.reserved then
          s.finish (s.modShard f.job h.gen h.owner (fun z => { z with
            fin := some (total, dig), endAt := s.clock.now, gapAt := s.clock.now, sender := f.src }))
        else s.finish s
      | _, _ => s.finish s

/-- SHARD_DIGEST_COMPLETE (R465 to R469, R474): the shard's pages have been digested: ACCEPTED, or MISMATCH, the second of which
fails the generation. Under SPLIT the pages go to their parity holders. -/
def execShardDigestComplete (job gen owner : Nat) (s : State) : Host.Outcome State Fault Refusal :=
  match s.genSlot job gen, s.shard job gen owner with
  | some x, some y => match y.fin with
    | some (total, dig) =>
      if x.state ≠ 2 ∨ y.accepted ∨ !coveredTo y.lines total then s.finish s
      else if shardDigest job gen owner total y.lines = dig then
        let s1 := s.modShard job gen owner (fun z => { z with
          accepted := true, parity := if s.store.mode = 1 then (List.range z.pages).map (s.dataPage z) else [] })
        let s2 := s1.sendGap y.sender job gen owner 1 []
        let s3 := if s.store.mode = 1 then s2.sendParity job y else s2
        s.finish (s3.tellChecked job gen)
      else
        let s1 := (s.modShard job gen owner (fun z => { z with mismatches := z.mismatches + 1, fin := none })).sendGap y.sender job
          gen owner 2 [(0, total)]
        s.finish (if 1 ≤ y.mismatches then s1.failGen job gen 2 else s1)
    | none => s.finish s
  | _, _ => s.finish s

/-- GAP_RESEND_TIMER (R465, R478, R483): 8 ticks after the END, and every 8 ticks, the missing ranges are listed; at the agent too. -/
def execGapResendTimer (job gen owner : Nat) (s : State) : Host.Outcome State Fault Refusal :=
  match s.genSlot job gen, s.shard job gen owner with
  | some x, some y => match y.fin with
    | some (total, _) =>
      if x.state = 2 ∧ !y.accepted ∧ !coveredTo y.lines total ∧ y.gapAt + 8 ≤ s.clock.now then
        s.finish (((s.modShard job gen owner (fun z => { z with gapAt := s.clock.now })).sendGap y.sender job gen owner 0
          (missingRanges y.lines total)).agentGap job gen owner)
      else s.finish (s.agentGap job gen owner)
    | none => s.finish (s.agentGap job gen owner)
  | _, _ => s.finish (s.agentGap job gen owner)

/-- GAP_RECEIVE (R465, R478, R479, R482): the answer of a restoring member, of the twin to a table shard, or of the storage target. -/
def execGapReceive (f : Flit) (s : State) : Host.Outcome State Fault Refusal :=
  let h := rsHeader f.payload
  let n := h.flags / 16
  let ranges := rsRecords n f.payload
  match s.genSlot f.job h.gen, s.shard f.job h.gen h.owner with
  | some x, some y =>
    if h.kind ≠ 6 then s.finish s
    else match s.store.serving.find? (fun v => v.job == f.job && v.gen == h.gen && v.len == h.owner && v.len == f.src && v.sent) with
      | some v =>
        if bit h.flags 0 then s.finish (s.served v) else s.finish (s.sendLines f.src f.job h.gen y 3 ranges)
      | none =>
        if bit h.flags 0 then
          if s.storageTarget = some f.src then
            let s1 := s.modShard f.job h.gen h.owner (fun z => { z with spilled := true })
            s.finish (s1.modGen f.job h.gen (fun z => { z with
              spilled := z.spilled || (z.shards.filter s.spillsHere).all StoreShard.spilled }))
          else s.finish s
        else if 2 ≤ x.state then s.finish (s.sendLines f.src f.job h.gen y 1 ranges)
        else s.finish s
  | _, _ => s.finish s

/-- The lines that a PULL names; a count of 0 asks for the whole shard (R462). -/
def pullRanges (asked : List (Nat × Nat)) (total : Nat) : List (Nat × Nat) :=
  if asked = [] ∨ asked.any (fun r => r.2 == 0) then [(0, total)] else asked

/-- PULL_RECEIVE (R453, R476, R479, R483, R484): a COMMITTED shard's lines and REND to the member that owns it, to the twin that lost
its copy, or, of a table shard, to a Geneel that loads it; a storage target answers its Geneel. A shard of a lost Geneel that this one rebuilds from parity needs the pages of the
three survivors, which no message brings: its lines are free values. -/
def execPullReceive (n : Node) (f : Flit) (s : State) : Host.Outcome State Fault Refusal :=
  let h := rsHeader f.payload
  let asked := rsRecords h.flags f.payload
  if h.kind ≠ 5 then s.finish s
  else match n with
    | .agent =>
      if s.agent.core.kind ≠ 3 ∨ !s.agentForwards then s.finish s
      else
        let x := s.agentShard f.job h.gen h.owner
        let total := (x.rend.map Prod.fst).getD 0
        let y : StoreShard := { owner := h.owner, quadrant := 0, page := 0, reserved := total, lines := x.lines }
        let ranges := pullRanges asked total
        let s1 := ranges.foldl (fun t r => (lineGroups y r.1 r.2).foldl (fun u g =>
          u.agentRs f.src f.job f.stream 3 g.2.length h.owner h.gen g.1 g.2.flatten) t) s
        s.finish (match x.rend with
          | some (t, d) => s1.agentRs f.src f.job f.stream 4 0 h.owner h.gen 0 (toLe 4 t ++ zeros 4 ++ d)
          | none => s1)
    | .geneel =>
      match s.genSlot f.job h.gen, s.shard f.job h.gen h.owner with
      | some x, some y =>
        let peer := f.src == s.twinAddr || (0x80000000 ≤ h.owner && 0xF000 ≤ f.src && f.src < 0xF040)
        if x.state ≠ 3 ∨ !(f.src == h.owner || peer) then s.finish s
        else
          let total := (y.fin.map Prod.fst).getD 0
          let ranges := pullRanges asked total
          let s1 := if f.src = h.owner then s.grantStreams f.job h.gen [f.src] else s
          let s2 := s1.sendLines f.src f.job h.gen y 3 ranges
          s.finish (if f.src = h.owner then
              s2.modStore (fun t => { t with serving := t.serving ++ [{
                job := f.job, gen := h.gen, len := f.src, kind := 2, sent := true, requester := s.ownAddr }] })
            else s2)
      | _, _ =>
        if s.store.mode = 1 ∧ f.src = h.owner then
          s.finish (asked.foldl (fun t r => (List.range r.2).foldl (fun u k =>
            let (v, i) := u.draw
            v.rsSend f.src f.job f.stream 3 1 h.owner h.gen (r.1 + k) (field (Config.freeBytes i 64) 0 64)) t) s)
        else s.finish s

/-- XOR of two lines. -/
def xorLine (a b : Bytes) : Bytes := List.zipWith (· ^^^ ·) (field a 0 64) (field b 0 64)

/-- PAR_RECEIVE (R474): lines are XORed into this Geneel's parity page; a page applied in full is answered by PACK. -/
def execParReceive (f : Flit) (s : State) : Host.Outcome State Fault Refusal :=
  let h := rsHeader f.payload
  let page := h.off / 64
  if h.kind ≠ 7 ∨ s.store.mode ≠ 1 ∨ page % 4 ≠ s.up.bolt % 4 then s.finish s
  else
    let j := page / 4
    let ls := rsLines h f.payload
    let par := ls.foldl (fun m l =>
      let k := 64 * j + l.1 % 64
      let v := xorLine ((kvGet m k).getD (zeros 64)) l.2
      if allZero v then kvErase m k else kvSet m k v) s.store.parity
    let got := (s.store.parGot ++ ls.map (fun (l : Nat × Bytes) => (f.src, page, l.1 % 64))).eraseDups
    let full := (got.filter (fun g => g.1 == f.src && g.2.1 == page)).length == 64
    let s1 := s.modStore (fun t => { t with
      parity := par, parGot := if full then got.filter (fun g => !(g.1 == f.src && g.2.1 == page)) else got })
    s.finish (if full then s1.rsSend f.src 0 0x0010 8 0 0 0 (64 * page) [] else s1)

/-- PACK_RECEIVE (R474, R475): a page is in parity, or out of it while its generation is CLEARING. -/
def execPackReceive (f : Flit) (s : State) : Host.Outcome State Fault Refusal :=
  let h := rsHeader f.payload
  let page := h.off / 64
  if h.kind ≠ 8 then s.finish s
  else
    let hit := s.store.slots.filter (fun x => x.shards.any (fun y => y.parity.contains page))
    s.finish (hit.foldl (fun t x =>
      (t.modGen x.job x.gen (fun z => { z with
        shards := z.shards.map (fun y => { y with parity := y.parity.filter (· != page) }) })).tellChecked x.job x.gen) s)

/-- RDATA_RECEIVE (R462, R478, R483): lines and REND of a shard at the restoring member, whose agent answers ACCEPTED, MISMATCH or the
missing ranges; at a Geneel what its storage target, its twin, or a Geneel whose table shard it loads (R453), sends back. -/
def execRdataReceive (n : Node) (f : Flit) (s : State) : Host.Outcome State Fault Refusal :=
  let h := rsHeader f.payload
  match n with
  | .agent =>
    let x := s.agentShard f.job h.gen h.owner
    if !s.agentForwards then s.finish s
    else if h.kind = 3 then s.finish (s.agentJudge { x with lines := putLines x.lines (rsLines h f.payload) })
    else if h.kind = 4 then s.finish (s.agentJudge (x.ended f s.agent.core.tick))
    else s.finish s
  | .geneel =>
    match s.genSlot f.job h.gen, s.shard f.job h.gen h.owner with
    | some x, some y =>
      if x.state ≠ 3 then s.finish s
      else if h.kind = 3 ∧ h.off + min 3 h.flags ≤ y.reserved then
        s.finish ((s.touchRestart f.job y (rsLines h f.payload)).modShard f.job h.gen h.owner (fun z =>
          { z with lines := putLines z.lines (rsLines h f.payload) }))
      else if h.kind = 4 then
        let (total, dig) := (le f.payload 16 4, field f.payload 24 32)
        let good := coveredTo y.lines total && shardDigest f.job h.gen h.owner total y.lines == dig
        let s1 := s.modShard f.job h.gen h.owner (fun z => { z with fin := some (total, dig), accepted := z.accepted || good })
        let s2 := if good then s1.rsSend f.src f.job f.stream 6 1 h.owner h.gen 0 []
          else
            let m := missingRanges y.lines total
            s1.rsSend f.src f.job f.stream 5 (max 1 m.length) h.owner h.gen 0 (recordBytesOf (if m = [] then [(0, 0)] else m))
        let s3 := match s2.shard f.job h.gen h.owner with
          | some z => if good then s2.loadArrived f.job h.gen z else s2
          | none => s2
        s.finish (if good then
            (s3.store.serving.filter (fun v => v.job == f.job && v.gen == h.gen && v.len == h.owner && v.kind == 3)).foldl (fun t v =>
              let w := { v with sent := false, kind := 1 }
              (t.modStore (fun z => { z with serving := z.serving.map (fun u => if u = v then w else u) })).serve w) s3
          else s3)
      else s.finish s
    | _, _ =>
      if !s.loadAwaits f.job h.gen h.owner then s.finish s
      else if h.kind = 3 then s.finish (s.loadLines f.job h.gen h.owner (rsLines h f.payload))
      else if h.kind = 4 then s.finish (s.loadEnd f.src f.job h.gen h.owner (le f.payload 16 4) (field f.payload 24 32))
      else s.finish s

/-! ### Events -/

/-- Every holder that R472 or R474 requires has reported every shard checked (R468). -/
def GenTrack.complete (k : GenTrack) : Bool := k.opening == [] && !k.refused && k.holders.all (fun h => decide (h.2.1 ≤ h.2.2))

/-- GENERATION_COMMIT (R452, R457, R468, R472): at this marker the requester holds every report: every holder commits, and the
waiting commands end. -/
def execGenerationCommit (job gen : Nat) (s : State) : Host.Outcome State Fault Refusal :=
  match s.track job gen with
  | none => s.finish s
  | some k =>
    -- a generation whose failure waits for this marker never commits (R469)
    if !k.complete || s.failing job gen then s.finish s
    else
      let s1 := (k.holders.filter (fun h => h.1 != s.ownAddr)).foldl (fun t h => t.genCtl h.1 1 0 job gen t.clock.now []) s
      let s2 := s1.modStore (fun t => { t with known := t.known.filter (fun e => !(e.1 == job && e.2.1 == gen))
        ++ [(job, gen, k.holders.map Prod.fst)] })
      s.finish ((s2.commitGenHere job gen s.tickNow).endTrack job gen true)

/-- GENERATION_DEADLINE (R457, R469): not committed D_g ticks after its effective tick. -/
def execGenerationDeadline (job gen : Nat) (s : State) : Host.Outcome State Fault Refusal :=
  match s.genSlot job gen with
  | some x => if x.state = 2 ∧ x.openAt + x.deadline ≤ s.clock.now then s.finish (s.failGen job gen 1) else s.finish s
  | none => s.finish s

/-- CLEARING_COMPLETE (R457, R475): every page is out of parity. -/
def execClearingComplete (job gen : Nat) (s : State) : Host.Outcome State Fault Refusal :=
  match s.genSlot job gen with
  | some x =>
    if x.state = 1 ∧ x.pendingPages = 0 then
      s.finish (((s.modStore (fun t => { t with slots := t.slots.filter (fun z => !(z.job == job && z.gen == gen)) })).closeStore job).mirrorDelta
        8 (job * 2 + gen % 2) (toLe 4 gen ++ toLe 1 0))
    else s.finish s
  | none => s.finish s

/-- SPILL_AFTER_COMMIT (R482, R577): the storage target receives the job's memory key; after the commit the shards that this Geneel serves under R478, and its table shards, go to its
storage target. -/
def execSpillAfterCommit (job gen : Nat) (s : State) : Host.Outcome State Fault Refusal :=
  match s.genSlot job gen, s.storageTarget with
  | some x, some a =>
    if s.store.spill ∧ x.state = 3 ∧ !x.spilled then
      let mine := x.shards.filter (fun y => s.spillsHere y && !y.spilled)
      let s1 := if (s.holdersOf job 1).contains a then s
        else (s.sec.keys.filter (fun k => k.job == job && k.kind == 1)).foldl (fun t k =>
          (t.keyInstall a k none .keyInstall).addHolder job 1 a) s
      s.finish (mine.foldl (fun t y => t.sendLines a job gen y 1 [(0, (y.fin.map Prod.fst).getD 0)]) s1)
    else s.finish s
  | _, _ => s.finish s

/-- GEN_CTL_RECEIVE (R457, R458, R460, R468, R663): the change waits for its tick, or takes effect now when that is past. -/
def execGenCtlReceive (m : Msg) (s : State) : Host.Outcome State Fault Refusal :=
  let b := m.body
  s.finish (s.fromGeneel m.src 8 m.type (fun s =>
    if 4 < le b 0 1 then s
    else
      let d : GenDue := {
        op := le b 0 1, cause := le b 1 1, job := le b 2 2, gen := le b 4 4, src := m.src, params := b.drop 16
        at_ := s.instantOf (le b 8 6) }
      (s.modStore (fun t => { t with due := t.due ++ [d] })).storeMarker))

/-- GEN_REPORT_RECEIVE (R458, R468, R472, R477). -/
def execGenReportReceive (m : Msg) (s : State) : Host.Outcome State Fault Refusal :=
  let b := m.body
  let (op, status, job, gen, checked, pages) := (le b 0 1, le b 1 1, le b 2 2, le b 4 4, le b 8 4, le b 12 4)
  s.finish (s.fromGeneel m.src 8 m.type (fun s =>
    if op = 4 then s.gotRestored m.src job gen
    else if status = 3 then (s.storeGeneelLost m.src).loadGeneelLost m.src
    else s.gotReport m.src op status job gen checked pages))

end Sys2Proof.Machine
end

