-- ==== Sys2Proof/Machine/Calico.lean ====
section
/-! DEFINITION. The meanings of the table commands (opcode class 0x07) and of Calico's events (spec 12_calico_tables). -/

namespace Sys2Proof.Machine

open Sys2Proof

/-! ### Between Geneels (R425) -/

/-- The awaited number that stands for the answers of shard Geneels, which are not replies of agents: above every MSGID. -/
def shardAwait : Nat := 2 ^ 32

/-- TABLE_SHARD to a Geneel (R425). -/
def State.sendShard (s : State) (dst op table job tick : Nat) (params : Bytes) : State :=
  s.send (s.msgTo dst 0x58 (toLe 1 op ++ zeros 1 ++ toLe 2 table ++ toLe 2 job ++ zeros 2 ++ toLe 6 tick ++ zeros 2 ++ params))

/-- TABLE_SHARD_DONE (R425). -/
def State.sendDone (s : State) (dst op status table detail : Nat) : State :=
  s.send (s.msgTo dst 0x59 (toLe 1 op ++ toLe 1 status ++ toLe 2 table ++ toLe 4 detail ++ toLe 6 s.tickNow ++ zeros 2))

/-- The shard set of a creation: the listed Geneels in service, and this one (R414). -/
def State.shardSet (s : State) : List Nat := (sortBy (fun i => i) s.machineIds).filter s.healthyId

/-- Items that stand in the way of a destruction: requests held, stalled or with responses still to leave, updates unapplied, snapshots and
loads (R428). -/
def State.tableBusy (s : State) (t : CalTable) : Nat :=
  t.entries.length + (s.calico.leaving.filter (fun e => e.2.1 == t.id)).length
    + (s.store.snaps.filter (fun x => (s.cmd x.1).any (fun c => le c.pkt.body 0 2 == t.id))).length + (s.calico.loads.filter (fun l => l.table == t.id)).length
    + ((s.calico.loadDue ++ s.calico.snapDue).filter (fun d => d.2.1 == t.id)).length + (s.calico.held.filter (fun h => (calHeader h.flit.payload).table == t.id)).length
    + (s.calico.stalledTables.filter (· == t.id)).length

/-- Create a shard here (R422, R423, R425): the parameters of TABLE_CREATE, then seed, streams and the shard set's mask. Answers a
shortfall in pages per slot where it cannot. -/
def State.createShard (s : State) (id job effAt : Nat) (b : Bytes) : State × Option Nat :=
  let shards := (List.range 64).filter (fun i => bit (le b 60 8) i)
  let (format, opt, d) := (le b 0 1, le b 1 1, le b 4 2)
  match bucketCount (le b 8 8) (max 1 shards.length) with
  | none => (s, some 1)
  | some buckets =>
    let pages := tablePages buckets (recordBytes format opt d)
    let runs := (List.range 32).map (fun e => s.freeRun e pages)
    let short := ((List.range 32).map (fun e => if (s.freeRun e pages).isSome then 0 else max 1 (pages - s.slotFree e))).foldl max 0
    let (req, rsp) := (le b 56 2, le b 58 2)
    let taken := s.streams.any (fun e => (e.1 == req || e.1 == rsp) && e.2.owner != id) || (s.unitStatus 14 (req / 4096)).lost
    let windows := s.calico.tables.foldl (fun a t => a + (s.jobMembers t.job).length) (s.jobMembers job).length
    if short ≠ 0 then (s, some short)
    else if taken ∨ 2 ^ 25 < windows ∨ 4096 ≤ s.calico.tables.length then (s, some 1)
    else
      let t : CalTable := {
        id := id, job := job, format := format, opt := opt, flags := le b 2 1 % 16, admitAt := le b 3 1, d := d, rowsAsked := le b 8 8
        eta := le b 16 4, beta1 := le b 20 4, beta2 := le b 24 4, eps := le b 28 4, lambda := le b 32 4, sigma := le b 36 4
        shards := shards, seed := le b 48 8, buckets := buckets, reqStream := req, rspStream := rsp, pages := pages
        starts := runs.map (fun r => r.getD 0), effAt := effAt }
      let e (kind vc : Nat) : Stream := { kind := kind, vc := vc, job := job, owner := id, peer := 0xFFFF }
      ({ s with
        streams := kvSet (kvSet s.streams req (e 3 5)) rsp (e 4 6)
        calico := { s.calico with tables := insertBy CalTable.id s.calico.tables t } }, none)

/-- A table's destruction is prepared, or refused while it is busy (R428). -/
def State.destroyShard (s : State) (t : CalTable) (at_ : Nat) : State × Option Nat :=
  if s.tableBusy t ≠ 0 ∧ t.state ≠ 3 then (s, some (s.tableBusy t))
  else (s.modTable t.id (fun t => { t with state := if t.state = 3 then 3 else 1, endAt := some at_ }), none)

/-- A creation that failed, or a destruction that another shard refused, is withdrawn everywhere: a table not yet created goes, one
that was draining stays. The spec names no message: TABLE_SHARD op 2 with a tick of all ones. -/
def State.withdrawShard (s : State) (id : Nat) : State :=
  match s.table id with
  | none => { s with calico := { s.calico with assigned := s.calico.assigned.filter (· != id) } }
  | some t =>
    if t.state = 3 then s.endTable t
    else s.modTable id (fun t => { t with state := if t.state = 1 then 0 else t.state, endAt := none })

/-- Withdraw at every Geneel of a shard set. -/
def State.withdrawAll (s : State) (id job : Nat) (shards : List Nat) : State :=
  (shards.filter (fun g => g != s.ownId)).foldl (fun t g => t.sendShard (0xF000 + g) 2 id job 0xFFFFFFFFFFFF []) (s.withdrawShard id)

/-- A table command has every answer (R425, R428): it goes on to its tick, or ends. -/
def State.shardOpDone (s : State) (o : ShardOp) : State :=
  let s1 := { s with calico := { s.calico with ops := s.calico.ops.filter (fun x => x.cmd != o.cmd) } }
  let job := ((s1.cmd o.cmd).map (fun c => c.pkt.job)).getD 0
  let shards := ((s1.table o.table).map CalTable.shards).getD s1.shardSet
  if o.status = 0 then s1.modCmd o.cmd (fun c => { c with awaits := c.awaits.filter (· != shardAwait) })
  else if o.op = 0 then (s1.withdrawAll o.table job shards).endCmd o.cmd 0x12 o.detail
  else if o.op = 2 then (s1.withdrawAll o.table job shards).endCmd o.cmd 0x02 o.detail
  else s1.endCmd o.cmd 0x11 0

/-- An answer, or this Geneel's own. -/
def State.shardAnswer (s : State) (cmd src status detail : Nat) : State :=
  match s.calico.ops.find? (fun o => o.cmd == cmd) with
  | none => s
  | some o =>
    let o1 : ShardOp := { o with
      waiting := o.waiting.filter (· != src), status := max o.status status, detail := max o.detail detail }
    let s1 := { s with calico := { s.calico with ops := s.calico.ops.map (fun x : ShardOp => if x.cmd = cmd then o1 else x) } }
    if o1.waiting = [] then s1.shardOpDone o1 else s1

/-- Send a table command to its shard set and keep count of the answers. -/
def State.askShards (s : State) (cmd op table job at_ : Nat) (shards : List Nat) (params : Bytes) : State :=
  let others := shards.filter (fun g => g != s.ownId)
  let o : ShardOp := {
    cmd := cmd, op := op, table := table, since := s.clock.now
    waiting := (others.map (· + 0xF000)) ++ (if shards.contains s.ownId then [s.ownAddr] else []) }
  let s1 := { s with calico := { s.calico with ops := s.calico.ops.filter (fun x : ShardOp => x.cmd != cmd) ++ [o] } }
  let s2 := s1.modCmd cmd (fun c => { c with
    awaits := if c.awaits.contains shardAwait then c.awaits else c.awaits ++ [shardAwait], begun := true })
  others.foldl (fun t g => t.sendShard (0xF000 + g) op table job (t.tickAt at_) params) s2

/-- The lowest free table ID, given by the tick master in the order in which creations reach it (R413). -/
def State.assignTable (s : State) : State × Option Nat :=
  let used := s.calico.assigned ++ s.calico.tables.map CalTable.id
  match (List.range (min 4096 (used.length + 1))).find? (fun i => !used.contains i) with
  | some i => ({ s with calico := { s.calico with assigned := s.calico.assigned ++ [i] } }, some i)
  | none => (s, none)

/-- This Geneel numbers tables: it is the tick master, or there is none yet. -/
def State.numbersTables (s : State) : Bool := s.clock.master == s.ownId || s.clock.master == 0xFF

/-- A creation has its ID: the seed is drawn, the streams taken, and the shard set asked (R414, R415, R425). -/
def State.spreadCreate (s : State) (cmd table : Nat) : State :=
  match s.cmd cmd with
  | none => s
  | some c =>
    let (s1, seed) := s.randomBytes 8
    let ids := s1.freeStreams 2
    let shards := s1.shardSet
    if ids.length < 2 then s1.endCmd cmd 0x12 (2 - ids.length)
    else
      let mask := shards.foldl (fun a i => a + 2 ^ i) 0
      let params := field c.pkt.body 0 48 ++ seed ++ toLe 2 (ids.getD 0 0) ++ toLe 2 (ids.getD 1 0) ++ toLe 8 mask
      let s2 := (s1.modCmd cmd (fun d => { d with data := [table] })).askShards cmd 0 table c.pkt.job c.due shards params
      let (s3, short) := s2.createShard table c.pkt.job c.due params
      s3.shardAnswer cmd s3.ownAddr (flag short.isSome) (short.getD 0)

/-! ### Commands -/

/-- FP32 in [0, 1); a negative zero is 0. -/
def fpUnit (b : Nat) : Bool := decide (b < 0x3F800000) || b == 0x80000000

/-- FP32, finite and not negative; a negative zero is 0. -/
def fpPos (b : Nat) : Bool := decide (b < 0x7F800000) || b == 0x80000000

/-- Checks of hyperparameters, their offsets as in TABLE_CREATE from `base` (R424): those that the optimizer uses. -/
def hyperChecks (p : Packet) (opt fl base : Nat) : Check :=
  let v (i : Nat) : Nat := le p.body (base + 4 * i) 4
  let o (i : Nat) : Nat := p.off (base + 4 * i)
  checks [need (opt == 0 || fpPos (v 0)) (o 0), need ((opt != 2 && opt != 4) || fpUnit (v 1)) (o 1),
    need (opt != 4 || fpUnit (v 2)) (o 2), need (opt < 3 || (fpPos (v 3) && v 3 % 2 ^ 31 != 0)) (o 3),
    need (!bit fl 1 || fpPos (v 4)) (o 4)]

/-- TABLE_CREATE (R413 to R426): numbered by the tick master, then created at every shard Geneel before its tick. Of INT8 an initial range of 2^24
or more is refused (R424; DEDUCED, log entry 253). -/
def opTableCreate : HostOp := {
  opcode := 0x0701, eff := .ea, jobs := .nonzero
  params := fun p _ s =>
    let b := p.body
    let (format, opt, fl, d) := (le b 0 1, le b 1 1, le b 2 1, le b 4 2)
    let g := max 1 s.shardSet.length
    checks [needLen p 48, need (format ≤ 3) (p.off 0), need (opt ≤ 4) (p.off 1), need (!(bit fl 1 && opt == 0)) (p.off 2),
      need (le b 3 1 ≤ 15) (p.off 3),
      need (8 ≤ d && d % 8 == 0 && 32 ≤ rowBytes format d && rowBytes format d ≤ 4096) (p.off 4),
      need (1 ≤ le b 8 8 && le b 8 8 ≤ 2 ^ 40 && (bucketCount (le b 8 8) g).isSome) (p.off 8), hyperChecks p opt fl 16,
      need (fpPos (le b 36 4) && !(format == 3 && 0x4B800000 ≤ le b 36 4 % 2 ^ 31)) (p.off 36),
      need ((s.slice p.job).isSome) 22]
  resources := fun _ s => s.needStreams 2
  start := fun p id s =>
    if s.numbersTables then
      match s.assignTable with
      | (s1, some t) => s1.spreadCreate id t
      | (s1, none) => s1.endCmd id 0x12 1
    else
      let o : ShardOp := {
        cmd := id, op := 0, table := 0xFFFF, waiting := [0xF000 + s.clock.master], since := s.clock.now, needId := true }
      let s1 := { s with calico := { s.calico with ops := s.calico.ops ++ [o] } }
      let due := ((s1.cmd id).map Cmd.due).getD s1.clock.now
      (s1.modCmd id (fun c => { c with awaits := [shardAwait], begun := true })).sendShard (0xF000 + s.clock.master) 0 0xFFFF p.job
        (s1.tickAt due) (field p.body 0 48)
  apply := fun _ id s =>
    match ((s.cmd id).bind (fun c => c.data.head?)).bind s.table with
    | none => (s, .done 0x12 1 [])
    | some t => (s, Fin.result (toLe 2 t.id ++ toLe 1 t.shards.length ++ zeros 1 ++ toLe 8 t.seed ++ toLe 2 t.reqStream
        ++ toLe 2 t.rspStream ++ toLe 2 t.record ++ toLe 1 (lookupLines t.format t.d) ++ zeros 1 ++ toLe 4 t.buckets
        ++ toLe 8 (256 * t.buckets) ++ toLe 4 t.pages ++ zeros 4
        ++ (t.shards.flatMap (toLe 1)) ++ List.replicate (64 - t.shards.length) 0xFF)) }

/-- TABLE_CREATE. -/
def execTableCreate (p : Packet) (s : State) : Host.Outcome State Fault Refusal := s.finish (s.command opTableCreate p)

/-- The table of the header's job that bytes 0 to 1 name. -/
def namedTable (p : Packet) (s : State) : Option CalTable := (s.table (le p.body 0 2)).filter (fun t => t.job == p.job && t.state != 3)

/-- The same, in service: a FAILED table takes only TABLE_DESTROY and TABLE_STATUS (R454). -/
def needTable (p : Packet) (s : State) : Check := need ((namedTable p s).any (fun t => t.state == 0)) (p.off 0)

/-- TABLE_DESTROY (R428, R454): every shard drains from acceptance and ends at the tick. -/
def opTableDestroy : HostOp := {
  opcode := 0x0702, eff := .ea, jobs := .nonzero
  params := fun p _ s => checks [needLen p 2, need (namedTable p s).isSome (p.off 0)]
  reserves := fun p _ => [.table (le p.body 0 2)]
  target := fun p s => match namedTable p s with
    | some t => if s.tableBusy t ≠ 0 then .drain (s.tableBusy t) else .ok
    | none => .ok
  start := fun p id s => match namedTable p s with
    | none => s
    | some t =>
      let due := ((s.cmd id).map Cmd.due).getD s.clock.now
      let s1 := s.askShards id 2 t.id t.job due t.shards []
      let (s2, busy) := s1.destroyShard t due
      s2.shardAnswer id s2.ownAddr (if busy.isSome then 2 else 0) (busy.getD 0)
  apply := fun p _ s => ((match s.table (le p.body 0 2) with
      | some t => s.endTable t
      | none => s), Fin.ok) }

/-- TABLE_DESTROY. -/
def execTableDestroy (p : Packet) (s : State) : Host.Outcome State Fault Refusal := s.finish (s.command opTableDestroy p)

/-- TABLE_CONFIG (R427): applied by every shard at step 6 of its tick. -/
def opTableConfig : HostOp := {
  opcode := 0x0705, eff := .ea, jobs := .nonzero
  params := fun p _ s =>
    let b := p.body
    let t := namedTable p s
    let opt := (t.map CalTable.opt).getD 0
    let fl := (t.map CalTable.flags).getD 0
    let m := le b 2 1
    let v (i : Nat) (ok : Nat → Bool) : Check := need (!bit m i || ok (le b (8 + 4 * i) 4)) (p.off (8 + 4 * i))
    checks [needLen p 28, needTable p s, need (!bit m 6 || le b 4 1 ≤ 15) (p.off 4),
      v 0 (fun x => opt == 0 || fpPos x), v 1 (fun x => (opt != 2 && opt != 4) || fpUnit x), v 2 (fun x => opt != 4 || fpUnit x),
      v 3 (fun x => opt < 3 || (fpPos x && x % 2 ^ 31 != 0)), v 4 (fun x => !bit fl 1 || fpPos x)]
  reserves := fun p _ => [.table (le p.body 0 2)]
  start := fun p id s => match namedTable p s with
    | none => s
    | some t =>
      let due := ((s.cmd id).map Cmd.due).getD s.clock.now
      let s1 := (s.askShards id 1 t.id t.job due t.shards p.body).modTable t.id (fun t => { t with configs := t.configs ++ [(due, p.body)] })
      s1.shardAnswer id s1.ownAddr 0 0 }

/-- TABLE_CONFIG. -/
def execTableConfig (p : Packet) (s : State) : Host.Outcome State Fault Refusal := s.finish (s.command opTableConfig p)

/-- TABLE_LOAD (R429, R453): records of a host buffer, or of a COMMITTED generation. -/
def opTableLoad : HostOp := {
  opcode := 0x0703, eff := .ei, jobs := .nonzero
  params := fun p _ s =>
    let b := p.body
    checks [needLen p 16, needTable p s, need (le b 2 1 ≤ 1) (p.off 2),
      need (le b 2 1 == 0 || (s.genSlot p.job (le b 8 4)).any (fun x => x.state == 3)) (p.off 8),
      need (le b 2 1 == 0 || (namedTable p s).all (fun t => s.snapFits t (le b 8 4))) (p.off 0)]
  reserves := fun p _ => [.table (le p.body 0 2)]
  start := fun p id s => match namedTable p s with
    | some t =>
      if le p.body 2 1 = 1 then
        let due := ((s.cmd id).map Cmd.due).getD s.clock.now
        let s1 := s.askShards id 4 t.id t.job due t.shards p.body
        s1.shardAnswer id s1.ownAddr 0 0
      else s
    | none => s
  apply := fun p id s => match namedTable p s with
    | none => (s, .done 0x11 (p.off 0) [])
    | some t =>
      let b := p.body
      let (keep, state) := (bit (le b 3 1) 1, bit (le b 3 1) 0)
      if le b 2 1 = 1 then
        let (s1, n) := s.startLoad t (le b 8 4) keep state (some id)
        (s1, match n with
          | some n => Fin.result n.bytes
          | none => .running)
      else
        let size := 8 + t.rb + (if state then t.sb else 0)
        let (s1, n) := (chunks size (le b 4 4) p.dma).foldl (fun (a : State × LoadCount) r =>
          a.1.loadRow t.id keep false (le r 0 8) (field r 8 t.rb) (if state then field r (8 + t.rb) t.sb else zeros t.sb) a.2) (s, {})
        (s1, Fin.result n.bytes) }

/-- TABLE_LOAD. -/
def execTableLoad (p : Packet) (s : State) : Host.Outcome State Fault Refusal := s.finish (s.command opTableLoad p)

/-- One row of TABLE_READ (R420, R430): status, then the record: header, row bytes and, with STATE, optimizer state. -/
def State.readRow (s : State) (t : CalTable) (state : Bool) (x n : Nat) : Bytes :=
  let tail (b : Bytes) : Bytes := if state then b else []
  if t.shards.getD (t.place x).shard 0xFF ≠ s.ownId then toLe 1 3 ++ zeros 7 ++ zeros (16 + t.rb) ++ tail (zeros t.sb)
  else if t.rowLost x then toLe 1 2 ++ zeros 7 ++ toLe 8 x ++ zeros 6 ++ toLe 2 1 ++ zeros t.rb ++ tail (zeros t.sb)
  else match t.row x with
    | some r =>
      toLe 1 (if r.poison then 2 else 0) ++ zeros 7 ++ toLe 8 r.id ++ toLe 4 r.last ++ toLe 2 r.touch ++ toLe 2 (flag r.poison)
        ++ (if r.poison then zeros t.rb else r.data) ++ tail (if r.poison then zeros t.sb else r.state)
    | none => toLe 1 1 ++ zeros 7 ++ zeros 16 ++ t.initialBytes x n ++ tail (zeros t.sb)

/-- TABLE_READ (R430). -/
def opTableRead : HostOp := {
  opcode := 0x0704, eff := .ei, jobs := .nonzero, query := true
  params := fun p _ s =>
    let k := le p.body 4 2
    checks [needAtLeast p 8, needTable p s, need (1 ≤ k && k ≤ 504) (p.off 4),
      need (p.bodyLen == 8 + 8 * k) 12]
  apply := fun p _ s => match namedTable p s with
    | none => (s, .done 0x11 (p.off 0) [])
    | some t =>
      let k := le p.body 4 2
      let ids := (List.range k).map (fun i => le p.body (8 + 8 * i) 8)
      let n := s.drawn
      ({ s with drawn := n + k }, Fin.result (ids.zipIdx.flatMap (fun x => s.readRow t (bit (le p.body 2 1) 0) x.1 (n + x.2)))) }

/-- TABLE_READ. -/
def execTableRead (p : Packet) (s : State) : Host.Outcome State Fault Refusal := s.finish (s.command opTableRead p)

/-- The result of TABLE_STATUS (R431). -/
def CalTable.statusBytes (t : CalTable) : Bytes :=
  let live (i : Nat) : Nat := match i with
    | 0 => t.rows.length
    | 1 => 256 * t.buckets
    | 11 => (t.rows.filter CalRow.poison).length
    | _ => t.counters.getD i 0
  toLe 2 t.id ++ toLe 1 t.state ++ toLe 1 t.flags ++ zeros 4 ++ (List.range 16).flatMap (fun i => toLe 8 (live i))

/-- TABLE_STATUS (R431): for the table's job masters and the operator's host function. -/
def opTableStatus : HostOp := {
  opcode := 0x0706, jobs := .nonzero, query := true
  params := fun p slot s => checks [needLen p 2, need (namedTable p s).isSome (p.off 0),
    needRight (s.isOperator slot || s.masterJob slot == some p.job) 2 slot]
  apply := fun p _ s => match namedTable p s with
    | some t => (s, Fin.result t.statusBytes)
    | none => (s, Fin.ok) }

/-- TABLE_STATUS. -/
def execTableStatus (p : Packet) (s : State) : Host.Outcome State Fault Refusal := s.finish (s.command opTableStatus p)

/-- A shard's snapshot (R452): its rows in slot, bucket and way order, into its own stream engines and, in MIRROR, to its twin. The
first line gives the record count and whether records carry state; each record has 8 bytes after its ID whose bit 0 is POISON. -/
def State.takeSnapshot (s : State) (table : Nat) (b : Bytes) : State :=
  match s.table table with
  | none => s
  | some t =>
    let state := bit (le b 2 1) 0
    let gen := le b 4 4
    let owner := tableOwner table ((t.shards.takeWhile (· != s.ownId)).length)
    let bytes := toLe 8 t.rows.length ++ toLe 1 (flag state) ++ zeros 55
      ++ t.rows.flatMap (fun r => toLe 8 r.id ++ toLe 1 (flag r.poison) ++ zeros 7 ++ r.data ++ (if state then r.state else []))
    let total := cdiv bytes.length 64
    let lines := (chunks 64 total bytes).zipIdx.map (fun l => (l.2, l.1))
    match s.genSlot t.job gen, s.shard t.job gen owner with
    | some x, some y =>
      if x.state ≠ 2 ∨ y.reserved < total then s
      else
        let y1 := { y with
          lines := lines, fin := some (total, shardDigest t.job gen owner total lines), accepted := true, sender := s.ownAddr
          parity := if s.store.mode = 1 then (List.range y.pages).map (s.dataPage y) else [] }
        let s1 := s.modShard t.job gen owner (fun _ => y1)
        let s2 := if s.store.mode = 1 then s1.sendParity t.job y1 else s1.sendLines s1.twinAddr t.job gen y1 1 [(0, total)]
        s2.tellChecked t.job gen
    | _, _ => s

/-- TABLE_SNAPSHOT (R452): every shard streams its rows at the snapshot tick; the command ends when the generation commits. -/
def opTableSnapshot : HostOp := {
  opcode := 0x0707, eff := .ea, jobs := .nonzero
  params := fun p _ s =>
    let x := s.genSlot p.job (le p.body 4 4)
    checks [needLen p 8, needTable p s,
      need (x.any (fun x => x.state == 2 && x.shards.any (fun y => y.owner ≥ 0x80000000 && (y.owner - 0x80000000) / 64 == le p.body 0 2)))
        (p.off 4)]
  reserves := fun p _ => [.table (le p.body 0 2)]
  start := fun p id s => match namedTable p s with
    | none => s
    | some t =>
      let due := ((s.cmd id).map Cmd.due).getD s.clock.now
      let s1 := s.askShards id 3 t.id t.job due t.shards p.body
      s1.shardAnswer id s1.ownAddr 0 0
  apply := fun p id s =>
    let s1 := s.modStore (fun x => { x with snaps := x.snaps ++ [(id, p.job, le p.body 4 4)] })
    (s1.takeSnapshot (le p.body 0 2) p.body, .running) }

/-- TABLE_SNAPSHOT. -/
def execTableSnapshot (p : Packet) (s : State) : Host.Outcome State Fault Refusal := s.finish (s.command opTableSnapshot p)

/-- Loads from a generation that other Geneels have ordered, at their tick (R453). -/
def State.loadMarker (s : State) : State :=
  let due := s.calico.loadDue.filter (fun d => decide (d.1 ≤ s.clock.now))
  let s1 := { s with calico := { s.calico with loadDue := s.calico.loadDue.filter (fun d => decide (s.clock.now < d.1)) } }
  due.foldl (fun u d => match u.table d.2.1 with
    | some t => (u.startLoad t (le d.2.2 8 4) (bit (le d.2.2 3 1) 1) (bit (le d.2.2 3 1) 0) none).1
    | none => u) s1

/-- Snapshots that other Geneels have ordered, at their tick (R452). -/
def State.snapMarker (s : State) : State :=
  let due := s.calico.snapDue.filter (fun d => decide (d.1 ≤ s.clock.now))
  let s1 := { s with calico := { s.calico with snapDue := s.calico.snapDue.filter (fun d => decide (s.clock.now < d.1)) } }
  due.foldl (fun t d => t.takeSnapshot d.2.1 d.2.2) s1

/-! ### Requests -/

/-- A refusal (R436): one REFUSE flit, counted at S1 under the job. Without a table it answers on the request's stream. -/
def State.refuseRequest (s : State) (f : Flit) (h : CalHeader) (reason : Nat) : State :=
  let (job, stream) := match s.table h.table with
    | some t => (t.job, t.rspStream)
    | none => (f.job, f.stream)
  let r : Flit := {
    kind := .data, vc := 6, dst := f.src, src := s.ownAddr, stream := stream, job := job, enc := f.enc
    payload := toLe 1 15 ++ zeros 1 ++ toLe 2 h.table ++ toLe 4 h.req ++ zeros 4 ++ toLe 4 reason }
  ((s.calSend s.clock.now r).modTable h.table (fun t => t.count 14)).fault { source := 0xF908, code := 0x28, job := job }

/-- SRC is a member of the job's ACTIVE or FAILED slice (R436). -/
def State.tableMember (s : State) (job src : Nat) : Bool :=
  (s.access.slices.find? (fun x => x.job == job)).any (fun x =>
    (x.state == .active || x.state == .failed) && x.ranges.any (fun r => r.1 ≤ src && src ≤ r.2))

/-- TABLE_REQUEST_RECEIVE (R432 to R447, R451): the distributor's five checks in order; then an update is admitted, and a lookup is
served, or held for a STRICT table or an isolated job. -/
def execTableRequestReceive (f : Flit) (s : State) : Host.Outcome State Fault Refusal :=
  let h := calHeader f.payload
  match (s.table h.table).filter (fun t => t.state != 3) with
  | none => s.finish (s.refuseRequest f h 1)
  | some t =>
    let rs := if 1 ≤ h.op ∧ h.op ≤ 3 then (calRecords h f.payload).filter (fun r => r.length == h.size) else []
    if f.job ≠ t.job ∨ !s.tableMember t.job f.src then s.finish (s.refuseRequest f h 1)
    else if rs.any (fun r => t.shards.getD (t.place (le r 0 8)).shard 0xFF != s.ownId) then s.finish (s.refuseRequest f h 2)
    else if !h.good t f.enc f.payload then s.finish (s.refuseRequest f h 3)
    else if t.state ≠ 0 then s.finish (s.refuseRequest f h 4)
    else
      let now := s.clock.now
      match (t.window f.src).judge h.req with
      | 2 => s.finish (s.refuseRequest f h 5)
      | k =>
        let dup := k = 1
        let s1 := s.modTable t.id (fun t => if dup then t.count 13 else t.mark f.src h.req)
        if dup ∧ h.op = 3 then
          s.finish (s1.modTable t.id (fun t => { t with
            acks := t.acks ++ [{ len := f.src, req := h.req, dup := true, left := 0, at_ := now }] }))
        else if (s1.isolated t.job).isSome ∨ (t.strict ∧ h.op ≠ 3) then
          s.finish { s1 with calico := { s1.calico with held := s1.calico.held ++ [{ flit := f, at_ := now, dup := dup }] } }
        else s.finish (s1.runRequest f now now dup)

/-- STRICT_LOOKUP_RELEASE (R447): at step 6 of the next marker the lookups held on STRICT tables start; one that was held before its
table ceased to be STRICT, or behind a stalled engine, is tried too. -/
def execStrictLookupRelease (s : State) : Host.Outcome State Fault Refusal :=
  let strict (h : CalHeld) : Bool := ((s.table (calHeader h.flit.payload).table).any (fun t => (s.isolated t.job).isNone))
    && decide (h.at_ < s.clock.now)
  let go := s.calico.held.filter strict
  let s1 := { s with calico := { s.calico with held := s.calico.held.filter (fun h => !strict h) } }
  s.finish (go.foldl (fun t h => t.runRequest h.flit h.at_ t.clock.now h.dup) s1)

/-- COALESCING_STALL_RESUME (R442): the apply pass has freed lines: an engine's waiting records are admitted in order, and when none
is left the lookups behind them are served. -/
def execCoalescingStallResume (slot : Nat) (s : State) : Host.Outcome State Fault Refusal :=
  let mine (r : CalStalled) : Bool := s.engineOf r.slot == s.engineOf slot
  let all := s.calico.stalled.zip s.calico.stalledTables
  let go := all.filter (fun x => mine x.1)
  let rest := all.filter (fun x => !mine x.1)
  let s1 := { s with calico := { s.calico with stalled := rest.map Prod.fst, stalledTables := rest.map Prod.snd } }
  let s2 := go.foldl (fun t x => t.takeRecord x.2 x.1) s1
  if s2.stalledAt slot then s.finish s2
  else
    let ready (h : CalHeld) : Bool := match s2.table (calHeader h.flit.payload).table with
      | some t => (s2.isolated t.job).isNone && (!t.strict || decide (h.at_ < s2.clock.now)) && !s2.lookupStalled t h.flit
      | none => false
    let serve := s2.calico.held.filter ready
    let s3 := { s2 with calico := { s2.calico with held := s2.calico.held.filter (fun h => !ready h) } }
    s.finish (serve.foldl (fun t h => t.serveLookup h.flit t.clock.now) s3)

/-! ### Between Geneels -/

/-- TABLE_SHARD_RECEIVE (R422, R423, R425, R427, R428, R452, R663). -/
def execTableShardReceive (m : Msg) (s : State) : Host.Outcome State Fault Refusal :=
  let b := m.body
  let (op, table, job, tick, params) := (le b 0 1, le b 2 2, le b 4 2, le b 8 6, b.drop 16)
  s.finish (s.fromGeneel m.src 7 m.type (fun s =>
    let at_ := s.instantOf tick
    match op with
    | 0 =>
      if table = 0xFFFF then
        if !s.numbersTables then s
        else match s.assignTable with
          | (s1, some i) => s1.sendDone m.src 0 0 i 0
          | (s1, none) => s1.sendDone m.src 0 1 0xFFFF 1
      else
        let (s1, short) := s.createShard table job at_ params
        s1.sendDone m.src 0 (flag short.isSome) table (short.getD 0)
    | 1 => match s.table table with
      | some _ => (s.modTable table (fun t => { t with configs := t.configs ++ [(at_, params)] })).sendDone m.src 1 0 table 0
      | none => s.sendDone m.src 1 3 table 0
    | 2 =>
      if tick = 0xFFFFFFFFFFFF then s.withdrawShard table
      else match s.table table with
        | some t =>
          let (s1, busy) := s.destroyShard t at_
          s1.sendDone m.src 2 (if busy.isSome then 2 else 0) table (busy.getD 0)
        | none => s.sendDone m.src 2 0 table 0
    | 3 => match s.table table with
      | some _ =>
        let s1 := { s with calico := { s.calico with snapDue := s.calico.snapDue ++ [(max at_ s.clock.now, table, params)] } }
        s1.sendDone m.src 3 0 table 0
      | none => s.sendDone m.src 3 3 table 0
    | 4 => match s.table table with
      | some t =>
        if !s.snapFits t (le params 8 4) then s.sendDone m.src 4 3 table 0
        else ({ s with calico := { s.calico with loadDue := s.calico.loadDue ++ [(at_, table, params)] } }.loadMarker).sendDone m.src 4 0
          table 0
      | none => s.sendDone m.src 4 3 table 0
    | _ => s))

/-- TABLE_SHARD_DONE_RECEIVE (R425, R426): the ID from the tick master, or a shard Geneel's answer. -/
def execTableShardDoneReceive (m : Msg) (s : State) : Host.Outcome State Fault Refusal :=
  let b := m.body
  let (op, status, table, detail) := (le b 0 1, le b 1 1, le b 2 2, le b 4 4)
  s.finish (s.fromGeneel m.src 7 m.type (fun s =>
    match s.calico.ops.find? (fun o => o.op == op && o.waiting.contains m.src && (o.needId || o.table == table)) with
    | none => s
    | some o =>
      if o.needId then
        let s1 := { s with calico := { s.calico with ops := s.calico.ops.filter (fun x => x.cmd != o.cmd) } }
        if status = 0 then s1.spreadCreate o.cmd table else s1.endCmd o.cmd 0x12 detail
      else s.shardAnswer o.cmd m.src status detail))

/-- TABLE_SHARD_TIMEOUT (R425): a shard Geneel silent for 8 ticks, or another tick master before the ID came. -/
def execTableShardTimeout (cmd : Nat) (s : State) : Host.Outcome State Fault Refusal :=
  match s.calico.ops.find? (fun o => o.cmd == cmd) with
  | none => s.finish s
  | some o =>
    let moved := o.needId && !o.waiting.contains (0xF000 + s.clock.master)
    if !moved ∧ s.clock.now < o.since + 8 then s.finish s
    else
      let s1 := { s with calico := { s.calico with ops := s.calico.ops.filter (fun x => x.cmd != cmd) } }
      let job := ((s1.cmd cmd).map (fun c => c.pkt.job)).getD 0
      let shards := ((s1.table o.table).map CalTable.shards).getD s1.shardSet
      let s2 := if o.op = 0 ∧ !o.needId ∨ o.op = 2 then s1.withdrawAll o.table job shards else s1
      s.finish (s2.endCmd cmd 0x50 (if moved then 0 else o.waiting.headD 0))

end Sys2Proof.Machine
end

