-- ==== Sys2Proof/Machine/JacquardOps.lean ====
section
/-! DEFINITION. Jacquard: counts, receive lists, capacities, the planning algorithm and how an exchange ends (spec
11_jacquard_exchange). -/

namespace Sys2Proof.Machine

open Sys2Proof

/-- A plan. -/
def State.plan (s : State) (i : Nat) : Option Plan := s.jacquard.plans.find? (fun p => p.id == i)

/-- Replace a plan. -/
def State.putPlan (s : State) (p : Plan) : State :=
  { s with jacquard := { s.jacquard with plans := insertBy Plan.id (s.jacquard.plans.filter (fun x => x.id != p.id)) p } }

/-- Change a plan. -/
def State.modPlan (s : State) (i : Nat) (f : Plan → Plan) : State :=
  { s with jacquard := { s.jacquard with plans := s.jacquard.plans.map (fun p => if p.id = i then f p else p) } }

/-- Change the current exchange of a plan. -/
def State.modExch (s : State) (i : Nat) (f : Exchange → Exchange) : State :=
  s.modPlan i (fun p => { p with cur := f p.cur })

/-- Members. -/
def Plan.n (p : Plan) : Nat := p.members.length

/-- LEN of a rank. -/
def Plan.len (p : Plan) (rank : Nat) : Nat := p.members.getD rank 0xFFFF

/-- Bolt of a rank. -/
def Plan.bolt (p : Plan) (rank : Nat) : Nat := p.len rank / 1024

/-- Ranks in a bolt. -/
def Plan.ranksOf (p : Plan) (bolt : Nat) : List Nat := (List.range p.n).filter (fun r => p.bolt r == bolt)

/-- Bolts that hold members, ascending. -/
def Plan.bolts (p : Plan) : List Nat := (p.members.map (· / 1024)).eraseDups

/-- Flag EQUAL (R381). -/
def Plan.isEqual (p : Plan) : Bool := bit p.flags 1

/-- Flag PRESUME (R381). -/
def Plan.presumes (p : Plan) : Bool := bit p.flags 0

/-- Data or record bytes of a flit of a job (R387). -/
def State.delta (s : State) (job : Nat) : Nat := if (s.currentKey job 0).isSome then 216 else 232

/-! ### Plan areas (R389) -/

/-- The receive list of a destination: source rank and items, ascending (R389); E from every source with EQUAL (R406). -/
def Plan.receiveList (p : Plan) (e : Exchange) (d : Nat) : List (Nat × Nat) :=
  if p.isEqual then (List.range p.n).map (fun r => (r, p.equal))
  else sortBy Prod.fst ((e.counts.filter (fun c => c.2.1 == d && c.2.2 != 0)).map (fun c => (c.1, c.2.2)))

/-- The 64-byte header of a member's plan area (R389). -/
def State.areaHeader (s : State) (p : Plan) (e : Exchange) (d : Nat) : Bytes :=
  let l := p.receiveList e d
  toLe 2 p.id ++ toLe 1 e.state ++ toLe 1 e.cause ++ toLe 4 e.num
    ++ toLe 6 (if e.state = 2 ∨ e.state = 3 ∨ e.state = 4 then s.tickAt e.round0 else 0)
    ++ toLe 6 (if 4 ≤ e.state then s.tickOf e.endAt else 0)
    ++ toLe 4 (l.foldl (fun a x => a + x.2) 0) ++ toLe 2 l.length ++ toLe 1 e.repairs ++ toLe 1 (flag e.wasPresumed) ++ zeros 36

/-- Cut bytes into plan-area writes of at most `room` bytes (R387 kind 3). -/
def areaWrites (num room : Nat) : Nat → Nat → Bytes → List Bytes
  | 0, _, _ => []
  | k + 1, off, b =>
    if b = [] then []
    else (toLe 1 3 ++ toLe 1 num ++ zeros 2 ++ toLe 4 (off / 8) ++ b.take room) :: areaWrites num room k (off + room) (b.drop room)

/-- Write a member's plan area: the header, and the receive list with it (R389, R394). Which engine writes it is open: DESIGN CHOICE (log
entry 203), the Jacquard engine of the plan ID modulo 16. -/
def State.writeArea (s : State) (p : Plan) (e : Exchange) (d : Nat) (withList : Bool) : State :=
  let list := (p.receiveList e d).flatMap (fun x => toLe 2 x.1 ++ zeros 2 ++ toLe 4 x.2)
  let b := s.areaHeader p e d ++ (if withList then list else [])
  let room := s.delta p.job
  let fs := (areaWrites (e.num % 256) room (b.length + 1) 0 b).map (fun pay =>
    ({ kind := .data, vc := 4, dst := p.len d, src := s.ownAddr, stream := p.dataStream, job := p.job, payload := pay } : Flit))
  fs.foldl (fun t f => t.inject (gridIndex 11 (p.id % 16)) f) { s with jacquard := { s.jacquard with sent := s.jacquard.sent ++ fs } }

/-- Write the headers of every local member's plan area. -/
def State.writeHeaders (s : State) (i : Nat) : State :=
  match s.plan i with
  | none => s
  | some p => (p.ranksOf s.up.bolt).foldl (fun t d => t.writeArea p p.cur d false) s

/-! ### Messages between bolts (R393) -/

/-- XCHG_READY to both Geneels of every plan bolt but this one itself (R393, R394, R409, R410). -/
def State.sendReady (s : State) (p : Plan) (e : Exchange) (status items : Nat) : State :=
  let body := toLe 2 p.id ++ toLe 4 e.num ++ toLe 1 s.up.bolt ++ toLe 1 status ++ toLe 1 e.cause ++ zeros 1 ++ toLe 4 items
    ++ toLe 6 s.tickNow
  let dsts := (p.bolts.flatMap (fun b => [0xF000 + 2 * b, 0xF001 + 2 * b])).filter (fun a => a != s.ownAddr)
  dsts.foldl (fun t a => t.send (t.msgTo a 0x50 body)) s

/-- The state of a plan's exchange is mirrored (R650 kind 7): its number, state and cause. -/
def State.mirrorExchange (s : State) (i : Nat) : State := match s.plan i with
  | some p => s.mirrorDelta 7 i (toLe 4 p.cur.num ++ toLe 1 p.cur.state ++ toLe 1 p.cur.cause)
  | none => s

/-- The exchange ends FAILED with a cause: nothing more is sent for it, and the plan areas are written at the next marker
(R410). A failure found here is sent to every plan bolt. -/
def State.failExchange (s : State) (i cause : Nat) (tell : Bool) : State :=
  match s.plan i with
  | none => s
  | some p =>
    if p.cur.state = 0 ∨ 4 ≤ p.cur.state then s
    else
      let e := { p.cur with
        state := 5, cause := cause, endAt := s.clock.now, writeFail := true, presumed := [], pairs := [], asked := [] }
      let s1 := s.modPlan i (fun q => { q with
        cur := e, failed := q.failed + 1, failBy := q.failBy.modify (cause - 1) (fun v => satAdd 32 v 1), presumed := none
        lastRounds := e.rounds, lastC := (e.cAt.map s.tickOf).getD q.lastC })
      let s2 := if p.presumed.isSome then s1.countRunAhead p.job 2 false else s1
      let s3 := s2.mirrorExchange i
      if tell then s3.sendReady p e 2 0 else s3

/-! ### Capacities (R396) -/

/-- Flits per tick of the usable links of a node under the link fraction. -/
def State.linkCapacity (s : State) (x a : Nat) : Nat :=
  ((s.boltSection (boltOf a)).links.filter (fun l => l.src == a && linkUsable s.fabric.sections l)).foldl (fun c l =>
    c + flitsPerTick l.width s.clock.period * x / 1024) 0

/-- Capacity of a source in a round: none before its grant offset (R396, R399). -/
def Exchange.sourceCap (e : Exchange) (round rank : Nat) : Nat :=
  let off := ((e.offsets.find? (fun o => o.1 == rank)).map Prod.snd).getD 0
  if round < off then 0 else (kvGet e.caps.sources rank).getD 0

/-- Capacity of a destination in a round (R396). -/
def State.destCap (s : State) (p : Plan) (rank : Nat) : Nat :=
  s.linkCapacity p.x (p.len rank) * (p.ranksOf s.up.bolt).length / max 1 p.n

/-- Capacity from this bolt to another in a round: the job's VC4 quota on the boundary links' output ports (R332, R396). -/
def State.boltCap (s : State) (p : Plan) (bolt : Nat) : Nat :=
  let share := (((s.access.slices.find? (fun x => x.job == p.job)).bind (fun x => x.shares.find? (fun v => v.1 == 4))).map
    Prod.snd).getD 0
  (s.ownSection.links.filter (fun l => l.boundary && boltOf l.dst == bolt && linkUsable s.fabric.sections l)).foldl (fun c l =>
    c + flitsPerTick l.width s.clock.period * share / 1024) 0

/-- F ports in UP at both Geneels of the bolt. -/
def State.fPortsUp (s : State) : Nat :=
  ((List.range 36).filter (fun q => (s.port q).link.state == .up)).length
    + (s.ownSection.links.filter (fun l => l.dst == s.twinAddr && l.dport < 36 && l.lstate == 2)).length

/-- Cards of the bolt in a round (R72, R396). -/
def State.cardCap (s : State) : Nat := 12 * (336 * s.clock.period / 16) * s.fPortsUp

/-- The capacities of a plan as they stand now (R396). -/
def State.capsNow (s : State) (p : Plan) : PlanCaps :=
  { sources := (p.ranksOf s.up.bolt).map (fun r => (r, s.linkCapacity p.x (p.len r)))
    dests := (List.range p.n).map (fun r => (r, s.destCap p r))
    bolts := (p.bolts.filter (fun b => b != s.up.bolt)).map (fun b => (b, s.boltCap p b))
    cards := s.cardCap
    delta := s.delta p.job }

/-! ### The planning algorithm (R397) -/

/-- What a round has left while it is planned. -/
structure RoundLeft where
  s : List (Nat × Nat) := []
  d : List (Nat × Nat) := []
  g : List (Nat × Nat) := []
  k : Nat
  cm : List (Nat × Nat) := []
  cards : List Card := []
  deriving DecidableEq, Repr

/-- One pair of plan_round: its card, if it gets one (R397). -/
def Plan.planPair (p : Plan) (home : Nat) (e : Exchange) (round : Nat) (follow : Bool) (acc : RoundLeft × List PairLeft)
    (q : PairLeft) : RoundLeft × List PairLeft :=
  let r := acc.1
  if q.rem = 0 then (r, acc.2 ++ [q])
  else
    let delta := e.caps.delta
    let sc := (kvGet r.s q.src).getD (e.sourceCap round q.src)
    let dc := (kvGet r.d q.dst).getD ((kvGet e.caps.dests q.dst).getD 0)
    let bolt := p.bolt q.dst
    let far := decide (bolt ≠ home)
    let gc := (kvGet r.g bolt).getD ((kvGet e.caps.bolts bolt).getD 0)
    let cm := (kvGet r.cm q.src).getD 0
    let f := cdiv q.rem delta
    let a := if far then min (min f (min sc dc)) gc else min f (min sc dc)
    if a = 0 ∨ r.k = 0 ∨ cm = 576 then (r, acc.2 ++ [q])
    else
      let n := min (a * delta) q.rem
      let card : Card := {
        src := q.src, dst := q.dst, offset := q.pos, bytes := n, flags := flag (decide (n = q.rem)) + 2 * flag follow }
      ({ s := kvSet r.s q.src (sc - a), d := kvSet r.d q.dst (dc - a), g := if far then kvSet r.g bolt (gc - a) else r.g
         k := r.k - 1, cm := kvSet r.cm q.src (cm + 1), cards := r.cards ++ [card] },
        acc.2 ++ [{ q with rem := q.rem - n, pos := q.pos + n }])

/-- Visiting order: by diagonal, then by source (R397). -/
def visitOrder (n : Nat) (l : List PairLeft) : List PairLeft :=
  sortBy (fun q => (q.dst + n - q.src) % n * n + q.src) l

/-- One round: its cards and what the pairs have left (R397). It depends on the counts, the plan's parameters, the capacities at C and
the grant offsets alone, so that rounds replanned after an engine is fenced come out the same (R27, R398, R411). -/
def State.planRound (s : State) (p : Plan) (e : Exchange) (round : Nat) (follow : Bool) (pairs : List PairLeft) :
    List Card × List PairLeft :=
  let (r, left) := (visitOrder p.n pairs).foldl (p.planPair s.up.bolt e round follow) ({ k := e.caps.cards }, [])
  (r.cards, left)

/-- Every round of a plan, ahead of its counts (R405, R406). A round without a card ends it: nothing more can move. -/
def State.planAll (s : State) (p : Plan) (e : Exchange) : Nat → Nat → List PairLeft → List (List Card)
  | 0, _, _ => []
  | k + 1, round, pairs =>
    if pairs.all (fun q => q.rem == 0) then []
    else
      let (cards, left) := s.planRound p e round false pairs
      if cards = [] then [] else cards :: State.planAll s p e k (round + 1) left

/-- Pairs of this bolt's sources with their bytes, from counts or from E (R397, R406). Self pairs never enter (R390). -/
def State.localPairs (s : State) (p : Plan) (e : Exchange) : List PairLeft :=
  let mine := p.ranksOf s.up.bolt
  if p.isEqual then
    mine.flatMap (fun a => ((List.range p.n).filter (fun d => d != a)).map (fun d =>
      { src := a, dst := d, rem := p.equal * p.item, pos := 0 }))
  else
    (e.counts.filter (fun c => mine.contains c.1 && c.1 != c.2.1 && c.2.2 != 0)).map (fun c =>
      { src := c.1, dst := c.2.1, rem := c.2.2 * p.item, pos := 0 })

/-- Ranks whose cards this Geneel sends: even at the primary, odd at the secondary, all when the twin is lost (R398, R411). -/
def State.sendsCards (s : State) (rank : Nat) : Bool :=
  !s.twinHealthy || (rank % 2 == 0) == s.isPrimary

/-- CARDS of a round, up to 12 a message (R191, R398). -/
def State.sendCards (s : State) (p : Plan) (start : Nat) (cards : List Card) : State :=
  let srcs := (cards.map Card.src).eraseDups.filter s.sendsCards
  srcs.foldl (fun t r =>
    let mine := cards.filter (fun c => c.src == r)
    (List.range (cdiv mine.length 12)).foldl (fun u i =>
      let part := (mine.drop (12 * i)).take 12
      let body := toLe 2 p.id ++ toLe 2 p.job ++ toLe 6 (u.tickAt start) ++ toLe 1 part.length ++ zeros 5
        ++ part.flatMap (fun c => toLe 2 (p.len c.dst) ++ toLe 2 p.dataStream ++ toLe 6 c.offset ++ toLe 4 c.bytes
          ++ toLe 1 c.flags ++ zeros 1)
      u.ask (p.len r) 0x08 body none Purpose.cards.code) t) s

/-! ### Grants of card rounds (R399) -/

/-- Action ID of an exchange (R399). -/
def exchangeAction (p : Plan) (num : Nat) : Nat := p.id * 65536 + num % 65536

/-- The kind 4 grants of every local source, booked for round 0: their offsets (R399, R507). The secondary, which plans the same
rounds (R398), books nothing. -/
def State.grantExchange (s : State) (i : Nat) : State :=
  match s.plan i with
  | none => s
  | some p =>
    let action := exchangeAction p p.cur.num
    let ranks := p.ranksOf s.up.bolt
    let s1 := ranks.foldl (fun t r => t.grantMember 4 p.job action p.cur.round0 (p.len r) false) s
    let off (r : Nat) : Nat := match s1.power.grants.find? (fun g => g.kind == 4 && g.action == action && g.addr == p.len r) with
      | some g => g.start - p.cur.round0
      | none => 0
    (if s.isPrimary then s1 else s).modExch i (fun e => { e with offsets := ranks.map (fun r => (r, off r)) })

/-! ### Counts (R391 to R395) -/

/-- Bytes of the count store in use (R392). -/
def State.countStore (s : State) : Nat :=
  s.jacquard.plans.foldl (fun a p =>
    a + 8 * (p.cur.counts.length + ((p.next.map (fun e => e.counts.length)).getD 0))) 0

/-- A new exchange. -/
def freshExchange (num : Nat) : Exchange := { num := num, state := 1 }

/-- When every plan member's LAST has arrived the receive lists are written and status 0 is sent (R394); a list beyond R_c fails
the exchange (cause 4). With EQUAL the lists stand since PLAN_CREATE (R406). -/
def State.writeLists (s : State) (i : Nat) : State :=
  match s.plan i with
  | none => s
  | some p =>
    let e := p.cur
    if e.listed ∨ 4 ≤ e.state ∨ !((List.range p.n).all (fun r => e.lastFrom.contains r)) then s
    else
      let mine := p.ranksOf s.up.bolt
      let total (d : Nat) : Nat := (p.receiveList e d).foldl (fun a x => a + x.2) 0
      if mine.any (fun d => p.capacity < total d) then s.failExchange i 4 true
      else
        let items := mine.foldl (fun a d => a + total d) 0
        let s1 := mine.foldl (fun t d => t.writeArea p e d true) s
        let s2 := s1.modExch i (fun x => { x with listed := true, ready := x.ready ++ [(s.up.bolt, items)] })
        if s.isPrimary then s2.sendReady p e 0 items else s2

/-- Records of a count flit are in range and ascend (R388, R410 cause 8). -/
def countsGood (n : Nat) (after : Option Nat) : List (Nat × Nat) → Bool
  | [] => true
  | r :: rest => decide (r.1 < n) && (match after with
      | some a => decide (a < r.1)
      | none => true) && countsGood n (some r.1) rest

/-- Take a count flit into an exchange (R391, R392). -/
def Plan.takeCounts (p : Plan) (e : Exchange) (now rank : Nat) (last : Bool) (rs : List (Nat × Nat)) : Exchange :=
  { e with
    state := if e.state = 0 then 1 else e.state
    firstAt := some (e.firstAt.getD now)
    counts := if p.isEqual then e.counts else e.counts ++ rs.map (fun r => (rank, r.1, r.2))
    lastFrom := if last ∧ !e.lastFrom.contains rank then e.lastFrom ++ [rank] else e.lastFrom }

/-! ### Ends (R405, R407 to R410) -/

/-- The next exchange's counts that came early become current; one that has failed by then ends at once (R392, R410). -/
def State.nextExchange (s : State) (i : Nat) : State :=
  match (s.plan i).bind Plan.next with
  | none => s
  | some e =>
    let t := (s.modPlan i (fun p => { p with cur := { e with cause := 0 }, next := none })).mirrorExchange i
    if e.cause ≠ 0 then t.failExchange i e.cause true else t.writeLists i

/-- The survivor of a bolt sends the cards of every rank for rounds that have not started (R411). -/
def State.resendCards (s : State) : State :=
  (s.jacquard.plans.filter (fun p => p.cur.state == 2)).foldl (fun t p =>
    (p.cur.out.filter (fun o => decide (s.clock.now < o.1))).foldl (fun u o => u.sendCards p o.1 o.2) t) s

/-- Rounds of a plan's exchange that remain: those of a presumed plan and those that the bytes left need, at least 1 while it is not at its end
(R385). -/
def State.remaining (s : State) (p : Plan) : Nat :=
  let e := p.cur
  if e.state = 0 ∨ 4 ≤ e.state then 0
  else max 1 (e.presumed.length + (s.planAll p e 4096 (e.nextRound + e.presumed.length) e.pairs).length)

/-- DONE: every plan bolt's members have reported complete (R409); with PRESUME the next exchange is planned ahead (R405). -/
def State.doneExchange (s : State) (i : Nat) : State :=
  match s.plan i with
  | none => s
  | some p =>
    if 4 ≤ p.cur.state ∨ !p.bolts.all (fun b => p.cur.landed.contains b) then s
    else
      let e := { p.cur with state := 4, endAt := s.clock.now }
      let pairs := s.localPairs p e
      let ahead := if p.presumes ∨ p.isEqual then
          some (s.planAll p { e with offsets := [], caps := s.capsNow p } 4096 0 pairs, pairs, (e.cAt.map s.tickOf).getD 0)
        else none
      let s1 := s.modPlan i (fun q => { q with
        cur := e, done := q.done + 1, presumed := ahead, lastRounds := e.rounds, lastC := (e.cAt.map s.tickOf).getD 0
        lastDone := s.tickNow, presumedRun := q.presumedRun + flag e.wasPresumed })
      let s2 := s1.mirrorExchange i
      ((s2.writeHeaders i).dropGrants 4 i).nextExchange i

/-- Every local member has reported complete: status 1 to every plan bolt (R409). -/
def State.localComplete (s : State) (i : Nat) : State :=
  match s.plan i with
  | none => s
  | some p =>
    let mine := p.ranksOf s.up.bolt
    if 4 ≤ p.cur.state ∨ p.cur.landed.contains s.up.bolt ∨ !mine.all (fun r => p.cur.complete.contains r) then s
    else
      let s1 := s.modExch i (fun e => { e with landed := e.landed ++ [s.up.bolt] })
      let s2 := if s.isPrimary then s1.sendReady p p.cur 1 0 else s1
      s2.doneExchange i

/-- Short pairs whose sources lie in this bolt are planned again whole, into follow-up rounds (R408). -/
def State.repairPairs (s : State) (i : Nat) (pairs : List (Nat × Nat)) : State :=
  match s.plan i with
  | none => s
  | some p =>
    let all := s.localPairs p p.cur
    let again := all.filter (fun q => pairs.contains (q.src, q.dst))
    if again = [] ∨ 4 ≤ p.cur.state then s
    else s.modExch i (fun e => { e with
      state := 2, followUp := 2
      pairs := e.pairs.filter (fun q => !pairs.contains (q.src, q.dst)) ++ again
      nextRound := max e.nextRound ((s.clock.now + 4) - e.round0 - e.slip) })

/-- Short pairs found at a local destination: repaired here or by the source bolt's planner; the fourth phase fails the exchange
(R408). The members are asked again after the repair: when the rounds of another bolt end is not told, and the fourth tick from now counts as the
first of them (DEDUCED, log entry 252). -/
def State.shortPairs (s : State) (i rank : Nat) (srcs : List Nat) : State :=
  match s.plan i with
  | none => s
  | some p =>
    if 4 ≤ p.cur.state then s
    else
      let phase := if p.cur.repairing then p.cur.repairs else p.cur.repairs + 1
      if 3 < phase then s.failExchange i 6 true
      else
        let s1 := State.mirrorExchange (i := i) <| s.modExch i (fun e => { e with
          state := 2, repairs := phase, repairing := true, asked := e.asked.filter (· != rank), lastRound := max e.lastRound (s.clock.now + 4) })
        let own := srcs.filter (fun r => p.bolt r == s.up.bolt)
        let far := srcs.filter (fun r => p.bolt r != s.up.bolt)
        let s2 := s1.repairPairs i (own.map (fun r => (r, rank)))
        if !s.isPrimary then s2
        else (far.map p.bolt).eraseDups.foldl (fun t b =>
          let mine := (far.filter (fun r => p.bolt r == b))
          (List.range (cdiv mine.length 48)).foldl (fun u k =>
            let part := (mine.drop (48 * k)).take 48
            let body := toLe 2 i ++ toLe 4 p.cur.num ++ toLe 1 part.length ++ zeros 1
              ++ part.flatMap (fun r => toLe 2 r ++ toLe 2 rank)
            [0xF000 + 2 * b, 0xF001 + 2 * b].foldl (fun v a => v.send (v.msgTo a 0x51 body)) u) t) s2

/-- A member of a job has been declared failed: its plans' exchanges fail with cause 5 (R411). -/
def State.exchMemberFailed (s : State) (job addr : Nat) : State :=
  (s.jacquard.plans.filter (fun p => p.job == job && p.members.contains addr && 1 ≤ p.cur.state && p.cur.state ≤ 3)).foldl
    (fun t p => t.failExchange p.id 5 true) s

/-- Every exchange of a job fails (R480). -/
def State.exchJobFailed (s : State) (job : Nat) : State :=
  (s.jacquard.plans.filter (fun p => p.job == job && 1 ≤ p.cur.state && p.cur.state ≤ 3)).foldl
    (fun t p => t.failExchange p.id 5 true) s

/-- A link of a member has narrowed or gone: no presumed plan made before it is used, and a plan of equal counts is computed again at the next C
(R405, R406, R411). -/
def State.dropPresumed (s : State) : State :=
  let hit := s.jacquard.plans.filter (fun p => p.presumed.isSome)
  hit.foldl (fun t p =>
    let u := t.modPlan p.id (fun q => { q with presumed := none })
    if p.isEqual then u else u.countRunAhead p.job 2 false) s

/-- What a marker does for Jacquard: FAILED is written into the plan areas (R410), and the next exchange comes in. -/
def State.jacquardMarker (s : State) : State :=
  (s.jacquard.plans.filter (fun p => p.cur.writeFail)).foldl (fun t p =>
    ((t.writeHeaders p.id).modExch p.id (fun e => { e with writeFail := false })).nextExchange p.id) s

end Sys2Proof.Machine
end

