-- ==== Sys2Proof/Machine/Jacquard.lean ====
section
/-! DEFINITION. The meanings of the Jacquard commands (opcode class 0x06), of the count and report flits, of the planning pass and
of the messages between bolts (spec 11_jacquard_exchange). -/

namespace Sys2Proof.Machine

open Sys2Proof

/-- The lowest free plan slot of a home bolt (R383). -/
def State.freePlan (s : State) (bolt : Nat) : Option Nat :=
  let used := s.jacquard.plans.map Plan.id
  ((List.range (min 512 (used.length + 1))).map (fun k => bolt * 2048 + k)).find? (fun i => !used.contains i)

/-- Two bolts are joined by a boundary link (R382). -/
def State.boltsJoined (s : State) (a b : Nat) : Bool :=
  s.fabric.sections.any (fun x => x.links.any (fun l => l.boundary
    && ((boltOf l.src == a && boltOf l.dst == b) || (boltOf l.src == b && boltOf l.dst == a))))

/-- Members named by the ranges of PLAN_CREATE. -/
def planMembers (p : Packet) : List Nat :=
  (rangesAt p.body 20 (le p.body 16 2)).flatMap (fun r => (List.range (r.2 + 1 - r.1)).map (· + r.1))

/-- The plan that a PLAN_CREATE describes. -/
def makePlan (p : Packet) (i : Nat) (ids : List Nat) : Plan :=
  let d := p.body
  let dflt (v k : Nat) : Nat := if v = 0 then k else v
  { id := i, job := p.job, item := le d 0 2, flags := le d 2 1 % 4, x := dflt (le d 4 2) 896, deadline := dflt (le d 6 2) 1024
    capacity := le d 8 4, equal := le d 12 4, members := planMembers p, dataStream := ids.getD 0 0
    countStream := ids.getD 1 0 }

/-- The result of PLAN_CREATE (R384). -/
def Plan.result (p : Plan) : Bytes :=
  toLe 2 p.id ++ toLe 1 (p.id / 2048) ++ toLe 1 p.flags ++ toLe 2 p.n ++ toLe 2 p.dataStream ++ toLe 2 p.countStream
    ++ toLe 2 ((64 + 8 * p.n) / 8) ++ toLe 4 (p.bolts.foldl (fun a b => a + 2 ^ b) 0)

/-- The two streams of a plan (R383). -/
def planStreams (job i : Nat) : List Stream :=
  [({ kind := 2, vc := 4, job := job, owner := i, peer := 0xFFFF } : Stream),
   { kind := 2, vc := 4, job := job, owner := i, peer := 0xFFFF }]

/-- PLAN_CREATE (R381 to R384, R406). -/
def opPlanCreate : HostOp := {
  opcode := 0x0601, eff := .ea, jobs := .nonzero
  params := fun p _ s =>
    let d := p.body
    let (i, x, dc, rc, e, r) := (le d 0 2, le d 4 2, le d 6 2, le d 8 4, le d 12 4, le d 16 2)
    let equal := bit (le d 2 1) 1
    let ms := planMembers p
    let bolts := (ms.map (· / 1024)).eraseDups
    let share := ((s.slice p.job).map (fun x => x.shares.any (fun v => v.1 == 4))).getD false
    checks [need (20 ≤ p.bodyLen) 12, need (8 ≤ i && i ≤ 8192 && i % 8 == 0) (p.off 0),
      need (x == 0 || (64 ≤ x && x ≤ 960)) (p.off 4), need (dc == 0 || 16 ≤ dc) (p.off 6),
      need (1 ≤ rc && rc ≤ 4194304) (p.off 8), need (if equal then 1 ≤ e && e ≤ 4194304 else e == 0) (p.off 12),
      need (1 ≤ r && r ≤ 1015) (p.off 16), need (p.bodyLen == 20 + 4 * r) 12,
      checkRanges s p 20 (rangesAt d 20 r), need (2 ≤ ms.length && ms.length ≤ 32768) (p.off 16),
      need (bolts.all (fun a => bolts.all (fun b => a == b || s.boltsJoined a b))) (p.off 20),
      need (bolts.length ≤ 1 || share) (p.off 20),
      need (!equal || (ms.length * (ms.length - 1) * e ≤ 4194304 && ms.length * e ≤ rc)) (p.off 12)]
  resources := fun p s =>
    checks [if (s.freePlan (s.homeBolt p.job)).isNone then .fail 0x12 1 else .ok, s.needStreams 2]
  start := fun p id s =>
    match s.freePlan (s.homeBolt p.job) with
    | none => s
    | some i =>
      let (s1, ids) := s.reserveStreams (planStreams p.job i)
      let s2 := s1.modCmd id (fun c => { c with data := i :: ids })
      s2.putPlan { makePlan p i ids with opening := true }
  apply := fun _ id s =>
    match (s.cmd id).map Cmd.data with
    | some (i :: ids) =>
      match s.plan i with
      | none => (s, .done 0x12 1 [])
      | some q =>
        let s1 := ((s.openReserved ids).modPlan i (fun x => { x with opening := false })).mirrorDelta 7 i q.result
        let s2 := if q.isEqual then
            let e : Exchange := { num := 1, caps := s1.capsNow q }
            let t := (q.ranksOf s1.up.bolt).foldl (fun t d => t.writeArea q e d true) s1
            t.modPlan i (fun x => { x with presumed := some (t.planAll q e 4096 0 (t.localPairs q e), t.localPairs q e, 0) })
          else s1
        (s2, Fin.result q.result)
    | _ => (s, .done 0x12 1 []) }

/-- PLAN_CREATE. -/
def execPlanCreate (p : Packet) (s : State) : Host.Outcome State Fault Refusal := s.finish (s.command opPlanCreate p)

/-- The plan of the header's job that bytes 0 to 1 name. -/
def namedPlan (p : Packet) (s : State) : Option Plan := (s.plan (le p.body 0 2)).filter (fun q => q.job == p.job && !q.opening)

/-- PLAN_DESTROY (R385). -/
def opPlanDestroy : HostOp := {
  opcode := 0x0602, eff := .ea, atOnce := true, jobs := .nonzero
  params := fun p _ s => checks [needLen p 2, need (namedPlan p s).isSome (p.off 0)]
  reserves := fun p _ => [.plan (le p.body 0 2)]
  target := fun p s => match namedPlan p s with
    | some q => if s.remaining q ≠ 0 then .drain (s.remaining q) else .ok
    | none => .ok
  apply := fun p _ s => match namedPlan p s with
    | none => (s, Fin.ok)
    | some q =>
      let s1 := (s.releaseStream q.dataStream).releaseStream q.countStream
      let s2 := { s1 with jacquard := { s1.jacquard with plans := s1.jacquard.plans.filter (fun x => x.id != q.id) } }
      ((s2.dropGrants 4 q.id).mirrorDelta 7 q.id, Fin.ok) }

/-- PLAN_DESTROY. -/
def execPlanDestroy (p : Packet) (s : State) : Host.Outcome State Fault Refusal := s.finish (s.command opPlanDestroy p)

/-- The result of PLAN_STATUS (R412). -/
def Plan.statusBytes (p : Plan) : Bytes :=
  toLe 2 p.id ++ toLe 1 p.cur.state ++ toLe 1 p.flags ++ toLe 4 p.cur.num ++ toLe 8 p.done ++ toLe 8 p.failed
    ++ p.failBy.flatMap (toLe 4) ++ toLe 8 p.rounds ++ toLe 8 p.followRounds ++ toLe 8 p.repairRounds ++ toLe 8 p.misses
    ++ toLe 8 p.presumedRun ++ toLe 4 p.lastRounds ++ toLe 6 p.lastC ++ toLe 6 p.lastDone

/-- PLAN_STATUS (R412). -/
def opPlanStatus : HostOp := {
  opcode := 0x0603, jobs := .nonzero, query := true
  params := fun p _ s => checks [needLen p 2, need (namedPlan p s).isSome (p.off 0)]
  apply := fun p _ s => match namedPlan p s with
    | some q => (s, Fin.result q.statusBytes)
    | none => (s, Fin.ok) }

/-- PLAN_STATUS. -/
def execPlanStatus (p : Packet) (s : State) : Host.Outcome State Fault Refusal := s.finish (s.command opPlanStatus p)

/-! ### Flits to the Geneel -/

/-- A flit's exchange header: kind, LAST, exchange, rank, position (R387). -/
structure XchgHeader where
  kind : Nat
  last : Bool
  num : Nat
  rank : Nat
  pos : Nat
  deriving DecidableEq, Repr

/-- Read it (R387). -/
def xchgHeader (f : Flit) : XchgHeader :=
  { kind := le f.payload 0 1 % 16, last := bit (le f.payload 0 1) 4, num := le f.payload 1 1, rank := le f.payload 2 2
    pos := le f.payload 4 4 }

/-- The records of a count or report flit: rank and number (R387, R388). -/
def xchgRecords (f : Flit) (room : Nat) : List (Nat × Nat) :=
  (chunks 8 (min (le f.payload 4 4) (room / 8)) (f.payload.drop 8)).map (fun b => (le b 0 2, le b 4 4))

/-- COUNT_FLIT_RECEIVE (R391, R392, R394, R406, R410): counts of the current or the next exchange; others are discarded and
counted, as is a flit that the count store cannot take, which fails its exchange (cause 7). -/
def execCountFlitReceive (f : Flit) (s : State) : Host.Outcome State Fault Refusal :=
  let drop : State := { s with jacquard := { s.jacquard with discarded := s.jacquard.discarded + 1 } }
  match s.jacquard.plans.find? (fun p => p.countStream == f.stream && !p.opening) with
  | none => s.finish drop
  | some p =>
    let h := xchgHeader f
    let rs := xchgRecords f (s.delta p.job)
    let gone := p.cur.state = 0 ∨ 4 ≤ p.cur.state
    let isCur := !gone && h.num == p.cur.num % 256
    let isNext := h.num == (p.cur.num + 1) % 256
    if h.kind ≠ 2 ∨ p.n ≤ h.rank ∨ !(isCur || isNext) then s.finish drop
    else
      let s1 := if isNext ∧ gone ∧ p.next.isNone then (s.modPlan p.id (fun q => { q with cur := freshExchange (q.cur.num + 1) })).mirrorExchange p.id
        else s
      let current := isCur || (isNext && gone && p.next.isNone)
      match s1.plan p.id with
      | none => s.finish drop
      | some q =>
        let e0 := if current then q.cur else q.next.getD (freshExchange (q.cur.num + 1))
        let prev := ((e0.counts.filter (fun c => c.1 == h.rank)).getLast?).map (fun c => c.2.1)
        if !p.isEqual ∧ 2 ^ 30 < s1.countStore + 8 * rs.length then
          let t := { s1 with jacquard := { s1.jacquard with discarded := s1.jacquard.discarded + 1 } }
          if current then s.finish (t.failExchange p.id 7 true)
          else s.finish (t.modPlan p.id (fun x => { x with next := some { e0 with cause := 7 } }))
        else if !p.isEqual ∧ !countsGood p.n prev rs then
          if current then s.finish (s1.failExchange p.id 8 true)
          else s.finish (s1.modPlan p.id (fun x => { x with next := some { e0 with cause := 8 } }))
        else
          let e := q.takeCounts e0 s.clock.now h.rank h.last rs
          if current then s.finish ((s1.modPlan p.id (fun x => { x with cur := e })).writeLists p.id)
          else s.finish (s1.modPlan p.id (fun x => { x with next := some e }))

/-- The counts of an exchange are complete: its rounds begin as `f` sets them, granted and told to the members (R395, R399, R402). -/
def State.beginRounds (s : State) (plan : Nat) (f : Exchange → Exchange) : State :=
  (((s.modPlan plan (fun x => { x with countsAt := s.tickNow })).modExch plan f).mirrorExchange plan).grantExchange plan

/-- The rounds of an exchange whose counts are complete: grants are booked and the rounds begin, on the presumed plan where there is one. A presumed
plan whose tag is not the tick of the counts that it assumed is discarded (R79), and one is not used where a grant is deferred, which changes the
capacities that it was made with (R405, R411; DEDUCED, log entry 252). -/
def State.startRounds (s : State) (p : Plan) (pairs : List PairLeft) : State :=
  let now := s.clock.now
  let caps := s.capsNow p
  let stale := p.presumed.any (fun q => !p.isEqual && q.2.2 != p.countsAt)
  let pre := if p.isEqual ∧ p.presumed.isNone then some (s.planAll p { p.cur with caps := caps } 4096 0 pairs, pairs, 0)
    else if stale then none else p.presumed
  let drop : State := (s.modPlan p.id (fun x => { x with presumed := none })).countRunAhead p.job 2 false
  let s := if stale then drop else s
  let plain (t : State) : State := (t.beginRounds p.id (fun x => { x with
    state := 2, cAt := some now, round0 := now + 4, lastRound := now + 4, pairs := pairs, caps := caps })).writeHeaders p.id
  match pre with
  | some (rounds, assumed, _) =>
    let left := pairs.filterMap (fun q =>
      let had := ((assumed.find? (fun a => a.src == q.src && a.dst == q.dst)).map PairLeft.rem).getD 0
      if had < q.rem then some { q with rem := q.rem - had, pos := had } else none)
    let s1 := (s.modPlan p.id (fun x => { x with presumed := none })).beginRounds p.id (fun x => { x with
      state := 2, cAt := some now, round0 := now + 2, lastRound := now + 2, presumed := rounds, wasPresumed := !p.isEqual, caps := caps
      pairs := left, followUp := flag (decide (left ≠ [])) })
    if (s1.plan p.id).any (fun x => x.cur.offsets.any (fun o => o.2 != 0)) then plain (if p.isEqual then s else drop)
    else (if left = [] then s1 else s1.countRunAhead p.job 2 true).writeHeaders p.id
  | none => plain s

/-- COUNTS_COMPLETE (R395, R399, R405, R406): at the marker C the items of all bolts and this bolt's pairs are checked; then the
grants are booked and the rounds begin, on the presumed plan where there is one. With EQUAL the items were checked at PLAN_CREATE (R382; DEDUCED,
log entry 252). -/
def execCountsComplete (plan : Nat) (s : State) : Host.Outcome State Fault Refusal :=
  match s.plan plan with
  | none => s.finish s
  | some p =>
    let e := p.cur
    let held := (p.ranksOf s.up.bolt).all (fun r => e.lastFrom.contains r)
      && p.bolts.all (fun b => e.ready.any (fun r => r.1 == b))
    if e.state ≠ 1 ∨ e.cAt.isSome ∨ !held then s.finish s
    else if p.isEqual = false ∧ 4194304 < e.ready.foldl (fun a r => a + r.2) 0 then s.finish (s.failExchange plan 2 true)
    else
      let pairs := s.localPairs p e
      if 1048576 < (pairs.filter (fun q => p.bolt q.dst != s.up.bolt)).length then s.finish (s.failExchange plan 3 true)
      else
        s.finish (s.startRounds p pairs)

/-- COUNT_DEADLINE (R395): C not reached D_c ticks after the first count flit fails the exchange with cause 1. -/
def execCountDeadline (plan : Nat) (s : State) : Host.Outcome State Fault Refusal :=
  match s.plan plan with
  | none => s.finish s
  | some p => match p.cur.firstAt with
    | some t =>
      if p.cur.state = 1 ∧ p.cur.cAt.isNone ∧ t + p.deadline ≤ s.clock.now then s.finish (s.failExchange plan 1 true)
      else s.finish s
    | none => s.finish s

/-- Rounds of a running exchange are still to be planned. -/
def Plan.planning (p : Plan) : Bool := p.cur.state == 2 && (p.cur.presumed != [] || p.cur.pairs.any (fun q => q.rem != 0))

/-- The plan whose pass the engines make next: plans that plan at once share them by the tie-break over the 512 plan slots, base offset
0 (R76, R401). Plans of different home bolts may have one slot number, and so one index: the one with the lower plan ID is served first (DESIGN
CHOICE, log entry 242). -/
def State.planNext (s : State) : Option Nat :=
  (tieBreak 512 ((s.clock.tick + s.jacquard.grants) % 512) ((s.jacquard.plans.filter Plan.planning).map (fun p => p.id % 2048))).bind
    (fun k => (s.jacquard.plans.find? (fun p => p.planning && p.id % 2048 == k)).map Plan.id)

/-- PLANNING_PASS (R76, R397 to R402, R405, R408, R411): the next round's cards, presumed ones first; a round whose cards cannot be sent 2
ticks before its start moves, with every later round, and each tick counts one deadline miss. Only the plan that the tie-break serves gets
the pass. -/
def execPlanningPass (plan : Nat) (s : State) : Host.Outcome State Fault Refusal :=
  match s.plan plan with
  | none => s.finish s
  | some p =>
    let e := p.cur
    if s.planNext ≠ some plan ∨ s.activeUnits 11 = [] then s.finish s
    else
      let r := e.nextRound
      let want := e.round0 + r + e.slip
      let start := max want (s.clock.now + 2)
      let late := start - want
      let (cards, pres, left) := match e.presumed with
        | c :: rest => (c, rest, e.pairs)
        | [] =>
          let (c, l) := s.planRound p e r (decide (e.followUp ≠ 0)) e.pairs
          (c, [], l)
      let s1 := s.modPlan plan (fun x => { x with
        misses := x.misses + late, rounds := x.rounds + 1
        followRounds := x.followRounds + flag (decide (e.presumed = [] ∧ e.followUp = 1))
        repairRounds := x.repairRounds + flag (decide (e.presumed = [] ∧ e.followUp = 2))
        cur := { x.cur with
          nextRound := r + 1, slip := e.slip + late, presumed := pres, pairs := left, rounds := e.rounds + 1
          lastRound := start, out := e.out.filter (fun o => decide (s.clock.now < o.1)) ++ [(start, cards)] } })
      s.finish (({ s1 with jacquard := { s1.jacquard with grants := s1.jacquard.grants + 1 } } : State).sendCards p start cards)

/-- EXCHANGE_CHECK_START (R407): 4 ticks after the last round, members that have not reported are set to CHECK. -/
def execExchangeCheckStart (plan : Nat) (s : State) : Host.Outcome State Fault Refusal :=
  match s.plan plan with
  | none => s.finish s
  | some p =>
    let e := p.cur
    let todo := e.presumed ≠ [] ∨ e.pairs.any (fun q => q.rem != 0)
    if e.state ≠ 2 ∨ todo ∨ s.clock.now < e.lastRound + 4 then s.finish s
    else
      let ask := (p.ranksOf s.up.bolt).filter (fun r => !e.complete.contains r)
      let e1 := { e with state := 3, checkAt := s.clock.now, asked := ask, repairing := false }
      let s1 := (s.modExch plan (fun _ => e1)).mirrorExchange plan
      s.finish (ask.foldl (fun t r => t.writeArea p e1 r false) s1)

/-- MEMBER_REPORT_TIMEOUT (R407, R408): a member silent 2 ticks after CHECK counts as short from every source. -/
def execMemberReportTimeout (plan rank : Nat) (s : State) : Host.Outcome State Fault Refusal :=
  match s.plan plan with
  | none => s.finish s
  | some p =>
    if !p.cur.asked.contains rank ∨ s.clock.now < p.cur.checkAt + 2 then s.finish s
    else
      let srcs := ((p.receiveList p.cur rank).map Prod.fst).filter (fun r => r != rank)
      s.finish (s.shortPairs plan rank srcs)

/-- REPORT_FLIT_RECEIVE (R392, R407 to R409): a complete report, or the sources that landed short. -/
def execReportFlitReceive (f : Flit) (s : State) : Host.Outcome State Fault Refusal :=
  let drop : State := { s with jacquard := { s.jacquard with discarded := s.jacquard.discarded + 1 } }
  match s.jacquard.plans.find? (fun p => p.countStream == f.stream) with
  | none => s.finish drop
  | some p =>
    let h := xchgHeader f
    if h.kind ≠ 4 ∨ h.num ≠ p.cur.num % 256 ∨ !(p.ranksOf s.up.bolt).contains h.rank then s.finish drop
    else if p.cur.state ≠ 2 ∧ p.cur.state ≠ 3 then s.finish s
    else
      let rs := xchgRecords f (s.delta p.job)
      if rs = [] ∧ h.last then
        s.finish ((s.modExch p.id (fun e => { e with
          complete := if e.complete.contains h.rank then e.complete else e.complete ++ [h.rank]
          asked := e.asked.filter (· != h.rank) })).localComplete p.id)
      else if p.cur.asked.contains h.rank then s.finish (s.shortPairs p.id h.rank (rs.map Prod.fst))
      else s.finish s

/-- XCHG_READY_RECEIVE (R393, R395, R409, R410, R663): lists written, landed or failed at a plan bolt. -/
def execXchgReadyReceive (m : Msg) (s : State) : Host.Outcome State Fault Refusal :=
  let b := m.body
  let (i, num, bolt, status, cause, items) := (le b 0 2, le b 2 4, le b 6 1, le b 7 1, le b 8 1, le b 10 4)
  s.finish (s.fromGeneel m.src 6 m.type (fun s =>
    match s.plan i with
    | none => s
    | some p =>
      let gone := p.cur.state = 0 ∨ 4 ≤ p.cur.state
      let s1 := if gone ∧ num = p.cur.num + 1 ∧ p.next.isNone then
          (s.modPlan i (fun q => { q with cur := freshExchange num })).mirrorExchange i else s
      let current := ((s1.plan i).map (fun q => q.cur.num == num)).getD false
      let note (e : Exchange) : Exchange :=
        { e with ready := e.ready.filter (fun r => r.1 != bolt) ++ [(bolt, items)] }
      if status = 0 then
        if current then s1.modExch i note
        else if num = p.cur.num + 1 then
          s1.modPlan i (fun q => { q with next := some (note (q.next.getD (freshExchange num))) })
        else s1
      else if !current then
        if status = 2 ∧ num = p.cur.num + 1 ∧ 1 ≤ cause ∧ cause ≤ 9 then
          s1.modPlan i (fun q => { q with next := some { q.next.getD (freshExchange num) with cause := cause } })
        else s1
      else if status = 1 then
        (s1.modExch i (fun e => { e with
          landed := if e.landed.contains bolt then e.landed else e.landed ++ [bolt] })).doneExchange i
      else if 1 ≤ cause ∧ cause ≤ 9 then s1.failExchange i cause false
      else s1))

/-- XCHG_REPAIR_RECEIVE (R393, R408, R663): short pairs of this bolt's sources are planned again. -/
def execXchgRepairReceive (m : Msg) (s : State) : Host.Outcome State Fault Refusal :=
  let b := m.body
  let pairs := (chunks 4 (min 48 (le b 6 1)) (b.drop 8)).map (fun r => (le r 0 2, le r 2 2))
  s.finish (s.fromGeneel m.src 6 m.type (fun s =>
    match s.plan (le b 0 2) with
    | none => s
    | some p => if p.cur.num = le b 2 4 then s.repairPairs p.id pairs else s))

/-! ### The member's agent (R389, R390, R404, R407) -/

/-- Write bytes into an area at an offset, the area growing with zeros. -/
def areaPut (area : Bytes) (off : Nat) (b : Bytes) : Bytes := field area 0 off ++ b ++ area.drop (off + b.length)

/-- A member's exchange by its data stream. -/
def State.memberExch (s : State) (stream : Nat) : MemberExchange :=
  (s.agent.work.exchanges.find? (fun x => x.stream == stream)).getD { stream := stream }

/-- Keep it. -/
def State.putMemberExch (s : State) (x : MemberExchange) : State :=
  s.modAgentWork (fun w => { w with exchanges := w.exchanges.filter (fun y => y.stream != x.stream) ++ [x] })

/-- Entries of the receive list in the area: source rank and items (R389). -/
def MemberExchange.entries (x : MemberExchange) : List (Nat × Nat) :=
  (chunks 8 (le x.area 24 2) (x.area.drop 64)).map (fun b => (le b 0 2, le b 4 4))

/-- The receive list is complete (R390). -/
def MemberExchange.listComplete (x : MemberExchange) : Bool :=
  decide (64 ≤ x.area.length) && le x.area 2 1 % 8 != 0 && decide (64 + 8 * le x.area 24 2 ≤ x.area.length)

/-- Landing offset of a source (R390). -/
def MemberExchange.landingOf (x : MemberExchange) (item rank : Nat) : Nat :=
  item * ((x.entries.takeWhile (fun e => e.1 != rank)).foldl (fun a e => a + e.2) 0)

/-- Bytes of a window of the receive buffer that have landed, however the flits that brought them overlap (R390, R408). -/
def MemberExchange.got (x : MemberExchange) (lo size : Nat) : Nat :=
  ((sortBy Prod.fst ((x.landed.filter (fun l => lo ≤ l.1 && l.1 < lo + size)).map (fun l => (l.1, l.1 + l.2.length)))).foldl
    (fun (a : Nat × Nat) l => (max a.1 l.2, a.2 + (l.2 - max a.1 l.1))) (lo, 0)).2

/-- Sources that have landed short, with the items landed; the member's own pair is copied locally (R390, R407). -/
def MemberExchange.short (x : MemberExchange) (item rank : Nat) : List (Nat × Nat) :=
  (x.entries.filter (fun e => e.1 != rank)).filterMap (fun e =>
    let got := x.got (x.landingOf item e.1) (e.2 * item)
    if got < e.2 * item then some (e.1, got / max 1 item) else none)

/-- A report flit to both Geneels of the member's bolt (R387, R388, R407). -/
def State.sendReport (s : State) (countStream rank num : Nat) (rs : List (Nat × Nat)) : State :=
  let room := if s.hasLinkKey .agent 0 then 27 else 29
  let n := max 1 (cdiv rs.length room)
  s.agentGeneels.foldl (fun t g => (List.range n).foldl (fun u k =>
    let part := (rs.drop (room * k)).take room
    let pay := toLe 1 (4 + 16 * flag (decide (k + 1 = n))) ++ toLe 1 num ++ toLe 2 rank ++ toLe 4 part.length
      ++ part.flatMap (fun r => toLe 2 r.1 ++ zeros 2 ++ toLe 4 r.2)
    u.agentInject { kind := .data, vc := 4, dst := g, src := u.agentAddr, stream := countStream, payload := pay }) t) s

/-- The complete report, once (R407). -/
def State.reportIfComplete (s : State) (stream item countStream rank : Nat) : State :=
  let x := s.memberExch stream
  if x.reported ∨ !x.listComplete ∨ x.short item rank ≠ [] then s
  else (s.putMemberExch { x with reported := true }).sendReport countStream rank (le x.area 4 1) []

/-- AGENT_PLAN_AREA_WRITE (R387, R389, R407): a kind 3 flit writes the plan area; a new exchange number clears what had landed, and
CHECK is answered with the sources that landed short. `item`, `countStream` and `rank` are what the member registered with its
agent (R386). An agent takes exchange flits while it is SERVING or QUIESCED (R201). -/
def execAgentPlanAreaWrite (f : Flit) (item countStream rank : Nat) (s : State) : Host.Outcome State Fault Refusal :=
  let h := xchgHeader f
  if h.kind ≠ 3 ∨ !s.agentForwards then s.finish s
  else
    let x := s.memberExch f.stream
    let area := areaPut x.area (8 * h.pos) (f.payload.drop 8)
    let fresh := decide (h.pos = 0 ∧ le area 4 4 ≠ le x.area 4 4)
    let x1 : MemberExchange := if fresh then { stream := f.stream, area := area } else { x with area := area }
    let s1 := s.putMemberExch x1
    let state := le area 2 1 % 8
    if h.pos = 0 ∧ state = 3 ∧ x1.short item rank ≠ [] then
      s.finish (s1.sendReport countStream rank (le area 4 1) (x1.short item rank))
    else s.finish (s1.reportIfComplete f.stream item countStream rank)

/-- AGENT_EXCHANGE_DATA (R387, R390, R407): a data flit lands at its offset under a complete list of its exchange, inside its
source's entry; any other is discarded and counted as misdelivered at its port. -/
def execAgentExchangeData (port : Nat) (f : Flit) (item countStream rank : Nat) (s : State) :
    Host.Outcome State Fault Refusal :=
  let h := xchgHeader f
  let x := s.memberExch f.stream
  let data := f.payload.drop 8
  let room := (((x.entries.find? (fun e => e.1 == h.rank)).map Prod.snd).getD 0) * item
  if !s.agentForwards then s.finish s
  else if h.kind = 1 ∧ x.listComplete ∧ le x.area 4 1 = h.num ∧ 8 * h.pos + data.length ≤ room then
    let at_ := x.landingOf item h.rank + 8 * h.pos
    let x1 := { x with landed := x.landed.filter (fun l => !(l.1 == at_ && l.2.length ≤ data.length)) ++ [(at_, data)] }
    s.finish ((s.putMemberExch x1).reportIfComplete f.stream item countStream rank)
  else s.finish (s.portCount { node := .agent, port := port } 8)

end Sys2Proof.Machine
end

