-- ==== Sys2Proof/Machine/Power.lean ====
section
/-! DEFINITION. The meanings of the power commands (opcode class 0x09) and of the events of operating points, droop, temperature,
power and shelf current (spec 14_power_and_current). -/

namespace Sys2Proof.Machine

open Sys2Proof

/-! ### Units and domains (R486 to R490) -/

/-- Current step of a power domain in A (R486). -/
def domainStep : Nat → Nat
  | 0 => 20 | 1 => 1 | 2 => 60 | 3 => 6 | 4 => 24 | 5 => 24 | 6 => 24 | 7 => 24 | 8 => 16 | 9 => 16 | 10 => 16 | 11 => 16
  | 12 => 40 | 13 => 40 | 14 => 20 | 15 => 12 | 16 => 30 | 17 => 30 | 18 => 14 | 19 => 2 | _ => 0

/-- Kind of R641 of a kind of R488. -/
def unitKind : Nat → Nat
  | 1 => 9 | 2 => 10 | 3 => 11 | 4 => 12 | 5 => 13 | 6 => 8 | _ => 0

/-- Units of a kind of R488. -/
def disableCount : Nat → Nat
  | 1 => 64 | 2 => 8 | 3 => 16 | 4 => 32 | 5 => 8 | 6 => 40 | 7 => 19 | _ => 0

/-- Domain of a unit, by kind of R641 (R26, R486). -/
def unitDomain (kind idx : Nat) : Nat := match kind with
  | 8 => 8 + idx / 10
  | 9 => if idx % 8 < 4 then 12 else 13
  | 10 => 14
  | 11 => 15
  | 12 => if idx < 16 then 16 else 17
  | _ => 18

/-- Units of a domain that software may disable, by kind and index of R641. -/
def domainUnits (d : Nat) : List (Nat × Nat) :=
  ([8, 9, 10, 11, 12, 13].flatMap (fun k => (List.range (unitCount k)).map (fun i => (k, i)))).filter (fun u => unitDomain u.1 u.2 == d)

/-- Units that a kind and index of R488 name. -/
def namedUnits (kind idx : Nat) : List (Nat × Nat) := if kind = 7 then domainUnits idx else [(unitKind kind, idx)]

/-- A quadrant holds table pages (R488). -/
def State.quadTables (s : State) : Bool := s.calico.tables.any (fun t => t.pages != 0)

/-- A disable is refused (R488), by kind and index of R641; `with_` are units disabled by the same command. -/
def State.disableRefused (s : State) (kind idx : Nat) (with_ : List (Nat × Nat)) : Bool :=
  let stays (k i : Nat) : Bool := s.unitStatus k i == .active && !(k == kind && i == idx) && !with_.contains (k, i)
  match kind with
  | 8 => (idx == 36 || idx == 37) && (s.port idx).link.state == .up &&
      !([36, 37].any (fun p => stays 8 p && (s.port p).link.state == .up))
  | 10 => s.twill.groups != [] && !((List.range 8).any (stays 10))
  | 12 => s.quadTables && !((List.range 8).any (fun i => stays 12 (idx / 8 * 8 + i)))
  | 13 => s.storedShards.any (fun x => x.quadrant == idx / 2) && !((List.range 2).any (fun i => stays 13 (idx / 2 * 2 + i)))
  | _ => false

/-- Put a unit into DRAINING (R487). -/
def State.drainUnit (s : State) (kind idx : Nat) : State :=
  if s.unitStatus kind idx = .active then
    s.setUnit { kind := kind, index := idx, status := .draining, since := s.clock.now, tick := s.tickNow }
  else s

/-- The first fenced unit among some (R490). -/
def State.fencedUnit (s : State) (l : List (Nat × Nat)) : Option (Nat × Nat) := l.find? (fun u => (s.unitStatus u.1 u.2).lost)

/-- Kind and index in range (R488). -/
def unitParams (p : Packet) : Check :=
  let (k, i) := (le p.body 0 1, le p.body 1 1)
  checks [needLen p 8, need (1 ≤ k && k ≤ 7) (p.off 0), need (decide (i < disableCount k) && (k != 7 || 8 ≤ i)) (p.off 1)]

/-- UNIT_DISABLE (R487 to R489): refused, or DRAINING with ST_PENDING; its end is a later event. -/
def opUnitDisable : HostOp := {
  opcode := 0x0904, eff := .ei, jobs := .zero
  params := fun p _ _ => unitParams p
  reserves := fun p _ => (namedUnits (le p.body 0 1) (le p.body 1 1)).map (fun u => .unit u.1 u.2)
  target := fun p s => match (if le p.body 0 1 = 7 then none else s.fencedUnit (namedUnits (le p.body 0 1) (le p.body 1 1))) with
    | some u => .fail 0x30 (unitSource u.1 u.2)
    | none => .ok
  apply := fun p id s =>
    let us := (namedUnits (le p.body 0 1) (le p.body 1 1)).filter (fun u => s.unitStatus u.1 u.2 == .active)
    let slot := ((s.cmd id).map Cmd.master).getD 0
    if us.any (fun u => s.disableRefused u.1 u.2 us) then (s, .done 0x20 (5 + 256 * slot) [])
    else if us = [] then (s, Fin.ok)
    else
      let s1 := us.foldl (fun t u => t.drainUnit u.1 u.2) s
      ((s1.modCmd id (fun c => { c with data := us.flatMap (fun u => [u.1, u.2]) })).postPending id 0, .running) }

/-- UNIT_DISABLE. -/
def execUnitDisable (p : Packet) (s : State) : Host.Outcome State Fault Refusal := s.finish (s.command opUnitDisable p)

/-- An enable of some unit of a domain has been accepted (R487). -/
def State.enablePending (s : State) (d : Nat) : Bool :=
  s.host.cmds.any (fun c => c.pkt.opcode == 0x0905 &&
    (namedUnits (le c.pkt.body 0 1) (le c.pkt.body 1 1)).any (fun u => unitDomain u.1 u.2 == d))

/-- Switch a domain on under the rail budget: at once, or when its booking returns (R490, R504, R629). -/
def State.domainOn (s : State) (d : Nat) : State :=
  if s.up.domains.contains d || s.up.booked.any (fun e => e.1 == d) then s
  else
    let (s1, f) := s.bookRail (100 * domainStep d) s.clock.now
    if f ≤ s1.clock.now then
      { s1 with up := { s1.up with
          domains := sortBy (fun x => x) (d :: s1.up.domains), domainsOffDue := s1.up.domainsOffDue.filter (· != d) } }
    else { s1 with up := { s1.up with
        booked := s1.up.booked ++ [(d, f)], domainsOffDue := s1.up.domainsOffDue.filter (· != d) } }

/-- What a unit still does (R488): undecided steps on a pipeline, updates unapplied at a Calico engine, digests and restores of a
stream engine, flits queued at a port. A tile and a Jacquard engine are idle between batches and passes. -/
def State.unitWork (s : State) (kind idx : Nat) : Nat := match kind with
  | 8 => (s.port idx).link.outQueue.length
  | 10 => (s.twill.groups.filter (fun g =>
      let on (t : GroupTree) : Bool := t.root == s.ownAddr && t.pipeline == idx
      on g.t0 || (match g.t1 with
        | some t => on t
        | none => false))).foldl (fun a g => a + g.undecided) 0
  | 12 => s.calico.tables.foldl (fun a t => a + (t.entries.filter (fun e => s.engineOf e.slot == idx)).length) 0
      + (s.calico.stalled.filter (fun r => s.engineOf r.slot == idx)).length
  | 13 => (s.storedShards.filter (fun x => x.quadrant == idx / 2 && x.fin.isSome && !x.accepted)).length
      + (s.store.serving.filter (fun v => (s.shard v.job v.gen v.len).any (fun x => x.quadrant == idx / 2))).length
  | _ => 0

/-- UNIT_ENABLE (R490): an OFF unit becomes ACTIVE, at once in a domain that is on, after its self-test in one that was off. The
command's stage 1 waits for the tests; a unit that has passed carries 1 outstanding item until the marker. -/
def opUnitEnable : HostOp := {
  opcode := 0x0905, eff := .ei, jobs := .zero
  params := fun p _ _ => unitParams p
  reserves := fun p _ => (namedUnits (le p.body 0 1) (le p.body 1 1)).map (fun u => .unit u.1 u.2)
  target := fun p s =>
    let us := namedUnits (le p.body 0 1) (le p.body 1 1)
    match (if le p.body 0 1 = 7 then none else s.fencedUnit us) with
    | some u => .fail 0x30 (unitSource u.1 u.2)
    | none =>
      match us.find? (fun u => s.unitStatus u.1 u.2 == .draining) with
      | some u => .drain (s.unitWork u.1 u.2)
      | none => .ok
  apply := fun p id s =>
    let us := namedUnits (le p.body 0 1) (le p.body 1 1)
    let off := us.filter (fun u => s.unitStatus u.1 u.2 == .off)
    let fenced := if le p.body 0 1 = 7 then none else s.fencedUnit us
    match fenced with
    | some u => (s, .done 0x30 (unitSource u.1 u.2) [])
    | none =>
      let ready := off.filter (fun u => s.up.domains.contains (unitDomain u.1 u.2))
      let cold := off.filter (fun u => !s.up.domains.contains (unitDomain u.1 u.2))
      let s1 := ready.foldl (fun t u => t.clearUnit u.1 u.2) s
      let s2 := { s1 with up := { s1.up with
        domainsOffDue := s1.up.domainsOffDue.filter (fun d => !us.any (fun u => unitDomain u.1 u.2 == d)) } }
      if cold = [] then (s2, Fin.ok)
      else
        let s3 := (cold.map (fun u => unitDomain u.1 u.2)).eraseDups.foldl (fun t d => t.domainOn d) s2
        (s3.modCmd id (fun c => { c with stage := 1, data := cold.flatMap (fun u => [u.1, u.2]) }), .running) }

/-- UNIT_ENABLE. -/
def execUnitEnable (p : Packet) (s : State) : Host.Outcome State Fault Refusal := s.finish (s.command opUnitEnable p)

/-- Pairs from a flat list of numbers. -/
def pairsOf : List Nat → List (Nat × Nat)
  | a :: b :: r => (a, b) :: pairsOf r
  | _ => []

/-- The running command of an opcode that concerns a unit. -/
def State.unitCmd (s : State) (opcode kind idx : Nat) : Option Cmd :=
  s.host.cmds.find? (fun c => c.pkt.opcode == opcode && c.phase == .running && (pairsOf c.data).contains (kind, idx))

/-- A drain has ended: OFF, with what follows for the kind (R488), and the domain due to go off when it was its last unit. -/
def State.unitOff (s : State) (kind idx : Nat) : State :=
  let s1 := if kind = 10 then s.twillPipelineLost idx else s
  let s2 := s1.setUnit { kind := kind, index := idx, status := .off, cause := 7, tick := s1.tickNow }
  let s3 := if kind = 8 then
      (s2.modNodePort { port := idx } (fun x => { x with link := { x.link with state := .down, step := 0, attempts := 0 } })).reportLink
        { port := idx }
    else s2
  let d := unitDomain kind idx
  if (domainUnits d).all (fun u => s3.unitStatus u.1 u.2 == .off) then
    { s3 with up := { s3.up with domainsOffDue := s3.up.domainsOffDue ++ [d] } }
  else s3

/-- UNIT_DRAIN_COMPLETE (R487 to R489), by kind and index of R641: the unit is OFF; the command ends with its last unit. -/
def execUnitDrainComplete (kind idx : Nat) (s : State) : Host.Outcome State Fault Refusal :=
  if s.unitStatus kind idx ≠ .draining ∨ s.unitWork kind idx ≠ 0 then s.finish s
  else
    let s1 := s.unitOff kind idx
    match s1.unitCmd 0x0904 kind idx with
    | none => s.finish s1
    | some c => s.finish (if (pairsOf c.data).all (fun u => s1.unitStatus u.1 u.2 == .off) then s1.endCmd c.id 0 0 else s1)

/-- UNIT_DRAIN_TIMEOUT (R489): 3,750,000 ticks after acceptance the unit is ACTIVE again. -/
def execUnitDrainTimeout (kind idx : Nat) (s : State) : Host.Outcome State Fault Refusal :=
  match s.unitRec kind idx with
  | some u =>
    let c := s.unitCmd 0x0904 kind idx
    if u.status = .draining ∧ (c.map Cmd.since).getD u.since + 3750000 ≤ s.clock.now then
      match c with
      | some c => s.finish (((pairsOf c.data).foldl (fun t v =>
          if t.unitStatus v.1 v.2 = .draining then t.clearUnit v.1 v.2 else t) s).endCmd c.id 0x50 0)
      | none => s.finish (s.clearUnit kind idx)
    else s.finish s
  | none => s.finish s

/-! ### Operating points (R491 to R496) -/

/-- OPPOINT_SET (R495). -/
def opOppointSet : HostOp := {
  opcode := 0x0901, eff := .ei, jobs := .zero
  params := fun p _ s =>
    let b := p.body
    let v (i old : Nat) : Nat := if le b i 1 = 0xFF then old else le b i 1
    let ok (i : Nat) : Bool := le b i 1 ≤ 3 || le b i 1 == 0xFF
    checks ([needLen p 16] ++ (List.range 10).map (fun i => need (ok i) (p.off i)) ++ s.power.points.zipIdx.map (fun x =>
      need (v (2 * x.2 + 1) x.1.2 ≤ v (2 * x.2) x.1.1) (p.off (2 * x.2 + 1))))
  reserves := fun _ _ => [.oppoint]
  apply := fun p _ s =>
    let b := p.body
    let v (i old : Nat) : Nat := if le b i 1 = 0xFF then old else le b i 1
    ({ s with power := { s.power with points := s.power.points.zipIdx.map (fun x => (v (2 * x.2) x.1.1, v (2 * x.2 + 1) x.1.2)) } },
      Fin.ok) }

/-- OPPOINT_SET. -/
def execOppointSet (p : Packet) (s : State) : Host.Outcome State Fault Refusal := s.finish (s.command opOppointSet p)

/-- Phases in force (R492), bit p. -/
def State.phasesNow (s : State) : Nat :=
  let steady := s.access.slices.any (fun x => x.state == .active && x.ranges.any (fun r => r.1 / 1024 ≤ s.up.bolt && s.up.bolt ≤ r.2 / 1024))
  let solve := s.fabric.solve.any (fun v => v.batches != [])
  let absorb := s.host.cmds.any (fun c => (c.pkt.opcode == 0x0201 || c.pkt.opcode == 0x0204) &&
    (c.phase == .running || (c.phase == .timed && decide (c.due ≤ s.clock.now))))
  let restore := s.store.serving != [] || s.calico.loads != []
  let m := 2 * flag steady + 4 * flag solve + 8 * flag absorb + 16 * flag restore
  if m = 0 then 1 else m

/-- Sensor readings of the sensors not fenced (R501), with their index. -/
def State.sensors (s : State) : List (Nat × Int) :=
  (s.power.temps.zipIdx.map (fun x => (x.2, x.1))).filter (fun x => !(s.unitStatus 15 x.1).lost)

/-- OP3 is allowed (R494). -/
def State.op3Allowed (s : State) : Bool :=
  decide (100 * s.power.average + 31 * s.power.logic ≤ 835000) && s.sensors.all (fun x => decide (x.2 ≤ 950))
    && (match s.power.droopAt with
      | some t => decide (t + 62500 ≤ s.clock.now)
      | none => true)

/-- The highest value at a position of the phases in force. -/
def State.phaseMax (s : State) (f : Nat × Nat → Nat) : Nat :=
  (s.power.points.zipIdx.filter (fun x => bit s.power.phases x.2)).foldl (fun a x => max a (f x.1)) 0

/-- The point that a marker wants: the preferred one as far as R494 and the protective ceilings allow (R493, R498, R501, R503,
R505). -/
def State.wantedPoint (s : State) : Nat :=
  let pref := s.phaseMax Prod.fst
  let p := if pref = 3 ∧ !s.op3Allowed then 2 else pref
  let cap (c : Option Nat) (p : Nat) : Nat := min p (c.getD 3)
  let q0 := cap s.power.droopCap (cap s.power.heatCap (cap s.power.tdpCap p))
  -- no raise of the point within 62,500 ticks of a droop lowering (R498)
  let q := if (s.power.droopAt.map (fun t => decide (s.clock.now < t + 62500))).getD false then min q0 s.power.op else q0
  if 8 < ((List.range 48).filter (fun i => (s.unitStatus 15 i).lost)).length then min q 1 else q

/-- Ticks that a change of operating point takes from its decision: 20 µs (R496). -/
def State.switchTicks (s : State) : Nat := max 1 (s.ticks 20)

/-- Operating points at a marker (R492 to R494, R498, R519): phases, ceilings that end, refusals and ticks below the floor counted,
and a change decided; on a rise the regulator ramps at once (R496). -/
def State.pointMarker (s : State) : State :=
  let now := s.clock.now
  let s1 := { s with power := { s.power with
    phases := s.phasesNow
    droopCap := match s.power.droopAt with
      | some t => if t + 62500 ≤ now then none else s.power.droopCap
      | none => s.power.droopCap
    tdpLow := if s.power.average < 8000 then some (s.power.tdpLow.getD now) else none } }
  let pref := s1.phaseMax Prod.fst
  let floor := s1.phaseMax Prod.snd
  let below (c : Option Nat) (n : Nat) : Nat := match c with
    | some k => if k < floor ∧ s1.power.op < floor then satAdd 32 n 1 else n
    | none => n
  let want := s1.wantedPoint
  ({ s1 with power := { s1.power with
      op3Refusals := if pref = 3 ∧ !s1.op3Allowed then satAdd 32 s1.power.op3Refusals 1 else s1.power.op3Refusals
      belowDroop := below s1.power.droopCap s1.power.belowDroop
      belowHeat := below s1.power.heatCap s1.power.belowHeat
      belowTdp := below s1.power.tdpCap s1.power.belowTdp
      change := if want = s1.power.op then none else match s1.power.change with
        | some (p, t) => if p = want then some (p, t) else some (want, now)
        | none => some (want, now) } } : State).driveCore

/-- Guard band changes are recorded (R500, R711). -/
def State.setGuard (s : State) (g : Nat) : State :=
  if g = s.power.guard then { s with power := { s.power with guardNext := none } }
  else
    let old := s.power.guard
    let s1 : State := { s with power := { s.power with guard := g, guardNext := none } }
    s1.driveCore.fault {
      source := 0xF130, code := 0x13, key := g + 256 * old
      detail := toLeInt 4 s.power.slowdown ++ toLe 1 s.power.guardU ++ toLe 1 s.power.guardA }

/-- OPPOINT_SWITCH (R496, R500): at the first marker after lock and ramp, with the droop flag clear; a fall of the guard band
applies with it, and on a fall the regulator ramps down now. -/
def execOppointSwitch (s : State) : Host.Outcome State Fault Refusal :=
  match s.power.change with
  | some (p, t) =>
    if t + s.switchTicks ≤ s.clock.now ∧ !s.power.droop then
      let s1 := { s with power := { s.power with op := p, change := none } }
      s.finish (match s1.power.guardNext with
        | some g => s1.setGuard g
        | none => s1).driveCore
    else s.finish s
  | none => s.finish s

/-! ### Droop (R497, R498) -/

/-- DROOP_FLAG_SET: the stretcher doubles clock periods (R497, R498). -/
def execDroopFlagSet (s : State) : Host.Outcome State Fault Refusal :=
  s.finish { s with power := { s.power with droop := true, stretching := true } }

/-- DROOP_FLAG_CLEAR (R497). -/
def execDroopFlagClear (s : State) : Host.Outcome State Fault Refusal :=
  s.finish { s with power := { s.power with droop := false, stretching := false } }

/-- DROOP_LOWERING (R498): one step down at the next marker, and none up for 62,500 ticks. -/
def execDroopLowering (s : State) : Host.Outcome State Fault Refusal :=
  s.finish { s with power := { s.power with
    droopCap := some (min s.power.op (s.power.droopCap.getD 3) - 1), droopAt := some s.clock.now
    droopLowerings := satAdd 32 s.power.droopLowerings 1 } }

/-! ### Temperature and power (R501 to R505) -/

/-- THERMAL_SAMPLE (R501): the sensors' readings of a tick in 0.1 °C; one outside −20 to 150 °C is fenced at S3 and ignored. -/
def execThermalSample (temps : List Int) (s : State) : Host.Outcome State Fault Refusal :=
  let bad := ((temps.take 48).zipIdx.filter (fun x => (x.1 < -200 || 1500 < x.1) && !(s.unitStatus 15 x.2).lost)).map Prod.snd
  let s1 := { s with power := { s.power with temps := temps.take 48 } }
  let s2 := bad.foldl (fun t i => t.fault { source := unitSource 15 i, code := 0x10 }) s1
  let cool := (s2.sensors.filter (fun x => !bad.contains x.1)).all (fun x => decide (x.2 ≤ 1000))
  s.finish { s2 with power := { s2.power with
    coolSince := if cool then some (s2.power.coolSince.getD s2.clock.now) else none } }

/-- THERMAL_LOWERING (R503): at every 16th marker while a sensor reads 105 °C or more; at OP0 with 110 °C the crossbars are halved. -/
def execThermalLowering (s : State) : Host.Outcome State Fault Refusal :=
  let hot (t : Int) : Bool := s.sensors.any (fun x => decide (t ≤ x.2))
  let due := match s.power.heatAt with
    | some t => decide (t + 16 ≤ s.clock.now)
    | none => true
  if !hot 1050 ∨ !due then s.finish s
  else
    let at_ := min s.power.op (s.power.heatCap.getD 3)
    if at_ = 0 then
      s.finish { s with power := { s.power with
        heatAt := some s.clock.now, heatCap := some 0, halved := s.power.halved || hot 1100 } }
    else
      let s1 := { s with power := { s.power with heatAt := some s.clock.now, heatCap := some (at_ - 1) } }
      s.finish (s1.fault { source := 0xF130, code := 0x11 })

/-- THERMAL_RECOVERY_RAISE (R503): after 6,250 ticks at 100 °C or less, the crossbar rate first, then one step at a time. -/
def execThermalRecoveryRaise (s : State) : Host.Outcome State Fault Refusal :=
  match s.power.coolSince with
  | some t =>
    if s.clock.now < t + 6250 then s.finish s
    else if s.power.halved then
      s.finish { s with power := { s.power with halved := false, coolSince := some s.clock.now } }
    else match s.power.heatCap with
      | some c => s.finish { s with power := { s.power with
          heatCap := if 2 ≤ c then none else some (c + 1), coolSince := some s.clock.now } }
      | none => s.finish s
  | none => s.finish s

/-- THERM_COMPARATOR_TRIP (R502, R610, R694): clocks stop, THERM_TRIP_N is asserted, S5. -/
def execThermComparatorTrip (sensor : Nat) (s : State) : Host.Outcome State Fault Refusal :=
  let s1 := { s with up := { s.up with tripped := true, clocksStopped := true } }
  s.finish (s1.fault { source := unitSource 15 (sensor % 48), code := 0x12 })

/-- TDP_LIMIT_LOWERING (R40, R505): the average of the last second in 0.1 W, and its logic share, exceed 835 W: one step down at
the next marker. -/
def execTdpLimitLowering (average logic : Nat) (s : State) : Host.Outcome State Fault Refusal :=
  let s1 := { s with power := { s.power with average := average, logic := logic } }
  if average ≤ 8350 then s.finish s1
  else s.finish { s1 with power := { s1.power with
    tdpLow := none, tdpCap := some (min s.power.op (s.power.tdpCap.getD 3) - 1) } }

/-- TDP_RECOVERY_RAISE (R505): the average has stayed below 800 W for 6,250 ticks. -/
def execTdpRecoveryRaise (average logic : Nat) (s : State) : Host.Outcome State Fault Refusal :=
  let s1 := { s with power := { s.power with average := average, logic := logic } }
  match s1.power.tdpLow, s1.power.tdpCap with
  | some t, some c =>
    if average < 8000 ∧ t + 6250 ≤ s1.clock.now then
      s.finish { s1 with power := { s1.power with tdpCap := if 2 ≤ c then none else some (c + 1), tdpLow := some s1.clock.now } }
    else s.finish s1
  | _, _ => s.finish s1

/-- Uncertainty part u for the operating seconds (R499). -/
def uncertainty (opsec : Nat) : Nat := 20 - 5 * (opsec / 9000000)

/-- Ageing part a for a slowdown in 0.001 % (R499). -/
def ageing (slowdown : Int) : Nat := if slowdown ≤ 0 then 0 else 5 * cdiv slowdown.toNat 500

/-- AGEING_MEASURE (R499, R500): the measured slowdown, or the loss of the references; a rise of g applies at once, a fall at the
next change of operating point. The measurement of STAGE2 (R624) gives the bring-up its g: no g was in force before it, so nothing is
recorded (log entry 84). -/
def execAgeingMeasure (slowdown : Int) (refsReadable : Bool) (s : State) : Host.Outcome State Fault Refusal :=
  if !refsReadable then
    let s1 := { s with power := { s.power with refsLost := true } }
    s.finish ((if s.power.refsLost then s1 else s1.fault { source := 0xF130, code := 0x14 }).setGuard 30)
  else
    let (u, a) := (uncertainty s.faults.opsec, ageing slowdown)
    let g := min 30 (10 + u + a)
    let s1 := { s with power := { s.power with slowdown := slowdown, guardU := u, guardA := a, refsLost := false } }
    if s1.up.dev = .stage2 then s.finish ({ s1 with power := { s1.power with guard := g, guardNext := none } } : State).driveCore
    else if s1.power.guard < g then s.finish (s1.setGuard g)
    else s.finish { s1 with power := { s1.power with guardNext := if g < s1.power.guard then some g else none } }

/-- OPSEC_WRITE (R616): every 64 s the operating seconds go to the header blocks. -/
def execOpsecWrite (s : State) : Host.Outcome State Fault Refusal :=
  if s.faults.opsecStored + 64 ≤ s.faults.opsec then
    s.finish { s with faults := { s.faults with opsecStored := s.faults.opsec, nextStored := s.faults.nextIndex } }
  else s.finish s

/-! ### Shelf current (R506 to R518) -/

/-- Entries of SHELF_BUDGET_SET: shelf, φ, budget, volts (R506). -/
def shelfBudgets (p : Packet) : List (Nat × Nat × Nat × Nat) :=
  (chunks 8 (le p.body 0 1) (p.body.drop 8)).map (fun b => (le b 0 1, le b 1 1, le b 2 2, le b 4 2))

/-- SHELF_BUDGET_SET (R506, R513, R518). -/
def opShelfBudgetSet : HostOp := {
  opcode := 0x0903, eff := .ea, jobs := .zero
  params := fun p _ _ =>
    let m := le p.body 0 1
    checks [needAtLeast p 8, need (1 ≤ m && m ≤ 96) (p.off 0), need (p.bodyLen == 8 + 8 * m) 12,
      checks ((shelfBudgets p).zipIdx.map (fun x =>
        let o (i : Nat) : Nat := p.off (8 + 8 * x.2 + i)
        checks [need (decide (x.1.1 ≤ 95)) (o 0), need (decide (x.1.2.1 ≤ 15)) (o 1), need (decide (10 ≤ x.1.2.2.1)) (o 2),
          need (decide (100 ≤ x.1.2.2.2) && decide (x.1.2.2.2 ≤ 1000)) (o 4)]))]
  reserves := fun p _ => (shelfBudgets p).map (fun x => .shelf x.1)
  start := fun p id s =>
    let due := ((s.cmd id).map Cmd.due).getD s.clock.now
    { s with power := { s.power with budgetsDue := s.power.budgetsDue ++ (shelfBudgets p).map (fun x => (due, x)) } }
  apply := fun p id s =>
    let due := ((s.cmd id).map Cmd.due).getD s.clock.now
    let mine := shelfBudgets p
    let s1 := { s with power := { s.power with
      budgetsDue := s.power.budgetsDue.filter (fun d => !(d.1 == due && mine.contains d.2)) } }
    let s2 := mine.foldl (fun t x => t.setShelf x.1 { t.shelf x.1 with phi := x.2.1, budget := x.2.2.1, volts := x.2.2.2 }) s1
    (s2.quotaChanged.bookBarriers, Fin.ok) }

/-- SHELF_BUDGET_SET. -/
def execShelfBudgetSet (p : Packet) (s : State) : Host.Outcome State Fault Refusal := s.finish (s.command opShelfBudgetSet p)

/-- CURRENT_DECLARE (R511). -/
def opCurrentDeclare : HostOp := {
  opcode := 0x0906, eff := .ei, jobs := .nonzero
  params := fun p _ s =>
    let (a, b) := (le p.body 0 2, le p.body 2 2)
    checks [needLen p 16, need (decide (a ≤ b) && (s.slice p.job).any (fun x => x.holds (a, b))) (p.off 0)]
  reserves := fun p _ => [.job p.job]
  apply := fun p _ s =>
    let (a, b) := (le p.body 0 2, le p.body 2 2)
    let one (m : List (Nat × Nat)) (len kind : Nat) : List (Nat × Nat) :=
      let v := le p.body (4 + 2 * kind) 2
      if v = 0xFFFF then m else kvSet m (len * 8 + kind) v
    ({ s with power := { s.power with declared :=
        (List.range (b + 1 - a)).foldl (fun m i => (List.range 6).foldl (fun n k => one n (a + i) k) m) s.power.declared } }, Fin.ok) }

/-- CURRENT_DECLARE. -/
def execCurrentDeclare (p : Packet) (s : State) : Host.Outcome State Fault Refusal := s.finish (s.command opCurrentDeclare p)

/-- CURRENT_STEP_SAMPLE (R510): four readings of block 3 in µJ, 4 ticks before the base, at it, at the member's start and 4 ticks
after; the sample joins the last 16. A member without a shelf has no voltage and gives none. -/
def execCurrentStepSample (addr kind e0 e1 e2 e3 : Nat) (s : State) : Host.Outcome State Fault Refusal :=
  match s.shelfOf addr with
  | none => s.finish s
  | some h =>
    let rise := (e3 - e2) - (e1 - e0)
    let sample := (100 * rise, 4 * s.clock.period * max 1 (s.shelf h).volts)
    let k := addr * 8 + kind
    s.finish { s with power := { s.power with
      samples := kvSet s.power.samples k ((sample :: (kvGet s.power.samples k).getD []).take 16) } }

/-- GRANT_WARM_RENEW (R399, R512, R514): a grant still in use is renewed 16 ticks before it expires, with the same action and offset 0. -/
def execGrantWarmRenew (addr kind action : Nat) (s : State) : Host.Outcome State Fault Refusal :=
  match s.power.grants.find? (fun g => g.addr == addr && g.kind == kind && g.action == action) with
  | none => s.finish s
  | some g =>
    let flowing := g.standing || (kind == 3 && s.store.slots.any (fun x => x.gen % 65536 == action / 65536 && x.job == g.job))
      || (kind == 4 && s.jacquard.plans.any (fun p => exchangeAction p p.cur.num == action && (p.cur.state == 2 || p.cur.state == 3)))
    match g.expiry with
    | some e =>
      if flowing ∧ e ≤ s.clock.now + 16 ∧ s.clock.now < e then
        let g1 := { g with expiry := some (s.clock.now + 16384) }
        s.finish ((s.keepGrant g1).sendGrant g1 0)
      else s.finish s
    | none => s.finish s

/-- Bookings that waited because an agent held 64 grants are made as room comes (R516); starts in this tick later than their
standalone offset throttle their job's tick (R517, R339). -/
def State.grantMarker (s : State) : State :=
  let now := s.clock.now
  let wait := s.power.waiting
  let s1 := wait.foldl (fun t d =>
    let t1 := { t with power := { t.power with waiting := t.power.waiting.filter (· != d) } }
    if t1.grantsAt d.addr < 64 then (t1.grantMember d.kind d.job d.action (now + 2) d.addr d.standing).sendRelease d.kind d.action (now + 2) [d.addr]
    else t) s
  let late := ((s1.power.grants.filter (fun g => g.alone ≤ now && now < g.start)).map Grant.job).eraseDups
  let n := (s1.power.grants.filter (fun g => g.alone ≤ now && now < g.start)).length
  { s1 with
    power := { s1.power with
      shelfDeferrals := satAdd 32 s1.power.shelfDeferrals n
      grants := s1.power.grants.filter (fun g => match g.expiry with
        | some e => decide (now < e)
        | none => true)
      releases := s1.power.releases.filter (fun r => now ≤ r.2.2) }
    access := { s1.access with slices := s1.access.slices.map (fun x =>
      if late.contains x.job then { x with throttled := min 4096 (x.throttled + 1) } else x) } }

/-- Units and domains at a marker (R487, R490): units that have passed their test become ACTIVE, their commands end, and domains due
go off. A port that is DOWN when its domain has come on begins training (R124). -/
def State.unitMarker (s : State) : State :=
  let pass := s.faults.units.filter (fun u => u.status == .off && u.outstanding == 1)
  let s1 := pass.foldl (fun t u =>
    let t1 := t.clearUnit u.kind u.index
    if u.kind = 8 ∧ (t1.port u.index).link.state = .down ∧ t1.portReady u.index then t1.trainPort u.index else t1) s
  let cmds := s1.host.cmds.filter (fun c => c.pkt.opcode == 0x0905 && c.phase == .running && c.stage == 1)
  let s2 := cmds.foldl (fun t c =>
    let us := pairsOf c.data
    if us.any (fun u => t.unitStatus u.1 u.2 == .off) then t
    else match t.fencedUnit us with
      | some u => t.endCmd c.id 0x30 (unitSource u.1 u.2)
      | none => t.endCmd c.id 0 0) s1
  let off := s2.up.domainsOffDue.filter (fun d => !s2.enablePending d && (d != 18 || s2.streams.all (fun e => e.2.job == 0)))
  { s2 with up := { s2.up with
      domains := s2.up.domains.filter (fun d => !off.contains d), domainsOffDue := s2.up.domainsOffDue.filter (fun d => !off.contains d) } }

/-- Power at a marker. -/
def State.powerMarker (s : State) : State := s.unitMarker.pointMarker.grantMarker

/-! ### POWER_STATUS (R519) -/

/-- An accepted UNIT_DISABLE names a unit (R519). -/
def State.disablePending (s : State) (kind idx : Nat) : Bool :=
  s.host.cmds.any (fun c => c.pkt.opcode == 0x0904 && (c.phase == .drain || c.phase == .timed || c.phase == .running) &&
    (namedUnits (le c.pkt.body 0 1) (le c.pkt.body 1 1)).contains (kind, idx))

/-- Map of disabled units of a kind of R641 (R519): DRAINING, OFF, or named by an accepted UNIT_DISABLE; a fenced unit is not
disabled. -/
def State.disabledMap (s : State) (kind : Nat) : Nat :=
  (List.range (unitCount kind)).foldl (fun a i => match s.unitStatus kind i with
    | .draining => a + 2 ^ i
    | .off => a + 2 ^ i
    | _ => if s.disablePending kind i && !(s.unitStatus kind i).lost then a + 2 ^ i else a) 0

/-- Shelves of the bolt: those of its recorded endpoints, and those with settings. -/
def State.boltShelves (s : State) : List Nat :=
  sortBy (fun x => x) ((s.power.shelves.map Prod.fst ++ (s.ownSection.nodes.map TopoNode.shelf).filter (fun h => h < 96)).eraseDups)

/-- The result of POWER_STATUS (R519). -/
def State.powerStatus (s : State) : Bytes :=
  let w := s.power
  let hot := (s.sensors.foldl (fun (a : Option (Nat × Int)) x => match a with
    | some b => if b.2 < x.2 then some x else a
    | none => some x) none).getD (0, 0)
  let flags := flag w.droop + 2 * flag w.stretching + 4 * flag w.heatCap.isSome + 8 * flag w.halved + 16 * flag w.tdpCap.isSome
    + 32 * flag s.op3Allowed
  let maps := s.disabledMap 9 + 2 ^ 64 * s.disabledMap 10 + 2 ^ 72 * s.disabledMap 11 + 2 ^ 88 * s.disabledMap 12
    + 2 ^ 120 * s.disabledMap 13
  toLe 1 w.op ++ toLe 1 w.phases ++ w.points.flatMap (fun x => toLe 1 x.1 ++ toLe 1 x.2) ++ toLe 1 flags ++ toLe 1 w.guard
    ++ toLe 1 w.guardU ++ toLe 1 w.guardA ++ toLeInt 4 w.slowdown ++ toLe 2 w.average ++ toLeInt 2 hot.2 ++ toLe 1 hot.1
    ++ toLe 1 ((List.range 48).filter (fun i => (s.unitStatus 15 i).lost)).length ++ zeros 2 ++ toLe 4 w.belowDroop
    ++ toLe 4 w.belowHeat ++ toLe 4 w.belowTdp ++ toLe 4 w.op3Refusals ++ toLe 4 w.droopLowerings ++ toLe 4 w.railDeferrals
    ++ toLe 4 w.shelfDeferrals ++ toLe 16 maps ++ toLe 5 (s.disabledMap 8) ++ zeros 3
    ++ s.boltShelves.flatMap (fun h =>
      let x := s.shelf h
      toLe 1 h ++ toLe 1 x.phi ++ toLe 2 x.budget ++ toLe 2 x.release ++ toLe 2 x.volts ++ toLe 6 (s.tickOf x.booked.frontier) ++ zeros 2)

/-- POWER_STATUS (R519). -/
def opPowerStatus : HostOp := {
  opcode := 0x0902, jobs := .zero, query := true
  params := fun p _ _ => needLen p 0
  apply := fun _ _ s => (s, Fin.result s.powerStatus) }

/-- POWER_STATUS. -/
def execPowerStatus (p : Packet) (s : State) : Host.Outcome State Fault Refusal := s.finish (s.command opPowerStatus p)

end Sys2Proof.Machine
end

