-- ==== Sys2Proof/Machine/SliceOps.lean ====
section
/-! DEFINITION. Slices (spec 09_slices_and_access R309 to R343): admission and shortfall, slice changes and promotions from
acceptance to commit, failed members, job notices, and the access tables. -/

namespace Sys2Proof.Machine

open Sys2Proof

/-! ### Descriptions (R311) -/

/-- The slice that a description asks for. -/
def sliceOf (p : Packet) : Slice :=
  let b := p.body
  let n := le b 4 2
  { job := le b 0 2, state := .pending, strict := bit (le b 2 1) 0, isolate := bit (le b 2 1) 1, policy := bits (le b 3 1) 5 0
    auto := bit (le b 3 1) 6, guarantee := le b 8 2, isoK := le b 10 1, step := le b 12 2
    ranges := (chunks 8 n (b.drop 48)).map (fun r => (le r 0 2, le r 2 2))
    shares := (chunks 8 (le b 6 2) (b.drop (48 + 8 * n))).map (fun r => (le r 0 1, le r 2 2)) }

/-- An endpoint may be a member of a job (R310), apart from SPARE where a promotion asks. -/
def State.mayBeMember (s : State) (job a : Nat) (spare : Bool) : Bool :=
  match findNode s.fabric.sections a with
  | none => false
  | some n => n.kind == 1 && n.spare == spare && n.attest == 1 && n.ver == 3 && n.shelf != 127 && n.agState == 4
      && !s.access.slices.any (fun x => x.job != job && x.ranges.any (fun r => r.1 ≤ a && a ≤ r.2))
      && !s.access.changes.any (fun c => c.op == 1 && c.job != job && c.slice.ranges.any (fun r => r.1 ≤ a && a ≤ r.2))

/-- The limits of R311 and the members of R310. -/
def State.checkDescription (s : State) (p : Packet) : Check :=
  let b := p.body
  let n := le b 4 2
  let g := le b 6 2
  let x := sliceOf p
  checks ([need (bit p.flags 2) 2, needAtLeast p 48, need (le b 0 2 == p.job) (p.off 0), need (1 ≤ n && n ≤ 504) (p.off 4),
      need (g ≤ 6 && n + g ≤ 504) (p.off 6), needLen p (48 + 8 * (n + g)), need (x.policy ≤ 32) (p.off 3),
      need (x.guarantee ≤ 1133) (p.off 8),
      need (if x.isolate then 1 ≤ x.isoK && x.isoK ≤ 14 else x.isoK == 0) (p.off 10)]
    ++ x.ranges.zipIdx.map (fun r => need (rangesOk 0 (x.ranges.take (r.2 + 1)) && r.1.2 < 0x8000
        && (List.range (r.1.2 + 1 - r.1.1)).all (fun i => s.mayBeMember p.job (r.1.1 + i) false)) (p.off (48 + 8 * r.2)))
    ++ x.shares.zipIdx.map (fun v => need (2 ≤ v.1.1 && v.1.1 ≤ 7 && 1 ≤ v.1.2 && v.1.2 ≤ 896
        && !(x.shares.take v.2).any (fun w => w.1 == v.1.1)) (p.off (48 + 8 * (n + v.2)))))

/-! ### Shortfall (R317) -/

/-- Plain flit payload of a width in 0.1 GB/s, summed lanes (R123). -/
def payloadOf (lanes : Nat) : Nat := lanes * 128000 * 514 * 240 / (544 * 2048 * 100)

/-- Kind 1: members whose routable links carry less than G. -/
def State.itemsCapacity (s : State) (x : Slice) : List SliceItem :=
  x.members.filterMap (fun a =>
    let ls := (s.boltSection (a / 1024)).links.filter (fun l => l.src == a && l.routable && l.lstate == 2)
    let have_ := payloadOf (ls.foldl (fun t l => t + l.width) 0)
    if have_ < x.guarantee then
      some { kind := 1, vc := 0, addr := a, port := 0xFF, len := 0, requested := x.guarantee, available := have_ }
    else none)

/-- Kind 2: members without a route to another member in the current epoch: by the banks of this bolt, and at the members of other bolts by
what a solve of the record gives them (DEDUCED, log entry 233). -/
def State.itemsRoutes (s : State) (x : Slice) : List SliceItem :=
  let bank := bankOfEpoch s.fabric.epoch.current
  let own (a : Nat) : Bool := a / 1024 == s.up.bolt
  let cut (d : Nat) : List Nat := if x.members.all own then [] else
    (solveColumn (snapLinks s.fabric.sections {}) (snapNodes s.fabric.sections) [] {} (fun _ => false) d).unroutable.map Unroutable.src
  let lost := x.members.map (fun d => (d, cut d))
  x.members.flatMap (fun a =>
    let rs := ((s.bankImage a).bank bank).routes
    (lost.filter (fun d => d.1 != a && (if own a then (kvGet rs d.1).getD 0 == 0 else d.2.contains a))).map (fun d =>
      { kind := 2, vc := 0, addr := a, port := 0xFF, len := d.1, requested := d.1, available := 0 }))

/-- Kind 5: target coverage widened (R329). -/
def State.itemsTargets (s : State) (x : Slice) : List SliceItem :=
  let runs := (mergeRuns x.ranges).length
  let used := (s.targetsOf x).length
  if runs + (s.jobGrants x.job).length ≤ 64 then []
  else x.members.map (fun a => { kind := 5, vc := 0, addr := a, port := 0xFF, len := 0, requested := runs, available := used })

/-- Free spares of a bolt: unpromoted spares in the record, by address (R333, R335). -/
def State.freeSpares (s : State) (bolt : Nat) : List TopoNode :=
  (s.boltSection bolt).nodes.filter (fun n => n.kind == 1 && n.spare && !n.retired && n.addr != 0xFFFF)

/-- Kind 6: the policy exceeds the free spares of a member bolt. -/
def State.itemsSpares (s : State) (x : Slice) : List SliceItem :=
  (sliceBolts x).filterMap (fun b =>
    let n := (s.freeSpares b).length
    if n < x.policy then
      some { kind := 6, vc := 0, addr := b * 1024, port := 0xFF, len := 0, requested := x.policy, available := n }
    else none)

/-- Isolation slots (R342): the lowest free of the positions 0 to 14, no more than 14 over all isolated jobs. -/
def State.isoPlaces (s : State) (x : Slice) : Nat × List SliceItem :=
  if !x.isolate then (0, [])
  else
    let others := (s.access.slices.filter (fun y => y.job != x.job && y.isolate)).map Slice.isoSlots
    let used := (others.map (popcount 15)).foldl (· + ·) 0
    let free := (List.range 15).filter (fun i => !others.any (fun m => bit m i))
    let got := free.take (min x.isoK (14 - used))
    (got.foldl (fun m i => m + 2 ^ i) 0,
      if got.length < x.isoK then
        [{ kind := 7, vc := 0, addr := 0xFFFF, port := 0xFF, len := 0, requested := x.isoK, available := got.length }]
      else [])

/-- Admission (R317): the slice with what can be granted, and every shortfall item. -/
def State.admitSlice (s : State) (x : Slice) : Slice :=
  let others := (s.stagedSlices.filter (fun y => y.job != x.job)).flatMap Slice.granted
  let (y, shareItems) := raiseShares others (s.globalPorts x) x
  let (iso, isoItems) := s.isoPlaces x
  { y with
      isoSlots := iso
      items := s.itemsCapacity x ++ s.itemsRoutes x ++ shareItems ++ s.itemsTargets x ++ s.itemsSpares x ++ isoItems }

/-! ### Results (R318, R335) -/

/-- The 16 bytes of an item. -/
def SliceItem.bytes (i : SliceItem) : Bytes :=
  toLe 1 i.kind ++ toLe 1 i.vc ++ toLe 2 i.addr ++ toLe 1 i.port ++ zeros 1 ++ toLe 2 i.len ++ toLe 4 i.requested
    ++ toLe 4 i.available

/-- The result of R318. -/
def Slice.result (x : Slice) : Bytes :=
  let runs := mergeRuns x.ranges
  toLe 2 x.job ++ toLe 1 x.state.ctorIdx ++ toLe 1 x.promotions ++ toLe 2 x.members.length ++ toLe 2 runs.length
    ++ toLe 2 x.items.length ++ toLe 2 x.isoSlots ++ toLe 6 x.commitTick ++ zeros 14
    ++ runs.flatMap (fun r => toLe 2 r.1 ++ toLe 2 r.2) ++ x.items.flatMap SliceItem.bytes

/-- What mirrors a slice (R650 kind 5). -/
def State.mirrorSlice (s : State) (x : Slice) : State := s.mirrorDelta 5 x.job (x.result.take 32)

/-! ### Promotions (R333 to R337) -/

/-- A solve that serves requests of this Geneel has not been called: its call tick has not come (R264, R301). -/
def State.notCalled (s : State) (why : SolveFor → Bool) : Bool :=
  s.fabric.requested.any (fun r => why r.1 && !(match s.fabric.solve with
    | some v => v.frozen && coversRequest v.params r.2
    | none => false))

/-- The spare of a promotion: the one named, or the lowest free k of the LEN's bolt; it meets R310 apart from SPARE and no
promotion has taken it (R333). -/
def State.spareFor (s : State) (job len named : Nat) : Option Nat :=
  let free := ((s.freeSpares (len / 1024)).map TopoNode.addr).filter (fun a =>
    s.mayBeMember job a true && !s.access.changes.any (fun c => c.op == 2 && c.spare == a))
  if named = 0xFFFF then (sortBy (fun a => a) free).head? else free.find? (· == named)

/-- Accept a promotion (R334, R337): it joins the pending repair or an earlier promotion whose solve has not been called, or
asks for its own solve. -/
def State.startPromotion (s : State) (x : Slice) (len spare due : Nat) (cmd : Option Nat) : State :=
  let id := s.access.nextChange
  let repair := s.notCalled (fun w => match w with
    | .repair => true
    | _ => false)
  let mate := s.access.changes.find? (fun d => d.op == 2 && d.stage == .solving && d.rides == 0 && d.len / 1024 == len / 1024
    && s.notCalled (fun w => match w with
      | .slice n => n == d.id
      | _ => false))
  let rides := if repair then 1 else match mate with
    | some d => d.id + 2
    | none => 0
  let c : SliceChange := {
    id := id, op := 2, job := x.job, cmd := cmd, slice := x, len := len, spare := spare, since := s.clock.now, due := due
    rides := rides }
  let s1 := { s with access := { s.access with changes := s.access.changes ++ [c], nextChange := id + 1 } }
  let s2 := s1.mirrorSlice x
  if rides = 0 then s2.solveChange c else s2

/-- The record as a promotion leaves it (R221, R334): the spare holds the LEN, the replaced unit holds no address and its links
are not routable. -/
def promoteSection (len spare : Nat) (x : TopoSection) : TopoSection :=
  let node (n : TopoNode) : TopoNode :=
    if n.addr = len then { n with addr := 0xFFFF, retired := true }
    else if n.addr = spare then { n with addr := len, spare := false } else n
  let link (l : TopoLink) : TopoLink :=
    if l.dst = len then { l with dst := 0xFFFF, dport := 0xFF, routable := false }
    else if l.dst = spare then { l with dst := len }
    else if l.src = spare then { l with src := len } else l
  { x with
      nodes := sortBy TopoNode.addr (x.nodes.map node)
      links := sortBy (fun l => l.src * 256 + l.sport) ((x.links.filter (fun l => l.src != len)).map link) }

/-- Twill's new tree entries for a promoted member are computed on the record as it will be and sent for the commit tick; what
goes to the unit that takes the LEN is sent to its old address (R377). -/
def State.promoteTrees (s : State) (c : SliceChange) : State :=
  let t := (s.putSection (promoteSection c.len c.spare s.ownSection)).twillPromote c.job c.len c.at_
  let fix (n : Nat) (m : Msg) : Msg := if s.mail.nextMsg ≤ n ∧ m.dst = c.len then { m with dst := c.spare } else m
  { t with
      fabric := s.fabric
      mail := { t.mail with
        sent := t.mail.sent.map (fun m => fix m.msgid m)
        outbox := t.mail.outbox.map (fun o => { o with msg := fix o.msg.msgid o.msg, about := (fix o.msg.msgid o.msg).dst })
        flits := s.mail.flits ++ (t.mail.flits.drop s.mail.flits.length).map (fun e =>
          if e.2.dst = c.len then (e.1, { e.2 with dst := c.spare }) else e)
        waiting := t.mail.waiting.map (fun w => { w with msg := fix w.msg.msgid w.msg })
        gate := t.mail.gate.map (fun g => (g.1, fix g.2.msgid g.2)) } }

/-- The commit tick of promotions, before the banks switch (R334): the record, the bank images, the acknowledgements and the key
holders follow the LEN to the spare; the replaced unit is retired. -/
def State.promoteMarker (s : State) : State :=
  (s.access.changes.filter (fun c => c.op == 2 && c.stage == .ordered && c.at_ == s.clock.now)).foldl (fun t c =>
    let move (a : Nat) : Nat := if a = c.spare then c.len else a
    let serial := ((t.ownSection.node c.len).map TopoNode.serial).getD 0
    let mine := (t.access.retired.filter (fun e => e.1 == c.len / 1024)) ++ [(c.len / 1024, serial)]
    let t1 := t.changeSection (promoteSection c.len c.spare)
    let t2 := t1.modEpoch (fun e => { e with
      images := (e.images.filter (fun i => i.addr != c.len)).map (fun i => { i with addr := move i.addr })
      acked := (e.acked.filter (· != c.len)).map move
      awaits := (e.awaits.filter (fun w => w.2 != c.len)).map (fun w => (w.1, move w.2)) })
    State.mirrorRetired { t2 with
        access := { t2.access with
          retired := t2.access.retired.filter (fun e => e.1 != c.len / 1024) ++ lastN 32 mine
          targets := (t2.access.targets.filter (fun i => i.addr != c.len)).map (fun i => { i with addr := move i.addr }) }
        sec := { t2.sec with
          holders := (t2.sec.holders.filter (fun h => h.addr != c.len)).map (fun h => { h with addr := move h.addr })
          sessions := match kvGet t2.sec.sessions c.spare with
            | some k => kvSet (kvErase t2.sec.sessions c.spare) c.len k
            | none => kvErase t2.sec.sessions c.len } }) s

/-! ### What a commit does (R312 to R315, R319, R334) -/

/-- The end of a command of a slice change at its commit: ST_DEGRADED before ST_SPLIT_OVER_TICKS (R313). -/
def State.endChange (s : State) (c : SliceChange) (items : Nat) (result : Bytes) : State :=
  match c.cmd with
  | none => s
  | some id =>
    let asked := ((s.cmd id).map (fun d : Cmd => d.pkt.effTick)).getD 0
    if items ≠ 0 then s.endCmd id 0x31 items result
    else if asked ≠ 0 ∧ c.due < s.clock.now then s.endCmd id 0x13 (s.clock.now - c.due) result
    else s.endCmd id 0 0 result

/-- The base trees of a job whose home bolt is this one are built (R313, R351). -/
def State.sliceTrees (s : State) (x : Slice) : State :=
  if x.home = s.up.bolt then (s.renewBase x.job []).1 else s

/-- Replace a slice. -/
def State.putSlice (s : State) (x : Slice) : State :=
  { s with access := { s.access with
      slices := insertBy Slice.job (s.access.slices.filter (fun y => y.job != x.job)) x } }

/-- The member set of a job has changed: with a barrier group of it, the schedules are made again (R513). -/
def State.requota (s : State) (job : Nat) : State :=
  if s.twill.groups.any (fun g => g.op == 5 && g.job == job) then s.quotaChanged.bookBarriers else s

/-- The effect of a change whose commit tick this marker is. -/
def State.commitChange (s : State) (c : SliceChange) : State :=
  let s0 := { s with access := { s.access with changes := s.access.changes.filter (fun d => d.id != c.id) } }
  if c.op = 2 then
    let s1 := s0.dropWindows c.job (fun a => a == c.len)
    match s1.slice c.job with
    | none => s1.endChange c 0 []
    | some x =>
      let failed := x.failedMembers.filter (· != c.len)
      let y := { x with
        promotions := x.promotions + 1, failedMembers := failed, commitTick := s.tickNow
        state := if x.state = .failed ∧ failed = [] then SliceState.active else x.state }
      let s2 := ((s1.putSlice y).mirrorSlice y).sliceTrees y
      -- the spare gets the standing grants of the job, those of a barrier by its schedule being made again (R334, R513, R518)
      let standing := s2.power.grants.filter (fun g => g.addr == c.len && g.standing && g.kind != 0)
      let s3 := (standing.foldl (fun t g => t.regrant g.addr g.kind g.action g.job) s2).requota c.job
      let s4 := if c.cmd = none then s3.fault { source := 0xF905, code := 0x25, job := c.job } else s3
      s4.endChange c 0 []
  else
    let old := ((s0.slice c.job).map Slice.members).getD []
    let prev := s0.slice c.job
    let x := { c.slice with
      state := .active, commitTick := s.tickNow
      promotions := (prev.map Slice.promotions).getD 0, notices := (prev.map Slice.notices).getD []
      throttled := (prev.map Slice.throttled).getD 0
      failedMembers := ((prev.map Slice.failedMembers).getD []).filter (fun a => c.slice.members.contains a) }
    let gone := old.filter (fun a => c.op = 1 && !x.members.contains a)
    let s1 := (s0.putSlice x).mirrorSlice x
    let s2 := (s1.sliceTrees x).eraseAt c.job 0 gone
    let s3 := s2.dropWindows c.job (fun a => gone.contains a)
    (s3.requota c.job).endChange c x.items.length x.result

/-- What an item is about, whatever part of it could be granted. -/
def SliceItem.about (i : SliceItem) : Nat × Nat × Nat × Nat × Nat := (i.kind, i.vc, i.addr, i.port, i.len)

/-- At each epoch commit ACTIVE slices are looked at again; gaining or losing items is recorded under the job (R319). -/
def State.recheckSlices (s : State) : State :=
  (s.access.slices.filter (fun x => x.state == .active)).foldl (fun t x =>
    let y := t.admitSlice x
    let t1 := t.putSlice { x with items := y.items }
    if x.items.map SliceItem.about == y.items.map SliceItem.about then t1
    else t1.fault { source := 0xF905, code := 0x25, job := x.job }) s

/-- An agent that acknowledged its first ACTIVATE serves from the commit on; the record says so (R201, R310; DEDUCED: the
acknowledgement is the report of its state). A version 2 agent serves without having been attested (R202). -/
def State.servingMarker (s : State) : State :=
  let hit (n : TopoNode) : Bool := (n.agState == 3 || (n.ver == 2 && n.agState == 2)) && n.kind != 4 && s.fabric.epoch.acked.contains n.addr
  if s.ownSection.nodes.any hit then
    s.changeSection (fun x => { x with nodes := x.nodes.map (fun n => if hit n then { n with agState := 4 } else n) })
  else s

/-- What slices do after the commit of an epoch at this marker (R312, R313, R319, R334). -/
def State.sliceMarker (s : State) (committed : Bool) : State :=
  let due := s.access.changes.filter (fun c => c.stage == .ordered && c.at_ == s.clock.now)
  let s1 := due.foldl State.commitChange s
  if committed then s1.servingMarker.recheckSlices else s1

/-- Elements of ACCESS_SET: kind, slot or grant number, 20 bytes (R326). -/
def accessElements (p : Packet) : List (Nat × Nat × Bytes) :=
  (chunks 24 (le p.body 0 1) (p.body.drop 8)).map (fun r => (le r 0 1, le r 1 1, r.drop 4))

/-- A target grant of an element (R328). -/
def grantOf (number : Nat) (b : Bytes) : TargetGrant :=
  { job := le b 0 2, number := number, source := le b 2 2, first := le b 4 2, last := le b 6 2, rights := le b 8 1 }

/-- The grant elements applied: set or clear a numbered grant of a target job (R326, R328). -/
def setGrants (l : List TargetGrant) (es : List (Nat × Nat × Bytes)) : List TargetGrant :=
  (es.filter (fun e => e.1 != 0)).foldl (fun l e =>
    let g := grantOf e.2.1 e.2.2
    let rest := l.filter (fun h => !(h.job == g.job && h.number == g.number))
    if e.1 = 1 then insertBy (fun h => h.job * 16 + h.number) rest g else rest) l

/-- The target jobs of the grant elements. -/
def grantJobs (es : List (Nat × Nat × Bytes)) : List Nat := ((es.filter (fun e => e.1 != 0)).map (fun e => le e.2.2 0 2)).eraseDups

/-- The members of the bolt of each job get the entries that these grants make, by a TARGET_SWAP at an instant (R328). -/
def State.swapGrants (s : State) (jobs : List Nat) (grants : List TargetGrant) (at_ : Nat) : State :=
  let v : State := { s with access := { s.access with grants := grants } }
  (s.access.slices.filter (fun x => jobs.contains x.job && (x.state == .active || x.state == .failed))).foldl (fun t x =>
    (x.members.filter (fun a => a / 1024 == t.up.bolt)).foldl (fun u a => (u.sendTargets a (v.targetsOf x)).1.swapTargets at_ a) t) s

/-- Target grants have changed: the members get their entries, at the earliest tick (R328; DESIGN CHOICE, log entry 73: three ticks on, where
the command names no tick). -/
def State.applyGrants (s : State) (jobs : List Nat) : State := s.swapGrants jobs s.access.grants (s.clock.now + 3)

/-- ACCESS_SET with target grants and a tick: its TARGET_SWAPs are ordered for that tick, three ahead, so that its elements apply together
(R67, R326); from then on it is under way. -/
def State.orderGrants (s : State) : State :=
  (s.host.cmds.filter (fun c => c.pkt.opcode == 0x0405 && c.phase == .timed && c.pkt.effTick != 0 && c.stage == 0
      && decide (s.clock.now < c.due) && decide (c.due ≤ s.clock.now + 3) && grantJobs (accessElements c.pkt) != [])).foldl (fun t c =>
    let es := accessElements c.pkt
    (t.swapGrants (grantJobs es) (setGrants t.access.grants es) c.due).modCmd c.id (fun d => { d with stage := 1, begun := true })) s

/-- What is undone when the staging of changes fails: their commands end with the failure (R118, R288), or a result whose tag
no longer fits is solved again (R285). A change that rode a repair which is past its order waits for its own solve (R314). -/
def State.slicePump (s : State) : State :=
  let e := s.fabric.epoch
  let lost : List SliceChange := s.access.changes.filter (fun c => c.stage == .staging && c.rides != 1 &&
    !(e.owner == .slice && e.stagedId == c.solveId))
  let s1 : State := match e.stagedBy.find? (fun d => d.2.1 == 1) with
    | some d => lost.foldl (fun t c => t.failChange c 0x50 d.2.2) s
    | none => lost.foldl (fun t c => (t.modChange c.id (fun x => { x with stage := .solving, awaits := [] })).solveChange c) s
  let late := s1.access.changes.filter (fun c => (c.stage == .staging || c.stage == .waiting) && c.rides == 1 &&
    !(e.owner == .repair && e.stagedId == c.solveId && (e.state == .staging || e.state == .staged)))
  let s2 := late.foldl (fun t c => (t.modChange c.id (fun x => { x with stage := .solving, awaits := [] })).solveChange c) s1
  -- staged changes whose tick is three ahead; tree entries of promotions that have been ordered
  let s3 := s2.commitChanges.orderGrants
  (s3.access.changes.filter (fun c => c.op == 2 && c.stage == .ordered && c.at_ == s3.clock.now + 2)).foldl State.promoteTrees s3

/-- A reply to target entries or keys of a change (R118, R313). -/
def State.sliceReply (s : State) (msgid : Nat) : State :=
  let got (c : SliceChange) : SliceChange := { c with awaits := c.awaits.filter (· != msgid) }
  ({ s with access := { s.access with changes := s.access.changes.map got } }).commitChanges

/-- An agent stays silent, or refuses, before the commit is ordered: every change staged with that one ends with ST_TIMEOUT
naming it, and nothing applies (R118, R337). -/
def State.sliceSilent (s : State) (msgid addr : Nat) : State :=
  match s.access.changes.find? (fun c => c.stage == .staging && c.awaits.contains msgid) with
  | none => s
  | some c =>
    let all := s.access.changes.filter (fun d => d.stage == .staging && d.solveId == c.solveId)
    let s1 := all.foldl (fun t d => t.failChange d 0x50 addr) s
    if s1.fabric.epoch.owner = .slice then
      (s1.modEpoch (fun e => { e with stagedId := 0, owner := .host, staging := none })).setEpochState
        (if s1.fabric.epoch.retireAt.isSome then .draining else .stable)
    else if c.op = 2 then s1.requestRepair c.len 0xFF 0 else s1

/-! ### A member that is declared failed (R312, R336, R480) -/

/-- A member is declared failed: its slice is FAILED, groups and exchanges see it, its pending grants lapse (R518), and AUTO
promotes the lowest free spare while the policy allows (R336). -/
def State.memberFailed (s : State) (a : Nat) : State :=
  match s.sliceOfLen a with
  | none => s
  | some x =>
    if x.failedMembers.contains a ∨ x.state = .draining then s
    else
      let y := { x with
        failedMembers := x.failedMembers ++ [a], state := if x.state = .active then SliceState.failed else x.state }
      let s1 := ((s.putSlice y).mirrorSlice y).twillMemberFailed x.job a
      let s2 := (s1.exchMemberFailed x.job a).storeMemberFailed x.job a
      let s3 := s2.dropWindows x.job (fun b => b == a)
      -- its pending starts lapse (R518); standing grants wait for the spare
      let s4 : State := { s3 with power := { s3.power with
        waiting := s3.power.waiting.filter (fun d => d.addr != a)
        grants := s3.power.grants.filter (fun g => !(g.addr == a && !g.standing && decide (s3.clock.now < g.start))) } }
      let waiting : Nat := (s4.access.changes.filter (fun c => c.op == 2 && c.job == x.job)).length
      if x.auto && decide (x.promotions + waiting < x.policy) && s4.isPrimary && a / 1024 == s4.up.bolt
          && !s4.access.changes.any (fun c => c.op == 2 && c.len == a) then
        match s4.spareFor x.job a 0xFFFF with
        | some sp => s4.startPromotion y a sp (s4.clock.now + 3) none
        | none => s4.fault { source := 0xF905, code := 0x25, job := x.job }
      else s4

/-! ### Job notices (R339, R340) -/

/-- The 16 bytes of a notice (R339). -/
def Notice.bytes (n : Notice) : Bytes :=
  toLe 6 n.tick ++ toLe 2 n.throttled ++ toLe 1 (flag n.degraded + 2 * flag n.shortfall + 4 * flag n.isolated) ++ zeros 7

/-- Publish one notice per job (R339). -/
def State.publishNotices (s : State) : State :=
  { s with access := { s.access with slices := s.access.slices.map (fun x =>
      let n : Notice := {
        tick := s.tickNow, throttled := x.throttled, degraded := x.degraded, shortfall := x.items != []
        isolated := x.isolate && x.state == .active }
      { x with notices := lastN 16 (x.notices ++ [n]), throttled := 0, degraded := false }) } }

/-- A link or a switch of a legal route had an event at S2 or above, narrowed or was fenced: the jobs that use it show DEGRADED
(R340). The legal routes of a job in the bolt are those of the ACTIVE banks. -/
def State.noteDegraded (s : State) (addr : Nat) (port : Option Nat) : State :=
  let bank := bankOfEpoch s.fabric.epoch.current
  let far := port.bind (fun q => (s.ownSection.link addr q).map (fun l => (l.dst, l.dport)))
  let uses (a : Nat) (q : Option Nat) (x : Slice) : Bool := x.members.any (fun d =>
    match kvGet ((s.bankImage a).bank bank).routes d with
    | some e => match q with
      | some k => (entryPorts e).contains k
      | none => e != 0
    | none => false)
  { s with access := { s.access with slices := s.access.slices.map (fun x =>
      if uses addr port x || (match far with
        | some f => uses f.1 (some f.2) x
        | none => false) then { x with degraded := true } else x) } }

/-! ### Access tables (R320 to R328) -/

/-- A fixed slot's class (R320). -/
def slotClass (slot : Nat) : Nat :=
  if slot = 0 then 1 else if slot = 1 then 2 else if slot = 2 then 3 else if slot = 3 then 6 else if slot = 4 then 7
  else if 8 ≤ slot ∧ slot ≤ 71 then 4 else 0

/-- Read a master entry (R321). -/
def accessOf (b : Bytes) : Access :=
  let w := le b 0 8
  { cls := bits w 3 0, peer := bits w 13 8, job := bits w 27 16, classes := BitVec.ofNat 16 (bits w 47 32), read := bit w 48
    write := bit w 49, cosign := bit w 50, opr := bit w 51, port := bits w 56 56, rings := BitVec.ofNat 64 (le b 8 8) }

/-- The 16 bytes of a master entry (R321). -/
def Access.bytes (a : Access) : Bytes :=
  toLe 8 (a.cls + 2 ^ 8 * a.peer + 2 ^ 16 * a.job + 2 ^ 32 * a.classes.toNat + 2 ^ 48 * flag a.read + 2 ^ 49 * flag a.write
      + 2 ^ 50 * flag a.cosign + 2 ^ 51 * flag a.opr + 2 ^ 56 * a.port) ++ toLe 8 a.rings.toNat

/-- The 20 bytes of a target grant (R328). -/
def TargetGrant.bytes (g : TargetGrant) : Bytes :=
  toLe 2 g.job ++ toLe 2 g.source ++ toLe 2 g.first ++ toLe 2 g.last ++ toLe 1 g.rights ++ zeros 11

/-- Classes that a JOB entry may hold (R323). -/
def jobClasses : Nat := 2 ^ 0 + 2 ^ 1 + 2 ^ 5 + 2 ^ 6 + 2 ^ 7 + 2 ^ 8 + 2 ^ 10 + 2 ^ 12 + 2 ^ 14

/-- The first field of a master entry that its slot does not allow, by its offset in the element of ACCESS_SET (R111, R320, R321, R323,
R326). -/
def Access.badField (a : Access) (slot : Nat) : Option Nat :=
  let first (l : List (Bool × Nat)) : Option Nat := (l.find? (fun c => !c.1)).map (fun c => c.2)
  if slot = 3 ∨ slot = 4 ∨ (5 ≤ slot ∧ slot ≤ 7) then some 1
  else if slot < 72 then
    first [(a.cls == slotClass slot, 4), (a.peer == (if 8 ≤ slot then slot - 8 else 0), 5), (a.job == 0, 6), (a.port == 0, 11),
      (a.rings == 0, 12)]
  else if a.cls = 0 then first [(a.classes == 0, 8), (a.rings == 0, 12)]
  else first [(a.cls == 5, 4), (a.peer == 0, 5), (decide (1 ≤ a.job), 6),
    ((a.classes.toNat &&& jobClasses) == a.classes.toNat, 8), (!a.cosign && !a.opr, 10)]

/-- An entry keeps the limits of its slot (R320, R323). -/
def Access.fits (a : Access) (slot : Nat) : Bool := a.badField slot == none

/-- The first field of a target grant that is out of its range, by its offset in the element (R326, R328). -/
def TargetGrant.badField (g : TargetGrant) (clear : Bool) : Option Nat :=
  (([(decide (g.number ≤ 15), 1), (decide (1 ≤ g.job ∧ g.job ≤ 4095), 4),
    (clear || decide (1 ≤ g.source ∧ g.source ≤ 4095), 6), (clear || decide (g.first < 0x8000), 8),
    (clear || decide (g.first ≤ g.last ∧ g.last < 0x8000), 10), (clear || decide (g.rights < 16), 12)]
    : List (Bool × Nat)).find? (fun c => !c.1)).map (fun c => c.2)

/-- Elements of master entries applied, an entry of class 0 emptying its slot. -/
def setMasters (m : List (Nat × Access)) (es : List (Nat × Nat × Bytes)) : List (Nat × Access) :=
  (es.filter (fun e => e.1 == 0)).foldl (fun m e =>
    let a := accessOf e.2.2
    if a.cls = 0 then kvErase m e.2.1 else kvSet m e.2.1 a) m

/-- The first element whose binding would be a second one of its ring (R324). -/
def secondBinding (m : List (Nat × Access)) (es : List (Nat × Nat × Bytes)) : Option Nat :=
  let final := setMasters m es
  let entries := final.filter (fun e => e.2.cls == 5)
  (es.zipIdx.find? (fun e => e.1.1 == 0 && (let a := accessOf e.1.2.2
    a.cls == 5 && entries.any (fun f => f.1 != e.1.2.1 && f.2.port == a.port && (f.2.rings &&& a.rings) != 0
      && (match es.zipIdx.find? (fun g => g.1.1 == 0 && g.1.2.1 == f.1) with
        | some g => decide (g.2 < e.2)
        | none => true))))).map (fun e => e.2)

end Sys2Proof.Machine
end

