-- ==== Sys2Proof/Machine/SecOps.lean ====
section
/-! DEFINITION. Selvedge's operations (spec 16_selvedge_security): the policy record, refused agents, peer sessions, key
rotation and the sweeps of a memory rotation, and the parts of an attestation report. -/

namespace Sys2Proof.Machine

open Sys2Proof

/-- Change Selvedge's state. -/
def State.modSec (s : State) (f : Sec → Sec) : State := { s with sec := f s.sec }

/-- Change the policy record: its version increases, and both copies are written (R560). -/
def State.setPolicy (s : State) (f : Policy → Policy) : State :=
  s.modSec (fun x => { x with
    policy := { f x.policy with version := (x.policy.version + 1) % 2 ^ 64 }, recordPresent := true })

/-- The key policy's parameters as applied (R572). -/
def KeyPolicy.bytes (k : KeyPolicy) : Bytes :=
  toLe 1 (flag k.reattest) ++ toLe 1 k.minVersion ++ toLe 1 k.digests.length ++ zeros 1 ++ toLe 2 k.exempt.length ++ zeros 2
    ++ toLe 4 k.linkLife ++ toLe 4 k.memLife ++ toLe 4 k.interval ++ zeros 4 ++ k.digests.flatten ++ k.exempt.flatMap (toLe 2)

/-- Read a key policy (R572). -/
def keyPolicyOf (b : Bytes) : KeyPolicy :=
  let a := le b 2 1
  { reattest := bit (le b 0 1) 0, minVersion := le b 1 1, digests := chunks 32 a (b.drop 24)
    exempt := (chunks 2 (le b 4 2) (b.drop (24 + 32 * a))).map (fun x => le x 0 2)
    linkLife := le b 8 4, memLife := le b 12 4, interval := le b 16 4 }

/-- The plaintext of the policy record, in the order of R559, whose layout the spec does not give (DESIGN CHOICE). -/
def State.policyBytes (s : State) : Bytes :=
  let p := s.sec.policy
  toLe 8 p.version ++ field p.operator 0 1793 ++ field p.custodian 0 1793 ++ p.keys.bytes
    ++ toLe 4 p.minFw ++ toLe 1 p.revoked.length ++ zeros 3 ++ p.revoked.flatten
    ++ toLe 1 p.bootSlot ++ toLe 1 p.trials ++ toLe 3 s.up.pcycle ++ toLe 8 s.sec.logFirst ++ toLe 8 s.sec.logNext

/-- No credential is enrolled (R561). -/
def State.unenrolled (s : State) : Bool := s.sec.policy.operator == [] && s.sec.policy.custodian == []

/-- An image slot, 0 A, 1 B. -/
def Sec.slot (x : Sec) (i : Nat) : ImageSlot := if i = 0 then x.slotA else x.slotB

/-- An image may boot under a firmware policy (R556, R558). -/
def ImageSlot.bootable (i : ImageSlot) (minFw : Nat) (revoked : List Bytes) : Bool :=
  i.present && i.verified && decide (minFw ≤ i.version) && !revoked.contains i.digest

/-! ### Refused agents (R572, R573) -/

/-- An agent in use becomes REFUSED: KEY_ERASE for every key it holds; a switch's links are not routable any more, which starts a
repair epoch; an endpoint is declared failed (R573). -/
def State.refuseAgent (s : State) (a : Nat) : State :=
  match s.ownSection.node a with
  | none => s
  | some n =>
    let kinds := ((s.sec.holders.filter (fun h => h.addr == a)).map (fun h => (h.job, h.kind))).eraseDups
    let s1 := kinds.foldl (fun t k => t.eraseAt k.1 k.2 [a]) (s.secLog 6 0 0 0 (toLe 8 n.serial))
    let s2 := s1.changeSection (fun x => { x with
      nodes := x.nodes.map (fun m => if m.addr = a then { m with attest := 2 } else m)
      links := x.links.map (fun l => if n.kind = 2 ∧ (l.src = a ∨ l.dst = a) then { l with routable := false } else l) })
    if n.kind = 2 then s2.requestRepair a 0xFF 0
    else { s2 with access := { s2.access with failDue := s2.access.failDue ++ [a] } }

/-- ATTESTED agents of the bolt. -/
def State.attestedAgents (s : State) : List TopoNode :=
  s.ownSection.nodes.filter (fun n => n.attest == 1 && n.kind != 4 && !n.retired)

/-- Agents whose measurement the key policy no longer accepts become REFUSED (R573). -/
def State.applyMeasurements (s : State) : State :=
  (s.attestedAgents.filter (fun n => !s.sec.policy.keys.accepts (field n.measurement 0 32))).foldl
    (fun t n => t.refuseAgent n.addr) s

/-! ### Peer sessions (R574, R575) -/

/-- The entry of a peer by address. -/
def State.peerAt (s : State) (addr : Nat) : Option Peer := s.twin.peers.find? (fun p => 0xF000 + p.id == addr)

/-- Change a peer's entry. -/
def State.modPeer (s : State) (addr : Nat) (f : Peer → Peer) : State :=
  { s with twin := { s.twin with peers := s.twin.peers.map (fun p => if 0xF000 + p.id = addr then f p else p) } }

/-- Head of a PEER_SESSION body. -/
def State.sessionHead (s : State) (op : Nat) : Bytes := toLe 1 op ++ toLe 1 s.ownId ++ zeros 2

/-- Op 0 by the lower Geneel ID (R574). -/
def State.offerSession (s : State) (p : Peer) : State :=
  if p.id ≤ s.ownId ∨ !s.up.placed then s
  else
    let (s1, n) := s.randomBytes 32
    let s2 := s1.modPeer (0xF000 + p.id) (fun q => { q with ownNonce := some n, farNonce := [], farCert := [] })
    s2.send (s2.msgTo (0xF000 + p.id) 0x68 (s2.sessionHead 0 ++ n ++ field (Config.partBytes "device certificate") 0 3144))

/-- Offers to every listed peer of higher ID, at PEER_LIST_SET and after a reset (R574). -/
def State.offerSessions (s : State) : State := s.twin.peers.foldl (fun t p => t.offerSession p) s

/-- A session is renewed before a MSGID that wraps it wraps: at half the range since it began (R575; DESIGN CHOICE). -/
def State.renewSession (s : State) (p : Peer) (farMsg : Nat) : State :=
  let old (now since : Nat) : Bool := decide (2 ^ 31 ≤ (now + 2 ^ 32 - since) % 2 ^ 32)
  if p.session.isSome && p.ownNonce.isNone && (old s.mail.nextMsg p.since.1 || old farMsg p.since.2) then s.offerSession p else s

/-- The device certificate of a peer: kind 2, the listed serial, a good chain; its key (R553, R575, R659). -/
def peerKey (p : Peer) (cert : Bytes) : Option Bytes :=
  if le cert 2 1 = 2 ∧ le cert 4 8 = p.serial then chainKey cert else none

/-- A peer is refused: recorded, without a session (R575). -/
def State.refusePeer (s : State) (p : Peer) : State :=
  (s.modPeer (0xF000 + p.id) (fun q => { q with session := none, ownNonce := none })).secLog 6 0 0 0 (toLe 8 p.serial)

/-- What a PEER_SESSION signature covers: both nonces, the lower ID's first, and the preceding bytes of the op (R574). -/
def sessionDigest (lower higher body : Bytes) : Bytes := shake32 (ascii "GN7PEER1" ++ field lower 0 32 ++ field higher 0 32 ++ body)

/-- The peer session key (R575). -/
def peerSessionKey (secret : Bytes) (a b : Nat) : Bytes :=
  shake32 (ascii "GN7PRSK1" ++ secret ++ toLe 1 (min a b) ++ toLe 1 (max a b))

/-- The session begins. A peer that has no session before, as after its reset, holds no key. -/
def State.beginSession (s : State) (p : Peer) (key : Bytes) (farMsg : Nat) : State :=
  let s1 := s.modPeer (0xF000 + p.id) (fun q => { q with session := some key, ownNonce := none, since := (s.mail.nextMsg, farMsg) })
  if p.session.isSome then s1
  else s1.modSec (fun x => { x with holders := x.holders.filter (fun h => h.addr != 0xF000 + p.id) })

/-! ### Rotation (R579 to R583) -/

/-- The key owner of a job: the primary of its home bolt (R345, R576); for job 0 the primary of the bolt (DESIGN CHOICE: job 0 has no
slice). -/
def State.keyOwner (s : State) (job : Nat) : Nat := s.primaryOf (if job = 0 then s.up.bolt else s.homeBolt job)

/-- The serving Geneels of a job (R576): of the member bolts, of its tables' shard sets, and, of its generations, the twins that hold
copies of table shards, or under SPLIT the parity holders; every peer for job 0. -/
def State.servingSet (s : State) (job : Nat) : List Nat :=
  let members := match s.slice job with
    | some x => s.memberGeneels x
    | none => [s.ownAddr, s.twinAddr]
  let ids := (s.calico.tables.filter (fun t => t.job == job)).flatMap CalTable.shards
  let stored := s.store.slots.any (fun x => x.job == job) || s.store.known.any (fun k => k.1 == job)
    || s.store.tracks.any (fun k => k.job == job)
  let copies := if stored then ids.flatMap s.tableHolders else []
  let parity := if s.store.mode = 1 ∧ stored then
      (members ++ copies).flatMap (fun a => (List.range 4).map (fun i => 0xF000 + 2 * ((a - 0xF000) / 8 * 4 + i) + (1 - a % 2))) else []
  if job = 0 then s.peerAddrs else (members ++ ids.map (· + 0xF000) ++ copies ++ parity).eraseDups

/-- Those but this one that are healthy. -/
def State.servingOf (s : State) (job : Nat) : List Nat :=
  (s.servingSet job).filter (fun a => a != s.ownAddr && s.geneelUp a)

/-- A rotation is that of a job's kind. -/
def Rotation.is (r : Rotation) (job kind : Nat) : Bool := r.job == job && r.kind == kind

/-- The rotation of a job's kind that runs. -/
def State.rotation (s : State) (job kind : Nat) : Option Rotation := s.sec.rotations.find? (fun r => r.is job kind)

/-- Change a rotation. -/
def State.modRotation (s : State) (job kind : Nat) (f : Rotation → Rotation) : State :=
  s.modSec (fun x => { x with rotations := x.rotations.map (fun r => if r.is job kind then f r else r) })

/-- A rotation ends. -/
def State.endRotation (s : State) (job kind : Nat) : State :=
  s.modSec (fun x => { x with rotations := x.rotations.filter (fun r => !r.is job kind) })

/-- Agents of the bolt that hold a job's key of a kind. -/
def State.agentHolders (s : State) (job kind : Nat) : List Nat := (s.holdersOf job kind).filter (fun a => a < 0xF000)

/-- KEY_STATE to the key owner (R574). -/
def State.sendKeyState (s : State) (dst job kind state gen : Nat) : State :=
  s.send (s.msgTo dst 0x6A (toLe 2 job ++ toLe 1 kind ++ toLe 1 state ++ toLe 2 gen ++ zeros 2 ++ toLe 6 s.tickNow ++ zeros 2))

/-- KEY_ORDER to a serving Geneel for an instant (R574). -/
def State.sendKeyOrder (s : State) (dst job kind op gen at_ : Nat) : State :=
  s.send (s.msgTo dst 0x6B (toLe 2 job ++ toLe 1 kind ++ toLe 1 op ++ toLe 2 gen ++ zeros 2 ++ toLe 6 (s.tickAt at_) ++ zeros 2))

/-- A job's flits travel plain: the key policy exempts it (R577). -/
def State.exempt (s : State) (job kind : Nat) : Bool := kind == 0 && s.sec.policy.keys.exempt.contains job

/-- Generation of the key in force; none without one. -/
def State.currentGen (s : State) (job kind : Nat) : Option Nat := (s.currentKey job kind).map HeldKey.generation

/-- Start a rotation (R579 to R581): the next generation is generated, sent to the serving Geneels and installed at every holding
agent; for a job that becomes exempt there is no next generation. -/
def State.startRotation (s : State) (job kind due : Nat) (cmd : Option Nat) : State :=
  if s.exempt job kind then
    s.modSec (fun x => { x with rotations := x.rotations ++ [{
      job := job, kind := kind, generation := (s.currentGen job kind).getD 0, due := due, plain := true, cmd := cmd
      owner := s.ownAddr }] })
  else
    let gen := match s.currentGen job kind with
      | some g => (g + 1) % 65536
      | none => 0
    let agents := match s.currentKey job kind, s.slice job with
      | none, some x => if kind = 0 then s.keyNodes x else []
      | _, _ => s.agentHolders job kind
    let serving := s.servingOf job
    let (s1, k) := s.newKey job kind gen false (some due)
    let s2 := serving.foldl (fun t a => t.giveKey a k) s1
    let s3 := agents.foldl (fun t a => t.keyInstall a k none .keyInstall) s2
    s3.modSec (fun x => { x with rotations := x.rotations ++ [{
      job := job, kind := kind, generation := gen, due := due, cmd := cmd, outstanding := agents ++ serving, owner := s.ownAddr }] })

/-- A rotation that the key owner begins by itself, for the earliest tick; recorded (R579, R587). -/
def State.autoRotation (s : State) (job kind : Nat) : State :=
  (s.secLog 7 0 0 job []).startRotation job kind (s.clock.now + 3) none

/-- Send KEY_SWITCH and KEY_ORDER switch for the tick of a rotation (R580, R581). A job that becomes exempt is switched to its empty
slot, and its key erased, for that tick (DESIGN CHOICE). -/
def State.orderSwitch (s : State) (r : Rotation) : State :=
  let tick := s.tickAt r.due
  let slot := if r.plain then 1 - slotOf r.generation else slotOf r.generation
  let s1 := (s.agentHolders r.job r.kind).foldl (fun t a => t.keyAct 0x0A a r.job r.kind slot tick .keySwitch) s
  let s2 := if r.plain then
      (s.servingOf r.job).foldl (fun t a => t.sendKeyOrder a r.job r.kind 1 r.generation r.due)
        ((s.agentHolders r.job r.kind).foldl (fun t a => t.keyAct 0x0B a r.job r.kind (1 - slot) tick .keyErase) s1)
    else (s.servingOf r.job).foldl (fun t a => t.sendKeyOrder a r.job r.kind 0 r.generation r.due) s1
  s2.modRotation r.job r.kind (fun x => { x with stage := .ordered })

/-- A rotation and those of the same command have their keys installed everywhere. -/
def State.rotationReady (s : State) (r : Rotation) : Bool :=
  s.sec.rotations.all (fun q => q.outstanding == [] || !(q == r || (q.cmd.isSome && q.cmd == r.cmd)))

/-- Order the switches whose keys are installed and whose tick is at most three ticks ahead. -/
def State.orderSwitches (s : State) : State :=
  (s.sec.rotations.filter (fun r => r.stage == .installing && r.owner == s.ownAddr && decide (r.due ≤ s.clock.now + 3)
    && s.rotationReady r)).foldl (fun t r => t.orderSwitch r) s

/-- A rotation whose keys are not installed in time: no node switches, the new slots are erased unused (R580). -/
def State.failRotation (s : State) (r : Rotation) : State :=
  let s1 := (s.agentHolders r.job r.kind).foldl (fun t a =>
    t.keyAct 0x0B a r.job r.kind (slotOf r.generation) (t.nameTick 3) .keyErase) s
  let s2 := (s.servingOf r.job).foldl (fun t a => t.sendKeyOrder a r.job r.kind 1 r.generation (s.clock.now + 3)) s1
  (s2.eraseKey r.job r.kind (fun k => k.generation == r.generation && !k.current)).endRotation r.job r.kind

/-- A key of a generation is held and staged for an instant, or in force already: what a switch assumes (R79). -/
def State.keyFits (s : State) (job kind gen at_ : Nat) : Bool :=
  s.sec.keys.any (fun k => k.job == job && k.kind == kind && k.generation == gen && (k.current || k.tag == some at_))

/-- A generation comes into force here at the instant it was staged for (R576, R580, R581). Where no key of that generation and instant is
staged, no key switches, and what is staged is erased unused (R79). -/
def State.switchKey (s : State) (job kind gen at_ : Nat) : State :=
  if !s.keyFits job kind gen at_ then s.eraseKey job kind (fun k => !k.used && !k.current)
  else
    let s1 := (if kind = 0 then s.reslot job (gen % 2) else s).modSec (fun x => { x with keys := x.keys.map (fun k =>
      if k.job = job ∧ k.kind = kind then
        (if k.generation = gen then { k with current := true, since := s.clock.now, used := true, tag := none }
         else { k with current := false }) else k) })
    (s1.currentKey job kind).toList.foldl (fun t k => t.mirrorKey k 1) s1

/-! ### Sweeps (R449, R460, R581) -/

/-- First page past the restart pages of a job in a quadrant. -/
def State.restartTop (s : State) (job q : Nat) : Nat :=
  ((s.store.slots.filter (fun x => x.job == job)).flatMap StoreSlot.shards).foldl (fun m x =>
    if x.quadrant = q then max m (x.page + x.pages) else m) 0

/-- The sweep of a job starts: every page of its tables and restart shards is of the old generation. -/
def State.startSweep (s : State) (job : Nat) : State :=
  let tables := s.calico.tables.map (fun t =>
    if t.job = job then { t with sweep := some (List.replicate 32 0), swept := [] } else t)
  let quads := (List.range 4).filter (fun q => s.restartTop job q != 0)
  { s with
    calico := { s.calico with tables := tables }
    store := { s.store with
      sweep := s.store.sweep.filter (fun e => e.1 != job) ++ quads.map (fun q => (job, q, 0))
      swept := s.store.swept.filter (fun e => e.1 != job) } }

/-- The count of a job's unswept pages is zero (R449). -/
def State.sweptAll (s : State) (job : Nat) : Bool :=
  !s.calico.tables.any (fun t => t.job == job && t.sweep.isSome) && !s.store.sweep.any (fun e => e.1 == job)

/-- Pages of a job that a sweep here has not reached (R449, R582). -/
def State.unsweptPages (s : State) (job : Nat) : Nat :=
  let tables := (s.calico.tables.filter (fun t => t.job == job)).map (fun t => match t.sweep with
    | some next => (next.map (fun p => t.pages - p)).foldl (· + ·) 0 - (t.swept.filter (fun e => decide (next.getD e.1 0 ≤ e.2))).length
    | none => 0)
  let quads := (s.store.sweep.filter (fun e => e.1 == job)).map (fun e =>
    (List.range (s.restartTop job e.2.1)).foldl (fun n p => n + flag (s.oldPage job e.2.1 p)) 0)
  (tables ++ quads).foldl (· + ·) 0

/-- What a rotation that runs still waits for (R582): agents and Geneels, or, while a memory key is swept, pages here, at least one for each
Geneel that has not reported. -/
def State.rotationWaits (s : State) (r : Rotation) : Nat :=
  if r.kind = 1 ∧ r.stage = .sweeping then max r.outstanding.length (s.unsweptPages r.job) else r.outstanding.length

/-- One page of a table in a slot is re-encrypted by the sweep (R449). -/
def CalTable.sweepPage (t : CalTable) (slot : Nat) : CalTable :=
  match t.sweep with
  | none => t
  | some next =>
    let p := next.getD slot 0
    if t.pages ≤ p ∨ 32 ≤ slot then t
    else
      let t1 := if t.swept.contains (slot, p) then t else { t with counters := bump t.counters 15 }
      let next1 := next.set slot (p + 1)
      if next1.all (fun n => decide (t.pages ≤ n)) then { t1 with sweep := none, swept := [] } else { t1 with sweep := some next1 }

/-- Bytes of two lines XORed. -/
def xorBytes (a b : Bytes) : Bytes := List.zipWith (· ^^^ ·) a b

/-- Under SPLIT a re-encrypted page of parity is sent as PAR of the XOR of its old and new ciphertext (R484). -/
def State.sweepParity (s : State) (job : Nat) (x : StoreShard) (k : Nat) : State :=
  let (old, new) := (s.memKey job true, s.memKey job false)
  let page := s.dataPage x k
  let ls := (x.lines.filter (fun l => 64 * k ≤ l.1 && l.1 < 64 * (k + 1))).map (fun l =>
    (l.1 - 64 * k, xorBytes (lineCipher old x l) (lineCipher new x l)))
  (List.range 22).foldl (fun u g =>
    let part := (List.range (min 3 (64 - 3 * g))).map (fun i => (kvGet ls (3 * g + i)).getD (zeros 64))
    u.rsSend (u.parityHolder page) 0 0x0010 7 part.length 0 0 (64 * page + 3 * g) part.flatten) s

/-- One restart page of a job in a quadrant is re-encrypted by the sweep (R449, R460, R484). -/
def State.sweepRestart (s : State) (job q : Nat) : State :=
  match s.store.sweep.find? (fun e => e.1 == job && e.2.1 == q) with
  | none => s
  | some e =>
    let p := e.2.2
    let owner := ((s.store.slots.filter (fun x => x.job == job)).flatMap StoreSlot.shards).find? (fun x =>
      x.quadrant == q && x.page ≤ p && p < x.page + x.pages)
    let s1 := match owner with
      | some x => if s.store.mode = 1 ∧ x.accepted ∧ s.oldPage job q p then s.sweepParity job x (p - x.page) else s
      | none => s
    let rest := s1.store.sweep.filter (fun f => !(f.1 == job && f.2.1 == q))
    if s.restartTop job q ≤ p + 1 then
      s1.modStore (fun t => { t with
        sweep := rest, swept := t.swept.filter (fun f => !(f.1 == job && f.2.1 == q)) })
    else s1.modStore (fun t => { t with sweep := rest ++ [(job, q, p + 1)] })

/-- This Geneel has swept its pages of a job: the key owner notes it, or is told by KEY_STATE state 2 (R581). -/
def State.sweepReport (s : State) (job : Nat) : State :=
  match s.rotation job 1 with
  | none => s
  | some r =>
    if r.stage ≠ .sweeping ∨ !s.sweptAll job then s
    else if r.owner = s.ownAddr then
      s.modRotation job 1 (fun x => { x with outstanding := x.outstanding.filter (· != s.ownAddr) })
    else (s.sendKeyState r.owner job 1 2 r.generation).endRotation job 1

/-! ### Replies and markers -/

/-- A node has installed a new generation, or has answered its erasure: it is outstanding no more. -/
def State.keyNodeDone (s : State) (job kind addr : Nat) (stages : List RotationStage) : State :=
  s.modRotation job kind (fun r =>
    if stages.contains r.stage then { r with outstanding := r.outstanding.filter (· != addr) } else r)

/-- A serving Geneel whose bolt has the key everywhere tells the key owner (R580). -/
def State.servingInstalled (s : State) : State :=
  (s.sec.rotations.filter (fun r => r.stage == .serving && r.outstanding == [])).foldl (fun t r =>
    (t.sendKeyState r.owner r.job r.kind 0 r.generation).endRotation r.job r.kind) s

/-- An agent answers KEY_INSTALL (R192, R577, R580). -/
def State.keyInstalled (s : State) (body : Bytes) (addr : Nat) (good : Bool) : State :=
  if !good then s
  else
    let (job, kind) := (le body 0 2, le body 2 1)
    ((s.addHolder job kind addr).keyNodeDone job kind addr [.installing, .serving]).servingInstalled.orderSwitches

/-- An agent answers KEY_ERASE, at once or for later, or stays silent: the key owner waits for it no more (R193, R580, R581). -/
def State.keyErased (s : State) (body : Bytes) (addr : Nat) : State :=
  s.keyNodeDone (le body 0 2) (le body 2 1) addr [.erased]

/-- A Geneel holds a page of a job (R578). -/
def State.holdsPages (s : State) (job : Nat) : Bool :=
  s.calico.tables.any (fun t => t.job == job) || s.store.slots.any (fun x => x.job == job)

/-- Orders of a key owner that are due at a serving Geneel (R574, R580, R581): switch, with the sweep of a memory key; erase, which for
the generation in force, that of a Geneel leaving the serving set, waits until it holds no page of the job (R578). A switch for which
nothing fitting is staged is answered as an erasure (R79). -/
def State.keyOrderMarker (s : State) : State :=
  s.sec.orders.foldl (fun t o =>
    let drop (u : State) : State := u.modSec (fun x => { x with orders := x.orders.filter (· != o) })
    if t.clock.now < o.at_ then t
    else if o.op = 0 then
      let fits := t.keyFits o.job o.kind o.generation o.at_
      let t1 := ((drop t).switchKey o.job o.kind o.generation o.at_).sendKeyState o.owner o.job o.kind (if fits then 1 else 3) o.generation
      if o.kind = 1 ∧ fits then
        (t1.startSweep o.job).modSec (fun x => { x with rotations := x.rotations.filter (fun r => !r.is o.job 1) ++ [{
          job := o.job, kind := 1, generation := o.generation, due := o.at_, stage := .sweeping, owner := o.owner }] })
      else t1
    else
      let leaving := t.currentGen o.job o.kind == some o.generation
      if leaving && o.kind == 1 && t.holdsPages o.job then t
      else
        ((drop t).eraseKey o.job o.kind (fun k => k.generation == o.generation)).sendKeyState o.owner o.job o.kind 3 o.generation) s

/-- A port of a holder of a job's link key is in RETRAIN (R580). -/
def State.holderRetrains (s : State) (job : Nat) : Bool :=
  let hs := s.holdersOf job 0
  s.ownSection.links.any (fun l => l.lstate == 3 && (hs.contains l.src || hs.contains l.dst))

/-- Erase the old generation of a rotation everywhere for an instant (R580, R581). -/
def State.orderErase (s : State) (r : Rotation) (at_ agentsAt : Nat) : State :=
  match s.sec.keys.find? (fun k => k.job == r.job && k.kind == r.kind && !k.current) with
  | none => s.endRotation r.job r.kind
  | some k =>
    let agents := s.agentHolders r.job r.kind
    let serving := s.servingOf r.job
    let s1 := agents.foldl (fun t a => t.keyAct 0x0B a r.job r.kind (slotOf k.generation) (t.tickAt agentsAt) .keyErase) s
    let s2 := serving.foldl (fun t a => t.sendKeyOrder a r.job r.kind 1 k.generation at_) s1
    s2.modRotation r.job r.kind (fun x => { x with stage := .erased, eraseAt := at_, outstanding := agents ++ serving })

/-- One rotation of which this Geneel is the key owner, at step 4 of a marker (R580 to R583). -/
def State.rotationMarker (s : State) (r : Rotation) : State :=
  let now := s.clock.now
  match r.stage with
  | .installing =>
    if now < r.due then s
    else
      let all := s.sec.rotations.filter (fun q => q == r || (q.cmd.isSome && q.cmd == r.cmd))
      let silent := (sortBy (fun a => a) (all.flatMap Rotation.outstanding)).headD 0xFFFF
      let s1 := (all.filter (fun q => q.stage == .installing)).foldl (fun t q => t.failRotation q) s
      match r.cmd with
      | some id => s1.endCmd id 0x50 silent
      | none => s1
  | .ordered =>
    if now < r.due then s
    else if r.plain then
      ((s.eraseKey r.job r.kind (fun _ => true)).modSec (fun x => { x with
        holders := x.holders.filter (fun h => !(h.job == r.job && h.kind == r.kind)) })).endRotation r.job r.kind
    else
      let s1 := s.switchKey r.job r.kind r.generation r.due
      if r.kind = 0 then s1.modRotation r.job 0 (fun x => { x with stage := .erasing })
      else (s1.startSweep r.job).modRotation r.job 1 (fun x => { x with
        stage := .sweeping, outstanding := s.ownAddr :: s.servingOf r.job })
  | .erasing =>
    if now ≤ r.due ∨ s.holderRetrains r.job then s
    else s.orderErase r (max (r.due + 4) (now + 3)) (max (r.due + 4) (now + 3))
  | .sweeping =>
    if r.owner ≠ s.ownAddr then s.sweepReport r.job
    else
      let s1 := (s.sweepReport r.job).modRotation r.job 1 (fun x => { x with
        outstanding := x.outstanding.filter (fun a => a == s.ownAddr || s.geneelUp a) })
      match s1.rotation r.job 1 with
      | some q => if q.outstanding = [] then s1.orderErase q (now + 1) (now + 3) else s1
      | none => s1
  | .erased =>
    if now < r.eraseAt then s
    else
      let s1 := s.eraseKey r.job r.kind (fun k => !k.current)
      if r.outstanding.all (fun a => decide (0xF000 ≤ a) && !s.geneelUp a) then s1.endRotation r.job r.kind else s1
  | .ending | .serving => s

/-- Jobs whose exemption has changed and whose link key does not yet follow it (R573): exempt with a key, or not exempt with a memory
key alone. -/
def State.exemptionDue (s : State) : List Nat :=
  let jobs := ((s.sec.keys.filter (fun k => k.kind == 1 && k.current)).map HeldKey.job).eraseDups
  jobs.filter (fun j => s.keyOwner j == s.ownAddr && (s.rotation j 0).isNone && (s.slice j).isSome
    && s.exempt j 0 == (s.currentKey j 0).isSome)

/-- The keys of a job of which this Geneel is the key owner go to a Geneel that has come to serve it; one that serves it no longer is ordered to
erase them, which it does when it holds no page of the job (R576, R578). While a rotation runs nothing changes. -/
def State.serveKeys (s : State) (x : Slice) : State :=
  let job := x.job
  if s.keyOwner job ≠ s.ownAddr ∨ x.state = .draining ∨ s.sec.rotations.any (fun r => r.job == job) then s
  else
    let ks := s.sec.keys.filter (fun k => k.job == job && k.current)
    let given := ks.foldl (fun t k =>
      ((s.servingOf job).filter (fun a => !(s.holdersOf job k.kind).contains a)).foldl (fun u a => u.giveKey a k) t) s
    let left := (s.sec.holders.filter (fun h => h.job == job && 0xF000 ≤ h.addr && h.addr != s.ownAddr
      && !(s.servingSet job).contains h.addr))
    (left.foldl (fun t h => match t.currentKey job h.kind with
      | some k => t.sendKeyOrder h.addr job h.kind 1 k.generation (t.clock.now + 3)
      | none => t) given).modSec (fun y => { y with holders := y.holders.filter (fun h => !left.contains h) })

/-- Step 4 of R64: rotations, orders of key owners, changes of exemption. Commands end at the tick of their switch (R580). -/
def State.keyMarker (s : State) : State :=
  let s1 := s.keyOrderMarker
  let switched := (s1.sec.rotations.filter (fun r => r.stage == .ordered && decide (r.due ≤ s1.clock.now))).filterMap Rotation.cmd
  let s2 := s1.sec.rotations.foldl (fun t r => match t.rotation r.job r.kind with
    | some q => if q.stage == r.stage then t.rotationMarker q else t
    | none => t) s1
  let s3 := (switched.eraseDups).foldl (fun t id => t.endCmd id 0) s2
  let s4 := s3.exemptionDue.foldl (fun t j => t.autoRotation j 0) s3
  (s4.access.slices.foldl (fun t x => t.serveKeys x) s4).servingInstalled.orderSwitches

/-! ### Attestation reports (R584 to R586) -/

/-- The 96 bytes of a security log record (R587). -/
def SecRec.bytes (r : SecRec) : Bytes :=
  toLe 8 r.index ++ toLe 3 r.pcycle ++ toLe 1 r.kind ++ toLe 6 r.tick ++ toLe 2 r.opcode ++ toLe 1 r.signers ++ zeros 1
    ++ toLe 2 r.job ++ toLe 8 r.change ++ field r.subject 0 32 ++ field r.chain 0 32

/-- Selvedge ROM identity (R710). -/
def selvedgeRom : Nat := 0x6D21C4A83F950E7B

/-- Buckram code identity (R710). -/
def buckramCode : Nat := 0xB3E07A5C19D462F8

/-- Serial of the part's Buckram (R522). -/
def buckramSerial : Nat := le (Config.partBytes "Buckram serial") 0 8

/-- Digest of a key; zero for none. -/
def keyDigest (k : Bytes) : Bytes := if k = [] then zeros 32 else shake32 k

/-- Nodes counted by a key, greatest count first; past sixteen kinds the rest share an entry of zero digest (R586; DESIGN CHOICE: the
sixteenth entry is that one). -/
def measurementEntries (ns : List TopoNode) : List Bytes :=
  let key (n : TopoNode) : Bytes × Nat × Nat := (field n.measurement 0 32, n.kind, n.ver)
  let kinds := (ns.map key).eraseDups
  let counted := kinds.map (fun k => (k, (ns.filter (fun n => key n == k)).length))
  let sorted := sortBy (fun e => 2 ^ 20 - e.2) counted
  let entry (e : (Bytes × Nat × Nat) × Nat) : Bytes := e.1.1 ++ toLe 1 e.1.2.1 ++ toLe 1 e.1.2.2 ++ zeros 2 ++ toLe 4 e.2
  if sorted.length ≤ 16 then sorted.map entry
  else (sorted.take 15).map entry ++ [entry ((zeros 32, 0, 0), ((sorted.drop 15).map Prod.snd).foldl (· + ·) 0)]

/-- The job section (R586), over the members and the agents that hold the job's link key. -/
def State.jobSection (s : State) (x : Slice) : Bytes :=
  let ms := x.members
  let agents := s.agentHolders x.job 0
  let nodes := ((ms ++ agents).eraseDups).filterMap (findNode s.fabric.sections)
  let es := measurementEntries nodes
  let ids := ms.flatMap (fun a => toLe 2 a ++ toLe 8 (((findNode s.fabric.sections a).map TopoNode.serial).getD 0))
  toLe 2 x.job ++ toLe 1 x.state.ctorIdx ++ toLe 1 (flag (!s.exempt x.job 0) + 2 * flag x.isolate)
    ++ toLe 2 ((s.currentGen x.job 0).getD 0) ++ toLe 2 ((s.currentGen x.job 1).getD 0) ++ toLe 2 ms.length
    ++ toLe 2 agents.length ++ toLe 1 es.length ++ zeros 3 ++ shake32 ids ++ es.flatten

/-- The 512 bytes that every report begins with (R585); `len` is the length before the signature block. -/
def State.reportHead (s : State) (nonce : Bytes) (len : Nat) : Bytes :=
  let x := s.sec
  let p := x.policy
  let newest := match x.log.getLast? with
    | some r => field r.chain 0 32
    | none => zeros 32
  toLe 2 1 ++ zeros 2 ++ toLe 4 len ++ toLe 8 s.up.serial ++ identityDigest ++ toLe 1 s.up.order ++ toLe 1 s.up.bolt
    ++ toLe 1 s.up.twin ++ toLe 1 s.twin.role ++ toLe 1 s.up.dev.code ++ toLe 1 (flag x.debugOpen)
    ++ toLe 1 x.debugScope ++ toLe 1 (flag x.trial + 2 * flag x.fallback + 4 * flag s.unenrolled)
    ++ toLe 8 selvedgeRom ++ field (x.slot x.runSlot).digest 0 32 ++ toLe 4 (x.slot x.runSlot).version ++ toLe 1 x.runSlot ++ zeros 3
    ++ toLe 4 p.minFw ++ toLe 8 p.version ++ shake32 s.policyBytes ++ keyDigest p.operator ++ keyDigest p.custodian
    ++ shake32 p.keys.bytes ++ field s.up.recordDigest 0 32 ++ toLe 8 buckramCode ++ toLe 8 buckramSerial
    ++ toLe 8 s.changeCounter ++ toLe 3 s.up.pcycle ++ zeros 1 ++ toLe 5 s.faults.opsec ++ zeros 3 ++ toLe 6 s.tickNow ++ zeros 2
    ++ toLe 8 s.twin.token ++ toLe 6 x.debugTick ++ zeros 2 ++ field x.debugToken 0 32 ++ toLe 8 x.logNext ++ toLe 8 x.logFirst
    ++ newest ++ field nonce 0 32 ++ zeros 64

end Sys2Proof.Machine
end

