-- ==== Sys2Proof/Machine/Security.lean ====
section
/-! DEFINITION. The meanings of the security commands (spec 16_selvedge_security; opcode class 0x0B), of the messages between
Selvedges, and of the events of keys and of debug. -/

namespace Sys2Proof.Machine

open Sys2Proof

/-! ### Attestation and enrolment -/

/-- ATTEST_GET (R550, R584 to R586): a report signed by the device key; the log section holds those of the records asked for that exist. -/
def opAttestGet : HostOp := {
  opcode := 0x0B01, query := true
  params := fun p _ s =>
    let b := p.body
    checks [needLen p 48, need (!bit (le b 32 1) 0 || (s.slice p.job).isSome) (p.off 32), need (le b 33 1 ≤ 32) (p.off 33)]
  apply := fun p id s =>
    if !s.selvedgeRoom { sig := 1 } then
      -- the signature is made in a later tick (R74, R550)
      (s.modCmd id (fun c => { c with phase := .timed, due := s.clock.now + 1, endStatus := 0x13, endDetail := c.endDetail + 1 }), .running)
    else
    let s := s.selvedgeSpend { sig := 1 }
    let b := p.body
    let fl := le b 32 1
    let job := match s.slice p.job with
      | some x => if bit fl 0 then s.jobSection x else []
      | none => []
    let log := if bit fl 1 then
        ((s.sec.log.filter (fun r => decide (le b 40 8 ≤ r.index))).take (le b 33 1)).flatMap SecRec.bytes else []
    let certs := if bit fl 2 then field (Config.partBytes "intermediate certificate") 0 3144
        ++ field (Config.partBytes "device certificate") 0 3144 else []
    let tail := job ++ log ++ certs
    let report := s.reportHead (field b 0 32) (512 + tail.length) ++ tail
    let (s1, n) := s.draw
    let sig := field (Config.falconSign "device" (shake32 (ascii "GN7ATST1" ++ report)) n) 0 1280
    (s1, Fin.result (report ++ toLe 1 5 ++ toLe 1 1 ++ toLe 2 1280 ++ zeros 4 ++ sig)) }

/-- ATTEST_GET. -/
def execAttestGet (p : Packet) (s : State) : Host.Outcome State Fault Refusal := s.finish (s.command opAttestGet p)

/-- ENROL (R566, R567): FIRST on an enrolled part is a bad parameter at its op byte. -/
def opEnrol : HostOp := {
  opcode := 0x0B02, cosign := .oc, jobs := .zero
  params := fun p _ s =>
    let op := le p.body 0 1
    checks [need (op ≤ 3 && (op != 0 || s.unenrolled)) (p.off 0), needLen p (if op = 0 ∨ op = 3 then 3601 else 1801)]
  reserves := fun _ _ => [.policy]
  apply := fun p _ s =>
    let op := le p.body 0 1
    let first := field p.body 8 1793
    let s1 := s.setPolicy (fun x => { x with
      operator := if op = 2 then x.operator else first
      custodian := if op = 1 then x.custodian else if op = 2 then first else field p.body 1808 1793 })
    (s1.secLog 2 0x0B02 3 0 p.digest, Fin.ok) }

/-- ENROL. -/
def execEnrol (p : Packet) (s : State) : Host.Outcome State Fault Refusal := s.finish (s.command opEnrol p)

/-! ### Policies and firmware -/

/-- KEY_POLICY_SET (R572, R573). -/
def opKeyPolicySet : HostOp := {
  opcode := 0x0B03, cosign := .oc, eff := .ei, jobs := .zero
  params := fun p _ _ =>
    let b := p.body
    let (a, x) := (le b 2 1, le b 4 2)
    let k := keyPolicyOf b
    let life (n : Nat) : Bool := n == 0 || decide (62500 ≤ n)
    checks [needAtLeast p 24, need (k.minVersion == 3) (p.off 1), need (a ≤ 64) (p.off 2), need (x ≤ 256) (p.off 4),
      needLen p (24 + 32 * a + 2 * x), need (life k.linkLife) (p.off 8), need (life k.memLife) (p.off 12),
      need (if k.reattest then decide (62500 ≤ k.interval) else life k.interval) (p.off 16),
      checks (k.exempt.zipIdx.map (fun j => need (1 ≤ j.1 && j.1 ≤ 4095) (p.off (24 + 32 * a + 2 * j.2))))]
  reserves := fun _ _ => [.policy]
  apply := fun p _ s =>
    let s1 := (s.setPolicy (fun x => { x with keys := keyPolicyOf p.body })).modSec (fun x => { x with reattested := s.clock.now })
    let s2 := s1.applyMeasurements
    (s2.exemptionDue.foldl (fun t j => t.autoRotation j 0) s2, Fin.ok) }

/-- KEY_POLICY_SET. -/
def execKeyPolicySet (p : Packet) (s : State) : Host.Outcome State Fault Refusal := s.finish (s.command opKeyPolicySet p)

/-- The revoked digests of FW_POLICY_SET (R558). -/
def revokedOf (b : Bytes) : List Bytes := chunks 32 (le b 4 1) (b.drop 8)

/-- FW_POLICY_SET (R558): a slot must stay bootable. -/
def opFwPolicySet : HostOp := {
  opcode := 0x0B04, cosign := .oc, eff := .ei, jobs := .zero
  params := fun p _ s =>
    let b := p.body
    let ok (i : ImageSlot) : Bool := i.bootable (le b 0 4) (revokedOf b)
    checks [needAtLeast p 8, need (le b 4 1 ≤ 16) (p.off 4), needLen p (8 + 32 * le b 4 1),
      need (ok s.sec.slotA || ok s.sec.slotB) (p.off 0)]
  reserves := fun _ _ => [.policy]
  apply := fun p _ s =>
    (s.setPolicy (fun x => { x with minFw := le p.body 0 4, revoked := revokedOf p.body }), Fin.ok) }

/-- FW_POLICY_SET. -/
def execFwPolicySet (p : Packet) (s : State) : Host.Outcome State Fault Refusal := s.finish (s.command opFwPolicySet p)

/-- What the verification of a staged image finds (R556, R558): the slot's contents, and the failure's status and detail. -/
def State.verifyImage (s : State) (image : Bytes) (len : Nat) (off : Nat) : ImageSlot × Option (Nat × Nat) :=
  let (fmt, ver, bodyLen, digest, cert, sig) := Config.imageHeader (field image 0 4096)
  let dig := field digest 0 32
  let body := field image 4096 (len - 4096)
  let i : ImageSlot := { present := true, version := ver, digest := dig, length := bodyLen, verified := false }
  if fmt ≠ 1 ∨ len < 4096 ∨ bodyLen ≠ len - 4096 ∨ le cert 2 1 ≠ 5 then ({ i with present := false }, some (0x22, 4))
  else if shake32 body ≠ dig then (i, some (0x22, 1))
  else
    let good := match firmwareKey cert with
      | some k => falconVerify k (shake32 (ascii "GN7FWIM1" ++ toLe 4 ver ++ toLe 4 bodyLen ++ dig)) (field sig 0 1280)
      | none => false
    if !good then (i, some (0x22, 2))
    else if ver < s.sec.policy.minFw ∨ s.sec.policy.revoked.contains dig then (i, some (0x11, off))
    else ({ i with verified := true }, none)

/-- FW_STAGE (R558): the image, read from host memory, into the slot that is not running; an activation of that slot is
cancelled. Recorded whether or not the image verifies (R587). -/
def opFwStage : HostOp := {
  opcode := 0x0B05, jobs := .zero
  params := fun p _ _ => checks [needLen p 16, need (4096 ≤ le p.body 8 4 && le p.body 8 4 ≤ 2 ^ 25) (p.off 8)]
  reserves := fun _ _ => [.policy]
  apply := fun p _ s =>
    let (i, bad) := s.verifyImage p.dma (le p.body 8 4) (p.off 0)
    let other := 1 - s.sec.runSlot
    let s1 := s.modSec (fun x => { x with
      slotA := if other = 0 then i else x.slotA, slotB := if other = 1 then i else x.slotB
      activated := if x.activated = some other then none else x.activated
      policy := if x.activated = some other then { x.policy with bootSlot := x.runSlot, trials := 0 } else x.policy })
    let s2 := s1.secLog 3 0x0B05 (if bad.isNone then 4 else 0) 0 i.digest
    match bad with
    | some e => (s2, .done e.1 e.2 [])
    | none => (s2, Fin.ok) }

/-- FW_STAGE. -/
def execFwStage (p : Packet) (s : State) : Host.Outcome State Fault Refusal := s.finish (s.command opFwStage p)

/-- FW_ACTIVATE (R557, R558): the boot slot from the next reset, on trial for three boots. -/
def opFwActivate : HostOp := {
  opcode := 0x0B06, eff := .ei, jobs := .zero
  params := fun p _ s => checks [needLen p 8, need (le p.body 0 1 ≤ 1 && (s.sec.slot (le p.body 0 1)).verified) (p.off 0)]
  reserves := fun _ _ => [.policy]
  apply := fun p _ s =>
    let n := le p.body 0 1
    let s1 := s.setPolicy (fun x => { x with bootSlot := n, prevSlot := s.sec.runSlot, trials := 4 })
    ((s1.modSec (fun x => { x with activated := some n })).secLog 3 0x0B06 0 0 (s.sec.slot n).digest, Fin.ok) }

/-- FW_ACTIVATE. -/
def execFwActivate (p : Packet) (s : State) : Host.Outcome State Fault Refusal := s.finish (s.command opFwActivate p)

/-! ### Debug -/

/-- DEBUG_CHALLENGE (R589): a fresh nonce and the identity digest. -/
def opDebugChallenge : HostOp := {
  opcode := 0x0B07, jobs := .zero, query := true
  params := fun p _ _ => needLen p 0
  apply := fun _ _ s =>
    let (s1, n) := s.randomBytes 32
    ((s1.modSec (fun x => { x with nonce := some (n, s.clock.now) })).secLog 4 0x0B07 0 0 [], Fin.result (n ++ identityDigest)) }

/-- DEBUG_CHALLENGE. -/
def execDebugChallenge (p : Packet) (s : State) : Host.Outcome State Fault Refusal := s.finish (s.command opDebugChallenge p)

/-- The debug nonce is valid: issued within the last 3,750,000 ticks (R589). -/
def State.nonceValid (s : State) (n : Bytes) : Bool :=
  match s.sec.nonce with
  | some (m, at_) => n == m && decide (s.clock.now < at_ + 3750000)
  | none => false

/-- DEBUG_UNLOCK (R590, R591). -/
def opDebugUnlock : HostOp := {
  opcode := 0x0B08, cosign := .oc, jobs := .zero
  params := fun p slot s =>
    let b := p.body
    let key := field b 40 1793
    let paruren := keyId key == debugKeyId
      && falconVerify key (shake32 (ascii "GN7DBGA1" ++ field b 0 32 ++ identityDigest ++ field b 32 1)) (field b 1840 1280)
    checks [needLen p 3120, need (s.nonceValid (field b 0 32)) (p.off 0),
      needRight (!s.sec.keys.any (fun k => k.job != 0)) 5 slot, if paruren then .ok else .fail 0x22 2]
  reserves := fun _ _ => [.debug]
  apply := fun p _ s =>
    let token := shake32 (field p.body 1840 1280)
    let s1 := s.modSec (fun x => { x with
      nonce := none, debugOpen := true, debugScope := bits (le p.body 32 1) 2 0, debugTick := s.tickNow, debugToken := token })
    -- PD19 is switched on under the rail budget (R486, R504)
    let s2 := s1.domainOn 19
    (s2.secLog 4 0x0B08 7 0 token, Fin.ok) }

/-- DEBUG_UNLOCK. -/
def execDebugUnlock (p : Packet) (s : State) : Host.Outcome State Fault Refusal := s.finish (s.command opDebugUnlock p)

/-- SECLOG_CLEAR (R588). -/
def opSeclogClear : HostOp := {
  opcode := 0x0B09, cosign := .oc, jobs := .zero
  params := fun p _ s => checks [needLen p 8, need (le p.body 0 8 ≤ s.sec.logNext) (p.off 0)]
  reserves := fun _ _ => [.policy]
  apply := fun p _ s =>
    let i := le p.body 0 8
    -- the clearing's own record is chained to the newest one, which may itself be cleared
    let s1 := (s.setPolicy (fun x => x)).secLog 5 0x0B09 3 0 p.digest
    (s1.modSec (fun x => { x with
      log := x.log.filter (fun r => decide (i ≤ r.index)), logFirst := max x.logFirst i }), Fin.ok) }

/-- SECLOG_CLEAR. -/
def execSeclogClear (p : Packet) (s : State) : Host.Outcome State Fault Refusal := s.finish (s.command opSeclogClear p)

/-! ### Rotation -/

/-- Kinds that KEY_ROTATE names (R579). -/
def rotateKinds (p : Packet) : List Nat := [0, 1].filter (fun k => bit (le p.body 0 1) k)

/-- KEY_ROTATE (R579 to R583), by the key owner; it ends at the tick of its switch. -/
def opKeyRotate : HostOp := {
  opcode := 0x0B0A, eff := .ea, jobs := .nonzero
  params := fun p slot s => checks [needLen p 8, need (1 ≤ le p.body 0 1 && le p.body 0 1 ≤ 3) (p.off 0), need (p.effTick != 0) 16,
    need (s.currentKey p.job 1).isSome 22, needRight (s.keyOwner p.job == s.ownAddr && s.isPrimary && !s.sec.debugOpen) 5 slot]
  target := fun p s =>
    let rs := s.sec.rotations.filter (fun r => r.job == p.job && (rotateKinds p).contains r.kind)
    if rs = [] then .ok else .drain ((rs.map s.rotationWaits).foldl (· + ·) 0)
  start := fun p id s =>
    let s1 := s.modCmd id (fun c => { c with phase := .running, begun := true })
    (rotateKinds p).foldl (fun t k => t.startRotation p.job k (s.instantOf p.effTick) (some id)) s1
  apply := fun p id s =>
    -- a queued rotation whose drain has ended after its tick runs for the earliest tick (R116)
    ((rotateKinds p).foldl (fun t k => t.startRotation p.job k (s.clock.now + 3) (some id)) s, .running) }

/-- KEY_ROTATE. -/
def execKeyRotate (p : Packet) (s : State) : Host.Outcome State Fault Refusal := s.finish (s.command opKeyRotate p)

/-! ### Co-sign holds (R105, R707, R708) -/

/-- COSIGN_STATE_GET (R707). -/
def opCosignStateGet : HostOp := {
  opcode := 0x0B0B, query := true
  params := fun p _ _ => needLen p 0
  apply := fun _ _ s =>
    let holds := s.host.cmds.filterMap (fun c => match c.phase with
      | .signature cred expiry => some (expiry, cred, c.pkt)
      | _ => none)
    let entry (h : Nat × Nat × Packet) : Bytes :=
      field h.2.2.digest 0 32 ++ toLe 2 h.2.2.opcode ++ toLe 1 h.2.1 ++ toLe 1 h.2.2.port ++ toLe 1 h.2.2.ring ++ zeros 1
        ++ toLe 6 (s.tickAt h.1) ++ toLe 4 h.2.2.tag
    (s, Fin.result (toLe 8 s.changeCounter ++ toLe 1 holds.length ++ zeros 7 ++ (sortBy Prod.fst holds).flatMap entry)) }

/-- COSIGN_STATE_GET. -/
def execCosignStateGet (p : Packet) (s : State) : Host.Outcome State Fault Refusal := s.finish (s.command opCosignStateGet p)

/-- COSIGN_WITHDRAW (R105, R708). Where the order of R106 tests that the master may give co-signatures (reason 7) is open, DESIGN CHOICE (log
entry 191): at check 8, after the effective tick and the length of the parameters. -/
def opCosignWithdraw : HostOp := {
  opcode := 0x0B0C, jobs := .zero
  params := fun p slot s => checks [needLen p 32, needRight (s.master slot).cosign 7 slot]
  apply := fun p _ s => match s.holdOf (field p.body 0 32) with
    | some c => (s.endCmd c.id 0x20 (4 + 256 * c.master), .done 0 1 [])
    | none => (s, .done 0 0 []) }

/-- COSIGN_WITHDRAW. -/
def execCosignWithdraw (p : Packet) (s : State) : Host.Outcome State Fault Refusal := s.finish (s.command opCosignWithdraw p)

/-! ### Peer sessions (R574, R575) -/

/-- PEER_SESSION_OFFER: op 0 at the higher ID: its answer with a nonce of its own, then its encapsulation key and measurement, signed
(R574). -/
def execPeerSessionOffer (m : Msg) (s : State) : Host.Outcome State Fault Refusal :=
  s.finish (s.fromGeneel m.src 0x0B m.type (fun s =>
    match s.peerAt m.src with
    | none => s
    | some p =>
      let b := m.body
      let cert := field b 36 3144
      if le b 0 1 ≠ 0 ∨ le b 1 1 ≠ p.id ∨ s.ownId ≤ p.id then s
      else if (peerKey p cert).isNone then s.refusePeer p
      else
        let (s1, mine) := s.randomBytes 32
        let (s2, k) := s1.draw
        let s3 := s2.modPeer m.src (fun q => { q with
          ownNonce := some mine, farNonce := field b 4 32, farCert := cert, kem := k })
        let s4 := s3.send (s3.msgTo m.src 0x68 (s3.sessionHead 1 ++ mine ++ field (Config.partBytes "device certificate") 0 3144))
        let x := s4.sec
        let head := s4.sessionHead 2 ++ field (Config.kemPublic ("peer session " ++ toString k)) 0 1568
          ++ field (x.slot x.runSlot).digest 0 32 ++ toLe 4 (x.slot x.runSlot).version ++ zeros 4
        let (s5, n) := s4.draw
        let sig := field (Config.falconSign "device" (sessionDigest (field b 4 32) mine head) n) 0 1280
        s5.send (s5.msgTo m.src 0x68 (head ++ sig))))

/-- PEER_SESSION_ANSWER: op 1 at the lower ID: nonce and certificate of the peer (R574). -/
def execPeerSessionAnswer (m : Msg) (s : State) : Host.Outcome State Fault Refusal :=
  s.finish (s.fromGeneel m.src 0x0B m.type (fun s =>
    match s.peerAt m.src with
    | none => s
    | some p =>
      let b := m.body
      if le b 0 1 ≠ 1 ∨ le b 1 1 ≠ p.id ∨ p.ownNonce.isNone ∨ p.id ≤ s.ownId then s
      else if (peerKey p (field b 36 3144)).isNone then s.refusePeer p
      else s.modPeer m.src (fun q => { q with farNonce := field b 4 32, farCert := field b 36 3144 })))

/-- PEER_SESSION_KEY: op 2 at the lower ID: signature, version and measurement of the peer are checked; the ciphertext goes out signed
and the session begins (R574, R575). -/
def execPeerSessionKey (m : Msg) (s : State) : Host.Outcome State Fault Refusal :=
  s.finish (s.fromGeneel m.src 0x0B m.type (fun s =>
    match s.peerAt m.src with
    | none => s
    | some p =>
      match p.ownNonce, peerKey p p.farCert with
      | some mine, some key =>
        let b := m.body
        let good := falconVerify key (sessionDigest mine p.farNonce (field b 0 1612)) (field b 1612 1280)
          && decide (s.sec.policy.minFw ≤ le b 1604 4) && !s.sec.policy.revoked.contains (field b 1572 32)
        if le b 0 1 ≠ 2 ∨ le b 1 1 ≠ p.id ∨ p.id ≤ s.ownId then s
        else if !good then s.refusePeer p
        else
          let (s1, n) := s.draw
          let (ct, secret) := Config.kemEncap (field b 4 1568) n
          let head := s1.sessionHead 3 ++ field ct 0 1568
          let (s2, k) := s1.draw
          let sig := field (Config.falconSign "device" (sessionDigest mine p.farNonce head) k) 0 1280
          (s2.send (s2.msgTo m.src 0x68 (head ++ sig))).beginSession p (peerSessionKey secret s.ownId p.id) m.msgid
      | _, _ => s))

/-- PEER_SESSION_CIPHERTEXT: op 3 at the higher ID (R574, R575). -/
def execPeerSessionCiphertext (m : Msg) (s : State) : Host.Outcome State Fault Refusal :=
  s.finish (s.fromGeneel m.src 0x0B m.type (fun s =>
    match s.peerAt m.src with
    | none => s
    | some p =>
      match p.ownNonce, peerKey p p.farCert with
      | some mine, some key =>
        let b := m.body
        if le b 0 1 ≠ 3 ∨ le b 1 1 ≠ p.id ∨ s.ownId ≤ p.id then s
        else if falconVerify key (sessionDigest p.farNonce mine (field b 0 1572)) (field b 1572 1280) then
          (s.selvedgeSpend { ver := 1, kem := 1 }).beginSession p (peerSessionKey (Config.kemDecap ("peer session " ++ toString p.kem) (field b 4 1568)) s.ownId p.id) m.msgid
        else s.refusePeer p
      | _, _ => s))

/-! ### Keys between Geneels -/

/-- KEY_XFER_RECEIVE (R574 to R577, R580, R591): a wrapped key of the key owner is held; the primary of a bolt installs a link key at
the agents of its bolt that hold the job's, and tells the owner when all have it. One whose tag is wrong, or that a debug session
bars, is not taken. -/
def execKeyXferReceive (m : Msg) (s : State) : Host.Outcome State Fault Refusal :=
  s.finish (s.fromGeneel m.src 0x0B m.type (fun s =>
    match (s.peerAt m.src).bind Peer.session with
    | none => s
    | some sk =>
      let b := m.body
      let (job, kind, gen) := (le b 0 2, le b 2 1, le b 4 2)
      let nonce := toLe 4 m.msgid ++ zeros 8
      let key := field (Config.gcmDecrypt sk nonce (field b 8 32)) 0 32
      if field (Config.gcmTag sk nonce (field b 0 8) key) 0 16 ≠ field b 40 16 ∨ 4095 < job ∨ 1 < kind
          ∨ (s.sec.debugOpen ∧ job ≠ 0) then s
      else
        let k : HeldKey := {
          job := job, kind := kind, generation := gen, key := key, current := (s.currentKey job kind).isNone, since := s.clock.now
          used := (s.currentKey job kind).isNone }
        let s1 := s.holdKey k
        let agents := if s.isPrimary ∧ kind = 0 then s1.agentHolders job 0 else []
        let s2 := agents.foldl (fun t a => t.keyInstall a k none .keyInstall) s1
        (s2.modSec (fun x => { x with rotations := x.rotations.filter (fun r => !r.is job kind) ++ [{
          job := job, kind := kind, generation := gen, due := 0, stage := .serving, outstanding := agents
          owner := m.src }] })).servingInstalled))

/-- KEY_STATE_RECEIVE (R580, R581): the key owner gathers what the serving Geneels report. -/
def execKeyStateReceive (m : Msg) (s : State) : Host.Outcome State Fault Refusal :=
  s.finish (s.fromGeneel m.src 0x0B m.type (fun s =>
    let b := m.body
    let (job, kind, gen) := (le b 0 2, le b 2 1, le b 4 2)
    match s.rotation job kind with
    | none => s
    | some r =>
      if r.owner ≠ s.ownAddr then s
      else match le b 3 1 with
        | 0 => if r.generation = gen then (s.keyNodeDone job kind m.src [.installing]).orderSwitches else s
        | 2 => if r.generation = gen then s.keyNodeDone job kind m.src [.sweeping] else s
        | 3 => s.keyNodeDone job kind m.src [.erased]
        | _ => s))

/-- KEY_ORDER_RECEIVE (R574, R580, R581): the order waits for its tick; the primary of a bolt names the same tick to the agents of its
bolt. A switch gives the staged key its tick (R78). Only the key owner of the job may order (DEDUCED). -/
def execKeyOrderReceive (m : Msg) (s : State) : Host.Outcome State Fault Refusal :=
  s.finish (s.fromGeneel m.src 0x0B m.type (fun s =>
    let b := m.body
    let (job, kind, op, gen) := (le b 0 2, le b 2 1, le b 3 1, le b 4 2)
    if 1 < op ∨ 1 < kind then s
    else
      let at_ := s.instantOf (le b 8 6)
      let leaving := s.currentGen job kind == some gen
      let s1 := if !s.isPrimary || kind == 1 then s
        else if op = 0 then (s.agentHolders job 0).foldl (fun t a => t.keyAct 0x0A a job 0 (slotOf gen) (le b 8 6) .keySwitch) s
        else if leaving then s.eraseAt job 0 (s.agentHolders job 0)
        else (s.agentHolders job 0).foldl (fun t a => t.keyAct 0x0B a job 0 (slotOf gen) (le b 8 6) .keyErase) s
      s1.modSec (fun x => { x with
        keys := if op = 0 then x.keys.map (fun k =>
          if k.job = job ∧ k.kind = kind ∧ k.generation = gen ∧ !k.used then { k with tag := some at_ } else k) else x.keys
        orders := x.orders ++ [{
        job := job, kind := kind, op := op, generation := gen, at_ := at_, owner := m.src }] })))

/-! ### Events -/

/-- KEY_LIFETIME_EXPIRE (R572, R579): a rotation begins by itself when a key in force is as old as its lifetime. -/
def execKeyLifetimeExpire (job kind : Nat) (s : State) : Host.Outcome State Fault Refusal :=
  let life := if kind = 0 then s.sec.policy.keys.linkLife else s.sec.policy.keys.memLife
  match s.currentKey job kind with
  | none => s.finish s
  | some k =>
    if life = 0 ∨ s.clock.now < k.since + life ∨ s.keyOwner job ≠ s.ownAddr ∨ !s.isPrimary ∨ (s.rotation job kind).isSome
        ∨ 1 < kind then s.finish s
    else s.finish (s.autoRotation job kind)

/-- REATTEST_INTERVAL (R572): op 2 and op 3 again with every ATTESTED agent. -/
def execReattestInterval (s : State) : Host.Outcome State Fault Refusal :=
  let k := s.sec.policy.keys
  if !k.reattest ∨ k.interval = 0 ∨ s.clock.now < s.sec.reattested + k.interval ∨ !s.isPrimary then s.finish s
  else
    let s1 := s.modSec (fun x => { x with reattested := s.clock.now })
    s.finish (s.attestedAgents.foldl (fun t n => t.startAttest n.addr n.serial n.path) s1)

/-- DEBUG_NONCE_EXPIRE (R589). -/
def execDebugNonceExpire (s : State) : Host.Outcome State Fault Refusal :=
  match s.sec.nonce with
  | some (_, at_) =>
    if s.clock.now < at_ + 3750000 then s.finish s else s.finish (s.modSec (fun x => { x with nonce := none }))
  | none => s.finish s

/-- KEY_SWEEP_PAGE (R449, R460, R581): the next page of a table (part 0) in a slot, or of a job's restart shards (part 1) in a
quadrant, is re-encrypted; at the last page of the job the key owner hears of it. -/
def execKeySweepPage (part obj area : Nat) (s : State) : Host.Outcome State Fault Refusal :=
  if part = 0 then
    match s.table obj with
    | none => s.finish s
    | some t => s.finish ((s.modTable obj (fun u => u.sweepPage area)).sweepReport t.job)
  else s.finish ((s.sweepRestart obj area).sweepReport obj)

end Sys2Proof.Machine
end

