-- ==== Sys2Proof/Machine/Slices.lean ====
section
/-! DEFINITION. The meanings of the slice and access commands (spec 09_slices_and_access; opcode class 0x04), and of the events
of slice changes and streams. -/

namespace Sys2Proof.Machine

open Sys2Proof

/-- No slice change, promotion or destruction of a job is under way (R115, R337). -/
def State.sliceQuiet (s : State) (job : Nat) : Bool := !s.access.changes.any (fun c => c.job == job)

/-- A slice change that passed its checks (R313): refused whole when a member cannot be reached by its trees (R351) or, with
STRICT, when anything falls short (R317); otherwise kept as a change whose solve is requested. -/
def State.startChange (s : State) (op id : Nat) (due : Nat) (x : Slice) : State :=
  let y := s.admitSlice x
  let missed := if x.home = s.up.bolt then (s.baseTrees x.job x.members []).2 else []
  let items := y.items ++ missed.map (fun a =>
    ({ kind := 2, vc := 0, addr := a, port := 0xFF, len := 0, requested := s.ownAddr, available := 0 } : SliceItem))
  if missed ≠ [] ∨ (x.strict ∧ y.items ≠ []) then s.endCmd id 0x12 items.length { y with items := items }.result
  else
    let n := s.access.nextChange
    let c : SliceChange := { id := n, op := op, job := x.job, cmd := some id, slice := y, since := s.clock.now, due := due }
    let s1 := if op = 0 then s.putSlice y else s
    let s2 := { s1 with access := { s1.access with changes := s1.access.changes ++ [c], nextChange := n + 1 } }
    ((s2.modCmd id (fun d => { d with phase := .running, begun := true })).mirrorSlice y).solveChange c

/-- The instant of commit that a command asks for: its tick, or the earliest that R67 allows (R313). -/
def State.askedAt (s : State) (p : Packet) : Nat := if p.effTick = 0 then s.clock.now + 3 else s.instantOf p.effTick

/-- SLICE_CREATE (R309 to R314, R317, R318). -/
def opSliceCreate : HostOp := {
  opcode := 0x0401, cosign := .oc, eff := .ea, jobs := .nonzero
  params := fun p slot s => checks [s.checkDescription p, needRight ((s.slice p.job).isNone && s.isPrimary && !s.sec.debugOpen) 5 slot]
  reserves := fun p _ => [.slice p.job]
  start := fun p id s => s.startChange 0 id (s.askedAt p) (sliceOf p)
  apply := fun _ _ s => (s, .running) }

/-- SLICE_CREATE. -/
def execSliceCreate (p : Packet) (s : State) : Host.Outcome State Fault Refusal := s.finish (s.command opSliceCreate p)

/-- Members that a description leaves out of a slice. -/
def removedMembers (old new : Slice) : List Nat := old.members.filter (fun a => !new.members.contains a)

/-- A member is in use by the job: the far end of an OPEN stream, or in a group or in a plan, whose streams lead to it (R315; DEDUCED, log
entry 250: a group's and a plan's streams have many far ends). -/
def State.memberUsed (s : State) (job a : Nat) : Bool :=
  s.streams.any (fun e => e.2.job == job && e.2.state == 1 && e.2.peer == a)
    || s.twill.groups.any (fun g => g.job == job && g.members.contains a)
    || s.jacquard.plans.any (fun p => p.job == job && p.members.contains a)

/-- SLICE_MODIFY (R315, R337): the whole description is replaced. -/
def opSliceModify : HostOp := {
  opcode := 0x0402, cosign := .oc, eff := .ea, jobs := .nonzero
  params := fun p slot s => match s.slice p.job with
    | none => .fail 0x11 22
    | some x => checks [s.checkDescription p,
        needRight ((x.state == .active || x.state == .failed) && s.sliceQuiet p.job && s.isPrimary && !s.sec.debugOpen) 5 slot,
        needRight (!(removedMembers x (sliceOf p)).any (fun a => s.memberUsed p.job a)) 5 slot]
  reserves := fun p _ => [.slice p.job]
  start := fun p id s =>
    let old := s.slice p.job
    s.startChange 1 id (s.askedAt p) { sliceOf p with
      granted := (old.map Slice.granted).getD [], promotions := (old.map Slice.promotions).getD 0 }
  apply := fun _ _ s => (s, .running) }

/-- SLICE_MODIFY. -/
def execSliceModify (p : Packet) (s : State) : Host.Outcome State Fault Refusal := s.finish (s.command opSliceModify p)

/-- A job owns a group, a plan, a table or a generation (R316). -/
def State.jobOwns (s : State) (job : Nat) : Bool :=
  s.twill.groups.any (fun g => g.job == job) || s.jacquard.plans.any (fun p => p.job == job)
    || s.calico.tables.any (fun t => t.job == job) || s.store.slots.any (fun x => x.job == job)
    || s.store.tracks.any (fun x => x.job == job)

/-- Flits outstanding of a job's streams that are DRAINING, and whether there are such streams. -/
def State.jobDraining (s : State) (job : Nat) : Option Nat :=
  match s.streams.filter (fun e => e.2.job == job && e.2.state == 2) with
  | [] => none
  | l => some (l.foldl (fun t e => t + e.2.outstanding) 0)

/-- SLICE_DESTROY (R312, R316): DRAINING from acceptance; the command ends at the TARGET_SWAP tick. It has no parameters. -/
def opSliceDestroy : HostOp := {
  opcode := 0x0403, cosign := .oc, eff := .ea, jobs := .nonzero
  params := fun p slot s => match s.slice p.job with
    | none => .fail 0x11 22
    | some x => checks [needLen p 0, needRight (x.state != .draining && s.sliceQuiet p.job && !s.jobOwns p.job) 5 slot]
  reserves := fun p _ => [.slice p.job]
  target := fun p s => match s.jobDraining p.job with
    | some n => .drain n
    | none => .ok
  start := fun p id s =>
    let s1 := match s.slice p.job with
      | some x => (s.putSlice { x with state := .draining }).mirrorSlice { x with state := .draining }
      | none => s
    s1.modCmd id (fun c => { c with phase := .running, begun := true, stage := 1, data := [s.askedAt p] })
  apply := fun p id s =>
    let c := s.cmd id
    if (c.map Cmd.stage).getD 0 = 2 then (s, Fin.ok)
    else
      -- released from the drain queue of R116: the destruction begins now
      let s1 := match s.slice p.job with
        | some x => (s.putSlice { x with state := .draining }).mirrorSlice { x with state := .draining }
        | none => s
      (s1.modCmd id (fun d => { d with stage := 1, data := [s.askedAt p] }), .running) }

/-- SLICE_DESTROY. -/
def execSliceDestroy (p : Packet) (s : State) : Host.Outcome State Fault Refusal := s.finish (s.command opSliceDestroy p)

/-- SLICE_GET (R318, R335): the slice of the header's job, or for job 0 the bolt's retired serials and free spares, whose layout
the spec does not give: two counts of 2 bytes, 4 reserved, serials of 8 bytes, addresses of 2 (DESIGN CHOICE). -/
def opSliceGet : HostOp := {
  opcode := 0x0404, query := true
  params := fun p _ s => checks [needLen p 0, need (p.job == 0 || (s.slice p.job).isSome) 22]
  apply := fun p _ s => match s.slice p.job with
    | some x => (s, Fin.result x.result)
    | none =>
      let r := s.access.retired.filter (fun e => e.1 == s.up.bolt)
      let f := s.freeSpares s.up.bolt
      (s, Fin.result (toLe 2 r.length ++ toLe 2 f.length ++ zeros 4 ++ r.flatMap (fun e => toLe 8 e.2)
        ++ f.flatMap (fun n => toLe 2 n.addr))) }

/-- SLICE_GET. -/
def execSliceGet (p : Packet) (s : State) : Host.Outcome State Fault Refusal := s.finish (s.command opSliceGet p)

/-- ACCESS_SET (R320 to R328): the elements apply together, or none does. -/
def opAccessSet : HostOp := {
  opcode := 0x0405, cosign := .oc, eff := .ea, atOnce := true, jobs := .zero
  params := fun p _ s =>
    let m := le p.body 0 1
    let es := accessElements p
    checks ([needAtLeast p 8, need (1 ≤ m && m ≤ 32) (p.off 0), needLen p (8 + 24 * m)]
      ++ es.zipIdx.map (fun e =>
        let o := 8 + 24 * e.2
        let bad := if e.1.1 = 0 then (accessOf e.1.2.2).badField e.1.2.1 else (grantOf e.1.2.1 e.1.2.2).badField (e.1.1 == 2)
        checks [need (e.1.1 ≤ 2) (p.off o), need (bad == none) (p.off (o + bad.getD 0))])
      ++ [match secondBinding s.access.masters es with
        | some i => .fail 0x11 (p.off (8 + 24 * i + 12))
        | none => .ok])
  reserves := fun p _ => (accessElements p).map (fun e =>
    if e.1 = 0 then Obj.accessEntry e.2.1 else Obj.target (le e.2.2 0 2))
  apply := fun p id s =>
    let es := accessElements p
    -- the swaps of a command with a tick are ordered already; where it now fails, they are undone
    let ordered := (s.cmd id).any (fun c => c.stage == 1)
    let swap (t : State) (b : Bool) : State := if b then t.applyGrants (grantJobs es) else t
    match secondBinding s.access.masters es with
    | some i => (swap s ordered, .done 0x11 (p.off (8 + 24 * i)) [])
    | none =>
      let s1 := { s with access := { s.access with
          masters := setMasters s.access.masters es, grants := setGrants s.access.grants es } }
      ((grantJobs es).foldl (fun t j => t.mirrorDelta 5 j) (swap s1 !ordered), Fin.ok) }

/-- ACCESS_SET. -/
def execAccessSet (p : Packet) (s : State) : Host.Outcome State Fault Refusal := s.finish (s.command opAccessSet p)

/-- ACCESS_GET (R709). -/
def opAccessGet : HostOp := {
  opcode := 0x0406, jobs := .zero, query := true
  params := fun p _ _ =>
    let b := p.body
    checks [needLen p 8, need (le b 0 2 ≤ 255) (p.off 0), need (le b 0 2 + le b 2 2 ≤ 256) (p.off 2),
      need (le b 4 2 ≤ 4095) (p.off 4)]
  apply := fun p _ s =>
    let b := p.body
    let gs := if le b 4 2 = 0 then [] else s.jobGrants (le b 4 2)
    (s, Fin.result (toLe 2 (le b 2 2) ++ toLe 1 gs.length ++ zeros 5
      ++ (List.range (le b 2 2)).flatMap (fun i => (s.master (le b 0 2 + i)).bytes)
      ++ gs.flatMap (fun g => toLe 1 g.number ++ zeros 3 ++ g.bytes))) }

/-- ACCESS_GET. -/
def execAccessGet (p : Packet) (s : State) : Host.Outcome State Fault Refusal := s.finish (s.command opAccessGet p)

/-- Promotions of a slice under way. -/
def State.pendingPromotions (s : State) (job : Nat) : Nat :=
  (s.access.changes.filter (fun c => c.op == 2 && c.job == job)).length

/-- SPARE_PROMOTE (R333, R334, R337): both signatures are needed once the policy count is used up. -/
def opSparePromote : HostOp := {
  opcode := 0x0407, cosign := .p, eff := .ea, jobs := .nonzero
  needsBoth := fun p s => match s.slice p.job with
    | some x => decide (x.policy ≤ x.promotions + s.pendingPromotions p.job)
    | none => false
  params := fun p slot s => match s.slice p.job with
    | none => .fail 0x11 22
    | some x =>
      let len := le p.body 0 2
      checks [needLen p 8, need (x.members.contains len) (p.off 0), need (s.spareFor p.job len (le p.body 2 2)).isSome (p.off 2),
        needRight ((x.state == .active || x.state == .failed) && s.isPrimary
          && !s.access.changes.any (fun c => c.job == p.job && (c.op != 2 || c.len == len))) 5 slot]
  reserves := fun p s =>
    let len := le p.body 0 2
    [.unit 0 len, .unit 0 ((s.spareFor p.job len (le p.body 2 2)).getD 0xFFFF)]
  start := fun p id s =>
    let len := le p.body 0 2
    match s.slice p.job, s.spareFor p.job len (le p.body 2 2) with
    | some x, some sp =>
      (s.modCmd id (fun c => { c with phase := .running, begun := true })).startPromotion x len sp (s.askedAt p) (some id)
    | _, _ => s.endCmd id 0x11 (p.off 2)
  apply := fun _ _ s => (s, .running) }

/-- SPARE_PROMOTE. -/
def execSparePromote (p : Packet) (s : State) : Host.Outcome State Fault Refusal := s.finish (s.command opSparePromote p)

/-! ### Events -/

/-- SLICE_CHANGE_STAGING_START (R313, R314, R334): the epoch is STABLE and a change whose solve is complete waits; targets and
keys go out and its epoch is staged, with every promotion of the same result. A result whose tag is no longer the next one is
solved again (R285). -/
def execSliceChangeStagingStart (s : State) : Host.Outcome State Fault Refusal :=
  match s.access.changes.find? (fun c => c.stage == .waiting && c.rides != 1) with
  | none => s.finish s
  | some c =>
    if s.fabric.epoch.state ≠ .stable then s.finish s
    else match s.fabric.results.find? (fun r => r.id == c.solveId) with
      | some r =>
        if s.resultFresh r then s.finish ((s.prepareChanges r).startStaging r.id 0 .slice none)
        else s.finish (((s.discardResult r.id).modChange c.id (fun d => { d with stage := .solving })).solveChange c)
      | none => s.finish ((s.modChange c.id (fun d => { d with stage := .solving })).solveChange c)

/-- SLICE_CHANGE_TIMEOUT (R314): a change not staged 3,750,000 ticks after acceptance has no effect. -/
def execSliceChangeTimeout (job : Nat) (s : State) : Host.Outcome State Fault Refusal :=
  match s.access.changes.find? (fun c => c.job == job && c.op != 2 && (c.stage == .solving || c.stage == .waiting)) with
  | none => s.finish s
  | some c => if s.clock.now < c.since + 3750000 then s.finish s else s.finish (s.failChange c 0x50 0)

/-- STREAM_RELEASE (R32): a DRAINING stream with nothing outstanding any more is CLOSED and its ID free. -/
def execStreamRelease (id : Nat) (s : State) : Host.Outcome State Fault Refusal :=
  match kvGet s.streams id with
  | none => s.finish s
  | some e =>
    if (e.state = 2 ∨ e.state = 3) ∧ e.outstanding = 0 then s.finish { s with streams := kvErase s.streams id } else s.finish s

/-- The end of a slice whose last stream is CLOSED: its targets are cleared by TARGET_SWAP at an instant, its keys are erased here and at
every Geneel that has a member, its shares have left the staged slices, and the slice is removed (R312, R316, R578). -/
def State.removeSlice (s : State) (job : Nat) (x : Slice) (at_ : Nat) : State :=
  let own := x.members.filter (fun a => a / 1024 == s.up.bolt)
  let s1 := own.foldl (fun t a => (t.sendTargets a []).1.swapTargets at_ a) s
  let s2 := (s1.eraseAt job 0 (s1.holdersOf job 0)).eraseAt job 1 (s1.holdersOf job 1)
  let order (kind gen dst : Nat) (t : State) : State :=
    t.send (t.msgTo dst 0x6B (toLe 2 job ++ toLe 1 kind ++ toLe 1 1 ++ toLe 2 gen ++ zeros 2 ++ toLe 6 (t.nameTick 3) ++ zeros 2))
  let s3 := if s.primaryOf x.home ≠ s.ownAddr then s2
    else ((s2.memberGeneels x ++ (s.holdersOf job 1).filter (fun a => 0xF000 ≤ a)).eraseDups.filter (fun a => a != s2.ownAddr)).foldl (fun t a =>
      (s2.sec.keys.filter (fun k => k.job == job)).foldl (fun u k => order k.kind k.generation a u) t) s2
  let s4 := { s3 with
    access := { s3.access with slices := s3.access.slices.filter (fun y => y.job != job) }
    twill := { s3.twill with bases := s3.twill.bases.filter (fun b => b.job != job) } }
  ((s4.eraseKey job 0 (fun _ => true)).eraseKey job 1 (fun _ => true)).mirrorDelta 5 job

/-- SLICE_DRAIN_END (R312, R316, R578): the last stream of a DRAINING slice is CLOSED: the slice is removed and its command ends at the swap of
the targets, 3 ticks on or at the tick it named; a swap after that tick is told as a delay (R65). -/
def execSliceDrainEnd (job : Nat) (s : State) : Host.Outcome State Fault Refusal :=
  match s.slice job with
  | none => s.finish s
  | some x =>
    if x.state ≠ .draining ∨ s.streams.any (fun e => e.2.job == job) then s.finish s
    else match s.host.cmds.find? (fun c => c.pkt.opcode == 0x0403 && c.pkt.job == job && c.stage == 1) with
      | none => s.finish (s.removeSlice job x (s.clock.now + 3))
      | some c =>
        let asked := c.data.headD 0
        let at_ := max (s.clock.now + 3) asked
        let late : Bool := c.pkt.effTick != 0 && decide (asked < at_)
        s.finish ((s.removeSlice job x at_).modCmd c.id (fun d => { d with
          phase := .timed, due := at_, stage := 2, endStatus := if late then 0x13 else d.endStatus
          endDetail := if late then at_ - asked else d.endDetail }))

end Sys2Proof.Machine
end

