-- ==== Sys2Proof/Machine/FaultOps.lean ====
section
/-! DEFINITION. Fences, job failures, the FAULT state and the flash of the event record as faults and the marker use them
(spec 17_faults_and_events R597 to R617, spec 01_architecture R17 to R19, R27, R39). -/

namespace Sys2Proof.Machine

open Sys2Proof

/-! ### Device state changes -/

/-- Record a device state change under code 0x0029 (R606 to R609, R711): the event, the states, the recovery counter and the
tick of the last fault at S3 or above. -/
def State.deviceEvent (s : State) (event before after : Nat) : State :=
  s.fault { source := 0xF900, code := 0x29, key := event + 256 * before + 65536 * after,
            detail := toLe 4 s.faults.recoveryCount ++ toLe 6 s.faults.lastS3Tick }

/-- Entry to FAULT (R606), from a state in which the device serves commands: accepted commands of a refused class whose effect
has not begun end with ST_NOT_READY (R113). Packets that wait for earlier ones, or for a second signature, are not accepted yet: they meet check
4 when their turn comes. -/
def State.enterFault (s : State) : State :=
  match s.up.dev with
  | .ready | .run | .degraded =>
    let before := s.up.dev.code
    let s1 := (s.setDev .fault).deviceEvent 0 before 10
    let gone := s1.host.cmds.filter (fun c =>
      let cls := c.pkt.opcode / 256
      let accepted : Bool := match c.phase with
        | .ordered | .signature _ _ => false
        | _ => true
      accepted && !(cls == 0 || (0x0A ≤ cls && cls ≤ 0x0E)) && !c.begun)
    gone.foldl (fun t c => t.endCmd c.id 0x03 10) s1
  | _ => s

/-- The state that follows FAULT (R607): DEGRADED or RUN, before machine start READY (log entry 30). -/
def State.afterFault (s : State) : DevState :=
  if !s.clock.loaded then .ready else if s.anyLost then .degraded else .run

/-- Ticks of the window of R608. -/
def State.recoveryWindow (s : State) : Nat := s.ticks 3600000000

/-- The automatic recovery, or LATCHED when it would be the 9th within the window (R607, R608). -/
def State.recover (s : State) : State :=
  if 8 ≤ (s.faults.recoveries.filter (fun r => decide (s.clock.now < r + s.recoveryWindow))).length then
    ({ s with faults := { s.faults with latched := true, releasedAt := none } }).deviceEvent 2 10 10
  else
    let s1 := { s with faults := { s.faults with
      recoveries := (s.clock.now :: s.faults.recoveries).take 9
      recoveryCount := (s.faults.recoveryCount + 1) % 2 ^ 32
      releasedAt := none } }
    (s1.setDev s1.afterFault).deviceEvent 1 10 s1.afterFault.code

/-- The instant at which FAULT ends (R607): that of the last fault at S3 or above plus Q. -/
def State.faultEnd (s : State) : Nat := s.faults.lastS3.getD 0 + s.faults.q

/-! ### Job failures (R480, R597) -/

/-- A job fails at S4: its OPEN generation fails, its undecided steps are VOID and its exchanges fail (R480). -/
def State.failJob (s : State) (job : Nat) : State :=
  let s1 := s.storeJobFailed job
  let s2 := (s1.twill.groups.filter (fun g => g.job == job)).foldl (fun t g => t.failSteps g.id 5) s1
  s2.exchJobFailed job

/-- Jobs with a root context on a pipeline. -/
def State.pipelineJobs (s : State) (k : Nat) : List Nat :=
  let mine (t : GroupTree) : Bool := t.root == s.ownAddr && t.pipeline == k
  (s.twill.groups.filter (fun g => mine g.t0 || (match g.t1 with
    | some t => mine t
    | none => false))).map Group.job

/-- Jobs with a tree link at a node, or at one port of it. -/
def State.treeJobs (s : State) (addr : Nat) (port : Option Nat) : List Nat :=
  let at_ (a p : Nat) : Bool := a == addr && (match port with
    | some q => p == q
    | none => true)
  let hit (t : GroupTree) : Bool := t.links.any (fun l => at_ l.src l.sport || at_ l.dst l.dport)
  (s.twill.groups.filter (fun g => hit g.t0 || (match g.t1 with
    | some t => hit t
    | none => false))).map Group.job

/-- Jobs with a stream open in a bank. -/
def State.bankJobs (s : State) (bank : Nat) : List Nat :=
  (s.streams.filter (fun e => e.1 / 4096 == bank && e.2.state != 0)).map (fun e => e.2.job)

/-- Jobs with pages in a quadrant: table pages stripe over every quadrant, restart pages lie where their shard does. -/
def State.pageJobs (s : State) (q : Nat) : List Nat :=
  s.tableJobs ++ (s.store.slots.filter (fun x => x.shards.any (fun y => y.quadrant == q))).map StoreSlot.job

/-- The jobs that touch a unit (R597). -/
def State.touchUnit (s : State) (kind idx : Nat) : List Nat := match kind with
  | 6 => s.pageJobs (idx / 8)
  | 7 => s.pageJobs idx
  | 8 => s.treeJobs s.ownAddr (some idx)
  | 10 => s.pipelineJobs idx
  | 11 => s.jacquard.plans.map Plan.job
  | 12 => s.unappliedJobs idx
  | 14 => s.bankJobs idx
  | _ => []

/-- The jobs that touch a switch: keys, tree entries (R597). -/
def State.touchSwitch (s : State) (a : Nat) : List Nat :=
  (s.sec.holders.filter (fun h => h.addr == a && h.job != 0)).map KeyHolder.job ++ s.treeJobs a none

/-- The jobs with shards spilled to a storage target (R598). -/
def State.touchTarget (s : State) (a : Nat) : List Nat :=
  if s.storageTarget.getD a = a then (s.store.slots.filter (fun x => x.shards.any StoreShard.spilled)).map StoreSlot.job else []

/-! ### Fences (R27, R598, R603) -/

/-- Commands that a fenced leader core held in flight end with ST_INTERNAL and the core's source (R18). -/
def State.coreCommands (s : State) (core : Nat) : State :=
  if s.faults.leader ≠ core then s
  else
    let hit := s.host.cmds.filter (fun c => !c.begun && !c.pendingPosted && (match c.phase with
      | .ordered | .timed => true
      | _ => false))
    hit.foldl (fun t c => t.endCmd c.id 0xF0 (0xF100 + core)) s

/-- The table and restart pages of a quadrant are lost, and it is out of service (R39): no row there can be read, and the jobs with pages
there fail. The control state that its reserve held is restored from the twin, and firmware keeps room for it: the model's control state stays as
it is (DEDUCED, log entry 219). -/
def State.quadrantLost (s : State) (q : Nat) : State × List Nat :=
  let s0 : State := { s with
    faults := { s.faults with quadsOut := if s.faults.quadsOut.contains q then s.faults.quadsOut else s.faults.quadsOut ++ [q] }
    calico := { s.calico with tables := s.calico.tables.map (fun t => { t with
      lost := if t.lost.contains q then t.lost else t.lost ++ [q]
      rows := t.rows.map (fun r => if r.slot / 8 = q then { r with poison := true } else r) }) } }
  let (s1, jobs) := s0.storeQuadLost q
  (s1, jobs ++ s.tableJobs)

/-- Something still holds lost pages of a quadrant (R39). -/
def State.lostHeld (s : State) (q : Nat) : Bool :=
  s.calico.tables.any (fun t => t.lost.contains q) || s.storedShards.any (fun y => y.lost && y.quadrant == q)

/-- At a marker a quadrant returns to service, over its good stacks, when its last holder has released it and its crossbar is good (R39). -/
def State.quadMarker (s : State) : State :=
  { s with faults := { s.faults with quadsOut := s.faults.quadsOut.filter (fun q => s.lostHeld q || (s.unitStatus 7 q).lost) } }

/-- Streams of a fenced bank are withdrawn (R27). -/
def State.withdrawBank (s : State) (bank : Nat) : State :=
  { s with streams := s.streams.filter (fun e => e.1 / 4096 != bank) }

/-- What the fence of a unit entails, and the jobs that it fails (R27). A fenced Damask tile, Jacquard, Calico or restart engine leaves its work
to the others: solves take their tiles, planning passes run on the engines that are left, with the same rounds (R398, R411), `State.engineOf` and
`State.restartEngine` name the engine that serves in its place. -/
def State.fenceEffect (s : State) (kind idx source code : Nat) : State × List Nat := match kind with
  | 1 => (s.coreCommands idx, [])
  | 2 | 5 => (s.halt source code, [])
  | 6 => s.quadrantLost (idx / 8)
  | 7 => s.quadrantLost idx
  | 8 =>
    if (s.port idx).link.state = .fenced then (s, [])
    else ((s.modLink { port := idx } (fun l => { l with state := .fenced, step := 0, fenceCause := 4 })).reportLink { port := idx }, [])
  | 10 => ((if code = 2 then s.postCommitPipeline idx else s).twillPipelineLost idx, [])
  | 12 => (s, s.unappliedJobs idx)
  | 14 => (s.withdrawBank idx, s.bankJobs idx)
  | _ => (s, [])

/-- Commands queued behind a drain of a unit that is now fenced end with ST_FENCED (R116); an UNFENCE waits for the fence itself. -/
def State.queuedFenced (s : State) (kind idx : Nat) : State :=
  let hit := s.host.cmds.filter (fun c => c.phase == .drain && c.pkt.opcode != 0x0C04 &&
    c.reserves.contains (.unit kind idx))
  hit.foldl (fun t c => t.endCmd c.id 0x30 (unitSource kind idx)) s

/-- Cause that the floor plan report gives a fenced unit (R641): its self-test failed, the training of its port failed, or it was fenced in
service. -/
def State.planCause (s : State) (kind idx code : Nat) : Nat :=
  if code = 3 then 1
  else if kind = 8 ∧ code = 0x0A ∧ [1, 2, 5].contains (s.port idx).link.fenceCause then 2
  else 3

/-- Fence a unit (R603): FENCING with its code, tick and outstanding items; a core that leaves fewer than two is fatal (R19); the
jobs that fail. Buckram is fenced by its own checks alone (R523). -/
def State.fenceUnit (s : State) (kind idx source code : Nat) : State × List Nat :=
  if kind = 3 ∨ (s.unitStatus kind idx).lost then (s, [])
  else
    let s1 := if kind = 1 ∧ s.goodCount 1 ≤ 2 then s.fault { source := source, code := 6 } else s
    let n := s1.unitWork kind idx
    let (s2, jobs) := s1.fenceEffect kind idx source code
    let s3 := s2.setUnit {
      kind := kind, index := idx, status := .fencing, cause := s2.planCause kind idx code, code := code, tick := s2.tickNow, outstanding := n
      since := s2.clock.now }
    (s3.queuedFenced kind idx, jobs)

/-- Links of a switch stop being ROUTABLE, one port or all (R598), which the record shows: trees over them are rebuilt, jobs over them show
DEGRADED. -/
def State.unroute (s : State) (addr port : Nat) : State :=
  let s0 := { s with faults := { s.faults with
    unroutable := s.faults.unroutable.filter (fun e => e != (addr, port)) ++ [(addr, port)] } }
  let s1 := if s0.isPrimary ∧ s0.shownSection.links.any (fun l => l.routable && hitsLink addr port l) then
      s0.changeSection (fun x => { x with links := x.links.map (fun l => if hitsLink addr port l then { l with routable := false } else l) })
    else s0
  let hit (l : TreeLink) : Bool := (l.src == addr && (l.sport == port || port == 0xFF))
    || (l.dst == addr && (l.dport == port || port == 0xFF))
  (s1.twillLost hit).noteDegraded addr (if port = 0xFF then none else some port)

/-- Retire a spare (R335, R598). -/
def State.retireSpare (s : State) (a : Nat) : State :=
  match s.ownSection.node a with
  | none => s
  | some n =>
    let mine := (s.access.retired.filter (fun e => e.1 == s.up.bolt)) ++ [(s.up.bolt, n.serial)]
    let s1 := s.changeSection (fun x => x.putNode { n with retired := true })
    State.mirrorRetired { s1 with access := { s1.access with
        retired := s1.access.retired.filter (fun e => e.1 != s1.up.bolt) ++ lastN 32 mine } }

/-- Fabric port of this Geneel to a storage target. -/
def State.portTo (s : State) (a : Nat) : Option Nat :=
  (s.ownSection.links.find? (fun l => l.src == s.ownAddr && l.dst == a)).map TopoLink.sport

/-- The port of a switch that the key of its fault names, 0xFF for the whole switch (R598): the record of an agent's reset has no key
(R711). -/
def DueFence.switchPort (d : DueFence) : Nat := if d.code = 0x110 ∨ 0xFF ≤ d.key % 65536 then 0xFF else d.key % 65536

/-- The action of one fault at S3 or above (R598): the fence, and the jobs that fail. -/
def State.takeDue (s : State) (d : DueFence) : State × List Nat :=
  let s0 := s.modRecord d.record (fun r => { r with action := r.action || acts d.severity d.source })
  match sourceOf d.source with
  | .unit k i =>
    let touched := if 4 ≤ d.severity then s0.touchUnit k i else []
    let (s1, jobs) := s0.fenceUnit k i d.source d.code
    (s1, jobs ++ touched)
  | .adder p =>
    let touched := if 4 ≤ d.severity then s0.touchUnit 8 p else []
    let (s1, jobs) := s0.fenceUnit 8 p d.source d.code
    (s1, jobs ++ touched)
  | .switch =>
    let touched (jobs : List Nat) : List Nat := if 4 ≤ d.severity then jobs else []
    match s0.portTo d.source, (findNode s0.fabric.sections d.source).map TopoNode.kind with
    | some p, some 3 =>
      let (s1, jobs) := s0.fenceUnit 8 p d.source d.code
      (s1, jobs ++ touched (s0.touchTarget d.source))
    | _, _ =>
      let s1 := if d.code = 0x108 ∨ d.code = 0x109 then s0 else s0.postCommit d.source
      (s1.unroute d.source d.switchPort, touched (s0.touchSwitch d.source))
  | .endpoint =>
    let job := (s0.sliceOfLen d.source).map Slice.job
    (s0.memberFailed d.source, if 4 ≤ d.severity then job.toList else [])
  | .spare => (s0.retireSpare d.source, [])
  | _ => (s0, if 4 ≤ d.severity then [d.job] else [])

/-- FAULT is entered for a fault at S4, or one at S3 within Q after an earlier one (R606). -/
def State.entersFault (s : State) : List DueFence → Option Nat → Bool
  | [], _ => false
  | d :: r, last =>
    decide (4 ≤ d.severity) || (match last with
      | some t => decide (d.since < t + s.faults.q)
      | none => false) || s.entersFault r (some d.since)

/-- Step 2 of R64: fences, job failures and member failures that are due (R599), repairs that follow, FAULT (R606). -/
def State.fenceMarker (s : State) : State :=
  if s.faults.due = [] ∧ s.access.failDue = [] then s
  else
    let due := s.faults.due
    let before := s.usableOwn
    let fault := s.entersFault due s.faults.lastS3
    let s0 : State := { s with
      faults := { s.faults with
        due := []
        lastS3 := (due.getLast?.map DueFence.since).or s.faults.lastS3
        lastS3Tick := match due.getLast? with
          | some d => s.clock.tick - (s.clock.now - d.since)
          | none => s.faults.lastS3Tick }
      access := { s.access with failDue := [] } }
    let (s1, jobs) := due.foldl (fun (a : State × List Nat) d =>
      let (t, j) := a.1.takeDue d
      (t, a.2 ++ j)) (s0, [])
    let s2 := s.access.failDue.foldl (fun t a => t.memberFailed a) s1
    let s3 := ((jobs.filter (· != 0)).eraseDups).foldl (fun t j => t.failJob j) s2
    let s4 := s3.repairIfChanged before
    (if fault then s4.enterFault else s4).refreshDev

/-- The leader core follows at the first marker after a fence (R17, R18). -/
def State.leaderMarker (s : State) : State :=
  match (List.range 4).find? (fun c => s.unitGood 1 c) with
  | some c => { s with faults := { s.faults with leader := c } }
  | none => s

/-- Handlings end when nothing of theirs is due and their unit has left FENCING (R601). -/
def State.handlingMarker (s : State) : State :=
  { s with faults := { s.faults with handlings := s.faults.handlings.filter (fun h =>
      s.faults.due.any (fun d => d.record == h.record) || (match sourceUnit h.source with
        | some (k, i) => s.unitStatus k i == .fencing
        | none => false)) } }

/-! ### Flash (R615 to R617) -/

/-- The block at the spill head is full. -/
def Faults.blockFull (f : Faults) : Bool := decide (f.spillHead + 64 ≤ f.nextIndex)

/-- Instant of the newest record of the block at the spill head. -/
def Faults.blockNewest (f : Faults) : Nat :=
  (f.records.filter (fun r => f.spillHead ≤ r.index && r.index < f.spillHead + 64)).foldl (fun a r => max a r.written) 0

/-- Write the block at the spill head: it replaces the oldest of 4,096, and the header blocks are written (R616); one that
fails three times raises code 0x002B and is retried (R617). -/
def State.spillBlock (s : State) (failures : Nat) : State :=
  if 3 ≤ failures then
    ({ s with faults := { s.faults with spillRetry := some s.clock.now } }).fault { source := 0xF90D, code := 0x2B }
  else
    let head := s.faults.spillHead + 64
    let first := max s.faults.firstIndex (head - 262144)
    { s with faults := { s.faults with
        spillHead := head
        firstIndex := first
        records := s.faults.records.filter (fun r => first ≤ r.index)
        spillRetry := none
        nextStored := s.faults.nextIndex
        opsecStored := s.faults.opsec } }

/-! ### Readable records -/

/-- Records that can be read, oldest first (R615, R617, R620). -/
def State.readable (s : State) : List EventRec :=
  s.faults.records.filter (fun r => s.faults.firstIndex ≤ r.index && !r.padding)

/-- The fault summary, bytes 0 to 127 (R622). -/
def State.faultSummary (s : State) : Bytes :=
  let fences := s.faults.units.filter (fun u => u.status == .fencing || u.status == .fenced)
  let ends := if s.up.dev = .fault then s.tickAt s.faultEnd else 0
  toLe 1 s.up.dev.code ++ toLe 1 (flag s.faults.latched + 2 * flag (fences.any (fun u => u.status == .fencing)))
    ++ toLe 2 fences.length ++ toLe 4 s.faults.recoveryCount ++ toLe 6 s.faults.lastS3Tick ++ toLe 6 ends
    ++ toLe 4 s.faults.q ++ toLe 8 s.faults.nextIndex ++ toLe 8 s.faults.firstIndex ++ toLe 4 s.faults.dropped
    ++ toLe 4 s.faults.mergedFaults ++ s.faults.bySeverity.flatMap (toLe 8) ++ s.lostCapacity

end Sys2Proof.Machine
end

