-- ==== Sys2Proof/Machine/Faulting.lean ====
section
/-! DEFINITION. The rows of faults and of the event record (spec 17_faults_and_events R593 to R622, R711). -/

namespace Sys2Proof.Machine

open Sys2Proof

/-! ### EVENT_VIEW_GET (R619) -/

/-- A page of the view: positions with their records. -/
def viewBytes (next first : Nat) (page : List (Nat × EventRec)) : Bytes :=
  toLe 8 next ++ toLe 8 first ++ toLe 2 page.length ++ zeros 6 ++ page.flatMap (fun e => toLe 8 e.1 ++ e.2.bytes)

/-- The records of a view with their positions (R619): indices for a master of no job, the count among the job's own for
another. -/
def State.viewOf (s : State) (slot : Nat) : List (Nat × EventRec) × Nat × Nat :=
  match s.masterJob slot with
  | none => (s.readable.map (fun r => (r.index, r)), s.faults.nextIndex, s.faults.firstIndex)
  | some j =>
    let mine := s.readable.filter (fun r => r.job == j)
    ((List.range mine.length).zip mine, mine.length, 0)

/-- EVENT_VIEW_GET (0x0C01). -/
def opEventViewGet : HostOp := {
  opcode := 0x0C01, query := true
  params := fun p _ _ => checks [needLen p 16, need (1 ≤ le p.body 8 2 && le p.body 8 2 ≤ 256) (p.off 8),
    need (le p.body 10 1 ≤ 5) (p.off 10)]
  apply := fun p _ s =>
    let (all, next, first) := s.viewOf (s.masterOf p.port p.ring)
    let hit := all.filter (fun e => decide (le p.body 10 1 ≤ e.2.severity))
    let n := le p.body 8 2
    let page := if bit (le p.body 11 1) 0 then lastN n hit else (hit.filter (fun e => le p.body 0 8 ≤ e.1)).take n
    (s, Fin.result (viewBytes next first page)) }

/-- EVENT_VIEW_GET. -/
def execEventViewGet (p : Packet) (s : State) : Host.Outcome State Fault Refusal := s.finish (s.command opEventViewGet p)

/-! ### EVENT_CLEAR (R620) -/

/-- EVENT_CLEAR (0x0C02): records below the index go, and the clearing appends its own under the signer's credential code. -/
def opEventClear : HostOp := {
  opcode := 0x0C02, cosign := .o, jobs := .zero, noJobMaster := true
  params := fun p _ s => (needLen p 8).and
    (need (s.faults.firstIndex ≤ le p.body 0 8 && le p.body 0 8 ≤ s.faults.nextIndex) (p.off 0))
  apply := fun p _ s =>
    let new := le p.body 0 8
    let s1 := { s with faults := { s.faults with
      firstIndex := new, records := s.faults.records.filter (fun r => new ≤ r.index) } }
    (s1.fault { source := 0xF900, code := 0x20, key := 1, detail := toLe 8 s.faults.firstIndex ++ toLe 8 new }, Fin.ok) }

/-- EVENT_CLEAR. -/
def execEventClear (p : Packet) (s : State) : Host.Outcome State Fault Refusal := s.finish (s.command opEventClear p)

/-! ### SEVERITY_SET (R621) -/

/-- The codes that R596 lists. -/
def listedCodes : List Nat :=
  [1, 2, 3, 4, 5, 6, 8, 9, 10, 11, 12, 16, 17, 18, 19, 20] ++ (List.range 15).map (· + 32)
    ++ (List.range 11).map (· + 0x101) ++ [0x110]

/-- Ranges of sources to which the rows of R596 apply alike (R593). -/
def sourceRanges : List (Nat × Nat) :=
  [(0, 0x7FFF), (0x8000, 0xDFFF), (0xE000, 0xE3FF), (0xF000, 0xF03F), (0xF100, 0xF103), (0xF110, 0xF110), (0xF118, 0xF118),
    (0xF120, 0xF121), (0xF128, 0xF128), (0xF130, 0xF130), (0xF200, 0xF28F), (0xF300, 0xF31F), (0xF320, 0xF323),
    (0xF400, 0xF427), (0xF440, 0xF467), (0xF500, 0xF53F), (0xF540, 0xF540), (0xF580, 0xF587), (0xF600, 0xF60F),
    (0xF680, 0xF69F), (0xF700, 0xF707), (0xF780, 0xF78F), (0xF800, 0xF83F), (0xF840, 0xF86F)]
    ++ (List.range 14).map (fun i => (0xF900 + i, 0xF900 + i))

/-- An entry keeps R595 and R596: a severity of 0 to 5, no S5 below 0xF100, none below a minimum of a source it covers. -/
def SevEntry.lawful (e : SevEntry) : Bool :=
  decide (e.severity ≤ 5) &&
  !(e.severity == 5 && sourceRanges.any (fun r => decide (r.1 < 0xF100 ∧ max e.first r.1 ≤ min e.last r.2) &&
    (e.code == 0xFFFF || e.code == 0xFF || (codeRow e.code r.1).isSome))) &&
  (if e.code = 0xFFFF then listedCodes else [e.code]).all (fun c => sourceRanges.all (fun r =>
    if max e.first r.1 ≤ min e.last r.2 then
      match codeRow c (max e.first r.1) with
      | some (_, _, m) => decide (m ≤ e.severity)
      | none => true
    else true))

/-- The entries of the command. -/
def sevEntries (p : Packet) : List SevEntry :=
  (chunks 8 (le p.body 0 1) (p.body.drop 8)).map (fun b =>
    { first := le b 0 2, last := le b 2 2, code := le b 4 2, severity := le b 6 1 })

/-- SEVERITY_SET (0x0C03). -/
def opSeveritySet : HostOp := {
  opcode := 0x0C03, eff := .ei, jobs := .zero, noJobMaster := true
  params := fun p _ _ =>
    let m := le p.body 0 1
    let q := le p.body 4 4
    checks ([needAtLeast p 8, need (1 ≤ m && m ≤ 64) (p.off 0), needLen p (8 + 8 * m),
      need (q == 0 || (6250 ≤ q && q ≤ 3750000)) (p.off 4)]
      ++ ((List.range m).zip (sevEntries p)).map (fun e => need e.2.lawful (p.off (14 + 8 * e.1))))
  reserves := fun _ _ => [.severity]
  apply := fun p _ s =>
    let old := if bit (le p.body 1 1) 0 then [] else s.faults.sevs
    let q := le p.body 4 4
    ({ s with faults := { s.faults with
        sevs := old ++ sevEntries p, q := if q = 0 then s.faults.q else q } }, Fin.ok) }

/-- SEVERITY_SET. -/
def execSeveritySet (p : Packet) (s : State) : Host.Outcome State Fault Refusal := s.finish (s.command opSeveritySet p)

/-! ### UNFENCE (R605) -/

/-- Record an unfence (R605, R711). -/
def State.noteUnfence (s : State) (source port slot : Nat) : State :=
  s.fault { source := 0xF900, code := 0x2A, key := source + 65536 * port, detail := toLe 1 slot }

/-- What UNFENCE is asked for. -/
inductive UnfenceOf where
  | refused
  | unit (kind idx : Nat)
  | port (p : Nat)
  | node (addr : Nat)
  deriving DecidableEq, Repr

/-- Read the source of an UNFENCE: Selvedge, Buckram, a mesh router, a unit absent by ordering code and a source that names
nothing that can be fenced are refused (R605). -/
def State.unfenceOf (s : State) (x : Nat) : UnfenceOf := match sourceOf x with
  | .unit k i =>
    if k = 2 ∨ k = 3 ∨ k = 5 ∨ s.absentByOrder k i then .refused else if k = 8 then .port i else .unit k i
  | .adder p => .port p
  | .endpoint => .node x
  | .switch => .node x
  | .spare => .node x
  | .peer => .node x
  | .invalid => .refused
  | _ => .node x

/-- Status of what an UNFENCE names, for a unit or a port. -/
def State.unfenceUnit (s : State) (x : Nat) : Option (Nat × Nat) := match s.unfenceOf x with
  | .unit k i => some (k, i)
  | .port p => some (8, p)
  | _ => none

/-- A quadrant holds table or restart pages. -/
def State.quadrantUsed (s : State) (q : Nat) : Bool := s.pageJobs q != []

/-- The quadrant of a stack or crossbar. -/
def quadrantOf (kind idx : Nat) : Option Nat := if kind = 6 then some (idx / 8) else if kind = 7 then some idx else none

/-- UNFENCE (0x0C04). A unit of the die is tested: the command's stage 1 waits for the test, stage 2 for the marker after it
passed. -/
def opUnfence : HostOp := {
  opcode := 0x0C04, eff := .ei, jobs := .zero, noJobMaster := true
  params := fun p slot s =>
    let src := le p.body 0 2
    checks [needLen p 8, need (s.unfenceOf src != .refused) (p.off 0),
      match s.unfenceUnit src with
      | some (k, i) => match quadrantOf k i with
        | some q => needRight (!(s.unitStatus k i == .fenced && s.quadrantUsed q)) 5 slot
        | none => .ok
      | none => .ok]
  reserves := fun p s => match s.unfenceUnit (le p.body 0 2) with
    | some (k, i) => [.unit k i]
    | none => []
  target := fun p s => match s.unfenceUnit (le p.body 0 2) with
    | some (k, i) => if s.unitStatus k i = .fencing then .drain (((s.unitRec k i).map UnitRec.outstanding).getD 0) else .ok
    | none => .ok
  apply := fun p id s =>
    let src := le p.body 0 2
    let port := le p.body 2 1
    let slot := ((s.cmd id).map Cmd.master).getD 0
    match s.unfenceOf src with
    | .refused => (s, .done 0x11 (p.off 0) [])
    | .unit k i =>
      if s.unitStatus k i = .fencing then (s, .done 0x02 (((s.unitRec k i).map UnitRec.outstanding).getD 0) [])
      else if s.unitStatus k i ≠ .fenced then (s, Fin.ok)
      else
        let s1 := if 8 ≤ k ∧ k ≤ 13 then s.domainOn (unitDomain k i) else s
        (s1.modCmd id (fun c => { c with stage := 1, data := [k, i] }), .running)
    | .port q =>
      if s.unitStatus 8 q = .fencing then (s, .done 0x02 (((s.unitRec 8 q).map UnitRec.outstanding).getD 0) [])
      else if s.unitStatus 8 q ≠ .fenced then (s, Fin.ok)
      else
        let s1 := (s.clearUnit 8 q).modLink { port := q } (fun l => { l with state := .down, step := 0, attempts := 0, fenceCause := 0 })
        (((s1.reportLink { port := q }).noteUnfence src port slot).refreshDev, Fin.ok)
    | .node a =>
      let hit (e : Nat × Nat) : Bool := e.1 == a && (port == 0xFF || e.2 == port)
      if !s.faults.unroutable.any hit then (s, Fin.ok)
      else
        let s1 : State := { s with
          faults := { s.faults with unroutable := s.faults.unroutable.filter (fun e => !hit e) }
          fabric := { s.fabric with news := s.fabric.news ++ [.restore a port] } }
        (s1.noteUnfence src port slot, Fin.ok) }

/-- UNFENCE. -/
def execUnfence (p : Packet) (s : State) : Host.Outcome State Fault Refusal := s.finish (s.command opUnfence p)

/-- The UNFENCE that waits for a unit's self-test. -/
def State.unfenceCmd (s : State) (kind idx : Nat) : Option Cmd :=
  s.host.cmds.find? (fun c => c.pkt.opcode == 0x0C04 && c.phase == .running && c.stage == 1 && c.data == [kind, idx])

/-- A fault at S3 of a unit whose test under UNFENCE failed (R605): the unit stays FENCED, with its new cause, and the fault counts for the FAULT
state like any other in service (R606, R607); R600, which keeps the faults of a fenced unit out of the record, is not meant for it (DEDUCED, log
entry 258). -/
def State.refence (s : State) (kind idx : Nat) : State :=
  let index := s.faults.nextIndex
  (s.testFault kind idx 1 0).schedule 3 3 index { source := unitSource kind idx, code := 3 }

/-- The self-test under UNFENCE has ended (R605): a pass waits for the marker; a failure fences the unit again at S3 and the
command ends with ST_FENCED. -/
def State.unfenceTested (s : State) (c : Cmd) (kind idx : Nat) (passed : Bool) : State :=
  if passed then s.modCmd c.id (fun d => { d with stage := 2 })
  else (s.refence kind idx).endCmd c.id 0x30 (unitSource kind idx)

/-- Units whose test under UNFENCE has passed become ACTIVE at the marker (R605). -/
def State.unfenceMarker (s : State) : State :=
  let done := s.host.cmds.filter (fun c => c.pkt.opcode == 0x0C04 && c.phase == .running && c.stage == 2)
  (done.foldl (fun t c =>
    let k := c.data.getD 0 0
    let i := c.data.getD 1 0
    ((t.clearUnit k i).noteUnfence (le c.pkt.body 0 2) (le c.pkt.body 2 1) c.master).endCmd c.id 0 0) s).refreshDev

/-! ### FAULT_RELEASE (R609) -/

/-- FAULT_RELEASE (0x0C05). -/
def opFaultRelease : HostOp := {
  opcode := 0x0C05, jobs := .zero, noJobMaster := true
  params := fun p _ _ => needLen p 0
  apply := fun _ _ s =>
    if !s.faults.latched then (s, Fin.ok)
    else
      let s1 := { s with faults := { s.faults with latched := false, recoveries := [], releasedAt := some s.clock.now } }
      (s1.deviceEvent 3 s1.up.dev.code s1.up.dev.code, Fin.ok) }

/-- FAULT_RELEASE. -/
def execFaultRelease (p : Packet) (s : State) : Host.Outcome State Fault Refusal := s.finish (s.command opFaultRelease p)

/-! ### FAULT_SUMMARY_GET (R622) -/

/-- A fence entry (R622). -/
def UnitRec.fenceBytes (u : UnitRec) : Bytes :=
  toLe 2 (unitSource u.kind u.index) ++ toLe 2 u.code ++ toLe 6 u.tick ++ toLe 1 (if u.status = .fenced then 1 else 0) ++ zeros 1

/-- The entries per source of a range (R622). -/
def State.sourceEntries (s : State) (first last : Nat) : Bytes :=
  let recs (x : Nat) : Nat := (s.readable.filter (fun r => r.source == x)).length
  let named := sortBy (fun x => x) ((s.faults.counts.map SourceCount.source ++ s.readable.map EventRec.source).eraseDups)
  (named.filter (fun x => first ≤ x && x ≤ last)).flatMap (fun x =>
    let c := (s.faults.counts.find? (fun c => c.source == x)).getD { source := x }
    if c.s0 = 0 ∧ c.s2 = 0 ∧ recs x = 0 then []
    else toLe 2 x ++ zeros 2 ++ toLe 4 c.s0 ++ toLe 4 c.s2 ++ toLe 4 (recs x) ++ toLe 6 c.lastTick ++ zeros 2)

/-- FAULT_SUMMARY_GET (0x0C06). -/
def opFaultSummaryGet : HostOp := {
  opcode := 0x0C06, query := true
  params := fun p _ _ => needLen p 4
  apply := fun p _ s =>
    let first := le p.body 0 2
    let last := le p.body 2 2
    let fences := s.faults.units.filter (fun u => u.status == .fencing || u.status == .fenced)
    (s, Fin.result (s.faultSummary ++ fences.flatMap UnitRec.fenceBytes
      ++ (if first = 0xFFFF ∧ last = 0xFFFF then [] else s.sourceEntries first last))) }

/-- FAULT_SUMMARY_GET. -/
def execFaultSummaryGet (p : Packet) (s : State) : Host.Outcome State Fault Refusal := s.finish (s.command opFaultSummaryGet p)

/-! ### Detection -/

/-- A line of memory is poisoned (R34, R454): a row's record reads as poisoned until it is loaded again; the tags of a bucket header are
rebuilt from the records' IDs and its candidates are cleared; a line of a restart shard counts as not stored. -/
def State.poisonLine (s : State) : PoisonLine → State
  | .other => s
  | .record t x => s.modTable t (fun u => { u with rows := u.rows.map (fun r => if r.id = x then { r with poison := true } else r) })
  | .header t slot bucket => s.modTable t (fun u => { u with
      rows := u.rows.map (fun r => if r.slot = slot ∧ r.bucket = bucket then { r with tag := (u.place r.id).tag } else r)
      cands := u.cands.filter (fun c => !(c.slot == slot && c.bucket == bucket)) })
  | .shard job gen owner line => s.poisonShard job gen owner line

/-- FAULT_DETECT (R594 to R602): source, code, key, job and detail of the fault; the record whose handling made the tagged action
that raised it (R601); what the line held that the fault poisons (R34, R454). -/
def execFaultDetect (source code key job : Nat) (detail : Bytes) (handling : Option Nat) (poison : PoisonLine) (s : State) :
    Host.Outcome State Fault Refusal :=
  if s.up.dev = .off ∨ s.up.dev = .halt then s.finish s
  else
    let s1 := s.poisonLine poison
    s.finish (s1.fault { source := source, code := code, key := key, job := job, detail := detail, handling := handling })

/-- UNIT_WATCHDOG_EXPIRE (R596), by kind and index of R641: a unit at work has not answered for 64 ticks. -/
def execUnitWatchdogExpire (kind idx : Nat) (s : State) : Host.Outcome State Fault Refusal :=
  if s.up.dev = .off ∨ s.up.dev = .halt ∨ unitCount kind ≤ idx ∨ s.unitGood kind idx = false then s.finish s
  else s.finish (s.fault { source := unitSource kind idx, code := 5 })

/-- FENCING_COMPLETE (R603), by kind and index of R641. -/
def execFencingComplete (kind idx : Nat) (s : State) : Host.Outcome State Fault Refusal :=
  match s.unitRec kind idx with
  | some u => if u.status = .fencing then s.finish (s.setUnit { u with status := .fenced, outstanding := 0 }) else s.finish s
  | none => s.finish s

/-- FAULT_QUIET_END (R607 to R609): at t + Q, or at the marker after a late FAULT_RELEASE, the device recovers or is latched. -/
def execFaultQuietEnd (s : State) : Host.Outcome State Fault Refusal :=
  let released : Bool := match s.faults.releasedAt with
    | some r => decide (r < s.clock.now)
    | none => true
  if s.up.dev = .fault ∧ !s.faults.latched ∧ released ∧ s.faultEnd ≤ s.clock.now then s.finish s.recover else s.finish s

/-- EVENT_BLOCK_SPILL (R616), with the failed writes of the block: a full block whose newest record is 62,500 ticks old, or more
than 4,096 unspilled records. -/
def execEventBlockSpill (failures : Nat) (s : State) : Host.Outcome State Fault Refusal :=
  let f := s.faults
  if f.blockFull && f.spillRetry.isNone && s.up.dev != .off
      && (decide (f.blockNewest + 62500 ≤ s.clock.now) || decide (4096 < f.unspilled)) then
    s.finish (s.spillBlock failures)
  else s.finish s

/-- EVENT_SPILL_RETRY (R617), with the failed writes: 62,500 ticks after the last try. -/
def execEventSpillRetry (failures : Nat) (s : State) : Host.Outcome State Fault Refusal :=
  match s.faults.spillRetry with
  | some t => if t + 62500 ≤ s.clock.now ∧ s.faults.blockFull then s.finish (s.spillBlock failures) else s.finish s
  | none => s.finish s

end Sys2Proof.Machine
end

