-- ==== Sys2Proof/Machine/BringOps.lean ====
section
/-! DEFINITION. Bring-up: what a reset keeps, the straps, the signed configuration record, the boot of an image and the stages
(spec 18_bring_up, spec 16_selvedge_security R552 to R561, spec 21_package_and_signals). -/

namespace Sys2Proof.Machine

open Sys2Proof

/-! ### What a bring-up keeps (R521, R616, R628) -/

/-- Buckram after power-on: its open windows, mailbox and readings are lost; what its own flash holds stays, and each shelf starts from
the register of the last sealed batch (R520, R546, R692). -/
def Buckram.powered (b : Buckram) : Buckram :=
  { ({} : Buckram) with
      shelves := b.shelves.map (fun m =>
        { shelf := m.shelf, meter := m.meter, register := m.stored, base := m.stored, stored := m.stored
          fresh := if m.fresh = 1 then 1 else 2 })
      window := b.window
      lastBoundary := b.lastBoundary
      nextBatch := b.nextBatch
      lastDigest := b.lastDigest
      batches := b.batches
      lost := b.lost
      metrology := b.metrology
      billing := b.billing
      lowK := b.lowK
      highK := b.highK
      changes := b.changes
      audit := b.audit }

/-- The management cores' part of the mailbox starts afresh at every bring-up. -/
def Buckram.coresReset (b : Buckram) : Buckram :=
  { b with sendSeq := 0, outbox := [], paramCmd := none, nextQuery := 1, queries := [] }

/-- The event record after a reset: what the flash holds; operating seconds resume at the stored value plus 64 (R616). -/
def Faults.kept (f : Faults) : Faults :=
  { ({} : Faults) with
      records := f.records.filter (fun r => r.index < f.spillHead)
      firstIndex := f.firstIndex
      nextIndex := max f.nextStored f.spillHead
      nextStored := f.nextStored
      bootIndex := max f.nextStored f.spillHead
      spillHead := f.spillHead
      opsec := f.opsecStored + 64
      opsecStored := f.opsecStored }

/-- A host port after a reset: its PERST pin as it stands; the records of its output stay. -/
def HostPort.kept (h : HostPort) (first : Nat) : HostPort :=
  { ({} : HostPort) with perst := h.perst, raised := h.raised, readData := h.readData, evt := { index := first } }

/-- The block with everything volatile lost (R623, R628): flash, pins, the agent beside it and the model's own records of its output
stay; Buckram is reset by power-on alone (R521). -/
def State.cold (s : State) (powerOn : Bool) : State :=
  let buckram := if powerOn then s.buckram.powered else s.buckram
  let base : State := {}
  { base with
      pending := s.pending
      host := { base.host with
        h0 := s.host.h0.kept s.faults.firstIndex
        h1 := s.host.h1.kept s.faults.firstIndex
        nextCmd := s.host.nextCmd
        completions := s.host.completions
        results := s.host.results }
      faults := { s.faults.kept with
        units := if powerOn then [] else s.faults.units.filter (fun u => u.kind == 3) }
      pins := { s.pins with flashReleased := !s.pins.resetN }
      up := { base.up with
        order := s.up.order
        serial := s.up.serial
        pcycle := s.up.pcycleStored
        pcycleStored := s.up.pcycleStored
        region := s.up.region
        defects := s.up.defects
        domains := if powerOn then [] else s.up.domains.filter (· == 1)
        tripped := s.up.tripped }
      sec := { base.sec with
        policy := s.sec.policy
        recordPresent := s.sec.recordPresent
        slotA := s.sec.slotA
        slotB := s.sec.slotB
        activated := s.sec.activated
        log := s.sec.log
        logFirst := s.sec.logFirst
        logNext := s.sec.logNext }
      power := { base.power with railBudget := 20 }
      agent := s.agent
      buckram := buckram.coresReset
      drawn := s.drawn }

/-- A bring-up begins (R623, R628): BOOT, the power-cycle count up by one, the straps sampled (R630), stack 31 absent on an LGN7-1984
(R2), the Geneel SECONDARY with token 0 (R643). -/
def State.bringUp (s : State) (powerOn : Bool) : State :=
  let t := s.cold powerOn
  let t1 : State := { t with
    up := { t.up with dev := .boot, pcycle := (t.up.pcycleStored + 1) % 2 ^ 24 }
    pins := { t.pins with sampled := t.pins.straps, flashReleased := false } }
  if t1.up.order = 1 then t1.setUnit { kind := 6, index := 31, status := .absent, cause := 4 } else t1

/-- Flash interface mode of the straps, mode 3 treated as 0 (R630). -/
def Pins.flashMode (p : Pins) : Nat := if p.sampled.toNat % 4 = 3 then 0 else p.sampled.toNat % 4

/-! ### The signed configuration record (R631 to R634) -/

/-- The sections of a record: access, shelves, severities, units, each an offset and a count. -/
structure RecordShape where
  a : Nat
  s : Nat
  v : Nat
  u : Nat
  deriving DecidableEq, Repr

/-- Counts of a record. -/
def recordShape (b : Bytes) : RecordShape := { a := le b 32 2, s := le b 34 2, v := le b 36 2, u := le b 38 2 }

/-- Length before the signature blocks. -/
def RecordShape.length (r : RecordShape) : Nat := 64 + 24 * r.a + 8 * (r.s + r.v + r.u)

/-- Access elements: slot and entry. -/
def recordAccess (b : Bytes) : List (Nat × Access) :=
  (chunks 24 (recordShape b).a (b.drop 64)).map (fun e => (le e 0 1, accessOf (e.drop 8)))

/-- Shelf entries (R506). -/
def recordShelves (b : Bytes) : List (Nat × Nat × Nat × Nat) :=
  let r := recordShape b
  (chunks 8 r.s (b.drop (64 + 24 * r.a))).map (fun e => (le e 0 1, le e 1 1, le e 2 2, le e 4 2))

/-- Severity entries (R621). -/
def recordSevs (b : Bytes) : List SevEntry :=
  let r := recordShape b
  (chunks 8 r.v (b.drop (64 + 24 * r.a + 8 * r.s))).map (fun e =>
    { first := le e 0 2, last := le e 2 2, code := le e 4 2, severity := le e 6 1 })

/-- Disabled units, kind and index of R488. -/
def recordUnits (b : Bytes) : List (Nat × Nat) :=
  let r := recordShape b
  (chunks 8 r.u (b.drop (64 + 24 * r.a + 8 * (r.s + r.v)))).map (fun e => (le e 0 1, le e 1 1))

/-- The record digest (R632). -/
def recordDigestOf (b : Bytes) : Bytes := shake32 (ascii "GN7CFGD1" ++ b.take (le b 8 4))

/-- PPS divides 1 s at this period (R55). -/
def ppsPeriod (p : Nat) : Bool := [4, 5, 8, 10, 16, 20, 25, 32, 40, 50, 64].contains p

/-- A period and a TICK_IN mode that TICK_CONFIG would accept (R41, R54, R55). -/
def tickModeOk (period mode : Nat) : Bool := 4 ≤ period && period ≤ 64 && mode ≤ 2 && (mode != 2 || ppsPeriod period)

/-- One signature block of the record (R99, R632). -/
def blockOk (b : Bytes) (off cred : Nat) (key digest : Bytes) : Bool :=
  le b off 1 == cred && le b (off + 1) 1 == 1 && le b (off + 2) 2 == 1280 && le b (off + 4) 4 == 0
    && falconVerify key digest (field b (off + 8) 1280)

/-- Bindings of rings are distinct (R324). -/
def ringsDistinct : List Access → Bool
  | [] => true
  | a :: r => !r.any (fun b => a.cls == 5 && b.cls == 5 && a.port == b.port && (a.rings &&& b.rings) != 0) && ringsDistinct r

/-- Selvedge accepts the record (R633). -/
def State.recordOk (s : State) (b : Bytes) : Bool :=
  let r := recordShape b
  let period := if le b 26 1 = 0 then 16 else le b 26 1
  let rail := le b 28 2
  let q := le b 40 4
  let len := le b 8 4
  field b 0 8 == ascii "GN7CFGR1" && len == r.length && decide (len ≤ 16384) && (le b 16 8 == 0 || le b 16 8 == s.up.serial)
    && decide (le b 24 1 ≤ 31) && decide (le b 25 1 ≤ 1) && tickModeOk period (le b 27 1)
    && (rail == 0 || (decide (20 ≤ rail) && decide (rail ≤ 400))) && decide (r.a ≤ 256) && decide (r.s ≤ 96) && decide (r.v ≤ 64)
    && decide (r.u ≤ 64) && (q == 0 || (decide (6250 ≤ q) && decide (q ≤ 3750000)))
    && (recordAccess b).all (fun e => e.2.fits e.1) && ringsDistinct ((recordAccess b).map Prod.snd)
    && (recordShelves b).all (fun x => decide (x.1 ≤ 95) && decide (x.2.1 ≤ 15) && decide (10 ≤ x.2.2.1)
        && decide (100 ≤ x.2.2.2) && decide (x.2.2.2 ≤ 1000))
    && (recordSevs b).all SevEntry.lawful
    && (recordUnits b).all (fun x => decide (1 ≤ x.1) && decide (x.1 ≤ 5) && decide (x.2 < unitCount (unitKind x.1)))
    && (s.unenrolled || (blockOk b len 1 s.sec.policy.operator (recordDigestOf b)
        && blockOk b (len + 1288) 2 s.sec.policy.custodian (recordDigestOf b)))

/-- The defaults of the master slots (R320, R325, R663); the PEER slots are filled with the peer list. -/
def defaultMasters : List (Nat × Access) :=
  [(0, { cls := 1, classes := 0x7FFF#16, read := true, write := true, cosign := true, opr := true }),
    (1, { cls := 2, classes := 0x7FFF#16, read := true, write := true, cosign := true }),
    (2, { cls := 3, classes := 0x2BEC#16, read := true, write := true }),
    (3, { cls := 6, classes := 0x7FFF#16, read := true, write := true }),
    (4, { cls := 7, classes := 0x0400#16, read := true })]

/-- The fields of an accepted record apply (R632). -/
def State.applyRecord (s : State) (b : Bytes) : State :=
  let period := if le b 26 1 = 0 then 16 else le b 26 1
  let q := le b 40 4
  let off := (recordUnits b).map (fun x => (unitKind x.1, x.2))
  let s1 : State := { s with
    up := { s.up with
      placed := true, bolt := le b 24 1, twin := le b 25 1, recordDigest := recordDigestOf b, disabledByRecord := recordUnits b }
    clock := { s.clock with period := period, mode := le b 27 1 }
    faults := { s.faults with sevs := recordSevs b, q := if q = 0 then 62500 else q }
    power := { s.power with shelves := (recordShelves b).foldl (fun m x =>
      kvSet m x.1 { phi := x.2.1, budget := x.2.2.1, volts := x.2.2.2 }) s.power.shelves }
    access := { s.access with masters := (recordAccess b).foldl (fun m e =>
      if e.2.cls = 0 then kvErase m e.1 else kvSet m e.1 e.2) s.access.masters } }
  off.foldl (fun t u => t.setUnit { kind := u.1, index := u.2, status := .off, cause := 5 }) s1

/-- The record is checked in STAGE1: it applies whole or not at all (R633, R634). -/
def State.loadRecord (s : State) : State :=
  let s1 : State := { s with access := { s.access with masters := defaultMasters } }
  if s1.up.region = [] then s1
  else if s1.recordOk s1.up.region then s1.applyRecord s1.up.region
  else { s1 with up := { s1.up with rejected := true } }

/-! ### HALT during bring-up -/

/-- A failure that bring-up cannot survive (R19, R552, R556, R561, R624): recorded at S5, HALT. -/
def State.bootHalt (s : State) (source code : Nat) : State :=
  let cls := (classify code source).2.1
  let s1 := (((s.countFault source 5).newRecord code cls 5 { source := source, code := code }).spillAll).setDev .halt
  { s1 with up := { s1.up with clocksStopped := true } }

/-! ### The image (R556, R557) -/

/-- An image slot may boot. -/
def State.slotBoots (s : State) (i : Nat) : Bool := (s.sec.slot i).bootable s.sec.policy.minFw s.sec.policy.revoked

/-- The trial count at a boot: the fourth boot without READY goes back to the previous slot and records a fallback (R557). -/
def State.trialBoot (s : State) : State :=
  let p := s.sec.policy
  if p.trials = 0 then s.modSec (fun x => { x with trial := false, activated := none })
  else if p.trials = 1 then
    (s.modSec (fun x => { x with
      trial := false, activated := none, fallback := true
      policy := { x.policy with bootSlot := x.policy.prevSlot, trials := 0 } })).secLog 3 0 0 0 (s.sec.slot p.prevSlot).digest
  else s.modSec (fun x => { x with trial := true, activated := none, policy := { x.policy with trials := x.policy.trials - 1 } })

/-- Selvedge verifies the named slot, then the other, and releases the cores; with neither, HALT (R556). -/
def State.bootImage (s : State) : State :=
  let s1 := s.trialBoot
  let named := s1.sec.policy.bootSlot
  let other := 1 - named
  if s1.slotBoots named then s1.modSec (fun x => { x with runSlot := named })
  else if s1.slotBoots other then
    (s1.modSec (fun x => { x with runSlot := other, fallback := true })).secLog 3 0 0 0 (s1.sec.slot other).digest
  else s1.bootHalt 0xF90D 0xFF

/-- Buckram starts when power came on (R520 to R523). -/
def State.startBuckram (s : State) : State := if s.buckram.state = 0 then s.setMtrState 1 else s

/-! ### Stages (R624) -/

/-- A stage begins at an instant: the duration of the one before it is noted in ms, a half rounding up (R640). -/
def State.enterStage (s : State) (from_ : Nat) (d : DevState) : State :=
  let us := 16 * (s.clock.now - s.up.stageSince)
  let s1 : State := { s with up := { s.up with
    durations := setAt s.up.durations from_ ((us + 500) / 1000), stageSince := s.clock.now } }
  s1.setDev d

/-- The target of a stage, in ms, has passed. -/
def State.stageOver (s : State) (ms : Nat) : Bool := decide (1000 * ms ≤ 16 * (s.clock.now - s.up.stageSince))

/-- A unit's test of this bring-up has ended. -/
def State.isTested (s : State) (kind idx : Nat) : Bool := s.up.tested.any (fun t => t.1 == kind && t.2.1 == idx)

/-- Units of a kind that are to be tested: not absent and not OFF. -/
def State.testList (s : State) (kind : Nat) : List Nat :=
  (List.range (unitCount kind)).filter (fun i => s.unitStatus kind i != .absent && s.unitStatus kind i != .off)

/-- Units of the kinds whose test has not ended. -/
def State.untested (s : State) (kinds : List Nat) : List (Nat × Nat) :=
  kinds.flatMap (fun k => ((s.testList k).filter (fun i => !s.isTested k i)).map (fun i => (k, i)))

/-- Units unfinished at the target are fenced (R624). -/
def State.fenceUntested (s : State) (kinds : List Nat) : State :=
  (s.untested kinds).foldl (fun t u =>
    let t1 := t.testFault u.1 u.2 6 0
    if u.1 = 8 then t1.modLink { port := u.2 } (fun l => { l with state := .fenced, fenceCause := 4 }) else t1) s

/-- A stage's work is done, or its target has passed. -/
def State.stageDone (s : State) (kinds : List Nat) (ms : Nat) : Bool := s.untested kinds == [] || s.stageOver ms

/-- Domains are booked in ascending number at the first local tick of a stage (R629). -/
def State.bookDomains (s : State) (ds : List Nat) : State := ds.foldl (fun t d => t.domainOn d) s

/-- MB/s of a flash mode (R630). -/
def flashRate : Nat → Nat
  | 1 => 100
  | 2 => 400
  | _ => 50

/-- Target of STAGE1 in ms (R624, R625): 100 ms more for a fallback, and the time of each image beyond 400 MB/s. -/
def State.stage1Target (s : State) : Nat :=
  let r := flashRate s.pins.flashMode
  let extra (i : Nat) : Nat := cdiv (((s.sec.slot i).length + 4096) * (400 - r)) (400000 * r)
  150 + extra s.sec.runSlot + (if s.sec.fallback then 100 + extra (1 - s.sec.runSlot) else 0)

/-- Domain in which a unit of a kind lies (R486). -/
def testDomain (kind idx : Nat) : Nat := match kind with
  | 1 => 0
  | 4 => 3
  | 5 => 2
  | 6 => 4 + idx / 8
  | 7 => 4 + idx
  | 15 => 2
  | 16 => 2
  | k => unitDomain k idx

/-- A domain that is on is usable one local tick after it was switched on (R629). -/
def State.domainUsable (s : State) (d : Nat) : Bool :=
  s.up.domains.contains d && !s.up.onAt.any (fun e => e.1 == d && decide (s.clock.now ≤ e.2))

/-- Stage that tests a kind (R624). -/
def testStage (kind : Nat) : DevState := match kind with
  | 1 => .stage1
  | 4 => .stage2
  | 5 => .stage2
  | 15 => .stage2
  | 16 => .stage2
  | 6 => .stage3
  | 7 => .stage3
  | 8 => .stage4
  | 9 => .stage5
  | 10 => .stage5
  | 11 => .stage5
  | 12 => .stage5
  | 13 => .stage5
  | 14 => .stage5
  | _ => .off

/-- Rows found failing and repaired go to the defect map while it has room; a row it cannot take is recorded at S2 (R638). -/
def State.listDefects (s : State) (rows : List DefectRow) : State :=
  rows.foldl (fun t r =>
    if 4096 ≤ t.up.defects.length then
      (t.countFault (unitSource 6 r.stack) 2).newRecord 0xFF 6 2 { source := unitSource 6 r.stack, code := 0xFF }
    else { t with up := { t.up with
      defects := t.up.defects ++ [{ r with pcycle := t.up.pcycle }], defectsAdded := t.up.defectsAdded + 1 } }) s

/-- The host ports' PHYs follow their PERST from STAGE2 on; H1 stays down without its strap (R630, R635). -/
def State.enablePhys (s : State) : State :=
  let up (p : Nat) : Bool := !(s.hostPort p).perst && (p == 0 || bit s.pins.sampled.toNat 3)
  (s.modHostPort 0 (fun h => { h with linkUp := up 0 })).modHostPort 1 (fun h => { h with linkUp := up 1 })

end Sys2Proof.Machine
end

