-- ==== Sys2Proof/Machine/BringUp.lean ====
section
/-! DEFINITION. The rows of power, reset pins and bring-up (spec 18_bring_up R623 to R642, spec 21_package_and_signals R692 to
R696). -/

namespace Sys2Proof.Machine

open Sys2Proof

/-! ### Pins -/

/-- PWR_GOOD_RISE (R623, R691), with the levels of STRAP0 to STRAP4: BOOT begins unless RESET_N is low, when it waits for the
release; Buckram is reset (R521). -/
def execPwrGoodRise (straps : Nat) (s : State) : Host.Outcome State Fault Refusal :=
  if s.pins.pwrGood then s.finish s
  else
    let s1 : State := { s with pins := { s.pins with pwrGood := true, straps := BitVec.ofNat 5 straps } }
    if s.pins.resetN then s.finish (s1.bringUp true) else s.finish (s1.cold true)

/-- PWR_GOOD_FALL (R692, R695): OFF at once, in any state; a thermal trip is cleared. -/
def execPwrGoodFall (s : State) : Host.Outcome State Fault Refusal :=
  let t := s.cold true
  s.finish { t with
    pins := { t.pins with pwrGood := false }
    up := { t.up with tripped := false } }

/-- A region of the firmware flash as the programming path leaves it (R555, R561, R631, R696): 0 the configuration region, 1 and 2
the image slots, 3 the policy region erased. -/
def State.programRegion (s : State) (region : Nat) (b : Bytes) : State :=
  let slot : ImageSlot := if b = [] then {}
    else ((s.modSec (fun x => { x with policy := { x.policy with minFw := 0, revoked := [] } })).verifyImage b b.length 0).1
  match region with
  | 0 => { s with up := { s.up with region := b } }
  | 1 => s.modSec (fun x => { x with slotA := slot })
  | 2 => s.modSec (fun x => { x with slotB := slot })
  | 3 => s.modSec (fun x => { x with policy := {}, recordPresent := false })
  | _ => s

/-- RESET_N_ASSERT (R694, R696): the flash pins are released, and an external programmer may write regions of the flash. -/
def execResetNAssert (programmed : List (Nat × Bytes)) (s : State) : Host.Outcome State Fault Refusal :=
  if s.pins.resetN = false then s.finish s
  else
    let s1 : State := { s with pins := { s.pins with resetN := false, flashReleased := true } }
    s.finish (programmed.foldl (fun t e => t.programRegion e.1 e.2) s1)

/-- RESET_N_RELEASE (R694, R695), after a low time in µs: at least 1 ms starts a bring-up, less than 10 µs is ignored, and between the
two one of both happens, the spec leaving open which (log entry 5). With a thermal trip or PWR_GOOD low nothing starts; a device that
waits for the release after PWR_GOOD starts whatever the time (R691). -/
def execResetNRelease (us : Nat) (s : State) : Host.Outcome State Fault Refusal :=
  if s.pins.resetN then s.finish s
  else
    let s1 : State := { s with pins := { s.pins with resetN := true, flashReleased := false } }
    if !s.pins.pwrGood || s.up.tripped then s.finish s1
    else if s.up.dev = .off ∨ 1000 ≤ us then s.finish (s1.bringUp (s.up.dev == .off))
    else if us < 10 then s.finish s1
    else
      let (s2, n) := s1.draw
      s.finish (if Config.freeNat n % 2 = 0 then s2 else s2.bringUp false)

/-- PERST_ASSERT (R635, R675): every ring of the port is DISABLED and its link is down; the commands accepted from them run on, and their
records go to the other port. -/
def execPerstAssert (port : Nat) (s : State) : Host.Outcome State Fault Refusal :=
  let s1 : State := { s with host := { s.host with
    cmds := s.host.cmds.map (fun c => if c.cut.contains port then c else { c with cut := c.cut ++ [port] }) } }
  s.finish (s1.modHostPort port (fun h => { h with
    perst := true, linkUp := false, rings := h.rings.map (fun r => (r.1, { r.2 with state := .disabled, stopping := false })) }))

/-- PERST_RELEASE (R635, R675): the port's registers are at their reset values, and its PHY trains from STAGE2 on. -/
def execPerstRelease (port : Nat) (s : State) : Host.Outcome State Fault Refusal :=
  if (s.hostPort port).perst = false then s.finish s
  else
    let up : Bool := (match s.up.dev with
      | .off | .boot | .stage1 | .halt => false
      | _ => true) && (port == 0 || bit s.pins.sampled.toNat 3)
    s.finish (s.modHostPort port (fun h => { h.kept s.faults.firstIndex with perst := false, linkUp := up, orphans := h.orphans }))

/-! ### BOOT and STAGE1 -/

/-- The policy record at boot (R560, R561): with an erased region the part is unenrolled; `copies` says what authenticates: 0 both
copies alike, 1 one good copy or two that differ, 2 none though the region is not erased. -/
def State.loadPolicy (s : State) (copies : Nat) : State :=
  if copies = 2 then s.bootHalt 0xF110 0xFF
  else if !s.sec.recordPresent then s.modSec (fun x => { x with policy := {} })
  else if copies = 1 then s.secLog 8 0 0 0 []
  else s

/-- BOOT_COMPLETE (R624): the clock check of the power-on sequencer, then the work of STAGE1 by Selvedge: its engines and the PUF secret
(R552), the policy record, the configuration record (R633), the image (R556). PD0 and PD1 are booked (R629), the core rail gets its
first set point (R690), and Buckram starts on its own. -/
def execBootComplete (clockOk selvedgeOk : Bool) (copies : Nat) (s : State) : Host.Outcome State Fault Refusal :=
  if s.up.dev ≠ .boot then s.finish s
  else if !clockOk then s.finish { s with up := { s.up with clockBad := true } }
  else
    let s0 : State := { s with up := { s.up with clockBad := false } }
    let s1 := ((s0.enterStage 0 .stage1).bookDomains [0, 1]).driveCore
    let s2 := if s1.pins.sampled.getLsbD 4 then s1.fault { source := 0xF900, code := 0x2C } else s1
    let s3 := s2.startBuckram
    if !selvedgeOk then s.finish (s3.bootHalt 0xF110 3)
    else
      let s4 := s3.loadPolicy copies
      if s4.up.dev = .halt then s.finish s4 else s.finish s4.loadRecord.bootImage

/-- STAGE1_COMPLETE (R19, R624): cores untested at the target are fenced; fewer than two good ones halt the device. The power-cycle
count is written (R560), the rail budget is that of the record (R629), PD2 and PD3 are booked, the host PHYs enabled. -/
def execStage1Complete (s : State) : Host.Outcome State Fault Refusal :=
  if s.up.dev ≠ .stage1 ∨ s.stageDone [1] s.stage1Target = false then s.finish s
  else
    let s1 := s.fenceUntested [1]
    if s1.goodCount 1 < 2 then s.finish (s1.bootHalt 0xF100 6)
    else
      let s2 := s1.leaderMarker
      let rail := le s2.up.region 28 2
      let s3 : State := { s2 with
        up := { s2.up with pcycleStored := s2.up.pcycle }
        power := { s2.power with railBudget := if s2.up.placed ∧ rail ≠ 0 then rail else 120 } }
      s.finish ((s3.enterStage 1 .stage2).bookDomains [2, 3]).enablePhys

/-- STAGE2_COMPLETE (R624, R636). -/
def execStage2Complete (s : State) : Host.Outcome State Fault Refusal :=
  if s.up.dev ≠ .stage2 ∨ s.stageDone [4, 5, 15, 16] 30 = false then s.finish s
  else match s.untested [5] with
    | u :: _ => s.finish (s.bootHalt (unitSource 5 u.2) 3)
    | [] =>
      let s1 := s.fenceUntested [4, 15, 16]
      if s1.goodCount 4 = 0 then s.finish (s1.bootHalt 0xF120 3)
      else s.finish ((s1.enterStage 2 .stage3).bookDomains [4, 5, 6, 7])

/-- STAGE3_COMPLETE (R624, R638): unfinished stacks and crossbars are fenced. -/
def execStage3Complete (s : State) : Host.Outcome State Fault Refusal :=
  if s.up.dev ≠ .stage3 ∨ s.stageDone [6, 7] 1200 = false then s.finish s
  else s.finish (((s.fenceUntested [6, 7]).enterStage 3 .stage4).bookDomains [8, 9, 10, 11])

/-- Every port is UP or FENCED, or DOWN without far-end signal for 100 ms after its loopback (R639). -/
def State.portsSettled (s : State) : Bool :=
  (s.testList 8).all (fun p => match (s.port p).link.state with
    | .up => true
    | .fenced => true
    | .down => (s.unitStatus 8 p).lost || (!s.up.booked.any (fun e => e.1 == 32 + p)
        && s.up.tested.any (fun t => t.1 == 8 && t.2.1 == p && decide (100000 ≤ 16 * (s.clock.now - t.2.2))))
    | _ => false)

/-- STAGE4_COMPLETE (R624, R639). PD12 to PD17 are booked when a unit of theirs is not OFF (R637). -/
def execStage4Complete (s : State) : Host.Outcome State Fault Refusal :=
  if s.up.dev ≠ .stage4 ∨ !((s.untested [8] == [] && s.portsSettled) || s.stageOver 2500) then s.finish s
  else
    let s1 := (s.fenceUntested [8]).enterStage 4 .stage5
    let ds := [12, 13, 14, 15, 16, 17, 18].filter (fun d => d == 18 || (domainUnits d).any (fun u => s1.unitStatus u.1 u.2 != .off))
    s.finish (s1.bookDomains ds)

/-- STAGE5_COMPLETE (R557, R624, R626): READY, which ends a trial. -/
def execStage5Complete (s : State) : Host.Outcome State Fault Refusal :=
  if s.up.dev ≠ .stage5 ∨ s.stageDone [9, 10, 11, 12, 13, 14] 400 = false then s.finish s
  else
    let s1 := (s.fenceUntested [9, 10, 11, 12, 13, 14]).enterStage 5 .ready
    s.finish (s1.modSec (fun x => { x with policy := { x.policy with trials := 0 } }))

/-! ### Bookings and tests -/

/-- Own ports of a domain that is on and DOWN go to training when the device runs (R124): in bring-up, loopback and far-end signal come
first (R629). -/
def State.trainDomain (s : State) (d : Nat) : State :=
  let runs := s.up.dev == .ready || s.up.dev == .run || s.up.dev == .degraded || s.up.dev == .fault
  if !runs ∨ d < 8 ∨ 11 < d then s
  else ((List.range 40).filter (fun p => 8 + p / 10 == d && (s.port p).link.state == .down && s.portReady p)).foldl (fun t p =>
    t.trainPort p) s

/-- LINK_RETRAIN has ordered the training of an own port. -/
def State.retrainOrdered (s : State) (p : Nat) : Bool :=
  s.host.cmds.any (fun c => c.phase == .running && c.pkt.opcode == 0x0205 && c.data == [s.ownAddr, p])

/-- RAIL_BOOKING_START (R129, R504, R629): a domain, 0 to 19, is switched on; the training of port `what` − 32, or the retrain of port
`what` − 96, begins, at the instant its booking returned. -/
def execRailBookingStart (what : Nat) (s : State) : Host.Outcome State Fault Refusal :=
  match s.up.booked.find? (fun e => e.1 == what) with
  | none => s.finish s
  | some e =>
    if s.clock.now < e.2 ∨ s.up.dev = .off ∨ s.up.dev = .halt then s.finish s
    else
      let s1 : State := { s with up := { s.up with booked := s.up.booked.filter (fun x => x.1 != what) } }
      if what < 32 then
        let s2 : State := { s1 with up := { s1.up with
          domains := sortBy (fun x => x) (what :: s1.up.domains.filter (· != what)), onAt := kvSet s1.up.onAt what s1.clock.now } }
        s.finish (s2.trainDomain what)
      else if 96 ≤ what then
        let r : PortRef := { port := what - 96 }
        let l := (s1.port (what - 96)).link
        s.finish (if l.state = .retrain ∧ l.waits then s1.modLink r (fun l => { l with waits := false }) else s1)
      else
        let r : PortRef := { port := what - 32 }
        let l := (s1.port (what - 32)).link
        if l.state = .training ∧ l.waits then s.finish (s1.beginAttempt r)
        else if s1.portReady (what - 32) ∧ (l.state = .down ∨ s1.retrainOrdered (what - 32)) then
          s.finish ((s1.enterTraining r).reportLink r)
        else s.finish s1

/-- A failing row lies in a bank group of a die that has had its soft repair (R638). -/
def sharesGroup (r x : DefectRow) : Bool :=
  r.stack == x.stack && r.sub == x.sub && r.die == x.die && r.bankGroup == x.bankGroup

/-- What the failing rows of a stack's test come to (R638): the rows repaired, and the sub-channels, as a mask, that would need a second soft
repair in one bank group of one die; `had` are the rows repaired before. -/
def softRepairs (had : List DefectRow) : List DefectRow → List DefectRow × Nat
  | [] => ([], 0)
  | r :: rest =>
    if had.any (sharesGroup r) then
      let (rows, mask) := softRepairs had rest
      (rows, mask ||| 2 ^ (r.sub % 8))
    else
      let (rows, mask) := softRepairs (r :: had) rest
      (r :: rows, mask)

/-- A test of bring-up has ended (R624, R627, R637, R638). A mesh router that fails halts the device. -/
def State.bringUpTest (s : State) (kind idx : Nat) (passed : Bool) (detail : Nat) (rows : List DefectRow) : State :=
  let s1 : State := { s with up := { s.up with tested := s.up.tested ++ [(kind, idx, s.clock.now)] } }
  if kind = 5 ∧ !passed then s1.bootHalt (unitSource 5 idx) 3
  else
    let (mine, mask) := softRepairs s.up.defects (if kind = 6 then rows.filter (fun r => r.stack == idx) else [])
    let passed := passed && mask == 0
    let detail := detail ||| mask
    let s2 := s1.listDefects mine
    let s3 : State := if mine = [] then s2
      else { s2 with up := { s2.up with repaired := kvSet s2.up.repaired idx (min 255 mine.length) } }
    if passed then s3
    else if kind = 8 then
      (s3.testFault 8 idx 1 0).modLink { port := idx } (fun l => { l with state := .fenced, fenceCause := 4 })
    else s3.testFault kind idx (if kind = 6 ∧ detail = 0 then 2 else 1) detail

/-- SELF_TEST_COMPLETE (R490, R605, R637), by kind and index of R641, with the failed test step (for a stack the failed sub-channels as a
mask) and the rows found failing and repaired: in the stage that tests the kind, under UNIT_ENABLE, or under UNFENCE. -/
def execSelfTestComplete (kind idx : Nat) (passed : Bool) (detail : Nat) (rows : List DefectRow) (s : State) :
    Host.Outcome State Fault Refusal :=
  if unitCount kind ≤ idx ∨ !s.domainUsable (testDomain kind idx) then s.finish s
  else match s.unfenceCmd kind idx with
    | some c => s.finish (s.unfenceTested c kind idx passed)
    | none =>
      if s.up.dev = testStage kind ∧ s.up.dev ≠ .off then
        if s.isTested kind idx ∨ !(s.testList kind).contains idx then s.finish s
        else s.finish (s.bringUpTest kind idx passed detail rows)
      else match s.unitCmd 0x0905 kind idx, s.unitRec kind idx with
        | some _, some u =>
          if u.status ≠ .off then s.finish s
          else if passed then s.finish (s.setUnit { u with outstanding := 1 })
          else s.finish (s.fault { source := unitSource kind idx, code := 3 })
        | _, _ => s.finish s

end Sys2Proof.Machine
end

