-- ==== Sys2Proof/Machine/TwinOps.lean ====
section
/-! DEFINITION. The twin pair: mirrored objects at the SECONDARY, the resync, deposition and takeover (spec 19_twin_and_peers R643 to
R658). -/

namespace Sys2Proof.Machine

open Sys2Proof

/-- Change the twin's state. -/
def State.modTwin (s : State) (f : Twin → Twin) : State := { s with twin := f s.twin }

/-- Role or token changed: INT.CAUSE.ROLE (R677). -/
def State.roleChanged (s : State) : State := s.raiseCause 4

/-! ### The mirrored state at the SECONDARY (R650) -/

/-- Parts of the primary's epoch state that are its own: commands and staging. -/
def Epoch.mirrored (e own : Epoch) : Epoch :=
  { e with
      stageCmd := none
      commitCmd := none
      staging := none
      forcedStage := own.forcedStage
      pins := own.pins
      pinConflicts := own.pinConflicts
      nextPin := own.nextPin
      images := own.images }

/-- Put an element in a list kept ascending by a key, or take the key out. -/
def putBy {α : Type} (key : α → Nat) (l : List α) (k : Nat) (x : Option α) : List α :=
  let rest := l.filter (fun y => key y != k)
  match x with
  | some v => insertBy key rest v
  | none => rest

/-- COUNTS messages to the own Buckram, three readings in each; a slot above 64 fills the last one up (R530, R541). -/
def State.passReadings (s : State) (l : List Bytes) : State :=
  let blank := zeros 2 ++ toLe 1 0xFF ++ zeros 17
  (List.range (cdiv l.length 3)).foldl (fun t i =>
    let three := (l.drop (3 * i)).take 3
    t.modBuckram (fun b => b.post 2 (three.flatten ++ (List.replicate (3 - three.length) blank).flatten))) s

/-- A mirrored object takes its place in the SECONDARY's state (R650). -/
def State.takeItem (s : State) (x : MirrorItem) : State := match x with
  | .section_ x => s.putSection x
  | .readings l => s.passReadings l
  | .banks i => s.putImage i
  | .epoch e => s.modEpoch (fun own => e.mirrored own)
  | .pins l c => s.modEpoch (fun e => { e with pins := l, pinConflicts := c })
  | .slice job x => { s with access := { s.access with slices := putBy Slice.job s.access.slices job x } }
  | .grants l r => { s with access := { s.access with grants := l, retired := r } }
  | .group id x => { s with twill := { s.twill with groups := putBy Group.id s.twill.groups id x } }
  | .base b => s.putBase b
  | .verdict id x => s.modGroup id (fun g => { g with
      steps := insertBy GroupStep.step (g.steps.filter (fun y => y.step != x.step)) x })
  | .plan id x => { s with jacquard := { s.jacquard with plans := putBy Plan.id s.jacquard.plans id x } }
  | .generation job gen x =>
    let rest := s.store.tracks.filter (fun t => !(t.job == job && t.gen == gen))
    s.modStore (fun t => { t with tracks := match x with
      | some k => rest ++ [{ k with cmd := none }]
      | none => rest })
  | .shelf h x => { s with power := { s.power with shelves := kvSet s.power.shelves h x } }
  | .grant g => s.keepGrant g
  | .barriers l => { s with power := { s.power with barriers := l } }
  | .keyState job kind generation =>
    s.modSec (fun c => { c with keys := c.keys.map (fun k =>
      if k.job = job ∧ k.kind = kind then { k with current := k.generation == generation, used := k.used || k.generation == generation } else k) })
  | .action dst type body tick =>
    s.modTwin (fun t => { t with actions := t.actions ++ [{
      dst := dst, type := type, body := body, at_ := s.clock.now + (tick - s.clock.tick) }] })

/-- A delta is applied at the marker of its tick of effect (R651). -/
def State.takeDelta (s : State) (d : Delta) : State :=
  let s1 := s.imageObject d.kind d.obj d.data d.tick
  match d.item with
  | some x => s1.takeItem x
  | none => s1

/-- Step 1 of a marker at the SECONDARY: the deltas due are applied in sequence (R651); timed actions that are past leave. -/
def State.deltaMarker (s : State) : State :=
  let due (d : Delta) : Bool := decide (d.tick ≤ s.clock.tick) && s.twin.mirror != .resync
  let s1 := (s.twin.held.filter due).foldl (fun t d => t.takeDelta d) (s.modTwin (fun t => { t with
    held := t.held.filter (fun d => !due d) }))
  s1.modTwin (fun t => { t with
    actions := t.actions.filter (fun a => decide (s1.clock.now ≤ a.at_))
    image := t.image.filter (fun m => m.kind != 11 || decide (s1.clock.now ≤ m.at_)) })

/-! ### Acknowledgement (R651, R652) -/

/-- Everything that waits for the twin up to a sequence number goes out: messages and ends of commands (R651). -/
def State.openGate (s : State) (upTo : Nat) : State :=
  let s0 : State := { s with mail := { s.mail with
    gate := s.mail.gate.filter (fun g => !decide (g.1 ≤ upTo))
    heldEnds := s.mail.heldEnds.filter (fun h => !decide (h.seq ≤ upTo)) } }
  let s1 := (s.mail.gate.filter (fun g => decide (g.1 ≤ upTo))).foldl (fun t g => t.sendAgain g.2) s0
  (s.mail.heldEnds.filter (fun h => decide (h.seq ≤ upTo))).foldl (fun t h => t.endNow h.id h.status h.detail h.tick h.result) s1

/-- The mirror state becomes SINGLE: nothing waits any longer (R652, R653). -/
def State.goSingle (s : State) : State :=
  (s.modTwin (fun t => { t with mirror := .single, unacked := [], resyncSeq := none, resyncDue := false, resyncDone := false })).openGate
    (2 ^ 32)

/-- Acknowledgement of every delta held without a gap (R649). -/
def State.sendMirrorAck (s : State) : State := s.send (s.msgTo s.twinAddr 0x71 (toLe 4 s.twin.received ++ zeros 4) 0x20)

/-- A SECONDARY asks for a resync and counts as RESYNC until it is complete (R652). -/
def State.askResync (s : State) : State :=
  (s.modTwin (fun t => { t with
    mirror := .resync, resyncData := [], resyncItems := [], resyncSeq := none, resyncDone := false, resyncBytes := 0 })).send
    (s.msgTo s.twinAddr 0x74 (toLe 4 ((s.twin.received + 1) % 2 ^ 32) ++ zeros 4) 0x20)

/-! ### Resync (R653) -/

/-- The bytes of the image: kind, object, length and data of every object, a layout that the spec does not give (DESIGN CHOICE). -/
def imageBytes (l : List Mirrored) : Bytes :=
  l.flatMap (fun m => toLe 1 m.kind ++ toLe 4 m.obj ++ toLe 1 m.data.length ++ m.data)

/-- Read an image. -/
def readImage : Nat → Bytes → List Mirrored
  | 0, _ => []
  | n + 1, b =>
    if b.length < 6 then []
    else { kind := le b 0 1, obj := le b 1 4, data := field b 6 (le b 5 1) } :: readImage n (b.drop (6 + le b 5 1))

/-- The PRIMARY takes a snapshot at a marker and sends it as RESYNC_DATA over the M ports that are UP (R648); a part of fewer than 192 bytes ends it (R649, R653). -/
def State.sendSnapshot (s : State) : State :=
  let img := imageBytes s.twin.image
  let seq := (s.twin.nextSeq + 2 ^ 32 - 1) % 2 ^ 32
  let parts := img.length / 192 + 1
  let up := [36, 37].filter (fun p => s.portUp p)
  let s1 := (List.range parts).foldl (fun t i =>
    t.send { t.msgTo t.twinAddr 0x75 (toLe 8 (192 * i) ++ toLe 4 seq ++ zeros 4 ++ (img.drop (192 * i)).take 192) 0x20 with
      port := up[i % up.length]? }) s
  s1.modTwin (fun t => { t with resyncSeq := some seq, resyncDue := false, resyncDone := false, resyncBytes := img.length })

/-- The highest number that a list continues from `r` without a gap. -/
def runFrom (l : List Nat) : Nat → Nat → Nat
  | 0, r => r
  | n + 1, r => if l.contains ((r + 1) % 2 ^ 32) then runFrom l n ((r + 1) % 2 ^ 32) else r

/-- The SECONDARY's image is complete: it is applied, the deltas held since its snapshot follow at their ticks, and the pair is in
step (R653). -/
def State.takeImage (s : State) : State :=
  match s.twin.resyncSeq with
  | none => s
  | some seq =>
    let bytes := s.twin.resyncData.flatMap Prod.snd
    let s1 := s.modTwin (fun t => { t with
      image := readImage (bytes.length + 1) bytes, mirror := .inSync, resyncSeq := none, resyncData := [], resyncItems := []
      resyncDone := false, held := t.held.filter (fun d => decide (seq < d.seq)) })
    s.twin.resyncItems.foldl (fun t x => t.takeItem x) s1

/-- The pair at a marker (R653, R654): a snapshot that is due is sent; RESYNC ends at the marker after the twin has applied the image,
as its heartbeat says. -/
def State.mirrorMarker (s : State) : State :=
  if !s.twin.assigned then s
  else if s.twin.role = 0 then
    let s1 := if s.twin.resyncDue then s.sendSnapshot else s
    if s1.twin.mirror = .resync ∧ s1.twin.resyncDone then
      s1.modTwin (fun t => { t with mirror := .inSync, resyncSeq := none, resyncDone := false })
    else s1
  else if s.twin.mirror = .resync ∧ s.twin.resyncDone then s.takeImage.sendMirrorAck
  else s

/-- No HEARTBEAT has arrived on any path during the 8 ticks before this marker (R654). -/
def State.twinSilent (s : State) : Bool := match s.twin.heartbeat with
  | some h => decide (h + 8 < s.clock.now)
  | none => true

/-- A silent twin no longer counts as healthy, and the mirror state is SINGLE until a resync (R653, R654). -/
def State.silenceMarker (s : State) : State :=
  if !s.twinSilent then s
  else
    -- deltas beyond an image that is not complete say nothing
    let s1 := s.modTwin (fun t => { t with
      heardDev := 0, held := if t.role = 1 ∧ t.mirror = .resync then [] else t.held })
    if s.twin.assigned ∧ (s.twin.mirror = .inSync ∨ s.twin.mirror = .resync) then s1.goSingle else s1

/-- The bolt holds a version 2 agent (R203). -/
def State.boltHasV2 (s : State) : Bool :=
  s.twin.version2 || s.ownSection.nodes.any (fun n => n.kind != 4 && n.addr != 0xFFFF && n.ver == 2)

/-- The body of a HEARTBEAT (R649). -/
def State.heartbeatBody (s : State) : Bytes :=
  let m := match s.twin.mirror with
    | .inSync => 0
    | .resync => 1
    | .single => 2
    | .none => 3
  toLe 1 s.twin.role ++ toLe 1 s.up.dev.code ++ toLe 1 m ++ toLe 1 (flag s.twin.noAuto + 2 * flag s.boltHasV2)
    ++ toLe 8 s.twin.token ++ toLe 4 ((s.twin.nextSeq + 2 ^ 32 - 1) % 2 ^ 32) ++ toLe 6 s.tickNow ++ zeros 2

/-- HEARTBEAT at every marker on each M port that is UP, and at every fourth through the fabric (R654). -/
def State.sendHeartbeats (s : State) : State :=
  if !s.up.placed then s
  else
    let m := s.msgTo s.twinAddr 0x72 s.heartbeatBody 0x21
    let ports := [36, 37].filter (fun p => s.portUp p) ++ (if s.markerNo % 4 = 0 then s.fabricPort.toList else [])
    ports.foldl (fun t p => t.send { m with port := some p }) s

/-- PEER_HELLO to every listed peer at every 64th tick (R660). -/
def State.sendHellos (s : State) : State :=
  if !s.up.placed ∨ s.markerNo % 64 ≠ 0 then s
  else
    let body := toLe 1 s.twin.role ++ toLe 1 s.up.dev.code ++ toLe 1 s.tiles ++ zeros 1 ++ toLe 8 s.twin.token
      ++ toLe 6 s.tickNow ++ zeros 2 ++ field s.twin.listDigest 0 32
    s.peerAddrs.foldl (fun t a => t.send (t.msgTo a 0x76 body)) s

/-! ### Deposition (R647) -/

/-- Opcodes whose effect needs agents (column EA of R120). -/
def needsAgents (op : Nat) : Bool :=
  [0x0204, 0x0205, 0x0303, 0x0304, 0x0305, 0x0401, 0x0402, 0x0403, 0x0405, 0x0407, 0x0501, 0x0502, 0x0601, 0x0602, 0x0701, 0x0702,
    0x0705, 0x0707, 0x0803, 0x0805, 0x0903, 0x0B0A].contains op

/-- A deposed PRIMARY becomes SECONDARY with its token unchanged and NOAUTO set; its commands that need agents end with
ST_EPOCH_STALE, and nothing that waited is sent (R647). -/
def State.depose (s : State) (higher : Nat) : State :=
  let hit := s.host.cmds.filter (fun c => needsAgents c.pkt.opcode || c.awaits != [])
  let s1 : State := { s with
    twin := { s.twin with
      role := 1, noAuto := true, deposed := true, deposeDue := none, mirror := .single, unacked := [], resyncDue := false }
    mail := { s.mail with
      gate := [], heldEnds := [], outbox := s.mail.outbox.filter (fun o => !mutates o.msg)
      waiting := s.mail.waiting.filter (fun w => w.cmd.isNone && !mutates w.msg) } }
  let s2 := hit.foldl (fun t c => t.endNow c.id 0x40 0 0 []) s1
  (s2.fault { source := 0xF90B, code := 0x29, key := 4 + 256 * s.up.dev.code + 65536 * s.up.dev.code,
              detail := toLe 8 s.twin.token ++ toLe 8 higher }).dropWalk.roleChanged

/-! ### Takeover (R655 to R657) -/

/-- The tick field of a timed action's body: TABLE_COMMIT at byte 4, KEY_SWITCH and KEY_ERASE at byte 6 (R184, R193). -/
def MirrorAction.retick (a : MirrorAction) (tick : Nat) : Bytes :=
  let o := if a.type = 0x05 then 4 else 6
  a.body.take o ++ toLe 6 tick ++ a.body.drop (o + 6)

/-- A timed action of the old primary is sent again for the earliest tick that R67 allows, no earlier than it was named for (R657).
Grants and releases are booked again instead (R518). -/
def State.reissue (s : State) (a : MirrorAction) : State :=
  if a.type = 0x0C ∨ a.type = 0x0D then s
  else
    let at_ := max a.at_ (s.clock.now + 3)
    let tick := s.tickAt at_
    let body := a.retick tick
    let s1 := (s.mirrorAction a.dst a.type body tick).ask a.dst a.type body
    if a.type ≠ 0x05 then s1
    else match le body 0 1 with
      | 0 => s1.modEpoch (fun e => { e with commitAt := some at_ })
      | 1 => s1.modEpoch (fun e => { e with retireAt := some at_ })
      | 2 => s1.modEpoch (fun e => { e with overlayAt := some at_ })
      | _ => s1

/-- Pending RELEASE starts are booked again with new base ticks (R518): not those of a COMMIT verdict, nor card rounds. -/
def State.rebook (s : State) : State :=
  let waiting := s.power.grants.filter (fun g => g.kind != 0 && g.kind != 4 && decide (s.clock.now ≤ g.start))
  waiting.foldl (fun t g => t.regrant g.addr g.kind g.action g.job) s

/-- Groups with a tree rooted at the old primary: decisions held are sent again, every other step is VOID with cause 7, and the group is
rebuilt on one root (R377). -/
def State.takeGroups (s : State) : State :=
  let hit := s.twill.groups.filter (fun g => g.t0.root == s.twinAddr || (match g.t1 with
    | some t => t.root == s.twinAddr
    | none => false))
  hit.foldl (fun t g =>
    let t1 := (g.steps.filter (fun x => x.verdict != 0)).foldl (fun u x => u.sendVerdict g x) t
    ((t1.failSteps g.id 7).modGroup g.id (fun h => { h with
      state := if h.state = .draining ∨ h.state = .waiting then h.state else .rebuild })).rebuildGroup g.id [] (t1.clock.now + 3)) s

/-- CLAIM to every claimed agent of the bolt, which raises their high token (R657). -/
def State.claimBolt (s : State) : State :=
  (s.ownSection.nodes.filter (fun n => n.kind != 4 && n.addr != 0xFFFF && !n.retired)).foldl (fun t n =>
    t.askPath n.path 0x01 (toLe 1 1 ++ toLe 1 t.up.bolt) .takeover n.addr) s

/-- The takeover of R657. -/
def State.takeOver (s : State) (token : Nat) : State :=
  let old := s.twin.heardToken
  let s0 : State := { s with
    twin := { s.twin with
      role := 0, assigned := true, token := token, mirror := .single, deposed := false, haltNotice := none, heardDev := 0
      takeoverTick := s.tickNow, takeovers := (s.twin.takeovers + 1) % 2 ^ 32, unacked := [], held := [], resyncSeq := none
      resyncDue := false, resyncDone := false, actions := [] }
    clock := { s.clock with eligibleSince := some s.clock.now } }
  let s0 := (s.twin.held.filter (fun _ => s.twin.mirror != .resync)).foldl (fun t d => t.takeDelta d) s0
  let s1 := s0.claimBolt
  let s2 := (s.twin.actions.filter (fun a => decide (s.clock.now ≤ a.at_))).foldl (fun t a => t.reissue a) s1
  let s3 := (s2.unroute s2.twinAddr 0xFF).requestRepair s2.twinAddr 0xFF 0
  let s4 := s3.takeGroups.rebook.resendCards
  let (s5, jobs) := s4.shardLost (s4.ownId / 2 * 2 + (1 - s4.up.twin))
  let s6 := (jobs.foldl (fun t j => t.failJob j) s5).storeGeneelLost s5.twinAddr |>.loadGeneelLost s5.twinAddr
  (s6.fault { source := 0xF90B, code := 0x29, key := 5 + 256 * s.up.dev.code + 65536 * s.up.dev.code,
              detail := toLe 8 token ++ toLe 8 old }).roleChanged

/-- Automatic takeover is armed: NOAUTO clear, no version 2 agent, the standby token above the PRIMARY's as last heard, IN_SYNC at the
last heartbeat, healthy (R203, R655). -/
def State.armed (s : State) : Bool :=
  s.twin.assigned && s.twin.role == 1 && !s.twin.noAuto && !s.boltHasV2 && decide (s.twin.heardToken < s.twin.token)
    && s.twin.heardMirror == 0 && s.twin.heardRole == some 0 && s.up.dev.healthy

end Sys2Proof.Machine
end

