-- ==== Sys2Proof/Machine/Twins.lean ====
section
/-! DEFINITION. The rows of twins and peers (spec 19_twin_and_peers): roles, the mirror's messages, takeover, the peer list. -/

namespace Sys2Proof.Machine

open Sys2Proof

/-! ### Roles -/

/-- A role and token take effect (R643, R644, R653, R658); a Geneel whose role changes, or which had none, starts SINGLE. -/
def State.assignRole (s : State) (role : Nat) (noAuto : Bool) (token : Nat) : State :=
  let same := s.twin.assigned && s.twin.role == role
  let s1 : State := { s with
    twin := { s.twin with
      role := role, assigned := true, token := token, noAuto := noAuto && role == 1, deposed := false, deposeDue := none
      mirror := if same then s.twin.mirror else .single
      unacked := if same then s.twin.unacked else [] }
    mail := if same then s.mail else { s.mail with gate := [] }
    clock := { s.clock with
      eligibleSince := if role = 1 then none else if same then s.clock.eligibleSince else some s.clock.now } }
  (if same then s1 else s1.openGate (2 ^ 32)).roleChanged

/-- ROLE_ASSIGN (R643, R644). -/
def opRoleAssign : HostOp := {
  opcode := 0x0D01, eff := .ei, jobs := .zero
  params := fun p _ s => checks [needLen p 16, need (le p.body 0 1 ≤ 1) (p.off 0),
    if le p.body 8 8 ≤ s.twin.token then .fail 0x40 0 else .ok]
  apply := fun p _ s =>
    let b := p.body
    if le b 8 8 ≤ s.twin.token then (s, .done 0x40 0 [])
    else (s.assignRole (le b 0 1) (bit (le b 1 1) 0) (le b 8 8), Fin.ok) }

/-- ROLE_ASSIGN. -/
def execRoleAssign (p : Packet) (s : State) : Host.Outcome State Fault Refusal := s.finish (s.command opRoleAssign p)

/-- Code of the mirror state (R653, R664). -/
def MirrorState.code : MirrorState → Nat
  | .inSync => 0
  | .resync => 1
  | .single => 2
  | .none => 3

/-- The 56 bytes of TWIN_STATUS (R664). -/
def State.twinStatus (s : State) : Bytes :=
  let t := s.twin
  let mib := 1048576
  let last := if t.role = 0 then (t.nextSeq + 2 ^ 32 - 1) % 2 ^ 32 else t.received
  let acked := if t.role = 0 then t.acked else t.received
  toLe 1 t.role ++ toLe 1 t.mirror.code ++ toLe 1 (t.heardRole.getD 0xFF)
    ++ toLe 1 (flag s.armed + 2 * flag t.noAuto + 4 * flag s.boltHasV2 + 8 * flag t.deposed)
    ++ toLe 8 t.token ++ toLe 8 t.heardToken ++ toLe 4 last ++ toLe 4 acked ++ toLe 6 t.heartbeatTick ++ toLe 6 t.takeoverTick
    ++ toLe 4 ((imageBytes t.image).length / mib) ++ toLe 4 (t.resyncBytes / mib) ++ toLe 4 t.takeovers ++ toLe 4 t.deltasResent

/-- TWIN_STATUS (R664). -/
def opTwinStatus : HostOp := {
  opcode := 0x0D02, jobs := .zero, query := true
  params := fun p _ _ => needLen p 0
  apply := fun _ _ s => (s, .result s.twinStatus) }

/-- TWIN_STATUS. -/
def execTwinStatus (p : Packet) (s : State) : Host.Outcome State Fault Refusal := s.finish (s.command opTwinStatus p)

/-- TAKEOVER (R656): FORCE permits a mirror state other than IN_SYNC. -/
def opTakeover : HostOp := {
  opcode := 0x0D05, eff := .ei, jobs := .zero
  params := fun p slot s => checks [needLen p 16,
    needRight (s.twin.role == 1) 5 slot,
    needRight (bit (le p.body 8 1) 0 || s.twin.mirror == .inSync) 5 slot,
    if le p.body 0 8 ≤ s.twin.token then .fail 0x40 0 else .ok]
  apply := fun p id s =>
    let slot := ((s.cmd id).map Cmd.master).getD 0
    if s.twin.role = 0 then (s, .done 0x20 (5 + 256 * slot) [])
    else if le p.body 0 8 ≤ s.twin.token then (s, .done 0x40 0 [])
    else if !bit (le p.body 8 1) 0 && s.twin.mirror != .inSync then (s, .done 0x20 (5 + 256 * slot) [])
    else (s.takeOver (le p.body 0 8), Fin.ok) }

/-- TAKEOVER. -/
def execTakeover (p : Packet) (s : State) : Host.Outcome State Fault Refusal := s.finish (s.command opTakeover p)

/-- DEPOSITION (R647), at the marker after the higher token was met. -/
def execDeposition (s : State) : Host.Outcome State Fault Refusal := match s.twin.deposeDue with
  | some t => s.finish (if s.isPrimary then s.depose t else s.modTwin (fun x => { x with deposeDue := none }))
  | none => s.finish s

/-- AUTOMATIC_TAKEOVER (R655, R657): at a marker, with the PRIMARY silent or a HALT_NOTICE since the previous marker. -/
def execAutomaticTakeover (s : State) : Host.Outcome State Fault Refusal :=
  let halted : Bool := match s.twin.haltNotice with
    | some t => s.clock.now == t + 1
    | none => false
  s.finish (if s.armed && (s.twinSilent || halted) then s.takeOver s.twin.token else s)

/-! ### The mirror's messages -/

/-- Only the twin sends these messages; others are discarded without effect. -/
def State.fromTwin (s : State) (m : Msg) (type : Nat) (act : State → State) : State :=
  s.fromGeneel m.src 0x0D type (fun t => if m.src = t.twinAddr then act t else t)

/-- A verdict that the twin holds from now on goes down the tree that it roots (R372). -/
def State.passVerdict (s : State) (item : Option MirrorItem) : State := match item with
  | some (.verdict id x) => match s.group id with
    | some g => s.sendVerdict g x
    | none => s
  | _ => s

/-- MIRROR_DELTA_RECEIVE (R372, R650 to R653): the next delta is held for its tick and acknowledged; one received before is acknowledged
again; after a gap the SECONDARY asks for a resync. While it counts as RESYNC it holds every delta. -/
def execMirrorDeltaReceive (m : Msg) (item : Option MirrorItem) (s : State) : Host.Outcome State Fault Refusal :=
  s.finish (s.fromTwin m 0x70 (fun t =>
    if t.twin.role = 0 ∨ t.twin.assigned = false then t
    else
      let b := m.body
      let seq := le b 0 4
      let d : Delta := {
        seq := seq, tick := le b 4 6, kind := le b 10 1, last := bit (le b 11 1) 0, obj := le b 12 4, data := b.drop 16
        item := item, at_ := t.clock.now }
      let ahead := (seq + 2 ^ 32 - t.twin.received) % 2 ^ 32
      if 2 ^ 31 ≤ ahead ∨ ahead = 0 ∨ t.twin.held.any (fun x => x.seq == seq) then t.sendMirrorAck
      else
        let keep (x : Twin) : Twin := { x with held := x.held ++ [d] }
        if t.twin.mirror = .resync then
          let t1 := t.modTwin keep
          (t1.modTwin (fun x => { x with received := runFrom (x.held.map Delta.seq) x.held.length x.received })).sendMirrorAck.passVerdict item
        else if ahead = 1 then (t.modTwin (fun x => { keep x with received := seq })).sendMirrorAck.passVerdict item
        else (t.modTwin keep).askResync))

/-- MIRROR_ACK_RECEIVE (R372, R651): messages, verdicts and completions that waited for the deltas covered go out. -/
def execMirrorAckReceive (m : Msg) (s : State) : Host.Outcome State Fault Refusal :=
  s.finish (s.fromTwin m 0x71 (fun t =>
    if !t.isPrimary then t
    else
      let n := le m.body 0 4
      (t.modTwin (fun x => { x with
        acked := max x.acked n, unacked := x.unacked.filter (fun d => decide (n < d.seq)) })).openGate n))

/-- MIRROR_ACK_RESEND (R652): a delta that has no acknowledgement 4 µs after it was sent goes out again on the other M port. -/
def execMirrorAckResend (seq : Nat) (s : State) : Host.Outcome State Fault Refusal :=
  match s.twin.unacked.find? (fun d => d.seq == seq) with
  | some d =>
    if s.isPrimary ∧ (s.twin.mirror = .inSync ∨ s.twin.mirror = .resync) then
      let e : Delta := { d with port := 73 - d.port }
      s.finish ((s.send (s.deltaMsg e)).modTwin (fun x => { x with
        deltasResent := (x.deltasResent + 1) % 2 ^ 32, unacked := x.unacked.map (fun y => if y.seq = seq then e else y) }))
    else s.finish s
  | none => s.finish s

/-- MIRROR_SINGLE_TIMEOUT (R652): one tick without the acknowledgement of a delta makes the mirror state SINGLE. -/
def execMirrorSingleTimeout (s : State) : Host.Outcome State Fault Refusal :=
  match s.twin.unacked.find? (fun d => decide (d.at_ + 1 ≤ s.clock.now)) with
  | some d =>
    if s.isPrimary ∧ (s.twin.mirror = .inSync ∨ s.twin.mirror = .resync) then
      s.finish (s.goSingle.fault { source := s.twinAddr, code := 0x2D, detail := toLe 4 s.twin.acked ++ toLe 4 d.seq })
    else s.finish s
  | none => s.finish s

/-- HEARTBEAT_RECEIVE (R647, R649, R654): the twin as last heard. A higher token of another PRIMARY deposes this one at the next
marker; a SECONDARY that is not in step with its PRIMARY asks for a resync (R653). -/
def execHeartbeatReceive (m : Msg) (s : State) : Host.Outcome State Fault Refusal :=
  s.finish (s.fromTwin m 0x72 (fun t =>
    let b := m.body
    let role := le b 0 1
    let mirror := le b 2 1
    let token := le b 4 8
    let t1 := t.modTwin (fun x => { x with
      heardRole := some role, heardDev := le b 1 1, heardMirror := mirror, heardToken := token, version2 := bit (le b 3 1) 1
      heartbeat := some t.clock.now, heartbeatTick := le b 16 6 })
    if t.isPrimary then
      if role = 0 then
        if t.twin.token < token then t1.modTwin (fun x => { x with deposeDue := some token }) else t1
      else if t.twin.mirror = .resync ∧ t.twin.resyncSeq.isSome ∧ t.twin.resyncDue = false ∧ mirror = 0 then
        t1.modTwin (fun x => { x with resyncDone := true })
      else t1
    else if t.twin.assigned ∧ role = 0 ∧ (t.twin.mirror = .single ∨ (t.twin.mirror = .inSync ∧ mirror = 2)) then t1.askResync
    else t1))

/-- HALT_NOTICE_RECEIVE (R649, R655): the twin is in HALT. -/
def execHaltNoticeReceive (m : Msg) (s : State) : Host.Outcome State Fault Refusal :=
  s.finish (s.fromTwin m 0x73 (fun t => t.modTwin (fun x => { x with haltNotice := some t.clock.now, heardDev := 11 })))

/-- The twin is back: its links, marked unusable by a takeover, may be used again (R301, R657; DESIGN CHOICE, log entry 176). -/
def State.twinBack (s : State) : State :=
  if s.faults.unroutable.contains (s.twinAddr, 0xFF) then { s with
    faults := { s.faults with unroutable := s.faults.unroutable.filter (fun e => e != (s.twinAddr, 0xFF)) }
    fabric := { s.fabric with news := s.fabric.news ++ [.restore s.twinAddr 0xFF] } }
  else s

/-- RESYNC_REQ_RECEIVE (R652, R653): the PRIMARY takes a snapshot at the next marker; a twin that was taken over from has returned. -/
def execResyncReqReceive (m : Msg) (s : State) : Host.Outcome State Fault Refusal :=
  s.finish (s.fromTwin m 0x74 (fun t =>
    if t.isPrimary then
      (t.modTwin (fun x => { x with mirror := .resync, resyncDue := true, resyncSeq := none, resyncDone := false })).twinBack
    else t))

/-- RESYNC_DATA_RECEIVE (R649, R653): image bytes are stored, with what they say; the deltas up to the snapshot's sequence are in the
image, and those after it continue from there. -/
def execResyncDataReceive (m : Msg) (items : List MirrorItem) (s : State) : Host.Outcome State Fault Refusal :=
  s.finish (s.fromTwin m 0x75 (fun t =>
    if t.twin.role = 0 ∨ t.twin.mirror ≠ .resync then t
    else
      let b := m.body
      let part := b.drop 16
      let seq := le b 8 4
      t.modTwin (fun x =>
        let data := insertBy (fun (e : Nat × Bytes) => e.1) (x.resyncData.filter (fun e => e.1 != le b 0 8)) (le b 0 8, part)
        { x with
          resyncData := data
          resyncItems := x.resyncItems ++ items
          resyncSeq := some seq
          resyncBytes := (data.map (fun e => e.2.length)).foldl (fun a n => a + n) 0
          received := runFrom (x.held.map Delta.seq) x.held.length (max x.received seq)
          resyncDone := x.resyncDone || decide (part.length < 192) })))

/-! ### Peers -/

/-- Entries of PEER_LIST_SET: Geneel ID and serial (R659). -/
def peerEntries (b : Bytes) : List (Nat × Nat) := (chunks 16 (le b 0 1) (b.drop 8)).map (fun e => (le e 0 1, le e 8 8))

/-- A Geneel that the list may not lose: it holds a shard of a live table or a generation, or takes part in the running solve
(R659). -/
def State.peerInUse (s : State) (id : Nat) : Bool :=
  let addr := 0xF000 + id
  s.calico.tables.any (fun t => t.state != 2 && t.shards.contains id)
    || s.store.tracks.any (fun k => k.holders.any (fun h => h.1 == addr))
    || s.fabric.solve.any (fun v => v.coordinator == addr || v.vectors.any (fun x => x.1 == id)
      || decide (0 < v.tiles.getD id 0))

/-- Master slots follow the peer list: a newly listed peer takes its default entry, one that leaves loses its own (R320, R325,
R663). -/
def State.peerSlots (s : State) (ids : List Nat) : State :=
  let kept := s.access.masters.filter (fun e => !(8 ≤ e.1 && e.1 ≤ 71 && !ids.contains (e.1 - 8)))
  let added := ids.foldl (fun m i => match kvGet m (8 + i) with
    | some _ => m
    | none => kvSet m (8 + i) ({ cls := 4, peer := i, classes := 0x2BEC#16, read := true, write := true } : Access)) kept
  { s with access := { s.access with masters := added } }

/-- The list takes effect: entries that stay keep what is known of them; sessions are offered (R574, R659, R660). -/
def State.setPeers (s : State) (b : Bytes) : State :=
  let l := peerEntries b
  let digest := shake32 (ascii "GN7PLST1" ++ (b.drop 8).take (16 * l.length))
  let fresh (e : Nat × Nat) : Peer := match s.twin.peers.find? (fun p => p.id == e.1 && p.serial == e.2) with
    | some p => { p with absent := p.absent || decide (digest ≠ s.twin.listDigest) }
    | none => { id := e.1, serial := e.2 }
  let s1 := s.modTwin (fun t => { t with peers := l.map fresh, listDigest := digest })
  (s1.peerSlots (l.map Prod.fst)).offerSessions

/-- PEER_LIST_SET (R574, R659). -/
def opPeerListSet : HostOp := {
  opcode := 0x0D03, eff := .ei, jobs := .zero
  params := fun p slot s =>
    let n := le p.body 0 1
    let ids := (peerEntries p.body).map Prod.fst
    checks [needAtLeast p 8, need (2 ≤ n && n ≤ 64) (p.off 0), needLen p (8 + 16 * n),
      checks (ids.zipIdx.map (fun e => need (e.1 < 64 && (e.2 == 0 || decide (ids.getD (e.2 - 1) 0 < e.1))) (p.off (8 + 16 * e.2)))),
      need (ids.contains s.ownId && ids.contains (s.twinAddr - 0xF000)) (p.off 8),
      needRight (!s.twin.peers.any (fun q => !ids.contains q.id && s.peerInUse q.id)) 5 slot]
  apply := fun p _ s => (s.setPeers p.body, Fin.ok) }

/-- PEER_LIST_SET. -/
def execPeerListSet (p : Packet) (s : State) : Host.Outcome State Fault Refusal := s.finish (s.command opPeerListSet p)

/-- One entry of PEER_STATUS (R665). -/
def Peer.statusBytes (p : Peer) : Bytes :=
  toLe 1 p.id ++ toLe 1 p.dev ++ toLe 1 p.role ++ toLe 1 (flag p.absent + 2 * flag p.mismatch + 4 * flag p.session.isSome)
    ++ toLe 1 p.tiles ++ zeros 3 ++ toLe 6 p.heardTick ++ zeros 2 ++ toLe 8 p.token

/-- PEER_STATUS (R665); this Geneel's own entry says what it is itself. -/
def opPeerStatus : HostOp := {
  opcode := 0x0D04, jobs := .zero, query := true
  params := fun p _ _ => needLen p 0
  apply := fun _ _ s =>
    let own (p : Peer) : Peer := if p.id = s.ownId then { p with
        dev := s.up.dev.code, role := s.twin.role, absent := false, mismatch := false, tiles := s.tiles
        heardTick := s.tickNow, token := s.twin.token } else p
    (s, .result (toLe 1 s.twin.peers.length ++ toLe 1 s.clock.master ++ zeros 6
      ++ s.twin.peers.flatMap (fun p => (own p).statusBytes))) }

/-- PEER_STATUS. -/
def execPeerStatus (p : Packet) (s : State) : Host.Outcome State Fault Refusal := s.finish (s.command opPeerStatus p)

/-- PEER_HELLO_RECEIVE (R660, R661): the peer as last heard; with another list digest it is absent, with the same one present
again. A session is renewed in time (R575). -/
def execPeerHelloReceive (m : Msg) (s : State) : Host.Outcome State Fault Refusal :=
  s.finish (s.fromGeneel m.src 0x0D 0x76 (fun t =>
    let b := m.body
    let bad := decide (field b 20 32 ≠ field t.twin.listDigest 0 32)
    let t1 := t.modPeer m.src (fun p => { p with
      heard := some t.clock.now, heardTick := le b 12 6, role := le b 0 1, dev := le b 1 1, tiles := le b 2 1, token := le b 4 8
      mismatch := bad, absent := bad
      healthySince := if le b 0 1 = 0 ∧ 7 ≤ le b 1 1 ∧ le b 1 1 ≤ 9 ∧ !bad then some (p.healthySince.getD t.clock.now) else none })
    match t1.peerAt m.src with
    | some p => if bad then t1 else t1.renewSession p m.msgid
    | none => t1))

/-- PEER_ABSENT (R414, R454, R484, R661, R411): a peer silent for 256 ticks, or listed under another digest, is absent; tables with a
shard there are FAILED and generations held there fall back. A plan bolt without either Geneel fails its exchanges. -/
def execPeerAbsent (id : Nat) (s : State) : Host.Outcome State Fault Refusal :=
  match s.twin.peers.find? (fun p => p.id == id) with
  | none => s.finish s
  | some p =>
    let silent : Bool := match p.heard with
      | some t => decide (t + 256 ≤ s.clock.now)
      | none => decide (256 ≤ s.clock.now)
    if id = s.ownId ∨ !(silent || p.mismatch) ∨ (p.absent ∧ !p.heard.isSome) then s.finish s
    else
      let s1 := s.modPeer (0xF000 + id) (fun q => { q with absent := true, heard := none, healthySince := none })
      let (s2, jobs) := s1.shardLost id
      let s3 := (jobs.foldl (fun t j => t.failJob j) s2).storeGeneelLost (0xF000 + id) |>.loadGeneelLost (0xF000 + id)
      let gone (b : Nat) : Bool := !s3.healthyId (2 * b) && !s3.healthyId (2 * b + 1)
      s.finish ((s3.jacquard.plans.filter (fun q => q.bolts.any gone)).foldl (fun t q => t.failExchange q.id 9 true) s3)

end Sys2Proof.Machine
end

