-- ==== Sys2Proof/Machine/Clock.lean ====
section
/-! DEFINITION. The fabric tick (spec 02_fabric_tick): the tick master, the tick tree, TICK_IN, the tick commands, and the rows that
happen at chosen markers. -/

namespace Sys2Proof.Machine

open Sys2Proof

/-- Change the clock. -/
def State.modClock (s : State) (f : Clock → Clock) : State := { s with clock := f s.clock }

/-! ### The tick master (R49 to R53) -/

/-- The tick master by R49, from the own peer list (R50): the healthy PRIMARY with the lowest Geneel ID, one excepted. -/
def State.electedBut (s : State) (but : Option Nat) : Option Nat :=
  (s.machineIds.filter (fun i => s.healthyId i && s.primaryId i && some i != but)).head?

/-- The tick master by R49. -/
def State.elected (s : State) : Option Nat := s.electedBut none

/-- Body of TICK (R200). -/
def State.tickBody (s : State) : Bytes :=
  toLe 6 s.clock.tick ++ toLe 1 s.clock.period ++ toLe 1 s.ownId ++ zeros 8 ++ toLe 6 s.clock.handover ++ toLe 1 s.clock.nextMaster
    ++ zeros 1

/-- Markers go out on the tick tree: one TICK to every child of this Geneel, by the port that leads to it (R59, R200). -/
def State.sendTick (s : State) : State :=
  (s.clock.tree.filter (fun e => e.2.2.1 == s.ownAddr)).foldl (fun t e =>
    t.send { t.msgTo 0xFFFF 0x10 t.tickBody with port := some e.2.2.2 }) s

/-! ### The tick tree (R59, R257) -/

/-- The last FULL solve held. -/
def State.lastFull (s : State) : Option SolveResult := s.fabric.results.reverse.find? (fun r => r.params.scope == 0)

/-- Usable links that the tick tree is built over: those of the last FULL solve, of the record as it stands before the first one
(DEDUCED: a machine that has not solved yet needs its markers). -/
def State.tickLinks (s : State) : List SnapLink × List SnapNode := match s.lastFull with
  | some r => (r.links, r.nodes)
  | none => (snapLinks s.shownSections {}, snapNodes s.shownSections)

/-- The MPORT in-tree toward the tick master, no path longer than 8 links, as (node, its port, parent, port there). -/
def State.buildTree (s : State) (master : Nat) : List (Nat × Nat × Nat × Nat) :=
  let (links, nodes) := s.tickLinks
  let root := 0xF000 + master
  let lane := solveLane links (fun _ => false) 8 root
  let paths := (nodes.map SnapNode.addr).filterMap (fun a => if a = root then none else treePath links lane a 8 a)
  (paths.flatten.eraseDups).map (fun l => (l.src, l.sport, l.dst, ((farEnd s.fabric.sections l).map Prod.snd).getD 0xFF))

/-- TREE_SET of the tick tree, group 0xFFFF tree 0, to an agent (R189). -/
def State.tickTreeBody (s : State) (a tick : Nat) : Bytes :=
  let up := s.clock.tree.find? (fun e => e.1 == a)
  let kids := (s.clock.tree.filter (fun e => e.2.2.1 == a)).map (fun e => e.2.2.2)
  let install := up.isSome
  toLe 1 (flag (!install)) ++ zeros 1 ++ toLe 2 0xFFFF ++ toLe 2 0 ++ toLe 2 0 ++ toLe 2 0 ++ toLe 1 ((up.map (fun e => e.2.1)).getD 0xFF)
    ++ zeros 2 ++ toLe 1 (if kids = [] then 0 else 2) ++ toLe 2 0 ++ toLe 32 (kids.foldl (fun m p => m + 2 ^ p) 0) ++ toLe 6 tick

/-- Nodes of the own bolt that a tree leaves out are named in its item report (R257). -/
def State.treeItems (s : State) (master : Nat) : State :=
  let (links, nodes) := s.tickLinks
  let far := farFrom links nodes (0xF000 + master)
  if !s.isPrimary ∨ s.fabric.walk.running ∨ s.ownSection.reportFar far = s.ownSection then s
  else s.changeSection (fun x => x.reportFar far)

/-- The tick tree is rebuilt with every FULL solve and whenever the tick master changes (R257); each primary installs it at the agents
of its bolt whose entry changes. -/
def State.treeMarker (s : State) : State :=
  let master := if s.clock.master = 0xFF then s.elected else some s.clock.master
  match master with
  | none => s
  | some m =>
    let key := (((s.lastFull).map SolveResult.id).getD 0, m)
    if s.clock.treeFor = some key ∧ s.lastFull.isSome then s
    else
      let tree := s.buildTree m
      let s0 := (s.modClock (fun c => { c with tree := tree, treeFor := some key })).treeItems m
      let s1 := if tree = s.clock.tree then s0 else s0.chargeTree s.tickLinks.1 (0xF000 + m)
      if tree = s.clock.tree ∨ !s.isPrimary then s1
      else
        let tick := if s.clock.loaded then s.clock.tick + 3 else 0
        let mine := (s1.bankNodes.filter (fun n => n.kind != 4)).map TopoNode.addr
        (mine.filter (fun a => s.tickTreeBody a 0 != s1.tickTreeBody a 0)).foldl (fun t a =>
          (t.mirrorAction a 0x07 (t.tickTreeBody a tick) tick).ask a 0x07 (t.tickTreeBody a tick) none Purpose.tree.code) s1

/-- Discovery has measured the delay of every link of the tick tree (R47); before a walk of the own bolt has changed its section nothing has
been measured. -/
def State.treeMeasured (s : State) : Bool :=
  match s.clock.treeFor with
  | none => false
  | some _ => s.ownSection.gen != 0 && s.clock.tree.all (fun e =>
      ((s.boltSection (boltOf e.1)).link e.1 e.2.1).any (fun l => decide (0 < l.delay)))

/-! ### Commands -/

/-- Expected interval of TICK_IN edges in µs (R54). -/
def Clock.interval (c : Clock) : Nat := if c.mode = 2 then 1000000 else c.period

/-- TICK_CONFIG (R42, R47, R55, R701): refused once the machine has started, which a marker of whatever period shows. -/
def opTickConfig : HostOp := {
  opcode := 0x0101, eff := .tick, jobs := .zero
  params := fun p slot s =>
    let b := p.body
    checks [needLen p 8, needRight (!s.clock.loaded && !s.clock.heard) 9 slot, need (4 ≤ le b 0 1 && le b 0 1 ≤ 64) (p.off 0), need (le b 1 1 ≤ 2) (p.off 1),
      need (tickModeOk (le b 0 1) (le b 1 1)) (p.off 1)]
  apply := fun p _ s => (s.modClock (fun c => { c with period := le p.body 0 1, mode := le p.body 1 1 }), Fin.ok) }

/-- TICK_CONFIG. -/
def execTickConfig (p : Packet) (s : State) : Host.Outcome State Fault Refusal := s.finish (s.command opTickConfig p)

/-- TICK_START (R47, R48, R702): at the tick master, marker 1 may come 16 P after the dispatch, P being 16 P µs in local instants of
16 µs (R700). -/
def opTickStart : HostOp := {
  opcode := 0x0102, eff := .tick, jobs := .zero
  params := fun p _ _ => needLen p 0
  apply := fun _ _ s =>
    let refuse (cause : Nat) : Fin := .done 0x03 (s.up.dev.code + 256 * cause) []
    if s.clock.loaded then (s, Fin.ok)
    else if !s.treeMeasured then (s, refuse 3)
    else match s.elected with
      | none => (s, refuse 5)
      | some m =>
        if m ≠ s.ownId then (s, .running)
        else (s.modClock (fun c => { c with startFrom := c.startFrom.or (some (c.now + c.period)) }), .running) }

/-- TICK_START. -/
def execTickStart (p : Packet) (s : State) : Host.Outcome State Fault Refusal := s.finish (s.command opTickStart p)

/-- The 24 bytes of TICK_STATUS (R703); no tick master exists while no healthy Geneel of the peer list holds PRIMARY (R49). -/
def State.tickStatus (s : State) : Bytes :=
  let c := s.clock
  toLe 6 c.tick ++ toLe 1 c.period ++ toLe 1 (if s.elected = none then 0xFF else c.master) ++ toLe 1 c.mode
    ++ toLe 1 (if c.mode = 0 ∨ c.emitting = false then 0 else c.lock) ++ toLe 1 (flag c.emitting) ++ zeros 1
    ++ (match c.phase with
      | some n => toLeInt 4 n
      | none => toLe 4 (2 ^ 31))
    ++ toLe 4 c.missed ++ toLe 4 c.conflicts

/-- TICK_STATUS (R703). -/
def opTickStatus : HostOp := {
  opcode := 0x0103, query := true
  params := fun p _ _ => needLen p 0
  apply := fun _ _ s => (s, .result s.tickStatus) }

/-- TICK_STATUS. -/
def execTickStatus (p : Packet) (s : State) : Host.Outcome State Fault Refusal := s.finish (s.command opTickStatus p)

/-- Six entries of TICK_RUNAHEAD_GET for a job (R704). -/
def RunAhead.bytes (r : RunAhead) : Bytes :=
  (List.range 6).flatMap (fun k =>
    toLe 2 r.job ++ toLe 1 k ++ zeros 1 ++ toLe 4 (r.discarded.getD k 0) ++ toLe 4 (r.corrected.getD k 0))

/-- TICK_RUNAHEAD_GET (R80, R704). -/
def opTickRunaheadGet : HostOp := {
  opcode := 0x0104, query := true
  params := fun p slot s => (needLen p 0).and
    (needRight (s.isOperator slot || (p.job != 0 && s.masterJob slot == some p.job)) 1 slot)
  apply := fun p _ s =>
    let all := s.clock.runAhead
    let rows := if p.job = 0 then all.filter (fun r => r.discarded.any (· != 0) || r.corrected.any (· != 0))
      else [(all.find? (fun r => r.job == p.job)).getD { job := p.job }]
    (s, .result (toLe 4 (6 * rows.length) ++ zeros 4 ++ rows.flatMap RunAhead.bytes)) }

/-- TICK_RUNAHEAD_GET. -/
def execTickRunaheadGet (p : Packet) (s : State) : Host.Outcome State Fault Refusal := s.finish (s.command opTickRunaheadGet p)

/-! ### TICK_IN (R54 to R58) -/

/-- TICK_IN_EDGE, with the phase of the edge against the marker instants in ns: the master is locked and steers, leaving holdover; any
other Geneel measures the phase of TICK_IN against the markers it receives (R54, R56 to R58). Steering moves the rate by at most 50 ppm,
which the model, counting instants, does not show. R54 and R703 leave two points open, DESIGN CHOICE (log entry 189): the lock state
becomes 1 at the first edge that the emitting master sees in a locked mode; and the phase stays 0x8000_0000, as if no edge had been seen,
where edges came only before the first marker or only while this Geneel was the tick master, since no marker was received then. -/
def execTickInEdge (ns : Int) (s : State) : Host.Outcome State Fault Refusal :=
  let c := s.clock
  if s.up.dev = .off ∨ s.up.dev = .halt then s.finish s
  else
    let s1 := s.modClock (fun x => { x with edges := x.edges + 1, edgeAt := some x.now })
    if !c.loaded then s.finish s1
    else if c.emitting then s.finish (if c.mode = 0 then s1 else s1.modClock (fun x => { x with lock := 1 }))
    else s.finish (s1.modClock (fun x => { x with phase := some (max (-(2 ^ 31 - 1)) (min (2 ^ 31 - 1) ns)) }))

/-- TICK_IN_HOLDOVER (R57): two expected intervals without an edge at the tick master. -/
def execTickInHoldover (s : State) : Host.Outcome State Fault Refusal :=
  let c := s.clock
  if c.emitting ∧ c.mode ≠ 0 ∧ c.lock ≠ 2 ∧ c.edgeAt.getD 0 + 2 * cdiv c.interval c.period ≤ c.now then
    s.finish ((s.modClock (fun x => { x with lock := 2 })).fault { source := 0xF128, code := 0x22 })
  else s.finish s

/-- MASTERSHIP_RETURN (R53): the master announces the handover to a healthy PRIMARY of lower ID that has been healthy for 62,500 ticks,
16 ticks ahead; at the tick announced that one takes the master's numbering and phase and emits from there (R658). -/
def execMastershipReturn (id : Nat) (s : State) : Host.Outcome State Fault Refusal :=
  let c := s.clock
  let long (since : Option Nat) : Bool := match since with
    | some t => decide (t + 62500 ≤ c.now)
    | none => false
  if !c.loaded then s.finish s
  else if id = s.ownId then
    if !c.emitting ∧ s.isPrimary ∧ s.up.dev.healthy ∧ long c.eligibleSince ∧ c.nextMaster = id ∧ c.handover = c.tick + 1 then
      s.finish (s.modClock (fun x => { x with emitting := true, master := id, handover := 0, nextMaster := 0xFF, lock := 0 }))
    else s.finish s
  else if c.emitting ∧ id < s.ownId ∧ c.handover = 0 ∧ s.healthyId id ∧ s.primaryId id
      ∧ s.twin.peers.any (fun p => p.id == id && long p.healthySince) then
    s.finish (s.modClock (fun x => { x with handover := x.tick + 16, nextMaster := id }))
  else s.finish s

/-! ### Rows at chosen markers -/

/-- The bolt's primary reads counter block 3 of an endpoint, 65 counters in three requests; the jobs of its slots are kept with them
(R197, R530). -/
def State.readEnergy (s : State) (a : Nat) : State :=
  let slots := (s.targetImage a).active
  let jobOf (i : Nat) : Nat := if i = 64 then 0 else match kvGet slots i with
    | some e => if bit e 0 then bits e 12 1 else 0
    | none => 0
  [(0, 25), (25, 25), (50, 15)].foldl (fun t e =>
    let n := t.nextId
    let t1 := t.ask a 0x06 (toLe 1 3 ++ zeros 1 ++ toLe 2 e.1 ++ toLe 1 e.2) none Purpose.counters.code
    { t1 with mail := { t1.mail with reads := t1.mail.reads ++ [(n, e.1, (List.range e.2).map (fun i => jobOf (e.1 + i)))] } }) s

/-- Target tables that exchange at this marker (step 10 of R64, R183); where that changes the job of a slot in use, block 3 is read
(R530). -/
def State.swapMarker (s : State) : State :=
  let due := s.access.swaps.filter (fun e => decide (e.1 ≤ s.clock.now))
  let s0 : State := { s with access := { s.access with swaps := s.access.swaps.filter (fun e => !decide (e.1 ≤ s.clock.now)) } }
  due.foldl (fun t e =>
    let i := t.targetImage e.2
    let job (m : List (Nat × Nat)) (k : Nat) : Nat := bits ((kvGet m k).getD 0) 12 0
    let changed := i.active.any (fun x => bit x.2 0 && job i.active x.1 != job i.standby x.1)
    (if changed && t.isPrimary && e.2 < 0x8000 then t.readEnergy e.2 else t).swapImage e.2) s0

/-- The apportionment sample, step 9 of R64 (R528, R530): at a marker T with T mod N = 0, N = ⌈1 s / P⌉, MTR_STROBE pulses, Buckram is told
T, and the primary reads block 3 of every endpoint of the bolt; once for a tick. -/
def State.strobe (s : State) : State :=
  let t := s.clock.tick
  if !s.clock.loaded ∨ t = 0 ∨ t % s.ticks 1000000 ≠ 0 ∨ s.clock.strobeTick = t ∨ s.up.dev = .halt then s
  else
    let s1 : State := { s with
      clock := { s.clock with strobeTick := t }
      pins := { s.pins with mtrStrobe := s.pins.mtrStrobe + 1 } }
    let s2 := s1.modBuckram (fun b => b.post 1 (toLe 6 t))
    if !s2.isPrimary then s2
    else ((s2.bankNodes.filter (fun n => n.addr < 0x8000)).map TopoNode.addr).foldl (fun u a => u.readEnergy a) s2

/-- BOUNDARY_STROBE (R528): the marker of the tick makes the sample in its place (R64); the row alone makes it where the marker has not. -/
def execBoundaryStrobe (s : State) : Host.Outcome State Fault Refusal := s.finish s.strobe

/-- JOB_NOTICE_PUBLISH (R339): at every marker whose number is a multiple of 4,096. -/
def execJobNoticePublish (s : State) : Host.Outcome State Fault Refusal :=
  let t := s.clock.tick
  if !s.clock.loaded ∨ t = 0 ∨ t % 4096 ≠ 0 ∨ s.clock.noticeTick = t ∨ s.up.dev = .halt then s.finish s
  else s.finish ((s.modClock (fun c => { c with noticeTick := t })).publishNotices)

/-- PEER_HELLO_SEND (R660). -/
def execPeerHelloSend (s : State) : Host.Outcome State Fault Refusal :=
  s.finish (if s.up.dev.healthy || s.up.dev == .fault then s.sendHellos else s)

end Sys2Proof.Machine
end

