-- ==== Sys2Proof/Machine/Registers.lean ====
section
/-! DEFINITION. BAR0 of the two host ports (spec 20_register_map R666 to R681, 17_faults_and_events R618): what a read returns, what a
write does, and the rows of the register map. -/

namespace Sys2Proof.Machine

open Sys2Proof

/-! ### Reading (R666 to R671) -/

/-- The identification block (R669). -/
def State.idBlock (s : State) (p : Nat) : Bytes :=
  toLe 4 0x52374E47 ++ toLe 1 1 ++ toLe 1 (s.up.order + 2 * p) ++ toLe 1 3 ++ zeros 1 ++ toLe 8 s.up.serial
    ++ toLe 4 (s.sec.slot s.sec.runSlot).version ++ toLe 1 (s.sec.runSlot + 2 * flag s.sec.trial) ++ zeros 1
    ++ toLe 1 (if s.up.placed then s.up.bolt + 32 * s.up.twin + 64 else 0) ++ zeros 1 ++ toLe 8 selvedgeRom ++ mtrCode ++ mtrSerial
    ++ identityDigest

/-- The device state block (R670). -/
def State.devBlock (s : State) : Bytes :=
  toLe 1 (s.up.dev.code + 16 * s.twin.role + 32 * s.twin.mirror.code + 128 * flag s.sec.debugOpen)
    ++ toLe 1 (flag s.unenrolled + 2 * s.power.op) ++ toLe 6 s.clock.tick ++ toLe 1 s.clock.period ++ toLe 1 s.clock.master ++ zeros 2
    ++ toLe 8 s.twin.token ++ toLe 3 s.up.pcycle ++ zeros 1 ++ toLe 5 s.faults.opsec ++ zeros 3 ++ toLe 8 s.changeCounter

/-- The interrupt block of a function (R677). -/
def HostPort.intBlock (h : HostPort) : Bytes :=
  toLe 1 h.cause.toNat ++ zeros 1 ++ toLe 1 h.mask.toNat ++ zeros 5
    ++ toLe 8 ((h.rings.filter (fun r => r.2.state == .error)).foldl (fun a r => a + 2 ^ r.1) 0)

/-- The port's access entry has OPR (R618, R679). -/
def State.portOpr (s : State) (p : Nat) : Bool := (s.master p).opr

/-- The event window of a port (R618). -/
def State.evtBlock (s : State) (p : Nat) : Bytes :=
  let e := (s.hostPort p).evt
  if !s.portOpr p then []
  else toLe 8 e.index ++ toLe 8 s.faults.firstIndex ++ toLe 8 s.faults.nextIndex ++ toLe 1 (e.status + 4 * flag e.flash) ++ zeros 7
    ++ (if e.status = 0 then field e.record 0 64 else zeros 64)

/-- The Buckram status block (R542, R680). -/
def State.mtrBlock (s : State) : Bytes :=
  let b := s.buckram
  mtrCode ++ mtrSerial ++ toLe 8 b.window ++ toLe 8 (b.nextBatch - 1) ++ toLe 4 b.audit.length
    ++ toLe 1 (b.state + 4 * flag b.billing + 8 * flag (b.metrology != [])) ++ zeros 1 ++ toLe 1 b.meters
    ++ toLe 1 (b.shelves.filter MeterShelf.suspended).length ++ toLe 4 b.lost ++ toLe 4 b.drops ++ toLe 4 b.respSeq
    ++ toLe 4 b.resp.length ++ toLe 4 b.respTotal

/-- Block of a ring (R671). ENABLE reads 1 until fetching is stopped. -/
def State.ringBlock (s : State) (p r : Nat) : Bytes :=
  let x := s.ring p r
  let st := match x.state with
    | .disabled => 0
    | .active => 1
    | .error => 2
  toLe 8 x.sqBase ++ toLe 8 x.cqBase
    ++ toLe 4 (flag (x.state != .disabled && !x.stopping) + 16 * x.sqLog + 256 * x.cqLog + 4096 * x.coalCnt + 2 ^ 20 * x.coalUs)
    ++ toLe 4 (st + 4 * flag x.stopping + 8 * flag x.cfgErr + 16 * x.errCause + 65536 * s.outstanding p r)
    ++ toLe 4 x.sqHead ++ toLe 4 x.cqTail ++ toLe 4 x.seqExp ++ toLe 4 x.errSlot

/-- An entry of the MSI-X table (R666). -/
def HostPort.msixBytes (h : HostPort) (v : Nat) : Bytes :=
  let e := (kvGet h.msix v).getD {}
  toLe 8 e.addr ++ toLe 4 e.data ++ toLe 4 (flag e.masked)

/-- The pending bit array. -/
def HostPort.pendingBits (h : HostPort) : Bytes :=
  toLe 16 ((h.msix.filter (fun e => e.2.pendingBit)).foldl (fun a e => a + 2 ^ e.1) 0)

/-- The quadword of BAR0 at an offset that is a multiple of 8, as it stands (R666); in HALT most blocks read zero, and the doorbells
the last value accepted (R674). -/
def State.barQuad (s : State) (p off : Nat) : Nat :=
  let h := s.hostPort p
  let halted := s.up.dev = .halt
  let live (b : Bytes) : Bytes := if halted then [] else b
  if off < 0x100 then le (s.idBlock p) off 8
  else if off < 0x200 then le s.devBlock (off - 0x100) 8
  else if off < 0x300 then le (live h.intBlock) (off - 0x200) 8
  else if 0x400 ≤ off ∧ off < 0x500 then le s.faults.summaryLatch (off - 0x400) 8
  else if 0x800 ≤ off ∧ off < 0x880 then le (live (s.evtBlock p)) (off - 0x800) 8
  else if 0xC00 ≤ off ∧ off < 0xC40 then le (live s.mtrBlock) (off - 0xC00) 8
  else if 0x1000 ≤ off ∧ off < 0x1100 then le (live (toLe 4 s.host.telGen ++ s.host.tel)) (off - 0x1000) 8
  else if 0x2000 ≤ off ∧ off < 0x2410 then le (h.msixBytes ((off - 0x2000) / 16)) (off % 16) 8
  else if 0x3000 ≤ off ∧ off < 0x3010 then le h.pendingBits (off - 0x3000) 8
  else if 0x10000 ≤ off ∧ off < 0x11000 then le (live (s.ringBlock p ((off - 0x10000) / 64))) (off % 64) 8
  else if 0x20000 ≤ off ∧ off < 0x20200 then
    let x := s.ring p ((off - 0x20000) / 8)
    x.sqDb + 2 ^ 32 * x.cqDb
  else 0

/-- STAGE2 of this bring-up has ended (R82, R666); a device that halted before its end shows no register. -/
def State.stage2Ended (s : State) : Bool := decide (4 ≤ s.up.dev.code) && !s.up.haltedEarly

/-- BAR0 of a port answers: STAGE2 has ended, the link is up, the port is not fenced (R82, R635, R666). -/
def State.barOpen (s : State) (p : Nat) : Bool :=
  let h := s.hostPort p
  s.stage2Ended && !h.perst && h.linkUp && !(s.unitStatus 4 p).lost

/-- QUADWORD_LOW_READ_LATCH (R667, R668): a read of BAR0. One of the lower half of a quadword latches the upper half; one of the upper
half returns it when the read before was of the lower half; 8 bytes are read whole; any other size or alignment reads zero. -/
def execQuadwordLowReadLatch (port offset size : Nat) (s : State) : Host.Outcome State Fault Refusal :=
  if !s.barOpen port then s.finish s
  else
    let base := offset / 8 * 8
    let q := s.barQuad port base
    let h := s.hostPort port
    let (value, latch) : Nat × Option (Nat × Nat) :=
      if size = 8 ∧ offset % 8 = 0 then (q, none)
      else if size = 4 ∧ offset % 8 = 0 then (q % 2 ^ 32, some (base, q / 2 ^ 32))
      else if size = 4 ∧ offset % 8 = 4 then
        (match h.readLatch with
          | some (b, v) => if b = base then (v, none) else (q / 2 ^ 32, none)
          | none => (q / 2 ^ 32, none))
      else (0, none)
    s.finish (s.setHostPort port { h with readData := value, readLatch := latch })

/-! ### Configuration requests (R82) -/

/-- CONFIG_REQUEST (R82): answered with Retry Status until STAGE2 ends. What configuration space holds follows PCIe, which the spec does
not describe. -/
def execConfigRequest (port : Nat) (s : State) : Host.Outcome State Fault Refusal :=
  let h := s.hostPort port
  if h.perst || !h.linkUp || (s.unitStatus 4 port).lost then s.finish s
  else s.finish (s.modHostPort port (fun x => { x with configRetry := some (!s.stage2Ended) }))

/-! ### Doorbells (R86, R90, R673, R674) -/

/-- Distance from one free-running count to another. -/
def ahead (a b : Nat) : Nat := (a + 2 ^ 32 - b) % 2 ^ 32

/-- The submission doorbell: backwards, or more than S slots ahead of the head, is an error. -/
def State.sqDoorbell (s : State) (p r v : Nat) : State :=
  let x := s.ring p r
  let v := v % 2 ^ 32
  if x.state ≠ .active then s
  else if 2 ^ 31 ≤ ahead v x.sqDb then s.ringError p r 3 x.sqHead
  else if x.slots < ahead v x.sqHead then s.ringError p r 4 x.sqHead
  else s.setRing p r { x with sqDb := v }

/-- The completion doorbell: backwards or beyond the tail is an error. -/
def State.cqDoorbell (s : State) (p r v : Nat) : State :=
  let x := s.ring p r
  let v := v % 2 ^ 32
  if x.state ≠ .active then s
  else if 2 ^ 31 ≤ ahead v x.cqDb ∨ 2 ^ 31 ≤ ahead x.cqTail v then s.ringError p r 6 x.sqHead
  else s.setRing p r { x with cqDb := v }

/-! ### Ring control (R672) -/

/-- Bases and sizes of R84. -/
def Ring.shapeOk (x : Ring) : Bool :=
  x.sqBase % 4096 == 0 && x.cqBase % 4096 == 0 && 7 ≤ x.sqLog && x.sqLog ≤ 12 && 4 ≤ x.cqLog && x.cqLog ≤ 12

/-- A write of the lower half of the control quadword. -/
def State.ringControl (s : State) (p r v : Nat) : State :=
  let x := s.ring p r
  let idle := x.state == .disabled && !x.stopping
  let x1 := { x with
    coalCnt := bits v 19 12, coalUs := bits v 27 20
    sqLog := if idle then bits v 7 4 else x.sqLog
    cqLog := if idle then bits v 11 8 else x.cqLog }
  let x2 :=
    if bit v 0 then
      if !idle then x1
      else if x1.shapeOk then { x1 with
        state := .active, sqHead := 0, cqTail := 0, seqExp := 0, errCause := 0, errSlot := 0, sqDb := 0, cqDb := 0
        unsignalled := 0, noWrite := false }
      else { x1 with cfgErr := true }
    else if x1.state = .disabled then x1
    else { x1 with stopping := true }
  s.setRing p r x2

/-! ### Interrupts (R677) -/

/-- A write of the interrupt block: causes clear, the mask is set, and vector 64 is requested when an unmasked cause stays set. -/
def HostPort.intWrite (h : HostPort) (clear mask : Nat) : HostPort :=
  let h1 := { h with cause := h.cause &&& ~~~(BitVec.ofNat 6 clear), mask := BitVec.ofNat 6 mask }
  if h1.cause &&& ~~~h1.mask = 0#6 then h1 else h1.request 64

/-! ### The event window (R618, R679) -/

/-- The snapshot of a record: at once from the on-chip ring, PENDING from flash, CLEARED below the first index, NONE at or above the
next one and for padding or a dropped record. -/
def State.snapshot (s : State) (i : Nat) : EvtCursor :=
  if i < s.faults.firstIndex then { index := i, status := 2 }
  else match s.readable.find? (fun r => r.index == i) with
    | none => { index := i, status := 3 }
    | some r =>
      let onChip := decide (s.faults.bootIndex ≤ i) && decide (s.faults.nextIndex ≤ i + 8192)
      { index := i, status := if onChip then 0 else 1, flash := !onChip, record := r.bytes }

/-- The cursor of a port takes a snapshot. -/
def State.evtSeek (s : State) (p i : Nat) : State :=
  if !s.portOpr p then s else s.modHostPort p (fun h => { h with evt := s.snapshot (i % 2 ^ 64) })

/-- A snapshot from flash that is PENDING is VALID (R618). -/
def EvtCursor.ready (e : EvtCursor) : EvtCursor := if e.status = 1 then { e with status := 0 } else e

/-! ### Writing (R667, R668) -/

/-- RW quadwords (R668): both bases of a ring, EVT.CUR.INDEX, the address of an MSI-X entry. -/
def rwQuad (off : Nat) : Bool :=
  off == 0x800 || (0x2000 ≤ off && off < 0x2410 && off % 16 == 0) || (0x10000 ≤ off && off < 0x11000 && off % 64 < 16)

/-- Write an RW quadword. -/
def State.writeQuad (s : State) (p off v : Nat) : State :=
  if off = 0x800 then s.evtSeek p v
  else if off < 0x3000 then s.modHostPort p (fun h =>
    let k := (off - 0x2000) / 16
    { h with msix := kvSet h.msix k { (kvGet h.msix k).getD {} with addr := v } })
  else
    let r := (off - 0x10000) / 64
    let x := s.ring p r
    if x.state ≠ .disabled ∨ x.stopping then s
    else s.setRing p r (if off % 64 = 0 then { x with sqBase := v } else { x with cqBase := v })

/-- An MSI-X mask bit is written: an unmasked vector that is pending is sent. -/
def HostPort.maskVector (h : HostPort) (k : Nat) (masked : Bool) : HostPort :=
  let e := (kvGet h.msix k).getD {}
  if !masked && e.pendingBit then
    { h with msix := kvSet h.msix k { e with masked := false, pendingBit := false }, raised := h.raised ++ [k] }
  else { h with msix := kvSet h.msix k { e with masked := masked } }

/-- Write one 4-byte half of a quadword that is no RW quadword. -/
def State.writeHalf (s : State) (p off v : Nat) : State :=
  if off = 0x200 then s.modHostPort p (fun h => h.intWrite (v % 64) (bits v 21 16))
  else if off = 0x818 then (if bit v 3 then s.evtSeek p ((s.hostPort p).evt.index + 1) else s)
  else if 0x2000 ≤ off ∧ off < 0x2410 then
    let k := (off - 0x2000) / 16
    if off % 16 = 8 then s.modHostPort p (fun h => { h with msix := kvSet h.msix k { (kvGet h.msix k).getD {} with data := v } })
    else s.modHostPort p (fun h => h.maskVector k (bit v 0))
  else if 0x10000 ≤ off ∧ off < 0x11000 then
    let r := (off - 0x10000) / 64
    if off % 64 = 16 then s.ringControl p r v
    else if off % 64 = 20 ∧ bit v 3 then s.setRing p r { s.ring p r with cfgErr := false }
    else s
  else if 0x20000 ≤ off ∧ off < 0x20200 then
    if off % 8 = 0 then s.sqDoorbell p ((off - 0x20000) / 8) v else s.cqDoorbell p ((off - 0x20000) / 8) v
  else s

/-- A 4-byte write of an RW quadword: the lower half is held for the upper half; an upper half without it goes with the lower half as it
stands. -/
def State.halfOfRw (s : State) (p off v : Nat) : State :=
  let base := off / 8 * 8
  if off % 8 = 0 then s.modHostPort p (fun h => { h with writeHold := kvSet h.writeHold off v })
  else
    let low := (kvGet (s.hostPort p).writeHold base).getD (s.barQuad p base % 2 ^ 32)
    (s.modHostPort p (fun h => { h with writeHold := kvErase h.writeHold base })).writeQuad p base (low + 2 ^ 32 * v)

/-- A write to BAR0 (R15, R666 to R668): other sizes and alignments and reserved offsets are ignored; in HALT everything but the MSI-X
table is. -/
def State.barWrite (s : State) (p off size v : Nat) : State :=
  let base := off / 8 * 8
  if !s.barOpen p || (s.up.dev == .halt && !(0x2000 ≤ off && off < 0x2410)) then s
  else if size = 4 ∧ off % 4 = 0 then
    if rwQuad base then s.halfOfRw p off (v % 2 ^ 32) else s.writeHalf p off (v % 2 ^ 32)
  else if size = 8 ∧ off % 8 = 0 then
    if rwQuad base then s.writeQuad p off (v % 2 ^ 64)
    else (s.writeHalf p off (v % 2 ^ 32)).writeHalf p (off + 4) (v / 2 ^ 32 % 2 ^ 32)
  else s

/-- REGISTER_WRITE (R15, R667, R672). -/
def execRegisterWrite (port offset size value : Nat) (s : State) : Host.Outcome State Fault Refusal :=
  s.finish (s.barWrite port offset size value)

/-- RW_QUADWORD_HALF_WRITE (R668). -/
def execRwQuadwordHalfWrite (port offset value : Nat) (s : State) : Host.Outcome State Fault Refusal :=
  s.finish (if rwQuad (offset / 8 * 8) then s.barWrite port offset 4 value else s)

/-- SQ_DOORBELL_WRITE (R86, R88, R93, R673, R674). -/
def execSqDoorbellWrite (port ring count : Nat) (s : State) : Host.Outcome State Fault Refusal :=
  s.finish (if ring < 64 then s.barWrite port (0x20000 + 8 * ring) 4 count else s)

/-- CQ_DOORBELL_WRITE (R90, R93, R673, R674). -/
def execCqDoorbellWrite (port ring count : Nat) (s : State) : Host.Outcome State Fault Refusal :=
  s.finish (if ring < 64 then s.barWrite port (0x20004 + 8 * ring) 4 count else s)

/-- RING_ENABLE (R83, R84, R93, R672), with the control fields written beside ENABLE = 1. -/
def execRingEnable (port ring ctrl : Nat) (s : State) : Host.Outcome State Fault Refusal :=
  s.finish (if ring < 64 then s.barWrite port (0x10010 + 64 * ring) 4 (ctrl / 2 * 2 + 1) else s)

/-- RING_DISABLE (R672), with the control fields written beside ENABLE = 0. -/
def execRingDisable (port ring ctrl : Nat) (s : State) : Host.Outcome State Fault Refusal :=
  s.finish (if ring < 64 then s.barWrite port (0x10010 + 64 * ring) 4 (ctrl / 2 * 2) else s)

/-- RING_STOP_COMPLETE (R672): at the first marker with nothing outstanding. -/
def execRingStopComplete (port ring : Nat) (s : State) : Host.Outcome State Fault Refusal :=
  let x := s.ring port ring
  s.finish (if x.stopping && s.outstanding port ring == 0 then s.setRing port ring { x with state := .disabled, stopping := false }
    else s)

/-- EVT_CUR_INDEX_WRITE (R618, R679). -/
def execEvtCurIndexWrite (port index : Nat) (s : State) : Host.Outcome State Fault Refusal :=
  s.finish (s.barWrite port 0x800 8 index)

/-- EVT_CUR_ADV_WRITE (R618, R679). -/
def execEvtCurAdvWrite (port : Nat) (s : State) : Host.Outcome State Fault Refusal := s.finish (s.barWrite port 0x818 4 8)

/-- EVENT_SNAPSHOT_READY (R618). -/
def execEventSnapshotReady (port : Nat) (s : State) : Host.Outcome State Fault Refusal :=
  if s.up.dev = .halt then s.finish s else s.finish (s.modHostPort port (fun h => { h with evt := h.evt.ready }))

/-- INT_CAUSE_CLEAR (R677): the mask stays. -/
def execIntCauseClear (port causes : Nat) (s : State) : Host.Outcome State Fault Refusal :=
  s.finish (s.barWrite port 0x200 4 (causes % 64 + 65536 * (s.hostPort port).mask.toNat))

/-- INT_MASK_WRITE (R677): no cause is cleared. -/
def execIntMaskWrite (port mask : Nat) (s : State) : Host.Outcome State Fault Refusal :=
  s.finish (s.barWrite port 0x200 4 (65536 * (mask % 64)))

/-- COALESCE_TIMER_EXPIRE (R92, R676). -/
def execCoalesceTimerExpire (port ring : Nat) (s : State) : Host.Outcome State Fault Refusal :=
  let x := s.ring port ring
  if x.unsignalled = 0 ∨ x.coalUs = 0 ∨ x.coalCnt = 0 ∨ s.up.dev = .halt then s.finish s
  else s.finish ((s.setRing port ring { x with unsignalled := 0 }).modHostPort port (fun h => h.request ring))

/-! ### Latches at a marker (R678, R681) -/

/-- Fault summary and telemetry are latched. Memory traffic of the tick is measured, which the spec gives no rule for: a free value. -/
def State.latchBlocks (s : State) : State :=
  let (s1, n) := s.draw
  let flits := ((List.range 40).map (fun p => (s.port p).flow.counters.getD 0 0)).foldl (fun a x => a + x) 0
  let w := s.power
  let hot := (s.sensors.foldl (fun (a : Option (Nat × Int)) x => match a with
    | some b => if b.2 < x.2 then some x else a
    | none => some x) none).getD (0, 0)
  let flags := flag w.droop + 2 * flag w.stretching + 4 * flag w.heatCap.isSome + 8 * flag w.halved + 16 * flag w.tdpCap.isSome
    + 32 * flag s.op3Allowed
  let temp (i : Nat) : Bytes := if (s.unitStatus 15 i).lost then toLe 2 0x8000 else toLeInt 2 (w.temps.getD i 0)
  let tel := toLe 6 s.clock.tick ++ toLe 2 w.average ++ toLeInt 2 hot.2 ++ toLe 1 hot.1 ++ toLe 1 w.guard ++ toLe 1 flags
    ++ toLe 3 w.phases ++ toLe 4 (Config.freeNat n) ++ toLe 4 (flits - s.host.telFlits) ++ zeros 4
    ++ (List.range 48).flatMap temp
    ++ (List.range 40).flatMap (fun p => toLe 1 ((s.port p).link.width + 16 * (s.port p).link.state.code))
  { s1 with
    faults := { s1.faults with summaryLatch := s1.faultSummary }
    host := { s1.host with tel := tel, telGen := (s1.host.telGen + 2) % 2 ^ 32, telFlits := flits } }

end Sys2Proof.Machine
end

