-- ==== Sys2Proof/Machine/Diag.lean ====
section
/-! DEFINITION. The commands of class 0x00 and of class 0x0E (spec 03_command_packets R117, R120, R706, 01_architecture R29,
09_slices_and_access R338, 17_faults_and_events R604, 18_bring_up R628, R640, R641), and the expiry of held commands. -/

namespace Sys2Proof.Machine

open Sys2Proof

/-! ### Class 0x00 -/

/-- The 128 bytes of IDENTIFY (R706). -/
def State.identity (s : State) : Bytes :=
  let img := s.sec.slot s.sec.runSlot
  toLe 1 s.up.order ++ toLe 1 s.up.dev.code ++ toLe 1 s.twin.role ++ toLe 1 3 ++ toLe 4 img.version ++ toLe 8 s.up.serial
    ++ identityDigest ++ field img.digest 0 32 ++ toLe 8 selvedgeRom ++ mtrCode ++ mtrSerial ++ toLe 1 s.sec.runSlot
    ++ toLe 1 (flag s.sec.trial + 2 * flag (!s.up.placed) + 4 * flag s.unenrolled) ++ zeros 22

/-- IDENTIFY (R706). -/
def opIdentify : HostOp := {
  opcode := 0x0001, query := true
  params := fun p _ _ => needLen p 0
  apply := fun _ _ s => (s, .result s.identity) }

/-- IDENTIFY. -/
def execIdentify (p : Packet) (s : State) : Host.Outcome State Fault Refusal := s.finish (s.command opIdentify p)

/-- Grid position of a unit (R25, R641). -/
def gridPos (kind i : Nat) : Nat × Nat := match kind with
  | 1 => ([(0, 0), (11, 0), (0, 11), (11, 11)] : List (Nat × Nat)).getD i (0, 0)
  | 2 => (1, 0)
  | 3 => (1, 11)
  | 4 => if i = 0 then (10, 0) else (10, 11)
  | 5 => (i % 12, i / 12)
  | 6 => if i < 16 then (2 + i / 2, 0) else (2 + (i - 16) / 2, 11)
  | 8 =>
    if i < 16 then (0, 2 + i / 2)
    else if i < 32 then (11, 2 + (i - 16) / 2)
    else if i < 36 then (1, 2 + (i - 32))
    else (10, 2 + (i - 36))
  | 9 => (2 + i % 8, 2 + i / 8)
  | 10 => if i < 4 then (1, 6 + i) else (10, 2 + i)
  | 11 => if i < 8 then (2 + i, 5) else (2 + (i - 8), 6)
  | 12 => if i < 16 then (2 + i / 2, 1) else (2 + (i - 16) / 2, 10)
  | 13 => (([0, 1, 10, 11] : List Nat).getD (i % 4) 0, if i < 4 then 1 else 10)
  | 14 => if i < 8 then (2 + i, 3) else (2 + (i - 8), 8)
  | _ => (0xFF, 0xFF)

/-- Status code of a unit in the report (R641). -/
def UnitStatus.report : UnitStatus → Nat
  | .fenced => 1
  | .absent => 2
  | .off => 3
  | .fencing => 4
  | _ => 0

/-- One entry of the floor plan report (R641). -/
def State.planEntry (s : State) (kind i : Nat) : Bytes :=
  let u := s.unitRec kind i
  let (x, y) := gridPos kind i
  let st := s.unitStatus kind i
  let own := (u.map UnitRec.detail).getD 0
  let detail :=
    if kind = 8 then (s.port i).link.width + 16 * (s.port i).link.state.code
    else if kind = 6 then own % 256 + 256 * min 255 (((s.up.repaired.find? (fun r => r.1 == i)).map Prod.snd).getD 0)
    else own
  toLe 1 kind ++ toLe 1 i ++ toLe 1 x ++ toLe 1 y ++ toLe 1 st.report
    ++ toLe 1 (if st.report = 0 then 0 else (u.map UnitRec.cause).getD 0) ++ toLe 2 detail

/-- The floor plan report (R640, R641). -/
def State.floorplan (s : State) : Bytes :=
  toLe 2 1 ++ toLe 1 s.up.order ++ toLe 1 s.up.dev.code ++ toLe 2 484
    ++ toLe 1 (flag (!s.up.placed) + 2 * flag s.up.rejected + 4 * flag s.sec.trial) ++ toLe 1 s.pins.flashMode
    ++ field (s.up.durations.flatMap (toLe 2)) 0 12 ++ toLe 2 s.up.defects.length ++ toLe 2 s.up.defectsAdded ++ zeros 8
    ++ s.lostCapacity
    ++ ((List.range 16).map (· + 1)).flatMap (fun k => (List.range (unitCount k)).flatMap (fun i => s.planEntry k i))

/-- FLOORPLAN_GET (R640). -/
def opFloorplanGet : HostOp := {
  opcode := 0x0002, query := true
  params := fun p _ _ => needLen p 0
  apply := fun _ _ s => (s, .result s.floorplan) }

/-- FLOORPLAN_GET. -/
def execFloorplanGet (p : Packet) (s : State) : Host.Outcome State Fault Refusal := s.finish (s.command opFloorplanGet p)

/-- STATE_GET (R120, R604): state, role, recovery counter, token and the lost-capacity block. The spec names the fields and gives no
layout for them: DESIGN CHOICE. -/
def opStateGet : HostOp := {
  opcode := 0x0003, query := true
  params := fun p _ _ => needLen p 0
  apply := fun _ _ s => (s, .result (toLe 1 s.up.dev.code ++ toLe 1 s.twin.role ++ zeros 2 ++ toLe 4 s.faults.recoveryCount
    ++ toLe 8 s.twin.token ++ s.lostCapacity)) }

/-- STATE_GET. -/
def execStateGet (p : Packet) (s : State) : Host.Outcome State Fault Refusal := s.finish (s.command opStateGet p)

/-- A DEVICE_RESET takes effect (R616, R623, R628): its record is posted, unspilled records are spilled, bring-up begins. -/
def State.deviceReset (s : State) (id : Nat) : State := ((s.endCmd id 0 0).spillAll).bringUp false

/-- DEVICE_RESET (R533, R628): SEAL_NOTICE goes to Buckram 2 ticks before the reset takes effect. With effective tick 0 it goes at
once, and the reset follows 2 ticks later (DEDUCED). -/
def opDeviceReset : HostOp := {
  opcode := 0x0004, eff := .ei, noJobMaster := true
  params := fun p _ _ => needLen p 0
  apply := fun p id s =>
    match s.cmd id with
    | none => (s, .running)
    | some c =>
      if p.effTick = 0 ∧ c.stage = 0 then
        ((s.modCmd id (fun d => { d with phase := .timed, due := s.clock.now + 2, stage := 1 })).modBuckram (fun b => b.post 5 []),
          .running)
      else (s.deviceReset id, .running) }

/-- DEVICE_RESET. -/
def execDeviceReset (p : Packet) (s : State) : Host.Outcome State Fault Refusal := s.finish (s.command opDeviceReset p)

/-- SEAL_NOTICE 2 ticks before a DEVICE_RESET that names its tick (R533, R628). -/
def State.sealMarker (s : State) : State :=
  if s.host.cmds.any (fun c => c.pkt.opcode == 4 && c.phase == .timed && c.stage == 0 && c.due == s.clock.now + 2) then
    s.modBuckram (fun b => b.post 5 [])
  else s

/-- The command that CMD_CANCEL names (R117). -/
def State.namedCmd (s : State) (p : Packet) : Option Cmd :=
  let b := p.body
  let mine (q : Packet) : Bool := q.port == le b 0 1 && q.ring == le b 1 1 && q.tag == le b 4 4
  s.host.cmds.find? (fun c => mine c.pkt || c.twinPkt.any mine)

/-- CMD_CANCEL (R117). A command whose hold a second packet completed was submitted twice; which of the two masters `submitted` it is open:
DESIGN CHOICE (log entry 244), the master of the second packet, with which the command was accepted. -/
def opCmdCancel : HostOp := {
  opcode := 0x0005
  params := fun p _ s => checks [needLen p 8, need (le p.body 0 1 ≤ 1) (p.off 0), need (le p.body 1 1 ≤ 63) (p.off 1),
    need (s.namedCmd p).isSome (p.off 4)]
  apply := fun p id s =>
    let slot := ((s.cmd id).map Cmd.master).getD 0
    match s.namedCmd p with
    | none => (s, .done 0x11 (p.off 4) [])
    | some c =>
      if c.master ≠ slot ∧ !s.isOperator slot then (s, .done 0x20 (8 + 256 * slot) [])
      else if c.begun ∨ c.phase = .running then (s, .done 0x20 (6 + 256 * slot) [])
      else (s.endCmd c.id 0x20 (3 + 256 * c.master), Fin.ok) }

/-- CMD_CANCEL. -/
def execCmdCancel (p : Packet) (s : State) : Host.Outcome State Fault Refusal := s.finish (s.command opCmdCancel p)

/-- NOP (R120). -/
def opNop : HostOp := {
  opcode := 0x0006, eff := .ei, query := true
  apply := fun _ _ s => (s, Fin.ok) }

/-- NOP. -/
def execNop (p : Packet) (s : State) : Host.Outcome State Fault Refusal := s.finish (s.command opNop p)

/-! ### Class 0x0E -/

/-- LOOPBACK (R120): the parameters behind the result descriptor are echoed. -/
def opLoopback : HostOp := {
  opcode := 0x0E04, query := true
  apply := fun p _ s => (s, .result p.body) }

/-- LOOPBACK. -/
def execLoopback (p : Packet) (s : State) : Host.Outcome State Fault Refusal := s.finish (s.command opLoopback p)

/-- A master sees a job: its own, or any for the operator's host function (R338). -/
def State.seesJob (s : State) (slot j : Nat) : Bool := match s.masterJob slot with
  | some k => k == j
  | none => s.isOperator slot

/-- STREAM_READ (R29, R338): VALID entries from a first stream ID on that the caller may see. The spec gives no layout of parameters and
result: first ID (2), count (2), 4 reserved; a count (4), 4 reserved, then stream ID (2), 6 reserved and the 64-byte entry for each
(DESIGN CHOICE). -/
def opStreamRead : HostOp := {
  opcode := 0x0E01, query := true
  params := fun p _ _ => needLen p 8
  apply := fun p _ s =>
    let slot := s.masterOf p.port p.ring
    let hit := (s.streams.filter (fun e => le p.body 0 2 ≤ e.1 && e.2.state != 0 && s.seesJob slot e.2.job)).take (le p.body 2 2)
    (s, .result (toLe 4 hit.length ++ zeros 4 ++ hit.flatMap (fun e => toLe 2 e.1 ++ zeros 6 ++ e.2.bytes))) }

/-- STREAM_READ. -/
def execStreamRead (p : Packet) (s : State) : Host.Outcome State Fault Refusal := s.finish (s.command opStreamRead p)

/-- Slots of a member's active target table that belong to a job. -/
def State.jobSlots (s : State) (a job : Nat) : List Nat :=
  ((s.targetImage a).active.filter (fun e => bit e.2 0 && bits e.2 12 1 == job)).map Prod.fst

/-- Block 1 reads of a job: each of its target slots at its members in this bolt, 16 counters from index slot × 16 on. -/
def State.jobReads (s : State) (job : Nat) : List (Nat × Nat × Nat × Nat) :=
  let ms := ((s.slice job).map Slice.members).getD []
  (ms.filter (fun a => a / 1024 == s.up.bolt)).flatMap (fun a => (s.jobSlots a job).map (fun k => (a, 1, 16 * k, 16)))

/-- Reads of port counters: block 0 of every port and block 2 of every agent of the bolt. -/
def State.portReads (s : State) : List (Nat × Nat × Nat × Nat) :=
  (s.bankNodes.filter (fun n => n.kind != 4)).flatMap (fun n =>
    (List.range n.ports).map (fun q => (n.addr, 0, 16 * q, 16)) ++ [(n.addr, 2, 0, 10)])

/-- Ask agents for counters on behalf of a command (R197). -/
def State.askCounters (s : State) (id : Nat) (reads : List (Nat × Nat × Nat × Nat)) : State :=
  reads.foldl (fun t r =>
    t.askFor id r.1 0x06 (toLe 1 r.2.1 ++ zeros 1 ++ toLe 2 r.2.2.1 ++ toLe 1 r.2.2.2) Purpose.counters.code) s

/-- The result of COUNTERS_GET from pieces: a count, 4 reserved bytes, the pieces (DESIGN CHOICE: the spec gives no layout). -/
def countersResult (l : List Bytes) : Bytes := toLe 4 l.length ++ zeros 4 ++ l.flatten

/-- COUNTERS_GET (R338). The index counts the stream IDs of set 0, and the entries of the others from 0: the job's target slots at its
members; its notices; the 40 ports of the Geneel, then each agent's ports and its block 2 (DESIGN CHOICE). -/
def opCountersGet : HostOp := {
  opcode := 0x0E02, query := true
  params := fun p slot s =>
    let set := le p.body 0 1
    checks [needLen p 12, need (set ≤ 3) (p.off 0),
      needRight (if set = 3 then s.isOperator slot && (s.masterJob slot).isNone else s.seesJob slot p.job) 1 slot]
  apply := fun p id s =>
    let (set, first, n) := (le p.body 0 1, le p.body 4 4, le p.body 8 4)
    match set with
    | 0 =>
      let hit := (s.streams.filter (fun e => first ≤ e.1 && e.2.state != 0 && e.2.job == p.job)).take n
      (s, .result (countersResult (hit.map (fun e => toLe 4 e.1 ++ toLe 4 e.2.txSeq ++ toLe 4 e.2.rxSeq ++ toLe 4 e.2.ccntPrev
        ++ toLe 4 e.2.loss ++ toLe 2 e.2.outstanding ++ zeros 2))))
    | 1 =>
      let reads := ((s.jobReads p.job).drop first).take n
      if reads = [] then (s, .result (countersResult [])) else (s.askCounters id reads, .running)
    | 2 => (s, .result (countersResult (((((s.slice p.job).map Slice.notices).getD []).drop first).take n |>.map Notice.bytes)))
    | _ =>
      let own := (((List.range 40).map (fun q => (s.port q).flow.counters.flatMap (toLe 8))).drop first).take n
      let reads := (s.portReads.drop (first - 40)).take (n - own.length)
      if reads = [] then (s, .result (countersResult own))
      else ((s.modCmd id (fun c => { c with parts := own.map (fun b => (2 ^ 32, b)) })).askCounters id reads, .running) }

/-- COUNTERS_GET. -/
def execCountersGet (p : Packet) (s : State) : Host.Outcome State Fault Refusal := s.finish (s.command opCountersGet p)

/-- A read of an agent's counters that a JOB master may make: block 1 at the job's slots, block 3 at its slot (R338). -/
def State.jobMayRead (s : State) (job a block first n : Nat) : Bool :=
  let mine := s.jobSlots a job
  match block with
  | 1 => (List.range n).all (fun i => mine.contains ((first + i) / 16))
  | 3 => (List.range n).all (fun i => mine.contains (first + i))
  | _ => false

/-- AGENT_COUNTERS_READ (R197, R338): agent (2), block (1), reserved (1), first index (2), count (1), reserved (1); the result is what
the reply carries behind its status block (DESIGN CHOICE: the spec gives no parameter layout). -/
def opAgentCountersRead : HostOp := {
  opcode := 0x0E03, query := true
  params := fun p slot s =>
    let b := p.body
    let a := le b 0 2
    checks [needLen p 8, need (s.ownSection.nodes.any (fun n => n.addr == a && n.kind != 4 && !n.retired)) (p.off 0),
      need (le b 2 1 ≤ 3) (p.off 2), need (1 ≤ le b 6 1 && le b 6 1 ≤ 25) (p.off 6),
      match s.masterJob slot with
      | some j => needRight (s.jobMayRead j a (le b 2 1) (le b 4 2) (le b 6 1)) 2 slot
      | none => needRight (s.isOperator slot) 1 slot]
  apply := fun p id s =>
    let b := p.body
    (s.askCounters id [(le b 0 2, le b 2 1, le b 4 2, le b 6 1)], .running) }

/-- AGENT_COUNTERS_READ. -/
def execAgentCountersRead (p : Packet) (s : State) : Host.Outcome State Fault Refusal :=
  s.finish (s.command opAgentCountersRead p)

/-- A counter reply reaches the command that asked: with the last one it ends (R197, R338), with ST_TIMEOUT where an agent has not answered
(R118). -/
def State.countersReply (s : State) (id msgid : Nat) (body : Bytes) : State :=
  let s1 := s.modCmd id (fun c => { c with parts := c.parts ++ [(msgid, body)] })
  match s1.cmd id with
  | none => s1
  | some c =>
    if c.awaits.any (· != msgid) then s1
    else if c.endStatus = 0x50 then s1.endCmd id 0x50 c.endDetail
    else
      let own := c.parts.filter (fun e => e.1 == 2 ^ 32)
      let rest := c.parts.filter (fun e => e.1 != 2 ^ 32)
      let counters (b : Bytes) : Bytes := b.drop 8
      let all := own.map Prod.snd ++ (sortBy (fun (e : Nat × Bytes) => e.1) rest).map (fun e => counters e.2)
      s1.endCmd id 0 0 (if c.pkt.opcode = 0x0E03 then body else countersResult all)

/-! ### Holds, queues and orphans (R94, R103 to R105, R116) -/

/-- The command held for a second signature on a digest whose hold is at its expiry (R105). -/
def State.expiredHold (s : State) (digest : Bytes) : Option Cmd :=
  s.host.cmds.find? (fun c => c.pkt.digest == digest && (match c.phase with
    | .signature _ expiry => decide (expiry ≤ s.clock.now)
    | _ => false))

/-- COSIGN_HOLD_EXPIRE (R103, R105): the hold of a digest, at its expiry tick. -/
def execCosignHoldExpire (digest : Bytes) (s : State) : Host.Outcome State Fault Refusal :=
  match s.expiredHold digest with
  | none => s.finish s
  | some c => s.finish (s.endCmd c.id 0x50 0)

/-- QUEUED_COMMAND_TIMEOUT (R116): the command with a number, 60 s after its acceptance. -/
def execQueuedCommandTimeout (id : Nat) (s : State) : Host.Outcome State Fault Refusal :=
  match s.cmd id with
  | none => s.finish s
  | some c => s.finish (if c.phase = .drain ∧ c.since + 3750000 ≤ s.clock.now then s.endCmd id 0x50 0 else s)

/-- ORPHAN_QUEUE_DRAIN (R94). -/
def execOrphanQueueDrain (port : Nat) (s : State) : Host.Outcome State Fault Refusal :=
  if s.up.dev = .halt ∨ s.up.dev = .off then s.finish s
  else s.finish (s.drainOrphans port 0 (s.hostPort port).orphans.length)

end Sys2Proof.Machine
end

