-- ==== Sys2Proof/Machine/Opcodes.lean ====
section
/-! DEFINITION. The opcodes by number (R120), the fetch of packets from a submission ring (R85 to R89, R96, R106), ordered packets
(R114), and what becomes of commands that waited (R69, R116, R327). -/

namespace Sys2Proof.Machine

open Sys2Proof

/-- The opcode table (R120). -/
def hostOp (opcode : Nat) : Option HostOp := match opcode with
  | 0x0001 => some opIdentify
  | 0x0002 => some opFloorplanGet
  | 0x0003 => some opStateGet
  | 0x0004 => some opDeviceReset
  | 0x0005 => some opCmdCancel
  | 0x0006 => some opNop
  | 0x0101 => some opTickConfig
  | 0x0102 => some opTickStart
  | 0x0103 => some opTickStatus
  | 0x0104 => some opTickRunaheadGet
  | 0x0201 => some opDiscoverStart
  | 0x0202 => some opDiscoverStatus
  | 0x0203 => some opTopologyGet
  | 0x0204 => some opRackAbsorb
  | 0x0205 => some opLinkRetrain
  | 0x0206 => some opShelfAssign
  | 0x0301 => some opRouteSolve
  | 0x0302 => some opRouteStage
  | 0x0303 => some opRouteCommit
  | 0x0304 => some opRoutePin
  | 0x0305 => some opRouteUnpin
  | 0x0306 => some opRouteStatus
  | 0x0307 => some opFailoverPrepare
  | 0x0401 => some opSliceCreate
  | 0x0402 => some opSliceModify
  | 0x0403 => some opSliceDestroy
  | 0x0404 => some opSliceGet
  | 0x0405 => some opAccessSet
  | 0x0406 => some opAccessGet
  | 0x0407 => some opSparePromote
  | 0x0501 => some opGroupCreate
  | 0x0502 => some opGroupDestroy
  | 0x0503 => some opGroupStatus
  | 0x0601 => some opPlanCreate
  | 0x0602 => some opPlanDestroy
  | 0x0603 => some opPlanStatus
  | 0x0701 => some opTableCreate
  | 0x0702 => some opTableDestroy
  | 0x0703 => some opTableLoad
  | 0x0704 => some opTableRead
  | 0x0705 => some opTableConfig
  | 0x0706 => some opTableStatus
  | 0x0707 => some opTableSnapshot
  | 0x0801 => some opStoreCarve
  | 0x0802 => some opStoreMode
  | 0x0803 => some opGenerationOpen
  | 0x0804 => some opGenerationStatus
  | 0x0805 => some opRestoreStart
  | 0x0806 => some opGenerationDrop
  | 0x0901 => some opOppointSet
  | 0x0902 => some opPowerStatus
  | 0x0903 => some opShelfBudgetSet
  | 0x0904 => some opUnitDisable
  | 0x0905 => some opUnitEnable
  | 0x0906 => some opCurrentDeclare
  | 0x0A01 => some opMtrParamSet
  | 0x0A02 => some opMtrBatchGet
  | 0x0A03 => some opMtrJobEnergyGet
  | 0x0A04 => some opMtrAuditGet
  | 0x0A05 => some opMtrIdentityGet
  | 0x0B01 => some opAttestGet
  | 0x0B02 => some opEnrol
  | 0x0B03 => some opKeyPolicySet
  | 0x0B04 => some opFwPolicySet
  | 0x0B05 => some opFwStage
  | 0x0B06 => some opFwActivate
  | 0x0B07 => some opDebugChallenge
  | 0x0B08 => some opDebugUnlock
  | 0x0B09 => some opSeclogClear
  | 0x0B0A => some opKeyRotate
  | 0x0B0B => some opCosignStateGet
  | 0x0B0C => some opCosignWithdraw
  | 0x0C01 => some opEventViewGet
  | 0x0C02 => some opEventClear
  | 0x0C03 => some opSeveritySet
  | 0x0C04 => some opUnfence
  | 0x0C05 => some opFaultRelease
  | 0x0C06 => some opFaultSummaryGet
  | 0x0D01 => some opRoleAssign
  | 0x0D02 => some opTwinStatus
  | 0x0D03 => some opPeerListSet
  | 0x0D04 => some opPeerStatus
  | 0x0D05 => some opTakeover
  | 0x0E01 => some opStreamRead
  | 0x0E02 => some opCountersGet
  | 0x0E03 => some opAgentCountersRead
  | 0x0E04 => some opLoopback
  | _ => none

/-! ### Fetching (R85 to R89, R96) -/

/-- Slots that a packet takes (R85). -/
def packetSlots (p : Packet) : Nat := 1 + cdiv (cdiv p.len 8 * 8 + 1288 * p.nsig) 64

/-- Check 2 of R106, then the rest. -/
def State.checkOpcode (s : State) (p : Packet) : State := match hostOp p.opcode with
  | none => s.reject p 0x10 p.opcode
  | some op => s.submit op p

/-- A fetched packet is checked, or waits: an ORD packet until every earlier packet of its ring has its final record, later packets
behind it (R114). -/
def State.takePacket (s : State) (p : Packet) : State :=
  if s.waitsBehind p then s.keepOrdered p else s.checkOpcode p

/-- Ordered packets that may be accepted now: the first of a ring, unless it is ORD and an earlier command has no final record. -/
def State.orderPump : Nat → State → State
  | 0, s => s
  | n + 1, s =>
    let free (c : Cmd) : Bool := c.phase == .ordered
      && ((s.orderedOf c.pkt.port c.pkt.ring).head?.map Cmd.id) == some c.id
      && (!bit c.pkt.flags 1 || !s.host.cmds.any (fun d => d.phase != .ordered && d.owes c.pkt.port c.pkt.ring != 0))
    match s.host.cmds.find? free with
    | none => s
    | some c =>
      let s1 : State := { s with host := { s.host with cmds := s.host.cmds.filter (fun d => d.id != c.id) } }
      State.orderPump n (s1.checkOpcode c.pkt)

/-- Slots written beyond the head. -/
def Ring.covered (x : Ring) : Nat := ahead x.sqDb x.sqHead

/-- A ring asks for the leader core: something is written at its head, and it is not the part of a packet that has been looked at (R86,
R96). -/
def State.asksFetch (s : State) (p r : Nat) : Bool :=
  let x := s.ring p r
  s.mayFetch p r && x.covered != 0 && decide (x.covered < 2 ^ 31) && x.short != some x.sqDb

/-- The rings that contend for the leader core, by the index of R71: host port × 64 + ring. -/
def State.fetchRequests (s : State) : List Nat :=
  [0, 1].flatMap (fun p => (s.hostPort p).rings.filterMap (fun e => if s.asksFetch p e.1 then some (64 * p + e.1) else none))

/-- The ring that is served next: the rotating tie-break with n = 128 and base offset 0 (R71, R76, R77, R88). -/
def State.fetchNext (s : State) : Option Nat :=
  tieBreak 128 ((s.clock.tick + s.host.grants) % 128) s.fetchRequests

/-- PACKET_FETCH (R85 to R89, R93, R96, R106, R114, R673): the packet at the head of a ring as host memory holds it; `bad` says that
the fetch returned an error completion or poisoned data. The three checks of the header come first, on the header slot alone. Only the ring
that the tie-break serves is fetched from (R71); each look at a ring is a grant. -/
def execPacketFetch (port ring : Nat) (packet : Packet) (bad : Bool) (s : State) : Host.Outcome State Fault Refusal :=
  let x := s.ring port ring
  let p := { packet with port := port, ring := ring }
  if s.fetchNext ≠ some (64 * port + ring) ∨ !s.asksFetch port ring then s.finish s
  else
   let s0 : State := { s with host := { s.host with grants := s.host.grants + 1 } }
   if bad then s.finish (s0.ringError port ring 5 x.sqHead)
   else
    let cause := if p.seq ≠ x.seqExp then 1 else if p.nsig = 3 then 2 else if 4096 < p.len then 7 else 0
    if cause ≠ 0 then
      let s1 := s0.setRing port ring { x with sqHead := (x.sqHead + 1) % 2 ^ 32 }
      s.finish ((s1.reject p 0x11 x.seqExp).ringError port ring cause x.sqHead)
    else if x.covered < packetSlots p then s.finish (s0.setRing port ring { x with short := some x.sqDb })
    else
      let s1 := s0.setRing port ring { x with
        sqHead := (x.sqHead + packetSlots p) % 2 ^ 32, seqExp := (x.seqExp + 1) % 2 ^ 32, short := none }
      let s3 := (s1.countDispatch.selvedgeSpend { ver := p.nsig }).takePacket p
      s.finish (s3.orderPump s3.host.cmds.length)

/-! ### Commands that waited -/

/-- A held command begins: its messages to agents go out if they have not, its right is looked at again (R327), it runs. -/
def State.beginHeld (s : State) (id : Nat) : State := match s.cmd id with
  | none => s
  | some c => match hostOp c.pkt.opcode with
    | none => s
    | some op => s.begin op id

/-- QUEUED_COMMAND_RELEASE (R116, R327, R490): the command with a number, when its target no longer drains: it runs, or goes on to wait
for a later tick or for its agents; a delay past its tick is told in its final record. A target that has been fenced ends it. -/
def execQueuedCommandRelease (id : Nat) (s : State) : Host.Outcome State Fault Refusal :=
  match s.cmd id with
  | none => s.finish s
  | some c =>
    match hostOp c.pkt.opcode with
    | none => s.finish s
    | some op =>
      if c.phase ≠ .drain then s.finish s
      else match op.target c.pkt s with
        | .drain _ => s.finish s
        | .fail st d => s.finish (s.endCmd id st d)
        | .ok =>
          let now := s.clock.now
          if !s.hasRight op c.master then s.finish (s.endCmd id 0x20 (1 + 256 * c.master))
          else
            let due := if op.waitsForAgents then max c.due (now + 3) else max c.due now
            let s1 := s.modCmd id (fun d => { d with
              phase := .timed, due := due
              endStatus := if c.pkt.effTick ≠ 0 ∧ c.due < due then 0x13 else d.endStatus
              endDetail := if c.pkt.effTick ≠ 0 ∧ c.due < due then due - c.due else d.endDetail })
            let s2 := op.start c.pkt id s1
            s.finish (if due ≤ now then s2.runCmd op id else s2)

end Sys2Proof.Machine
end

