-- ==== Sys2Proof/Machine/Replies.lean ====
section
/-! DEFINITION. What agents send back (spec 05_agent_protocol R164 to R166, R194, R198, 03_command_packets R118, 06_discovery R226,
08_route_epochs R298 to R303): replies, the resend and the timeout, fault reports, and the change of the topology record. -/

namespace Sys2Proof.Machine

open Sys2Proof

/-! ### Commands that wait for agents -/

/-- A command held for a tick that has come, with every reply in, begins; a named tick that has passed is told as the delay (R65, R69,
R118). -/
def State.beginDue (s : State) (id : Nat) : State := match s.cmd id with
  | none => s
  | some c =>
    let late : Bool := c.pkt.effTick != 0 && decide (c.due < s.clock.now) && c.endStatus == 0
    if c.phase = .timed ∧ c.awaits = [] ∧ c.due ≤ s.clock.now then
      (s.modCmd id (fun d => { d with
        endStatus := if late then 0x13 else d.endStatus, endDetail := if late then s.clock.now - d.due else d.endDetail })).beginHeld id
    else s

/-- With its last reply a command that runs ends; one that is held begins at a marker, the first at which every reply is in (R65, R118). -/
def State.cmdSettled (s : State) (id : Nat) : State := match s.cmd id with
  | none => s
  | some c =>
    if c.awaits ≠ [] then s
    else if c.phase = .running ∧ c.pkt.opcode = 0x0307 ∧ c.stage = 1 then
      s.endCmd id c.endStatus c.endDetail (c.data.flatMap (toLe 1))
    else if c.phase = .running ∧ c.endStatus ≠ 0 ∧ c.endStatus ≠ 0x13 then s.endCmd id c.endStatus c.endDetail
    else s

/-- What a reply says to the command that asked (R65, R165, R379): a deferred action is a delay, a shortage of entries is
ST_NO_RESOURCE; after any other refusal the agent has had no effect, and it counts as an agent that did not answer (DEDUCED). -/
def State.cmdReply (s : State) (id msgid addr status detail : Nat) : State :=
  (s.modCmd id (fun c =>
    let d : Cmd := { c with awaits := c.awaits.filter (· != msgid) }
    match status with
    | 0 => d
    | 8 => if d.endStatus = 0 ∨ (d.endStatus = 0x13 ∧ d.endDetail < detail) then { d with endStatus := 0x13, endDetail := detail } else d
    | 2 => if d.endStatus = 0x50 then d else { d with
        endStatus := 0x12, endDetail := if d.endStatus = 0x12 then max d.endDetail detail else detail }
    | _ => { d with endStatus := 0x50, endDetail := if d.endStatus = 0x50 then min d.endDetail addr else addr })).cmdSettled id

/-! ### Energy readings (R197, R530) -/

/-- Readings of counter block 3 reach the own Buckram, and the twin in deltas of kind 0. -/
def State.energyReply (s : State) (addr first : Nat) (jobs : List Nat) (data : Bytes) : State :=
  let shelf := (s.shelfOf addr).getD 0xFF
  let one (i : Nat) : Bytes := toLe 2 addr ++ toLe 1 (first + i) ++ toLe 1 shelf ++ toLe 2 (jobs.getD i 0) ++ field data 0 6
    ++ field data (8 + 8 * i) 8
  let all := (List.range jobs.length).map one
  let s1 := s.passReadings all
  (List.range (cdiv all.length 9)).foldl (fun t i => t.mirrorDelta 0 addr ((all.drop (9 * i)).take 9).flatten) s1

/-! ### Replies -/

/-- The token that a refusal shows: its low 32 bits, above the own one (R165, R647; DEDUCED for the high half). -/
def higherToken (own low : Nat) : Nat :=
  let t := own / 2 ^ 32 * 2 ^ 32 + low
  if t < own then t + 2 ^ 32 else t

/-- Epoch-expired counters (R298): the sums at the commit and after the retire give the expired count of the record. -/
def State.expiredReply (s : State) (base : Bool) (v : Nat) : State :=
  s.modEpoch (fun e =>
    if base then { e with expiredAtCommit := e.expiredAtCommit + v }
    else
      let n := e.expiredAfter + v
      { e with
        expiredAfter := n
        drains := match e.drains with
          | d :: r => { d with expired := n - e.expiredAtCommit } :: r
          | [] => [] })

/-- A reply of the walk, of a re-attestation, or of a reset switch that has returned (R212, R214, R303, R573): an agent in use that
fails becomes REFUSED; one that has its session again gets the keys it needs. -/
def State.attestReply (s : State) (w : Waiting) (status : Nat) (data : Bytes) : State :=
  let a := s.sec.attesting.find? (fun a => a.cert0 == w.msg.msgid || a.cert1 == w.msg.msgid || a.session == some w.msg.msgid)
  let was := a.bind (fun a => s.ownSection.bySerial a.serial)
  let s1 := s.walkReply w status data
  match a, was with
  | some a, some n =>
    let now := s1.attestOf a.serial
    let gone := !(s1.sec.attesting.any (fun b => b.serial == a.serial))
    if !gone ∨ s.fabric.walk.sessions.contains a.addr then s1
    else if n.attest = 1 ∧ now = some 2 then
      s1.refuseAgent a.addr
    else if (now = some 1 ∨ now = some 3) ∧ n.kind = 2 then
      -- the job 0 key and new session numbers; the keys of the jobs that the next epoch routes through the switch go with that epoch's staging,
      -- which the return starts as the record shows it (R301, R303)
      let s2 := (s1.sendKeys 0 [a.addr]).1
      let s3 := { s2 with fabric := { s2.fabric with lostSwitches := s2.fabric.lostSwitches.filter (· != a.addr) } }
      s3.linkSessions [a.addr]
    else s1
  | _, _ => s1

/-- What a reply does, by what the Geneel asked (R118, R164, R165). -/
def State.replyTo (s : State) (w : Waiting) (status detail : Nat) (data : Bytes) : State :=
  let addr := w.about
  let id := w.msg.msgid
  let good : Bool := status == 0 || status == 8
  let k := w.kind
  if k = Purpose.stageWrite.code then
    let s0 := if good then s else s.unwritten addr w.msg.body
    let s1 := s0.modEpoch (fun e => { e with staging := e.staging.map (fun g => { g with
      awaits := g.awaits.filter (· != id), lastAck := s.tickNow
      silent := if good then g.silent else some (min addr (g.silent.getD addr)) }) })
    s1.stageCheck
  else if k = Purpose.activate.code then
    s.modEpoch (fun e => { e with
      awaits := e.awaits.filter (fun x => x.1 != id)
      acked := if good && e.awaits.any (fun x => x.1 == id) && !e.acked.contains addr then e.acked ++ [addr] else e.acked
      stranded := if good && e.commitAt.isNone then e.stranded.filter (· != addr) else e.stranded })
  else if k = Purpose.expired.code ∨ k = Purpose.expiredBase.code then
    if good then s.expiredReply (k == Purpose.expiredBase.code) (le data 8 8) else s
  else if k = Purpose.counters.code then
    match w.cmd with
    | some c =>
      if good then (s.modCmd c (fun d => { d with awaits := d.awaits.filter (· != id) })).countersReply c id data
      else s.cmdReply c id addr 0xFFFF 0
    | none =>
      let s1 : State := { s with mail := { s.mail with reads := s.mail.reads.filter (fun r => r.1 != id) } }
      match s.mail.reads.find? (fun r => r.1 == id) with
      | some r => if good then s1.energyReply addr r.2.1 r.2.2 data else s1
      | none => s1
  else if k = Purpose.target.code then if good then s.sliceReply id else s.sliceSilent id addr
  else if k = Purpose.keyInstall.code then
    let s1 := s.keyInstalled w.msg.body addr good
    if good then s1.sliceReply id else s1.sliceSilent id addr
  else if k = Purpose.keyErase.code then s.keyErased w.msg.body addr
  else if k = Purpose.identify.code ∨ k = Purpose.claim.code ∨ k = Purpose.reclaim.code ∨ k = Purpose.takeover.code then
    if good then s else s.walkSilent w
  else if k = Purpose.linkstate.code ∨ k = Purpose.refresh.code ∨ k = Purpose.jobKey.code then
    if good then s.walkReply w status data else s.walkSilent w
  else if k = Purpose.cert0.code ∨ k = Purpose.cert1.code ∨ k = Purpose.session.code then s.attestReply w status data
  else match w.cmd with
    | some c => s.cmdReply c id addr status detail
    | none => s

/-- AGENT_REPLY_RECEIVE (R118, R164 to R166, R647): a reply is matched to the request whose number it carries. An IDENT that answers a
PROBE has a row of its own. A LINKSTATE reply of 17 records that leaves ports of its node open is followed by others (R175, log entry 204). -/
def execAgentReplyReceive (m : Msg) (s : State) : Host.Outcome State Fault Refusal :=
  match s.mail.waiting.find? (fun w => w.msg.msgid == m.msgid && (w.msg.dst == 0xFFFF || m.dst == 0xFFFF || w.msg.dst == m.src)) with
  | none => s.finish s
  | some w =>
    let status := le m.content 0 2
    let detail := le m.content 4 4
    let data := m.content.drop 8
    let ports := ((s.ownSection.node w.about).map TopoNode.ports).getD 0
    let more : Bool := (w.kind == Purpose.linkstate.code || w.kind == Purpose.refresh.code) && status == 0 && data.length == 204
      && decide (le data 192 1 + 1 < ports)
    let ident : Bool := w.kind == Purpose.identify.code || w.kind == Purpose.claim.code || w.kind == Purpose.reclaim.code
      || w.kind == Purpose.takeover.code
    if m.flags % 2 = 0 ∨ (ident && (status == 0 || status == 8)) then s.finish s
    else if more then
      s.finish (s.modWalk (fun v => { v with reported := v.reported ++ [(w.about, data)] }))
    else
      let s1 : State := { s with mail := { s.mail with waiting := s.mail.waiting.filter (fun v => v.msg.msgid != m.msgid) } }
      let s2 := if status = 3 ∧ s1.isPrimary then
          s1.modTwin (fun t => { t with deposeDue := some (higherToken t.token detail) })
        else s1
      s.finish (s2.replyTo w status detail (m.content.drop 8)).pumpOutbox

/-- A message that still waits here, for the twin or for its budget. -/
def State.notYetSent (s : State) (msgid : Nat) : Bool :=
  s.mail.gate.any (fun g => g.2.msgid == msgid) || s.mail.outbox.any (fun o => o.msg.msgid == msgid)

/-- AGENT_REPLY_RESEND (R118, R166): no reply within 2 ticks; the request is sent once more with the same number. -/
def execAgentReplyResend (msgid : Nat) (s : State) : Host.Outcome State Fault Refusal :=
  match s.mail.waiting.find? (fun w => w.msg.msgid == msgid) with
  | none => s.finish s
  | some w =>
    if w.resent ∨ s.clock.now < w.sentAt + 2 ∨ s.notYetSent msgid then s.finish s
    else if s.silenced w.msg then
      s.finish { s with mail := { s.mail with waiting := s.mail.waiting.filter (fun v => v.msg.msgid != msgid) } }
    else
      let s1 := s.sendAgain { w.msg with flags := w.msg.flags ||| 4 } true
      s.finish { s1 with mail := { s1.mail with waiting := s1.mail.waiting.map (fun v =>
        if v.msg.msgid = msgid then { v with resent := true, sentAt := s.clock.now } else v) } }

/-- A request stays without a reply for good (R118, R215, R288, R337, R580): by what was asked. -/
def State.replyLost (s : State) (w : Waiting) : State :=
  let addr := w.about
  let id := w.msg.msgid
  let k := w.kind
  if k = Purpose.stageWrite.code then
    ((s.unwritten addr w.msg.body).modEpoch (fun e => { e with staging := e.staging.map (fun g => { g with
      awaits := g.awaits.filter (· != id), silent := some (min addr (g.silent.getD addr)) }) })).stageCheck
  else if k = Purpose.activate.code then s.modEpoch (fun e => { e with awaits := e.awaits.filter (fun x => x.1 != id) })
  else if k = Purpose.target.code ∨ k = Purpose.keyInstall.code then s.sliceSilent id addr
  else if k = Purpose.keyErase.code then s.keyErased w.msg.body addr
  else if k = Purpose.counters.code ∧ w.cmd = none then
    { s with mail := { s.mail with reads := s.mail.reads.filter (fun r => r.1 != id) } }
  else if k = Purpose.cert0.code ∨ k = Purpose.cert1.code ∨ k = Purpose.session.code then s.attestReply w 7 []
  else if k = Purpose.identify.code ∨ k = Purpose.claim.code ∨ k = Purpose.reclaim.code ∨ k = Purpose.takeover.code
      ∨ k = Purpose.linkstate.code ∨ k = Purpose.refresh.code ∨ k = Purpose.jobKey.code then s.walkSilent w
  else match w.cmd with
    | some c => s.cmdReply c id addr 0xFFFF 0
    | none => s

/-- AGENT_REPLY_TIMEOUT (R118, R288, R337, R580): no reply within 2 ticks of the resend. -/
def execAgentReplyTimeout (msgid : Nat) (s : State) : Host.Outcome State Fault Refusal :=
  match s.mail.waiting.find? (fun w => w.msg.msgid == msgid) with
  | none => s.finish s
  | some w =>
    if !w.resent ∨ s.clock.now < w.sentAt + 2 ∨ s.notYetSent msgid then s.finish s
    else s.finish (State.replyLost { s with mail := { s.mail with waiting := s.mail.waiting.filter (fun v => v.msg.msgid != msgid) } } w)

/-! ### Fault reports (R198, R594) -/

/-- What the Geneel does on a fault report beside recording it (R299, R378, R514). -/
def State.reportEffect (s : State) (src source code job : Nat) (data : Bytes) : State :=
  if code = 3 then (if source < 0xFF then s.failoverFor [(src, source)] else s)
  else if code = 7 then s.regrant src (le data 0 1) (le data 4 4) job
  else if code = 8 ∨ code = 9 then s.postCommit src
  else s

/-- A report of a switch that tells against it is remembered for an hour (R276). -/
def State.noteReport (s : State) (src code : Nat) : State :=
  if [2, 3, 4, 8, 11].contains code && (s.ownSection.node src).any (fun n => n.kind == 2) then
    let window := s.ticks 3600000000
    { s with fabric := { s.fabric with
        switchReports := s.fabric.switchReports.filter (fun r => decide (s.clock.now ≤ r.2 + window)) ++ [(src, s.clock.now)] } }
  else s

/-- The job of an agent's report that the record names (R613): where the report concerns a member itself, a target violation or a refused
grant at its endpoint; events of switches, links and ports carry job 0. DESIGN CHOICE, log entry 257. -/
def reportJob (src code job : Nat) : Nat := if sourceOf src = .endpoint ∧ (code = 6 ∨ code = 7) then job else 0

/-- FAULT_REPORT_RECEIVE (R198, R299, R378, R514, R594): acknowledged with the same TYPE, RSP and a status block, and recorded under the
agent's address with code 0x0100 + the agent code, its key being the agent source and the job. -/
def execFaultReportReceive (m : Msg) (s : State) : Host.Outcome State Fault Refusal :=
  match s.ownSection.node m.src with
  | none => s.finish s
  | some _ =>
    let b := m.body
    let source := le b 0 2
    let code := le b 2 2
    let job := le b 4 2
    let ack : Msg := { s.msgTo m.src 0x0E (zeros 8) with flags := 1, msgid := m.msgid }
    let s2 := ((s.sendAgain ack).noteReport m.src code).fault { source := m.src, code := 0x100 + code, key := source + 65536 * job, job := reportJob m.src code job, detail := field b 16 16 }
    s.finish (if s2.isPrimary then s2.reportEffect m.src source code job (b.drop 16) else s2)

/-! ### The topology record changes (R226) -/

/-- A record of a port that is news: address, port, what the record said and what it says now. -/
structure LinkNews where
  addr : Nat
  port : Nat
  old : Option TopoLink
  lstate : Nat
  width : Nat
  near : Bool
  /-- the report changes nothing that LINKSTATE reports: it tells of a session mismatch (R148) -/
  again : Bool
  /-- the other end, as the record has it -/
  dst : Nat
  dport : Nat
  /-- that end's state in the record at this moment -/
  farState : Option Nat
  deriving DecidableEq, Repr

/-- A link of the record left UP or narrowed (R301, R377). -/
def LinkNews.lost (n : LinkNews) : Bool := match n.old with
  | some o => o.lstate == 2 && (n.lstate != 2 || decide (n.width < o.width))
  | none => false

/-- A full training has ended: UP from neither UP nor RETRAIN (R128, R147). -/
def LinkNews.fresh (n : LinkNews) : Bool := match n.old with
  | some o => n.lstate == 2 && o.lstate != 2 && o.lstate != 3
  | none => false

/-- Every agent end of a link is ATTESTED: it holds an agent session key (R194). -/
def State.endsAttested (s : State) (n : LinkNews) : Bool :=
  [n.addr, n.dst].all (fun a => decide (0xF000 ≤ a) || (match s.ownSection.node a with
    | some k => k.attest == 1
    | none => false))

/-- Record the news of ports in order (R226). -/
def State.recordNews (s : State) (own : TopoSection) (news : List (Nat × Bytes)) : TopoSection × List LinkNews :=
  news.foldl (fun (acc : TopoSection × List LinkNews) e =>
    if (acc.1.node e.1).isNone then acc
    else
      let port := le e.2 0 1
      let old := acc.1.link e.1 port
      let x := s.recordPort acc.1 e.1 e.2 false
      match x.link e.1 port with
      | none => (x, acc.2)
      | some l => (x, acc.2 ++ [{
          again := old.any (fun o => o.lstate == 2 && l.lstate == 2 && o.width == l.width) && !bit (le e.2 11 1) 0
          addr := e.1, port := port, old := old, lstate := l.lstate, width := l.width, near := bit (le e.2 11 1) 0, dst := l.dst
          dport := l.dport, farState := (x.link l.dst l.dport).map TopoLink.lstate }])) (own, [])

/-- New session numbers after a full training, once both ends are UP, for a tick 3 ahead where a count has reached 2^47, and afresh where an
end reports a mismatch (R142, R147, R148, R194). -/
def State.newsSession (s : State) (n : LinkNews) : State :=
  let other : Bool := match n.farState with
    | some st => st == 2
    | none => true
  let again := (n.near || n.again) && n.addr != s.ownAddr
  if !s.endsAttested n ∨ n.lstate ≠ 2 ∨ !(again || (n.fresh && other)) then s
  else
    let lead := if n.near && again && !n.fresh then 3 else 0
    let tick := if lead = 0 then 0 else s.nameTick lead
    if n.addr = s.ownAddr then s.assignSession n.port lead
    else if n.dst = s.ownAddr then s.assignSession n.dport lead
    else match s.ownSection.link n.addr n.port with
      | some l => s.sessionForLink l tick
      | none => s

/-- An agent that is to train or retrain is granted and released (R129, R515): once for a link, not where LINK_RETRAIN has booked it. A port that had no record was DOWN (R124). -/
def State.newsTraining (s : State) (n : LinkNews) : State :=
  let commanded := s.host.cmds.any (fun c => c.phase == .running && c.pkt.opcode == 0x0205
    && (c.data == [n.addr, n.port] || c.data == [n.dst, n.dport]))
  let was := (n.old.map TopoLink.lstate).getD 0
  if n.addr = s.ownAddr ∨ (n.lstate ≠ 1 ∧ n.lstate ≠ 3) ∨ was = n.lstate ∨ n.farState = some n.lstate ∨ commanded then s
  else s.grantTraining n.addr (if n.dst = s.ownAddr then 0xFFFF else n.dst) 8

/-- LINK_RETRAIN ends with the training it asked for (R129, R224): narrow is ST_DEGRADED, fenced ST_FENCED. -/
def State.newsRetrain (s : State) (n : LinkNews) : State :=
  let hit := s.host.cmds.filter (fun c => c.phase == .running && c.pkt.opcode == 0x0205 && c.data == [n.addr, n.port])
  hit.foldl (fun t c =>
    if n.lstate = 1 then t.modCmd c.id (fun d => { d with stage := 1 })
    else if n.lstate = 4 then t.endCmd c.id 0x30 (if n.addr = t.ownAddr then 0xF400 + n.port else n.addr)
    else if n.lstate = 2 ∧ c.stage = 1 then (if n.width = 8 then t.endCmd c.id 0 else t.endCmd c.id 0x31 1)
    else t) s

/-- Port records enter the section in their order, each update with a generation of its own (R226, R232). -/
def State.enterNews (s s0 : State) (news : List (Nat × Bytes)) : State :=
  news.foldl (fun t e =>
    let f (y : TopoSection) : TopoSection := (s0.recordNews y [e]).1
    if f t.ownSection = t.ownSection then t else t.changeSection f) s

/-- A switch is lost, by a reset or with all its links (R302): recorded at S2; its banks are clear, its keys and its session gone; collective steps
through it are voided; no job fails for it. Until it has returned (R303) no route takes it, and a repair epoch goes round it. Whether a switch has
reset or only lost its links cannot be told before it answers again: both are handled so (DEDUCED, log entry 239). -/
def State.switchLost (s : State) (a : Nat) : State :=
  let s1 := (s.fault { source := a, code := 0x110 }).changeSection (fun x => { x with
    nodes := x.nodes.map (fun n => if n.addr = a then { n with attest := 0, agState := 0 } else n) })
  let s2 := s1.modEpoch (fun e => { e with images := e.images.filter (fun i => i.addr != a), stranded := e.stranded.filter (· != a) })
  let s3 : State := { s2 with
    sec := { s2.sec with holders := s2.sec.holders.filter (fun h => h.addr != a), sessions := kvErase s2.sec.sessions a }
    fabric := { s2.fabric with lostSwitches := (s2.fabric.lostSwitches ++ [a]).eraseDups } }
  ((s3.twillLost (fun l => l.src == a || l.dst == a)).noteDegraded a none).requestRepair a 0xFF 0

/-- Switches still stranded at a retire tick are handled as reset ones (R291, R299, R302), and, their links being there, probed (R303). -/
def State.resetMarker (s : State) : State :=
  let due := s.fabric.resetDue
  let s1 : State := { s with fabric := { s.fabric with resetDue := [] } }
  due.foldl (fun t a => match t.ownSection.node a with
    | none => t
    | some n =>
      let toward := (t.ownSection.links.filter (fun l => l.dst == a)).map (fun l => (l.src, l.sport))
      ((t.failoverFor toward).switchLost a).askPath n.path 0x01 (toLe 1 0) .identify a) s1

/-- TOPOLOGY_RECORD_CHANGE (R226, R232, R301, R340, R377, R411): the port records that have come since the last marker enter the section,
each update with its generation; trees, plans, sessions, grants and the repair follow, and a switch that has lost all its links is lost (R302). A SECONDARY takes the record from its twin's deltas. -/
def execTopologyRecordChange (s : State) : Host.Outcome State Fault Refusal :=
  let news := s.mail.linkNews
  if news = [] ∨ s.up.dev = .off ∨ s.up.dev = .halt then s.finish s
  else
    let s0 : State := { s with mail := { s.mail with linkNews := [] } }
    let ns := (s0.recordNews s0.ownSection news).2
    let s1 := ns.foldl State.newsRetrain s0
    if !s1.isPrimary ∨ ns = [] then s.finish s1
    else
      let before := s1.usableOwn
      let s2 := s1.enterNews s0 news
      let lost := ns.filter LinkNews.lost
      let s3 := lost.foldl (fun t n =>
        (t.twillLost (fun l => (l.src == n.addr && l.sport == n.port) || (l.dst == n.addr && l.dport == n.port))).noteDegraded
          n.addr (some n.port)) s2
      let s4 := if lost.any (fun n => n.addr < 0x8000 || n.dst < 0x8000) then s3.dropPresumed else s3
      let s5 := (ns.foldl (fun t n => (t.newsTraining n).newsSession n) s4).twillRetry
      let gone := (s5.ownSection.nodes.filter (fun n => n.kind == 2 && nodeEligible n && s5.switchGone [] n.addr
        && lost.any (fun e => e.dst == n.addr))).map TopoNode.addr
      let ends (l : Nat × Nat × Nat) : Bool := gone.contains l.1 || (s5.ownSection.link l.1 l.2.1).any (fun k => gone.contains k.dst)
      s.finish ((gone.foldl State.switchLost s5).repairIfChanged (before.filter (fun l => !ends l)))

end Sys2Proof.Machine
end

