-- ==== Sys2Proof/Machine/Markers.lean ====
section
/-! DEFINITION. What happens at a marker (spec 02_fabric_tick R44 to R53, R64, R71, R79, R700, R702): the order of the switch actions, and
the rows that bring a marker about. -/

namespace Sys2Proof.Machine

open Sys2Proof

/-! ### The steps of R64 -/

/-- The clocks run: markers and instants are taken in every state but OFF and HALT (R610). -/
def State.clocked (s : State) : Bool := match s.up.dev with
  | .off | .halt => false
  | _ => true

/-- Step 1, R30: completion counts roll in every valid entry. -/
def State.rollCounts (s : State) : State :=
  { s with streams := s.streams.map (fun e => (e.1, { e.2 with ccntPrev := e.2.ccntCur, ccntCur := 0 })) }

/-- Operating seconds: whole seconds of the reference clock (R616). An instant lasts 16 µs, a tick the period. -/
def State.countSeconds (s : State) : State :=
  let us := s.faults.usec + (if s.clock.loaded then s.clock.period else 16)
  { s with faults := { s.faults with opsec := (s.faults.opsec + us / 1000000) % 2 ^ 40, usec := us % 1000000 } }

/-- Step 1 of R64: counts roll, TICK_OUT pulses (R694), budgets are new (R72, R550), holds expire
(R103), the twin's deltas are applied (R651). -/
def State.markerFirst (s : State) : State :=
  let s1 := s.rollCounts.countSeconds
  let s2 : State := { s1 with
    host := { s1.host with dispatched := 0, grants := 0 }
    mail := { s1.mail with used := [], written := [], selvedge := {} }
    jacquard := { s1.jacquard with grants := 0 }
    sec := { s1.sec with used := {} }
    pins := { s1.pins with tickOut := s1.pins.tickOut + flag s1.clock.loaded }
    ports := s1.ports.map (fun p => (p.1, { p.2 with flow := p.2.flow.newTick p.2.link })) }
  s2.deltaMarker.expireHolds

/-- Step 2 of R64: fences that were decided before this marker, and what they end. -/
def State.markerFences (s : State) : State := s.leaderMarker.fenceMarker.quadMarker.handlingMarker.unfenceMarker

/-- An overlay that was sent applies from its tick on (R183, R299). -/
def State.overlayMarker (s : State) : State := match s.fabric.epoch.overlayAt with
  | some a => if a ≤ s.clock.now then s.modEpoch (fun e => { e with overlayAt := none }) else s
  | none => s

/-- The coordinator solves again for a result that was discarded (R79), with its parameters: at once, or behind what is queued. -/
def State.solveAgain (s : State) (p : SolveParams) : State :=
  let f := s.fabric
  if f.queue.any (fun r => r.params == p) || f.solve.any (fun v => v.params == p) then s
  else if f.solve.isNone ∧ f.queue = [] then s.callSolve p [] 0
  else if 64 ≤ f.queue.length then s
  else { s with fabric := { f with queue := f.queue ++ [{ params := p, from_ := [] }] } }

/-- A solve whose epoch has moved is aborted and repeated by the coordinator (R272). Step 11 of R64: what was planned for the old epoch is
discarded and counted, a discarded result of a solve being solved again (R79, R80; DESIGN CHOICE, log entry 190: under job 0, these results
belonging to no job, and the solve is repeated for no requester). A failover delta that was in force as the overlay was used and counts for
nothing. -/
def State.epochMoved (s : State) (before : Epoch) (results : List SolveResult) : State :=
  if s.fabric.epoch.current = before.current then s
  else
    let s1 := if s.coordinator = s.ownAddr then s.abortSolve 1 else s
    let stale := results.filter (fun r => r.id != before.stagedId && r.tags.getD s.up.bolt 0 == (before.current + 1) % 65536)
    let s2 := stale.foldl (fun t _ => t.countRunAhead 0 0 false) s1
    let again := ((stale.map SolveResult.params).eraseDups).filter (fun p =>
      !results.any (fun r => r.id == before.stagedId && r.params == p))
    let s3 := if s2.coordinator = s2.ownAddr then again.foldl (fun t p => t.solveAgain p) s2 else s2
    (before.prepared.filter (fun d => before.overlay != some d.id || before.overlayAt.isSome)).foldl (fun t _ =>
      t.countRunAhead 0 1 false) s3

/-- Step 3 of R64: route banks switch, retire and overlay; promotions and slice changes of the epoch follow with its commit. -/
def State.markerRoutes (s : State) : State :=
  let e := s.fabric.epoch
  let s1 := s.promoteMarker.commitMarker
  (s1.afterCommit e.current).retireMarker.overlayMarker

/-- Step 4 of R64: session numbers with a named tick (R148), then job keys. -/
def State.markerKeys (s : State) : State :=
  let due := (List.range 40).filterMap (fun p => match (s.port p).flow.sessionAt with
    | some (n, t) => if t ≤ s.clock.now then some (p, n) else none
    | none => none)
  (due.foldl (fun t e => t.applySession { node := .geneel, port := e.1 } e.2) s).keyMarker

/-- Commands whose tick has come, in the order of acceptance (R71); ordered packets behind those that end go on (R114). -/
def State.markerCommands (s : State) : State :=
  let s1 := (s.host.cmds.map Cmd.id).foldl (fun t i => t.beginDue i) s
  s1.orderPump s1.host.cmds.length

/-- A carve whose tick has come takes effect before the allocations of that tick, which are held against the new split (R38). -/
def State.carveMarker (s : State) : State :=
  ((s.host.cmds.filter (fun c => c.pkt.opcode == 0x0801)).map Cmd.id).foldl (fun t i => t.beginDue i) s

/-- Steps 5 to 10 of R64: verdicts, updates, rounds, grants, the apportionment sample, other commands. -/
def State.markerActions (s : State) (committed : Bool) : State :=
  let s1 := s.twillMarker.calicoMarker.snapMarker.loadMarker.carveMarker.storeMarker.jacquardMarker.powerMarker
  ((s1.sliceMarker committed).strobe.swapMarker).markerCommands

/-- A running solve whose coordinator is no longer the tick master: the new coordinator abandons it, and its own requests are made
again (R272). -/
def State.solveMoved (s : State) : State := match s.fabric.solve with
  | none => s
  | some v =>
    if v.coordinator = s.coordinator ∨ s.coordinator ≠ s.ownAddr then s
    else
      let s1 : State := { s.abortSolve 0 with fabric := { (s.abortSolve 0).fabric with requested := [] } }
      s.fabric.requested.foldl (fun t r => (t.requestSolve r.1 r.2).1) s1

/-- Work that goes on from marker to marker: messages that waited for a budget leave (R74), solves, staging within the budgets (R74), slice changes, trees, the pair. -/
def State.markerWork (s : State) : State :=
  let s1 := s.pumpOutbox.resetMarker.sectionMarker.solveMoved.staleMarker.freezeCopy.goMarker.tileMarker.settleSolves.repairMarker
  let s2 := s1.stagePump.stageCheck.slicePump.treeMarker
  s2.mirrorMarker.silenceMarker.sendHeartbeats.sealMarker

/-- Every accepted command has its final record or ST_PENDING within 8 ticks of acceptance (R110). -/
def State.markerPending (s : State) : State :=
  (s.host.cmds.filter (fun c => c.phase != .ordered && decide (c.since + 7 ≤ s.clock.now))).foldl (fun t c =>
    t.postPending c.id (if s.clock.now < c.due then s.tickAt c.due else 0)) s

/-- All that happens at a marker, or before machine start at the local instant that stands for it (R64, R700); registers latch last
(R678, R681). -/
def State.marker (s : State) : State :=
  let s1 := s.markerFirst.markerFences
  let (before, results) := (s1.fabric.epoch, s1.fabric.results)
  let s2 := s1.markerRoutes.markerKeys
  let s3 := ((s2.markerActions (s2.fabric.epoch.current != before.current)).epochMoved before results).checkBarriers.markerWork.markerPending
  if 4 ≤ s3.up.dev.code ∧ s3.clocked then s3.latchBlocks else s3

/-- The tick becomes `t`, one marker later (R44, R45, R700). -/
def State.tickTo (s : State) (t : Nat) : State :=
  s.modClock (fun c => { c with now := c.now + 1, tick := t % 2 ^ 48, loaded := true })

/-- Machine start at this Geneel: TICK_START commands end with the tick, READY becomes RUN (R47, R626). -/
def State.machineStart (s : State) : State :=
  let hit := s.host.cmds.filter (fun c => c.phase == .running && c.pkt.opcode == 0x0102)
  let s1 := hit.foldl (fun t c => t.endCmd c.id 0) s
  (if s1.up.dev = .ready then s1.setDev .run else s1).refreshDev

/-- One marker: the number, then its work; at the first one the machine starts here. -/
def State.take (s : State) (t : Nat) : State :=
  let s1 := s.tickTo t
  (if s.clock.loaded then s1 else s1.machineStart).marker

/-- A miss that is bridged: the tick goes on at the local instant, and its work is done (R51; DESIGN CHOICE: the Geneel's own tick runs
on as an agent's flywheel does). -/
def State.miss (s : State) : State :=
  (s.modClock (fun c => { c with missed := satAdd 32 c.missed 1, missedRun := c.missedRun + 1 })).take (s.clock.tick + 1)

/-- Markers that were not heard before one that is. -/
def State.missMany : Nat → State → State
  | 0, s => s
  | n + 1, s => State.missMany n s.miss

/-! ### Rows -/

/-- LOCAL_INSTANT (R700): every 16 µs until the first marker. -/
def execLocalInstant (s : State) : Host.Outcome State Fault Refusal :=
  if s.clock.loaded ∨ !s.clocked then s.finish s
  else s.finish (s.modClock (fun c => { c with now := c.now + 1 })).marker

/-- The tick master emits its next marker; it stops where it has announced a handover (R53) or is master no longer (R49). -/
def State.emitNext (s : State) : State :=
  let c := s.clock
  if c.handover ≠ 0 ∧ c.handover ≤ c.tick + 1 then
    s.modClock (fun x => { x with emitting := false, master := x.nextMaster, handover := 0, nextMaster := 0xFF })
  else if !(s.up.dev.healthy && s.isPrimary) then
    s.modClock (fun x => { x with emitting := false, master := s.elected.getD 0xFF })
  else (s.take (c.tick + 1)).sendTick

/-- A marker of another emitter for a tick already reached (R52): the lower ID is followed, the conflict counted; an emitter with the
higher ID stops and records it. -/
def State.conflict (s : State) (master : Nat) : State :=
  let s1 := s.modClock (fun c => { c with conflicts := satAdd 32 c.conflicts 1 })
  if s.clock.master ≤ master then s1
  else
    let s2 := s1.modClock (fun c => { c with master := master, emitting := false, handover := 0, nextMaster := 0xFF })
    if s.clock.emitting then s2.fault { source := 0xF128, code := 0x22 } else s2

/-- The sender of a marker may be followed: the master so far, a lower ID, the one announced, or anyone once a marker has been
missed (R50 to R53). -/
def State.mayFollow (s : State) (master : Nat) : Bool :=
  let c := s.clock
  c.master == 0xFF || decide (master ≤ c.master) || decide (1 ≤ c.missedRun) || (c.handover != 0 && c.nextMaster == master)

/-- Take an accepted marker: its number, its sender and what it announces (R45, R50, R53, R200). -/
def State.follow (s : State) (t master handover next : Nat) : State :=
  let s1 := if s.clock.loaded then State.missMany (t - s.clock.tick - 1) s else s
  let s2 := s1.modClock (fun c => { c with
    master := master, missedRun := 0, handover := handover, nextMaster := next, startFrom := none })
  s2.take t

/-- A received TICK (R42, R45, R48, R50, R52, R200): it shows that the machine has started. -/
def State.gotTick (s0 : State) (b : Bytes) : State :=
  let s := s0.modClock (fun c => { c with heard := true })
  let (t, period, master) := (le b 0 6, le b 6 1, le b 7 1)
  let (handover, next) := (le b 16 6, le b 22 1)
  let c := s.clock
  if !c.loaded then
    if period ≠ c.period then
      (s.host.cmds.filter (fun d => d.phase == .running && d.pkt.opcode == 0x0102)).foldl (fun u d =>
        u.endCmd d.id 0x11 (2 ^ 63 + period)) s
    else s.follow t master handover next
  else if t ≤ c.tick then (if t = c.tick ∧ master ≠ c.master then s.conflict master else s)
  else if c.emitting then
    if master < s.ownId then (s.conflict master).follow t master handover next
    else s.modClock (fun x => { x with conflicts := satAdd 32 x.conflicts 1 })
  else if s.mayFollow master then s.follow t master handover next
  else s.modClock (fun x => { x with conflicts := satAdd 32 x.conflicts 1 })

/-- TICK_MARKER (R64): the Geneel's own next marker where it is the tick master (no message), or a TICK that has arrived. -/
def execTickMarker (m : Option Msg) (s : State) : Host.Outcome State Fault Refusal :=
  if !s.clocked then s.finish s
  else match m with
    | none => s.finish (if s.clock.loaded && s.clock.emitting then s.emitNext else s)
    | some m => s.finish (if m.type = 0x10 then s.gotTick m.body else s)

/-- This Geneel begins to emit, not locked and not in holdover (R57). -/
def State.beginEmitting (s : State) : State :=
  s.modClock (fun c => { c with
    emitting := true, master := s.ownId, handover := 0, nextMaster := 0xFF, missedRun := 0, lock := 0 })

/-- MARKER_ONE_EMIT (R43, R56, R57, R702), at a moment between two local instants: 16 P after the dispatch of TICK_START at
the master, on the first TICK_IN edge after that in the locked modes, or 2 expected intervals later without one, in holdover. An
edge that comes after that point finds the marker due and is none of the two intervals. -/
def execMarkerOneEmit (at_ : StartMoment) (s : State) : Host.Outcome State Fault Refusal :=
  let c := s.clock
  match c.startFrom with
  | none => s.finish s
  | some t0 =>
    if c.loaded ∨ !s.clocked ∨ s.elected ≠ some s.ownId ∨ c.now < t0 then s.finish s
    else
      let go (lock : Nat) : State := ((s.beginEmitting.modClock (fun x => { x with
        lock := lock, edgeAt := some x.now, startFrom := none })).take 1).sendTick
      let (t, last) := (16 * c.now + at_.us % 16, 16 * t0 + 2 * c.interval)
      if c.mode = 0 then s.finish (go 0)
      else if at_.edge ∧ t ≤ last then s.finish (go 1)
      else if last ≤ t then s.finish ((go 2).fault { source := 0xF128, code := 0x22 })
      else s.finish s

/-- MARKER_MISSED (R51): no marker P/4 after the local tick instant. -/
def execMarkerMissed (s : State) : Host.Outcome State Fault Refusal :=
  if !s.clock.loaded ∨ s.clock.emitting ∨ !s.clocked then s.finish s else s.finish s.miss

/-- BACKUP_MARKER_EMIT (R51): the next candidate of R49 after two misses in a row; numbering goes on without a gap or a repeat. -/
def execBackupMarkerEmit (s : State) : Host.Outcome State Fault Refusal :=
  let c := s.clock
  let mine := some s.ownId
  if !c.loaded ∨ c.emitting ∨ !s.clocked ∨ c.missedRun < 2 ∨ !(s.elected == mine || s.electedBut (some c.master) == mine) then
    s.finish s
  else s.finish ((s.beginEmitting.take (c.tick + 1)).sendTick)

end Sys2Proof.Machine
end

