-- ==== Sys2Proof/Machine/TwillAgent.lean ====
section
/-! DEFINITION. Twill at the agent (spec 10_twill_collectives R352 to R374, spec 05_agent_protocol R190, R199): what a switch does
with records and tallies, what a member does with results and verdicts. -/

namespace Sys2Proof.Machine

open Sys2Proof

/-- The tree entry whose up or down stream a flit carries, in force (R189, R352). -/
def State.treeOfFlit (s : State) (f : Flit) : Option TreeEntry :=
  s.agent.work.trees.find? (fun e => e.live s.agent.core.tick
    && ((f.vc == 2 && e.up == f.stream) || (f.vc == 3 && e.down == f.stream)))

/-- What the switch has gathered of a step, empty before its first record. -/
def State.gather (s : State) (e : TreeEntry) (step : Nat) : SwitchStep :=
  (s.agent.work.gathers.find? (fun g => g.group == e.group && g.tree == e.tree && g.step == step)).getD
    { group := e.group, tree := e.tree, step := step }

/-- Keep it. -/
def State.putGather (s : State) (g : SwitchStep) : State :=
  s.modAgentWork (fun w => { w with
    gathers := w.gathers.filter (fun x => !(x.group == g.group && x.tree == g.tree && x.step == g.step)) ++ [g] })

/-- Ports of the children of a tree entry. -/
def TreeEntry.kids (e : TreeEntry) : List Nat := maskPorts e.children

/-- Poison: the first poisoning node stands (R366). -/
def SwitchStep.poisonBy (g : SwitchStep) (node : Nat) : SwitchStep :=
  { g with poison := true, node := if g.node = 0xFFFF then node else g.node }

/-- An up flit of the switch on a tree. -/
def upFlit (f : Flit) (own : Nat) (payload : Bytes) : Flit := { f with src := own, payload := payload }

/-- Units that every child has covered or ended below. -/
def SwitchStep.ready (g : SwitchStep) (kids : List Nat) : Nat :=
  let far := g.cover.foldl (fun a c => max a c.2) 0
  kids.foldl (fun a p =>
    if g.ended.any (fun e => e.1 == p) then a
    else min a (((g.cover.find? (fun c => c.1 == p)).map Prod.snd).getD 0)) far

/-- Combined units that are ready leave upward, then SUBEND once every child has ended (R363, R371). -/
def State.pumpSwitch (s : State) (e : TreeEntry) (step : Nat) (f : Flit) : State :=
  let g := s.gather e step
  let upTo := g.ready e.kids
  let mine (u : CombineUnit) : Bool := u.group == e.group && u.tree == e.tree && u.step == step
  let due := sortBy CombineUnit.unit (s.agent.work.combining.filter (fun u => mine u && u.unit < upTo))
  let recs := (due.filter (fun u => u.special || u.lanes.any (· != 0))).map (fun u =>
    (u.unit, ({ offset := 0, special := u.special, e := u.e, residue := laneResidue u.lanes
                data := lanesBytes e.lane u.lanes } : TwillRecord)))
  let size := upData (codesOp e.codes) (codesType e.codes) e.lane
  let enc := s.hasLinkKey .agent e.job
  let pays := if e.role = 1 then cutRecords step size (recordRoom enc) (upTo + 1 - g.sent) g.sent upTo recs else []
  let send (t : State) (b : Bytes) : State := t.switchOut e.parent e.parent (upFlit f s.agentAddr b)
  let s1 := pays.foldl send (s.modAgentWork (fun w => { w with
    combining := w.combining.filter (fun u => !(mine u && u.unit < upTo)) }))
  let all := e.kids.all (fun p => g.ended.any (fun x => x.1 == p))
  let count := g.ended.foldl (fun a x => a + x.2) 0
  let s2 := if all ∧ !g.done then
      send s1 (tallyPayload step [{ type := 3, flags := flag g.poison + 2 * flag g.overflow, addr := g.node, data := count }])
    else s1
  s2.putGather { g with sent := max g.sent upTo, done := g.done || all }

/-- A combine-class record at a combining switch: its residue is checked; it is added, or dropped with OVERFLOW and a report of
code 9 when the group's store is full (R363, R366, R367). -/
def State.combineRecord (s : State) (e : TreeEntry) (step u0 : Nat) (r : TwillRecord) : State :=
  let type := codesType e.codes
  let lanes := lanesOf e.lane (typeUnit type) r.data
  let g0 := s.gather e step
  let s0 := if r.residue ≠ laneResidue lanes then s.putGather (g0.poisonBy s.agentAddr) else s
  let unit := u0 + r.offset
  let mine (u : CombineUnit) : Bool := u.group == e.group && u.tree == e.tree && u.step == step && u.unit == unit
  match s0.agent.work.combining.find? mine with
  | some u =>
    let (x, l) := addLanes (codesOperator e.codes) u.e u.lanes r.e lanes
    s0.modAgentWork (fun w => { w with combining := w.combining.map (fun v =>
      if mine v then { v with e := x, lanes := l, special := v.special || r.special } else v) })
  | none =>
    let held := (s0.agent.work.combining.filter (fun u => u.group == e.group && u.tree == e.tree)).length
    if e.reservation * (232 / (4 + r.data.length)) ≤ held then
      let g := s0.gather e step
      let s1 := s0.putGather { g with overflow := true }
      if g.overflow then s1.agentOccurred 9 else s1.agentReport 0xFF01 9 e.job (toLe 2 e.group)
    else s0.modAgentWork (fun w => { w with combining := w.combining ++ [{
      group := e.group, tree := e.tree, step := step, unit := unit, e := r.e, lanes := lanes, special := r.special }] })

/-- Records that a switch forwards, each with its computed residue; a failed one poisons the step (R366). -/
def State.forwardRecords (s : State) (e : TreeEntry) (step size : Nat) (down : Bool) (f : Flit) : State × Flit :=
  let rs := recordsOf size f.payload
  let sum (r : TwillRecord) : Nat := if down ∨ 2 < codesOp e.codes then dataResidue r.data
    else laneResidue (lanesOf e.lane (typeUnit (codesType e.codes)) r.data)
  let bad := rs.any (fun r => r.residue != sum r)
  let s1 := if bad then s.putGather ((s.gather e step).poisonBy s.agentAddr) else s
  (s1, { f with payload := f.payload.take 8 ++ rs.flatMap (fun r => { r with residue := sum r }.bytes) })

/-- One tally at a switch: END of a member right below, or SUBEND of a switch below, ends that child; END and RECEIPT go up at
once (R361, R371). -/
def State.switchTally (s : State) (e : TreeEntry) (port step : Nat) (f : Flit) (y : Tally) : State :=
  let g := s.gather e step
  let below := (s.agentPort port).link.far.map Hello.kind
  match y.type with
  | 3 =>
    let g1 := if bit y.flags 0 then g.poisonBy y.addr else g
    s.putGather { g1 with
      overflow := g1.overflow || bit y.flags 1
      ended := g1.ended.filter (fun x => x.1 != port) ++ [(port, y.data)] }
  | t =>
    let s1 := if t = 1 ∧ below ≠ some 2 then
        s.putGather { g with ended := g.ended.filter (fun x => x.1 != port) ++ [(port, 1)] }
      else s
    s1.switchOut port e.parent (upFlit f s.agentAddr (tallyPayload step [y]))

/-- SWITCH_TWILL_RECORD (R352, R355, R359 to R361, R363, R366, R367, R371): a Twill flit at a switch's port. One that matches no
tree entry is discarded and counted as misrouted. -/
def execSwitchTwillRecord (port : Nat) (f : Flit) (s : State) : Host.Outcome State Fault Refusal :=
  match s.treeOfFlit f with
  | none => s.finish (s.misroute port)
  | some e =>
    if !s.agentForwards then s.finish s
    else
    let (step, u0, span) := twillHeader f
    let op := codesOp e.codes
    let type := codesType e.codes
    if f.vc = 3 then
      let (s1, f1) := if span = 0 then (s, f) else s.forwardRecords e step (typeData type) true f
      s.finish (e.kids.foldl (fun t p => t.switchOut port p f1) s1)
    else if span = 0 then
      let s1 := (talliesOf f.payload).foldl (fun t y => t.switchTally e port step f y) s
      s.finish (s1.pumpSwitch e step f)
    else
      let g := s.gather e step
      let old := ((g.cover.find? (fun c => c.1 == port)).map Prod.snd).getD 0
      let s1 := s.putGather { g with cover := g.cover.filter (fun c => c.1 != port) ++ [(port, max old (u0 + span))] }
      if e.role = 1 then
        let s2 := (recordsOf (upData op type e.lane) f.payload).foldl (fun t r => t.combineRecord e step u0 r) s1
        s.finish (s2.pumpSwitch e step f)
      else
        let (s2, f1) := s1.forwardRecords e step (upData op type e.lane) false f
        s.finish ((s2.switchOut port e.parent f1).pumpSwitch e step f)

/-! ### A member -/

/-- A step at the member, empty before its first result. -/
def State.memberOf (s : State) (group step : Nat) : MemberStep :=
  (s.agent.work.steps.find? (fun x => x.group == group && x.step == step)).getD { group := group, step := step }

/-- Keep it. -/
def State.putMember (s : State) (x : MemberStep) : State :=
  s.modAgentWork (fun w => { w with
    steps := w.steps.filter (fun y => !(y.group == x.group && y.step == x.step)) ++ [x] })

/-- k of a step of `units` units: tree 0 carries the units below it, tree 1 the others, in proportion to the bottlenecks of the trees;
under SINGLE tree 0 carries all (R354). -/
def splitUnits (units f0 f1 : Nat) (single : Bool) : Nat := if single then units else units * f0 / (f0 + f1)

/-- The units of a step that a tree carries: the first and the end (R354). -/
def treeUnits (tree units f0 f1 : Nat) (single : Bool) : Nat × Nat :=
  let k := splitUnits units f0 f1 single
  if tree = 0 then (0, k) else (k, units)

/-- MEMBER_RESULT_RECEIVE (R354, R361, R366, R370): results and DEND of one tree at a member; `own` holds the member's unit count of the
step and the figures of R348, from which it computes its own range on the tree. RECEIPT follows DEND and every result,
with BAD for a failed residue and COUNT where DEND differs from the end of that range. An agent takes results while it is SERVING or QUIESCED
(R201). -/
def execMemberResultReceive (f : Flit) (own : MemberUnits) (s : State) : Host.Outcome State Fault Refusal :=
  match s.treeOfFlit { f with vc := 3 } with
  | none => s.finish s
  | some e =>
    if !s.agentForwards then s.finish s
    else
    let (step, u0, span) := twillHeader f
    let last := (treeUnits e.tree own.units own.f0 own.f1 own.single).2
    let x := s.memberOf e.group step
    let one := e.tree == 1
    let x1 : MemberStep := if span = 0 then
        match (talliesOf f.payload).find? (fun y => y.type == 4) with
        | some y => if one then { x with dend1 := some y.data } else { x with dend0 := some y.data }
        | none => x
      else
        let bad := (recordsOf (typeData (codesType e.codes)) f.payload).any (fun r => r.residue != dataResidue r.data)
        if one then { x with cover1 := max x.cover1 (u0 + span), bad1 := x.bad1 || bad }
        else { x with cover0 := max x.cover0 (u0 + span), bad0 := x.bad0 || bad }
    let (cover, dend, bad, sent) := if one then (x1.cover1, x1.dend1, x1.bad1, x1.receipt1)
      else (x1.cover0, x1.dend0, x1.bad0, x1.receipt0)
    match dend with
    | some d =>
      if sent ∨ (cover < d ∧ cover < last) then s.finish (s.putMember x1)
      else
        let x2 : MemberStep := if one then { x1 with receipt1 := true } else { x1 with receipt0 := true }
        let y : Tally := {
          type := 2, flags := flag bad + 2 * flag (decide (d ≠ last)), addr := s.agentAddr, data := s.agent.core.tick % 2 ^ 32 }
        let up : Flit := {
          kind := .data, vc := 2, epb := s.agentEpb, dst := f.src, src := s.agentAddr, stream := e.up, job := e.job, payload := tallyPayload step [y] }
        s.finish ((s.putMember x2).switchOut e.parent e.parent up)
    | none => s.finish (s.putMember x1)

/-- AGENT_VERDICT (R190, R196, R199, R373, R374): forwarded on VC1 to every child port of the tree; a member holds it for its
tick, and the COMMIT of a barrier step releases the barrier exit under its grant, or is ignored and reported without one. An agent takes and
forwards them while it is SERVING or QUIESCED, which refuses releases (R201). -/
def execAgentVerdict (m : Msg) (s : State) : Host.Outcome State Fault Refusal :=
  let b := m.content
  let (group, tree, verdict, step, tick, action, base) :=
    (le b 0 2, le b 2 1, le b 3 1, le b 4 4, le b 8 6, le b 14 4, le b 18 6)
  match s.agentTree tree group with
  | none => s.finish s
  | some e =>
    if !s.agentForwards then s.finish s
    else
    let s1 := s.forwardVc1 m b e.children
    if s.agent.core.kind ≠ 1 then s.finish s1
    else
      let x := s1.memberOf group step
      if x.verdict ≠ 0 then s.finish s1
      else
        let s2 := s1.putMember { x with verdict := verdict, tick := tick }
        if verdict = 1 ∧ action ≠ 0 then
          match s2.grantOf 0 action with
          | some g =>
            if s2.agent.core.state = .quiesced then s.finish (s2.grantRefused 0 action e.job)
            else s.finish (s2.addTimed (2 ^ 64) (base + g.offset) (.release 0 action))
          | none => s.finish (s2.grantRefused 0 action e.job)
        else s.finish s2

end Sys2Proof.Machine
end

