-- ==== Sys2Proof/Machine/Dispatch.lean ====
section
/-! DEFINITION. One arm for each command: a direct call of its meaning. -/

namespace Sys2Proof.Machine

open Sys2Proof

def exec (i : Instr) (s : State) : Host.Outcome State Fault Refusal :=
  match i with
  | .identify p => Sys2Proof.Machine.execIdentify p s
  | .floorplanGet p => Sys2Proof.Machine.execFloorplanGet p s
  | .stateGet p => Sys2Proof.Machine.execStateGet p s
  | .deviceReset p => Sys2Proof.Machine.execDeviceReset p s
  | .cmdCancel p => Sys2Proof.Machine.execCmdCancel p s
  | .nop p => Sys2Proof.Machine.execNop p s
  | .tickConfig p => Sys2Proof.Machine.execTickConfig p s
  | .tickStart p => Sys2Proof.Machine.execTickStart p s
  | .tickStatus p => Sys2Proof.Machine.execTickStatus p s
  | .tickRunaheadGet p => Sys2Proof.Machine.execTickRunaheadGet p s
  | .discoverStart p => Sys2Proof.Machine.execDiscoverStart p s
  | .discoverStatus p => Sys2Proof.Machine.execDiscoverStatus p s
  | .topologyGet p => Sys2Proof.Machine.execTopologyGet p s
  | .rackAbsorb p => Sys2Proof.Machine.execRackAbsorb p s
  | .linkRetrain p => Sys2Proof.Machine.execLinkRetrain p s
  | .shelfAssign p => Sys2Proof.Machine.execShelfAssign p s
  | .routeSolve p => Sys2Proof.Machine.execRouteSolve p s
  | .routeStage p => Sys2Proof.Machine.execRouteStage p s
  | .routeCommit p => Sys2Proof.Machine.execRouteCommit p s
  | .routePin p => Sys2Proof.Machine.execRoutePin p s
  | .routeUnpin p => Sys2Proof.Machine.execRouteUnpin p s
  | .routeStatus p => Sys2Proof.Machine.execRouteStatus p s
  | .failoverPrepare p => Sys2Proof.Machine.execFailoverPrepare p s
  | .sliceCreate p => Sys2Proof.Machine.execSliceCreate p s
  | .sliceModify p => Sys2Proof.Machine.execSliceModify p s
  | .sliceDestroy p => Sys2Proof.Machine.execSliceDestroy p s
  | .sliceGet p => Sys2Proof.Machine.execSliceGet p s
  | .accessSet p => Sys2Proof.Machine.execAccessSet p s
  | .accessGet p => Sys2Proof.Machine.execAccessGet p s
  | .sparePromote p => Sys2Proof.Machine.execSparePromote p s
  | .groupCreate p => Sys2Proof.Machine.execGroupCreate p s
  | .groupDestroy p => Sys2Proof.Machine.execGroupDestroy p s
  | .groupStatus p => Sys2Proof.Machine.execGroupStatus p s
  | .planCreate p => Sys2Proof.Machine.execPlanCreate p s
  | .planDestroy p => Sys2Proof.Machine.execPlanDestroy p s
  | .planStatus p => Sys2Proof.Machine.execPlanStatus p s
  | .tableCreate p => Sys2Proof.Machine.execTableCreate p s
  | .tableDestroy p => Sys2Proof.Machine.execTableDestroy p s
  | .tableLoad p => Sys2Proof.Machine.execTableLoad p s
  | .tableRead p => Sys2Proof.Machine.execTableRead p s
  | .tableConfig p => Sys2Proof.Machine.execTableConfig p s
  | .tableStatus p => Sys2Proof.Machine.execTableStatus p s
  | .tableSnapshot p => Sys2Proof.Machine.execTableSnapshot p s
  | .storeCarve p => Sys2Proof.Machine.execStoreCarve p s
  | .storeMode p => Sys2Proof.Machine.execStoreMode p s
  | .generationOpen p => Sys2Proof.Machine.execGenerationOpen p s
  | .generationStatus p => Sys2Proof.Machine.execGenerationStatus p s
  | .restoreStart p => Sys2Proof.Machine.execRestoreStart p s
  | .generationDrop p => Sys2Proof.Machine.execGenerationDrop p s
  | .oppointSet p => Sys2Proof.Machine.execOppointSet p s
  | .powerStatus p => Sys2Proof.Machine.execPowerStatus p s
  | .shelfBudgetSet p => Sys2Proof.Machine.execShelfBudgetSet p s
  | .unitDisable p => Sys2Proof.Machine.execUnitDisable p s
  | .unitEnable p => Sys2Proof.Machine.execUnitEnable p s
  | .currentDeclare p => Sys2Proof.Machine.execCurrentDeclare p s
  | .mtrParamSet p => Sys2Proof.Machine.execMtrParamSet p s
  | .mtrBatchGet p => Sys2Proof.Machine.execMtrBatchGet p s
  | .mtrJobEnergyGet p => Sys2Proof.Machine.execMtrJobEnergyGet p s
  | .mtrAuditGet p => Sys2Proof.Machine.execMtrAuditGet p s
  | .mtrIdentityGet p => Sys2Proof.Machine.execMtrIdentityGet p s
  | .attestGet p => Sys2Proof.Machine.execAttestGet p s
  | .enrol p => Sys2Proof.Machine.execEnrol p s
  | .keyPolicySet p => Sys2Proof.Machine.execKeyPolicySet p s
  | .fwPolicySet p => Sys2Proof.Machine.execFwPolicySet p s
  | .fwStage p => Sys2Proof.Machine.execFwStage p s
  | .fwActivate p => Sys2Proof.Machine.execFwActivate p s
  | .debugChallenge p => Sys2Proof.Machine.execDebugChallenge p s
  | .debugUnlock p => Sys2Proof.Machine.execDebugUnlock p s
  | .seclogClear p => Sys2Proof.Machine.execSeclogClear p s
  | .keyRotate p => Sys2Proof.Machine.execKeyRotate p s
  | .cosignStateGet p => Sys2Proof.Machine.execCosignStateGet p s
  | .cosignWithdraw p => Sys2Proof.Machine.execCosignWithdraw p s
  | .eventViewGet p => Sys2Proof.Machine.execEventViewGet p s
  | .eventClear p => Sys2Proof.Machine.execEventClear p s
  | .severitySet p => Sys2Proof.Machine.execSeveritySet p s
  | .unfence p => Sys2Proof.Machine.execUnfence p s
  | .faultRelease p => Sys2Proof.Machine.execFaultRelease p s
  | .faultSummaryGet p => Sys2Proof.Machine.execFaultSummaryGet p s
  | .roleAssign p => Sys2Proof.Machine.execRoleAssign p s
  | .twinStatus p => Sys2Proof.Machine.execTwinStatus p s
  | .peerListSet p => Sys2Proof.Machine.execPeerListSet p s
  | .peerStatus p => Sys2Proof.Machine.execPeerStatus p s
  | .takeover p => Sys2Proof.Machine.execTakeover p s
  | .streamRead p => Sys2Proof.Machine.execStreamRead p s
  | .countersGet p => Sys2Proof.Machine.execCountersGet p s
  | .agentCountersRead p => Sys2Proof.Machine.execAgentCountersRead p s
  | .loopback p => Sys2Proof.Machine.execLoopback p s
  | .configRequest port => Sys2Proof.Machine.execConfigRequest port s
  | .sqDoorbellWrite port ring count => Sys2Proof.Machine.execSqDoorbellWrite port ring count s
  | .cqDoorbellWrite port ring count => Sys2Proof.Machine.execCqDoorbellWrite port ring count s
  | .ringEnable port ring ctrl => Sys2Proof.Machine.execRingEnable port ring ctrl s
  | .ringDisable port ring ctrl => Sys2Proof.Machine.execRingDisable port ring ctrl s
  | .ringStopComplete port ring => Sys2Proof.Machine.execRingStopComplete port ring s
  | .evtCurIndexWrite port index => Sys2Proof.Machine.execEvtCurIndexWrite port index s
  | .evtCurAdvWrite port => Sys2Proof.Machine.execEvtCurAdvWrite port s
  | .eventSnapshotReady port => Sys2Proof.Machine.execEventSnapshotReady port s
  | .intCauseClear port causes => Sys2Proof.Machine.execIntCauseClear port causes s
  | .intMaskWrite port mask => Sys2Proof.Machine.execIntMaskWrite port mask s
  | .rwQuadwordHalfWrite port offset value => Sys2Proof.Machine.execRwQuadwordHalfWrite port offset value s
  | .quadwordLowReadLatch port offset size => Sys2Proof.Machine.execQuadwordLowReadLatch port offset size s
  | .registerWrite port offset size value => Sys2Proof.Machine.execRegisterWrite port offset size value s
  | .coalesceTimerExpire port ring => Sys2Proof.Machine.execCoalesceTimerExpire port ring s
  | .packetFetch port ring packet bad => Sys2Proof.Machine.execPacketFetch port ring packet bad s
  | .cosignHoldExpire digest => Sys2Proof.Machine.execCosignHoldExpire digest s
  | .queuedCommandRelease id => Sys2Proof.Machine.execQueuedCommandRelease id s
  | .queuedCommandTimeout id => Sys2Proof.Machine.execQueuedCommandTimeout id s
  | .orphanQueueDrain port => Sys2Proof.Machine.execOrphanQueueDrain port s
  | .pwrGoodRise straps => Sys2Proof.Machine.execPwrGoodRise straps s
  | .pwrGoodFall => Sys2Proof.Machine.execPwrGoodFall s
  | .resetNAssert programmed => Sys2Proof.Machine.execResetNAssert programmed s
  | .resetNRelease us => Sys2Proof.Machine.execResetNRelease us s
  | .perstAssert port => Sys2Proof.Machine.execPerstAssert port s
  | .perstRelease port => Sys2Proof.Machine.execPerstRelease port s
  | .bootComplete clockOk selvedgeOk copies => Sys2Proof.Machine.execBootComplete clockOk selvedgeOk copies s
  | .stage1Complete => Sys2Proof.Machine.execStage1Complete s
  | .stage2Complete => Sys2Proof.Machine.execStage2Complete s
  | .stage3Complete => Sys2Proof.Machine.execStage3Complete s
  | .stage4Complete => Sys2Proof.Machine.execStage4Complete s
  | .stage5Complete => Sys2Proof.Machine.execStage5Complete s
  | .railBookingStart what => Sys2Proof.Machine.execRailBookingStart what s
  | .selfTestComplete kind idx passed detail rows => Sys2Proof.Machine.execSelfTestComplete kind idx passed detail rows s
  | .localInstant => Sys2Proof.Machine.execLocalInstant s
  | .tickMarker m => Sys2Proof.Machine.execTickMarker m s
  | .markerOneEmit at_ => Sys2Proof.Machine.execMarkerOneEmit at_ s
  | .markerMissed => Sys2Proof.Machine.execMarkerMissed s
  | .backupMarkerEmit => Sys2Proof.Machine.execBackupMarkerEmit s
  | .mastershipReturn id => Sys2Proof.Machine.execMastershipReturn id s
  | .tickInEdge ns => Sys2Proof.Machine.execTickInEdge ns s
  | .tickInHoldover => Sys2Proof.Machine.execTickInHoldover s
  | .boundaryStrobe => Sys2Proof.Machine.execBoundaryStrobe s
  | .jobNoticePublish => Sys2Proof.Machine.execJobNoticePublish s
  | .peerHelloSend => Sys2Proof.Machine.execPeerHelloSend s
  | .oppointSwitch => Sys2Proof.Machine.execOppointSwitch s
  | .droopFlagSet => Sys2Proof.Machine.execDroopFlagSet s
  | .droopFlagClear => Sys2Proof.Machine.execDroopFlagClear s
  | .droopLowering => Sys2Proof.Machine.execDroopLowering s
  | .thermalSample temps => Sys2Proof.Machine.execThermalSample temps s
  | .thermalLowering => Sys2Proof.Machine.execThermalLowering s
  | .thermalRecoveryRaise => Sys2Proof.Machine.execThermalRecoveryRaise s
  | .thermComparatorTrip sensor => Sys2Proof.Machine.execThermComparatorTrip sensor s
  | .tdpLimitLowering average logic => Sys2Proof.Machine.execTdpLimitLowering average logic s
  | .tdpRecoveryRaise average logic => Sys2Proof.Machine.execTdpRecoveryRaise average logic s
  | .ageingMeasure slowdown refsReadable => Sys2Proof.Machine.execAgeingMeasure slowdown refsReadable s
  | .opsecWrite => Sys2Proof.Machine.execOpsecWrite s
  | .farEndSignalDetect r => Sys2Proof.Machine.execFarEndSignalDetect r s
  | .linkTrainingStart r good reversed polarity => Sys2Proof.Machine.execLinkTrainingStart r good reversed polarity s
  | .trainingStepTimeout r => Sys2Proof.Machine.execTrainingStepTimeout r s
  | .trainingHandshakeDone r t1 => Sys2Proof.Machine.execTrainingHandshakeDone r t1 s
  | .helloRepeat r => Sys2Proof.Machine.execHelloRepeat r s
  | .retrainTrigger r => Sys2Proof.Machine.execRetrainTrigger r s
  | .retrainComplete r => Sys2Proof.Machine.execRetrainComplete r s
  | .retrainTimeout r => Sys2Proof.Machine.execRetrainTimeout r s
  | .dataFlitReceive r f cw => Sys2Proof.Machine.execDataFlitReceive r f cw s
  | .retryRequestReceive r lseq f => Sys2Proof.Machine.execRetryRequestReceive r lseq f s
  | .idleFlitReceive r f => Sys2Proof.Machine.execIdleFlitReceive r f s
  | .retryHoldoffExpire r => Sys2Proof.Machine.execRetryHoldoffExpire r s
  | .lackStallReplay r => Sys2Proof.Machine.execLackStallReplay r s
  | .outputFlitSelect now => Sys2Proof.Machine.execOutputFlitSelect now s
  | .linkCreditReceive r f cw => Sys2Proof.Machine.execLinkCreditReceive r f cw s
  | .linkHelloReceive r f cw => Sys2Proof.Machine.execLinkHelloReceive r f cw s
  | .tsReqReceive r f cw t2 t3 => Sys2Proof.Machine.execTsReqReceive r f cw t2 t3 s
  | .tsRspReceive r f cw t4 => Sys2Proof.Machine.execTsRspReceive r f cw t4 s
  | .tsFollowReceive r f cw => Sys2Proof.Machine.execTsFollowReceive r f cw s
  | .tsExchangeDiscard r k => Sys2Proof.Machine.execTsExchangeDiscard r k s
  | .delayMeasurementDone r => Sys2Proof.Machine.execDelayMeasurementDone r s
  | .linkSessionFlitReceive r f cw => Sys2Proof.Machine.execLinkSessionFlitReceive r f cw s
  | .sessionCountNear r => Sys2Proof.Machine.execSessionCountNear r s
  | .agentReset => Sys2Proof.Machine.execAgentReset s
  | .agentTickReceive m port arrival residence => Sys2Proof.Machine.execAgentTickReceive m port arrival residence s
  | .agentFlywheelTick => Sys2Proof.Machine.execAgentFlywheelTick s
  | .agentTickLoss => Sys2Proof.Machine.execAgentTickLoss s
  | .agentProbeIdentify m => Sys2Proof.Machine.execAgentProbeIdentify m s
  | .agentProbeClaim m => Sys2Proof.Machine.execAgentProbeClaim m s
  | .agentProbeCert m => Sys2Proof.Machine.execAgentProbeCert m s
  | .agentProbeSession m => Sys2Proof.Machine.execAgentProbeSession m s
  | .switchFlitForward inPort => Sys2Proof.Machine.execSwitchFlitForward inPort s
  | .agentLinkstateRequest m => Sys2Proof.Machine.execAgentLinkstateRequest m s
  | .agentTableWrite m => Sys2Proof.Machine.execAgentTableWrite m s
  | .agentCommitActivate m => Sys2Proof.Machine.execAgentCommitActivate m s
  | .agentCommitRetire m => Sys2Proof.Machine.execAgentCommitRetire m s
  | .agentCommitFailover m => Sys2Proof.Machine.execAgentCommitFailover m s
  | .agentCommitClearStandby m => Sys2Proof.Machine.execAgentCommitClearStandby m s
  | .agentCommitTargetSwap m => Sys2Proof.Machine.execAgentCommitTargetSwap m s
  | .agentCountersRequest m => Sys2Proof.Machine.execAgentCountersRequest m s
  | .agentTreeSet m => Sys2Proof.Machine.execAgentTreeSet m s
  | .agentCards m => Sys2Proof.Machine.execAgentCards m s
  | .agentKeyInstall m => Sys2Proof.Machine.execAgentKeyInstall m s
  | .agentKeySwitch m => Sys2Proof.Machine.execAgentKeySwitch m s
  | .agentKeyErase m => Sys2Proof.Machine.execAgentKeyErase m s
  | .agentCurrentGrant m => Sys2Proof.Machine.execAgentCurrentGrant m s
  | .agentRelease m => Sys2Proof.Machine.execAgentRelease m s
  | .agentLinkSession m => Sys2Proof.Machine.execAgentLinkSession m s
  | .agentVerdict m => Sys2Proof.Machine.execAgentVerdict m s
  | .agentFaultReportAck m => Sys2Proof.Machine.execAgentFaultReportAck m s
  | .faultReportRepeat => Sys2Proof.Machine.execFaultReportRepeat s
  | .segmentReassemblyExpire => Sys2Proof.Machine.execSegmentReassemblyExpire s
  | .deferredActionComplete => Sys2Proof.Machine.execDeferredActionComplete s
  | .agentGrantCold => Sys2Proof.Machine.execAgentGrantCold s
  | .switchTwillRecord port f => Sys2Proof.Machine.execSwitchTwillRecord port f s
  | .memberResultReceive f own => Sys2Proof.Machine.execMemberResultReceive f own s
  | .agentPlanAreaWrite f item countStream rank => Sys2Proof.Machine.execAgentPlanAreaWrite f item countStream rank s
  | .agentExchangeData port f item countStream rank => Sys2Proof.Machine.execAgentExchangeData port f item countStream rank s
  | .identReceive m => Sys2Proof.Machine.execIdentReceive m s
  | .linkstateReceive m => Sys2Proof.Machine.execLinkstateReceive m s
  | .topologyRecordChange => Sys2Proof.Machine.execTopologyRecordChange s
  | .faultReportReceive m => Sys2Proof.Machine.execFaultReportReceive m s
  | .agentReplyReceive m => Sys2Proof.Machine.execAgentReplyReceive m s
  | .agentReplyResend msgid => Sys2Proof.Machine.execAgentReplyResend msgid s
  | .agentReplyTimeout msgid => Sys2Proof.Machine.execAgentReplyTimeout msgid s
  | .discoveryLevelStep => Sys2Proof.Machine.execDiscoveryLevelStep s
  | .topologyDeltaReceive src d => Sys2Proof.Machine.execTopologyDeltaReceive src d s
  | .solveReqReceive m => Sys2Proof.Machine.execSolveReqReceive m s
  | .queuedSolveStart => Sys2Proof.Machine.execQueuedSolveStart s
  | .solveCallReceive m => Sys2Proof.Machine.execSolveCallReceive m s
  | .solveVectorReceive m => Sys2Proof.Machine.execSolveVectorReceive m s
  | .solveGoReceive m => Sys2Proof.Machine.execSolveGoReceive m s
  | .solveBatchComplete => Sys2Proof.Machine.execSolveBatchComplete s
  | .shareDataReceive m => Sys2Proof.Machine.execShareDataReceive m s
  | .shareDataTimeout share => Sys2Proof.Machine.execShareDataTimeout share s
  | .shareMoveReceive m => Sys2Proof.Machine.execShareMoveReceive m s
  | .solveDoneReceive m => Sys2Proof.Machine.execSolveDoneReceive m s
  | .solveAbortReceive m => Sys2Proof.Machine.execSolveAbortReceive m s
  | .epochStageReceive m => Sys2Proof.Machine.execEpochStageReceive m s
  | .epochStagedReceive m => Sys2Proof.Machine.execEpochStagedReceive m s
  | .epochCommitReceive m => Sys2Proof.Machine.execEpochCommitReceive m s
  | .epochDoneReceive m => Sys2Proof.Machine.execEpochDoneReceive m s
  | .sliceChangeStagingStart => Sys2Proof.Machine.execSliceChangeStagingStart s
  | .sliceChangeTimeout job => Sys2Proof.Machine.execSliceChangeTimeout job s
  | .streamRelease id => Sys2Proof.Machine.execStreamRelease id s
  | .sliceDrainEnd job => Sys2Proof.Machine.execSliceDrainEnd job s
  | .twillUpRecordReceive port f => Sys2Proof.Machine.execTwillUpRecordReceive port f s
  | .twillTallyReceive port f => Sys2Proof.Machine.execTwillTallyReceive port f s
  | .twillCommitDecide group step ns => Sys2Proof.Machine.execTwillCommitDecide group step ns s
  | .twillStepDeadline group step => Sys2Proof.Machine.execTwillStepDeadline group step s
  | .countFlitReceive f => Sys2Proof.Machine.execCountFlitReceive f s
  | .countsComplete plan => Sys2Proof.Machine.execCountsComplete plan s
  | .countDeadline plan => Sys2Proof.Machine.execCountDeadline plan s
  | .planningPass plan => Sys2Proof.Machine.execPlanningPass plan s
  | .exchangeCheckStart plan => Sys2Proof.Machine.execExchangeCheckStart plan s
  | .memberReportTimeout plan rank => Sys2Proof.Machine.execMemberReportTimeout plan rank s
  | .reportFlitReceive f => Sys2Proof.Machine.execReportFlitReceive f s
  | .xchgReadyReceive m => Sys2Proof.Machine.execXchgReadyReceive m s
  | .xchgRepairReceive m => Sys2Proof.Machine.execXchgRepairReceive m s
  | .tableRequestReceive f => Sys2Proof.Machine.execTableRequestReceive f s
  | .strictLookupRelease => Sys2Proof.Machine.execStrictLookupRelease s
  | .coalescingStallResume slot => Sys2Proof.Machine.execCoalescingStallResume slot s
  | .keySweepPage part obj area => Sys2Proof.Machine.execKeySweepPage part obj area s
  | .tableShardReceive m => Sys2Proof.Machine.execTableShardReceive m s
  | .tableShardDoneReceive m => Sys2Proof.Machine.execTableShardDoneReceive m s
  | .tableShardTimeout cmd => Sys2Proof.Machine.execTableShardTimeout cmd s
  | .checkpointDataReceive n f => Sys2Proof.Machine.execCheckpointDataReceive n f s
  | .checkpointEndReceive n f => Sys2Proof.Machine.execCheckpointEndReceive n f s
  | .shardDigestComplete job gen owner => Sys2Proof.Machine.execShardDigestComplete job gen owner s
  | .gapResendTimer job gen owner => Sys2Proof.Machine.execGapResendTimer job gen owner s
  | .gapReceive f => Sys2Proof.Machine.execGapReceive f s
  | .pullReceive n f => Sys2Proof.Machine.execPullReceive n f s
  | .parReceive f => Sys2Proof.Machine.execParReceive f s
  | .packReceive f => Sys2Proof.Machine.execPackReceive f s
  | .generationCommit job gen => Sys2Proof.Machine.execGenerationCommit job gen s
  | .generationDeadline job gen => Sys2Proof.Machine.execGenerationDeadline job gen s
  | .clearingComplete job gen => Sys2Proof.Machine.execClearingComplete job gen s
  | .spillAfterCommit job gen => Sys2Proof.Machine.execSpillAfterCommit job gen s
  | .genCtlReceive m => Sys2Proof.Machine.execGenCtlReceive m s
  | .genReportReceive m => Sys2Proof.Machine.execGenReportReceive m s
  | .unitDrainComplete kind idx => Sys2Proof.Machine.execUnitDrainComplete kind idx s
  | .unitDrainTimeout kind idx => Sys2Proof.Machine.execUnitDrainTimeout kind idx s
  | .currentStepSample addr kind e0 e1 e2 e3 => Sys2Proof.Machine.execCurrentStepSample addr kind e0 e1 e2 e3 s
  | .grantWarmRenew addr kind action => Sys2Proof.Machine.execGrantWarmRenew addr kind action s
  | .faultDetect source code key job detail handling poison => Sys2Proof.Machine.execFaultDetect source code key job detail handling poison s
  | .unitWatchdogExpire kind idx => Sys2Proof.Machine.execUnitWatchdogExpire kind idx s
  | .fencingComplete kind idx => Sys2Proof.Machine.execFencingComplete kind idx s
  | .faultQuietEnd => Sys2Proof.Machine.execFaultQuietEnd s
  | .eventBlockSpill failures => Sys2Proof.Machine.execEventBlockSpill failures s
  | .eventSpillRetry failures => Sys2Proof.Machine.execEventSpillRetry failures s
  | .deposition => Sys2Proof.Machine.execDeposition s
  | .mirrorDeltaReceive m item => Sys2Proof.Machine.execMirrorDeltaReceive m item s
  | .mirrorAckReceive m => Sys2Proof.Machine.execMirrorAckReceive m s
  | .mirrorAckResend seq => Sys2Proof.Machine.execMirrorAckResend seq s
  | .mirrorSingleTimeout => Sys2Proof.Machine.execMirrorSingleTimeout s
  | .heartbeatReceive m => Sys2Proof.Machine.execHeartbeatReceive m s
  | .haltNoticeReceive m => Sys2Proof.Machine.execHaltNoticeReceive m s
  | .resyncReqReceive m => Sys2Proof.Machine.execResyncReqReceive m s
  | .resyncDataReceive m items => Sys2Proof.Machine.execResyncDataReceive m items s
  | .automaticTakeover => Sys2Proof.Machine.execAutomaticTakeover s
  | .peerHelloReceive m => Sys2Proof.Machine.execPeerHelloReceive m s
  | .peerAbsent id => Sys2Proof.Machine.execPeerAbsent id s
  | .peerSessionOffer m => Sys2Proof.Machine.execPeerSessionOffer m s
  | .peerSessionAnswer m => Sys2Proof.Machine.execPeerSessionAnswer m s
  | .peerSessionKey m => Sys2Proof.Machine.execPeerSessionKey m s
  | .peerSessionCiphertext m => Sys2Proof.Machine.execPeerSessionCiphertext m s
  | .keyXferReceive m => Sys2Proof.Machine.execKeyXferReceive m s
  | .keyStateReceive m => Sys2Proof.Machine.execKeyStateReceive m s
  | .keyOrderReceive m => Sys2Proof.Machine.execKeyOrderReceive m s
  | .keyLifetimeExpire job kind => Sys2Proof.Machine.execKeyLifetimeExpire job kind s
  | .reattestInterval => Sys2Proof.Machine.execReattestInterval s
  | .debugNonceExpire => Sys2Proof.Machine.execDebugNonceExpire s
  | .meterBusCycle => Sys2Proof.Machine.execMeterBusCycle s
  | .shortReportReceive shelf frame => Sys2Proof.Machine.execShortReportReceive shelf frame s
  | .extendedReportReceive frame => Sys2Proof.Machine.execExtendedReportReceive frame s
  | .meterSilent shelf => Sys2Proof.Machine.execMeterSilent shelf s
  | .mtrStrobeReceive us => Sys2Proof.Machine.execMtrStrobeReceive us s
  | .windowSelfClose => Sys2Proof.Machine.execWindowSelfClose s
  | .windowSeal => Sys2Proof.Machine.execWindowSeal s
  | .mboxBoundary => Sys2Proof.Machine.execMboxBoundary s
  | .mboxCounts => Sys2Proof.Machine.execMboxCounts s
  | .mboxParam => Sys2Proof.Machine.execMboxParam s
  | .mboxQuery => Sys2Proof.Machine.execMboxQuery s
  | .mboxSealNotice => Sys2Proof.Machine.execMboxSealNotice s
  | .mtrQuerySegmentAnswer => Sys2Proof.Machine.execMtrQuerySegmentAnswer s
  | .mtrQueryTimeout => Sys2Proof.Machine.execMtrQueryTimeout s
  | .buckramSelfFault => Sys2Proof.Machine.execBuckramSelfFault s
  | .trainingAttemptFailed r => Sys2Proof.Machine.execTrainingAttemptFailed r s
  | .moveReleaseRequestReceive src serials => Sys2Proof.Machine.execMoveReleaseRequestReceive src serials s
  | .moveReleaseConfirmReceive src granted => Sys2Proof.Machine.execMoveReleaseConfirmReceive src granted s
  | .twinTreeReportReceive group step => Sys2Proof.Machine.execTwinTreeReportReceive group step s
  | .rdataReceive n f => Sys2Proof.Machine.execRdataReceive n f s
  | .tableMemoryError unit => Sys2Proof.Machine.execTableMemoryError unit s
  | .loadStartingActionRequest kind action job => Sys2Proof.Machine.execLoadStartingActionRequest kind action job s

end Sys2Proof.Machine
end

