-- ==== Sys2Proof/Safety.lean ====
section
/-! DEFINITION. What counts as a safe state and a safe run of the block, and what a host sees of a command, in the terms the statements
use. -/

namespace Sys2Proof

open Sys2Proof.Machine

/-- The two alarm outputs follow the device: FAULT_N is low in HALT and on a failed clock check, and only then (R610, R624, R694);
THERM_TRIP_N is low while the thermal trip is latched, and only then (R502, R694). -/
def PinsFollow (s : State) : Prop :=
  (s.pins.faultN = false ↔ s.up.dev = .halt ∨ s.up.clockBad = true) ∧ (s.pins.thermTripN = false ↔ s.up.tripped = true)

/-- A run of `n` steps never stops: every step answers a next state. -/
def RunsOn : Nat → State → Prop
  | 0, _ => True
  | n + 1, s => ∃ t, step s = .next t ∧ RunsOn n t

/-- What a step leaves of a state that a command's effect has reached: the queue as it was, the output pins following. -/
def Done (s t : State) : State := { t.settle with pending := s.pending }

/-- The packet as the row of its opcode takes it. -/
def asOp (op : HostOp) (p : Packet) : Packet := { p with opcode := op.opcode }

/-- The state in which the checks of a fetched packet run: its dispatch and the checks of its signatures are counted against the budgets of
the tick (R72, R550). -/
def fetched (p : Packet) (s : State) : State := s.countDispatch.selvedgeSpend { ver := p.nsig }

/-- Checks 2 to 5 of R106 pass, on a ring that may be fetched from and takes records, with no ordered packet before it (R88, R89, R114). -/
def Checked (op : HostOp) (p : Packet) (s : State) : Bool :=
  let q := asOp op p
  let t := fetched p s
  s.mayFetch q.port q.ring && !s.waitsBehind q && (s.ring q.port q.ring).takesRecords
    && checks [t.checkHeader op q, t.checkState op, t.checkAccess op q (t.masterOf q.port q.ring)] == .ok

/-- Checks 2 to 6 of R106 pass without a signature. -/
def Entered (op : HostOp) (p : Packet) (s : State) : Bool :=
  Checked op p s && (fetched p s).checkSigs op (asOp op p) (s.masterOf p.port p.ring) == .free

/-- Every check of R106 passes without a signature: the command is accepted. -/
def Admitted (op : HostOp) (p : Packet) (s : State) : Bool :=
  Entered op p s && (fetched p s).lateChecks op (asOp op p) (s.masterOf p.port p.ring) == .ok

/-- The state after the last signature of a signed command: the change counter has advanced, other holds have ended (R101, R565). -/
def signedState (op : HostOp) (p : Packet) (signers : List Nat) (s : State) : State := (fetched p s).release op (asOp op p) signers

/-- Checks 2 to 5 of R106 pass for a signed command, and 7 to 11 after its last signature. -/
def Signable (op : HostOp) (p : Packet) (s : State) : Prop :=
  Checked op p s = true ∧ ∀ signers,
    (signedState op p signers s).lateChecks op (asOp op p) (s.masterOf p.port p.ring) = .ok

/-- What check 6 of R106 makes of a signed command: `go` where every required credential has signed, a hold or the completion of
one where one of two has, a failing record where a signature is bad or missing (R102 to R104). -/
def signedBy (op : HostOp) (p : Packet) (s : State) (go : List Nat → State) : State :=
  let q := asOp op p
  let t := fetched p s
  let slot := t.masterOf p.port p.ring
  match t.checkSigs op q slot with
  | .free => t.takeIn op q slot
  | .full signers => go signers
  | .half cred => t.holdOrComplete op q slot cred
  | .bad (.fail st d) => t.reject q st d
  | .bad _ => t

/-- The end of a command's effect: its final record, or nothing yet where it goes on. -/
def ended (id : Nat) (f : State × Fin) : State := match f.2 with
  | .running => f.1
  | .done st d r => f.1.endCmd id st d r

/-- The entry of a held command turned to running; one with a tick of its own takes effect in the present one (R65, R66). -/
def underway (c : Cmd) (id : Nat) (u : State) : State := u.modCmd id (fun d => { d with
  phase := .running, begun := true, effect := if c.pkt.effTick = 0 then d.effect else some u.tickNow })

/-- The entry of a command at its acceptance. -/
def entryOf (op : HostOp) (p : Packet) (s : State) (due : Nat) : Cmd := {
  id := s.freshCmd, pkt := asOp op p, master := s.masterOf p.port p.ring, phase := .timed, since := s.clock.now, due := due
  reserves := op.reserves (asOp op p) s }

/-- A state with one more entry in the list of commands. -/
def withEntry (s : State) (c : Cmd) : State :=
  { s with host := { s.host with cmds := s.host.cmds ++ [c], nextCmd := s.freshCmd + 1 } }

/-- The state in which the effect of a command that is executed at its acceptance begins: its entry is running (R66, R110). -/
def begun (op : HostOp) (p : Packet) (s : State) : State :=
  withEntry s { entryOf op p s s.clock.now with phase := .running, begun := true }

/-- The host sees a final record of the packet as the last one, with this status, detail, tick and result: the bytes of the record are the
last that are written to its memory, and the result stands there before it, with nothing but records after it (R91, R97, R109). -/
def Posted (t : State) (p : Packet) (opcode status detail tick : Nat) (result : Bytes) : Prop :=
  (∃ c, t.host.completions.getLast? = some c ∧ c.port = p.port ∧ c.cq = p.ring ∧ c.tag = p.tag ∧ c.seq = p.seq ∧ c.opcode = opcode
    ∧ c.status = status ∧ c.detail = detail ∧ c.execTick = tick ∧ c.final = true ∧ c.orphan = false
    ∧ c.resultLen = result.length
    ∧ t.host.results.getLast? = some { port := p.port, addr := c.addr, bytes := c.bytes })
  ∧ (bit p.flags 2 = true → result ≠ [] → ∃ l m,
      t.host.results = l ++ { port := p.port, addr := p.resultDesc.1, bytes := result.take p.resultDesc.2 } :: m
      ∧ ∀ w ∈ m, w.bytes.length = 32)

/-- A command that only reads: its result is posted with ST_OK at the present tick, no entry is left, and nothing else changes but the count
of its dispatch. -/
def Answers (s t : State) (p : Packet) (opcode : Nat) (result : Bytes) : Prop :=
  Posted t p opcode 0 0 s.tickNow result ∧ t.host.cmds = s.host.cmds ∧ t = Done s { fetched p s with host := t.host }

/-- The opcode and the packet of a host command row; none for every other row. -/
def hostRow (i : Instr) : Option (HostOp × Packet) := match i with
  | .identify p => some (opIdentify, p)
  | .floorplanGet p => some (opFloorplanGet, p)
  | .stateGet p => some (opStateGet, p)
  | .deviceReset p => some (opDeviceReset, p)
  | .cmdCancel p => some (opCmdCancel, p)
  | .nop p => some (opNop, p)
  | .tickConfig p => some (opTickConfig, p)
  | .tickStart p => some (opTickStart, p)
  | .tickStatus p => some (opTickStatus, p)
  | .tickRunaheadGet p => some (opTickRunaheadGet, p)
  | .discoverStart p => some (opDiscoverStart, p)
  | .discoverStatus p => some (opDiscoverStatus, p)
  | .topologyGet p => some (opTopologyGet, p)
  | .rackAbsorb p => some (opRackAbsorb, p)
  | .linkRetrain p => some (opLinkRetrain, p)
  | .shelfAssign p => some (opShelfAssign, p)
  | .routeSolve p => some (opRouteSolve, p)
  | .routeStage p => some (opRouteStage, p)
  | .routeCommit p => some (opRouteCommit, p)
  | .routePin p => some (opRoutePin, p)
  | .routeUnpin p => some (opRouteUnpin, p)
  | .routeStatus p => some (opRouteStatus, p)
  | .failoverPrepare p => some (opFailoverPrepare, p)
  | .sliceCreate p => some (opSliceCreate, p)
  | .sliceModify p => some (opSliceModify, p)
  | .sliceDestroy p => some (opSliceDestroy, p)
  | .sliceGet p => some (opSliceGet, p)
  | .accessSet p => some (opAccessSet, p)
  | .accessGet p => some (opAccessGet, p)
  | .sparePromote p => some (opSparePromote, p)
  | .groupCreate p => some (opGroupCreate, p)
  | .groupDestroy p => some (opGroupDestroy, p)
  | .groupStatus p => some (opGroupStatus, p)
  | .planCreate p => some (opPlanCreate, p)
  | .planDestroy p => some (opPlanDestroy, p)
  | .planStatus p => some (opPlanStatus, p)
  | .tableCreate p => some (opTableCreate, p)
  | .tableDestroy p => some (opTableDestroy, p)
  | .tableLoad p => some (opTableLoad, p)
  | .tableRead p => some (opTableRead, p)
  | .tableConfig p => some (opTableConfig, p)
  | .tableStatus p => some (opTableStatus, p)
  | .tableSnapshot p => some (opTableSnapshot, p)
  | .storeCarve p => some (opStoreCarve, p)
  | .storeMode p => some (opStoreMode, p)
  | .generationOpen p => some (opGenerationOpen, p)
  | .generationStatus p => some (opGenerationStatus, p)
  | .restoreStart p => some (opRestoreStart, p)
  | .generationDrop p => some (opGenerationDrop, p)
  | .oppointSet p => some (opOppointSet, p)
  | .powerStatus p => some (opPowerStatus, p)
  | .shelfBudgetSet p => some (opShelfBudgetSet, p)
  | .unitDisable p => some (opUnitDisable, p)
  | .unitEnable p => some (opUnitEnable, p)
  | .currentDeclare p => some (opCurrentDeclare, p)
  | .mtrParamSet p => some (opMtrParamSet, p)
  | .mtrBatchGet p => some (opMtrBatchGet, p)
  | .mtrJobEnergyGet p => some (opMtrJobEnergyGet, p)
  | .mtrAuditGet p => some (opMtrAuditGet, p)
  | .mtrIdentityGet p => some (opMtrIdentityGet, p)
  | .attestGet p => some (opAttestGet, p)
  | .enrol p => some (opEnrol, p)
  | .keyPolicySet p => some (opKeyPolicySet, p)
  | .fwPolicySet p => some (opFwPolicySet, p)
  | .fwStage p => some (opFwStage, p)
  | .fwActivate p => some (opFwActivate, p)
  | .debugChallenge p => some (opDebugChallenge, p)
  | .debugUnlock p => some (opDebugUnlock, p)
  | .seclogClear p => some (opSeclogClear, p)
  | .keyRotate p => some (opKeyRotate, p)
  | .cosignStateGet p => some (opCosignStateGet, p)
  | .cosignWithdraw p => some (opCosignWithdraw, p)
  | .eventViewGet p => some (opEventViewGet, p)
  | .eventClear p => some (opEventClear, p)
  | .severitySet p => some (opSeveritySet, p)
  | .unfence p => some (opUnfence, p)
  | .faultRelease p => some (opFaultRelease, p)
  | .faultSummaryGet p => some (opFaultSummaryGet, p)
  | .roleAssign p => some (opRoleAssign, p)
  | .twinStatus p => some (opTwinStatus, p)
  | .peerListSet p => some (opPeerListSet, p)
  | .peerStatus p => some (opPeerStatus, p)
  | .takeover p => some (opTakeover, p)
  | .streamRead p => some (opStreamRead, p)
  | .countersGet p => some (opCountersGet, p)
  | .agentCountersRead p => some (opAgentCountersRead, p)
  | .loopback p => some (opLoopback, p)
  | _ => none

/-- `n` steps, each answering a next state, lead from a state to another. -/
def Reaches : Nat → State → State → Prop
  | 0, s, t => s = t
  | n + 1, s, t => ∃ u, step s = .next u ∧ Reaches n u t

/-- The bookings of a list of requests (step, earliest tick) on an account with an allowance `b` per tick: (start tick, step). -/
def bookings (b : Nat) : Account → List (Nat × Nat) → List (Nat × Nat)
  | _, [] => []
  | a, e :: l => ((a.book b e.1 e.2).1, e.1) :: bookings b (a.book b e.1 e.2).2 l

/-- Steps that bookings start in the ticks that `p` names. -/
def startedIn (p : Nat → Bool) (l : List (Nat × Nat)) : Nat := ((l.filter (fun e => p e.1)).map Prod.snd).sum

/-- A command whose every effect stays at the agent: no register, buffer or counter of the Geneel changes, but for the model's own count
of free values drawn (log entry 5). -/
def AtAgentOnly (i : Instr) (s : State) : Prop := ∃ a n, exec i s = .next (Done s { s with agent := a, drawn := n })

/-- A port whose ring takes the final record of a packet: the device runs rings, PERST is not asserted, the port is good (R110, R112). -/
def CanPost (s : State) (p : Packet) : Bool :=
  s.up.dev != .halt && s.up.dev != .off && !(s.hostPort p.port).perst && !(s.unitStatus 4 p.port).lost
    && (s.ring p.port p.ring).takesRecords

/-- A packet ends with this final record, and nothing else changes: no entry is made (R106, R108). -/
def Refused (s t : State) (p : Packet) (opcode status detail : Nat) : Prop :=
  Posted t p opcode status detail 0 [] ∧ t.host.cmds = s.host.cmds ∧ t = { s with host := t.host }

/-! ### Messages at the agent -/

/-- The agent takes a request: it is out of RESET, has not answered it before, and version, state, owner, token and encryption are as
R161, R166, R168 to R170, R192 and R201 ask; CLAIM is a mutating message whose owner and token R172 judges. -/
def taken (m : Msg) (mutating : Bool) (op : Nat) (s : State) : Bool :=
  s.agent.core.state != .reset && (s.agent.core.replies.find? (fun e => e.1 == m.src && e.2.1 == m.msgid)).isNone
    && !(decide (m.ver < 3) && isGeneel m.src) && s.agent.core.state.accepts s.agent.core.version m.type op
    && (!mutating || (s.fromOwner m.src && !decide (m.token < s.agent.core.highToken)))
    && !((mutating || (m.type == 1 && op == 1)) && s.hasLinkKey .agent 0 && !m.enc && m.type != 0x11)

/-- The state in which the effect of a request that the agent takes begins: a higher token is taken over (R168, R169). -/
def takenBy (m : Msg) (mutating : Bool) (s : State) : State := if mutating then (s.raiseToken m.token).1 else s

/-- An answer with the number of actions that a higher token cancelled in its detail (R169). -/
def withCancelled (m : Msg) (mutating : Bool) (s : State) (a : AgentAnswer) : AgentAnswer :=
  let n := if mutating then (s.raiseToken m.token).2 else 0
  if mutating && decide (s.agent.core.highToken < m.token) then
    { a with detail := (if a.status = 0 then 0 else a.detail / 65536 * 65536) + n % 65536 }
  else a

/-- The end of a request: one that had its effect is counted, and its answer is sent (R164, R169, R197). -/
def answered (m : Msg) (mutating : Bool) (s u : State) (a : AgentAnswer) : State :=
  (if a.good then u.agentCount 0 else u).agentReply m (withCancelled m mutating s a)

end Sys2Proof
end

