-- ==== Sys2Proof/WellFormed.lean ====
section
/-! DEFINITION. Well-formed commands: every number within the width or range that the spec gives its field. A command that is not
well-formed stands for nothing that can arrive; the meanings do not depend on the check. -/

namespace Sys2Proof

open Sys2Proof.Machine

/-- A port of one of the two nodes: 40 at the Geneel (R121), a number of 8 bits at the agent (R174). -/
def PortRef.wf (r : PortRef) : Bool := match r.node with
  | .geneel => decide (r.port < 40)
  | .agent => decide (r.port < 256)

/-- A flit: the widths of R140. -/
def Flit.wf (f : Flit) : Bool :=
  decide (f.lseq < 4096) && decide (f.lack < 4096) && decide (f.vc < 8) && decide (f.epb < 2) && decide (f.kgen < 2) && decide (f.dst < 65536)
    && decide (f.src < 65536) && decide (f.stream < 65536) && decide (f.job < 4096) && decide (f.crvc < 8) && decide (f.crcnt < 32)
    && decide (f.sseq < 1048576) && decide (f.payload.length ≤ 240) && decide (f.plen ≤ 224)
    && (f.tag.length == 0 || f.tag.length == 16)

/-- What the decoder found in a flit's codewords: a flit has bits of one or two codewords of 544 symbols (R133, R134). -/
def Codewords.wf (c : Codewords) : Bool := decide (c.errors.length ≤ 2) && c.errors.all (fun e => decide (e ≤ 544))

/-- A retry request or an idle flit: the widths of R140. -/
def BareFlit.wf (f : BareFlit) : Bool := decide (f.lack < 4096) && f.cw.wf

/-- A moment at a port: a timestamp of 64 bits (R144). -/
def SendMoment.wf (m : SendMoment) : Bool := m.port.wf && decide (m.ps < 2 ^ 64)

/-- A line of memory: the widths of the IDs that name what it holds (R34, R425, R454). -/
def PoisonLine.wf (p : PoisonLine) : Bool := match p with
  | .other => true
  | .record table row => decide (table < 65536) && decide (row < 2 ^ 64)
  | .header table slot bucket => decide (table < 65536) && decide (slot < 32) && decide (bucket < 2 ^ 27)
  | .shard job gen owner line => decide (job < 4096) && decide (gen < 2 ^ 32) && decide (owner < 2 ^ 32) && decide (line < 2 ^ 32)

/-- A moment: below 16 microseconds after the last local instant. -/
def StartMoment.wf (m : StartMoment) : Bool := decide (m.us < 16)

/-- What training has found: eight lanes (R123), four classes (R130). -/
def LanesFound.wf (l : LanesFound) : Bool := decide (l.lanes < 256) && decide (l.cls < 4)

/-- A port with a sign that it must retrain. -/
def RetrainSign.wf (r : RetrainSign) : Bool := r.port.wf

/-- A member's unit counts: 16 bits each. -/
def MemberUnits.wf (m : MemberUnits) : Bool := decide (m.units < 65536) && decide (m.f0 < 65536) && decide (m.f1 < 65536)

/-- A message: the widths of R160. -/
def Msg.wf (m : Msg) : Bool :=
  decide (m.src < 65536) && decide (m.dst < 65536) && decide (m.type < 256) && decide (m.ver < 256) && decide (m.flags < 256)
    && decide (m.msgid < 2 ^ 32) && decide (m.token < 2 ^ 64) && decide (m.stream < 65536)
    && m.port.all (fun p => decide (p < 256))

/-- A packet as a ring holds it: the widths of R95, as many parameter bytes as L says and as many signature blocks of 1,288 bytes as NSIG
says (R99). -/
def Packet.wf (p : Packet) : Bool :=
  decide (p.port < 2) && decide (p.ring < 64) && decide (p.opcode < 65536) && decide (p.flags < 65536) && decide (p.tag < 2 ^ 32)
    && decide (p.seq < 2 ^ 32) && decide (p.len ≤ 4096) && decide (p.effTick < 2 ^ 48) && decide (p.job < 65536) && p.digest.length == 32
    && p.rsvd.length == 8 && p.params.length == p.len && p.sigs.length == p.flags / 8 % 4 && p.sigs.all (fun b => b.length == 1288)

/-- Every operand of a command is within its range. -/
def Instr.wf (i : Instr) : Bool := match i with
  | .farEndSignalDetect r => r.wf
  | .linkTrainingStart r good _ polarity => r.wf && good.wf && decide (polarity < 256)
  | .trainingStepTimeout r => r.wf
  | .trainingHandshakeDone r _ => r.wf
  | .helloRepeat r => r.wf
  | .retrainTrigger r => r.wf
  | .retrainComplete r => r.wf
  | .retrainTimeout r => r.wf
  | .dataFlitReceive r f cw => r.wf && f.wf && cw.wf
  | .retryRequestReceive r lseq f => r.wf && decide (lseq < 4096) && f.wf
  | .idleFlitReceive r f => r.wf && f.wf
  | .retryHoldoffExpire r => r.wf
  | .lackStallReplay r => r.wf
  | .outputFlitSelect now => now.wf
  | .linkCreditReceive r f cw => r.wf && f.wf && cw.wf
  | .linkHelloReceive r f cw => r.wf && f.wf && cw.wf
  | .tsReqReceive r f cw _ _ => r.wf && f.wf && cw.wf
  | .tsRspReceive r f cw _ => r.wf && f.wf && cw.wf
  | .tsFollowReceive r f cw => r.wf && f.wf && cw.wf
  | .tsExchangeDiscard r k => r.wf && decide (k < 64)
  | .delayMeasurementDone r => r.wf
  | .linkSessionFlitReceive r f cw => r.wf && f.wf && cw.wf
  | .sessionCountNear r => r.wf
  | .trainingAttemptFailed r => r.wf
  | .agentReset => true
  | .agentTickReceive m port _ _ => m.wf && decide (port < 256)
  | .agentFlywheelTick => true
  | .agentTickLoss => true
  | .agentProbeIdentify m => m.wf
  | .agentProbeClaim m => m.wf
  | .agentProbeCert m => m.wf
  | .agentProbeSession m => m.wf
  | .switchFlitForward inPort => decide (inPort < 256)
  | .agentLinkstateRequest m => m.wf
  | .agentTableWrite m => m.wf
  | .agentCommitActivate m => m.wf
  | .agentCommitRetire m => m.wf
  | .agentCommitFailover m => m.wf
  | .agentCommitClearStandby m => m.wf
  | .agentCommitTargetSwap m => m.wf
  | .agentCountersRequest m => m.wf
  | .agentTreeSet m => m.wf
  | .agentCards m => m.wf
  | .agentKeyInstall m => m.wf
  | .agentKeySwitch m => m.wf
  | .agentKeyErase m => m.wf
  | .agentCurrentGrant m => m.wf
  | .agentRelease m => m.wf
  | .agentLinkSession m => m.wf
  | .agentFaultReportAck m => m.wf
  | .faultReportRepeat => true
  | .segmentReassemblyExpire => true
  | .deferredActionComplete => true
  | .agentGrantCold => true
  | .tableMemoryError unit => decide (unit < 256)
  | .loadStartingActionRequest kind action job => decide (kind < 6) && decide (action < 2 ^ 32) && decide (job < 4096)
  | .discoverStart p => p.wf
  | .discoverStatus p => p.wf
  | .topologyGet p => p.wf
  | .rackAbsorb p => p.wf
  | .linkRetrain p => p.wf
  | .shelfAssign p => p.wf
  | .routeSolve p => p.wf
  | .routeStage p => p.wf
  | .routeCommit p => p.wf
  | .routePin p => p.wf
  | .routeUnpin p => p.wf
  | .routeStatus p => p.wf
  | .failoverPrepare p => p.wf
  | .identReceive m => m.wf
  | .linkstateReceive m => m.wf
  | .discoveryLevelStep => true
  | .topologyDeltaReceive src d => decide (src < 65536) && decide (d.bolt < 32)
  | .moveReleaseRequestReceive src _ => decide (src < 65536)
  | .moveReleaseConfirmReceive src _ => decide (src < 65536)
  | .solveReqReceive m => m.wf
  | .queuedSolveStart => true
  | .solveCallReceive m => m.wf
  | .solveVectorReceive m => m.wf
  | .solveGoReceive m => m.wf
  | .solveBatchComplete => true
  | .shareDataReceive m => m.wf
  | .shareDataTimeout share => decide (share < 64)
  | .shareMoveReceive m => m.wf
  | .solveDoneReceive m => m.wf
  | .solveAbortReceive m => m.wf
  | .epochStageReceive m => m.wf
  | .epochStagedReceive m => m.wf
  | .epochCommitReceive m => m.wf
  | .epochDoneReceive m => m.wf
  | .groupCreate p => p.wf
  | .groupDestroy p => p.wf
  | .groupStatus p => p.wf
  | .twillUpRecordReceive port f => decide (port < 40) && f.wf
  | .twillTallyReceive port f => decide (port < 40) && f.wf
  | .twillCommitDecide group step _ => decide (group < 65536) && decide (step < 2 ^ 32)
  | .twillStepDeadline group step => decide (group < 65536) && decide (step < 2 ^ 32)
  | .twinTreeReportReceive group step => decide (group < 65536) && decide (step < 2 ^ 32)
  | .switchTwillRecord port f => decide (port < 256) && f.wf
  | .memberResultReceive f own => f.wf && own.wf
  | .agentVerdict m => m.wf
  | .planCreate p => p.wf
  | .planDestroy p => p.wf
  | .planStatus p => p.wf
  | .countFlitReceive f => f.wf
  | .countsComplete plan => decide (plan < 65536)
  | .countDeadline plan => decide (plan < 65536)
  | .planningPass plan => decide (plan < 65536)
  | .exchangeCheckStart plan => decide (plan < 65536)
  | .memberReportTimeout plan rank => decide (plan < 65536) && decide (rank < 65536)
  | .reportFlitReceive f => f.wf
  | .xchgReadyReceive m => m.wf
  | .xchgRepairReceive m => m.wf
  | .agentPlanAreaWrite f item countStream rank => f.wf && decide (item < 65536) && decide (countStream < 65536) && decide (rank < 65536)
  | .agentExchangeData port f item countStream rank => decide (port < 256) && f.wf && decide (item < 65536) && decide (countStream < 65536) && decide (rank < 65536)
  | .storeCarve p => p.wf
  | .storeMode p => p.wf
  | .generationOpen p => p.wf
  | .generationStatus p => p.wf
  | .restoreStart p => p.wf
  | .generationDrop p => p.wf
  | .checkpointDataReceive _ f => f.wf
  | .checkpointEndReceive _ f => f.wf
  | .shardDigestComplete job gen owner => decide (job < 4096) && decide (gen < 2 ^ 32) && decide (owner < 65536)
  | .gapResendTimer job gen owner => decide (job < 4096) && decide (gen < 2 ^ 32) && decide (owner < 65536)
  | .gapReceive f => f.wf
  | .pullReceive _ f => f.wf
  | .parReceive f => f.wf
  | .packReceive f => f.wf
  | .rdataReceive _ f => f.wf
  | .generationCommit job gen => decide (job < 4096) && decide (gen < 2 ^ 32)
  | .generationDeadline job gen => decide (job < 4096) && decide (gen < 2 ^ 32)
  | .clearingComplete job gen => decide (job < 4096) && decide (gen < 2 ^ 32)
  | .spillAfterCommit job gen => decide (job < 4096) && decide (gen < 2 ^ 32)
  | .genCtlReceive m => m.wf
  | .genReportReceive m => m.wf
  | .tableCreate p => p.wf
  | .tableDestroy p => p.wf
  | .tableLoad p => p.wf
  | .tableRead p => p.wf
  | .tableConfig p => p.wf
  | .tableStatus p => p.wf
  | .tableSnapshot p => p.wf
  | .tableRequestReceive f => f.wf
  | .strictLookupRelease => true
  | .coalescingStallResume slot => decide (slot < 65536)
  | .tableShardReceive m => m.wf
  | .tableShardDoneReceive m => m.wf
  | .tableShardTimeout _ => true
  | .oppointSet p => p.wf
  | .powerStatus p => p.wf
  | .shelfBudgetSet p => p.wf
  | .unitDisable p => p.wf
  | .unitEnable p => p.wf
  | .currentDeclare p => p.wf
  | .oppointSwitch => true
  | .droopFlagSet => true
  | .droopFlagClear => true
  | .droopLowering => true
  | .thermalSample _ => true
  | .thermalLowering => true
  | .thermalRecoveryRaise => true
  | .thermComparatorTrip sensor => decide (sensor < 48)
  | .tdpLimitLowering average logic => decide (average < 65536) && decide (logic < 65536)
  | .tdpRecoveryRaise average logic => decide (average < 65536) && decide (logic < 65536)
  | .ageingMeasure _ _ => true
  | .opsecWrite => true
  | .unitDrainComplete kind idx => decide (kind < 17) && decide (idx < 144)
  | .unitDrainTimeout kind idx => decide (kind < 17) && decide (idx < 144)
  | .currentStepSample addr kind _ _ _ _ => decide (addr < 65536) && decide (kind < 6)
  | .grantWarmRenew addr kind action => decide (addr < 65536) && decide (kind < 6) && decide (action < 2 ^ 32)
  | .sliceCreate p => p.wf
  | .sliceModify p => p.wf
  | .sliceDestroy p => p.wf
  | .sliceGet p => p.wf
  | .accessSet p => p.wf
  | .accessGet p => p.wf
  | .sparePromote p => p.wf
  | .sliceChangeStagingStart => true
  | .sliceChangeTimeout job => decide (job < 4096)
  | .streamRelease id => decide (id < 65536)
  | .sliceDrainEnd job => decide (job < 4096)
  | .attestGet p => p.wf
  | .enrol p => p.wf
  | .keyPolicySet p => p.wf
  | .fwPolicySet p => p.wf
  | .fwStage p => p.wf
  | .fwActivate p => p.wf
  | .debugChallenge p => p.wf
  | .debugUnlock p => p.wf
  | .seclogClear p => p.wf
  | .keyRotate p => p.wf
  | .cosignStateGet p => p.wf
  | .cosignWithdraw p => p.wf
  | .peerSessionOffer m => m.wf
  | .peerSessionAnswer m => m.wf
  | .peerSessionKey m => m.wf
  | .peerSessionCiphertext m => m.wf
  | .keyXferReceive m => m.wf
  | .keyStateReceive m => m.wf
  | .keyOrderReceive m => m.wf
  | .keyLifetimeExpire job kind => decide (job < 4096) && decide (kind < 2)
  | .reattestInterval => true
  | .debugNonceExpire => true
  | .keySweepPage _ _ _ => true
  | .mtrParamSet p => p.wf
  | .mtrBatchGet p => p.wf
  | .mtrJobEnergyGet p => p.wf
  | .mtrAuditGet p => p.wf
  | .mtrIdentityGet p => p.wf
  | .meterBusCycle => true
  | .shortReportReceive shelf _ => decide (shelf < 96)
  | .extendedReportReceive _ => true
  | .meterSilent shelf => decide (shelf < 96)
  | .mtrStrobeReceive us => decide (us < 2 ^ 32)
  | .windowSelfClose => true
  | .windowSeal => true
  | .mboxBoundary => true
  | .mboxCounts => true
  | .mboxParam => true
  | .mboxQuery => true
  | .mboxSealNotice => true
  | .mtrQuerySegmentAnswer => true
  | .mtrQueryTimeout => true
  | .buckramSelfFault => true
  | .eventViewGet p => p.wf
  | .eventClear p => p.wf
  | .severitySet p => p.wf
  | .unfence p => p.wf
  | .faultRelease p => p.wf
  | .faultSummaryGet p => p.wf
  | .faultDetect source code key job detail _ poison => decide (source < 65536) && decide (code < 65536) && decide (key < 2 ^ 32) && decide (job < 4096) && decide (detail.length ≤ 16) && poison.wf
  | .unitWatchdogExpire kind idx => decide (kind < 17) && decide (idx < 144)
  | .fencingComplete kind idx => decide (kind < 17) && decide (idx < 144)
  | .faultQuietEnd => true
  | .eventBlockSpill failures => decide (failures < 4)
  | .eventSpillRetry failures => decide (failures < 4)
  | .pwrGoodRise straps => decide (straps < 32)
  | .pwrGoodFall => true
  | .resetNAssert _ => true
  | .resetNRelease us => decide (us < 2 ^ 32)
  | .perstAssert port => decide (port < 2)
  | .perstRelease port => decide (port < 2)
  | .bootComplete _ _ copies => decide (copies < 3)
  | .stage1Complete => true
  | .stage2Complete => true
  | .stage3Complete => true
  | .stage4Complete => true
  | .stage5Complete => true
  | .railBookingStart _ => true
  | .selfTestComplete kind idx _ _ _ => decide (kind < 17) && decide (idx < 144)
  | .roleAssign p => p.wf
  | .twinStatus p => p.wf
  | .peerListSet p => p.wf
  | .peerStatus p => p.wf
  | .takeover p => p.wf
  | .deposition => true
  | .mirrorDeltaReceive m _ => m.wf
  | .mirrorAckReceive m => m.wf
  | .mirrorAckResend seq => decide (seq < 2 ^ 32)
  | .mirrorSingleTimeout => true
  | .heartbeatReceive m => m.wf
  | .haltNoticeReceive m => m.wf
  | .resyncReqReceive m => m.wf
  | .resyncDataReceive m _ => m.wf
  | .automaticTakeover => true
  | .peerHelloReceive m => m.wf
  | .peerAbsent id => decide (id < 64)
  | .tickConfig p => p.wf
  | .tickStart p => p.wf
  | .tickStatus p => p.wf
  | .tickRunaheadGet p => p.wf
  | .mastershipReturn id => decide (id < 64)
  | .tickInEdge _ => true
  | .tickInHoldover => true
  | .boundaryStrobe => true
  | .jobNoticePublish => true
  | .peerHelloSend => true
  | .configRequest port => decide (port < 2)
  | .sqDoorbellWrite port ring count => decide (port < 2) && decide (ring < 64) && decide (count < 2 ^ 32)
  | .cqDoorbellWrite port ring count => decide (port < 2) && decide (ring < 64) && decide (count < 2 ^ 32)
  | .ringEnable port ring ctrl => decide (port < 2) && decide (ring < 64) && decide (ctrl < 2 ^ 64)
  | .ringDisable port ring ctrl => decide (port < 2) && decide (ring < 64) && decide (ctrl < 2 ^ 64)
  | .ringStopComplete port ring => decide (port < 2) && decide (ring < 64)
  | .evtCurIndexWrite port index => decide (port < 2) && decide (index < 2 ^ 64)
  | .evtCurAdvWrite port => decide (port < 2)
  | .eventSnapshotReady port => decide (port < 2)
  | .intCauseClear port causes => decide (port < 2) && decide (causes < 64)
  | .intMaskWrite port mask => decide (port < 2) && decide (mask < 64)
  | .rwQuadwordHalfWrite port offset value => decide (port < 2) && decide (offset < 2 ^ 20) && decide (value < 2 ^ 64)
  | .quadwordLowReadLatch port offset size => decide (port < 2) && decide (offset < 2 ^ 20) && (size == 4 || size == 8)
  | .registerWrite port offset size value => decide (port < 2) && decide (offset < 2 ^ 20) && (size == 4 || size == 8) && decide (value < 2 ^ 64)
  | .coalesceTimerExpire port ring => decide (port < 2) && decide (ring < 64)
  | .identify p => p.wf
  | .floorplanGet p => p.wf
  | .stateGet p => p.wf
  | .deviceReset p => p.wf
  | .cmdCancel p => p.wf
  | .nop p => p.wf
  | .streamRead p => p.wf
  | .countersGet p => p.wf
  | .agentCountersRead p => p.wf
  | .loopback p => p.wf
  | .packetFetch port ring packet _ => decide (port < 2) && decide (ring < 64) && packet.wf
  | .cosignHoldExpire digest => digest.length == 32
  | .queuedCommandRelease _ => true
  | .queuedCommandTimeout _ => true
  | .orphanQueueDrain port => decide (port < 2)
  | .topologyRecordChange => true
  | .faultReportReceive m => m.wf
  | .agentReplyReceive m => m.wf
  | .agentReplyResend msgid => decide (msgid < 2 ^ 32)
  | .agentReplyTimeout msgid => decide (msgid < 2 ^ 32)
  | .localInstant => true
  | .tickMarker m => m.all Msg.wf
  | .markerOneEmit at_ => at_.wf
  | .markerMissed => true
  | .backupMarkerEmit => true

end Sys2Proof
end

