-- ==== Sys2Proof/Certificates/Slice0/Obligations.lean ====
section
/-! DEFINITION. What the provers are asked to prove of the block. -/

open Sys2Proof Sys2Proof.Machine

/-- For every command c, state s and queue rest: a step of s with c in front of rest is exec of c on s with the queue rest. (00_scope.md, R114) -/
def Obligations.StepRunsTheFront : Prop :=
  ∀ (c : Instr) (rest : List Instr) (s : State), step { s with pending := c :: rest } = exec c { s with pending := rest }

/-- A step of a state whose queue is empty answers that state: what the clock brings about are commands of rows of their own. DESIGN CHOICE of log entry 6. (00_scope.md) -/
def Obligations.EmptyQueueIdles : Prop :=
  ∀ s : State, s.pending = [] → step s = .next s

/-- State.reset has an empty queue, the device state OFF with nothing placed, no tick loaded, and FAULT_N and THERM_TRIP_N as the device state asks. (R623, R694) -/
def Obligations.ResetIsSafe : Prop :=
  PinsFollow State.reset ∧ State.reset.pending = [] ∧ State.reset.up.dev = .off ∧ State.reset.up.placed = false ∧ State.reset.clock.loaded = false

/-- From every state in which FAULT_N is low exactly in HALT or on a failed clock check, and THERM_TRIP_N exactly while the thermal trip is latched, every step leads to such a state, whatever command runs. (R610, R624, R502, R694) -/
def Obligations.AlarmOutputsFollow : Prop :=
  ∀ s t : State, PinsFollow s → step s = .next t → PinsFollow t

/-- For every command and every state, exec answers a next state, the queue is not touched, and the alarm outputs follow the device. (R106, R694) -/
def Obligations.EveryCommandIsExecuted : Prop :=
  ∀ (i : Instr) (s : State), ∃ t, exec i s = .next t ∧ t.pending = s.pending ∧ PinsFollow t

/-- From every state, with any commands waiting, every number of steps runs without a fault or a refusal. (R106, 00_scope.md) -/
def Obligations.RunsNeverStop : Prop :=
  ∀ (n : Nat) (s : State), RunsOn n s

/-- From every state, after as many steps as its queue is long, the queue is empty. (R114) -/
def Obligations.QueueEmpties : Prop :=
  ∀ s : State, ∃ t, Reaches s.pending.length s t ∧ t.pending = []

/-- For every host command row: its opcode names that row, exec answers the state after the command; where the ring may not be fetched from, as when it does not run, nothing happens; a packet behind an ordered one is kept; the dispatch is counted; after checks 2 to 5 the signatures decide, and a packet that needs none, or has all, goes on to checks 7 to 11. (R98, R101, R102, R106) -/
def Obligations.HostRowsAreCommands : Prop :=
  ∀ (i : Instr) (op : HostOp) (p : Packet), hostRow i = some (op, p) →
    hostOp op.opcode = some op ∧ ∀ s : State,
      exec i s = .next (Done s (s.command op p))
      ∧ (s.mayFetch p.port p.ring = false → s.command op p = s)
      ∧ (s.ringRuns (asOp op p) = false → s.mayFetch p.port p.ring = false)
      ∧ (s.mayFetch p.port p.ring = true → s.waitsBehind (asOp op p) = true →
          s.command op p = (fetched p s).keepOrdered (asOp op p))
      ∧ (Entered op p s = true → s.command op p = (fetched p s).takeIn op (asOp op p) (s.masterOf p.port p.ring))
      ∧ (Checked op p s = true → s.command op p = signedBy op p s (fun g =>
          (signedState op p g s).takeIn op (asOp op p) (s.masterOf p.port p.ring)))

/-- For every host command row whose checks pass, with a non-zero effective tick: what its messages to agents need begins, an entry waits for the instant of the tick, and ST_PENDING is posted with the tick as its detail; the effect begins no earlier. (R66, R69, R110, R111) -/
def Obligations.CommandsWaitForTheirTick : Prop :=
  ∀ (i : Instr) (op : HostOp) (p : Packet) (s : State), hostRow i = some (op, p) → Admitted op p s = true → p.effTick ≠ 0 →
    exec i s = .next (Done s ((op.start (asOp op p) s.freshCmd
      (withEntry (fetched p s) (entryOf op p (fetched p s) (s.instantOf p.effTick)))).postPending s.freshCmd p.effTick))
    ∧ s.cmd s.freshCmd = none
    ∧ (withEntry (fetched p s) (entryOf op p (fetched p s) (s.instantOf p.effTick))).cmd s.freshCmd = some (entryOf op p (fetched p s) (s.instantOf p.effTick))
    ∧ (entryOf op p (fetched p s) (s.instantOf p.effTick)).phase = .timed ∧ (entryOf op p (fetched p s) (s.instantOf p.effTick)).begun = false

/-- A command ends with the status given, but with 0x13 and its noted delay or spread where the status is ST_OK and its effect was late or spread over more than one tick. Where its ring takes records: its end posts its final record with status, detail, tick of effect and result, its entry leaves, no other entry changes and nothing but the host interface changes (a command whose port lost its rings meanwhile, or that ends before its tick without an effect, is not this case); while completions are gated to the twin, the end of a command that has taken effect on mirrored state is kept and nothing is posted. (R65, R74, R108, R109, R110, R651) -/
def Obligations.CommandsEndOnce : Prop :=
  (∀ (s : State) (id status detail : Nat) (result : Bytes) (c : Cmd), s.host.cmds.find? (fun d => d.id == id) = some c →
      c.twinPkt = none → CanPost s c.pkt = true → c.cut.contains c.pkt.port = false →
      (c.phase ≠ .timed ∨ tookEffect status = true) → status ≠ 1 →
      (s.gating && tookEffect status && mirroredOpcode c.pkt.opcode) = false →
      Posted (s.endCmd id status detail result) c.pkt c.pkt.opcode (c.endAs status detail).1 (c.endAs status detail).2 (if tookEffect status then c.effect.getD s.tickNow else 0) result
      ∧ (s.endCmd id status detail result).host.cmds = s.host.cmds.filter (fun d => d.id != id)
      ∧ s.endCmd id status detail result = { s with host := (s.endCmd id status detail result).host })
  ∧ (∀ (s : State) (id status detail : Nat) (result : Bytes) (c : Cmd), s.host.cmds.find? (fun d => d.id == id) = some c →
      (s.gating && tookEffect status && mirroredOpcode c.pkt.opcode) = true →
      ∃ e : HeldEnd, e.id = id ∧ e.status = (c.endAs status detail).1 ∧ e.detail = (c.endAs status detail).2 ∧ e.tick = c.effect.getD s.tickNow ∧ e.result = result
        ∧ s.endCmd id status detail result = { s with mail := { s.mail with heldEnds := s.mail.heldEnds ++ [e] } })

/-- Once the tick is loaded, for every opcode and packet that has passed checks 2 to 6: an effect inside the Geneel that does not leave one tick, and an effect that needs agents that does not leave three, end with ST_EPOCH_STALE whose detail is the earliest tick that would have been accepted; a tick more than 16,777,216 ahead ends with ST_BAD_PARAM; no entry is made and nothing else changes, so no late command is moved; in between, check 7 passes. (R67, R68) -/
def Obligations.EffectiveTicks : Prop :=
  ∀ (op : HostOp) (p : Packet) (slot : Nat) (s : State), s.clock.loaded = true → CanPost s p = true → p.effTick ≠ 0 →
    (op.eff = .ei → p.effTick < s.clock.tick + 1 → Refused s (s.takeIn op p slot) p p.opcode 0x40 (s.clock.tick + 1))
    ∧ (op.eff = .ea → p.effTick < s.clock.tick + 3 → Refused s (s.takeIn op p slot) p p.opcode 0x40 (s.clock.tick + 3))
    ∧ (s.clock.tick + 16777216 < p.effTick → ∃ d, Refused s (s.takeIn op p slot) p p.opcode 0x11 d)
    ∧ (op.eff = .ei → s.clock.tick + 1 ≤ p.effTick → p.effTick ≤ s.clock.tick + 16777216 → s.checkTick op p = .ok)
    ∧ (op.eff = .ea → s.clock.tick + 3 ≤ p.effTick → p.effTick ≤ s.clock.tick + 16777216 → s.checkTick op p = .ok)

/-- A ring that some JOB entry binds acts for such an entry, any other for the master of its port; a command of a ring whose master is a JOB master, with another job ID, ends with ST_DENIED reason 2, whether or not the class right is missing as well; with the right job, a command whose class bit is clear in the master's class rights ends with reason 1. (R107) -/
def Obligations.RightsOfTheRing : Prop :=
  (∀ (port ring : Nat) (s : State),
      ((∃ e ∈ s.access.masters, 72 ≤ e.1 ∧ e.2.cls = 5 ∧ e.2.port = port ∧ e.2.rings.getLsbD ring = true) →
        ∃ e ∈ s.access.masters, (72 ≤ e.1 ∧ e.2.cls = 5 ∧ e.2.port = port ∧ e.2.rings.getLsbD ring = true) ∧ s.masterOf port ring = e.1)
      ∧ ((¬ ∃ e ∈ s.access.masters, 72 ≤ e.1 ∧ e.2.cls = 5 ∧ e.2.port = port ∧ e.2.rings.getLsbD ring = true) → s.masterOf port ring = port))
  ∧ (∀ (i : Instr) (op : HostOp) (p : Packet) (s : State), hostRow i = some (op, p) → s.mayFetch p.port p.ring = true →
      s.waitsBehind (asOp op p) = false → (s.ring p.port p.ring).takesRecords = true →
      (fetched p s).checkHeader op (asOp op p) = .ok → (fetched p s).checkState op = .ok →
      (∀ j, s.masterJob (s.masterOf p.port p.ring) = some j → p.job ≠ j →
        ∃ t, exec i s = .next (Done s t) ∧ Refused (fetched p s) t (asOp op p) op.opcode 0x20 (2 + 256 * s.masterOf p.port p.ring))
      ∧ ((∀ j, s.masterJob (s.masterOf p.port p.ring) = some j → p.job = j) →
        (s.master (s.masterOf p.port p.ring)).classes.getLsbD (op.opcode / 256) = false →
        ∃ t, exec i s = .next (Done s t) ∧ Refused (fetched p s) t (asOp op p) op.opcode 0x20 (1 + 256 * s.masterOf p.port p.ring)))

/-- For every list of booking requests on an account that was reset in tick r with a full allowance b per tick: the steps started in the ticks up to T total at most b for each tick from r to T; no single tick starts more than b plus the largest step; and nothing starts before its earliest tick or before r. (R507) -/
def Obligations.BookingsKeepTheBudget : Prop :=
  ∀ (b r : Nat) (l : List (Nat × Nat)), 0 < b →
    (∀ T, startedIn (fun f => decide (f ≤ T)) (bookings b { frontier := r, left := b } l) ≤ b * (T + 1 - r))
    ∧ (∀ T M, (∀ e ∈ l, e.1 ≤ M) → startedIn (fun f => decide (f = T)) (bookings b { frontier := r, left := b } l) ≤ b + M)
    ∧ (bookings b { frontier := r, left := b } l).length = l.length
    ∧ (∀ x ∈ (bookings b { frontier := r, left := b } l).zip l, x.2.2 ≤ x.1.1 ∧ r ≤ x.1.1)

/-- Among requesters numbered below n, the pick is a requester, and no requester is nearer in the cycle from the position w mod n; a requester at the position itself wins; there is no pick only when nobody requests. (R76) -/
def Obligations.TieBreakIsTheFirstAfter : Prop :=
  ∀ (n w : Nat) (req : List Nat), 0 < n → (∀ i ∈ req, i < n) →
    (tieBreak n w req = none ↔ req = [])
    ∧ (∀ i, tieBreak n w req = some i → i ∈ req ∧ ∀ j ∈ req, (i + n - w % n) % n ≤ (j + n - w % n) % n)
    ∧ (w % n ∈ req → tieBreak n w req = some (w % n))

/-- For every message and state, each row of a message at the agent leads to a state that differs in the agent alone: no register, table, ring, counter or port of the Geneel changes, whether the agent takes the message, refuses it or answers a repeat. (R160, R166, R201) -/
def Obligations.AgentsKeepTheGeneel : Prop :=
  ∀ (m : Msg) (s : State),
    AtAgentOnly (.agentProbeIdentify m) s
    ∧ AtAgentOnly (.agentProbeClaim m) s
    ∧ AtAgentOnly (.agentProbeCert m) s
    ∧ AtAgentOnly (.agentProbeSession m) s
    ∧ AtAgentOnly (.agentLinkstateRequest m) s
    ∧ AtAgentOnly (.agentTableWrite m) s
    ∧ AtAgentOnly (.agentCommitActivate m) s
    ∧ AtAgentOnly (.agentCommitRetire m) s
    ∧ AtAgentOnly (.agentCommitFailover m) s
    ∧ AtAgentOnly (.agentCommitClearStandby m) s
    ∧ AtAgentOnly (.agentCommitTargetSwap m) s
    ∧ AtAgentOnly (.agentCountersRequest m) s
    ∧ AtAgentOnly (.agentTreeSet m) s
    ∧ AtAgentOnly (.agentCards m) s
    ∧ AtAgentOnly (.agentKeyInstall m) s
    ∧ AtAgentOnly (.agentKeySwitch m) s
    ∧ AtAgentOnly (.agentKeyErase m) s
    ∧ AtAgentOnly (.agentCurrentGrant m) s
    ∧ AtAgentOnly (.agentRelease m) s
    ∧ AtAgentOnly (.agentLinkSession m) s
    ∧ AtAgentOnly (.agentFaultReportAck m) s

/-- For every well-formed flit: its 256 bytes hold each of the fifteen header fields in its place and at every value, the payload of a plain flit in bytes 16 to 255, tag and payload of an encrypted one in bytes 16 to 31 and 32 to 255, unused bytes zero; every codeword of 514 data symbols has 544 and begins with them; a stream of flits fills one codeword with every 5,140 of its bits; symbol n of the codewords goes out as number n / w of lane n mod w. (R133, R134, R139, R140) -/
def Obligations.FlitsAndCodewords : Prop :=
  (∀ f : Flit, f.wf = true →
    let b := flitBytes f
    let v := le b 0 16
    b.length = 256 ∧ v % 2 ^ 12 = f.lseq ∧ v / 2 ^ 12 % 2 ^ 12 = f.lack ∧ v / 2 ^ 24 % 4 = flitKindCode f.kind ∧ v / 2 ^ 26 % 8 = f.vc
    ∧ v / 2 ^ 29 % 2 = f.epb ∧ v / 2 ^ 30 % 2 = f.kgen ∧ v / 2 ^ 31 % 2 = flag f.enc ∧ v / 2 ^ 32 % 2 ^ 16 = f.dst
    ∧ v / 2 ^ 48 % 2 ^ 16 = f.src ∧ v / 2 ^ 64 % 2 ^ 16 = f.stream ∧ v / 2 ^ 80 % 2 ^ 12 = f.job ∧ v / 2 ^ 92 % 2 ^ 8 = flitPlen f
    ∧ v / 2 ^ 100 % 8 = f.crvc ∧ v / 2 ^ 103 % 2 ^ 5 = f.crcnt ∧ v / 2 ^ 108 = f.sseq
    ∧ (f.enc = false → field b 16 240 = field f.payload 0 240)
    ∧ (f.enc = true → field b 16 16 = field f.tag 0 16 ∧ field b 32 224 = field f.payload 0 224))
  ∧ (∀ data : List Nat, data.length = 514 → (rsEncode data).length = 544 ∧ (rsEncode data).take 514 = data)
  ∧ (∀ l : List Flit, (codewordsOf l).length = 2048 * l.length / 5140 ∧ ∀ w ∈ codewordsOf l, w.length = 544)
  ∧ (∀ (words : List (List Nat)) (w n : Nat) (x : Nat), 0 < w → words.flatten[n]? = some x → (laneSymbols words w (n % w))[n / w]? = some x)

/-- In the link state and step that its rule names, each row of link training runs: a DOWN agent port goes to TRAINING, at once or once it is released, and reports it, an attempt takes the width of its good lanes, a step past its limit or bad lanes fail the attempt, an agreed handshake makes the port UP, records the far end and starts the delay measurement, HELLO is repeated, an UP port whose retrain is due goes to RETRAIN or is fenced by the fifth retrain of an hour, a good retrain that has been released replays and makes it UP, a bad one falls to TRAINING. (R124, R125, R126, R135, R145) -/
def Obligations.LinkTrainingCompletes : Prop :=
  (∀ (r : PortRef) (s : State),
      r.node = .agent →
      (s.nodePort r).link.state = .down →
      exec (.farEndSignalDetect r) s = .next (Done s ((s.trainAgain r).reportLink r)))
  ∧ (∀ (r : PortRef) (good : LanesFound) (reversed : Bool) (polarity : Nat) (s : State),
      (s.nodePort r).link.state = .training →
      (s.nodePort r).link.step = 1 →
      (widthOf (BitVec.ofNat 8 good.lanes)).1 ≠ 0 →
      exec (.linkTrainingStart r good reversed polarity) s = .next (Done s ((s.modLink r (fun l => { l with
        step := 7, width := (widthOf (BitVec.ofNat 8 good.lanes)).1, goodLanes := BitVec.ofNat 8 good.lanes
        reversed := reversed, linkClass := good.cls % 4, polarity := BitVec.ofNat 8 polarity })).reportLink r)))
  ∧ (∀ (r : PortRef) (good : LanesFound) (reversed : Bool) (polarity : Nat) (s : State),
      (s.nodePort r).link.state = .training →
      (s.nodePort r).link.step = 1 →
      (widthOf (BitVec.ofNat 8 good.lanes)).1 = 0 →
      exec (.linkTrainingStart r good reversed polarity) s = .next (Done s (s.modLink r (fun l => { l with
        step := 6, width := (widthOf (BitVec.ofNat 8 good.lanes)).1, goodLanes := BitVec.ofNat 8 good.lanes
        reversed := reversed, linkClass := good.cls % 4, polarity := BitVec.ofNat 8 polarity }))))
  ∧ (∀ (r : PortRef) (s : State),
      (s.nodePort r).link.state = .training →
      (s.nodePort r).link.step ≠ 0 →
      exec (.trainingStepTimeout r) s = .next (Done s (s.failAttempt r)))
  ∧ (∀ (r : PortRef) (s : State),
      exec (.trainingAttemptFailed r) s = .next (Done s (s.failAttempt r)))
  ∧ (∀ (r : PortRef) (t1 : Nat) (s : State),
      r.node = .agent →
      (s.nodePort r).link.state = .training →
      (s.nodePort r).link.step = 7 →
      handshakeOk (s.nodePort r).link false = true →
      exec (.trainingHandshakeDone r t1) s = .next (Done s ((((s.modLink r (fun l => { l with state := .up, step := 0, attempts := 0, fenceCause := 0 })).startMeasure r t1).reportLink r).modAgentCore
        (fun c => if c.state = .reset then { c with state := .unclaimed } else c))))
  ∧ (∀ (r : PortRef) (s : State),
      (s.nodePort r).link.state = .training →
      (s.nodePort r).link.step = 7 →
      (s.nodePort r).link.helloAcked = false →
      exec (.helloRepeat r) s = .next (Done s ((s.sendControl r (s.helloBytes r)).modLink r (fun l => { l with hellosSent := l.hellosSent + 1 }))))
  ∧ (∀ (r : PortRef) (lockLost : Bool) (s : State),
      (s.nodePort r).link.state = .up →
      s.retrainDue r.node (s.nodePort r).link lockLost = true →
      ((s.nodePort r).link.retrainTimes.filter (fun t => s.nodeNow r.node < t + s.nodeTicks r.node 3600000000)).length < 4 →
      r.node = .agent →
      exec (.retrainTrigger { port := r, lockLost := lockLost }) s = .next (Done s (
      (let u := (s.modLink r (fun l => { l with
        state := .retrain, uncorrTimes := [], replays := 0
        retrainTimes := (s.nodePort r).link.retrainTimes.filter (fun t => s.nodeNow r.node < t + s.nodeTicks r.node 3600000000) ++ [s.nodeNow r.node] })).portCount r 5;
      ((u.modLink r (fun l => { l with waits := u.agentWaits })).portFault r 0x09 2).reportLink r))))
  ∧ (∀ (r : PortRef) (lockLost : Bool) (s : State),
      (s.nodePort r).link.state = .up →
      s.retrainDue r.node (s.nodePort r).link lockLost = true →
      ((s.nodePort r).link.retrainTimes.filter (fun t => s.nodeNow r.node < t + s.nodeTicks r.node 3600000000)).length < 4 →
      r.node = .geneel →
      exec (.retrainTrigger { port := r, lockLost := lockLost }) s = .next (Done s (
      (let u := ((s.modLink r (fun l => { l with
        state := .retrain, uncorrTimes := [], replays := 0
        retrainTimes := (s.nodePort r).link.retrainTimes.filter (fun t => s.nodeNow r.node < t + s.nodeTicks r.node 3600000000) ++ [s.nodeNow r.node] })).portCount r 5).bookPort (96 + r.port) (s.nodePort r).link.width;
      ((u.1.modLink r (fun l => { l with waits := !u.2 })).portFault r 0x09 2).reportLink r))))
  ∧ (∀ (r : PortRef) (lockLost : Bool) (s : State),
      (s.nodePort r).link.state = .up →
      s.retrainDue r.node (s.nodePort r).link lockLost = true →
      4 ≤ ((s.nodePort r).link.retrainTimes.filter (fun t => s.nodeNow r.node < t + s.nodeTicks r.node 3600000000)).length →
      exec (.retrainTrigger { port := r, lockLost := lockLost }) s = .next (Done s ((s.modLink r (fun l => { l with
        retrainTimes := (s.nodePort r).link.retrainTimes.filter (fun t => s.nodeNow r.node < t + s.nodeTicks r.node 3600000000) ++ [s.nodeNow r.node] })).fenceLink r
          3)))
  ∧ (∀ (r : PortRef) (s : State),
      (s.nodePort r).link.state = .retrain →
      (s.nodePort r).link.waits = false →
      2 ≤ (s.nodePort r).link.width →
      exec (.retrainComplete r) s = .next (Done s ((s.modLink r (fun l => { l with state := .up, wire := l.wire ++ l.retryBuf })).reportLink r)))
  ∧ (∀ (r : PortRef) (s : State),
      (s.nodePort r).link.state = .retrain →
      (s.nodePort r).link.waits = false →
      exec (.retrainTimeout r) s = .next (Done s ((s.trainAgain r).reportLink r)))

/-- On an UP port a plain data flit accepted in order is counted and delivered; a retry request replays the retry buffer from the LSEQ named; IDLE frees the buffer up to its LACK; the hold-off of a retry request ends; 4 microseconds without progress replay everything unacknowledged; the output takes in the flits of messages for the port and sends link control that waited, else the flit that arbitration chooses, else a time request of a measurement, else an idle flit. (R136, R137, R139, R152) -/
def Obligations.LinkFlitsComplete : Prop :=
  (∀ (r : PortRef) (f : Flit) (s : State),
      (s.nodePort r).link.state = .up →
      f.lseq = (s.nodePort r).link.rxSeq →
      f.enc = false →
      (s.takeLack r f.lack).judgeFlit r f = .good →
      exec (.dataFlitReceive r f {}) s = .next (Done s ((((s.takeLack r f.lack).acceptSeq r f).portCount r 1).deliverFlit r f)))
  ∧ (∀ (r : PortRef) (f : Flit) (cw : Codewords) (s : State),
      (s.nodePort r).link.state = .up →
      (s.takeSeq r f cw).2 = true →
      f.enc = false →
      (s.takeSeq r f cw).1.judgeFlit r f = .good →
      exec (.dataFlitReceive r f cw) s = .next (Done s ((((s.takeSeq r f cw).1.acceptSeq r f).portCount r 1).deliverFlit r f)))
  ∧ (∀ (r : PortRef) (lseq i : Nat) (f : BareFlit) (s : State),
      (s.takeBare r f).2 = true →
      (((s.takeBare r f).1.takeLack r f.lack).nodePort r).link.retryBuf.findIdx? (fun f => f.lseq == lseq) = some i →
      exec (.retryRequestReceive r lseq f) s = .next (Done s (((((s.takeBare r f).1.takeLack r f.lack).modLink r (fun l => { l with
        wire := l.wire ++ l.retryBuf.drop i, replays := if i = 0 then l.replays + 1 else 1 })).portCount r 4).portFault r 0x08 0)))
  ∧ (∀ (r : PortRef) (f : BareFlit) (s : State),
      (s.takeBare r f).2 = true →
      exec (.idleFlitReceive r f) s = .next (Done s (((s.takeBare r f).1.takeLack r f.lack))))
  ∧ (∀ (r : PortRef) (s : State),
      exec (.retryHoldoffExpire r) s = .next (Done s (s.modLink r (fun l => { l with retryHold := none }))))
  ∧ (∀ (r : PortRef) (s : State),
      (s.nodePort r).link.retryBuf ≠ [] →
      exec (.lackStallReplay r) s = .next (Done s (((s.modLink r (fun l => { l with wire := l.wire ++ l.retryBuf, replays := l.replays + 1 })).portCount r 4).portFault r 0x08 0)))
  ∧ (∀ (r : PortRef) (ps : Nat) (e : Nat × Flit) (d : List Nat) (s : State),
      (s.nodePort r).link.state = .up →
      ((s.queueMessages r).nodePort r).link.control = [] →
      (s.queueMessages r).chooseFlit r = some (e, d) →
      ((s.queueMessages r).nodePort r).flow.exchanges = [] →
      exec (.outputFlitSelect { port := r, ps := ps }) s = .next (Done s ((s.queueMessages r).emitFlit r e d)))
  ∧ (∀ (r : PortRef) (ps : Nat) (s : State),
      (s.nodePort r).link.state = .up →
      ((s.queueMessages r).nodePort r).link.control = [] →
      (s.queueMessages r).chooseFlit r = none →
      ((s.queueMessages r).nodePort r).flow.exchanges = [] →
      ((s.queueMessages r).nodePort r).flow.due.any (0 < ·) = false →
      exec (.outputFlitSelect { port := r, ps := ps }) s = .next (Done s ((s.queueMessages r).sendIdle r)))
  ∧ (∀ (r : PortRef) (ps : Nat) (c : Bytes) (rest : List Bytes) (s : State),
      (s.nodePort r).link.state = .up →
      ((s.queueMessages r).nodePort r).link.control = c :: rest →
      ((s.queueMessages r).nodePort r).link.retryBuf.length < windowOf r.node →
      exec (.outputFlitSelect { port := r, ps := ps }) s = .next (Done s (((s.queueMessages r).controlNow r c).modLink r (fun l => { l with control := rest }))))
  ∧ (∀ (r : PortRef) (ps : Nat) (e : TsExchange) (s : State),
      (s.nodePort r).link.state = .up →
      ((s.queueMessages r).nodePort r).link.control = [] →
      (s.queueMessages r).chooseFlit r = none →
      ((s.queueMessages r).nodePort r).link.retryBuf.length < windowOf r.node →
      ((s.queueMessages r).nodePort r).flow.exchanges.find? (fun e => !e.sent) = some e →
      exec (.outputFlitSelect { port := r, ps := ps }) s = .next (Done s ((s.queueMessages r).askTime r e ps)))

/-- A link control flit accepted in order does what its operation says: credits are added, HELLO is kept in step 7, a time request is answered with the two times, responses and follow-ups complete an exchange whose delay joins the measurement, a SESSION flit sets the number that governs what follows; an exchange that got no follow-up is discarded; a finished measurement records the least delay and the length; a count near its end is marked and reported. (R142, R144, R145, R146, R148) -/
def Obligations.LinkControlCompletes : Prop :=
  (∀ (r : PortRef) (f : Flit) (s : State),
      (s.nodePort r).link.talks = true →
      f.lseq = (s.nodePort r).link.rxSeq →
      exec (.linkCreditReceive r f {}) s = .next (Done s (((s.takeLack r f.lack).acceptSeq r f).takeCredits r f)))
  ∧ (∀ (r : PortRef) (f : Flit) (cw : Codewords) (s : State),
      (s.nodePort r).link.talks = true →
      (s.takeControl r f cw).2 = true →
      ((s.takeControl r f cw).1.nodePort r).link.state = .training →
      exec (.linkHelloReceive r f cw) s = .next (Done s ((s.takeControl r f cw).1.modLink r (fun l => { l with far := some {
        version := le f.payload 17 1, kind := le f.payload 18 1, addr := le f.payload 19 2, port := le f.payload 21 1
        linkClass := le f.payload 22 1, width := le f.payload 23 1, serial := le f.payload 25 8 } }))))
  ∧ (∀ (r : PortRef) (f : Flit) (cw : Codewords) (t2 t3 : Nat) (s : State),
      (s.nodePort r).link.state = .up →
      (s.takeControl r f cw).2 = true →
      exec (.tsReqReceive r f cw t2 t3) s = .next (Done s (((s.takeControl r f cw).1.sendControl r (toLe 1 3 ++ field f.payload 17 1 ++ zeros 6 ++ toLe 8 t2)).sendControl r
        (toLe 1 4 ++ field f.payload 17 1 ++ zeros 6 ++ toLe 8 t3))))
  ∧ (∀ (r : PortRef) (f : Flit) (cw : Codewords) (t4 : Nat) (s : State),
      (s.nodePort r).link.state = .up →
      (s.takeControl r f cw).2 = true →
      exec (.tsRspReceive r f cw t4) s = .next (Done s ((s.takeControl r f cw).1.modExchange r (le f.payload 17 1) (fun e =>
        { e with t2 := some (le f.payload 24 8), t4 := some t4 }))))
  ∧ (∀ (r : PortRef) (f : Flit) (cw : Codewords) (e : TsExchange) (t2 t4 : Nat) (s : State),
      (s.nodePort r).link.state = .up →
      (s.takeControl r f cw).2 = true →
      ((s.takeControl r f cw).1.nodePort r).flow.exchanges.find? (fun x => x.index == le f.payload 17 1) = some e →
      e.t2 = some t2 →
      e.t4 = some t4 →
      e.t3 = none →
      exec (.tsFollowReceive r f cw) s = .next (Done s (((s.takeControl r f cw).1.modExchange r (le f.payload 17 1) (fun x => { x with t3 := some (le f.payload 24 8) })).modFlow r
        (fun w => { w with delays := w.delays ++ [tsDelay e.t1 t2 (le f.payload 24 8) t4] }))))
  ∧ (∀ (r : PortRef) (k : Nat) (s : State),
      exec (.tsExchangeDiscard r k) s = .next (Done s (s.modFlow r (fun w => { w with exchanges := w.exchanges.filter (fun e => e.index != k || e.t3.isSome || !e.sent) }))))
  ∧ (∀ (r : PortRef) (d : Nat) (ds : List Nat) (s : State),
      (s.nodePort r).link.state = .up →
      (s.nodePort r).flow.exchanges.all (fun e => e.t3.isSome) = true →
      (s.nodePort r).flow.delays = d :: ds →
      (lengthOf (s.nodePort r).link.linkClass (ds.foldl min d)).2 = true →
      exec (.delayMeasurementDone r) s = .next (Done s ((s.modLink r (fun l => { l with
        delayPs := ds.foldl min d % 2 ^ 32
        lengthDm := (lengthOf (s.nodePort r).link.linkClass (ds.foldl min d)).1 % 2 ^ 16 })).modFlow r
          (fun w => { w with exchanges := [], delays := [] }))))
  ∧ (∀ (r : PortRef) (f : Flit) (cw : Codewords) (s : State),
      (s.nodePort r).link.state = .up →
      (s.takeControl r f cw).2 = true →
      ((s.takeControl r f cw).1.nodePort r).flow.session = none →
      exec (.linkSessionFlitReceive r f cw) s = .next (Done s (match r.node with
      | .geneel => if ((s.takeControl r f cw).1.modFlow r (fun w => { w with farSession := some (le f.payload 17 3), rxCount := 0 })).isPrimary then (s.takeControl r f cw).1.modFlow r (fun w => { w with farSession := some (le f.payload 17 3), rxCount := 0 })
        else ((s.takeControl r f cw).1.modFlow r (fun w => { w with farSession := some (le f.payload 17 3), rxCount := 0 })).applySession r (le f.payload 17 3)
      | .agent => (s.takeControl r f cw).1.modFlow r (fun w => { w with farSession := some (le f.payload 17 3), rxCount := 0 }))))
  ∧ (∀ (r : PortRef) (s : State),
      r.node = .agent →
      2 ^ 47 ≤ (s.nodePort r).flow.txCount →
      (s.nodePort r).flow.sessionNear = false →
      exec (.sessionCountNear r) s = .next (Done s ((s.modFlow r (fun w => { w with sessionNear := true })).reportLink r)))

/-- A request that the agent takes is answered: PROBE op 0 with IDENT; PROBE op 1 sets the owner, the high token and CLAIMED; PROBE op 2 with the certificate or, for a valid chain, the evidence; PROBE op 3 derives the session key and makes a CLAIMED agent ATTESTED if the signature holds, and counts a failure otherwise, the third making it FAULTED; LINKSTATE with the port records asked for; COUNTERS_READ with the latched counters. (R170, R172, R174, R175, R176, R197, R201) -/
def Obligations.AgentDiscoveryCompletes : Prop :=
  (∀ (m : Msg) (s : State),
      taken m false 0 s = true →
      exec (.agentProbeIdentify m) s = .next (Done s (answered m false s (takenBy m false s) ({ status := 0, data := (takenBy m false s).identBody }))))
  ∧ (∀ (m : Msg) (s : State),
      taken m false 1 s = true →
      isGeneel m.src = true →
      s.agent.core.owner = none →
      s.agent.core.highToken ≤ m.token →
      exec (.agentProbeClaim m) s = .next (Done s (answered m false s (((takenBy m false s).raiseToken m.token).1.modAgentCore (fun c => { c with
        owner := some (m.body.getD 35 0).toNat, state := .claimed, sessionKey := none, addr := c.addr })) ({
        status := 0, detail := ((takenBy m false s).raiseToken m.token).2 % 65536
        data := (((takenBy m false s).raiseToken m.token).1.modAgentCore (fun c => { c with
          owner := some (m.body.getD 35 0).toNat, state := .claimed, sessionKey := none, addr := c.addr })).identBody }))))
  ∧ (∀ (m : Msg) (s : State),
      taken m false 2 s = true →
      le (m.body.drop 35) 0 1 = 0 →
      exec (.agentProbeCert m) s = .next (Done s (answered m false s ((takenBy m false s).modAgentCore (fun c => { c with chain := field (m.body.drop 35) 36 3144 })) ({ status := 0, data := Config.partBytes "agent certificate" }))))
  ∧ (∀ (m : Msg) (s : State),
      taken m true 3 s = true →
      exec (.agentProbeSession m) s = .next (Done s (if (match geneelKey s.agent.core.chain with
          | some k => falconVerify k (field (Config.shake256 (field (m.body.drop 35) 0 1568) 32) 0 32) (field (m.body.drop 35) 1568 1280)
          | none => false) = true then
        answered m true s ((takenBy m true s).modAgentCore (fun c => { c with
          sessionKey := some (m.src, agentSessionKey (Config.kemDecap "agent" (field (m.body.drop 35) 0 1568)) c.serial m.src)
          sessionFailures := 0, state := if c.state = .claimed then .attested else c.state })) AgentAnswer.ok
      else answered m true s ((takenBy m true s).modAgentCore (fun c => { c with
        sessionFailures := c.sessionFailures + 1, state := if 3 ≤ c.sessionFailures + 1 then .faulted else c.state })) { status := 7 })))
  ∧ (∀ (m : Msg) (k : Bytes) (s : State),
      taken m true 3 s = true →
      geneelKey s.agent.core.chain = some k →
      falconVerify k (field (Config.shake256 (field (m.body.drop 35) 0 1568) 32) 0 32) (field (m.body.drop 35) 1568 1280) = true →
      exec (.agentProbeSession m) s = .next (Done s (answered m true s ((takenBy m true s).modAgentCore (fun c => { c with
          sessionKey := some (m.src, agentSessionKey (Config.kemDecap "agent" (field (m.body.drop 35) 0 1568)) c.serial m.src)
          sessionFailures := 0, state := if c.state = .claimed then .attested else c.state })) AgentAnswer.ok)))
  ∧ (∀ (m : Msg) (k : Bytes) (s : State),
      taken m false 2 s = true →
      le (m.body.drop 35) 0 1 ≠ 0 →
      geneelKey (field s.agent.core.chain 0 3144 ++ field (m.body.drop 35) 36 3144) = some k →
      exec (.agentProbeCert m) s = .next (Done s (
      let ev := field (Config.freeBytes s.draw.2 1568) 0 1568 ++ field (m.body.drop 35) 2 32 ++ field s.agent.core.measurement 0 32
          ++ toLe 4 s.agent.core.firmware ++ zeros 4
      answered m false s (s.draw.1.modAgentCore (fun c => { c with chain := field s.agent.core.chain 0 3144 ++ field (m.body.drop 35) 36 3144 })) {
        status := 0
        data := ev ++ field (Config.falconSign "agent" (field (Config.shake256 (ascii "GN7AGEV3" ++ toLe 8 s.agent.core.serial ++ ev) 32) 0 32) s.draw.2) 0 1280 })))
  ∧ (∀ (m : Msg) (s : State),
      taken m false 0 s = true →
      (s.portsAsked m).length ≤ 17 →
      exec (.agentLinkstateRequest m) s = .next (Done s (answered m false s s { status := 0, data := s.portRecords (s.portsAsked m) })))
  ∧ (∀ (m : Msg) (s : State),
      taken m false 0 s = true →
      le m.content 0 1 ≤ 3 →
      le m.content 4 1 ≤ 25 →
      exec (.agentCountersRequest m) s = .next (Done s (answered m false s (takenBy m false s) ({
        status := 0
        data := toLe 6 s.agent.core.tick ++ zeros 2 ++ (List.range (le m.content 4 1)).flatMap (fun i =>
          toLe 8 ((kvGet s.agent.work.latch (le m.content 0 1 * 2 ^ 20 + le m.content 2 2 + i)).getD 0)) }))))

/-- TABLE_WRITE of routes into a FREE bank changes those entries; ACTIVATE of a bank whose CRC agrees reserves it and waits for its tick; RETIRE, FAILOVER, CLEAR_STANDBY and TARGET_SWAP that are in order wait for their tick; each is answered AS_OK. (R169, R180, R182, R183, R184, R185) -/
def Obligations.AgentCommitsComplete : Prop :=
  (∀ (m : Msg) (s : State),
      taken m true 0 s = true →
      le m.content 0 1 = 0 →
      le m.content 1 1 ≤ 1 →
      le m.content 2 1 ≤ 1 →
      le m.content 3 1 ≤ 16 →
      (writeEntries m.content).any (fun e => decide (tableSize 0 ≤ e.1)) = false →
      ((takenBy m true s).agent.work.bank (le m.content 1 1)).state = .free →
      exec (.agentTableWrite m) s = .next (Done s (answered m true s ((((takenBy m true s).modAgentWork (fun w => w.modBank (le m.content 1 1) (fun k => { k with routes := putAll k.routes (writeEntries m.content) }))).modAgentCore
        (fun c => { c with entriesThisTick := c.entriesThisTick + (writeEntries m.content).length })).agentCount 2
          ((takenBy m true s).agent.core.entriesThisTick + (writeEntries m.content).length
            - max (takenBy m true s).agentBudget (takenBy m true s).agent.core.entriesThisTick)) ({ status := 0, detail := (writeEntries m.content).length }))))
  ∧ (∀ (m : Msg) (s : State),
      taken m true 0 s = true →
      le m.content 1 1 ≤ 1 →
      (takenBy m true s).timedTick (le m.content 4 6) 4 = none →
      (takenBy m true s).agent.work.pendingBank (le m.content 1 1) = false →
      ((takenBy m true s).agent.work.bank (le m.content 1 1)).state = .free →
      (takenBy m true s).agent.work.timed.any (fun x => x.tick == le m.content 4 6 && (match x.act with
        | .activate _ _ => true
        | _ => false)) = false →
      le m.content 12 4 = crc32 (bankStream ((takenBy m true s).agent.work.bank (le m.content 1 1)) ((takenBy m true s).agent.core.kind == 2)) →
      exec (.agentCommitActivate m) s = .next (Done s (answered m true s (((takenBy m true s).modAgentWork (fun w => w.modBank (le m.content 1 1) (fun k => { k with state := .reserved }))).addTimed m.token
        (le m.content 4 6) (.activate (le m.content 1 1) (le m.content 2 2))) (AgentAnswer.ok))))
  ∧ (∀ (m : Msg) (s : State),
      taken m true 0 s = true →
      le m.content 1 1 ≤ 1 →
      (takenBy m true s).timedTick (le m.content 4 6) 4 = none →
      (takenBy m true s).agent.work.pendingBank (le m.content 1 1) = false →
      ((takenBy m true s).agent.work.bank (le m.content 1 1)).state = .old →
      exec (.agentCommitRetire m) s = .next (Done s (answered m true s (((takenBy m true s).modAgentWork (fun w => w.modBank (le m.content 1 1) (fun k => { k with state := .reserved }))).addTimed m.token
        (le m.content 4 6) (.retire (le m.content 1 1))) (AgentAnswer.ok))))
  ∧ (∀ (m : Msg) (d : DeltaSet) (s : State),
      taken m true 0 s = true →
      (takenBy m true s).timedTick (le m.content 4 6) 4 = none →
      (takenBy m true s).agent.work.bankS.find? (fun d => d.failureId == le m.content 10 2 && !d.stale) = some d →
      some d.epochTag = (takenBy m true s).agent.work.active.map (fun k => ((takenBy m true s).agent.work.bank k).epoch) →
      exec (.agentCommitFailover m) s = .next (Done s (answered m true s ((takenBy m true s).addTimed m.token (le m.content 4 6) (.failover (le m.content 10 2))) (AgentAnswer.ok))))
  ∧ (∀ (m : Msg) (s : State),
      taken m true 0 s = true →
      (takenBy m true s).timedTick (le m.content 4 6) 4 = none →
      exec (.agentCommitClearStandby m) s = .next (Done s (answered m true s ((takenBy m true s).addTimed m.token (le m.content 4 6) .clearStandby) (AgentAnswer.ok))))
  ∧ (∀ (m : Msg) (s : State),
      taken m true 0 s = true →
      (takenBy m true s).agent.core.kind = 1 →
      (takenBy m true s).timedTick (le m.content 4 6) 4 = none →
      le m.content 12 4 = crc32 (targetStream (takenBy m true s).agent.work.targetStandby) →
      exec (.agentCommitTargetSwap m) s = .next (Done s (answered m true s ((takenBy m true s).addTimed m.token (le m.content 4 6) .targetSwap) (AgentAnswer.ok))))

/-- A tree entry that fits is installed; a round of cards is kept; a key whose tag agrees is installed; a key switch, a key erasure and the release of a granted action wait for their tick; a grant is installed; a session number whose tag agrees is applied at once when it names no tick. A tag that does not agree is answered AS_CHECK. (R189, R190, R191, R192, R193, R194, R195, R196) -/
def Obligations.AgentWorkCompletes : Prop :=
  (∀ (m : Msg) (s : State),
      taken m true 0 s = true →
      le m.content 0 1 = 0 →
      ((((takenBy m true s).agent.work.otherTrees (treeOf m.content) (max (takenBy m true s).agent.core.tick (treeOf m.content).effTick)).map
        TreeEntry.reservation).foldl (· + ·) 0 + (treeOf m.content).reservation ≤ (takenBy m true s).agent.work.store) →
      ((takenBy m true s).agent.work.otherTrees (treeOf m.content) (max (takenBy m true s).agent.core.tick (treeOf m.content).effTick)).length < (takenBy m true s).agent.work.treeCap →
      exec (.agentTreeSet m) s = .next (Done s (answered m true s ((takenBy m true s).modAgentWork (fun w => w.installTree (takenBy m true s).agent.core.tick (treeOf m.content))) (AgentAnswer.ok))))
  ∧ (∀ (m : Msg) (s : State),
      taken m true 0 s = true →
      (takenBy m true s).agent.core.kind = 1 →
      le m.content 10 1 ≤ 12 →
      (takenBy m true s).agent.work.cards = [] →
      exec (.agentCards m) s = .next (Done s (answered m true s ((takenBy m true s).modAgentWork (fun w => { w with cards := w.cards ++ [{
        plan := le m.content 0 2, job := le m.content 2 2, start := le m.content 4 6
        cards := chunks 16 (le m.content 10 1) (m.content.drop 16) }] })) (AgentAnswer.ok))))
  ∧ (∀ (m : Msg) (a : Nat) (key : Bytes) (s : State),
      taken m true 0 s = true →
      s.agent.core.sessionKey = some (a, key) →
      key ≠ [] →
      le m.content 2 1 ≤ 1 →
      le m.content 3 1 ≤ 1 →
      s.agent.work.tx (le m.content 0 2) (le m.content 2 1) = none →
      exec (.agentKeyInstall m) s = .next (Done s (if field m.content 40 16 = field (Config.gcmTag key (keyNonce m) (field m.content 0 8)
          (field (Config.gcmDecrypt key (keyNonce m) (field m.content 8 32)) 0 32)) 0 16 then
        answered m true s (((takenBy m true s).modAgentWork (fun w => { w with keys := w.keys.filter (fun x => !x.is (le m.content 0 2) (le m.content 2 1) (le m.content 3 1))
          ++ [{
            job := le m.content 0 2, kind := le m.content 2 1, slot := le m.content 3 1, generation := le m.content 4 2
            key := field (Config.gcmDecrypt key (keyNonce m) (field m.content 8 32)) 0 32 }] })).modAgentWork
          (fun w => w.setTx (le m.content 0 2) (le m.content 2 1) (le m.content 3 1))) AgentAnswer.ok
      else answered m true s (takenBy m true s) { status := 7 })))
  ∧ (∀ (m : Msg) (a : Nat) (key : Bytes) (s : State),
      taken m true 0 s = true →
      s.agent.core.sessionKey = some (a, key) →
      key ≠ [] →
      le m.content 2 1 ≤ 1 →
      le m.content 3 1 ≤ 1 →
      s.agent.work.tx (le m.content 0 2) (le m.content 2 1) = none →
      field m.content 40 16 = field (Config.gcmTag key (keyNonce m) (field m.content 0 8) (field (Config.gcmDecrypt key (keyNonce m) (field m.content 8 32)) 0 32)) 0 16 →
      exec (.agentKeyInstall m) s = .next (Done s (answered m true s (((takenBy m true s).modAgentWork (fun w => { w with keys := w.keys.filter (fun x => !x.is (le m.content 0 2) (le m.content 2 1) (le m.content 3 1))
          ++ [{
            job := le m.content 0 2, kind := le m.content 2 1, slot := le m.content 3 1, generation := le m.content 4 2
            key := field (Config.gcmDecrypt key (keyNonce m) (field m.content 8 32)) 0 32 }] })).modAgentWork
          (fun w => w.setTx (le m.content 0 2) (le m.content 2 1) (le m.content 3 1))) AgentAnswer.ok)))
  ∧ (∀ (m : Msg) (s : State),
      taken m true 0 s = true →
      (takenBy m true s).timedTick (le m.content 6 6) 6 = none →
      le m.content 2 1 ≤ 1 →
      le m.content 3 1 ≤ 1 →
      exec (.agentKeySwitch m) s = .next (Done s (answered m true s ((takenBy m true s).addTimed m.token (le m.content 6 6) (.keySwitch (le m.content 0 2) (le m.content 2 1) (le m.content 3 1))) (AgentAnswer.ok))))
  ∧ (∀ (m : Msg) (s : State),
      taken m true 0 s = true →
      (takenBy m true s).timedTick (le m.content 6 6) 6 = none →
      (takenBy m true s).agent.work.txAt (le m.content 0 2) (le m.content 2 1) (le m.content 6 6) ≠ some (le m.content 3 1) →
      (takenBy m true s).slotBusy (le m.content 0 2) (le m.content 3 1) = false →
      le m.content 2 1 ≤ 1 →
      le m.content 3 1 ≤ 1 →
      exec (.agentKeyErase m) s = .next (Done s (answered m true s ((takenBy m true s).addTimed m.token (le m.content 6 6) (.keyErase (le m.content 0 2) (le m.content 2 1) (le m.content 3 1))) (AgentAnswer.ok))))
  ∧ (∀ (m : Msg) (s : State),
      taken m true 0 s = true →
      le m.content 0 1 ≤ 5 →
      ((takenBy m true s).agent.work.grants.filter (fun x => !(x.action == le m.content 4 4 && x.kind == le m.content 0 1))).length < 64 →
      exec (.agentCurrentGrant m) s = .next (Done s (answered m true s ((takenBy m true s).modAgentWork (fun w => { w with
        grants := (takenBy m true s).agent.work.grants.filter (fun x => !(x.action == le m.content 4 4 && x.kind == le m.content 0 1)) ++ [{
          kind := le m.content 0 1, job := le m.content 2 2, action := le m.content 4 4, offset := le m.content 8 2
          step := le m.content 10 2, expiry := le m.content 12 6, used := (takenBy m true s).agent.core.tick }] })) (AgentAnswer.ok))))
  ∧ (∀ (m : Msg) (g : AgentGrant) (s : State),
      taken m true 0 s = true →
      (takenBy m true s).grantReleased (le m.content 0 4) = some g →
      (takenBy m true s).timedTick (le m.content 4 6) 4 = none →
      exec (.agentRelease m) s = .next (Done s (answered m true s ((takenBy m true s).addTimed m.token (le m.content 4 6 + g.offset) (.release g.kind (le m.content 0 4))) (AgentAnswer.ok))))
  ∧ (∀ (m : Msg) (a : Nat) (key : Bytes) (s : State),
      taken m true 0 s = true →
      s.agent.core.sessionKey = some (a, key) →
      key ≠ [] →
      le m.content 8 6 = 0 →
      ((takenBy m true s).agentPort (le m.content 0 1)).link.state = .up →
      ((takenBy m true s).agentPort (le m.content 0 1)).flow.sessionsUsed.contains (le m.content 2 3) = false →
      exec (.agentLinkSession m) s = .next (Done s (if field m.content 16 16 = field (Config.gcmTag key (keyNonce m) (field m.content 0 16) []) 0 16 then
        answered m true s ((takenBy m true s).applySession { node := .agent, port := le m.content 0 1 } (le m.content 2 3)) AgentAnswer.ok
      else answered m true s (takenBy m true s) { status := 7 })))
  ∧ (∀ (m : Msg) (a : Nat) (key : Bytes) (s : State),
      taken m true 0 s = true →
      s.agent.core.sessionKey = some (a, key) →
      key ≠ [] →
      le m.content 8 6 = 0 →
      ((takenBy m true s).agentPort (le m.content 0 1)).link.state = .up →
      ((takenBy m true s).agentPort (le m.content 0 1)).flow.sessionsUsed.contains (le m.content 2 3) = false →
      field m.content 16 16 = field (Config.gcmTag key (keyNonce m) (field m.content 0 16) []) 0 16 →
      exec (.agentLinkSession m) s = .next (Done s (answered m true s ((takenBy m true s).applySession { node := .agent, port := le m.content 0 1 } (le m.content 2 3)) AgentAnswer.ok)))

/-- A reset clears tables, keys, token and counters; a TICK of a new tick is placed and forwarded and its timed actions run, and of two of one tick the one of the lower Geneel ID is followed; a flywheel tick bridges a marker; 16 of them make a serving agent QUIESCED and report it; a switch forwards by route block; an acknowledgement ends a report, an unacknowledged one is repeated; late reassemblies are dropped; deferred removals and erasures take effect; an idle grant becomes cold; a table error makes the agent FAULTED; a starting action under a warm grant starts. (R62, R162, R163, R190, R198, R201) -/
def Obligations.AgentEventsComplete : Prop :=
  (∀ (s : State),
      exec (.agentReset) s = .next (Done s ({ s with agent := {
        core := { kind := s.agent.core.kind, serial := s.agent.core.serial, version := s.agent.core.version
                  firmware := s.agent.core.firmware, measurement := s.agent.core.measurement, portCount := s.agent.core.portCount
                  sent := s.agent.core.sent, flits := s.agent.core.flits }
        work := { store := s.agent.work.store, standbyCap := s.agent.work.standbyCap, treeCap := s.agent.work.treeCap
                  defaultStep := s.agent.work.defaultStep } } })))
  ∧ (∀ (m : Msg) (port arrival residence : Nat) (s : State),
      s.agent.core.state = .serving ∨ s.agent.core.state = .quiesced →
      s.agent.core.tick < le m.content 0 6 →
      exec (.agentTickReceive m port arrival residence) s = .next (Done s (((s.modAgentCore (fun c => { c with
        marked := true, master := le m.content 7 1, period := le m.content 6 1, flywheel := 0, state := .serving
        placed := s.placeOf m.content port arrival })).forwardTick m residence).agentAtTick (le m.content 0 6))))
  ∧ (∀ (m : Msg) (port arrival residence : Nat) (s : State),
      s.agent.core.state = .serving ∨ s.agent.core.state = .quiesced →
      s.agent.core.marked = true →
      s.agent.core.flywheel = 0 →
      le m.content 0 6 = s.agent.core.tick →
      le m.content 7 1 < s.agent.core.master →
      exec (.agentTickReceive m port arrival residence) s = .next (Done s (((s.agentCount 6).modAgentCore (fun c => { c with
        master := le m.content 7 1, period := le m.content 6 1, placed := s.placeOf m.content port arrival })).forwardTick m residence)))
  ∧ (∀ (s : State),
      s.agent.core.marked = true →
      s.agent.core.state ≠ .reset →
      s.agent.core.flywheel < 16 →
      exec (.agentFlywheelTick) s = .next (Done s (((s.modAgentCore (fun c => { c with flywheel := c.flywheel + 1 })).agentCount 5).agentAtTick (s.agent.core.tick + 1))))
  ∧ (∀ (s : State),
      16 ≤ s.agent.core.flywheel →
      s.agent.core.state = .serving →
      exec (.agentTickLoss) s = .next (Done s (((s.agentCount 4).agentReport 0xFF00 1 0).modAgentCore (fun c =>
        { c with state := if c.state = .serving then .quiesced else c.state }))))
  ∧ (∀ (inPort : Nat) (f : Flit) (rest : List Flit) (s : State),
      (s.nodePort { node := .agent, port := inPort }).link.inputBuf = f :: rest →
      s.agent.core.state ≠ .reset →
      f.dst = 0xFFFF →
      f.vc = 0 →
      le f.payload 17 1 < le f.payload 16 1 →
      exec (.switchFlitForward inPort) s = .next (Done s (((s.modLink { node := .agent, port := inPort } (fun l => { l with inputBuf := rest })).creditDue { node := .agent, port := inPort } f.vc).switchOut
        inPort (le f.payload (18 + le f.payload 17 1) 1)
        { f with payload := f.payload.take 17 ++ toLe 1 (le f.payload 17 1 + 1) ++ f.payload.drop 18 })))
  ∧ (∀ (m : Msg) (s : State),
      exec (.agentFaultReportAck m) s = .next (Done s (s.modAgentCore (fun c => { c with
        reports := c.reports.filter (fun r => !(r.msgid == m.msgid || r.msgid + 1 == m.msgid)) }))))
  ∧ (∀ (s : State),
      exec (.faultReportRepeat) s = .next (Done s ((s.agent.core.reports.filter (fun r => r.lastTick + 4 ≤ s.agent.core.tick && r.sends < 8)).foldl
        (fun u r => u.agentGeneels.foldl (fun v g => v.agentDispatch {
          src := v.agentAddr, dst := g, type := 0x0E, flags := 6, msgid := (r.msgid + g % 2) % 2 ^ 32, stream := 2, body := r.body }) u)
        (s.modAgentCore (fun c => { c with
          reports := (c.reports.map (fun r =>
          if r.lastTick + 4 ≤ s.agent.core.tick then { r with sends := r.sends + 1, lastTick := s.agent.core.tick } else r)).filter
            (fun r => r.sends ≤ 8) })))))
  ∧ (∀ (s : State),
      exec (.segmentReassemblyExpire) s = .next (Done s (s.modAgentCore (fun c => { c with reassembly := c.reassembly.filter (fun x => c.marked && c.tick < x.firstTick + 4) }))))
  ∧ (∀ (s : State),
      exec (.deferredActionComplete) s = .next (Done s (s.modAgentWork (fun w => { w with
        trees := w.trees.filter (fun e => !(e.removing && !w.treeBusy e.tree e.group))
        keys := w.keys.filter (fun k => !(k.erasing && !s.slotBusy k.job k.slot)) }))))
  ∧ (∀ (s : State),
      exec (.agentGrantCold) s = .next (Done s (s.modAgentWork (fun w => { w with grants := w.grants.map (fun g =>
        if (g.kind = 1 ∨ g.kind = 2) ∧ g.used + 64 ≤ s.agent.core.tick then { g with cold := true } else g) }))))
  ∧ (∀ (unit : Nat) (s : State),
      s.agent.core.state ≠ .reset →
      s.agent.work.active.isSome = true →
      exec (.tableMemoryError unit) s = .next (Done s ((s.agentReport (0xFF00 + unit % 256) 8 0).modAgentCore (fun c => { c with state := .faulted }))))
  ∧ (∀ (kind action job : Nat) (g : AgentGrant) (s : State),
      s.agent.core.kind = 1 →
      s.agent.core.state = .serving →
      s.grantOf kind action = some g →
      g.cold = false →
      exec (.loadStartingActionRequest kind action job) s = .next (Done s (s.runTimed (.release kind action))))

/-- An IDENT that answers a probe of the walk is kept with its probe; a LINKSTATE of a recorded node changes the record; the messages of a level leave by the ticks of the walk, and a level whose replies are in and that is 4 ticks old ends; a delta of a peer is held and moves its section at the marker; a request to release agents that no slice holds is granted for the next tick, at whose marker they leave the record; a refusal ends the walk of RACK_ABSORB with ST_DENIED, a grant lets it go on. (R212, R213, R226, R233, R239) -/
def Obligations.DiscoveryEventsComplete : Prop :=
  (∀ (m : Msg) (w : Waiting) (s : State),
      s.mail.waiting.find? (fun w => w.msg.msgid == m.msgid) = some w →
      w.kind = Purpose.identify.code →
      s.fabric.walk.probes.any (fun p => p.msgid == m.msgid) = true →
      exec (.identReceive m) s = .next (Done s (((({ s with mail := { s.mail with waiting := s.mail.waiting.filter (fun v => v.msg.msgid != m.msgid) } } : State).modWalk
        (fun v => { v with awaits := v.awaits.filter (· != m.msgid) })).modWalk (fun v => { v with
          probes := v.probes.map (fun p => if p.msgid = m.msgid then { p with ident := some (m.content.drop 8) } else p) })))))
  ∧ (∀ (m : Msg) (n : TopoNode) (s : State),
      s.ownSection.node m.src = some n →
      exec (.linkstateReceive m) s = .next (Done s (s.linkstateNews m.src (chunks 12 (m.body.length / 12) m.body))))
  ∧ (∀ (s : State),
      s.fabric.walk.running = true →
      s.fabric.walk.stage = 1 →
      s.isPrimary = true →
      exec (.discoveryLevelStep) s = .next (Done s (s.walkSessions.walkIdents)))
  ∧ (∀ (s : State),
      s.fabric.walk.running = true →
      s.fabric.walk.stage = 2 →
      s.fabric.walk.awaits = [] →
      s.fabric.walk.since + 4 ≤ s.clock.now →
      s.isPrimary = true →
      exec (.discoveryLevelStep) s = .next (Done s (s.walkSessions.walkLevel)))
  ∧ (∀ (src : Nat) (d : SectionDelta) (s : State),
      s.senderMay src 2 = true →
      d.bolt ≠ s.up.bolt →
      exec (.topologyDeltaReceive src d) s = .next (Done s (({ s with fabric := { s.fabric with heldDeltas := s.fabric.heldDeltas ++ [d] } } : State).keepDelta d)))
  ∧ (∀ (src : Nat) (serials : List Nat) (s : State),
      s.senderMay src 2 = true →
      s.isPrimary = true →
      (s.ownSection.nodes.filter (fun n => serials.contains n.serial)).any (fun n => (s.sliceOfLen n.addr).isSome) = false →
      exec (.moveReleaseRequestReceive src serials) s = .next (Done s ({ s with fabric := { s.fabric with
        news := s.fabric.news ++ [.leave (s.clock.now + 1) serials]
        releaseAnswers := s.fabric.releaseAnswers ++ [(src, true, s.nameTick 1)] } })))
  ∧ (∀ (src id : Nat) (s : State),
      s.senderMay src 2 = true →
      s.fabric.walk.running = true →
      s.fabric.walk.releasing.contains ((src - 0xF000) / 2) = true →
      s.fabric.walk.cmd = some id →
      exec (.moveReleaseConfirmReceive src false) s = .next (Done s ((s.modWalk (fun v => { v with failed := some (0x20, 5 + 256 * ((s.cmd id).map Cmd.master).getD 0) })).walkFinish)))
  ∧ (∀ (src : Nat) (s : State),
      s.senderMay src 2 = true →
      s.fabric.walk.running = true →
      s.fabric.walk.releasing.contains ((src - 0xF000) / 2) = true →
      exec (.moveReleaseConfirmReceive src true) s = .next (Done s ((s.modWalk (fun v => { v with releasing := v.releasing.filter (· != (src - 0xF000) / 2), regrant := true })).walkKeys)))
  ∧ (∀ (s : State),
      s.sectionMarker = (
      let now_ := s.fabric.news.filter (fun n => n.due s.clock.now)
      let s1 : State := { s with fabric := { s.fabric with news := s.fabric.news.filter (fun n => !n.due s.clock.now) } }
      let s2 := if s1.isPrimary then (now_.foldl State.applyNews s1).repairIfChanged s.usableOwn else s1
      (((s2.fabric.heldDeltas.map SectionDelta.bolt).eraseDups).foldl State.applyPeer s2).walkMarker))
  ∧ (∀ (at_ : Nat) (serials : List Nat) (s : State),
      s.applyNews (.leave at_ serials) = s.changeSection (fun x =>
      let gone (a : Nat) : Bool := x.nodes.any (fun n => n.addr == a && serials.contains n.serial)
      { x with
          nodes := x.nodes.filter (fun n => !serials.contains n.serial)
          links := (x.links.filter (fun l => !gone l.src)).map (fun l =>
            if gone l.dst then { l with dst := 0xFFFF, dport := 0xFF, routable := false } else l) }))

/-- At the coordinator a request is taken and the oldest queued one called; a call opens the solve and freezes the copy; vectors, the start, batches, shares and reports of the solve of that number are taken; a share whose data are late is reported refused; a move gives the share its new assignee, drops its data here, and is recorded by the original solver; an abort with reason 1 discards the solve. (R264, R265, R268, R269, R270, R272) -/
def Obligations.SolveMessagesComplete : Prop :=
  (∀ (m : Msg) (s : State),
      s.senderMay m.src 3 = true →
      s.coordinator = s.ownAddr →
      m.flags % 2 = 0 →
      (s.gotRequest (decodeParams m.body) m.src m.msgid).2 = true →
      exec (.solveReqReceive m) s = .next (Done s ((s.gotRequest (decodeParams m.body) m.src m.msgid).1)))
  ∧ (∀ (m : Msg) (s : State),
      s.senderMay m.src 3 = true →
      s.coordinator = s.ownAddr →
      m.flags % 2 = 0 →
      64 ≤ s.fabric.queue.length →
      exec (.solveReqReceive m) s = .next (Done s (s.sendAgain { s.msgTo m.src 0x40 (toLe 2 2 ++ zeros 6) with flags := 1, msgid := m.msgid })))
  ∧ (∀ (s : State),
      s.coordinator = s.ownAddr →
      exec (.queuedSolveStart) s = .next (Done s (s.nextQueued)))
  ∧ (∀ (m : Msg) (s : State),
      s.senderMay m.src 3 = true →
      s.fabric.solve = none →
      s.fabric.repeating = none →
      exec (.solveCallReceive m) s = .next (Done s (({ s with fabric := { s.fabric with
        solve := some {
          id := le m.body 0 4, params := decodeParams (m.body.drop 12), coordinator := m.src, callTick := le m.body 4 6
          callAt := s.instantOf (le m.body 4 6), repeats := 0, epochRepeat := false }
        keptDeltas := [], repeating := none } } : State).freezeCopy)))
  ∧ (∀ (m : Msg) (w : Solve) (s : State),
      s.senderMay m.src 3 = true →
      s.fabric.solve = some w →
      w.params = decodeParams (m.body.drop 12) →
      exec (.solveCallReceive m) s = .next (Done s (({ s with fabric := { s.fabric with
        solve := some {
          id := le m.body 0 4, params := decodeParams (m.body.drop 12), coordinator := m.src, callTick := le m.body 4 6
          callAt := s.instantOf (le m.body 4 6), repeats := w.repeats + 1, epochRepeat := w.epochRepeat }
        keptDeltas := [], repeating := none } } : State).freezeCopy)))
  ∧ (∀ (m : Msg) (s : State),
      s.senderMay m.src 3 = true →
      (s.fabric.solve.map Solve.id) = some (le m.body 0 4) →
      exec (.solveVectorReceive m) s = .next (Done s ((s.gotVector (m.src - 0xF000) (le m.body 4 1) (le m.body 5 1) ((List.range 32).map (fun i => le m.body (8 + 4 * i) 4))).settleSolves)))
  ∧ (∀ (m : Msg) (s : State),
      s.senderMay m.src 3 = true →
      (s.fabric.solve.map Solve.id) = some (le m.body 0 4) →
      exec (.solveGoReceive m) s = .next (Done s ((s.setGo (le m.body 4 6) (s.instantOf (le m.body 4 6)) ((List.range 32).map (fun i => le m.body (12 + 4 * i) 4)) ((List.range 64).map (fun i => le m.body (140 + i) 1))).goMarker)))
  ∧ (∀ (s : State),
      exec (.solveBatchComplete) s = .next (Done s (s.batchDone.settleSolves)))
  ∧ (∀ (m : Msg) (v : Solve) (s : State),
      s.senderMay m.src 3 = true →
      s.fabric.solve = some v →
      v.id = le m.body 0 4 →
      v.begun = true →
      ((v.shares.find? (fun e => e.1 == (solverOf v.dests.length v.tileList (le m.body 8 3 / 64)).getD 0)).map Prod.snd).getD
        ((solverOf v.dests.length v.tileList (le m.body 8 3 / 64)).getD 0) = le m.body 4 1 →
      exec (.shareDataReceive m) s = .next (Done s ((s.modSolve (fun w => w.place (le m.body 6 2) (le m.body 8 3)
        ((List.range (le m.body 11 1)).map (fun i => le m.body (12 + 8 * i) 8)))).imageCheck.settleSolves)))
  ∧ (∀ (share : Nat) (v : Solve) (s : State),
      s.fabric.solve = some v →
      v.reported = false →
      v.begun = true →
      v.startAt + s.shareTicks v share + 176 ≤ s.clock.now →
      (v.boltNodes s.up.bolt).any (fun n => ((((splitShares v.dests.length v.tileList).filter (fun e => e.1 == share)).flatMap
        (fun e => (List.range (64 * (e.2.2 - e.2.1))).map (fun i => 64 * e.2.1 + i))).filterMap (fun i => v.dests[i]?)).any (fun d =>
          !(v.image.any (fun e => e.1 == n.addr && e.2.1 == d)))) = true →
      exec (.shareDataTimeout share) s = .next (Done s ((s.sendSolveDone 1 share).settleSolves)))
  ∧ (∀ (m : Msg) (v : Solve) (s : State),
      s.senderMay m.src 3 = true →
      s.fabric.solve = some v →
      v.id = le m.body 0 4 →
      exec (.shareMoveReceive m) s = .next (Done s (if ((v.shares.find? (fun e => e.1 == le m.body 4 1)).map Prod.snd).getD (le m.body 4 1) = s.ownId ∧ le m.body 5 1 ≠ s.ownId then (s.modSolve (fun w => { w with
          reported := false, done := []
          moved := if ((v.shares.find? (fun e => e.1 == le m.body 4 1)).map Prod.snd).getD (le m.body 4 1) = le m.body 5 1 then w.moved else w.moved + 1
          shares := w.shares.map (fun e => if e.1 = le m.body 4 1 then (le m.body 4 1, le m.body 5 1) else e)
          refused := if ((v.shares.find? (fun e => e.1 == le m.body 4 1)).map Prod.snd).getD (le m.body 4 1) = le m.body 5 1 ∨ w.refused.contains (((v.shares.find? (fun e => e.1 == le m.body 4 1)).map Prod.snd).getD (le m.body 4 1)) then w.refused else w.refused ++ [((v.shares.find? (fun e => e.1 == le m.body 4 1)).map Prod.snd).getD (le m.body 4 1)]
          batches := w.batches.filter (fun e => e.2 != le m.body 4 1)
            ++ (if le m.body 5 1 = s.ownId then w.shareBatches (le m.body 4 1) else [])
          image := w.image.filter (fun e =>
            solverOf w.dests.length w.tileList ((w.dests.findIdx (· == e.2.1)) / 64) != some (le m.body 4 1)) })).fault { source := 0xF904, code := 0x24 } else s.modSolve (fun w => { w with
          reported := false, done := []
          moved := if ((v.shares.find? (fun e => e.1 == le m.body 4 1)).map Prod.snd).getD (le m.body 4 1) = le m.body 5 1 then w.moved else w.moved + 1
          shares := w.shares.map (fun e => if e.1 = le m.body 4 1 then (le m.body 4 1, le m.body 5 1) else e)
          refused := if ((v.shares.find? (fun e => e.1 == le m.body 4 1)).map Prod.snd).getD (le m.body 4 1) = le m.body 5 1 ∨ w.refused.contains (((v.shares.find? (fun e => e.1 == le m.body 4 1)).map Prod.snd).getD (le m.body 4 1)) then w.refused else w.refused ++ [((v.shares.find? (fun e => e.1 == le m.body 4 1)).map Prod.snd).getD (le m.body 4 1)]
          batches := w.batches.filter (fun e => e.2 != le m.body 4 1)
            ++ (if le m.body 5 1 = s.ownId then w.shareBatches (le m.body 4 1) else [])
          image := w.image.filter (fun e =>
            solverOf w.dests.length w.tileList ((w.dests.findIdx (· == e.2.1)) / 64) != some (le m.body 4 1)) }))))
  ∧ (∀ (m : Msg) (s : State),
      s.senderMay m.src 3 = true →
      (s.fabric.solve.map Solve.id) = some (le m.body 0 4) →
      exec (.solveDoneReceive m) s = .next (Done s ((s.gotSolveDone m.src (le m.body 4 1) (le m.body 5 1) (le m.body 6 1) (le m.body 8 2) (field m.body 12 32) (le m.body 44 4)).settleSolves)))
  ∧ (∀ (m : Msg) (v : Solve) (s : State),
      s.senderMay m.src 3 = true →
      s.fabric.solve = some v →
      v.id = le m.body 0 4 →
      le m.body 4 1 = 1 →
      v.epochRepeat = false →
      exec (.solveAbortReceive m) s = .next (Done s ({ s with fabric := { s.fabric with solve := none, keptDeltas := [], repeating := some (v.params, v.repeats) } })))
  ∧ (∀ (m : Msg) (v : Solve) (s : State),
      s.senderMay m.src 3 = true →
      s.fabric.solve = some v →
      v.id = le m.body 0 4 →
      le m.body 4 1 = 2 →
      exec (.solveAbortReceive m) s = .next (Done s ((({ s with fabric := { s.fabric with solve := none, keptDeltas := [], repeating := none } } : State).noteFinished v.params v.id 2).settleSolves)))

/-- A primary that is ordered to stage while no epoch drains stages its image, and one that is ordered to commit plans the commit of that epoch at that tick; reports of staging for the staged solve and reports of the commit are taken. (R286, R287, R288, R290, R292) -/
def Obligations.EpochMessagesComplete : Prop :=
  (∀ (m : Msg) (s : State),
      s.senderMay m.src 3 = true →
      s.isPrimary = true →
      s.fabric.epoch.state ≠ .draining →
      exec (.epochStageReceive m) s = .next (Done s (((s.modEpoch (fun e => { e with owner := .host, stageCmd := none })).setEpochState .staging).orderStage (le m.body 0 4) (le m.body 4 1) m.src)))
  ∧ (∀ (m : Msg) (s : State),
      s.senderMay m.src 3 = true →
      s.isPrimary = true →
      s.fabric.epoch.state = .draining →
      exec (.epochStageReceive m) s = .next (Done s ((s.modEpoch (fun e => { e with owner := .host, stageCmd := none })).forceRetire.modEpoch (fun e => { e with forcedStage := some (le m.body 0 4, le m.body 4 1, m.src) }))))
  ∧ (∀ (m : Msg) (s : State),
      s.senderMay m.src 3 = true →
      s.fabric.epoch.stagedId = le m.body 0 4 →
      s.fabric.epoch.state = .staging →
      exec (.epochStagedReceive m) s = .next (Done s (s.gotStaged (le m.body 4 1) (le m.body 5 1) (le m.body 6 2))))
  ∧ (∀ (m : Msg) (s : State),
      s.senderMay m.src 3 = true →
      ¬(s.fabric.epoch.stagedId = le m.body 0 4 ∧ s.fabric.epoch.state = .staging) →
      exec (.epochStagedReceive m) s = .next (Done s (s.modEpoch (fun e => { e with
        stagedEarly := lastN 64 (e.stagedEarly ++ [(le m.body 0 4, le m.body 4 1, le m.body 5 1, le m.body 6 2)]) }))))
  ∧ (∀ (m : Msg) (s : State),
      s.senderMay m.src 3 = true →
      s.isPrimary = true →
      exec (.epochCommitReceive m) s = .next (Done s ((s.modEpoch (fun e => { e with commitBy := some m.src, commitCmd := none })).orderCommit (le m.body 0 4) (le m.body 4 2) (le m.body 6 2) (s.instantOf (le m.body 8 6)))))
  ∧ (∀ (m : Msg) (s : State),
      s.senderMay m.src 3 = true →
      exec (.epochDoneReceive m) s = .next (Done s (s.gotDone (le m.body 4 1) (le m.body 5 1))))

/-- A drained unit is OFF and its command ends with the last one; a unit that still drains 3,750,000 ticks after its UNIT_DISABLE was accepted is ACTIVE again; a planned operating point is taken at its marker while the droop flag is clear; the droop flag is set and cleared with the stretcher; a droop lowers the cap by one step; a measured slowdown sets the guard band as R500 says, and lost references set it to 30; a current-step sample joins the last 16 of its key; a grant in use is renewed 16 ticks before its end. (R489, R496, R497, R498, R499, R500, R510, R514) -/
def Obligations.PowerEventsComplete : Prop :=
  (∀ (kind idx : Nat) (c : Cmd) (s : State),
      s.unitStatus kind idx = .draining →
      s.unitWork kind idx = 0 →
      (s.unitOff kind idx).unitCmd 0x0904 kind idx = some c →
      exec (.unitDrainComplete kind idx) s = .next (Done s (if (pairsOf c.data).all (fun u => (s.unitOff kind idx).unitStatus u.1 u.2 == .off) then (s.unitOff kind idx).endCmd c.id 0 0 else s.unitOff kind idx)))
  ∧ (∀ (kind idx : Nat) (u : UnitRec) (c : Cmd) (s : State),
      s.unitRec kind idx = some u →
      s.unitCmd 0x0904 kind idx = some c →
      u.status = .draining →
      c.since + 3750000 ≤ s.clock.now →
      exec (.unitDrainTimeout kind idx) s = .next (Done s (((pairsOf c.data).foldl (fun t v => if t.unitStatus v.1 v.2 = .draining then t.clearUnit v.1 v.2 else t) s).endCmd c.id 0x50 0)))
  ∧ (∀ (p t : Nat) (s : State),
      s.power.change = some (p, t) →
      t + s.switchTicks ≤ s.clock.now →
      s.power.droop = false →
      s.power.guardNext = none →
      exec (.oppointSwitch) s = .next (Done s (({ s with power := { s.power with op := p, change := none } } : State).driveCore)))
  ∧ (∀ (s : State),
      exec (.droopFlagSet) s = .next (Done s ({ s with power := { s.power with droop := true, stretching := true } })))
  ∧ (∀ (s : State),
      exec (.droopFlagClear) s = .next (Done s ({ s with power := { s.power with droop := false, stretching := false } })))
  ∧ (∀ (s : State),
      exec (.droopLowering) s = .next (Done s ({ s with power := { s.power with
        droopCap := some (min s.power.op (s.power.droopCap.getD 3) - 1), droopAt := some s.clock.now
        droopLowerings := satAdd 32 s.power.droopLowerings 1 } })))
  ∧ (∀ (slowdown : Int) (s : State),
      s.up.dev ≠ .stage2 →
      exec (.ageingMeasure slowdown true) s = .next (Done s (if s.power.guard < min 30 (10 + uncertainty s.faults.opsec + ageing slowdown) then ({ s with power := { s.power with slowdown := slowdown, guardU := uncertainty s.faults.opsec, guardA := ageing slowdown, refsLost := false } } : State).setGuard (min 30 (10 + uncertainty s.faults.opsec + ageing slowdown))
      else { s with power := { s.power with
        slowdown := slowdown, guardU := uncertainty s.faults.opsec, guardA := ageing slowdown, refsLost := false
        guardNext := if min 30 (10 + uncertainty s.faults.opsec + ageing slowdown) < s.power.guard then some (min 30 (10 + uncertainty s.faults.opsec + ageing slowdown)) else none } })))
  ∧ (∀ (slowdown : Int) (s : State),
      s.power.refsLost = false →
      exec (.ageingMeasure slowdown false) s = .next (Done s ((({ s with power := { s.power with refsLost := true } } : State).fault { source := 0xF130, code := 0x14 }).setGuard 30)))
  ∧ (∀ (addr kind e0 e1 e2 e3 h : Nat) (s : State),
      s.shelfOf addr = some h →
      exec (.currentStepSample addr kind e0 e1 e2 e3) s = .next (Done s ({ s with power := { s.power with
        samples := kvSet s.power.samples (addr * 8 + kind) ((((100 * ((e3 - e2) - (e1 - e0)), 4 * s.clock.period * max 1 (s.shelf h).volts) : Nat × Nat)
          :: (kvGet s.power.samples (addr * 8 + kind)).getD []).take 16) } })))
  ∧ (∀ (addr kind action e : Nat) (g : Grant) (s : State),
      s.power.grants.find? (fun g => g.addr == addr && g.kind == kind && g.action == action) = some g →
      g.standing = true →
      g.expiry = some e →
      e ≤ s.clock.now + 16 →
      s.clock.now < e →
      exec (.grantWarmRenew addr kind action) s = .next (Done s ((s.keepGrant { g with expiry := some (s.clock.now + 16384) }).sendGrant { g with expiry := some (s.clock.now + 16384) } 0)))

/-- A sample replaces the readings, fences each sensor outside -20 to 150 degrees and keeps since when all are at 100 degrees or less; at 105 degrees, 16 ticks after the last one, the cap falls by one step and the event is recorded, and at OP0 the crossbars are halved from 110 degrees; after 6,250 cool ticks the crossbar rate and then one step return; the comparator stops the clocks and trips; an average above 835 W lowers the cap by one step and 6,250 ticks below 800 W raise it; the operating seconds are written every 64. (R501, R502, R503, R505, R616) -/
def Obligations.ThermalEventsComplete : Prop :=
  (∀ (temps : List Int) (bad : List Nat) (t : State) (s : State),
      bad = ((temps.take 48).zipIdx.filter (fun x => (x.1 < -200 || 1500 < x.1) && !(s.unitStatus 15 x.2).lost)).map Prod.snd →
      t = bad.foldl (fun v i => v.fault { source := unitSource 15 i, code := 0x10 }) { s with power := { s.power with temps := temps.take 48 } } →
      exec (.thermalSample temps) s = .next (Done s ({ t with power := { t.power with
        coolSince := if (t.sensors.filter (fun x => !bad.contains x.1)).all (fun x => decide (x.2 ≤ 1000)) then
          some (t.power.coolSince.getD t.clock.now) else none } })))
  ∧ (∀ (s : State),
      s.sensors.any (fun x => decide (1050 ≤ x.2)) = true →
      s.power.heatAt = none →
      min s.power.op (s.power.heatCap.getD 3) ≠ 0 →
      exec (.thermalLowering) s = .next (Done s (({ s with power := { s.power with heatAt := some s.clock.now, heatCap := some (min s.power.op (s.power.heatCap.getD 3) - 1) } }
        : State).fault { source := 0xF130, code := 0x11 })))
  ∧ (∀ (s : State),
      s.sensors.any (fun x => decide (1050 ≤ x.2)) = true →
      s.power.heatAt = none →
      min s.power.op (s.power.heatCap.getD 3) = 0 →
      exec (.thermalLowering) s = .next (Done s ({ s with power := { s.power with
        heatAt := some s.clock.now, heatCap := some 0, halved := s.power.halved || s.sensors.any (fun x => decide (1100 ≤ x.2)) } })))
  ∧ (∀ (t c : Nat) (s : State),
      s.power.coolSince = some t →
      t + 6250 ≤ s.clock.now →
      s.power.halved = false →
      s.power.heatCap = some c →
      exec (.thermalRecoveryRaise) s = .next (Done s ({ s with power := { s.power with heatCap := if 2 ≤ c then none else some (c + 1), coolSince := some s.clock.now } })))
  ∧ (∀ (t : Nat) (s : State),
      s.power.coolSince = some t →
      t + 6250 ≤ s.clock.now →
      s.power.halved = true →
      exec (.thermalRecoveryRaise) s = .next (Done s ({ s with power := { s.power with halved := false, coolSince := some s.clock.now } })))
  ∧ (∀ (sensor : Nat) (s : State),
      exec (.thermComparatorTrip sensor) s = .next (Done s (({ s with up := { s.up with tripped := true, clocksStopped := true } } : State).fault { source := unitSource 15 (sensor % 48), code := 0x12 })))
  ∧ (∀ (average logic : Nat) (s : State),
      8350 < average →
      exec (.tdpLimitLowering average logic) s = .next (Done s ({ s with power := { s.power with
        average := average, logic := logic, tdpLow := none, tdpCap := some (min s.power.op (s.power.tdpCap.getD 3) - 1) } })))
  ∧ (∀ (average logic t c : Nat) (s : State),
      s.power.tdpLow = some t →
      s.power.tdpCap = some c →
      average < 8000 →
      t + 6250 ≤ s.clock.now →
      exec (.tdpRecoveryRaise average logic) s = .next (Done s ({ s with power := { s.power with
        average := average, logic := logic, tdpCap := if 2 ≤ c then none else some (c + 1), tdpLow := some s.clock.now } })))
  ∧ (∀ (s : State),
      s.faults.opsecStored + 64 ≤ s.faults.opsec →
      exec (.opsecWrite) s = .next (Done s ({ s with faults := { s.faults with opsecStored := s.faults.opsec, nextStored := s.faults.nextIndex } })))

/-- A detected fault of a device that is neither off nor halted is handled as a fault record of its source, code, key, job and detail, the line that it poisons being poisoned; a unit at work that stops answering is a fault of code 5; a fencing unit becomes FENCED; at the end of the quiet time the device recovers; a full block that is old enough is spilled, and a failed spill tried again 62,500 ticks later. (R595, R596, R603, R607, R616, R617) -/
def Obligations.FaultEventsComplete : Prop :=
  (∀ (source code key job : Nat) (detail : Bytes) (handling : Option Nat) (poison : PoisonLine) (s : State),
      s.up.dev ≠ .off →
      s.up.dev ≠ .halt →
      exec (.faultDetect source code key job detail handling poison) s = .next (Done s ((s.poisonLine poison).fault { source := source, code := code, key := key, job := job, detail := detail, handling := handling })))
  ∧ (∀ (kind idx : Nat) (s : State),
      s.up.dev ≠ .off →
      s.up.dev ≠ .halt →
      idx < unitCount kind →
      s.unitGood kind idx = true →
      exec (.unitWatchdogExpire kind idx) s = .next (Done s (s.fault { source := unitSource kind idx, code := 5 })))
  ∧ (∀ (kind idx : Nat) (u : UnitRec) (s : State),
      s.unitRec kind idx = some u →
      u.status = .fencing →
      exec (.fencingComplete kind idx) s = .next (Done s (s.setUnit { u with status := .fenced, outstanding := 0 })))
  ∧ (∀ (s : State),
      s.up.dev = .fault →
      s.faults.latched = false →
      s.faults.releasedAt = none →
      s.faultEnd ≤ s.clock.now →
      exec (.faultQuietEnd) s = .next (Done s (s.recover)))
  ∧ (∀ (failures : Nat) (s : State),
      s.faults.blockFull = true →
      s.faults.spillRetry = none →
      s.up.dev ≠ .off →
      s.faults.blockNewest + 62500 ≤ s.clock.now →
      exec (.eventBlockSpill failures) s = .next (Done s (s.spillBlock failures)))
  ∧ (∀ (failures t : Nat) (s : State),
      s.faults.spillRetry = some t →
      t + 62500 ≤ s.clock.now →
      s.faults.blockFull = true →
      exec (.eventSpillRetry failures) s = .next (Done s (s.spillBlock failures)))

/-- While Buckram works: SYNC counts the cycle and the silent shelves; a short or extended report with a good CRC and the number of the running cycle is read for its shelf; 1,000 silent cycles mark a shelf; a strobe 0.99 s or more after the window opened closes it, an earlier one is counted as ignored; a window closes itself after 64 s; a closed window is sealed 5 ms after its close; a self fault seals a SHORT batch and fences Buckram. (R523, R525, R526, R527, R528, R530) -/
def Obligations.MeterBusCompletes : Prop :=
  (∀ (s : State),
      s.buckram.works = true →
      exec (.meterBusCycle) s = .next (Done s (s.modBuckram (fun b => { b with
        cycles := b.cycles + 1
        meters := (b.shelves.filter MeterShelf.reported).length
        shelves := b.shelves.map (fun x => { x with
          silent := if x.reported then 0 else x.silent + 1, reported := false }) }))))
  ∧ (∀ (shelf : Nat) (frame : Bytes) (s : State),
      s.buckram.works = true →
      crc16 (field frame 0 6) = le frame 6 2 →
      le frame 0 1 = s.buckram.cycles % 256 →
      exec (.shortReportReceive shelf frame) s = .next (Done s (s.modBuckram (fun x => x.modShelf shelf (fun m => m.short (le frame 1 4) (le frame 5 1))))))
  ∧ (∀ (frame : Bytes) (s : State),
      s.buckram.works = true →
      crc32 (field frame 0 28) = le frame 28 4 →
      le frame 0 2 = s.buckram.cycles % 65536 →
      le frame 2 1 = s.buckram.cycles % 65536 % 96 →
      exec (.extendedReportReceive frame) s = .next (Done s (s.modBuckram (fun x => x.modShelf (le frame 2 1) (fun m => m.extended (le frame 4 8) (le frame 12 8) (le frame 20 4) (le frame 3 1))))))
  ∧ (∀ (shelf : Nat) (s : State),
      s.buckram.works = true →
      exec (.meterSilent shelf) s = .next (Done s (s.modBuckram (fun b => b.modShelf shelf (fun x => if 1000 ≤ x.silent then { x with silentMark := true } else x)))))
  ∧ (∀ (us : Nat) (s : State),
      s.buckram.works = true →
      exec (.mtrStrobeReceive us) s = .next (Done s (if s.buckram.time + us % 1000 < s.buckram.openAt + 990000 then s.modBuckram (fun x => { x with ignored := x.ignored + 1 })
      else ((s.sealWindow).modBuckram (fun x => x.close (s.buckram.time + us % 1000) false)).setMtrState 1)))
  ∧ (∀ (s : State),
      s.buckram.works = true →
      s.buckram.openAt + 64000000 ≤ s.buckram.time →
      exec (.windowSelfClose) s = .next (Done s (((s.sealWindow).modBuckram (fun x => x.close (s.buckram.openAt + 64000000) true)).setMtrState 2)))
  ∧ (∀ (w : ClosedWindow) (s : State),
      s.buckram.closed = some w →
      s.buckram.works = true →
      w.at_ + 5000 ≤ s.buckram.time →
      exec (.windowSeal) s = .next (Done s (s.sealWindow)))
  ∧ (∀ (s : State),
      s.buckram.state ≠ 3 →
      ((((s.sealBatch true).setMtrState 3).fault { source := unitSource 3 0, code := 3 }).setUnit { kind := 3, index := 0, status := .fenced, code := 3, tick := s.tickNow, since := s.clock.now }).buckram.paramCmd = none →
      exec (.buckramSelfFault) s = .next (Done s (((((s.sealBatch true).setMtrState 3).fault { source := unitSource 3 0, code := 3 }).setUnit { kind := 3, index := 0, status := .fenced, code := 3, tick := s.tickNow, since := s.clock.now }).refreshDev)))

/-- A mailbox message at the front is taken by its kind: BOUNDARY keeps its tick, COUNTS charges the readings of slots up to 64 and shelves up to 95, the last PARAM segment in order completes the packet, QUERY answers one segment from its offset, SEAL_NOTICE seals a SHORT batch. At the cores an answered segment is copied and the last one ends the command with ST_OK, an answer of length 0 with ST_NOT_FOUND; a query without an answer for 64 ticks ends with ST_TIMEOUT. (R528, R530, R533, R538, R541, R543, R544) -/
def Obligations.MailboxCompletes : Prop :=
  (∀ (b : Buckram) (m : Bytes) (s : State),
      s.buckram.works = true →
      s.buckram.take 1 = some (b, m) →
      exec (.mboxBoundary) s = .next (Done s (s.modBuckram (fun _ => { b with boundary := some (le m 2 6) }))))
  ∧ (∀ (b : Buckram) (m : Bytes) (s : State),
      s.buckram.works = true →
      s.buckram.take 2 = some (b, m) →
      exec (.mboxCounts) s = .next (Done s (s.modBuckram (fun _ => (((chunks 20 3 (m.drop 2)).map readingOf).filter (fun r => r.slot ≤ 64 && r.shelf ≤ 95)).foldl (fun x r => x.reading r) b))))
  ∧ (∀ (b : Buckram) (m : Bytes) (s : State),
      s.buckram.works = true →
      s.buckram.take 3 = some (b, m) →
      le m 2 1 = 0 →
      le m 3 1 = 1 →
      exec (.mboxParam) s = .next (Done s (((s.modBuckram (fun _ => b)).modBuckram (fun x => { x with param := ([], 0) })).mtrParam (field m 4 60))))
  ∧ (∀ (b : Buckram) (m : Bytes) (s : State),
      s.buckram.works = true →
      s.buckram.take 5 = some (b, m) →
      exec (.mboxSealNotice) s = .next (Done s ((s.modBuckram (fun _ => b)).sealBatch true)))
  ∧ (∀ (b : Buckram) (m a : Bytes) (s : State),
      s.buckram.take 4 = some (b, m) →
      s.buckram.works = true →
      b.answer (le m 2 1) (le m 4 8) (le m 12 2) (le m 14 2) = some a →
      le m 2 1 ≠ 1 →
      exec (.mboxQuery) s = .next (Done s (s.modBuckram (fun _ => { b with
        resp := (a.drop (le m 20 4)).take 4096, respSeq := le m 16 4, respTotal := a.length
        queries := b.queries.map (fun q => if q.seq = le m 16 4 ∧ q.offset = le m 20 4 then { q with answered := true } else q) }))))
  ∧ (∀ (q : MtrQuery) (rest : List MtrQuery) (s : State),
      s.buckram.queries = q :: rest →
      q.answered = true →
      s.buckram.respSeq = q.seq →
      s.buckram.resp ≠ [] →
      s.buckram.respTotal ≤ (q.got ++ s.buckram.resp).length →
      exec (.mtrQuerySegmentAnswer) s = .next (Done s (s.endQuery 0 0 (q.got ++ s.buckram.resp))))
  ∧ (∀ (q : MtrQuery) (rest : List MtrQuery) (s : State),
      s.buckram.queries = q :: rest →
      q.answered = true →
      s.buckram.respSeq = q.seq →
      s.buckram.resp = [] →
      s.buckram.respTotal = 0 →
      exec (.mtrQuerySegmentAnswer) s = .next (Done s (s.endQuery 0x11 (((s.cmd q.cmd).map (fun c : Cmd => c.pkt.off 0)).getD 64) q.got)))
  ∧ (∀ (q : MtrQuery) (rest : List MtrQuery) (s : State),
      s.buckram.queries = q :: rest →
      q.answered = false →
      q.sentAt + 64 ≤ s.clock.now →
      exec (.mtrQueryTimeout) s = .next (Done s (s.endQuery 0x50 0 [])))

/-- Counts of the running exchange that are in order are taken, and the receive lists written when they are complete; counts of no plan are discarded and counted; when every count of the bolt and every bolt's list is there, the pairs are planned from the second marker after the next on, the exchange is granted and its headers written; without them by the deadline it fails with cause 1; each pass sends the cards of the next round, late ones counted; 4 ticks after the last round the members that have not reported are asked. (R391, R394, R395, R399, R402, R407, R410) -/
def Obligations.ExchangePlanningCompletes : Prop :=
  (∀ (f : Flit) (s : State),
      s.jacquard.plans.find? (fun p => p.countStream == f.stream && !p.opening) = none →
      exec (.countFlitReceive f) s = .next (Done s ({ s with jacquard := { s.jacquard with discarded := s.jacquard.discarded + 1 } })))
  ∧ (∀ (f : Flit) (p : Plan) (s : State),
      s.jacquard.plans.find? (fun p => p.countStream == f.stream && !p.opening) = some p →
      s.plan p.id = some p →
      p.cur.state = 1 →
      (xchgHeader f).kind = 2 →
      (xchgHeader f).rank < p.n →
      (xchgHeader f).num = p.cur.num % 256 →
      s.countStore + 8 * (xchgRecords f (s.delta p.job)).length ≤ 2 ^ 30 →
      countsGood p.n (((p.cur.counts.filter (fun c => c.1 == (xchgHeader f).rank)).getLast?).map (fun c => c.2.1)) (xchgRecords f (s.delta p.job)) = true →
      exec (.countFlitReceive f) s = .next (Done s ((s.modPlan p.id (fun x => { x with cur := p.takeCounts p.cur s.clock.now (xchgHeader f).rank (xchgHeader f).last (xchgRecords f (s.delta p.job)) })).writeLists p.id)))
  ∧ (∀ (plan : Nat) (p : Plan) (s : State),
      s.plan plan = some p →
      p.cur.state = 1 →
      p.cur.cAt = none →
      ((p.ranksOf s.up.bolt).all (fun r => p.cur.lastFrom.contains r) && p.bolts.all (fun b => p.cur.ready.any (fun r => r.1 == b))) = true →
      p.cur.ready.foldl (fun a r => a + r.2) 0 ≤ 4194304 →
      ((s.localPairs p p.cur).filter (fun q => p.bolt q.dst != s.up.bolt)).length ≤ 1048576 →
      p.isEqual = false →
      p.presumed = none →
      exec (.countsComplete plan) s = .next (Done s (((((s.modPlan p.id (fun x => { x with countsAt := s.tickNow })).modExch p.id (fun x => { x with
        state := 2, cAt := some s.clock.now, round0 := s.clock.now + 4, lastRound := s.clock.now + 4
        pairs := s.localPairs p p.cur, caps := s.capsNow p })).mirrorExchange p.id).grantExchange p.id).writeHeaders p.id)))
  ∧ (∀ (plan t : Nat) (p : Plan) (s : State),
      s.plan plan = some p →
      p.cur.firstAt = some t →
      p.cur.state = 1 →
      p.cur.cAt = none →
      t + p.deadline ≤ s.clock.now →
      exec (.countDeadline plan) s = .next (Done s (s.failExchange plan 1 true)))
  ∧ (∀ (plan : Nat) (p : Plan) (s : State),
      s.plan plan = some p →
      s.planNext = some plan →
      p.cur.presumed = [] →
      s.activeUnits 11 ≠ [] →
      exec (.planningPass plan) s = .next (Done s (let s1 := s.modPlan plan (fun x => { x with
        misses := x.misses + (max (p.cur.round0 + p.cur.nextRound + p.cur.slip) (s.clock.now + 2) - (p.cur.round0 + p.cur.nextRound + p.cur.slip)), rounds := x.rounds + 1
        followRounds := x.followRounds + flag (decide (p.cur.followUp = 1))
        repairRounds := x.repairRounds + flag (decide (p.cur.followUp = 2))
        cur := { x.cur with
          nextRound := p.cur.nextRound + 1, slip := p.cur.slip + (max (p.cur.round0 + p.cur.nextRound + p.cur.slip) (s.clock.now + 2) - (p.cur.round0 + p.cur.nextRound + p.cur.slip)), presumed := [], pairs := (s.planRound p p.cur p.cur.nextRound (decide (p.cur.followUp ≠ 0)) p.cur.pairs).2
          rounds := p.cur.rounds + 1, lastRound := max (p.cur.round0 + p.cur.nextRound + p.cur.slip) (s.clock.now + 2)
          out := p.cur.out.filter (fun o => decide (s.clock.now < o.1)) ++ [(max (p.cur.round0 + p.cur.nextRound + p.cur.slip) (s.clock.now + 2), (s.planRound p p.cur p.cur.nextRound (decide (p.cur.followUp ≠ 0)) p.cur.pairs).1)] } })
      ({ s1 with jacquard := { s1.jacquard with grants := s1.jacquard.grants + 1 } } : State).sendCards p (max (p.cur.round0 + p.cur.nextRound + p.cur.slip) (s.clock.now + 2)) (s.planRound p p.cur p.cur.nextRound (decide (p.cur.followUp ≠ 0)) p.cur.pairs).1)))
  ∧ (∀ (plan : Nat) (p : Plan) (s : State),
      s.plan plan = some p →
      p.cur.state = 2 →
      p.cur.presumed = [] →
      p.cur.pairs.any (fun q => q.rem != 0) = false →
      p.cur.lastRound + 4 ≤ s.clock.now →
      exec (.exchangeCheckStart plan) s = .next (Done s (((p.ranksOf s.up.bolt).filter (fun r => !p.cur.complete.contains r)).foldl (fun t r => t.writeArea p { p.cur with state := 3, checkAt := s.clock.now, asked := (p.ranksOf s.up.bolt).filter (fun r => !p.cur.complete.contains r), repairing := false } r false) ((s.modExch plan (fun _ => { p.cur with state := 3, checkAt := s.clock.now, asked := (p.ranksOf s.up.bolt).filter (fun r => !p.cur.complete.contains r), repairing := false })).mirrorExchange plan))))

/-- A member silent 2 ticks after CHECK counts as short from every other source; a complete report is kept and its list of short sources planned again; XCHG_READY notes the lists, the landing or the failure of a bolt; XCHG_REPAIR plans the short pairs of this bolt again; at the agent a plan-area flit is written, a data flit that fits lands at its offset, and another is counted as misdelivered. (R387, R390, R392, R393, R407, R408, R409) -/
def Obligations.ExchangeLandingCompletes : Prop :=
  (∀ (plan rank : Nat) (p : Plan) (s : State),
      s.plan plan = some p →
      p.cur.asked.contains rank = true →
      p.cur.checkAt + 2 ≤ s.clock.now →
      exec (.memberReportTimeout plan rank) s = .next (Done s (s.shortPairs plan rank (((p.receiveList p.cur rank).map Prod.fst).filter (fun r => r != rank)))))
  ∧ (∀ (f : Flit) (p : Plan) (s : State),
      s.jacquard.plans.find? (fun p => p.countStream == f.stream) = some p →
      (xchgHeader f).kind = 4 →
      (xchgHeader f).num = p.cur.num % 256 →
      (p.ranksOf s.up.bolt).contains (xchgHeader f).rank = true →
      p.cur.state = 2 ∨ p.cur.state = 3 →
      xchgRecords f (s.delta p.job) = [] →
      (xchgHeader f).last = true →
      exec (.reportFlitReceive f) s = .next (Done s ((s.modExch p.id (fun e => { e with
          complete := if e.complete.contains (xchgHeader f).rank then e.complete else e.complete ++ [(xchgHeader f).rank]
          asked := e.asked.filter (· != (xchgHeader f).rank) })).localComplete p.id)))
  ∧ (∀ (f : Flit) (p : Plan) (s : State),
      s.jacquard.plans.find? (fun p => p.countStream == f.stream) = some p →
      (xchgHeader f).kind = 4 →
      (xchgHeader f).num = p.cur.num % 256 →
      (p.ranksOf s.up.bolt).contains (xchgHeader f).rank = true →
      p.cur.state = 2 ∨ p.cur.state = 3 →
      xchgRecords f (s.delta p.job) ≠ [] →
      p.cur.asked.contains (xchgHeader f).rank = true →
      exec (.reportFlitReceive f) s = .next (Done s (s.shortPairs p.id (xchgHeader f).rank ((xchgRecords f (s.delta p.job)).map Prod.fst))))
  ∧ (∀ (m : Msg) (p : Plan) (s : State),
      s.senderMay m.src 6 = true →
      s.plan (le m.body 0 2) = some p →
      p.cur.num = le m.body 2 4 →
      p.cur.state ≠ 0 →
      p.cur.state < 4 →
      le m.body 7 1 = 0 →
      exec (.xchgReadyReceive m) s = .next (Done s (s.modExch (le m.body 0 2) (fun e => { e with ready := e.ready.filter (fun r => r.1 != le m.body 6 1) ++ [(le m.body 6 1, le m.body 10 4)] }))))
  ∧ (∀ (m : Msg) (p : Plan) (s : State),
      s.senderMay m.src 6 = true →
      s.plan (le m.body 0 2) = some p →
      p.cur.num = le m.body 2 4 →
      p.cur.state ≠ 0 →
      p.cur.state < 4 →
      le m.body 7 1 = 1 →
      exec (.xchgReadyReceive m) s = .next (Done s ((s.modExch (le m.body 0 2) (fun e => { e with
          landed := if e.landed.contains (le m.body 6 1) then e.landed else e.landed ++ [le m.body 6 1] })).doneExchange (le m.body 0 2))))
  ∧ (∀ (m : Msg) (p : Plan) (s : State),
      s.senderMay m.src 6 = true →
      s.plan (le m.body 0 2) = some p →
      p.cur.num = le m.body 2 4 →
      p.cur.state ≠ 0 →
      p.cur.state < 4 →
      2 ≤ le m.body 7 1 →
      1 ≤ le m.body 8 1 →
      le m.body 8 1 ≤ 9 →
      exec (.xchgReadyReceive m) s = .next (Done s (s.failExchange (le m.body 0 2) (le m.body 8 1) false)))
  ∧ (∀ (m : Msg) (p : Plan) (s : State),
      s.senderMay m.src 6 = true →
      s.plan (le m.body 0 2) = some p →
      p.cur.num = le m.body 2 4 →
      exec (.xchgRepairReceive m) s = .next (Done s (s.repairPairs p.id ((chunks 4 (min 48 (le m.body 6 1)) (m.body.drop 8)).map (fun r => (le r 0 2, le r 2 2))))))
  ∧ (∀ (f : Flit) (item countStream rank : Nat) (s : State),
      (xchgHeader f).kind = 3 →
      (xchgHeader f).pos ≠ 0 →
      s.agentForwards = true →
      exec (.agentPlanAreaWrite f item countStream rank) s = .next (Done s ((s.putMemberExch { s.memberExch f.stream with area := (areaPut (s.memberExch f.stream).area (8 * (xchgHeader f).pos) (f.payload.drop 8)) }).reportIfComplete f.stream item countStream rank)))
  ∧ (∀ (port : Nat) (f : Flit) (item countStream rank : Nat) (s : State),
      (xchgHeader f).kind = 1 →
      (s.memberExch f.stream).listComplete = true →
      le (s.memberExch f.stream).area 4 1 = (xchgHeader f).num →
      8 * (xchgHeader f).pos + (f.payload.drop 8).length
        ≤ ((((s.memberExch f.stream).entries.find? (fun e => e.1 == (xchgHeader f).rank)).map Prod.snd).getD 0) * item →
      s.agentForwards = true →
      exec (.agentExchangeData port f item countStream rank) s = .next (Done s ((s.putMemberExch { s.memberExch f.stream with
        landed := (s.memberExch f.stream).landed.filter (fun l => !(l.1 == ((s.memberExch f.stream).landingOf item (xchgHeader f).rank + 8 * (xchgHeader f).pos) && l.2.length ≤ (f.payload.drop 8).length))
          ++ [(((s.memberExch f.stream).landingOf item (xchgHeader f).rank + 8 * (xchgHeader f).pos), f.payload.drop 8)] }).reportIfComplete f.stream item countStream rank)))
  ∧ (∀ (port : Nat) (f : Flit) (item countStream rank : Nat) (s : State),
      (xchgHeader f).kind ≠ 1 →
      s.agentForwards = true →
      exec (.agentExchangeData port f item countStream rank) s = .next (Done s (s.portCount { node := .agent, port := port } 8)))

/-- A request for no table is refused with reason 1, one beyond the window with reason 5, and a good new one of a table that needs no wait is marked and served at once; held lookups of jobs that are not isolated start at the next marker; waiting records are admitted when lines are free; TABLE_SHARD numbers a table at the tick master, creates a shard or records a configuration and is answered by TABLE_SHARD_DONE; an answer is counted for its operation; an operation without answers for 8 ticks ends with ST_TIMEOUT. (R423, R425, R426, R434, R435, R442, R447) -/
def Obligations.TablesComplete : Prop :=
  (∀ (f : Flit) (s : State),
      (s.table (calHeader f.payload).table).filter (fun t => t.state != 3) = none →
      exec (.tableRequestReceive f) s = .next (Done s (s.refuseRequest f (calHeader f.payload) 1)))
  ∧ (∀ (f : Flit) (t : CalTable) (s : State),
      (s.table (calHeader f.payload).table).filter (fun t => t.state != 3) = some t →
      f.job = t.job →
      s.tableMember t.job f.src = true →
      (if 1 ≤ (calHeader f.payload).op ∧ (calHeader f.payload).op ≤ 3 then (calRecords (calHeader f.payload) f.payload).filter (fun r => r.length == (calHeader f.payload).size) else []).any (fun r => t.shards.getD (t.place (le r 0 8)).shard 0xFF != s.ownId) = false →
      (calHeader f.payload).good t f.enc f.payload = true →
      t.state = 0 →
      (t.window f.src).judge (calHeader f.payload).req = 2 →
      exec (.tableRequestReceive f) s = .next (Done s (s.refuseRequest f (calHeader f.payload) 5)))
  ∧ (∀ (f : Flit) (t : CalTable) (s : State),
      (s.table (calHeader f.payload).table).filter (fun t => t.state != 3) = some t →
      f.job = t.job →
      s.tableMember t.job f.src = true →
      (if 1 ≤ (calHeader f.payload).op ∧ (calHeader f.payload).op ≤ 3 then (calRecords (calHeader f.payload) f.payload).filter (fun r => r.length == (calHeader f.payload).size) else []).any (fun r => t.shards.getD (t.place (le r 0 8)).shard 0xFF != s.ownId) = false →
      (calHeader f.payload).good t f.enc f.payload = true →
      t.state = 0 →
      (t.window f.src).judge (calHeader f.payload).req = 0 →
      (s.isolated t.job).isSome = false →
      (calHeader f.payload).op = 3 →
      exec (.tableRequestReceive f) s = .next (Done s ((s.modTable t.id (fun t => t.mark f.src (calHeader f.payload).req)).runRequest f s.clock.now s.clock.now false)))
  ∧ (∀ (s : State),
      exec (.strictLookupRelease) s = .next (Done s ((s.calico.held.filter (fun h => ((s.table (calHeader h.flit.payload).table).any (fun t => (s.isolated t.job).isNone)) && decide (h.at_ < s.clock.now))).foldl (fun t h => t.runRequest h.flit h.at_ t.clock.now h.dup)
        { s with calico := { s.calico with held := s.calico.held.filter (fun h => !(fun h => ((s.table (calHeader h.flit.payload).table).any (fun t => (s.isolated t.job).isNone)) && decide (h.at_ < s.clock.now)) h) } })))
  ∧ (∀ (slot : Nat) (t : State) (s : State),
      t = ((s.calico.stalled.zip s.calico.stalledTables).filter (fun x => s.engineOf x.1.slot == s.engineOf slot)).foldl (fun t x => t.takeRecord x.2 x.1) { s with calico := { s.calico with stalled := ((s.calico.stalled.zip s.calico.stalledTables).filter (fun x => !(s.engineOf x.1.slot == s.engineOf slot))).map Prod.fst, stalledTables := ((s.calico.stalled.zip s.calico.stalledTables).filter (fun x => !(s.engineOf x.1.slot == s.engineOf slot))).map Prod.snd } } →
      t.stalledAt slot = false →
      exec (.coalescingStallResume slot) s = .next (Done s ((t.calico.held.filter (fun h => match t.table (calHeader h.flit.payload).table with
          | some u => (t.isolated u.job).isNone && (!u.strict || decide (h.at_ < t.clock.now)) && !t.lookupStalled u h.flit
          | none => false)).foldl (fun v h => v.serveLookup h.flit v.clock.now) { t with calico := { t.calico with held := t.calico.held.filter (fun h => !(fun h => match t.table (calHeader h.flit.payload).table with
          | some u => (t.isolated u.job).isNone && (!u.strict || decide (h.at_ < t.clock.now)) && !t.lookupStalled u h.flit
          | none => false) h) } })))
  ∧ (∀ (m : Msg) (i : Nat) (t : State) (s : State),
      s.senderMay m.src 7 = true →
      le m.body 0 1 = 0 →
      le m.body 2 2 = 0xFFFF →
      s.numbersTables = true →
      s.assignTable = (t, some i) →
      exec (.tableShardReceive m) s = .next (Done s (t.sendDone m.src 0 0 i 0)))
  ∧ (∀ (m : Msg) (s : State),
      s.senderMay m.src 7 = true →
      le m.body 0 1 = 0 →
      le m.body 2 2 ≠ 0xFFFF →
      exec (.tableShardReceive m) s = .next (Done s ((s.createShard (le m.body 2 2) (le m.body 4 2) (s.instantOf (le m.body 8 6)) (m.body.drop 16)).1.sendDone m.src 0 (flag (s.createShard (le m.body 2 2) (le m.body 4 2) (s.instantOf (le m.body 8 6)) (m.body.drop 16)).2.isSome) (le m.body 2 2) ((s.createShard (le m.body 2 2) (le m.body 4 2) (s.instantOf (le m.body 8 6)) (m.body.drop 16)).2.getD 0))))
  ∧ (∀ (m : Msg) (t : CalTable) (s : State),
      s.senderMay m.src 7 = true →
      le m.body 0 1 = 1 →
      s.table (le m.body 2 2) = some t →
      exec (.tableShardReceive m) s = .next (Done s ((s.modTable (le m.body 2 2) (fun t => { t with configs := t.configs ++ [(s.instantOf (le m.body 8 6), m.body.drop 16)] })).sendDone m.src 1 0 (le m.body 2 2) 0)))
  ∧ (∀ (m : Msg) (o : ShardOp) (s : State),
      s.senderMay m.src 7 = true →
      s.calico.ops.find? (fun o => o.op == le m.body 0 1 && o.waiting.contains m.src && (o.needId || o.table == le m.body 2 2)) = some o →
      o.needId = false →
      exec (.tableShardDoneReceive m) s = .next (Done s (s.shardAnswer o.cmd m.src (le m.body 1 1) (le m.body 4 4))))
  ∧ (∀ (cmd : Nat) (o : ShardOp) (s : State),
      s.calico.ops.find? (fun o => o.cmd == cmd) = some o →
      o.needId = false →
      o.op ≠ 0 →
      o.op ≠ 2 →
      o.since + 8 ≤ s.clock.now →
      exec (.tableShardTimeout cmd) s = .next (Done s (({ s with calico := { s.calico with ops := s.calico.ops.filter (fun x => x.cmd != cmd) } } : State).endCmd cmd 0x50 (o.waiting.headD 0))))

/-- Lines of an OPEN generation inside their reservation land, others are recorded at S1; an END keeps total and digest; a shard whose lines are all there is ACCEPTED when the digest agrees, and answered MISMATCH otherwise; missing ranges are listed every 8 ticks; a parity page that is whole is acknowledged, and the acknowledgement takes the page off its shard; a generation whose reports are complete commits and is known with its holders, one past its deadline fails with cause 1, one with no page left in parity is cleared. (R461, R465, R468, R469, R474, R475) -/
def Obligations.CheckpointFlowCompletes : Prop :=
  (∀ (f : Flit) (x : StoreSlot) (y : StoreShard) (s : State),
      (rsHeader f.payload).kind = 1 →
      s.genSlot f.job (rsHeader f.payload).gen = some x →
      s.shard f.job (rsHeader f.payload).gen (rsHeader f.payload).owner = some y →
      x.state = 2 →
      f.stream = (s.storeStreams f.job).ckpt →
      (rsHeader f.payload).off + min 3 (rsHeader f.payload).flags ≤ y.reserved →
      exec (.checkpointDataReceive .geneel f) s = .next (Done s ((s.touchRestart f.job y (rsLines (rsHeader f.payload) f.payload)).modShard f.job (rsHeader f.payload).gen (rsHeader f.payload).owner (fun z => { z with lines := putLines z.lines (rsLines (rsHeader f.payload) f.payload) }))))
  ∧ (∀ (f : Flit) (s : State),
      (rsHeader f.payload).kind = 1 →
      s.genSlot f.job (rsHeader f.payload).gen = none →
      exec (.checkpointDataReceive .geneel f) s = .next (Done s (s.fault { source := 0xF909, code := 0x28, job := f.job })))
  ∧ (∀ (f : Flit) (x : StoreSlot) (y : StoreShard) (s : State),
      (rsHeader f.payload).kind = 2 →
      s.genSlot f.job (rsHeader f.payload).gen = some x →
      s.shard f.job (rsHeader f.payload).gen (rsHeader f.payload).owner = some y →
      y.accepted = false →
      x.state = 2 →
      le f.payload 16 4 ≤ y.reserved →
      exec (.checkpointEndReceive .geneel f) s = .next (Done s (s.modShard f.job (rsHeader f.payload).gen (rsHeader f.payload).owner (fun z => { z with
            fin := some (le f.payload 16 4, field f.payload 24 32), endAt := s.clock.now, gapAt := s.clock.now, sender := f.src }))))
  ∧ (∀ (job gen owner : Nat) (x : StoreSlot) (y : StoreShard) (total : Nat) (dig : Bytes) (s : State),
      s.genSlot job gen = some x →
      s.shard job gen owner = some y →
      y.fin = some (total, dig) →
      x.state = 2 →
      y.accepted = false →
      coveredTo y.lines total = true →
      s.store.mode = 0 →
      exec (.shardDigestComplete job gen owner) s = .next (Done s (if shardDigest job gen owner total y.lines = dig then ((s.modShard job gen owner (fun z => { z with accepted := true, parity := [] })).sendGap y.sender job gen owner 1 []).tellChecked job gen else if 1 ≤ y.mismatches then ((s.modShard job gen owner (fun z => { z with mismatches := z.mismatches + 1, fin := none })).sendGap y.sender job gen owner 2 [(0, total)]).failGen job gen 2 else ((s.modShard job gen owner (fun z => { z with mismatches := z.mismatches + 1, fin := none })).sendGap y.sender job gen owner 2 [(0, total)]))))
  ∧ (∀ (job gen owner : Nat) (x : StoreSlot) (y : StoreShard) (total : Nat) (dig : Bytes) (s : State),
      s.genSlot job gen = some x →
      s.shard job gen owner = some y →
      y.fin = some (total, dig) →
      x.state = 2 →
      y.accepted = false →
      coveredTo y.lines total = false →
      y.gapAt + 8 ≤ s.clock.now →
      exec (.gapResendTimer job gen owner) s = .next (Done s (((s.modShard job gen owner (fun z => { z with gapAt := s.clock.now })).sendGap y.sender job gen owner 0 (missingRanges y.lines total)).agentGap job gen owner)))
  ∧ (∀ (f : Flit) (got : List (Nat × Nat × Nat)) (s : State),
      (rsHeader f.payload).kind = 7 →
      s.store.mode = 1 →
      (rsHeader f.payload).off / 64 % 4 = s.up.bolt % 4 →
      got = (s.store.parGot ++ (rsLines (rsHeader f.payload) f.payload).map (fun (l : Nat × Bytes) => (f.src, (rsHeader f.payload).off / 64, l.1 % 64))).eraseDups →
      exec (.parReceive f) s = .next (Done s (if (got.filter (fun g => g.1 == f.src && g.2.1 == (rsHeader f.payload).off / 64)).length = 64 then
        (s.modStore (fun t => { t with parity := (rsLines (rsHeader f.payload) f.payload).foldl (fun m l =>
        let v := xorLine ((kvGet m (64 * ((rsHeader f.payload).off / 64 / 4) + l.1 % 64)).getD (zeros 64)) l.2
        if allZero v then kvErase m (64 * ((rsHeader f.payload).off / 64 / 4) + l.1 % 64)
        else kvSet m (64 * ((rsHeader f.payload).off / 64 / 4) + l.1 % 64) v) s.store.parity, parGot := got.filter (fun g => !(g.1 == f.src && g.2.1 == (rsHeader f.payload).off / 64)) })).rsSend
          f.src 0 0x0010 8 0 0 0 (64 * ((rsHeader f.payload).off / 64)) []
      else s.modStore (fun t => { t with parity := (rsLines (rsHeader f.payload) f.payload).foldl (fun m l =>
        let v := xorLine ((kvGet m (64 * ((rsHeader f.payload).off / 64 / 4) + l.1 % 64)).getD (zeros 64)) l.2
        if allZero v then kvErase m (64 * ((rsHeader f.payload).off / 64 / 4) + l.1 % 64)
        else kvSet m (64 * ((rsHeader f.payload).off / 64 / 4) + l.1 % 64) v) s.store.parity, parGot := got }))))
  ∧ (∀ (f : Flit) (s : State),
      (rsHeader f.payload).kind = 8 →
      exec (.packReceive f) s = .next (Done s ((s.store.slots.filter (fun x => x.shards.any (fun y => y.parity.contains ((rsHeader f.payload).off / 64)))).foldl (fun t x =>
        (t.modGen x.job x.gen (fun z => { z with
          shards := z.shards.map (fun y => { y with parity := y.parity.filter (· != (rsHeader f.payload).off / 64) }) })).tellChecked x.job x.gen) s)))
  ∧ (∀ (job gen : Nat) (k : GenTrack) (s : State),
      s.track job gen = some k →
      k.complete = true →
      s.failing job gen = false →
      exec (.generationCommit job gen) s = .next (Done s (((((k.holders.filter (fun h => h.1 != s.ownAddr)).foldl (fun t h => t.genCtl h.1 1 0 job gen t.clock.now []) s).modStore (fun t => { t with
        known := t.known.filter (fun e => !(e.1 == job && e.2.1 == gen)) ++ [(job, gen, k.holders.map Prod.fst)] })).commitGenHere job gen s.tickNow).endTrack job gen true)))
  ∧ (∀ (job gen : Nat) (x : StoreSlot) (s : State),
      s.genSlot job gen = some x →
      x.state = 2 →
      x.openAt + x.deadline ≤ s.clock.now →
      exec (.generationDeadline job gen) s = .next (Done s (s.failGen job gen 1)))
  ∧ (∀ (job gen : Nat) (x : StoreSlot) (s : State),
      s.genSlot job gen = some x →
      x.state = 1 →
      x.pendingPages = 0 →
      exec (.clearingComplete job gen) s = .next (Done s (((s.modStore (fun t => { t with slots := t.slots.filter (fun z => !(z.job == job && z.gen == gen)) })).closeStore job).mirrorDelta
        8 (job * 2 + gen % 2) (toLe 4 gen ++ toLe 1 0))))

/-- GAP to an OPEN generation sends the listed ranges again, and to a served member that is satisfied ends its serving; PULL of a COMMITTED shard by its owner sends the lines and waits; RDATA lands at the restoring member, which judges a shard whose END or REND has come (ACCEPTED, MISMATCH, or after 8 ticks its missing ranges); after a commit with spill the shards that leave from here go to the storage target that holds the key; GEN_CTL waits for its tick and GEN_REPORT is taken. (R458, R465, R476, R478, R482) -/
def Obligations.RestoreFlowCompletes : Prop :=
  (∀ (f : Flit) (x : StoreSlot) (y : StoreShard) (s : State),
      s.genSlot f.job (rsHeader f.payload).gen = some x →
      s.shard f.job (rsHeader f.payload).gen (rsHeader f.payload).owner = some y →
      (rsHeader f.payload).kind = 6 →
      s.store.serving.find? (fun v => v.job == f.job && v.gen == (rsHeader f.payload).gen && v.len == (rsHeader f.payload).owner && v.len == f.src && v.sent) = none →
      bit (rsHeader f.payload).flags 0 = false →
      2 ≤ x.state →
      exec (.gapReceive f) s = .next (Done s (s.sendLines f.src f.job (rsHeader f.payload).gen y 1 (rsRecords ((rsHeader f.payload).flags / 16) f.payload))))
  ∧ (∀ (f : Flit) (x : StoreSlot) (y : StoreShard) (v : Serving) (s : State),
      s.genSlot f.job (rsHeader f.payload).gen = some x →
      s.shard f.job (rsHeader f.payload).gen (rsHeader f.payload).owner = some y →
      (rsHeader f.payload).kind = 6 →
      s.store.serving.find? (fun v => v.job == f.job && v.gen == (rsHeader f.payload).gen && v.len == (rsHeader f.payload).owner && v.len == f.src && v.sent) = some v →
      bit (rsHeader f.payload).flags 0 = true →
      exec (.gapReceive f) s = .next (Done s (s.served v)))
  ∧ (∀ (f : Flit) (x : StoreSlot) (y : StoreShard) (s : State),
      (rsHeader f.payload).kind = 5 →
      s.genSlot f.job (rsHeader f.payload).gen = some x →
      s.shard f.job (rsHeader f.payload).gen (rsHeader f.payload).owner = some y →
      x.state = 3 →
      f.src = (rsHeader f.payload).owner →
      exec (.pullReceive .geneel f) s = .next (Done s (((s.grantStreams f.job (rsHeader f.payload).gen [f.src]).sendLines f.src f.job (rsHeader f.payload).gen y 3 (pullRanges (rsRecords (rsHeader f.payload).flags f.payload) ((y.fin.map Prod.fst).getD 0))).modStore (fun t => { t with serving := t.serving ++ [{
                job := f.job, gen := (rsHeader f.payload).gen, len := f.src, kind := 2, sent := true, requester := s.ownAddr }] }))))
  ∧ (∀ (f : Flit) (s : State),
      (rsHeader f.payload).kind = 3 →
      s.agentForwards = true →
      exec (.rdataReceive .agent f) s = .next (Done s (s.agentJudge { (s.agentShard f.job (rsHeader f.payload).gen (rsHeader f.payload).owner) with lines := putLines (s.agentShard f.job (rsHeader f.payload).gen (rsHeader f.payload).owner).lines (rsLines (rsHeader f.payload) f.payload) })))
  ∧ (∀ (f : Flit) (s : State),
      (rsHeader f.payload).kind = 4 →
      s.agentForwards = true →
      exec (.rdataReceive .agent f) s = .next (Done s (s.agentJudge ((s.agentShard f.job (rsHeader f.payload).gen (rsHeader f.payload).owner).ended f s.agent.core.tick))))
  ∧ (∀ (job gen owner total : Nat) (dig : Bytes) (s : State),
      s.genSlot job gen = none →
      (s.agentShard job gen owner).rend = some (total, dig) →
      s.agentForwards = true →
      (s.agentShard job gen owner).done = false →
      coveredTo (s.agentShard job gen owner).lines total = false →
      (s.agentShard job gen owner).gapAt + 8 ≤ s.agent.core.tick →
      exec (.gapResendTimer job gen owner) s = .next (Done s ((s.putAgentShard { s.agentShard job gen owner with gapAt := s.agent.core.tick }).agentRs (s.agentShard job gen owner).sender job (s.agentShard job gen owner).stream 6 (16 * (missingRanges (s.agentShard job gen owner).lines total).length) owner gen 0 (recordBytesOf (missingRanges (s.agentShard job gen owner).lines total)))))
  ∧ (∀ (job gen a : Nat) (x : StoreSlot) (s : State),
      s.genSlot job gen = some x →
      s.storageTarget = some a →
      s.store.spill = true →
      x.state = 3 →
      x.spilled = false →
      (s.holdersOf job 1).contains a = true →
      exec (.spillAfterCommit job gen) s = .next (Done s ((x.shards.filter (fun y => s.spillsHere y && !y.spilled)).foldl (fun t y => t.sendLines a job gen y 1 [(0, (y.fin.map Prod.fst).getD 0)]) s)))
  ∧ (∀ (m : Msg) (s : State),
      s.senderMay m.src 8 = true →
      le m.body 0 1 ≤ 4 →
      exec (.genCtlReceive m) s = .next (Done s ((s.modStore (fun t => { t with due := t.due ++ [{
        op := le m.body 0 1, cause := le m.body 1 1, job := le m.body 2 2, gen := le m.body 4 4, src := m.src, params := m.body.drop 16
        at_ := s.instantOf (le m.body 8 6) }] })).storeMarker)))
  ∧ (∀ (m : Msg) (s : State),
      s.senderMay m.src 8 = true →
      le m.body 0 1 ≠ 4 →
      le m.body 1 1 ≠ 3 →
      exec (.genReportReceive m) s = .next (Done s (s.gotReport m.src (le m.body 0 1) (le m.body 1 1) (le m.body 2 2) (le m.body 4 4) (le m.body 8 4) (le m.body 12 4))))
  ∧ (∀ (m : Msg) (s : State),
      s.senderMay m.src 8 = true →
      le m.body 0 1 = 4 →
      exec (.genReportReceive m) s = .next (Done s (s.gotRestored m.src (le m.body 2 2) (le m.body 4 4))))

/-- Of a listed peer: an offer to the higher ID with a good certificate is answered with nonce, encapsulation key and measurement, and one with a bad certificate refused (each row has one clause for all cases and one for the case in which it takes its effect); an answer at the lower ID is kept; a signed key of sufficient version begins the session with the ciphertext sent; a signed ciphertext begins it at the other side; a wrapped key whose tag agrees is held and installed at the agents of the bolt; reports and orders of the key owner are taken. (R574, R575, R576, R577, R580, R581) -/
def Obligations.PeerSessionsComplete : Prop :=
  (∀ (m : Msg) (p : Peer) (s : State),
      s.senderMay m.src 0x0B = true →
      s.peerAt m.src = some p →
      le m.body 0 1 = 0 →
      le m.body 1 1 = p.id →
      p.id < s.ownId →
      exec (.peerSessionOffer m) s = .next (Done s (if (peerKey p (field m.body 36 3144)).isNone then s.refusePeer p
      else
        let (s1, mine) := s.randomBytes 32
        let (s2, k) := s1.draw
        let s3 := s2.modPeer m.src (fun q => { q with
          ownNonce := some mine, farNonce := field m.body 4 32, farCert := field m.body 36 3144, kem := k })
        let s4 := s3.send (s3.msgTo m.src 0x68 (s3.sessionHead 1 ++ mine ++ field (Config.partBytes "device certificate") 0 3144))
        let x := s4.sec
        let head := s4.sessionHead 2 ++ field (Config.kemPublic ("peer session " ++ toString k)) 0 1568
          ++ field (x.slot x.runSlot).digest 0 32 ++ toLe 4 (x.slot x.runSlot).version ++ zeros 4
        let (s5, n) := s4.draw
        let sig := field (Config.falconSign "device" (sessionDigest (field m.body 4 32) mine head) n) 0 1280
        s5.send (s5.msgTo m.src 0x68 (head ++ sig)))))
  ∧ (∀ (m : Msg) (p : Peer) (key : Bytes) (s : State),
      s.senderMay m.src 0x0B = true →
      s.peerAt m.src = some p →
      le m.body 0 1 = 0 →
      le m.body 1 1 = p.id →
      p.id < s.ownId →
      peerKey p (field m.body 36 3144) = some key →
      exec (.peerSessionOffer m) s = .next (Done s (let (s1, mine) := s.randomBytes 32
      let (s2, k) := s1.draw
      let s3 := s2.modPeer m.src (fun q => { q with
        ownNonce := some mine, farNonce := field m.body 4 32, farCert := field m.body 36 3144, kem := k })
      let s4 := s3.send (s3.msgTo m.src 0x68 (s3.sessionHead 1 ++ mine ++ field (Config.partBytes "device certificate") 0 3144))
      let x := s4.sec
      let head := s4.sessionHead 2 ++ field (Config.kemPublic ("peer session " ++ toString k)) 0 1568
        ++ field (x.slot x.runSlot).digest 0 32 ++ toLe 4 (x.slot x.runSlot).version ++ zeros 4
      let (s5, n) := s4.draw
      let sig := field (Config.falconSign "device" (sessionDigest (field m.body 4 32) mine head) n) 0 1280
      s5.send (s5.msgTo m.src 0x68 (head ++ sig)))))
  ∧ (∀ (m : Msg) (p : Peer) (n : Bytes) (s : State),
      s.senderMay m.src 0x0B = true →
      s.peerAt m.src = some p →
      le m.body 0 1 = 1 →
      le m.body 1 1 = p.id →
      p.ownNonce = some n →
      s.ownId < p.id →
      exec (.peerSessionAnswer m) s = .next (Done s (if (peerKey p (field m.body 36 3144)).isNone then s.refusePeer p
      else s.modPeer m.src (fun q => { q with farNonce := field m.body 4 32, farCert := field m.body 36 3144 }))))
  ∧ (∀ (m : Msg) (p : Peer) (n key : Bytes) (s : State),
      s.senderMay m.src 0x0B = true →
      s.peerAt m.src = some p →
      le m.body 0 1 = 1 →
      le m.body 1 1 = p.id →
      p.ownNonce = some n →
      s.ownId < p.id →
      peerKey p (field m.body 36 3144) = some key →
      exec (.peerSessionAnswer m) s = .next (Done s (s.modPeer m.src (fun q => { q with farNonce := field m.body 4 32, farCert := field m.body 36 3144 }))))
  ∧ (∀ (m : Msg) (p : Peer) (mine : Bytes) (s : State),
      s.senderMay m.src 0x0B = true →
      s.peerAt m.src = some p →
      le m.body 0 1 = 2 →
      le m.body 1 1 = p.id →
      p.ownNonce = some mine →
      s.ownId < p.id →
      exec (.peerSessionKey m) s = .next (Done s (match peerKey p p.farCert with
      | none => s
      | some key =>
        if falconVerify key (sessionDigest mine p.farNonce (field m.body 0 1612)) (field m.body 1612 1280) = true
            ∧ s.sec.policy.minFw ≤ le m.body 1604 4 ∧ s.sec.policy.revoked.contains (field m.body 1572 32) = false then
          let (s1, n) := s.draw
          let (ct, secret) := Config.kemEncap (field m.body 4 1568) n
          let head := s1.sessionHead 3 ++ field ct 0 1568
          let (s2, k) := s1.draw
          let sig := field (Config.falconSign "device" (sessionDigest mine p.farNonce head) k) 0 1280
          (s2.send (s2.msgTo m.src 0x68 (head ++ sig))).beginSession p (peerSessionKey secret s.ownId p.id) m.msgid
        else s.refusePeer p)))
  ∧ (∀ (m : Msg) (p : Peer) (mine key : Bytes) (s : State),
      s.senderMay m.src 0x0B = true →
      s.peerAt m.src = some p →
      le m.body 0 1 = 2 →
      le m.body 1 1 = p.id →
      p.ownNonce = some mine →
      s.ownId < p.id →
      peerKey p p.farCert = some key →
      falconVerify key (sessionDigest mine p.farNonce (field m.body 0 1612)) (field m.body 1612 1280) = true →
      s.sec.policy.minFw ≤ le m.body 1604 4 →
      s.sec.policy.revoked.contains (field m.body 1572 32) = false →
      exec (.peerSessionKey m) s = .next (Done s (let (s1, n) := s.draw
      let (ct, secret) := Config.kemEncap (field m.body 4 1568) n
      let head := s1.sessionHead 3 ++ field ct 0 1568
      let (s2, k) := s1.draw
      let sig := field (Config.falconSign "device" (sessionDigest mine p.farNonce head) k) 0 1280
      (s2.send (s2.msgTo m.src 0x68 (head ++ sig))).beginSession p (peerSessionKey secret s.ownId p.id) m.msgid)))
  ∧ (∀ (m : Msg) (p : Peer) (mine : Bytes) (s : State),
      s.senderMay m.src 0x0B = true →
      s.peerAt m.src = some p →
      le m.body 0 1 = 3 →
      le m.body 1 1 = p.id →
      p.ownNonce = some mine →
      p.id < s.ownId →
      exec (.peerSessionCiphertext m) s = .next (Done s (match peerKey p p.farCert with
      | none => s
      | some key =>
        if falconVerify key (sessionDigest p.farNonce mine (field m.body 0 1572)) (field m.body 1572 1280) = true then
          (s.selvedgeSpend { ver := 1, kem := 1 }).beginSession p (peerSessionKey (Config.kemDecap ("peer session " ++ toString p.kem) (field m.body 4 1568)) s.ownId p.id) m.msgid
        else s.refusePeer p)))
  ∧ (∀ (m : Msg) (p : Peer) (mine key : Bytes) (s : State),
      s.senderMay m.src 0x0B = true →
      s.peerAt m.src = some p →
      le m.body 0 1 = 3 →
      le m.body 1 1 = p.id →
      p.ownNonce = some mine →
      p.id < s.ownId →
      peerKey p p.farCert = some key →
      falconVerify key (sessionDigest p.farNonce mine (field m.body 0 1572)) (field m.body 1572 1280) = true →
      exec (.peerSessionCiphertext m) s = .next (Done s ((s.selvedgeSpend { ver := 1, kem := 1 }).beginSession p (peerSessionKey (Config.kemDecap ("peer session " ++ toString p.kem) (field m.body 4 1568)) s.ownId p.id) m.msgid)))
  ∧ (∀ (m : Msg) (sk : Bytes) (s : State),
      s.senderMay m.src 0x0B = true →
      (s.peerAt m.src).bind Peer.session = some sk →
      le m.body 0 2 ≤ 4095 →
      le m.body 2 1 ≤ 1 →
      s.sec.debugOpen = false →
      exec (.keyXferReceive m) s = .next (Done s (if field (Config.gcmTag sk (toLe 4 m.msgid ++ zeros 8) (field m.body 0 8) (field (Config.gcmDecrypt sk (toLe 4 m.msgid ++ zeros 8) (field m.body 8 32)) 0 32)) 0 16 ≠ field m.body 40 16 then s
      else
        let s1 := s.holdKey {
          job := le m.body 0 2, kind := le m.body 2 1, generation := le m.body 4 2, key := field (Config.gcmDecrypt sk (toLe 4 m.msgid ++ zeros 8) (field m.body 8 32)) 0 32
          current := (s.currentKey (le m.body 0 2) (le m.body 2 1)).isNone, since := s.clock.now
          used := (s.currentKey (le m.body 0 2) (le m.body 2 1)).isNone }
        let agents := if s.isPrimary ∧ le m.body 2 1 = 0 then s1.agentHolders (le m.body 0 2) 0 else []
        let s2 := agents.foldl (fun t a => t.keyInstall a {
          job := le m.body 0 2, kind := le m.body 2 1, generation := le m.body 4 2, key := field (Config.gcmDecrypt sk (toLe 4 m.msgid ++ zeros 8) (field m.body 8 32)) 0 32
          current := (s.currentKey (le m.body 0 2) (le m.body 2 1)).isNone, since := s.clock.now
          used := (s.currentKey (le m.body 0 2) (le m.body 2 1)).isNone } none .keyInstall) s1
        (s2.modSec (fun x => { x with rotations := x.rotations.filter (fun r => !r.is (le m.body 0 2) (le m.body 2 1)) ++ [{
          job := le m.body 0 2, kind := le m.body 2 1, generation := le m.body 4 2, due := 0, stage := .serving, outstanding := agents
          owner := m.src }] })).servingInstalled)))
  ∧ (∀ (m : Msg) (sk : Bytes) (s : State),
      s.senderMay m.src 0x0B = true →
      (s.peerAt m.src).bind Peer.session = some sk →
      le m.body 0 2 ≤ 4095 →
      le m.body 2 1 ≤ 1 →
      s.sec.debugOpen = false →
      field (Config.gcmTag sk (toLe 4 m.msgid ++ zeros 8) (field m.body 0 8) (field (Config.gcmDecrypt sk (toLe 4 m.msgid ++ zeros 8) (field m.body 8 32)) 0 32)) 0 16 = field m.body 40 16 →
      exec (.keyXferReceive m) s = .next (Done s (let s1 := s.holdKey {
        job := le m.body 0 2, kind := le m.body 2 1, generation := le m.body 4 2, key := field (Config.gcmDecrypt sk (toLe 4 m.msgid ++ zeros 8) (field m.body 8 32)) 0 32
        current := (s.currentKey (le m.body 0 2) (le m.body 2 1)).isNone, since := s.clock.now
        used := (s.currentKey (le m.body 0 2) (le m.body 2 1)).isNone }
      let agents := if s.isPrimary ∧ le m.body 2 1 = 0 then s1.agentHolders (le m.body 0 2) 0 else []
      let s2 := agents.foldl (fun t a => t.keyInstall a {
        job := le m.body 0 2, kind := le m.body 2 1, generation := le m.body 4 2, key := field (Config.gcmDecrypt sk (toLe 4 m.msgid ++ zeros 8) (field m.body 8 32)) 0 32
        current := (s.currentKey (le m.body 0 2) (le m.body 2 1)).isNone, since := s.clock.now
        used := (s.currentKey (le m.body 0 2) (le m.body 2 1)).isNone } none .keyInstall) s1
      (s2.modSec (fun x => { x with rotations := x.rotations.filter (fun r => !r.is (le m.body 0 2) (le m.body 2 1)) ++ [{
        job := le m.body 0 2, kind := le m.body 2 1, generation := le m.body 4 2, due := 0, stage := .serving, outstanding := agents
        owner := m.src }] })).servingInstalled)))
  ∧ (∀ (m : Msg) (r : Rotation) (s : State),
      s.senderMay m.src 0x0B = true →
      s.rotation (le m.body 0 2) (le m.body 2 1) = some r →
      r.owner = s.ownAddr →
      r.generation = le m.body 4 2 →
      le m.body 3 1 = 0 →
      exec (.keyStateReceive m) s = .next (Done s ((s.keyNodeDone (le m.body 0 2) (le m.body 2 1) m.src [.installing]).orderSwitches)))
  ∧ (∀ (m : Msg) (s : State),
      s.senderMay m.src 0x0B = true →
      le m.body 3 1 ≤ 1 →
      le m.body 2 1 = 1 →
      exec (.keyOrderReceive m) s = .next (Done s (s.modSec (fun x => { x with
        keys := if le m.body 3 1 = 0 then x.keys.map (fun k =>
          if k.job = le m.body 0 2 ∧ k.kind = le m.body 2 1 ∧ k.generation = le m.body 4 2 ∧ !k.used then
            { k with tag := some (s.instantOf (le m.body 8 6)) } else k) else x.keys
        orders := x.orders ++ [{
        job := le m.body 0 2, kind := 1, op := le m.body 3 1, generation := le m.body 4 2, at_ := s.instantOf (le m.body 8 6), owner := m.src }] }))))

/-- At the primary that owns the key a key in force as old as its lifetime begins a rotation by itself; after the interval of the policy every ATTESTED agent is attested again; a debug nonce of 3,750,000 ticks is discarded; a sweep re-encrypts the next page and reports the last. (R572, R579, R581, R589) -/
def Obligations.SecurityTimersComplete : Prop :=
  (∀ (job kind : Nat) (k : HeldKey) (life : Nat) (s : State),
      s.currentKey job kind = some k →
      kind ≤ 1 →
      life = (if kind = 0 then s.sec.policy.keys.linkLife else s.sec.policy.keys.memLife) →
      life ≠ 0 →
      k.since + life ≤ s.clock.now →
      s.keyOwner job = s.ownAddr →
      s.isPrimary = true →
      s.rotation job kind = none →
      exec (.keyLifetimeExpire job kind) s = .next (Done s (s.autoRotation job kind)))
  ∧ (∀ (s : State),
      s.sec.policy.keys.reattest = true →
      s.sec.policy.keys.interval ≠ 0 →
      s.sec.reattested + s.sec.policy.keys.interval ≤ s.clock.now →
      s.isPrimary = true →
      exec (.reattestInterval) s = .next (Done s (s.attestedAgents.foldl (fun t n => t.startAttest n.addr n.serial n.path) (s.modSec (fun x => { x with reattested := s.clock.now })))))
  ∧ (∀ (n : Bytes) (t : Nat) (s : State),
      s.sec.nonce = some (n, t) →
      t + 3750000 ≤ s.clock.now →
      exec (.debugNonceExpire) s = .next (Done s (s.modSec (fun x => { x with nonce := none }))))
  ∧ (∀ (obj area : Nat) (t : CalTable) (s : State),
      s.table obj = some t →
      exec (.keySweepPage 0 obj area) s = .next (Done s ((s.modTable obj (fun u => u.sweepPage area)).sweepReport t.job)))
  ∧ (∀ (part obj area : Nat) (s : State),
      part ≠ 0 →
      exec (.keySweepPage part obj area) s = .next (Done s ((s.sweepRestart obj area).sweepReport obj)))

/-- BOOT with a good clock enters STAGE1 with its domains booked, the set point of the core rail sent and the records and image loaded, with a bad clock only marks it; STAGE1 to STAGE5, done, fence what was not tested, enter the next stage and book its domains, STAGE5 ending in READY with no trial; a booked domain is switched on when its instant has come, a booked training begun; a passed test of a unit under UNIT_ENABLE is noted, a failed one is a fault. (R624, R626, R629, R637, R638, R639) -/
def Obligations.BringUpStagesComplete : Prop :=
  (∀ (selvedgeOk : Bool) (copies : Nat) (s : State),
      s.up.dev = .boot →
      exec (.bootComplete false selvedgeOk copies) s = .next (Done s ({ s with up := { s.up with clockBad := true } })))
  ∧ (∀ (copies : Nat) (s : State),
      s.up.dev = .boot →
      exec (.bootComplete true true copies) s = .next (Done s (let s1 := ((({ s with up := { s.up with clockBad := false } } : State).enterStage 0 .stage1).bookDomains [0, 1]).driveCore
      let s2 := (if s1.pins.sampled.getLsbD 4 then s1.fault { source := 0xF900, code := 0x2C } else s1).startBuckram
      let s3 := s2.loadPolicy copies
      if s3.up.dev = .halt then s3 else s3.loadRecord.bootImage)))
  ∧ (∀ (s : State),
      s.up.dev = .stage1 →
      s.stageDone [1] s.stage1Target = true →
      2 ≤ (s.fenceUntested [1]).goodCount 1 →
      exec (.stage1Complete) s = .next (Done s (let s2 := (s.fenceUntested [1]).leaderMarker
      let s3 : State := { s2 with
        up := { s2.up with pcycleStored := s2.up.pcycle }
        power := { s2.power with railBudget := if s2.up.placed ∧ le s2.up.region 28 2 ≠ 0 then le s2.up.region 28 2 else 120 } }
      ((s3.enterStage 1 .stage2).bookDomains [2, 3]).enablePhys)))
  ∧ (∀ (s : State),
      s.up.dev = .stage2 →
      s.stageDone [4, 5, 15, 16] 30 = true →
      s.untested [5] = [] →
      (s.fenceUntested [4, 15, 16]).goodCount 4 ≠ 0 →
      exec (.stage2Complete) s = .next (Done s (((s.fenceUntested [4, 15, 16]).enterStage 2 .stage3).bookDomains [4, 5, 6, 7])))
  ∧ (∀ (s : State),
      s.up.dev = .stage3 →
      s.stageDone [6, 7] 1200 = true →
      exec (.stage3Complete) s = .next (Done s (((s.fenceUntested [6, 7]).enterStage 3 .stage4).bookDomains [8, 9, 10, 11])))
  ∧ (∀ (s : State),
      s.up.dev = .stage4 →
      s.stageOver 2500 = true →
      exec (.stage4Complete) s = .next (Done s (((s.fenceUntested [8]).enterStage 4 .stage5).bookDomains ([12, 13, 14, 15, 16, 17, 18].filter (fun d =>
        d == 18 || (domainUnits d).any (fun u => ((s.fenceUntested [8]).enterStage 4 .stage5).unitStatus u.1 u.2 != .off))))))
  ∧ (∀ (s : State),
      s.up.dev = .stage5 →
      s.stageDone [9, 10, 11, 12, 13, 14] 400 = true →
      exec (.stage5Complete) s = .next (Done s (((s.fenceUntested [9, 10, 11, 12, 13, 14]).enterStage 5 .ready).modSec (fun x => { x with policy := { x.policy with trials := 0 } }))))
  ∧ (∀ (what : Nat) (e : Nat × Nat) (s : State),
      s.up.booked.find? (fun e => e.1 == what) = some e →
      e.2 ≤ s.clock.now →
      s.up.dev ≠ .off →
      s.up.dev ≠ .halt →
      what < 32 →
      exec (.railBookingStart what) s = .next (Done s (({ s with up := { s.up with
        booked := s.up.booked.filter (fun x => x.1 != what)
        domains := sortBy (fun x => x) (what :: s.up.domains.filter (· != what)), onAt := kvSet s.up.onAt what s.clock.now } } : State).trainDomain what)))
  ∧ (∀ (kind idx detail : Nat) (rows : List DefectRow) (c : Cmd) (u : UnitRec) (s : State),
      idx < unitCount kind →
      s.domainUsable (testDomain kind idx) = true →
      s.unfenceCmd kind idx = none →
      s.up.dev ≠ testStage kind →
      s.unitCmd 0x0905 kind idx = some c →
      s.unitRec kind idx = some u →
      u.status = .off →
      exec (.selfTestComplete kind idx true detail rows) s = .next (Done s (s.setUnit { u with outstanding := 1 })))
  ∧ (∀ (kind idx detail : Nat) (rows : List DefectRow) (c : Cmd) (u : UnitRec) (s : State),
      idx < unitCount kind →
      s.domainUsable (testDomain kind idx) = true →
      s.unfenceCmd kind idx = none →
      s.up.dev ≠ testStage kind →
      s.unitCmd 0x0905 kind idx = some c →
      s.unitRec kind idx = some u →
      u.status = .off →
      exec (.selfTestComplete kind idx false detail rows) s = .next (Done s (s.fault { source := unitSource kind idx, code := 3 })))
  ∧ (∀ (kind idx detail : Nat) (passed : Bool) (rows : List DefectRow) (s : State),
      idx < unitCount kind →
      s.domainUsable (testDomain kind idx) = true →
      s.unfenceCmd kind idx = none →
      s.up.dev = testStage kind →
      s.up.dev ≠ .off →
      s.isTested kind idx = false →
      (s.testList kind).contains idx = true →
      exec (.selfTestComplete kind idx passed detail rows) s = .next (Done s (s.bringUpTest kind idx passed detail rows)))

/-- PWR_GOOD rising starts a bring-up, or leaves the device cold while RESET_N is low; falling it turns the device off and clears a trip; RESET_N low releases the flash for an external programmer; released after a millisecond it starts a bring-up, after less than 10 microseconds nothing, and between the two one of both; PERST disables the rings of its port, whose commands run on and report elsewhere, and its release gives the port its reset values. (R635, R691, R692, R694, R695, R696) -/
def Obligations.PowerAndResetPinsComplete : Prop :=
  (∀ (straps : Nat) (s : State),
      s.pins.pwrGood = false →
      exec (.pwrGoodRise straps) s = .next (Done s (if s.pins.resetN then ({ s with pins := { s.pins with pwrGood := true, straps := BitVec.ofNat 5 straps } } : State).bringUp true
      else ({ s with pins := { s.pins with pwrGood := true, straps := BitVec.ofNat 5 straps } } : State).cold true)))
  ∧ (∀ (s : State),
      exec (.pwrGoodFall) s = .next (Done s ({ s.cold true with pins := { (s.cold true).pins with pwrGood := false }, up := { (s.cold true).up with tripped := false } })))
  ∧ (∀ (programmed : List (Nat × Bytes)) (s : State),
      s.pins.resetN = true →
      exec (.resetNAssert programmed) s = .next (Done s (programmed.foldl (fun t e => t.programRegion e.1 e.2) { s with pins := { s.pins with resetN := false, flashReleased := true } })))
  ∧ (∀ (us : Nat) (s : State),
      s.pins.resetN = false →
      s.pins.pwrGood = true →
      s.up.tripped = false →
      1000 ≤ us →
      exec (.resetNRelease us) s = .next (Done s (({ s with pins := { s.pins with resetN := true, flashReleased := false } } : State).bringUp (s.up.dev == .off))))
  ∧ (∀ (us : Nat) (s : State),
      s.pins.resetN = false →
      s.pins.pwrGood = true →
      s.up.tripped = false →
      us < 10 →
      s.up.dev ≠ .off →
      exec (.resetNRelease us) s = .next (Done s (({ s with pins := { s.pins with resetN := true, flashReleased := false } } : State))))
  ∧ (∀ (us : Nat) (s : State),
      s.pins.resetN = false →
      s.pins.pwrGood = true →
      s.up.tripped = false →
      10 ≤ us →
      us < 1000 →
      s.up.dev ≠ .off →
      exec (.resetNRelease us) s = .next (Done s (if Config.freeNat s.drawn % 2 = 0 then ({ s with pins := { s.pins with resetN := true, flashReleased := false } } : State).draw.1 else ({ s with pins := { s.pins with resetN := true, flashReleased := false } } : State).draw.1.bringUp false)))
  ∧ (∀ (port : Nat) (s : State),
      exec (.perstAssert port) s = .next (Done s (({ s with host := { s.host with
        cmds := s.host.cmds.map (fun c => if c.cut.contains port then c else { c with cut := c.cut ++ [port] }) } } : State).modHostPort port (fun h => { h with
        perst := true, linkUp := false, rings := h.rings.map (fun r => (r.1, { r.2 with state := .disabled, stopping := false })) }))))
  ∧ (∀ (port : Nat) (s : State),
      (s.hostPort port).perst = true →
      exec (.perstRelease port) s = .next (Done s (let up : Bool := (match s.up.dev with
        | .off | .boot | .stage1 | .halt => false
        | _ => true) && (port == 0 || bit s.pins.sampled.toNat 3)
      s.modHostPort port (fun h => { h.kept s.faults.firstIndex with perst := false, linkUp := up, orphans := h.orphans }))))

/-- An edge of TICK_IN locks a master that follows one and measures the phase elsewhere; two expected intervals without one bring holdover and its event; the master hands over to a healthy PRIMARY of lower ID that has been healthy for 62,500 ticks, and that one emits from the tick announced; at a boundary the strobe pulses, Buckram is told and the primary reads the meters of its endpoints; at every 4,096th marker notices are published; hellos go to the peers. (R53, R56, R57, R339, R528, R530, R660) -/
def Obligations.TickEdgesComplete : Prop :=
  (∀ (ns : Int) (s : State),
      s.up.dev ≠ .off →
      s.up.dev ≠ .halt →
      s.clock.loaded = true →
      s.clock.emitting = true →
      s.clock.mode ≠ 0 →
      exec (.tickInEdge ns) s = .next (Done s ((s.modClock (fun x => { x with edges := x.edges + 1, edgeAt := some x.now })).modClock (fun x => { x with lock := 1 }))))
  ∧ (∀ (ns : Int) (s : State),
      s.up.dev ≠ .off →
      s.up.dev ≠ .halt →
      s.clock.loaded = true →
      s.clock.emitting = false →
      exec (.tickInEdge ns) s = .next (Done s ((s.modClock (fun x => { x with edges := x.edges + 1, edgeAt := some x.now })).modClock (fun x => { x with phase := some (max (-(2 ^ 31 - 1)) (min (2 ^ 31 - 1) ns)) }))))
  ∧ (∀ (s : State),
      s.clock.emitting = true →
      s.clock.mode ≠ 0 →
      s.clock.lock ≠ 2 →
      s.clock.edgeAt.getD 0 + 2 * cdiv s.clock.interval s.clock.period ≤ s.clock.now →
      exec (.tickInHoldover) s = .next (Done s ((s.modClock (fun x => { x with lock := 2 })).fault { source := 0xF128, code := 0x22 })))
  ∧ (∀ (id : Nat) (s : State),
      s.clock.loaded = true →
      id < s.ownId →
      s.clock.emitting = true →
      s.clock.handover = 0 →
      s.healthyId id = true →
      s.primaryId id = true →
      s.twin.peers.any (fun p => p.id == id && (match p.healthySince with | some t => decide (t + 62500 ≤ s.clock.now) | none => false)) = true →
      exec (.mastershipReturn id) s = .next (Done s (s.modClock (fun x => { x with handover := x.tick + 16, nextMaster := id }))))
  ∧ (∀ (id t : Nat) (s : State),
      s.clock.loaded = true →
      id = s.ownId →
      s.clock.emitting = false →
      s.isPrimary = true →
      s.up.dev.healthy = true →
      s.clock.eligibleSince = some t →
      t + 62500 ≤ s.clock.now →
      s.clock.nextMaster = id →
      s.clock.handover = s.clock.tick + 1 →
      exec (.mastershipReturn id) s = .next (Done s (s.modClock (fun x => { x with emitting := true, master := id, handover := 0, nextMaster := 0xFF, lock := 0 }))))
  ∧ (∀ (s : State),
      s.clock.loaded = true →
      s.clock.tick ≠ 0 →
      s.clock.tick % s.ticks 1000000 = 0 →
      s.clock.strobeTick ≠ s.clock.tick →
      s.up.dev ≠ .halt →
      exec (.boundaryStrobe) s = .next (Done s (let s2 := ({ s with
        clock := { s.clock with strobeTick := s.clock.tick }
        pins := { s.pins with mtrStrobe := s.pins.mtrStrobe + 1 } } : State).modBuckram (fun b => b.post 1 (toLe 6 s.clock.tick))
      if s2.isPrimary then ((s2.bankNodes.filter (fun n => n.addr < 0x8000)).map TopoNode.addr).foldl (fun u a => u.readEnergy a) s2 else s2)))
  ∧ (∀ (s : State),
      s.clock.loaded = true →
      s.clock.tick ≠ 0 →
      s.clock.tick % 4096 = 0 →
      s.clock.noticeTick ≠ s.clock.tick →
      s.up.dev ≠ .halt →
      exec (.jobNoticePublish) s = .next (Done s ((s.modClock (fun c => { c with noticeTick := s.clock.tick })).publishNotices)))
  ∧ (∀ (s : State),
      s.up.dev.healthy = true ∨ s.up.dev = .fault →
      exec (.peerHelloSend) s = .next (Done s (s.sendHellos)))

/-- Until the first marker the local instant counts and does the marker's work; the master's own marker is emitted, one that arrives is taken; the elected master begins with marker one 16 P after the start, on an edge in the locked modes, or after two expected intervals in holdover; a marker missed is bridged; after two misses the elected backup emits the next number. (R43, R51, R56, R64, R700, R702) -/
def Obligations.MarkersComplete : Prop :=
  (∀ (s : State),
      s.clock.loaded = false →
      s.clocked = true →
      exec (.localInstant) s = .next (Done s ((s.modClock (fun c => { c with now := c.now + 1 })).marker)))
  ∧ (∀ (s : State),
      s.clocked = true →
      s.clock.loaded = true →
      s.clock.emitting = true →
      exec (.tickMarker none) s = .next (Done s (s.emitNext)))
  ∧ (∀ (m : Msg) (s : State),
      s.clocked = true →
      m.type = 0x10 →
      exec (.tickMarker (some m)) s = .next (Done s (s.gotTick m.body)))
  ∧ (∀ (edge : Bool) (us t : Nat) (s : State),
      s.clock.startFrom = some t →
      s.clock.loaded = false →
      s.clocked = true →
      s.elected = some s.ownId →
      t ≤ s.clock.now →
      s.clock.mode = 0 →
      exec (.markerOneEmit { edge := edge, us := us }) s = .next (Done s (((s.beginEmitting.modClock (fun x => { x with lock := 0, edgeAt := some x.now, startFrom := none })).take 1).sendTick)))
  ∧ (∀ (us t : Nat) (s : State),
      s.clock.startFrom = some t →
      s.clock.loaded = false →
      s.clocked = true →
      s.elected = some s.ownId →
      t ≤ s.clock.now →
      s.clock.mode ≠ 0 →
      16 * s.clock.now + us % 16 ≤ 16 * t + 2 * s.clock.interval →
      exec (.markerOneEmit { edge := true, us := us }) s = .next (Done s (((s.beginEmitting.modClock (fun x => { x with lock := 1, edgeAt := some x.now, startFrom := none })).take 1).sendTick)))
  ∧ (∀ (us t : Nat) (s : State),
      s.clock.startFrom = some t →
      s.clock.loaded = false →
      s.clocked = true →
      s.elected = some s.ownId →
      t ≤ s.clock.now →
      s.clock.mode ≠ 0 →
      16 * t + 2 * s.clock.interval ≤ 16 * s.clock.now + us % 16 →
      exec (.markerOneEmit { edge := false, us := us }) s = .next (Done s ((((s.beginEmitting.modClock (fun x => { x with lock := 2, edgeAt := some x.now, startFrom := none })).take 1).sendTick).fault { source := 0xF128, code := 0x22 })))
  ∧ (∀ (s : State),
      s.clock.loaded = true →
      s.clock.emitting = false →
      s.clocked = true →
      exec (.markerMissed) s = .next (Done s (s.miss)))
  ∧ (∀ (s : State),
      s.clock.loaded = true →
      s.clock.emitting = false →
      s.clocked = true →
      2 ≤ s.clock.missedRun →
      s.electedBut (some s.clock.master) = some s.ownId →
      exec (.backupMarkerEmit) s = .next (Done s ((s.beginEmitting.take (s.clock.tick + 1)).sendTick)))

/-- With the epoch STABLE a waiting change whose result still has the next tag is prepared and staged, and one whose result has not is solved again; a change not staged 3,750,000 ticks after acceptance ends with ST_TIMEOUT; when the last stream of a DRAINING slice is gone the slice and its keys leave the state, its targets are swapped 3 ticks later or at the command's tick, and its command ends then, with a delay told where the swap is later than the tick it named. (R312, R313, R314, R316) -/
def Obligations.SliceEventsComplete : Prop :=
  (∀ (c : SliceChange) (r : SolveResult) (s : State),
      s.access.changes.find? (fun c => c.stage == .waiting && c.rides != 1) = some c →
      s.fabric.epoch.state = .stable →
      s.fabric.results.find? (fun r => r.id == c.solveId) = some r →
      s.resultFresh r = true →
      exec (.sliceChangeStagingStart) s = .next (Done s ((s.prepareChanges r).startStaging r.id 0 .slice none)))
  ∧ (∀ (c : SliceChange) (s : State),
      s.access.changes.find? (fun c => c.stage == .waiting && c.rides != 1) = some c →
      s.fabric.epoch.state = .stable →
      s.fabric.results.find? (fun r => r.id == c.solveId) = none →
      exec (.sliceChangeStagingStart) s = .next (Done s ((s.modChange c.id (fun d => { d with stage := .solving })).solveChange c)))
  ∧ (∀ (job : Nat) (c : SliceChange) (s : State),
      s.access.changes.find? (fun c => c.job == job && c.op != 2 && (c.stage == .solving || c.stage == .waiting)) = some c →
      c.since + 3750000 ≤ s.clock.now →
      exec (.sliceChangeTimeout job) s = .next (Done s (s.failChange c 0x50 0)))
  ∧ (∀ (job : Nat) (x : Slice) (s : State),
      s.slice job = some x →
      x.state = .draining →
      s.streams.any (fun e => e.2.job == job) = false →
      s.host.cmds.find? (fun c => c.pkt.opcode == 0x0403 && c.pkt.job == job && c.stage == 1) = none →
      exec (.sliceDrainEnd job) s = .next (Done s (s.removeSlice job x (s.clock.now + 3))))
  ∧ (∀ (job : Nat) (x : Slice) (c : Cmd) (s : State),
      s.slice job = some x →
      x.state = .draining →
      s.streams.any (fun e => e.2.job == job) = false →
      s.host.cmds.find? (fun c => c.pkt.opcode == 0x0403 && c.pkt.job == job && c.stage == 1) = some c →
      exec (.sliceDrainEnd job) s = .next (Done s (let at_ := max (s.clock.now + 3) (c.data.headD 0)
      let late : Bool := c.pkt.effTick != 0 && decide (c.data.headD 0 < at_)
      (s.removeSlice job x at_).modCmd c.id (fun d => { d with
        phase := .timed, due := at_, stage := 2, endStatus := if late then 0x13 else d.endStatus
        endDetail := if late then at_ - c.data.headD 0 else d.endDetail }))))
  ∧ (∀ (job at_ : Nat) (x : Slice) (s : State),
      s.removeSlice job x at_ = (
      let own := x.members.filter (fun a => a / 1024 == s.up.bolt)
      let s1 := own.foldl (fun t a => (t.sendTargets a []).1.swapTargets at_ a) s
      let s2 := (s1.eraseAt job 0 (s1.holdersOf job 0)).eraseAt job 1 (s1.holdersOf job 1)
      let s3 := if s.primaryOf x.home ≠ s.ownAddr then s2
        else ((s2.memberGeneels x ++ (s.holdersOf job 1).filter (fun a => 0xF000 ≤ a)).eraseDups.filter (fun a => a != s2.ownAddr)).foldl (fun t a =>
          (s2.sec.keys.filter (fun k => k.job == job)).foldl (fun u k => u.send (u.msgTo a 0x6B (toLe 2 job ++ toLe 1 k.kind
            ++ toLe 1 1 ++ toLe 2 k.generation ++ zeros 2 ++ toLe 6 (u.nameTick 3) ++ zeros 2))) t) s2
      let s4 := { s3 with
        access := { s3.access with slices := s3.access.slices.filter (fun y => y.job != job) }
        twill := { s3.twill with bases := s3.twill.bases.filter (fun b => b.job != job) } }
      ((s4.eraseKey job 0 (fun _ => true)).eraseKey job 1 (fun _ => true)).mirrorDelta 5 job))

/-- STREAM_RELEASE of a stream that is DRAINING or CLOSED with OUTSTANDING 0 takes its entry out of the table and changes nothing else; of one with flits outstanding, or of an OPEN one, it changes nothing. (R32) -/
def Obligations.StreamsAreReleased : Prop :=
  (∀ (id : Nat) (e : Stream) (s : State),
      kvGet s.streams id = some e →
      e.state = 2 ∨ e.state = 3 →
      e.outstanding = 0 →
      exec (.streamRelease id) s = .next (Done s ({ s with streams := kvErase s.streams id })))
  ∧ (∀ (id : Nat) (e : Stream) (s : State),
      kvGet s.streams id = some e →
      e.outstanding ≠ 0 ∨ e.state = 1 →
      exec (.streamRelease id) s = .next (Done s (s)))

/-- With the port open and the device not in HALT, a submission doorbell that neither goes back nor passes the slots is taken, and one that does stops the ring with cause 3 or 4; a completion doorbell between the last one and the tail is taken, another stops the ring with cause 6; a control write with ENABLE starts an idle ring of good shape from slot 0 and marks a bad one, and without it stops the ring, which is DISABLED once nothing is outstanding. (R83, R84, R93, R672, R673, R674) -/
def Obligations.DoorbellsAndRingsComplete : Prop :=
  (∀ (port ring count : Nat) (s : State),
      ring < 64 →
      s.barOpen port = true →
      s.up.dev ≠ .halt →
      (s.ring port ring).state = .active →
      ahead (count % 2 ^ 32) (s.ring port ring).sqDb < 2 ^ 31 →
      ahead (count % 2 ^ 32) (s.ring port ring).sqHead ≤ (s.ring port ring).slots →
      exec (.sqDoorbellWrite port ring count) s = .next (Done s (s.setRing port ring { s.ring port ring with sqDb := count % 2 ^ 32 })))
  ∧ (∀ (port ring count : Nat) (s : State),
      ring < 64 →
      s.barOpen port = true →
      s.up.dev ≠ .halt →
      (s.ring port ring).state = .active →
      2 ^ 31 ≤ ahead (count % 2 ^ 32) (s.ring port ring).sqDb →
      exec (.sqDoorbellWrite port ring count) s = .next (Done s (s.ringError port ring 3 (s.ring port ring).sqHead)))
  ∧ (∀ (port ring count : Nat) (s : State),
      ring < 64 →
      s.barOpen port = true →
      s.up.dev ≠ .halt →
      (s.ring port ring).state = .active →
      ahead (count % 2 ^ 32) (s.ring port ring).sqDb < 2 ^ 31 →
      (s.ring port ring).slots < ahead (count % 2 ^ 32) (s.ring port ring).sqHead →
      exec (.sqDoorbellWrite port ring count) s = .next (Done s (s.ringError port ring 4 (s.ring port ring).sqHead)))
  ∧ (∀ (port ring count : Nat) (s : State),
      ring < 64 →
      s.barOpen port = true →
      s.up.dev ≠ .halt →
      (s.ring port ring).state = .active →
      ahead (count % 2 ^ 32) (s.ring port ring).cqDb < 2 ^ 31 →
      ahead (s.ring port ring).cqTail (count % 2 ^ 32) < 2 ^ 31 →
      exec (.cqDoorbellWrite port ring count) s = .next (Done s (s.setRing port ring { s.ring port ring with cqDb := count % 2 ^ 32 })))
  ∧ (∀ (port ring count : Nat) (s : State),
      ring < 64 →
      s.barOpen port = true →
      s.up.dev ≠ .halt →
      (s.ring port ring).state = .active →
      2 ^ 31 ≤ ahead (count % 2 ^ 32) (s.ring port ring).cqDb ∨ 2 ^ 31 ≤ ahead (s.ring port ring).cqTail (count % 2 ^ 32) →
      exec (.cqDoorbellWrite port ring count) s = .next (Done s (s.ringError port ring 6 (s.ring port ring).sqHead)))
  ∧ (∀ (port ring ctrl : Nat) (s : State),
      ring < 64 →
      s.barOpen port = true →
      s.up.dev ≠ .halt →
      (s.ring port ring).state = .disabled →
      (s.ring port ring).stopping = false →
      Ring.shapeOk { s.ring port ring with coalCnt := bits ((ctrl / 2 * 2 + 1) % 2 ^ 32) 19 12, coalUs := bits ((ctrl / 2 * 2 + 1) % 2 ^ 32) 27 20, sqLog := bits ((ctrl / 2 * 2 + 1) % 2 ^ 32) 7 4, cqLog := bits ((ctrl / 2 * 2 + 1) % 2 ^ 32) 11 8 } = true →
      exec (.ringEnable port ring ctrl) s = .next (Done s (s.setRing port ring { { s.ring port ring with coalCnt := bits ((ctrl / 2 * 2 + 1) % 2 ^ 32) 19 12, coalUs := bits ((ctrl / 2 * 2 + 1) % 2 ^ 32) 27 20, sqLog := bits ((ctrl / 2 * 2 + 1) % 2 ^ 32) 7 4, cqLog := bits ((ctrl / 2 * 2 + 1) % 2 ^ 32) 11 8 } with
        state := .active, sqHead := 0, cqTail := 0, seqExp := 0, errCause := 0, errSlot := 0, sqDb := 0, cqDb := 0
        unsignalled := 0, noWrite := false })))
  ∧ (∀ (port ring ctrl : Nat) (s : State),
      ring < 64 →
      s.barOpen port = true →
      s.up.dev ≠ .halt →
      (s.ring port ring).state = .disabled →
      (s.ring port ring).stopping = false →
      Ring.shapeOk { s.ring port ring with coalCnt := bits ((ctrl / 2 * 2 + 1) % 2 ^ 32) 19 12, coalUs := bits ((ctrl / 2 * 2 + 1) % 2 ^ 32) 27 20, sqLog := bits ((ctrl / 2 * 2 + 1) % 2 ^ 32) 7 4, cqLog := bits ((ctrl / 2 * 2 + 1) % 2 ^ 32) 11 8 } = false →
      exec (.ringEnable port ring ctrl) s = .next (Done s (s.setRing port ring { { s.ring port ring with coalCnt := bits ((ctrl / 2 * 2 + 1) % 2 ^ 32) 19 12, coalUs := bits ((ctrl / 2 * 2 + 1) % 2 ^ 32) 27 20, sqLog := bits ((ctrl / 2 * 2 + 1) % 2 ^ 32) 7 4, cqLog := bits ((ctrl / 2 * 2 + 1) % 2 ^ 32) 11 8 } with cfgErr := true })))
  ∧ (∀ (port ring ctrl : Nat) (s : State),
      ring < 64 →
      s.barOpen port = true →
      s.up.dev ≠ .halt →
      (s.ring port ring).state ≠ .disabled →
      exec (.ringDisable port ring ctrl) s = .next (Done s (s.setRing port ring { s.ring port ring with coalCnt := bits ((ctrl / 2 * 2) % 2 ^ 32) 19 12, coalUs := bits ((ctrl / 2 * 2) % 2 ^ 32) 27 20, stopping := true })))
  ∧ (∀ (port ring : Nat) (s : State),
      (s.ring port ring).stopping = true →
      s.outstanding port ring = 0 →
      exec (.ringStopComplete port ring) s = .next (Done s (s.setRing port ring { s.ring port ring with state := .disabled, stopping := false })))

/-- A read of a lower half returns it and latches the upper one; configuration requests are answered with Retry until STAGE2 ends; an aligned 4-byte write of a quadword that is written by halves goes to that half, an 8-byte write of one that is written whole writes it, a lower half of it is held; EVT.CUR seeks its record and the next one, and a snapshot from flash becomes VALID; cause bits written are cleared with the mask kept, the mask is set with no cause cleared; a coalescing timer requests the vector of its ring. (R82, R92, R667, R668, R676, R677, R679) -/
def Obligations.RegistersComplete : Prop :=
  (∀ (port offset : Nat) (s : State),
      s.barOpen port = true →
      offset % 8 = 0 →
      exec (.quadwordLowReadLatch port offset 4) s = .next (Done s (s.setHostPort port { s.hostPort port with
        readData := s.barQuad port offset % 2 ^ 32, readLatch := some (offset, s.barQuad port offset / 2 ^ 32) })))
  ∧ (∀ (port offset v : Nat) (s : State),
      s.barOpen port = true →
      offset % 8 = 4 →
      (s.hostPort port).readLatch = some (offset - 4, v) →
      exec (.quadwordLowReadLatch port offset 4) s = .next (Done s (s.setHostPort port { s.hostPort port with readData := v, readLatch := none })))
  ∧ (∀ (port : Nat) (s : State),
      (s.hostPort port).perst = false →
      (s.hostPort port).linkUp = true →
      (s.unitStatus 4 port).lost = false →
      exec (.configRequest port) s = .next (Done s (s.modHostPort port (fun x => { x with configRetry := some (!s.stage2Ended) }))))
  ∧ (∀ (port offset value : Nat) (s : State),
      s.barOpen port = true →
      s.up.dev ≠ .halt →
      offset % 4 = 0 →
      rwQuad (offset / 8 * 8) = false →
      exec (.registerWrite port offset 4 value) s = .next (Done s (s.writeHalf port offset (value % 2 ^ 32))))
  ∧ (∀ (port offset value : Nat) (s : State),
      s.barOpen port = true →
      s.up.dev ≠ .halt →
      offset % 8 = 0 →
      rwQuad offset = true →
      exec (.registerWrite port offset 8 value) s = .next (Done s (s.writeQuad port offset (value % 2 ^ 64))))
  ∧ (∀ (port offset value : Nat) (s : State),
      s.barOpen port = true →
      s.up.dev ≠ .halt →
      offset % 8 = 0 →
      rwQuad offset = true →
      exec (.rwQuadwordHalfWrite port offset value) s = .next (Done s (s.modHostPort port (fun h => { h with writeHold := kvSet h.writeHold offset (value % 2 ^ 32) }))))
  ∧ (∀ (port index : Nat) (s : State),
      s.barOpen port = true →
      s.up.dev ≠ .halt →
      s.portOpr port = true →
      exec (.evtCurIndexWrite port index) s = .next (Done s (s.modHostPort port (fun h => { h with evt := s.snapshot (index % 2 ^ 64) }))))
  ∧ (∀ (port : Nat) (s : State),
      s.barOpen port = true →
      s.up.dev ≠ .halt →
      s.portOpr port = true →
      exec (.evtCurAdvWrite port) s = .next (Done s (s.modHostPort port (fun h => { h with evt := s.snapshot (((s.hostPort port).evt.index + 1) % 2 ^ 64) }))))
  ∧ (∀ (port : Nat) (s : State),
      s.up.dev ≠ .halt →
      exec (.eventSnapshotReady port) s = .next (Done s (s.modHostPort port (fun h => { h with evt := { h.evt with status := if h.evt.status = 1 then 0 else h.evt.status } }))))
  ∧ (∀ (port causes : Nat) (s : State),
      s.barOpen port = true →
      s.up.dev ≠ .halt →
      exec (.intCauseClear port causes) s = .next (Done s (s.modHostPort port (fun h => h.intWrite (causes % 64) ((s.hostPort port).mask.toNat)))))
  ∧ (∀ (port mask : Nat) (s : State),
      s.barOpen port = true →
      s.up.dev ≠ .halt →
      exec (.intMaskWrite port mask) s = .next (Done s (s.modHostPort port (fun h => h.intWrite (0) (mask % 64)))))
  ∧ (∀ (port ring : Nat) (s : State),
      (s.ring port ring).unsignalled ≠ 0 →
      (s.ring port ring).coalUs ≠ 0 →
      (s.ring port ring).coalCnt ≠ 0 →
      s.up.dev ≠ .halt →
      exec (.coalesceTimerExpire port ring) s = .next (Done s ((s.setRing port ring { s.ring port ring with unsignalled := 0 }).modHostPort port (fun h => h.request ring))))

/-- A reply ends the waiting of its request and has the effect of its purpose, unless it holds a part of an answer in several replies, which is kept with the walk's records; AS_FENCED noting the higher token at a PRIMARY; a request without a reply for 2 ticks goes out once more with RETRY, and after 2 more ticks counts as lost; a fault report of a recorded agent is acknowledged and recorded under its code; port records that have come enter the section with one generation at a PRIMARY. (R118, R164, R166, R198, R226, R232) -/
def Obligations.RepliesComplete : Prop :=
  (∀ (m : Msg) (w : Waiting) (s : State),
      s.mail.waiting.find? (fun w => w.msg.msgid == m.msgid && (w.msg.dst == 0xFFFF || m.dst == 0xFFFF || w.msg.dst == m.src)) = some w →
      m.flags % 2 = 1 →
      (w.kind == Purpose.identify.code || w.kind == Purpose.claim.code || w.kind == Purpose.reclaim.code || w.kind == Purpose.takeover.code) = false →
      (w.kind == Purpose.linkstate.code || w.kind == Purpose.refresh.code) = false →
      exec (.agentReplyReceive m) s = .next (Done s (if le m.content 0 2 = 3 ∧ s.isPrimary = true then
        ((({ s with mail := { s.mail with waiting := s.mail.waiting.filter (fun v => v.msg.msgid != m.msgid) } } : State).modTwin (fun t => { t with deposeDue := some (higherToken t.token (le m.content 4 4)) })).replyTo w (le m.content 0 2)
          (le m.content 4 4) (m.content.drop 8)).pumpOutbox
      else (({ s with mail := { s.mail with waiting := s.mail.waiting.filter (fun v => v.msg.msgid != m.msgid) } } : State).replyTo w (le m.content 0 2) (le m.content 4 4) (m.content.drop 8)).pumpOutbox)))
  ∧ (∀ (m : Msg) (w : Waiting) (s : State),
      s.mail.waiting.find? (fun w => w.msg.msgid == m.msgid && (w.msg.dst == 0xFFFF || m.dst == 0xFFFF || w.msg.dst == m.src)) = some w →
      m.flags % 2 = 1 →
      (w.kind == Purpose.identify.code || w.kind == Purpose.claim.code || w.kind == Purpose.reclaim.code || w.kind == Purpose.takeover.code) = false →
      (w.kind == Purpose.linkstate.code || w.kind == Purpose.refresh.code) = true →
      le m.content 0 2 = 0 →
      (m.content.drop 8).length = 204 →
      le (m.content.drop 8) 192 1 + 1 < ((s.ownSection.node w.about).map TopoNode.ports).getD 0 →
      exec (.agentReplyReceive m) s = .next (Done s (s.modWalk (fun v => { v with reported := v.reported ++ [(w.about, m.content.drop 8)] }))))
  ∧ (∀ (msgid : Nat) (w : Waiting) (s : State),
      s.mail.waiting.find? (fun w => w.msg.msgid == msgid) = some w →
      w.resent = false →
      w.sentAt + 2 ≤ s.clock.now →
      s.notYetSent msgid = false →
      s.silenced w.msg = false →
      exec (.agentReplyResend msgid) s = .next (Done s (let s1 := s.sendAgain { w.msg with flags := w.msg.flags ||| 4 } true
      { s1 with mail := { s1.mail with
        waiting := s1.mail.waiting.map (fun v =>
          if v.msg.msgid = msgid then { v with resent := true, sentAt := s.clock.now } else v) } })))
  ∧ (∀ (msgid : Nat) (w : Waiting) (s : State),
      s.mail.waiting.find? (fun w => w.msg.msgid == msgid) = some w →
      w.resent = true →
      w.sentAt + 2 ≤ s.clock.now →
      s.notYetSent msgid = false →
      exec (.agentReplyTimeout msgid) s = .next (Done s (State.replyLost { s with mail := { s.mail with waiting := s.mail.waiting.filter (fun v => v.msg.msgid != msgid) } } w)))
  ∧ (∀ (m : Msg) (n : TopoNode) (s : State),
      s.ownSection.node m.src = some n →
      exec (.faultReportReceive m) s = .next (Done s (let ack : Msg := { s.msgTo m.src 0x0E (zeros 8) with flags := 1, msgid := m.msgid }
      let s2 := ((s.sendAgain ack).noteReport m.src (le m.body 2 2)).fault {
        source := m.src, code := 0x100 + le m.body 2 2, key := le m.body 0 2 + 65536 * le m.body 4 2, job := reportJob m.src (le m.body 2 2) (le m.body 4 2)
        detail := field m.body 16 16 }
      if s2.isPrimary then s2.reportEffect m.src (le m.body 0 2) (le m.body 2 2) (le m.body 4 2) (m.body.drop 16) else s2)))
  ∧ (∀ (s : State),
      s.mail.linkNews ≠ [] →
      s.up.dev ≠ .off →
      s.up.dev ≠ .halt →
      (({ s with mail := { s.mail with linkNews := [] } } : State).recordNews s.ownSection s.mail.linkNews).2 ≠ [] →
      ((({ s with mail := { s.mail with linkNews := [] } } : State).recordNews s.ownSection s.mail.linkNews).2.foldl State.newsRetrain ({ s with mail := { s.mail with linkNews := [] } } : State)).isPrimary = true →
      exec (.topologyRecordChange) s = .next (Done s (let ns := (({ s with mail := { s.mail with linkNews := [] } } : State).recordNews s.ownSection s.mail.linkNews).2
      let s1 := ns.foldl State.newsRetrain ({ s with mail := { s.mail with linkNews := [] } } : State)
      let before := s1.usableOwn
      let s2 := s1.enterNews ({ s with mail := { s.mail with linkNews := [] } } : State) s.mail.linkNews
      let lost := ns.filter LinkNews.lost
      let s3 := lost.foldl (fun t n =>
        (t.twillLost (fun l => (l.src == n.addr && l.sport == n.port) || (l.dst == n.addr && l.dport == n.port))).noteDegraded
          n.addr (some n.port)) s2
      let s4 := if lost.any (fun n => n.addr < 0x8000 || n.dst < 0x8000) then s3.dropPresumed else s3
      let s5 := (ns.foldl (fun t n => (t.newsTraining n).newsSession n) s4).twillRetry
      let gone := (s5.ownSection.nodes.filter (fun n => n.kind == 2 && nodeEligible n && s5.switchGone [] n.addr
        && lost.any (fun e => e.dst == n.addr))).map TopoNode.addr
      let ends (l : Nat × Nat × Nat) : Bool := gone.contains l.1 || (s5.ownSection.link l.1 l.2.1).any (fun k => gone.contains k.dst)
      (gone.foldl State.switchLost s5).repairIfChanged (before.filter (fun l => !ends l)))))

/-- At a root port a flit of no tree is discarded and counted; records of an open step are added unit by unit, the cover of the port advanced and finished units sent; tallies are counted and the tree reported when it is whole; the lead root commits a step whose trees are complete and clear, and makes one undecided at its deadline VOID with cause 1; the report of the twin's tree is noted. (R352, R363, R364, R372, R374) -/
def Obligations.TwillRootCompletes : Prop :=
  (∀ (port : Nat) (f : Flit) (s : State),
      s.groupOfFlit f = none →
      exec (.twillUpRecordReceive port f) s = .next (Done s ({ s with twill := { s.twill with misrouted := s.twill.misrouted + 1 } })))
  ∧ (∀ (port : Nat) (f : Flit) (g : Group) (k : Nat) (t : GroupTree) (x : GroupStep) (s : State),
      s.groupOfFlit f = some (g, k, t) →
      le f.payload 7 1 ≠ 0 →
      t.ports.contains port = true →
      g.stepOf (le f.payload 0 4) = some x →
      x.verdict = 0 →
      exec (.twillUpRecordReceive port f) s = .next (Done s ((((recordsOf (upData g.op g.type g.w) f.payload).foldl (fun u r => u.rootRecord g k t (le f.payload 0 4) (le f.payload 4 3) f.src r) s).modStep g.id (le f.payload 0 4)
        (fun x => x.modTree k (fun y => y.coverTo port (le f.payload 4 3 + le f.payload 7 1)))).pumpRoot g k t (le f.payload 0 4))))
  ∧ (∀ (port : Nat) (f : Flit) (s : State),
      s.groupOfFlit f = none →
      exec (.twillTallyReceive port f) s = .next (Done s ({ s with twill := { s.twill with misrouted := s.twill.misrouted + 1 } })))
  ∧ (∀ (port : Nat) (f : Flit) (g : Group) (k : Nat) (t : GroupTree) (x : GroupStep) (s : State),
      s.groupOfFlit f = some (g, k, t) →
      le f.payload 7 1 = 0 →
      t.ports.contains port = true →
      g.stepOf (le f.payload 0 4) = some x →
      x.verdict = 0 →
      exec (.twillTallyReceive port f) s = .next (Done s ((((talliesOf f.payload).foldl (fun u y => u.rootTally g k port (le f.payload 0 4) y) s).pumpRoot g k t (le f.payload 0 4)).reportTree g (le f.payload 0 4))))
  ∧ (∀ (group step ns : Nat) (g : Group) (x : GroupStep) (s : State),
      s.group group = some g →
      g.stepOf step = some x →
      g.t0.root = s.ownAddr →
      g.mayCommit s.ownAddr x = true →
      exec (.twillCommitDecide group step ns) s = .next (Done s (s.decideStep group step 1 0 ns)))
  ∧ (∀ (group step : Nat) (g : Group) (x : GroupStep) (s : State),
      s.group group = some g →
      g.stepOf step = some x →
      g.t0.root = s.ownAddr →
      x.verdict = 0 →
      x.openAt + g.deadline ≤ s.clock.now →
      exec (.twillStepDeadline group step) s = .next (Done s (s.voidStep group step 1)))
  ∧ (∀ (group step : Nat) (g : Group) (s : State),
      s.group group = some g →
      g.t0.root = s.ownAddr →
      exec (.twinTreeReportReceive group step) s = .next (Done s (s.modStep group step (fun x => { x with twinDone := true }))))

/-- At a switch a flit of no tree entry is counted as misrouted, a down flit goes out of every child port, the residue of each record computed anew, records are gathered and forwarded or combined; at a member results are covered and checked against the member's own range on the tree, and when DEND and every result are there the RECEIPT goes up; a verdict is forwarded to the children and held by a member; an agent does these while it is SERVING or QUIESCED. (R199, R201, R354, R355, R361, R366, R370, R373) -/
def Obligations.TwillAgentCompletes : Prop :=
  (∀ (port : Nat) (f : Flit) (s : State),
      s.treeOfFlit f = none →
      exec (.switchTwillRecord port f) s = .next (Done s (s.misroute port)))
  ∧ (∀ (port : Nat) (f : Flit) (e : TreeEntry) (s : State),
      s.treeOfFlit f = some e →
      f.vc = 3 →
      le f.payload 7 1 = 0 →
      s.agentForwards = true →
      exec (.switchTwillRecord port f) s = .next (Done s (e.kids.foldl (fun t p => t.switchOut port p f) s)))
  ∧ (∀ (port : Nat) (f : Flit) (e : TreeEntry) (s : State),
      s.treeOfFlit f = some e →
      f.vc = 3 →
      le f.payload 7 1 ≠ 0 →
      s.agentForwards = true →
      exec (.switchTwillRecord port f) s = .next (Done s (e.kids.foldl (fun t p => t.switchOut port p (s.forwardRecords e (le f.payload 0 4) (typeData (codesType e.codes)) true f).2) (s.forwardRecords e (le f.payload 0 4) (typeData (codesType e.codes)) true f).1)))
  ∧ (∀ (port : Nat) (f : Flit) (e : TreeEntry) (s : State),
      s.treeOfFlit f = some e →
      f.vc ≠ 3 →
      le f.payload 7 1 = 0 →
      s.agentForwards = true →
      exec (.switchTwillRecord port f) s = .next (Done s (((talliesOf f.payload).foldl (fun t y => t.switchTally e port (le f.payload 0 4) f y) s).pumpSwitch e (le f.payload 0 4) f)))
  ∧ (∀ (port : Nat) (f : Flit) (e : TreeEntry) (s : State),
      s.treeOfFlit f = some e →
      f.vc ≠ 3 →
      le f.payload 7 1 ≠ 0 →
      s.agentForwards = true →
      exec (.switchTwillRecord port f) s = .next (Done s (let g := s.gather e (le f.payload 0 4)
      let old := ((g.cover.find? (fun c => c.1 == port)).map Prod.snd).getD 0
      let s1 := s.putGather { g with cover := g.cover.filter (fun c => c.1 != port) ++ [(port, max old (le f.payload 4 3 + le f.payload 7 1))] }
      if e.role = 1 then
        ((recordsOf (upData (codesOp e.codes) (codesType e.codes) e.lane) f.payload).foldl
          (fun t r => t.combineRecord e (le f.payload 0 4) (le f.payload 4 3) r) s1).pumpSwitch e (le f.payload 0 4) f
      else
        ((s1.forwardRecords e (le f.payload 0 4) (upData (codesOp e.codes) (codesType e.codes) e.lane) false f).1.switchOut port e.parent
          (s1.forwardRecords e (le f.payload 0 4) (upData (codesOp e.codes) (codesType e.codes) e.lane) false f).2).pumpSwitch e (le f.payload 0 4) f)))
  ∧ (∀ (f : Flit) (own : MemberUnits) (e : TreeEntry) (s : State),
      s.treeOfFlit { f with vc := 3 } = some e →
      (e.tree == 1) = false →
      le f.payload 7 1 ≠ 0 →
      (s.memberOf e.group (le f.payload 0 4)).dend0 = none →
      s.agentForwards = true →
      exec (.memberResultReceive f own) s = .next (Done s (s.putMember { s.memberOf e.group (le f.payload 0 4) with
        cover0 := max (s.memberOf e.group (le f.payload 0 4)).cover0 (le f.payload 4 3 + le f.payload 7 1)
        bad0 := (s.memberOf e.group (le f.payload 0 4)).bad0
          || (recordsOf (typeData (codesType e.codes)) f.payload).any (fun r => r.residue != dataResidue r.data) })))
  ∧ (∀ (f : Flit) (own : MemberUnits) (e : TreeEntry) (y : Tally) (s : State),
      s.treeOfFlit { f with vc := 3 } = some e →
      (e.tree == 1) = false →
      le f.payload 7 1 = 0 →
      (talliesOf f.payload).find? (fun y => y.type == 4) = some y →
      (s.memberOf e.group (le f.payload 0 4)).receipt0 = false →
      y.data ≤ (s.memberOf e.group (le f.payload 0 4)).cover0 →
      s.agentForwards = true →
      exec (.memberResultReceive f own) s = .next (Done s (let x := s.memberOf e.group (le f.payload 0 4)
      (s.putMember { x with dend0 := some y.data, receipt0 := true }).switchOut e.parent e.parent {
          kind := .data, vc := 2, epb := s.agentEpb, dst := f.src, src := s.agentAddr, stream := e.up, job := e.job
          payload := tallyPayload (le f.payload 0 4) [{
            type := 2, flags := flag x.bad0 + 2 * flag (decide (y.data ≠ (treeUnits e.tree own.units own.f0 own.f1 own.single).2)), addr := s.agentAddr, data := s.agent.core.tick % 2 ^ 32 }] })))
  ∧ (∀ (m : Msg) (e : TreeEntry) (s : State),
      s.agentTree (le m.content 2 1) (le m.content 0 2) = some e →
      s.agent.core.kind ≠ 1 →
      s.agentForwards = true →
      exec (.agentVerdict m) s = .next (Done s (s.forwardVc1 m m.content e.children)))
  ∧ (∀ (m : Msg) (e : TreeEntry) (s : State),
      s.agentTree (le m.content 2 1) (le m.content 0 2) = some e →
      s.agent.core.kind = 1 →
      ((s.forwardVc1 m m.content e.children).memberOf (le m.content 0 2) (le m.content 4 4)).verdict = 0 →
      le m.content 14 4 = 0 →
      s.agentForwards = true →
      exec (.agentVerdict m) s = .next (Done s ((s.forwardVc1 m m.content e.children).putMember { ((s.forwardVc1 m m.content e.children).memberOf (le m.content 0 2) (le m.content 4 4)) with verdict := le m.content 3 1, tick := le m.content 8 6 })))

/-- The next delta from the twin is held and acknowledged, one already received is acknowledged again, and one after a gap brings a resync; an acknowledgement releases what waited for it; a delta without one goes out on the other port, and after a tick the mirror is SINGLE with its event; a resync request has the PRIMARY take a snapshot, and links of the twin that a takeover marked unusable may be used again; resync data join the image. (R650, R651, R652, R653) -/
def Obligations.MirrorCompletes : Prop :=
  (∀ (m : Msg) (item : Option MirrorItem) (s : State),
      s.senderMay m.src 0x0D = true →
      m.src = s.twinAddr →
      s.twin.role ≠ 0 →
      s.twin.assigned = true →
      (le m.body 0 4 + 2 ^ 32 - s.twin.received) % 2 ^ 32 = 0 →
      exec (.mirrorDeltaReceive m item) s = .next (Done s (s.sendMirrorAck)))
  ∧ (∀ (m : Msg) (item : Option MirrorItem) (s : State),
      s.senderMay m.src 0x0D = true →
      m.src = s.twinAddr →
      s.twin.role ≠ 0 →
      s.twin.assigned = true →
      (le m.body 0 4 + 2 ^ 32 - s.twin.received) % 2 ^ 32 = 1 →
      s.twin.held.any (fun x => x.seq == le m.body 0 4) = false →
      s.twin.mirror ≠ .resync →
      exec (.mirrorDeltaReceive m item) s = .next (Done s ((s.modTwin (fun x => { x with
        received := le m.body 0 4
        held := x.held ++ [{
        seq := le m.body 0 4, tick := le m.body 4 6, kind := le m.body 10 1, last := bit (le m.body 11 1) 0, obj := le m.body 12 4
        data := m.body.drop 16, item := item, at_ := s.clock.now }] })).sendMirrorAck.passVerdict item)))
  ∧ (∀ (m : Msg) (item : Option MirrorItem) (s : State),
      s.senderMay m.src 0x0D = true →
      m.src = s.twinAddr →
      s.twin.role ≠ 0 →
      s.twin.assigned = true →
      1 < (le m.body 0 4 + 2 ^ 32 - s.twin.received) % 2 ^ 32 →
      (le m.body 0 4 + 2 ^ 32 - s.twin.received) % 2 ^ 32 < 2 ^ 31 →
      s.twin.held.any (fun x => x.seq == le m.body 0 4) = false →
      s.twin.mirror ≠ .resync →
      exec (.mirrorDeltaReceive m item) s = .next (Done s ((s.modTwin (fun x => { x with
        held := x.held ++ [{
        seq := le m.body 0 4, tick := le m.body 4 6, kind := le m.body 10 1, last := bit (le m.body 11 1) 0, obj := le m.body 12 4
        data := m.body.drop 16, item := item, at_ := s.clock.now }] })).askResync)))
  ∧ (∀ (m : Msg) (s : State),
      s.senderMay m.src 0x0D = true →
      m.src = s.twinAddr →
      s.isPrimary = true →
      exec (.mirrorAckReceive m) s = .next (Done s ((s.modTwin (fun x => { x with
        acked := max x.acked (le m.body 0 4), unacked := x.unacked.filter (fun d => decide (le m.body 0 4 < d.seq)) })).openGate (le m.body 0 4))))
  ∧ (∀ (seq : Nat) (d : Delta) (s : State),
      s.twin.unacked.find? (fun d => d.seq == seq) = some d →
      s.isPrimary = true →
      s.twin.mirror = .inSync ∨ s.twin.mirror = .resync →
      exec (.mirrorAckResend seq) s = .next (Done s (let e : Delta := { d with port := 73 - d.port }
      (s.send (s.deltaMsg e)).modTwin (fun x => { x with
        deltasResent := (x.deltasResent + 1) % 2 ^ 32, unacked := x.unacked.map (fun y => if y.seq = seq then e else y) }))))
  ∧ (∀ (d : Delta) (s : State),
      s.twin.unacked.find? (fun d => decide (d.at_ + 1 ≤ s.clock.now)) = some d →
      s.isPrimary = true →
      s.twin.mirror = .inSync ∨ s.twin.mirror = .resync →
      exec (.mirrorSingleTimeout) s = .next (Done s (s.goSingle.fault { source := s.twinAddr, code := 0x2D, detail := toLe 4 s.twin.acked ++ toLe 4 d.seq })))
  ∧ (∀ (m : Msg) (s : State),
      s.senderMay m.src 0x0D = true →
      m.src = s.twinAddr →
      s.isPrimary = true →
      exec (.resyncReqReceive m) s = .next (Done s ((s.modTwin (fun x => { x with mirror := .resync, resyncDue := true, resyncSeq := none, resyncDone := false })).twinBack)))
  ∧ (∀ (m : Msg) (items : List MirrorItem) (s : State),
      s.senderMay m.src 0x0D = true →
      m.src = s.twinAddr →
      s.twin.role ≠ 0 →
      s.twin.mirror = .resync →
      exec (.resyncDataReceive m items) s = .next (Done s (s.modTwin (fun x =>
        let data := insertBy (fun (e : Nat × Bytes) => e.1) (x.resyncData.filter (fun e => e.1 != le m.body 0 8)) (le m.body 0 8, m.body.drop 16)
        { x with
          resyncData := data
          resyncItems := x.resyncItems ++ items
          resyncSeq := some (le m.body 8 4)
          resyncBytes := (data.map (fun e => e.2.length)).foldl (fun a n => a + n) 0
          received := runFrom (x.held.map Delta.seq) x.held.length (max x.received (le m.body 8 4))
          resyncDone := x.resyncDone || decide ((m.body.drop 16).length < 192) }))))

/-- A PRIMARY that met a higher token is deposed at the marker; an armed SECONDARY takes over when its PRIMARY is silent or has halted; a heartbeat is kept, and one of another PRIMARY with a higher token makes a deposition due; a halt notice is kept; a hello of a listed peer is kept and renews its session, one with another list digest makes it absent; a peer silent for 256 ticks is absent, and what it held is lost. (R647, R649, R654, R655, R660, R661) -/
def Obligations.TwinRolesComplete : Prop :=
  (∀ (t : Nat) (s : State),
      s.twin.deposeDue = some t →
      s.isPrimary = true →
      exec (.deposition) s = .next (Done s (s.depose t)))
  ∧ (∀ (s : State),
      s.armed = true →
      s.twinSilent = true ∨ s.twin.haltNotice = some (s.clock.now - 1) ∧ 1 ≤ s.clock.now →
      exec (.automaticTakeover) s = .next (Done s (s.takeOver s.twin.token)))
  ∧ (∀ (m : Msg) (s : State),
      s.senderMay m.src 0x0D = true →
      m.src = s.twinAddr →
      s.isPrimary = true →
      le m.body 0 1 = 0 →
      exec (.heartbeatReceive m) s = .next (Done s (if s.twin.token < le m.body 4 8 then
        (s.modTwin (fun x => { x with
        heardRole := some (le m.body 0 1), heardDev := le m.body 1 1, heardMirror := le m.body 2 1, heardToken := le m.body 4 8
        version2 := bit (le m.body 3 1) 1, heartbeat := some s.clock.now, heartbeatTick := le m.body 16 6 })).modTwin (fun x => { x with deposeDue := some (le m.body 4 8) })
      else s.modTwin (fun x => { x with
        heardRole := some (le m.body 0 1), heardDev := le m.body 1 1, heardMirror := le m.body 2 1, heardToken := le m.body 4 8
        version2 := bit (le m.body 3 1) 1, heartbeat := some s.clock.now, heartbeatTick := le m.body 16 6 }))))
  ∧ (∀ (m : Msg) (s : State),
      s.senderMay m.src 0x0D = true →
      m.src = s.twinAddr →
      s.isPrimary = false →
      s.twin.assigned = false ∨ le m.body 0 1 ≠ 0 →
      exec (.heartbeatReceive m) s = .next (Done s (s.modTwin (fun x => { x with
        heardRole := some (le m.body 0 1), heardDev := le m.body 1 1, heardMirror := le m.body 2 1, heardToken := le m.body 4 8
        version2 := bit (le m.body 3 1) 1, heartbeat := some s.clock.now, heartbeatTick := le m.body 16 6 }))))
  ∧ (∀ (m : Msg) (s : State),
      s.senderMay m.src 0x0D = true →
      m.src = s.twinAddr →
      exec (.haltNoticeReceive m) s = .next (Done s (s.modTwin (fun x => { x with haltNotice := some s.clock.now, heardDev := 11 }))))
  ∧ (∀ (m : Msg) (s : State),
      s.senderMay m.src 0x0D = true →
      field m.body 20 32 ≠ field s.twin.listDigest 0 32 →
      exec (.peerHelloReceive m) s = .next (Done s (s.modPeer m.src (fun p => { p with
        heard := some s.clock.now, heardTick := le m.body 12 6, role := le m.body 0 1, dev := le m.body 1 1, tiles := le m.body 2 1
        token := le m.body 4 8, mismatch := true, absent := true
        healthySince := none }))))
  ∧ (∀ (m : Msg) (q : Peer) (s : State),
      s.senderMay m.src 0x0D = true →
      field m.body 20 32 = field s.twin.listDigest 0 32 →
      (s.modPeer m.src (fun p => { p with
        heard := some s.clock.now, heardTick := le m.body 12 6, role := le m.body 0 1, dev := le m.body 1 1, tiles := le m.body 2 1
        token := le m.body 4 8, mismatch := false, absent := false
        healthySince := if le m.body 0 1 = 0 ∧ 7 ≤ le m.body 1 1 ∧ le m.body 1 1 ≤ 9 then some (p.healthySince.getD s.clock.now) else none })).peerAt m.src = some q →
      exec (.peerHelloReceive m) s = .next (Done s ((s.modPeer m.src (fun p => { p with
        heard := some s.clock.now, heardTick := le m.body 12 6, role := le m.body 0 1, dev := le m.body 1 1, tiles := le m.body 2 1
        token := le m.body 4 8, mismatch := false, absent := false
        healthySince := if le m.body 0 1 = 0 ∧ 7 ≤ le m.body 1 1 ∧ le m.body 1 1 ≤ 9 then some (p.healthySince.getD s.clock.now) else none })).renewSession q m.msgid)))
  ∧ (∀ (id t : Nat) (p : Peer) (s : State),
      s.twin.peers.find? (fun p => p.id == id) = some p →
      p.heard = some t →
      t + 256 ≤ s.clock.now →
      id ≠ s.ownId →
      exec (.peerAbsent id) s = .next (Done s (let s1 := s.modPeer (0xF000 + id) (fun q => { q with absent := true, heard := none, healthySince := none })
      let s2 := (s1.shardLost id).1
      let s3 := (((s1.shardLost id).2.foldl (fun t j => t.failJob j) s2).storeGeneelLost (0xF000 + id)).loadGeneelLost (0xF000 + id)
      (s3.jacquard.plans.filter (fun q => q.bolts.any (fun b => !s3.healthyId (2 * b) && !s3.healthyId (2 * b + 1)))).foldl
        (fun t q => t.failExchange q.id 9 true) s3)))

/-- The ring that the tie-break of R71 serves, when it may fetch and a slot is covered by the doorbell, takes the packet when sequence, signature count and length are right and the doorbell covers its slots, and its checks follow; one whose slots are not all covered is looked at again at the next doorbell; a wrong sequence, signature count or length stops the ring with cause 1, 2 or 7 and ST_BAD_PACKET; bad data stop it with cause 5; each look is a grant; a held signature ends with ST_TIMEOUT at its expiry; a command queued behind a drain ends with ST_TIMEOUT after 60 s and goes on when its target drains no more; waiting orphan records drain. (R71, R85, R87, R93, R94, R105, R116) -/
def Obligations.PacketFetchCompletes : Prop :=
  (∀ (port ring : Nat) (packet : Packet) (s : State),
      s.fetchNext = some (64 * port + ring) →
      s.asksFetch port ring = true →
      packet.seq = (s.ring port ring).seqExp →
      packet.nsig ≠ 3 →
      packet.len ≤ 4096 →
      packetSlots packet ≤ (s.ring port ring).covered →
      exec (.packetFetch port ring packet false) s = .next (Done s (let s1 := ({ s with host := { s.host with grants := s.host.grants + 1 } } : State).setRing port ring { s.ring port ring with sqHead := ((s.ring port ring).sqHead + packetSlots packet) % 2 ^ 32, seqExp := ((s.ring port ring).seqExp + 1) % 2 ^ 32, short := none }
      let s3 := (s1.countDispatch.selvedgeSpend { ver := packet.nsig }).takePacket { packet with port := port, ring := ring }
      s3.orderPump s3.host.cmds.length)))
  ∧ (∀ (port ring : Nat) (packet : Packet) (s : State),
      s.fetchNext = some (64 * port + ring) →
      s.asksFetch port ring = true →
      packet.seq = (s.ring port ring).seqExp →
      packet.nsig ≠ 3 →
      packet.len ≤ 4096 →
      (s.ring port ring).covered < packetSlots packet →
      exec (.packetFetch port ring packet false) s = .next (Done s (({ s with host := { s.host with grants := s.host.grants + 1 } } : State).setRing port ring { s.ring port ring with short := some (s.ring port ring).sqDb })))
  ∧ (∀ (port ring : Nat) (packet : Packet) (s : State),
      s.fetchNext = some (64 * port + ring) →
      s.asksFetch port ring = true →
      packet.seq ≠ (s.ring port ring).seqExp →
      exec (.packetFetch port ring packet false) s = .next (Done s (((({ s with host := { s.host with grants := s.host.grants + 1 } } : State).setRing port ring { s.ring port ring with sqHead := ((s.ring port ring).sqHead + 1) % 2 ^ 32 }).reject { packet with port := port, ring := ring } 0x11 (s.ring port ring).seqExp).ringError
        port ring 1 (s.ring port ring).sqHead)))
  ∧ (∀ (port ring : Nat) (packet : Packet) (s : State),
      s.fetchNext = some (64 * port + ring) →
      s.asksFetch port ring = true →
      packet.seq = (s.ring port ring).seqExp →
      packet.nsig = 3 →
      exec (.packetFetch port ring packet false) s = .next (Done s (((({ s with host := { s.host with grants := s.host.grants + 1 } } : State).setRing port ring { s.ring port ring with sqHead := ((s.ring port ring).sqHead + 1) % 2 ^ 32 }).reject { packet with port := port, ring := ring } 0x11 (s.ring port ring).seqExp).ringError
        port ring 2 (s.ring port ring).sqHead)))
  ∧ (∀ (port ring : Nat) (packet : Packet) (s : State),
      s.fetchNext = some (64 * port + ring) →
      s.asksFetch port ring = true →
      packet.seq = (s.ring port ring).seqExp →
      packet.nsig ≠ 3 →
      4096 < packet.len →
      exec (.packetFetch port ring packet false) s = .next (Done s (((({ s with host := { s.host with grants := s.host.grants + 1 } } : State).setRing port ring { s.ring port ring with sqHead := ((s.ring port ring).sqHead + 1) % 2 ^ 32 }).reject { packet with port := port, ring := ring } 0x11 (s.ring port ring).seqExp).ringError
        port ring 7 (s.ring port ring).sqHead)))
  ∧ (∀ (port ring : Nat) (packet : Packet) (s : State),
      s.fetchNext = some (64 * port + ring) →
      s.asksFetch port ring = true →
      exec (.packetFetch port ring packet true) s = .next (Done s (({ s with host := { s.host with grants := s.host.grants + 1 } } : State).ringError port ring 5 (s.ring port ring).sqHead)))
  ∧ (∀ (digest : Bytes) (c : Cmd) (s : State),
      s.expiredHold digest = some c →
      exec (.cosignHoldExpire digest) s = .next (Done s (s.endCmd c.id 0x50 0)))
  ∧ (∀ (id : Nat) (c : Cmd) (s : State),
      s.cmd id = some c →
      c.phase = .drain →
      c.since + 3750000 ≤ s.clock.now →
      exec (.queuedCommandTimeout id) s = .next (Done s (s.endCmd id 0x50 0)))
  ∧ (∀ (id : Nat) (c : Cmd) (op : HostOp) (s : State),
      s.cmd id = some c →
      hostOp c.pkt.opcode = some op →
      c.phase = .drain →
      op.target c.pkt s = .ok →
      s.hasRight op c.master = true →
      exec (.queuedCommandRelease id) s = .next (Done s (let due := if op.waitsForAgents = true then max c.due (s.clock.now + 3) else max c.due s.clock.now
      let s1 := s.modCmd id (fun d => { d with
        phase := .timed, due := due
        endStatus := if c.pkt.effTick ≠ 0 ∧ c.due < due then 0x13 else d.endStatus
        endDetail := if c.pkt.effTick ≠ 0 ∧ c.due < due then due - c.due else d.endDetail })
      let s2 := op.start c.pkt id s1
      if due ≤ s.clock.now then s2.runCmd op id else s2)))
  ∧ (∀ (port : Nat) (s : State),
      s.up.dev ≠ .halt →
      s.up.dev ≠ .off →
      exec (.orphanQueueDrain port) s = .next (Done s (s.drainOrphans port 0 (s.hostPort port).orphans.length)))

/-- An admitted identification, state, tick, hold, event, fault, stream, twin or peer query, a LOOPBACK and a NOP each complete at once with ST_OK and their result, and nothing in the block changes but what the host has been told. (R106, R109, R117) -/
def Obligations.QueriesAnswer : Prop :=
  (∀ (p : Packet) (s : State),
      Admitted opIdentify p s = true →
      p.effTick = 0 →
      ∃ t, exec (.identify p) s = .next t ∧ Answers s t p 0x0001
        (s.identity))
  ∧ (∀ (p : Packet) (s : State),
      Admitted opFloorplanGet p s = true →
      p.effTick = 0 →
      ∃ t, exec (.floorplanGet p) s = .next t ∧ Answers s t p 0x0002
        (s.floorplan))
  ∧ (∀ (p : Packet) (s : State),
      Admitted opStateGet p s = true →
      p.effTick = 0 →
      ∃ t, exec (.stateGet p) s = .next t ∧ Answers s t p 0x0003
        ((toLe 1 s.up.dev.code ++ toLe 1 s.twin.role ++ zeros 2 ++ toLe 4 s.faults.recoveryCount
         ++ toLe 8 s.twin.token ++ s.lostCapacity)))
  ∧ (∀ (p : Packet) (s : State),
      Admitted opNop p s = true →
      p.effTick = 0 →
      ∃ t, exec (.nop p) s = .next t ∧ Answers s t p 0x0006
        ([]))
  ∧ (∀ (p : Packet) (s : State),
      Admitted opLoopback p s = true →
      p.effTick = 0 →
      ∃ t, exec (.loopback p) s = .next t ∧ Answers s t p 0x0E04
        (p.body))
  ∧ (∀ (p : Packet) (s : State),
      Admitted opTickStatus p s = true →
      p.effTick = 0 →
      ∃ t, exec (.tickStatus p) s = .next t ∧ Answers s t p 0x0103
        (s.tickStatus))
  ∧ (∀ (p : Packet) (s : State),
      Admitted opTickRunaheadGet p s = true →
      p.effTick = 0 →
      ∃ t, exec (.tickRunaheadGet p) s = .next t ∧ Answers s t p 0x0104
        (let all := s.clock.runAhead
         let rows := if p.job = 0 then all.filter (fun r => r.discarded.any (· != 0) || r.corrected.any (· != 0))
           else [(all.find? (fun r => r.job == p.job)).getD { job := p.job }]
         (toLe 4 (6 * rows.length) ++ zeros 4 ++ rows.flatMap RunAhead.bytes)))
  ∧ (∀ (p : Packet) (s : State),
      Admitted opStreamRead p s = true →
      p.effTick = 0 →
      ∃ t, exec (.streamRead p) s = .next t ∧ Answers s t p 0x0E01
        (let slot := s.masterOf p.port p.ring
         let hit := (s.streams.filter (fun e => le p.body 0 2 ≤ e.1 && e.2.state != 0 && s.seesJob slot e.2.job)).take (le p.body 2 2)
         (toLe 4 hit.length ++ zeros 4 ++ hit.flatMap (fun e => toLe 2 e.1 ++ zeros 6 ++ e.2.bytes))))
  ∧ (∀ (p : Packet) (s : State),
      Admitted opCosignStateGet p s = true →
      p.effTick = 0 →
      ∃ t, exec (.cosignStateGet p) s = .next t ∧ Answers s t p 0x0B0B
        (let s0 := begun opCosignStateGet p (fetched p s)
         let holds := s0.host.cmds.filterMap (fun c => match c.phase with
           | .signature cred expiry => some (expiry, cred, c.pkt)
           | _ => none)
         let entry (h : Nat × Nat × Packet) : Bytes :=
           field h.2.2.digest 0 32 ++ toLe 2 h.2.2.opcode ++ toLe 1 h.2.1 ++ toLe 1 h.2.2.port ++ toLe 1 h.2.2.ring ++ zeros 1
             ++ toLe 6 (s0.tickAt h.1) ++ toLe 4 h.2.2.tag
         (toLe 8 s0.changeCounter ++ toLe 1 holds.length ++ zeros 7 ++ (sortBy Prod.fst holds).flatMap entry)))
  ∧ (∀ (p : Packet) (s : State),
      Admitted opEventViewGet p s = true →
      p.effTick = 0 →
      ∃ t, exec (.eventViewGet p) s = .next t ∧ Answers s t p 0x0C01
        (let (all, next, first) := s.viewOf (s.masterOf p.port p.ring)
         let hit := all.filter (fun e => decide (le p.body 10 1 ≤ e.2.severity))
         let n := le p.body 8 2
         let page := if bit (le p.body 11 1) 0 then lastN n hit else (hit.filter (fun e => le p.body 0 8 ≤ e.1)).take n
         (viewBytes next first page)))
  ∧ (∀ (p : Packet) (s : State),
      Admitted opFaultSummaryGet p s = true →
      p.effTick = 0 →
      ∃ t, exec (.faultSummaryGet p) s = .next t ∧ Answers s t p 0x0C06
        (let first := le p.body 0 2
         let last := le p.body 2 2
         let fences := s.faults.units.filter (fun u => u.status == .fencing || u.status == .fenced)
         (s.faultSummary ++ fences.flatMap UnitRec.fenceBytes
           ++ (if first = 0xFFFF ∧ last = 0xFFFF then [] else s.sourceEntries first last))))
  ∧ (∀ (p : Packet) (s : State),
      Admitted opTwinStatus p s = true →
      p.effTick = 0 →
      ∃ t, exec (.twinStatus p) s = .next t ∧ Answers s t p 0x0D02
        (s.twinStatus))
  ∧ (∀ (p : Packet) (s : State),
      Admitted opPeerStatus p s = true →
      p.effTick = 0 →
      ∃ t, exec (.peerStatus p) s = .next t ∧ Answers s t p 0x0D04
        (let own (p : Peer) : Peer := if p.id = s.ownId then { p with
             dev := s.up.dev.code, role := s.twin.role, absent := false, mismatch := false, tiles := s.tiles
             heardTick := s.tickNow, token := s.twin.token } else p
         (toLe 1 s.twin.peers.length ++ toLe 1 s.clock.master ++ zeros 6
           ++ s.twin.peers.flatMap (fun p => (own p).statusBytes))))
  ∧ (∀ (p : Packet) (s : State),
      Admitted opPowerStatus p s = true →
      p.effTick = 0 →
      ∃ t, exec (.powerStatus p) s = .next t ∧ Answers s t p 0x0902
        (let s0 := begun opPowerStatus p (fetched p s)
         s0.powerStatus))

/-- An admitted query of the discovery, the record, the routes, a slice, the access table, a group, a plan, a table or a generation ends with its result; a meter, counter or attestation query is begun and answers when Buckram or the agents have answered, or at once where nothing is to be asked. (R106, R109) -/
def Obligations.StateQueriesAnswer : Prop :=
  (∀ (p : Packet) (s : State),
      Admitted opDiscoverStatus p s = true →
      p.effTick = 0 →
      exec (.discoverStatus p) s = .next (Done s (ended s.freshCmd
        (let s0 := begun opDiscoverStatus p (fetched p s)
         let w := s0.fabric.walk
         (s0, Fin.result (toLe 4 w.level ++ toLe 4 w.found ++ toLe 4 w.claims ++ toLe 4 w.attested
           ++ toLe 4 s0.ownSection.links.length ++ toLe 4 w.items))))))
  ∧ (∀ (p : Packet) (s : State),
      Admitted opTopologyGet p s = true →
      p.effTick = 0 →
      exec (.topologyGet p) s = .next (Done s (ended s.freshCmd
        (let s0 := begun opTopologyGet p (fetched p s)
         let x := if le p.body 1 1 = s0.up.bolt then s0.shownSection else s0.boltSection (le p.body 1 1)
         let cut {α : Type} (l : List α) : List α := (l.drop (le p.body 4 4)).take (le p.body 8 4)
         (s0, Fin.result (match le p.body 0 1 with
           | 0 => x.header
           | 1 => ((List.range (min (le p.body 8 4) (65536 - le p.body 4 4))).map (fun i => x.slot (le p.body 4 4 + i))).flatMap x.nodeBytes
           | 2 => (cut x.links).flatMap s0.linkBytes
           | _ => (cut x.items).flatMap itemBytes))))))
  ∧ (∀ (p : Packet) (s : State),
      Admitted opRouteStatus p s = true →
      p.effTick = 0 →
      exec (.routeStatus p) s = .next (Done s (ended s.freshCmd
        (let s0 := begun opRouteStatus p (fetched p s)
         let e := s0.fabric.epoch
         (s0, Fin.result (toLe 2 e.current ++ toLe 1 e.state.ctorIdx ++ toLe 1 (flag e.repairPending + 2 * flag e.applyPending)
           ++ toLe 4 (if e.state = .staged then e.stagedId else 0) ++ toLe 6 e.commitTick
           ++ toLe 6 ((e.retireAt.map s0.tickAt).getD 0) ++ toLe 2 (if e.overlayAt.isSome then 0xFFFF else e.overlay.getD 0xFFFF)
           ++ toLe 1 (e.prepared.filter (fun p => p.tag == e.current)).length ++ toLe 1 e.stranded.length ++ toLe 2 (e.pins.filter Pin.inForce).length
           ++ toLe 4 e.pinConflicts ++ zeros 2 ++ field (e.drains.flatMap DrainRecord.bytes) 0 192
           ++ e.pins.flatMap (fun p => toLe 2 p.id ++ zeros 2 ++ toLe 4 p.conflicts)))))))
  ∧ (∀ (p : Packet) (s : State),
      Admitted opSliceGet p s = true →
      p.effTick = 0 →
      exec (.sliceGet p) s = .next (Done s (ended s.freshCmd
        (let s0 := begun opSliceGet p (fetched p s)
         match s0.slice p.job with
         | some x => (s0, Fin.result x.result)
         | none =>
           let r := s0.access.retired.filter (fun e => e.1 == s0.up.bolt)
           let f := s0.freeSpares s0.up.bolt
           (s0, Fin.result (toLe 2 r.length ++ toLe 2 f.length ++ zeros 4 ++ r.flatMap (fun e => toLe 8 e.2)
             ++ f.flatMap (fun n => toLe 2 n.addr)))))))
  ∧ (∀ (p : Packet) (s : State),
      Admitted opAccessGet p s = true →
      p.effTick = 0 →
      exec (.accessGet p) s = .next (Done s (ended s.freshCmd
        (let s0 := begun opAccessGet p (fetched p s)
         let b := p.body
         let gs := if le b 4 2 = 0 then [] else s0.jobGrants (le b 4 2)
         (s0, Fin.result (toLe 2 (le b 2 2) ++ toLe 1 gs.length ++ zeros 5
           ++ (List.range (le b 2 2)).flatMap (fun i => (s0.master (le b 0 2 + i)).bytes)
           ++ gs.flatMap (fun g => toLe 1 g.number ++ zeros 3 ++ g.bytes)))))))
  ∧ (∀ (p : Packet) (s : State),
      Admitted opGroupStatus p s = true →
      p.effTick = 0 →
      exec (.groupStatus p) s = .next (Done s (ended s.freshCmd
        (let s0 := begun opGroupStatus p (fetched p s)
         match namedGroup p s0 with
         | some g => (s0, Fin.result g.statusBytes)
         | none => (s0, Fin.ok)))))
  ∧ (∀ (p : Packet) (s : State),
      Admitted opPlanStatus p s = true →
      p.effTick = 0 →
      exec (.planStatus p) s = .next (Done s (ended s.freshCmd
        (let s0 := begun opPlanStatus p (fetched p s)
         match namedPlan p s0 with
         | some q => (s0, Fin.result q.statusBytes)
         | none => (s0, Fin.ok)))))
  ∧ (∀ (p : Packet) (s : State),
      Admitted opTableStatus p s = true →
      p.effTick = 0 →
      exec (.tableStatus p) s = .next (Done s (ended s.freshCmd
        (let s0 := begun opTableStatus p (fetched p s)
         match namedTable p s0 with
         | some t => (s0, Fin.result t.statusBytes)
         | none => (s0, Fin.ok)))))
  ∧ (∀ (p : Packet) (s : State),
      Admitted opTableRead p s = true →
      p.effTick = 0 →
      exec (.tableRead p) s = .next (Done s (ended s.freshCmd
        (let s0 := begun opTableRead p (fetched p s)
         match namedTable p s0 with
         | none => (s0, .done 0x11 (p.off 0) [])
         | some t =>
           let k := le p.body 4 2
           let ids := (List.range k).map (fun i => le p.body (8 + 8 * i) 8)
           let n := s0.drawn
           ({ s0 with drawn := n + k }, Fin.result (ids.zipIdx.flatMap (fun x => s0.readRow t (bit (le p.body 2 1) 0) x.1 (n + x.2))))))))
  ∧ (∀ (p : Packet) (s : State),
      Admitted opGenerationStatus p s = true →
      p.effTick = 0 →
      exec (.generationStatus p) s = .next (Done s (ended s.freshCmd
        (let s0 := begun opGenerationStatus p (fetched p s)
         let g := le p.body 0 4
         let xs := s0.store.slots.filter (fun x => x.job == p.job && (g == 0 || x.gen == g))
         (s0, Fin.result ((sortBy (fun x => x.gen % 2) xs).flatMap s0.genRecord))))))
  ∧ (∀ (p : Packet) (s : State),
      Admitted opMtrBatchGet p s = true →
      p.effTick = 0 →
      exec (.mtrBatchGet p) s = .next (Done s (ended s.freshCmd
        (let id := s.freshCmd
         let s0 := begun opMtrBatchGet p (fetched p s)
         (s0.startQuery id 1 (le p.body 0 8) (le p.body 8 2) 0, .running)))))
  ∧ (∀ (p : Packet) (s : State),
      Admitted opMtrJobEnergyGet p s = true →
      p.effTick = 0 →
      exec (.mtrJobEnergyGet p) s = .next (Done s (ended s.freshCmd
        (let id := s.freshCmd
         let s0 := begun opMtrJobEnergyGet p (fetched p s)
         (s0.startQuery id 2 (le p.body 0 8) (le p.body 8 2) p.job, .running)))))
  ∧ (∀ (p : Packet) (s : State),
      Admitted opMtrAuditGet p s = true →
      p.effTick = 0 →
      exec (.mtrAuditGet p) s = .next (Done s (ended s.freshCmd
        (let id := s.freshCmd
         let s0 := begun opMtrAuditGet p (fetched p s)
         (s0.startQuery id 3 (le p.body 0 4) (le p.body 4 2) 0, .running)))))
  ∧ (∀ (p : Packet) (s : State),
      Admitted opMtrIdentityGet p s = true →
      p.effTick = 0 →
      exec (.mtrIdentityGet p) s = .next (Done s (ended s.freshCmd
        (let id := s.freshCmd
         let s0 := begun opMtrIdentityGet p (fetched p s)
         (s0.startQuery id 4 0 0 0, .running)))))
  ∧ (∀ (p : Packet) (s : State),
      Admitted opCountersGet p s = true →
      p.effTick = 0 →
      exec (.countersGet p) s = .next (Done s (ended s.freshCmd
        (let id := s.freshCmd
         let s0 := begun opCountersGet p (fetched p s)
         let (set, first, n) := (le p.body 0 1, le p.body 4 4, le p.body 8 4)
         match set with
         | 0 =>
           let hit := (s0.streams.filter (fun e => first ≤ e.1 && e.2.state != 0 && e.2.job == p.job)).take n
           (s0, .result (countersResult (hit.map (fun e => toLe 4 e.1 ++ toLe 4 e.2.txSeq ++ toLe 4 e.2.rxSeq ++ toLe 4 e.2.ccntPrev
             ++ toLe 4 e.2.loss ++ toLe 2 e.2.outstanding ++ zeros 2))))
         | 1 =>
           let reads := ((s0.jobReads p.job).drop first).take n
           if reads = [] then (s0, .result (countersResult [])) else (s0.askCounters id reads, .running)
         | 2 => (s0, .result (countersResult (((((s0.slice p.job).map Slice.notices).getD []).drop first).take n |>.map Notice.bytes)))
         | _ =>
           let own := (((List.range 40).map (fun q => (s0.port q).flow.counters.flatMap (toLe 8))).drop first).take n
           let reads := (s0.portReads.drop (first - 40)).take (n - own.length)
           if reads = [] then (s0, .result (countersResult own))
           else ((s0.modCmd id (fun c => { c with parts := own.map (fun b => (2 ^ 32, b)) })).askCounters id reads, .running)))))
  ∧ (∀ (p : Packet) (s : State),
      Admitted opAgentCountersRead p s = true →
      p.effTick = 0 →
      exec (.agentCountersRead p) s = .next (Done s (ended s.freshCmd
        (let id := s.freshCmd
         let s0 := begun opAgentCountersRead p (fetched p s)
         let b := p.body
         (s0.askCounters id [(le b 0 2, le b 2 1, le b 4 2, le b 6 1)], .running)))))
  ∧ (∀ (p : Packet) (s : State),
      Admitted opAttestGet p s = true →
      p.effTick = 0 →
      exec (.attestGet p) s = .next (Done s (ended s.freshCmd
        (let id := s.freshCmd
         let s0 := begun opAttestGet p (fetched p s)
         if !s0.selvedgeRoom { sig := 1 } then
           (s0.modCmd id (fun c => { c with phase := .timed, due := s0.clock.now + 1, endStatus := 0x13, endDetail := c.endDetail + 1 }), .running)
         else
         let s0 := s0.selvedgeSpend { sig := 1 }
         let b := p.body
         let fl := le b 32 1
         let job := match s0.slice p.job with
           | some x => if bit fl 0 then s0.jobSection x else []
           | none => []
         let log := if bit fl 1 then
             ((s0.sec.log.filter (fun r => decide (le b 40 8 ≤ r.index))).take (le b 33 1)).flatMap SecRec.bytes else []
         let certs := if bit fl 2 then field (Config.partBytes "intermediate certificate") 0 3144
             ++ field (Config.partBytes "device certificate") 0 3144 else []
         let tail := job ++ log ++ certs
         let report := s0.reportHead (field b 0 32) (512 + tail.length) ++ tail
         let (s1, n) := s0.draw
         let sig := field (Config.falconSign "device" (shake32 (ascii "GN7ATST1" ++ report)) n) 0 1280
         (s1, Fin.result (report ++ toLe 1 5 ++ toLe 1 1 ++ toLe 2 1280 ++ zeros 4 ++ sig))))))
  ∧ (∀ (p : Packet) (s : State),
      Admitted opDebugChallenge p s = true →
      p.effTick = 0 →
      exec (.debugChallenge p) s = .next (Done s (ended s.freshCmd
        (let s0 := begun opDebugChallenge p (fetched p s)
         let (s1, n) := s0.randomBytes 32
         ((s1.modSec (fun x => { x with nonce := some (n, s0.clock.now) })).secLog 4 0x0B07 0 0 [], Fin.result (n ++ identityDigest))))))

/-- An admitted row of these takes its effect at once: DEVICE_RESET seals the meters and resets two ticks later, CMD_CANCEL ends a command that has not begun, TICK_CONFIG and TICK_START set the clock and start it, COSIGN_WITHDRAW ends a hold, FAULT_RELEASE and UNFENCE release, SEVERITY_SET and OPPOINT_SET set, UNIT_DISABLE drains, UNIT_ENABLE powers, CURRENT_DECLARE declares. (R106, R66) -/
def Obligations.DeviceCommandsComplete : Prop :=
  (∀ (p : Packet) (s : State),
      Admitted opDeviceReset p s = true →
      p.effTick = 0 →
      exec (.deviceReset p) s = .next (Done s (ended s.freshCmd
        (let id := s.freshCmd
         let s0 := begun opDeviceReset p (fetched p s)
         match s0.cmd id with
         | none => (s0, .running)
         | some c =>
           if p.effTick = 0 ∧ c.stage = 0 then
             ((s0.modCmd id (fun d => { d with phase := .timed, due := s0.clock.now + 2, stage := 1 })).modBuckram (fun b => b.post 5 []),
               .running)
           else (s0.deviceReset id, .running)))))
  ∧ (∀ (p : Packet) (s : State),
      Admitted opCmdCancel p s = true →
      p.effTick = 0 →
      exec (.cmdCancel p) s = .next (Done s (ended s.freshCmd
        (let id := s.freshCmd
         let s0 := begun opCmdCancel p (fetched p s)
         let slot := ((s0.cmd id).map Cmd.master).getD 0
         match s0.namedCmd p with
         | none => (s0, .done 0x11 (p.off 4) [])
         | some c =>
           if c.master ≠ slot ∧ !s0.isOperator slot then (s0, .done 0x20 (8 + 256 * slot) [])
           else if c.begun ∨ c.phase = .running then (s0, .done 0x20 (6 + 256 * slot) [])
           else (s0.endCmd c.id 0x20 (3 + 256 * c.master), Fin.ok)))))
  ∧ (∀ (p : Packet) (s : State),
      Admitted opTickConfig p s = true →
      p.effTick = 0 →
      exec (.tickConfig p) s = .next (Done s (ended s.freshCmd
        (let s0 := begun opTickConfig p (fetched p s)
         (s0.modClock (fun c => { c with period := le p.body 0 1, mode := le p.body 1 1 }), Fin.ok)))))
  ∧ (∀ (p : Packet) (s : State),
      Admitted opTickStart p s = true →
      p.effTick = 0 →
      exec (.tickStart p) s = .next (Done s (ended s.freshCmd
        (let s0 := begun opTickStart p (fetched p s)
         let refuse (cause : Nat) : Fin := .done 0x03 (s0.up.dev.code + 256 * cause) []
         if s0.clock.loaded then (s0, Fin.ok)
         else if !s0.treeMeasured then (s0, refuse 3)
         else match s0.elected with
           | none => (s0, refuse 5)
           | some m =>
             if m ≠ s0.ownId then (s0, .running)
             else (s0.modClock (fun c => { c with startFrom := c.startFrom.or (some (c.now + c.period)) }), .running)))))
  ∧ (∀ (p : Packet) (s : State),
      Admitted opCosignWithdraw p s = true →
      p.effTick = 0 →
      exec (.cosignWithdraw p) s = .next (Done s (ended s.freshCmd
        (let s0 := begun opCosignWithdraw p (fetched p s)
         match s0.holdOf (field p.body 0 32) with
         | some c => (s0.endCmd c.id 0x20 (4 + 256 * c.master), .done 0 1 [])
         | none => (s0, .done 0 0 [])))))
  ∧ (∀ (p : Packet) (s : State),
      Admitted opFaultRelease p s = true →
      p.effTick = 0 →
      exec (.faultRelease p) s = .next (Done s (ended s.freshCmd
        (let s0 := begun opFaultRelease p (fetched p s)
         if !s0.faults.latched then (s0, Fin.ok)
         else
           let s1 := { s0 with faults := { s0.faults with latched := false, recoveries := [], releasedAt := some s0.clock.now } }
           (s1.deviceEvent 3 s1.up.dev.code s1.up.dev.code, Fin.ok)))))
  ∧ (∀ (p : Packet) (s : State),
      Admitted opSeveritySet p s = true →
      p.effTick = 0 →
      exec (.severitySet p) s = .next (Done s (ended s.freshCmd
        (let s0 := begun opSeveritySet p (fetched p s)
         let old := if bit (le p.body 1 1) 0 then [] else s0.faults.sevs
         let q := le p.body 4 4
         ({ s0 with faults := { s0.faults with
             sevs := old ++ sevEntries p, q := if q = 0 then s0.faults.q else q } }, Fin.ok)))))
  ∧ (∀ (p : Packet) (s : State),
      Admitted opUnfence p s = true →
      p.effTick = 0 →
      exec (.unfence p) s = .next (Done s (ended s.freshCmd
        (let id := s.freshCmd
         let s0 := begun opUnfence p (fetched p s)
         let src := le p.body 0 2
         let port := le p.body 2 1
         let slot := ((s0.cmd id).map Cmd.master).getD 0
         match s0.unfenceOf src with
         | .refused => (s0, .done 0x11 (p.off 0) [])
         | .unit k i =>
           if s0.unitStatus k i = .fencing then (s0, .done 0x02 (((s0.unitRec k i).map UnitRec.outstanding).getD 0) [])
           else if s0.unitStatus k i ≠ .fenced then (s0, Fin.ok)
           else
             let s1 := if 8 ≤ k ∧ k ≤ 13 then s0.domainOn (unitDomain k i) else s0
             (s1.modCmd id (fun c => { c with stage := 1, data := [k, i] }), .running)
         | .port q =>
           if s0.unitStatus 8 q = .fencing then (s0, .done 0x02 (((s0.unitRec 8 q).map UnitRec.outstanding).getD 0) [])
           else if s0.unitStatus 8 q ≠ .fenced then (s0, Fin.ok)
           else
             let s1 := (s0.clearUnit 8 q).modLink { port := q } (fun l => { l with state := .down, step := 0, attempts := 0, fenceCause := 0 })
             (((s1.reportLink { port := q }).noteUnfence src port slot).refreshDev, Fin.ok)
         | .node a =>
           let hit (e : Nat × Nat) : Bool := e.1 == a && (port == 0xFF || e.2 == port)
           if !s0.faults.unroutable.any hit then (s0, Fin.ok)
           else
             let s1 : State := { s0 with
               faults := { s0.faults with unroutable := s0.faults.unroutable.filter (fun e => !hit e) }
               fabric := { s0.fabric with news := s0.fabric.news ++ [.restore a port] } }
             (s1.noteUnfence src port slot, Fin.ok)))))
  ∧ (∀ (p : Packet) (s : State),
      Admitted opOppointSet p s = true →
      p.effTick = 0 →
      exec (.oppointSet p) s = .next (Done s (ended s.freshCmd
        (let s0 := begun opOppointSet p (fetched p s)
         let b := p.body
         let v (i old : Nat) : Nat := if le b i 1 = 0xFF then old else le b i 1
         ({ s0 with power := { s0.power with points := s0.power.points.zipIdx.map (fun x => (v (2 * x.2) x.1.1, v (2 * x.2 + 1) x.1.2)) } },
           Fin.ok)))))
  ∧ (∀ (p : Packet) (s : State),
      Admitted opUnitDisable p s = true →
      p.effTick = 0 →
      exec (.unitDisable p) s = .next (Done s (ended s.freshCmd
        (let id := s.freshCmd
         let s0 := begun opUnitDisable p (fetched p s)
         let us := (namedUnits (le p.body 0 1) (le p.body 1 1)).filter (fun u => s0.unitStatus u.1 u.2 == .active)
         let slot := ((s0.cmd id).map Cmd.master).getD 0
         if us.any (fun u => s0.disableRefused u.1 u.2 us) then (s0, .done 0x20 (5 + 256 * slot) [])
         else if us = [] then (s0, Fin.ok)
         else
           let s1 := us.foldl (fun t u => t.drainUnit u.1 u.2) s0
           ((s1.modCmd id (fun c => { c with data := us.flatMap (fun u => [u.1, u.2]) })).postPending id 0, .running)))))
  ∧ (∀ (p : Packet) (s : State),
      Admitted opUnitEnable p s = true →
      p.effTick = 0 →
      exec (.unitEnable p) s = .next (Done s (ended s.freshCmd
        (let id := s.freshCmd
         let s0 := begun opUnitEnable p (fetched p s)
         let us := namedUnits (le p.body 0 1) (le p.body 1 1)
         let off := us.filter (fun u => s0.unitStatus u.1 u.2 == .off)
         let fenced := if le p.body 0 1 = 7 then none else s0.fencedUnit us
         match fenced with
         | some u => (s0, .done 0x30 (unitSource u.1 u.2) [])
         | none =>
           let ready := off.filter (fun u => s0.up.domains.contains (unitDomain u.1 u.2))
           let cold := off.filter (fun u => !s0.up.domains.contains (unitDomain u.1 u.2))
           let s1 := ready.foldl (fun t u => t.clearUnit u.1 u.2) s0
           let s2 := { s1 with up := { s1.up with
             domainsOffDue := s1.up.domainsOffDue.filter (fun d => !us.any (fun u => unitDomain u.1 u.2 == d)) } }
           if cold = [] then (s2, Fin.ok)
           else
             let s3 := (cold.map (fun u => unitDomain u.1 u.2)).eraseDups.foldl (fun t d => t.domainOn d) s2
             (s3.modCmd id (fun c => { c with stage := 1, data := cold.flatMap (fun u => [u.1, u.2]) }), .running)))))
  ∧ (∀ (p : Packet) (s : State),
      Admitted opCurrentDeclare p s = true →
      p.effTick = 0 →
      exec (.currentDeclare p) s = .next (Done s (ended s.freshCmd
        (let s0 := begun opCurrentDeclare p (fetched p s)
         let (a, b) := (le p.body 0 2, le p.body 2 2)
         let one (m : List (Nat × Nat)) (len kind : Nat) : List (Nat × Nat) :=
           let v := le p.body (4 + 2 * kind) 2
           if v = 0xFFFF then m else kvSet m (len * 8 + kind) v
         ({ s0 with power := { s0.power with declared := (List.range (b + 1 - a)).foldl (fun m i => (List.range 6).foldl (fun n k => one n (a + i) k) m) s0.power.declared } }, Fin.ok)))))

/-- An admitted DISCOVER_START walks or refreshes, SHELF_ASSIGN writes shelves, ROUTE_SOLVE and FAILOVER_PREPARE ask for a solve, ROUTE_STAGE stages; RACK_ABSORB without an effective tick is held for three ticks and takes its effect then; LINK_RETRAIN, ROUTE_PIN and ROUTE_UNPIN begin at their acceptance; ROUTE_COMMIT commits at its tick. (R66, R67, R289, R304) -/
def Obligations.FabricCommandsComplete : Prop :=
  (∀ (p : Packet) (s : State),
      Admitted opDiscoverStart p s = true →
      p.effTick = 0 →
      exec (.discoverStart p) s = .next (Done s (ended s.freshCmd
        (let id := s.freshCmd
         let s0 := begun opDiscoverStart p (fetched p s)
         let s1 := s0.measureAll
         let w : Walk := {
           cmd := some id, mode := if le p.body 0 1 = 0 then .full else .refresh, spares := namedSerials p }
         if !s0.isPrimary then (s1, Fin.ok)
         else if le p.body 0 1 = 0 then
           let s2 := (s1.beginWalk w).recordSelf
           ((s2.walkStart s2.fabric.walk s2.ownPaths).postPending id 0, .running)
         else
           let nodes := s1.ownSection.nodes.filter (fun n => n.kind != 4 && !n.retired && n.addr != 0xFFFF)
           let s2 := (s1.beginWalk { w with running := true, stage := 2, level := 0, since := s1.clock.now }).recordSelf
           let s3 := nodes.foldl (fun t n =>
             let k := t.nextId
             (t.ask n.addr 0x03 [] none Purpose.refresh.code).modWalk (fun v => { v with
               awaits := v.awaits ++ [k], claimed := v.claimed ++ [n.addr] })) s2
           (s3.postPending id 0, .running)))))
  ∧ (∀ (p : Packet) (s : State),
      Admitted opRackAbsorb p s = true →
      p.effTick = 0 →
      exec (.rackAbsorb p) s = .next (Done s (
        (let id := s.freshCmd
         let s0 := withEntry (fetched p s) (entryOf opRackAbsorb p (fetched p s) (s.clock.now + 3))
         if !s0.isPrimary then s0
         else
           let w : Walk := {
             cmd := some id, mode := .absorb, rack := le p.body 0 1, move := bit (le p.body 1 1) 0, spares := namedSerials p }
           let s1 := (s0.modCmd id (fun c => { c with phase := .running, begun := true })).beginWalk w
           (s1.walkStart s1.fabric.walk s1.absorbPaths).postPending id p.effTick))))
  ∧ (∀ (p : Packet) (id : Nat) (c : Cmd) (s : State),
      s.cmd id = some c →
      c.pkt = asOp opRackAbsorb p →
      c.endStatus = 0 →
      s.runCmd opRackAbsorb id = ended id
        (let s0 := underway c id s
         if s0.isPrimary then (s0, .running) else (s0, .done 0x20 5 [])))
  ∧ (∀ (p : Packet) (s : State),
      Admitted opLinkRetrain p s = true →
      p.effTick = 0 →
      exec (.linkRetrain p) s = .next (Done s (ended s.freshCmd
        (let id := s.freshCmd
         let s0 := begun opLinkRetrain p (fetched p s)
         let (a, q) := (le p.body 0 2, le p.body 2 1)
         let s1 := s0.modCmd id (fun c => { c with data := [a, q], stage := 0, effect := some s0.tickNow })
         if a = s0.ownAddr then
           let r : PortRef := { node := .geneel, port := q }
           ((s1.modLink r (fun l => { l with attempts := 0 })).trainPort q, .running)
         else
           let link := s0.ownSection.link a q
           (s1.grantTraining a ((link.map TopoLink.dst).getD 0xFFFF) 8 (link.map TopoLink.dport), .running)))))
  ∧ (∀ (p : Packet) (s : State),
      Admitted opShelfAssign p s = true →
      p.effTick = 0 →
      exec (.shelfAssign p) s = .next (Done s (ended s.freshCmd
        (let id := s.freshCmd
         let s0 := begun opShelfAssign p (fetched p s)
         let es := shelfEntries p
         if s0.shelfMoves es then (s0, .done 0x20 (5 + 256 * ((s0.cmd id).map Cmd.master).getD 0) []) else
         (s0.changeSection (fun x => { x with nodes := x.nodes.map (fun n =>
           es.foldl (fun m e => if e.1 ≤ m.addr ∧ m.addr ≤ e.2.1 then { m with shelf := e.2.2.1, rack := e.2.2.2 } else m) n) }),
           Fin.ok)))))
  ∧ (∀ (p : Packet) (s : State),
      Admitted opRouteSolve p s = true →
      p.effTick = 0 →
      exec (.routeSolve p) s = .next (Done s (ended s.freshCmd
        (let id := s.freshCmd
         let s0 := begun opRouteSolve p (fetched p s)
         let (s1, ok) := s0.requestSolve (.command id) (decodeParams p.body)
         if ok then (s1.postPending id 0, .running) else (s0, .done 0x12 1 [])))))
  ∧ (∀ (p : Packet) (s : State),
      Admitted opRouteStage p s = true →
      p.effTick = 0 →
      exec (.routeStage p) s = .next (Done s (ended s.freshCmd
        (let id := s.freshCmd
         let s0 := begun opRouteStage p (fetched p s)
         if !(s0.result (le p.body 0 4)).any s0.resultFresh then (s0.discardResult (le p.body 0 4), .done 0x40 0 [])
         else if s0.fabric.epoch.state = .draining then
           let s1 := (s0.announceStage (le p.body 0 4) (le p.body 4 1)).forceRetire
           (s1.modCmd id (fun c => { c with phase := .timed, due := (s1.fabric.epoch.retireAt.getD s0.clock.now), stage := 1 }), .running)
         else if (s0.cmd id).any (fun c => c.stage == 1) then
           (s0.beginStaging (le p.body 0 4) (le p.body 4 1) .host (some id), .running)
         else (s0.startStaging (le p.body 0 4) (le p.body 4 1) .host (some id), .running)))))
  ∧ (∀ (p : Packet) (s : State),
      Admitted opFailoverPrepare p s = true →
      p.effTick = 0 →
      exec (.failoverPrepare p) s = .next (Done s (ended s.freshCmd
        (let id := s.freshCmd
         let s0 := begun opFailoverPrepare p (fetched p s)
         let b := p.body
         let mode := le b 0 1
         let els := (chunks 8 (le b 1 1) (b.drop 8)).map (fun r => (le r 0 1, le r 2 2, le r 4 1))
         let s1 := if 2 ≤ mode then s0.modEpoch (fun e => { e with standing := (mode - 2, els) }) else s0
         let (s2, ok) := s1.requestSolve (.failover (some id) (mode % 2) els) { s0.fabric.epoch.params with scope := 0, flags := 0, ranges := [] }
         if ok then (s2.postPending id 0, .running) else (s1, .done 0x12 1 [])))))
  ∧ (∀ (p : Packet) (s : State),
      Admitted opRoutePin p s = true →
      p.effTick = 0 →
      exec (.routePin p) s = .next (Done s (
        (let id := s.freshCmd
         let s0 := withEntry (fetched p s) (entryOf opRoutePin p (fetched p s) s.clock.now)
         if bit (le p.body 7 1) 0 then
           let (s1, pin) := s0.addPin p (((s0.cmd id).map Cmd.due).getD s0.clock.now) (some id)
           (s1.modCmd id (fun c => { c with data := [pin.id] })).applyPin id pin.first pin.last
         else s0).runCmd opRoutePin s.freshCmd)))
  ∧ (∀ (p : Packet) (id : Nat) (c : Cmd) (s : State),
      s.cmd id = some c →
      c.pkt = asOp opRoutePin p →
      c.endStatus = 0 →
      s.runCmd opRoutePin id = ended id
        (let s0 := underway c id s
         if bit (le p.body 7 1) 0 then (s0, .running)
         else
           let (s1, pin) := s0.addPin p s0.clock.now none
           (s1, Fin.result (toLe 2 pin.id))))
  ∧ (∀ (p : Packet) (s : State),
      Admitted opRouteUnpin p s = true →
      p.effTick = 0 →
      exec (.routeUnpin p) s = .next (Done s (
        (let id := s.freshCmd
         let s0 := withEntry (fetched p s) (entryOf opRouteUnpin p (fetched p s) s.clock.now)
         match s0.fabric.epoch.pins.find? (fun (q : Pin) => q.id == le p.body 0 2), bit (le p.body 2 1) 0 with
         | some q, true => (s0.unpin q.id (((s0.cmd id).map Cmd.due).getD s0.clock.now) (some id)).applyPin id q.first q.last
         | _, _ => s0).runCmd opRouteUnpin s.freshCmd)))
  ∧ (∀ (p : Packet) (id : Nat) (c : Cmd) (s : State),
      s.cmd id = some c →
      c.pkt = asOp opRouteUnpin p →
      c.endStatus = 0 →
      s.runCmd opRouteUnpin id = ended id
        (let s0 := underway c id s
         if bit (le p.body 2 1) 0 then (s0, .running) else (s0.unpin (le p.body 0 2) s0.clock.now none, Fin.ok)))
  ∧ (∀ (p : Packet) (s : State),
      Admitted opRouteCommit p s = true →
      p.effTick ≠ 0 →
      exec (.routeCommit p) s = .next (Done s (
        (let id := s.freshCmd
         let s0 := withEntry (fetched p s) (entryOf opRouteCommit p (fetched p s) (s.instantOf p.effTick))
         (s0.modCmd id (fun c => { c with phase := .running, begun := true })).commitStaged (le p.body 0 4) (le p.body 4 2)
           (s0.instantOf p.effTick) (some id)).postPending s.freshCmd p.effTick)))

/-- An admitted row of these without an effective tick begins at its acceptance what its agents need (streams reserved, entries sent, shards asked), is held for three ticks and takes its effect then, with its result; TABLE_LOAD runs at once. (R66, R67, R119) -/
def Obligations.CollectiveCommandsComplete : Prop :=
  (∀ (p : Packet) (s : State),
      Admitted opGroupCreate p s = true →
      p.effTick = 0 →
      exec (.groupCreate p) s = .next (Done s (
        (let id := s.freshCmd
         let s0 := withEntry (fetched p s) (entryOf opGroupCreate p (fetched p s) (s.clock.now + 3))
         match s0.freeGroup (s0.homeBolt p.job), s0.twill.bases.find? (fun b => b.job == p.job) with
         | some gid, some b =>
           let trees := if bit (le p.body 7 1) 0 then 1 else 2
           let (s1, ids) := s0.reserveStreams (groupStreams p.job gid trees)
           let g := s1.makeGroup p gid b ids
           let due := ((s1.cmd id).map Cmd.due).getD s1.clock.now
           let s2 := s1.sendTrees g g.t0 g.t1 true (s1.tickAt due) (some id)
           { s2.modCmd id (fun c => { c with data := [gid] }) with
             twill := { s2.twill with groups := insertBy Group.id s2.twill.groups g } }
         | _, _ => s0))))
  ∧ (∀ (p : Packet) (id : Nat) (c : Cmd) (s : State),
      s.cmd id = some c →
      c.pkt = asOp opGroupCreate p →
      c.endStatus = 0 →
      s.runCmd opGroupCreate id = ended id
        (let s0 := underway c id s
         match ((s0.cmd id).map Cmd.data).bind List.head? with
         | none => (s0, .done 0x12 1 [])
         | some gid => match s0.group gid with
           | none => (s0, .done 0x12 1 [])
           | some g =>
             let c := s0.cmd id
             let ids := [g.t0.up, g.t0.down] ++ ((g.t1.map (fun t => [t.up, t.down])).getD [])
             let bad := (c.map Cmd.endStatus).getD 0
             if bad ≠ 0 ∧ bad ≠ 0x13 then
               let s1 := (s0.sendTrees g g.t0 g.t1 false (s0.nameTick 3) none).dropReserved ids
               ({ s1 with twill := { s1.twill with groups := s1.twill.groups.filter (fun x => x.id != gid) } },
                 .done bad ((c.map Cmd.endDetail).getD 0) [])
             else
               let s1 := (s0.modGroup gid (fun h => { h with opening := false })).openReserved ids
               let s2 := (s1.grantGroup g).mirrorDelta 6 gid g.result
               let gone (l : TreeLink) : Bool := !s2.treeLinks.any (fun x => x.src == l.src && x.sport == l.sport && l.width ≤ x.width)
               let s3 := if g.t0.links.any gone ∨ (g.t1.any (fun t => t.links.any gone)) then s2.loseTree gid [] else s2
               (s3, Fin.result g.result)))
  ∧ (∀ (p : Packet) (s : State),
      Admitted opGroupDestroy p s = true →
      p.effTick = 0 →
      exec (.groupDestroy p) s = .next (Done s (
        (let id := s.freshCmd
         let s0 := withEntry (fetched p s) (entryOf opGroupDestroy p (fetched p s) (s.clock.now + 3))
         match namedGroup p s0 with
         | none => s0
         | some g =>
           let due := ((s0.cmd id).map Cmd.due).getD s0.clock.now
           let was := match g.state with
             | .rebuild => 1
             | .waiting => 2
             | _ => 0
           ((s0.modGroup g.id (fun h => { h with state := .draining })).modCmd id (fun c => { c with data := [was, g.id] })).sendTrees
             g g.t0 g.t1 false (s0.tickAt due) (some id)))))
  ∧ (∀ (p : Packet) (id : Nat) (c : Cmd) (s : State),
      s.cmd id = some c →
      c.pkt = asOp opGroupDestroy p →
      c.endStatus = 0 →
      s.runCmd opGroupDestroy id = ended id
        (let s0 := underway c id s
         match namedGroup p s0 with
         | none => (s0, Fin.ok)
         | some g =>
           let bad := ((s0.cmd id).map Cmd.endStatus).getD 0
           if bad ≠ 0 ∧ bad ≠ 0x13 then
             (((s0.cmd id).map (fun c => s0.discard c)).getD s0, .done bad (((s0.cmd id).map Cmd.endDetail).getD 0) [])
           else
           let ids := [g.t0.up, g.t0.down] ++ ((g.t1.map (fun t => [t.up, t.down])).getD [])
           let s1 := ids.foldl (fun t i => t.releaseStream i) s0
           let s2 := { s1 with twill := { s1.twill with groups := s1.twill.groups.filter (fun x => x.id != g.id) } }
           let s3 := (s2.dropGrants 0 g.id).dropGrants 1 g.id
           let s4 := { s3 with power := { s3.power with barriers := kvErase s3.power.barriers g.id } }
           ((if g.op = 5 then s4.quotaChanged.bookBarriers else s4).mirrorDelta 6 g.id, Fin.ok)))
  ∧ (∀ (p : Packet) (s : State),
      Admitted opPlanCreate p s = true →
      p.effTick = 0 →
      exec (.planCreate p) s = .next (Done s (
        (let id := s.freshCmd
         let s0 := withEntry (fetched p s) (entryOf opPlanCreate p (fetched p s) (s.clock.now + 3))
         match s0.freePlan (s0.homeBolt p.job) with
         | none => s0
         | some i =>
           let (s1, ids) := s0.reserveStreams (planStreams p.job i)
           let s2 := s1.modCmd id (fun c => { c with data := i :: ids })
           s2.putPlan { makePlan p i ids with opening := true }))))
  ∧ (∀ (p : Packet) (id : Nat) (c : Cmd) (s : State),
      s.cmd id = some c →
      c.pkt = asOp opPlanCreate p →
      c.endStatus = 0 →
      s.runCmd opPlanCreate id = ended id
        (let s0 := underway c id s
         match (s0.cmd id).map Cmd.data with
         | some (i :: ids) =>
           match s0.plan i with
           | none => (s0, .done 0x12 1 [])
           | some q =>
             let s1 := ((s0.openReserved ids).modPlan i (fun x => { x with opening := false })).mirrorDelta 7 i q.result
             let s2 := if q.isEqual then
                 let e : Exchange := { num := 1, caps := s1.capsNow q }
                 let t := (q.ranksOf s1.up.bolt).foldl (fun t d => t.writeArea q e d true) s1
                 t.modPlan i (fun x => { x with presumed := some (t.planAll q e 4096 0 (t.localPairs q e), t.localPairs q e, 0) })
               else s1
             (s2, Fin.result q.result)
         | _ => (s0, .done 0x12 1 [])))
  ∧ (∀ (p : Packet) (s : State),
      Admitted opPlanDestroy p s = true →
      p.effTick = 0 →
      exec (.planDestroy p) s = .next (Done s (ended s.freshCmd
        (let s0 := begun opPlanDestroy p (fetched p s)
         match namedPlan p s0 with
         | none => (s0, Fin.ok)
         | some q =>
           let s1 := (s0.releaseStream q.dataStream).releaseStream q.countStream
           let s2 := { s1 with jacquard := { s1.jacquard with plans := s1.jacquard.plans.filter (fun x => x.id != q.id) } }
           ((s2.dropGrants 4 q.id).mirrorDelta 7 q.id, Fin.ok)))))
  ∧ (∀ (p : Packet) (s : State),
      Admitted opTableCreate p s = true →
      p.effTick = 0 →
      exec (.tableCreate p) s = .next (Done s (
        (let id := s.freshCmd
         let s0 := withEntry (fetched p s) (entryOf opTableCreate p (fetched p s) (s.clock.now + 3))
         if s0.numbersTables then
           match s0.assignTable with
           | (s1, some t) => s1.spreadCreate id t
           | (s1, none) => s1.endCmd id 0x12 1
         else
           let o : ShardOp := {
             cmd := id, op := 0, table := 0xFFFF, waiting := [0xF000 + s0.clock.master], since := s0.clock.now, needId := true }
           let s1 := { s0 with calico := { s0.calico with ops := s0.calico.ops ++ [o] } }
           let due := ((s1.cmd id).map Cmd.due).getD s1.clock.now
           (s1.modCmd id (fun c => { c with awaits := [shardAwait], begun := true })).sendShard (0xF000 + s0.clock.master) 0 0xFFFF p.job
             (s1.tickAt due) (field p.body 0 48)))))
  ∧ (∀ (p : Packet) (id : Nat) (c : Cmd) (s : State),
      s.cmd id = some c →
      c.pkt = asOp opTableCreate p →
      c.endStatus = 0 →
      s.runCmd opTableCreate id = ended id
        (let s0 := underway c id s
         match ((s0.cmd id).bind (fun c => c.data.head?)).bind s0.table with
         | none => (s0, .done 0x12 1 [])
         | some t => (s0, Fin.result (toLe 2 t.id ++ toLe 1 t.shards.length ++ zeros 1 ++ toLe 8 t.seed ++ toLe 2 t.reqStream
             ++ toLe 2 t.rspStream ++ toLe 2 t.record ++ toLe 1 (lookupLines t.format t.d) ++ zeros 1 ++ toLe 4 t.buckets
             ++ toLe 8 (256 * t.buckets) ++ toLe 4 t.pages ++ zeros 4
             ++ (t.shards.flatMap (toLe 1)) ++ List.replicate (64 - t.shards.length) 0xFF))))
  ∧ (∀ (p : Packet) (s : State),
      Admitted opTableDestroy p s = true →
      p.effTick = 0 →
      exec (.tableDestroy p) s = .next (Done s (
        (let id := s.freshCmd
         let s0 := withEntry (fetched p s) (entryOf opTableDestroy p (fetched p s) (s.clock.now + 3))
         match namedTable p s0 with
         | none => s0
         | some t =>
           let due := ((s0.cmd id).map Cmd.due).getD s0.clock.now
           let s1 := s0.askShards id 2 t.id t.job due t.shards []
           let (s2, busy) := s1.destroyShard t due
           s2.shardAnswer id s2.ownAddr (if busy.isSome then 2 else 0) (busy.getD 0)))))
  ∧ (∀ (p : Packet) (id : Nat) (c : Cmd) (s : State),
      s.cmd id = some c →
      c.pkt = asOp opTableDestroy p →
      c.endStatus = 0 →
      s.runCmd opTableDestroy id = ended id
        (let s0 := underway c id s
         ((match s0.table (le p.body 0 2) with
           | some t => s0.endTable t
           | none => s0), Fin.ok)))
  ∧ (∀ (p : Packet) (s : State),
      Admitted opTableConfig p s = true →
      p.effTick = 0 →
      exec (.tableConfig p) s = .next (Done s (
        (let id := s.freshCmd
         let s0 := withEntry (fetched p s) (entryOf opTableConfig p (fetched p s) (s.clock.now + 3))
         match namedTable p s0 with
         | none => s0
         | some t =>
           let due := ((s0.cmd id).map Cmd.due).getD s0.clock.now
           let s1 := (s0.askShards id 1 t.id t.job due t.shards p.body).modTable t.id (fun t => { t with configs := t.configs ++ [(due, p.body)] })
           s1.shardAnswer id s1.ownAddr 0 0))))
  ∧ (∀ (p : Packet) (id : Nat) (c : Cmd) (s : State),
      s.cmd id = some c →
      c.pkt = asOp opTableConfig p →
      c.endStatus = 0 →
      s.runCmd opTableConfig id = ended id
        (let s0 := underway c id s
         (s0, Fin.ok)))
  ∧ (∀ (p : Packet) (s : State),
      Admitted opTableSnapshot p s = true →
      p.effTick = 0 →
      exec (.tableSnapshot p) s = .next (Done s (
        (let id := s.freshCmd
         let s0 := withEntry (fetched p s) (entryOf opTableSnapshot p (fetched p s) (s.clock.now + 3))
         match namedTable p s0 with
         | none => s0
         | some t =>
           let due := ((s0.cmd id).map Cmd.due).getD s0.clock.now
           let s1 := s0.askShards id 3 t.id t.job due t.shards p.body
           s1.shardAnswer id s1.ownAddr 0 0))))
  ∧ (∀ (p : Packet) (id : Nat) (c : Cmd) (s : State),
      s.cmd id = some c →
      c.pkt = asOp opTableSnapshot p →
      c.endStatus = 0 →
      s.runCmd opTableSnapshot id = ended id
        (let s0 := underway c id s
         let s1 := s0.modStore (fun x => { x with snaps := x.snaps ++ [(id, p.job, le p.body 4 4)] })
         (s1.takeSnapshot (le p.body 0 2) p.body, .running)))
  ∧ (∀ (p : Packet) (s : State),
      Admitted opTableLoad p s = true →
      p.effTick = 0 →
      exec (.tableLoad p) s = .next (Done s (
        (let id := s.freshCmd
         let s0 := withEntry (fetched p s) (entryOf opTableLoad p (fetched p s) s.clock.now)
         match namedTable p s0 with
         | some t =>
           if le p.body 2 1 = 1 then
             let due := ((s0.cmd id).map Cmd.due).getD s0.clock.now
             let s1 := s0.askShards id 4 t.id t.job due t.shards p.body
             s1.shardAnswer id s1.ownAddr 0 0
           else s0
         | none => s0).runCmd opTableLoad s.freshCmd)))
  ∧ (∀ (p : Packet) (id : Nat) (c : Cmd) (s : State),
      s.cmd id = some c →
      c.pkt = asOp opTableLoad p →
      c.endStatus = 0 →
      s.runCmd opTableLoad id = ended id
        (let s0 := underway c id s
         match namedTable p s0 with
         | none => (s0, .done 0x11 (p.off 0) [])
         | some t =>
           let b := p.body
           let (keep, state) := (bit (le b 3 1) 1, bit (le b 3 1) 0)
           if le b 2 1 = 1 then
             let (s1, n) := s0.startLoad t (le b 8 4) keep state (some id)
             (s1, match n with
               | some n => Fin.result n.bytes
               | none => .running)
           else
             let size := 8 + t.rb + (if state then t.sb else 0)
             let (s1, n) := (chunks size (le b 4 4) p.dma).foldl (fun (a : State × LoadCount) r =>
               a.1.loadRow t.id keep false (le r 0 8) (field r 8 t.rb) (if state then field r (8 + t.rb) t.sb else zeros t.sb) a.2) (s0, {})
             (s1, Fin.result n.bytes)))

/-- An admitted STORE_CARVE, STORE_MODE, GENERATION_DROP, ROLE_ASSIGN, PEER_LIST_SET or TAKEOVER takes its effect at once; GENERATION_OPEN, RESTORE_START and SHELF_BUDGET_SET without an effective tick are held for three ticks. (R66, R67) -/
def Obligations.StoreCommandsComplete : Prop :=
  (∀ (p : Packet) (s : State),
      Admitted opStoreCarve p s = true →
      p.effTick = 0 →
      exec (.storeCarve p) s = .next (Done s (ended s.freshCmd
        (let s0 := begun opStoreCarve p (fetched p s)
         let t := le p.body 0 1
         if s0.store.mode = 1 ∧ s0.store.slots ≠ [] then (s0, .done 0x20 5 [])
         else if s0.carveShort t ≠ 0 then (s0, .done 0x12 (s0.carveShort t) [])
         else ({ s0 with carve := t }, Fin.ok)))))
  ∧ (∀ (p : Packet) (s : State),
      Admitted opStoreMode p s = true →
      p.effTick = 0 →
      exec (.storeMode p) s = .next (Done s (ended s.freshCmd
        (let s0 := begun opStoreMode p (fetched p s)
         let m := le p.body 0 1
         if m ≠ s0.store.mode ∧ s0.store.slots ≠ [] then (s0, .done 0x20 5 [])
         else (s0.modStore (fun t => { t with mode := m, spill := bit (le p.body 1 1) 0 }), Fin.ok)))))
  ∧ (∀ (p : Packet) (s : State),
      Admitted opGenerationDrop p s = true →
      p.effTick = 0 →
      exec (.generationDrop p) s = .next (Done s (ended s.freshCmd
        (let s0 := begun opGenerationDrop p (fetched p s)
         let gen := le p.body 0 4
         let noted := (s0.store.known.filter (fun k => k.1 == p.job && k.2.1 == gen)).flatMap (fun k => k.2.2)
         let tabled := (((s0.genSlot p.job gen).map StoreSlot.tables).getD []).flatMap (fun t => t.shards.flatMap s0.tableHolders)
         let holders := ((s0.genShards p.job []).flatMap Prod.snd ++ tabled ++ noted).eraseDups.filter (fun h => h != s0.ownAddr)
         let s1 := holders.foldl (fun t h => t.genCtl h 3 6 p.job gen t.clock.now []) s0
         (((((s1.failGen p.job gen 6).failGenHere p.job gen 6).dropGen p.job gen).forgetGen p.job (· == gen)), Fin.ok)))))
  ∧ (∀ (p : Packet) (s : State),
      Admitted opRoleAssign p s = true →
      p.effTick = 0 →
      exec (.roleAssign p) s = .next (Done s (ended s.freshCmd
        (let s0 := begun opRoleAssign p (fetched p s)
         let b := p.body
         if le b 8 8 ≤ s0.twin.token then (s0, .done 0x40 0 [])
         else (s0.assignRole (le b 0 1) (bit (le b 1 1) 0) (le b 8 8), Fin.ok)))))
  ∧ (∀ (p : Packet) (s : State),
      Admitted opPeerListSet p s = true →
      p.effTick = 0 →
      exec (.peerListSet p) s = .next (Done s (ended s.freshCmd
        (let s0 := begun opPeerListSet p (fetched p s)
         (s0.setPeers p.body, Fin.ok)))))
  ∧ (∀ (p : Packet) (s : State),
      Admitted opTakeover p s = true →
      p.effTick = 0 →
      exec (.takeover p) s = .next (Done s (ended s.freshCmd
        (let id := s.freshCmd
         let s0 := begun opTakeover p (fetched p s)
         let slot := ((s0.cmd id).map Cmd.master).getD 0
         if s0.twin.role = 0 then (s0, .done 0x20 (5 + 256 * slot) [])
         else if le p.body 0 8 ≤ s0.twin.token then (s0, .done 0x40 0 [])
         else if !bit (le p.body 8 1) 0 && s0.twin.mirror != .inSync then (s0, .done 0x20 (5 + 256 * slot) [])
         else (s0.takeOver (le p.body 0 8), Fin.ok)))))
  ∧ (∀ (p : Packet) (s : State),
      Admitted opGenerationOpen p s = true →
      p.effTick = 0 →
      exec (.generationOpen p) s = .next (Done s (
        (let id := s.freshCmd
         let s0 := withEntry (fetched p s) (entryOf opGenerationOpen p (fetched p s) (s.clock.now + 3))
         let gen := s0.nextGen p.job
         let have_ := s0.store.streams.find? (fun x => x.job == p.job)
         let (s1, ck, rs) := match have_ with
           | some x => (s0, x.ckpt, x.rest)
           | none =>
             let e (k : Nat) : Stream := { kind := k, vc := 7, job := p.job, owner := gen % 65536, peer := 0xFFFF }
             let (t, ids) := s0.reserveStreams [e 5, e 6]
             (t, ids.getD 0 0, ids.getD 1 0)
         let all := s1.genShards p.job (genTables p.body)
         let everyone := (all.flatMap Prod.snd).eraseDups
         let up := everyone.filter (fun h => s1.geneelUp h)
         let due := ((s1.cmd id).map Cmd.due).getD s1.clock.now
         let s2 := s1.modStore (fun t => { t with tracks := t.tracks ++ [{
           job := p.job, gen := gen, cmd := some id, expected := all.length
           holders := up.map (fun h => (h, (all.filter (fun x => x.2.contains h)).length, 0)), opening := up }] })
         let s3 := up.foldl (fun t h => t.genCtl h 0 0 p.job gen due (p.body ++ toLe 2 ck ++ toLe 2 rs)) s2
         s3.modCmd id (fun c => { c with data := gen :: (if have_.isSome then [] else [ck, rs]) })))))
  ∧ (∀ (p : Packet) (id : Nat) (c : Cmd) (s : State),
      s.cmd id = some c →
      c.pkt = asOp opGenerationOpen p →
      c.endStatus = 0 →
      s.runCmd opGenerationOpen id = ended id
        (let s0 := underway c id s
         let gen := ((s0.cmd id).bind (fun c => c.data.head?)).getD 0
         let s1 := s0.forgetGen p.job (fun g => g % 2 == gen % 2)
         let homeless := (s0.genShards p.job (genTables p.body)).any (fun x => x.2.all (fun h => !s0.geneelUp h))
         (if homeless then s1.failGen p.job gen 4 else s1, .running)))
  ∧ (∀ (p : Packet) (s : State),
      Admitted opRestoreStart p s = true →
      p.effTick = 0 →
      exec (.restoreStart p) s = .next (Done s (ended s.freshCmd
        (let id := s.freshCmd
         let s0 := begun opRestoreStart p (fetched p s)
         let gen := if le p.body 0 4 = 0 then s0.newestGen p.job else le p.body 0 4
         let named := s0.restoreMembers p.job p.body
         let servers := (named.map s0.serverOf).eraseDups
         let told := (servers ++ named.map (fun a => s0.primaryOf (a / 1024))).eraseDups
         let s0 := s0.modStore (fun t => { t with restores := t.restores ++ [{ cmd := id, job := p.job, gen := gen, waiting := servers }] })
         let (s1, ids) :=
           if le p.body 4 1 ≠ 1 ∨ s0.store.streams.any (fun x => x.job == p.job) then (s0, [])
           else
             let e (k : Nat) : Stream := { kind := k, vc := 7, job := p.job, owner := gen % 65536, peer := 0xFFFF }
             s0.reserveStreams [e 5, e 6]
         let s2 := told.foldl (fun t h => t.genCtl h 4 0 p.job gen t.clock.now (p.body ++ ids.flatMap (toLe 2))) s1
         if servers = [] then
           (s2.modStore (fun t => { t with restores := t.restores.filter (fun r => r.cmd != id) }), Fin.ok)
         else (s2.storeMarker, .running)))))
  ∧ (∀ (p : Packet) (s : State),
      Admitted opShelfBudgetSet p s = true →
      p.effTick = 0 →
      exec (.shelfBudgetSet p) s = .next (Done s (
        (let id := s.freshCmd
         let s0 := withEntry (fetched p s) (entryOf opShelfBudgetSet p (fetched p s) (s.clock.now + 3))
         let due := ((s0.cmd id).map Cmd.due).getD s0.clock.now
         { s0 with power := { s0.power with budgetsDue := s0.power.budgetsDue ++ (shelfBudgets p).map (fun x => (due, x)) } }))))
  ∧ (∀ (p : Packet) (id : Nat) (c : Cmd) (s : State),
      s.cmd id = some c →
      c.pkt = asOp opShelfBudgetSet p →
      c.endStatus = 0 →
      s.runCmd opShelfBudgetSet id = ended id
        (let s0 := underway c id s
         let due := ((s0.cmd id).map Cmd.due).getD s0.clock.now
         let mine := shelfBudgets p
         let s1 := { s0 with power := { s0.power with
           budgetsDue := s0.power.budgetsDue.filter (fun d => !(d.1 == due && mine.contains d.2)) } }
         let s2 := mine.foldl (fun t x => t.setShelf x.1 { t.shelf x.1 with phi := x.2.1, budget := x.2.2.1, volts := x.2.2.2 }) s1
         (s2.quotaChanged.bookBarriers, Fin.ok)))

/-- An admitted FW_STAGE writes and verifies the other slot, FW_ACTIVATE selects a verified image, MTR_PARAM_SET is passed to Buckram; KEY_ROTATE begins its rotations for its tick; SPARE_PROMOTE within its policy begins its promotion. (R66, R557, R582) -/
def Obligations.SecurityCommandsComplete : Prop :=
  (∀ (p : Packet) (s : State),
      Admitted opFwStage p s = true →
      p.effTick = 0 →
      exec (.fwStage p) s = .next (Done s (ended s.freshCmd
        (let s0 := begun opFwStage p (fetched p s)
         let (i, bad) := s0.verifyImage p.dma (le p.body 8 4) (p.off 0)
         let other := 1 - s0.sec.runSlot
         let s1 := s0.modSec (fun x => { x with
           slotA := if other = 0 then i else x.slotA, slotB := if other = 1 then i else x.slotB
           activated := if x.activated = some other then none else x.activated
           policy := if x.activated = some other then { x.policy with bootSlot := x.runSlot, trials := 0 } else x.policy })
         let s2 := s1.secLog 3 0x0B05 (if bad.isNone then 4 else 0) 0 i.digest
         match bad with
         | some e => (s2, .done e.1 e.2 [])
         | none => (s2, Fin.ok)))))
  ∧ (∀ (p : Packet) (s : State),
      Admitted opFwActivate p s = true →
      p.effTick = 0 →
      exec (.fwActivate p) s = .next (Done s (ended s.freshCmd
        (let s0 := begun opFwActivate p (fetched p s)
         let n := le p.body 0 1
         let s1 := s0.setPolicy (fun x => { x with bootSlot := n, prevSlot := s0.sec.runSlot, trials := 4 })
         ((s1.modSec (fun x => { x with activated := some n })).secLog 3 0x0B06 0 0 (s0.sec.slot n).digest, Fin.ok)))))
  ∧ (∀ (p : Packet) (s : State),
      Admitted opMtrParamSet p s = true →
      p.effTick = 0 →
      exec (.mtrParamSet p) s = .next (Done s (ended s.freshCmd
        (let id := s.freshCmd
         let s0 := begun opMtrParamSet p (fetched p s)
         (s0.modBuckram (fun b => { b with
           outbox := paramSegments 128 0 (packetBytes (asOp opMtrParamSet p)), paramCmd := some id }.pump 128), .running)))))
  ∧ (∀ (p : Packet) (s : State),
      Admitted opSparePromote p s = true →
      p.effTick = 0 →
      exec (.sparePromote p) s = .next (Done s (
        (let id := s.freshCmd
         let s0 := withEntry (fetched p s) (entryOf opSparePromote p (fetched p s) (s.clock.now + 3))
         let len := le p.body 0 2
         match s0.slice p.job, s0.spareFor p.job len (le p.body 2 2) with
         | some x, some sp =>
           (s0.modCmd id (fun c => { c with phase := .running, begun := true })).startPromotion x len sp (s0.askedAt p) (some id)
         | _, _ => s0.endCmd id 0x11 (p.off 2)))))
  ∧ (∀ (p : Packet) (s : State),
      Admitted opKeyRotate p s = true →
      p.effTick ≠ 0 →
      exec (.keyRotate p) s = .next (Done s (
        (let id := s.freshCmd
         let s0 := withEntry (fetched p s) (entryOf opKeyRotate p (fetched p s) (s.instantOf p.effTick))
         let s1 := s0.modCmd id (fun c => { c with phase := .running, begun := true })
         (rotateKinds p).foldl (fun t k => t.startRotation p.job k (s0.instantOf p.effTick) (some id)) s1).postPending s.freshCmd p.effTick)))
  ∧ (∀ (p : Packet) (id : Nat) (c : Cmd) (s : State),
      s.cmd id = some c →
      c.pkt = asOp opKeyRotate p →
      c.endStatus = 0 →
      s.runCmd opKeyRotate id = ended id
        (let s0 := underway c id s
         ((rotateKinds p).foldl (fun t k => t.startRotation p.job k (s0.clock.now + 3) (some id)) s0, .running)))

/-- A row of these with a good header, whose later checks pass, takes its effect, or begins it, when every required credential has signed; with one of two signatures it is held or completes a hold; a bad or missing signature ends it with its record. Whether a signature is good is the free value of the verification. (R98, R101, R102, R103, R104, R106) -/
def Obligations.SignedCommandsComplete : Prop :=
  (∀ (p : Packet) (s : State),
      Signable opSliceCreate p s →
      p.effTick = 0 →
      exec (.sliceCreate p) s = .next (Done s (signedBy opSliceCreate p s (fun g =>
        (let v := signedState opSliceCreate p g s
         let id := v.freshCmd
         let s0 := withEntry v (entryOf opSliceCreate p v (v.clock.now + 3))
         s0.startChange 0 id (s0.askedAt p) (sliceOf p))))))
  ∧ (∀ (p : Packet) (s : State) (g : List Nat),
      Signable opSliceCreate p s →
      p.effTick = 0 →
      (fetched p s).checkSigs opSliceCreate (asOp opSliceCreate p) (s.masterOf p.port p.ring) = .full g →
      exec (.sliceCreate p) s = .next (Done s (let v := signedState opSliceCreate p g s
         let id := v.freshCmd
         let s0 := withEntry v (entryOf opSliceCreate p v (v.clock.now + 3))
         s0.startChange 0 id (s0.askedAt p) (sliceOf p))))
  ∧ (∀ (p : Packet) (s : State),
      Signable opSliceModify p s →
      p.effTick = 0 →
      exec (.sliceModify p) s = .next (Done s (signedBy opSliceModify p s (fun g =>
        (let v := signedState opSliceModify p g s
         let id := v.freshCmd
         let s0 := withEntry v (entryOf opSliceModify p v (v.clock.now + 3))
         let old := s0.slice p.job
         s0.startChange 1 id (s0.askedAt p) { sliceOf p with
           granted := (old.map Slice.granted).getD [], promotions := (old.map Slice.promotions).getD 0 })))))
  ∧ (∀ (p : Packet) (s : State) (g : List Nat),
      Signable opSliceModify p s →
      p.effTick = 0 →
      (fetched p s).checkSigs opSliceModify (asOp opSliceModify p) (s.masterOf p.port p.ring) = .full g →
      exec (.sliceModify p) s = .next (Done s (let v := signedState opSliceModify p g s
         let id := v.freshCmd
         let s0 := withEntry v (entryOf opSliceModify p v (v.clock.now + 3))
         let old := s0.slice p.job
         s0.startChange 1 id (s0.askedAt p) { sliceOf p with
           granted := (old.map Slice.granted).getD [], promotions := (old.map Slice.promotions).getD 0 })))
  ∧ (∀ (p : Packet) (s : State),
      Signable opSliceDestroy p s →
      p.effTick = 0 →
      exec (.sliceDestroy p) s = .next (Done s (signedBy opSliceDestroy p s (fun g =>
        (let v := signedState opSliceDestroy p g s
         let id := v.freshCmd
         let s0 := withEntry v (entryOf opSliceDestroy p v (v.clock.now + 3))
         let s1 := match s0.slice p.job with
           | some x => (s0.putSlice { x with state := .draining }).mirrorSlice { x with state := .draining }
           | none => s0
         s1.modCmd id (fun c => { c with phase := .running, begun := true, stage := 1, data := [s0.askedAt p] }))))))
  ∧ (∀ (p : Packet) (id : Nat) (c : Cmd) (s : State),
      s.cmd id = some c →
      c.pkt = asOp opSliceDestroy p →
      c.endStatus = 0 →
      s.runCmd opSliceDestroy id = ended id
        (let s0 := underway c id s
         let c := s0.cmd id
         if (c.map Cmd.stage).getD 0 = 2 then (s0, Fin.ok)
         else
           let s1 := match s0.slice p.job with
             | some x => (s0.putSlice { x with state := .draining }).mirrorSlice { x with state := .draining }
             | none => s0
           (s1.modCmd id (fun d => { d with stage := 1, data := [s0.askedAt p] }), .running)))
  ∧ (∀ (p : Packet) (s : State) (g : List Nat),
      Signable opSliceDestroy p s →
      p.effTick = 0 →
      (fetched p s).checkSigs opSliceDestroy (asOp opSliceDestroy p) (s.masterOf p.port p.ring) = .full g →
      exec (.sliceDestroy p) s = .next (Done s (let v := signedState opSliceDestroy p g s
         let id := v.freshCmd
         let s0 := withEntry v (entryOf opSliceDestroy p v (v.clock.now + 3))
         let s1 := match s0.slice p.job with
           | some x => (s0.putSlice { x with state := .draining }).mirrorSlice { x with state := .draining }
           | none => s0
         s1.modCmd id (fun c => { c with phase := .running, begun := true, stage := 1, data := [s0.askedAt p] }))))
  ∧ (∀ (p : Packet) (s : State),
      Signable opAccessSet p s →
      p.effTick = 0 →
      exec (.accessSet p) s = .next (Done s (signedBy opAccessSet p s (fun g =>
        (let v := signedState opAccessSet p g s
         let id := v.freshCmd
         ended id (
           let s0 := begun opAccessSet p v
           let es := accessElements p
           let ordered := (s0.cmd id).any (fun c => c.stage == 1)
           let swap (t : State) (b : Bool) : State := if b then t.applyGrants (grantJobs es) else t
           match secondBinding s0.access.masters es with
           | some i => (swap s0 ordered, .done 0x11 (p.off (8 + 24 * i)) [])
           | none =>
             let s1 := { s0 with access := { s0.access with masters := setMasters s0.access.masters es, grants := setGrants s0.access.grants es } }
             ((grantJobs es).foldl (fun t j => t.mirrorDelta 5 j) (swap s1 !ordered), Fin.ok)))))))
  ∧ (∀ (p : Packet) (s : State) (g : List Nat),
      Signable opAccessSet p s →
      p.effTick = 0 →
      (fetched p s).checkSigs opAccessSet (asOp opAccessSet p) (s.masterOf p.port p.ring) = .full g →
      exec (.accessSet p) s = .next (Done s (let v := signedState opAccessSet p g s
         let id := v.freshCmd
         ended id (
           let s0 := begun opAccessSet p v
           let es := accessElements p
           let ordered := (s0.cmd id).any (fun c => c.stage == 1)
           let swap (t : State) (b : Bool) : State := if b then t.applyGrants (grantJobs es) else t
           match secondBinding s0.access.masters es with
           | some i => (swap s0 ordered, .done 0x11 (p.off (8 + 24 * i)) [])
           | none =>
             let s1 := { s0 with access := { s0.access with masters := setMasters s0.access.masters es, grants := setGrants s0.access.grants es } }
             ((grantJobs es).foldl (fun t j => t.mirrorDelta 5 j) (swap s1 !ordered), Fin.ok)))))
  ∧ (∀ (p : Packet) (s : State),
      Signable opEnrol p s →
      p.effTick = 0 →
      exec (.enrol p) s = .next (Done s (signedBy opEnrol p s (fun g =>
        (let v := signedState opEnrol p g s
         let id := v.freshCmd
         ended id (
           let s0 := begun opEnrol p v
           let op := le p.body 0 1
           let first := field p.body 8 1793
           let s1 := s0.setPolicy (fun x => { x with
             operator := if op = 2 then x.operator else first
             custodian := if op = 1 then x.custodian else if op = 2 then first else field p.body 1808 1793 })
           (s1.secLog 2 0x0B02 3 0 p.digest, Fin.ok)))))))
  ∧ (∀ (p : Packet) (s : State) (g : List Nat),
      Signable opEnrol p s →
      p.effTick = 0 →
      (fetched p s).checkSigs opEnrol (asOp opEnrol p) (s.masterOf p.port p.ring) = .full g →
      exec (.enrol p) s = .next (Done s (let v := signedState opEnrol p g s
         let id := v.freshCmd
         ended id (
           let s0 := begun opEnrol p v
           let op := le p.body 0 1
           let first := field p.body 8 1793
           let s1 := s0.setPolicy (fun x => { x with
             operator := if op = 2 then x.operator else first
             custodian := if op = 1 then x.custodian else if op = 2 then first else field p.body 1808 1793 })
           (s1.secLog 2 0x0B02 3 0 p.digest, Fin.ok)))))
  ∧ (∀ (p : Packet) (s : State),
      Signable opKeyPolicySet p s →
      p.effTick = 0 →
      exec (.keyPolicySet p) s = .next (Done s (signedBy opKeyPolicySet p s (fun g =>
        (let v := signedState opKeyPolicySet p g s
         let id := v.freshCmd
         ended id (
           let s0 := begun opKeyPolicySet p v
           let s1 := (s0.setPolicy (fun x => { x with keys := keyPolicyOf p.body })).modSec (fun x => { x with reattested := s0.clock.now })
           let s2 := s1.applyMeasurements
           (s2.exemptionDue.foldl (fun t j => t.autoRotation j 0) s2, Fin.ok)))))))
  ∧ (∀ (p : Packet) (s : State) (g : List Nat),
      Signable opKeyPolicySet p s →
      p.effTick = 0 →
      (fetched p s).checkSigs opKeyPolicySet (asOp opKeyPolicySet p) (s.masterOf p.port p.ring) = .full g →
      exec (.keyPolicySet p) s = .next (Done s (let v := signedState opKeyPolicySet p g s
         let id := v.freshCmd
         ended id (
           let s0 := begun opKeyPolicySet p v
           let s1 := (s0.setPolicy (fun x => { x with keys := keyPolicyOf p.body })).modSec (fun x => { x with reattested := s0.clock.now })
           let s2 := s1.applyMeasurements
           (s2.exemptionDue.foldl (fun t j => t.autoRotation j 0) s2, Fin.ok)))))
  ∧ (∀ (p : Packet) (s : State),
      Signable opFwPolicySet p s →
      p.effTick = 0 →
      exec (.fwPolicySet p) s = .next (Done s (signedBy opFwPolicySet p s (fun g =>
        (let v := signedState opFwPolicySet p g s
         let id := v.freshCmd
         ended id (
           let s0 := begun opFwPolicySet p v
           (s0.setPolicy (fun x => { x with minFw := le p.body 0 4, revoked := revokedOf p.body }), Fin.ok)))))))
  ∧ (∀ (p : Packet) (s : State) (g : List Nat),
      Signable opFwPolicySet p s →
      p.effTick = 0 →
      (fetched p s).checkSigs opFwPolicySet (asOp opFwPolicySet p) (s.masterOf p.port p.ring) = .full g →
      exec (.fwPolicySet p) s = .next (Done s (let v := signedState opFwPolicySet p g s
         let id := v.freshCmd
         ended id (
           let s0 := begun opFwPolicySet p v
           (s0.setPolicy (fun x => { x with minFw := le p.body 0 4, revoked := revokedOf p.body }), Fin.ok)))))
  ∧ (∀ (p : Packet) (s : State),
      Signable opSeclogClear p s →
      p.effTick = 0 →
      exec (.seclogClear p) s = .next (Done s (signedBy opSeclogClear p s (fun g =>
        (let v := signedState opSeclogClear p g s
         let id := v.freshCmd
         ended id (
           let s0 := begun opSeclogClear p v
           let i := le p.body 0 8
           let s1 := (s0.setPolicy (fun x => x)).secLog 5 0x0B09 3 0 p.digest
           (s1.modSec (fun x => { x with
             log := x.log.filter (fun r => decide (i ≤ r.index)), logFirst := max x.logFirst i }), Fin.ok)))))))
  ∧ (∀ (p : Packet) (s : State) (g : List Nat),
      Signable opSeclogClear p s →
      p.effTick = 0 →
      (fetched p s).checkSigs opSeclogClear (asOp opSeclogClear p) (s.masterOf p.port p.ring) = .full g →
      exec (.seclogClear p) s = .next (Done s (let v := signedState opSeclogClear p g s
         let id := v.freshCmd
         ended id (
           let s0 := begun opSeclogClear p v
           let i := le p.body 0 8
           let s1 := (s0.setPolicy (fun x => x)).secLog 5 0x0B09 3 0 p.digest
           (s1.modSec (fun x => { x with
             log := x.log.filter (fun r => decide (i ≤ r.index)), logFirst := max x.logFirst i }), Fin.ok)))))
  ∧ (∀ (p : Packet) (s : State),
      Signable opEventClear p s →
      p.effTick = 0 →
      exec (.eventClear p) s = .next (Done s (signedBy opEventClear p s (fun g =>
        (let v := signedState opEventClear p g s
         let id := v.freshCmd
         ended id (
           let s0 := begun opEventClear p v
           let new := le p.body 0 8
           let s1 := { s0 with faults := { s0.faults with
             firstIndex := new, records := s0.faults.records.filter (fun r => new ≤ r.index) } }
           (s1.fault { source := 0xF900, code := 0x20, key := 1, detail := toLe 8 s0.faults.firstIndex ++ toLe 8 new }, Fin.ok)))))))
  ∧ (∀ (p : Packet) (s : State) (g : List Nat),
      Signable opEventClear p s →
      p.effTick = 0 →
      (fetched p s).checkSigs opEventClear (asOp opEventClear p) (s.masterOf p.port p.ring) = .full g →
      exec (.eventClear p) s = .next (Done s (let v := signedState opEventClear p g s
         let id := v.freshCmd
         ended id (
           let s0 := begun opEventClear p v
           let new := le p.body 0 8
           let s1 := { s0 with faults := { s0.faults with
             firstIndex := new, records := s0.faults.records.filter (fun r => new ≤ r.index) } }
           (s1.fault { source := 0xF900, code := 0x20, key := 1, detail := toLe 8 s0.faults.firstIndex ++ toLe 8 new }, Fin.ok)))))
  ∧ (∀ (p : Packet) (s : State),
      Checked opDebugUnlock p s = true →
      p.effTick = 0 →
      p.bodyLen = 3120 →
      (∀ g, (signedState opDebugUnlock p g s).nonceValid (field p.body 0 32) = true
        ∧ (signedState opDebugUnlock p g s).sec.keys.any (fun k => k.job != 0) = false
        ∧ (signedState opDebugUnlock p g s).checkReserved opDebugUnlock (asOp opDebugUnlock p) (s.masterOf p.port p.ring) = .ok) →
      exec (.debugUnlock p) s = .next (Done s (signedBy opDebugUnlock p s (fun g =>
        (let v := signedState opDebugUnlock p g s
         let key := field p.body 40 1793
         let good := keyId key == debugKeyId
           && falconVerify key (shake32 (ascii "GN7DBGA1" ++ field p.body 0 32 ++ identityDigest ++ field p.body 32 1))
             (field p.body 1840 1280)
         if good then
           (let id := v.freshCmd
            ended id (
              let s0 := begun opDebugUnlock p v
              let token := shake32 (field p.body 1840 1280)
              let s1 := s0.modSec (fun x => { x with
                nonce := none, debugOpen := true, debugScope := bits (le p.body 32 1) 2 0, debugTick := s0.tickNow, debugToken := token })
              let s2 := s1.domainOn 19
              (s2.secLog 4 0x0B08 7 0 token, Fin.ok)))
         else v.reject (asOp opDebugUnlock p) 0x22 2)))))
  ∧ (∀ (p : Packet) (s : State) (g : List Nat),
      Checked opDebugUnlock p s = true →
      p.effTick = 0 →
      p.bodyLen = 3120 →
      (∀ g, (signedState opDebugUnlock p g s).nonceValid (field p.body 0 32) = true
        ∧ (signedState opDebugUnlock p g s).sec.keys.any (fun k => k.job != 0) = false
        ∧ (signedState opDebugUnlock p g s).checkReserved opDebugUnlock (asOp opDebugUnlock p) (s.masterOf p.port p.ring) = .ok) →
      (fetched p s).checkSigs opDebugUnlock (asOp opDebugUnlock p) (s.masterOf p.port p.ring) = .full g →
      (keyId (field p.body 40 1793) == debugKeyId && falconVerify (field p.body 40 1793) (shake32 (ascii "GN7DBGA1" ++ field p.body 0 32 ++ identityDigest ++ field p.body 32 1)) (field p.body 1840 1280)) = true →
      exec (.debugUnlock p) s = .next (Done s (let v := signedState opDebugUnlock p g s
         let id := v.freshCmd
         ended id (
           let s0 := begun opDebugUnlock p v
           let token := shake32 (field p.body 1840 1280)
           let s1 := s0.modSec (fun x => { x with
             nonce := none, debugOpen := true, debugScope := bits (le p.body 32 1) 2 0, debugTick := s0.tickNow, debugToken := token })
           let s2 := s1.domainOn 19
           (s2.secLog 4 0x0B08 7 0 token, Fin.ok)))))
end

