-- ==== Sys2Proof/Laws/State.lean ====
section
/-! SUPPORT. What each update of the state leaves as it was: one lemma for each field, true by unfolding. -/

namespace Sys2Proof.Machine

open Sys2Proof

@[simp] theorem State.setPort_pending (s : State) (p : Nat) (x : Port) :
    (s.setPort p x).pending = s.pending := rfl
@[simp] theorem State.setPort_host (s : State) (p : Nat) (x : Port) :
    (s.setPort p x).host = s.host := rfl
@[simp] theorem State.setPort_clock (s : State) (p : Nat) (x : Port) :
    (s.setPort p x).clock = s.clock := rfl
@[simp] theorem State.setPort_faults (s : State) (p : Nat) (x : Port) :
    (s.setPort p x).faults = s.faults := rfl
@[simp] theorem State.setPort_pins (s : State) (p : Nat) (x : Port) :
    (s.setPort p x).pins = s.pins := rfl
@[simp] theorem State.setPort_up (s : State) (p : Nat) (x : Port) :
    (s.setPort p x).up = s.up := rfl
@[simp] theorem State.setPort_streams (s : State) (p : Nat) (x : Port) :
    (s.setPort p x).streams = s.streams := rfl
@[simp] theorem State.setPort_carve (s : State) (p : Nat) (x : Port) :
    (s.setPort p x).carve = s.carve := rfl
@[simp] theorem State.setPort_access (s : State) (p : Nat) (x : Port) :
    (s.setPort p x).access = s.access := rfl
@[simp] theorem State.setPort_twin (s : State) (p : Nat) (x : Port) :
    (s.setPort p x).twin = s.twin := rfl
@[simp] theorem State.setPort_sec (s : State) (p : Nat) (x : Port) :
    (s.setPort p x).sec = s.sec := rfl
@[simp] theorem State.setPort_mail (s : State) (p : Nat) (x : Port) :
    (s.setPort p x).mail = s.mail := rfl
@[simp] theorem State.setPort_agent (s : State) (p : Nat) (x : Port) :
    (s.setPort p x).agent = s.agent := rfl
@[simp] theorem State.setPort_fabric (s : State) (p : Nat) (x : Port) :
    (s.setPort p x).fabric = s.fabric := rfl
@[simp] theorem State.setPort_power (s : State) (p : Nat) (x : Port) :
    (s.setPort p x).power = s.power := rfl
@[simp] theorem State.setPort_twill (s : State) (p : Nat) (x : Port) :
    (s.setPort p x).twill = s.twill := rfl
@[simp] theorem State.setPort_jacquard (s : State) (p : Nat) (x : Port) :
    (s.setPort p x).jacquard = s.jacquard := rfl
@[simp] theorem State.setPort_calico (s : State) (p : Nat) (x : Port) :
    (s.setPort p x).calico = s.calico := rfl
@[simp] theorem State.setPort_store (s : State) (p : Nat) (x : Port) :
    (s.setPort p x).store = s.store := rfl
@[simp] theorem State.setPort_buckram (s : State) (p : Nat) (x : Port) :
    (s.setPort p x).buckram = s.buckram := rfl
@[simp] theorem State.setPort_drawn (s : State) (p : Nat) (x : Port) :
    (s.setPort p x).drawn = s.drawn := rfl
@[simp] theorem State.setNodePort_pending (s : State) (r : PortRef) (x : Port) :
    (s.setNodePort r x).pending = s.pending := by
  unfold State.setNodePort; (repeat' split) <;> rfl
@[simp] theorem State.setNodePort_host (s : State) (r : PortRef) (x : Port) :
    (s.setNodePort r x).host = s.host := by
  unfold State.setNodePort; (repeat' split) <;> rfl
@[simp] theorem State.setNodePort_clock (s : State) (r : PortRef) (x : Port) :
    (s.setNodePort r x).clock = s.clock := by
  unfold State.setNodePort; (repeat' split) <;> rfl
@[simp] theorem State.setNodePort_faults (s : State) (r : PortRef) (x : Port) :
    (s.setNodePort r x).faults = s.faults := by
  unfold State.setNodePort; (repeat' split) <;> rfl
@[simp] theorem State.setNodePort_pins (s : State) (r : PortRef) (x : Port) :
    (s.setNodePort r x).pins = s.pins := by
  unfold State.setNodePort; (repeat' split) <;> rfl
@[simp] theorem State.setNodePort_up (s : State) (r : PortRef) (x : Port) :
    (s.setNodePort r x).up = s.up := by
  unfold State.setNodePort; (repeat' split) <;> rfl
@[simp] theorem State.setNodePort_streams (s : State) (r : PortRef) (x : Port) :
    (s.setNodePort r x).streams = s.streams := by
  unfold State.setNodePort; (repeat' split) <;> rfl
@[simp] theorem State.setNodePort_carve (s : State) (r : PortRef) (x : Port) :
    (s.setNodePort r x).carve = s.carve := by
  unfold State.setNodePort; (repeat' split) <;> rfl
@[simp] theorem State.setNodePort_access (s : State) (r : PortRef) (x : Port) :
    (s.setNodePort r x).access = s.access := by
  unfold State.setNodePort; (repeat' split) <;> rfl
@[simp] theorem State.setNodePort_twin (s : State) (r : PortRef) (x : Port) :
    (s.setNodePort r x).twin = s.twin := by
  unfold State.setNodePort; (repeat' split) <;> rfl
@[simp] theorem State.setNodePort_sec (s : State) (r : PortRef) (x : Port) :
    (s.setNodePort r x).sec = s.sec := by
  unfold State.setNodePort; (repeat' split) <;> rfl
@[simp] theorem State.setNodePort_mail (s : State) (r : PortRef) (x : Port) :
    (s.setNodePort r x).mail = s.mail := by
  unfold State.setNodePort; (repeat' split) <;> rfl
@[simp] theorem State.setNodePort_fabric (s : State) (r : PortRef) (x : Port) :
    (s.setNodePort r x).fabric = s.fabric := by
  unfold State.setNodePort; (repeat' split) <;> rfl
@[simp] theorem State.setNodePort_power (s : State) (r : PortRef) (x : Port) :
    (s.setNodePort r x).power = s.power := by
  unfold State.setNodePort; (repeat' split) <;> rfl
@[simp] theorem State.setNodePort_twill (s : State) (r : PortRef) (x : Port) :
    (s.setNodePort r x).twill = s.twill := by
  unfold State.setNodePort; (repeat' split) <;> rfl
@[simp] theorem State.setNodePort_jacquard (s : State) (r : PortRef) (x : Port) :
    (s.setNodePort r x).jacquard = s.jacquard := by
  unfold State.setNodePort; (repeat' split) <;> rfl
@[simp] theorem State.setNodePort_calico (s : State) (r : PortRef) (x : Port) :
    (s.setNodePort r x).calico = s.calico := by
  unfold State.setNodePort; (repeat' split) <;> rfl
@[simp] theorem State.setNodePort_store (s : State) (r : PortRef) (x : Port) :
    (s.setNodePort r x).store = s.store := by
  unfold State.setNodePort; (repeat' split) <;> rfl
@[simp] theorem State.setNodePort_buckram (s : State) (r : PortRef) (x : Port) :
    (s.setNodePort r x).buckram = s.buckram := by
  unfold State.setNodePort; (repeat' split) <;> rfl
@[simp] theorem State.setNodePort_drawn (s : State) (r : PortRef) (x : Port) :
    (s.setNodePort r x).drawn = s.drawn := by
  unfold State.setNodePort; (repeat' split) <;> rfl
@[simp] theorem State.modNodePort_pending (s : State) (r : PortRef) (f : Port → Port) :
    (s.modNodePort r f).pending = s.pending := by
  simp [State.modNodePort]
@[simp] theorem State.modNodePort_host (s : State) (r : PortRef) (f : Port → Port) :
    (s.modNodePort r f).host = s.host := by
  simp [State.modNodePort]
@[simp] theorem State.modNodePort_clock (s : State) (r : PortRef) (f : Port → Port) :
    (s.modNodePort r f).clock = s.clock := by
  simp [State.modNodePort]
@[simp] theorem State.modNodePort_faults (s : State) (r : PortRef) (f : Port → Port) :
    (s.modNodePort r f).faults = s.faults := by
  simp [State.modNodePort]
@[simp] theorem State.modNodePort_pins (s : State) (r : PortRef) (f : Port → Port) :
    (s.modNodePort r f).pins = s.pins := by
  simp [State.modNodePort]
@[simp] theorem State.modNodePort_up (s : State) (r : PortRef) (f : Port → Port) :
    (s.modNodePort r f).up = s.up := by
  simp [State.modNodePort]
@[simp] theorem State.modNodePort_streams (s : State) (r : PortRef) (f : Port → Port) :
    (s.modNodePort r f).streams = s.streams := by
  simp [State.modNodePort]
@[simp] theorem State.modNodePort_carve (s : State) (r : PortRef) (f : Port → Port) :
    (s.modNodePort r f).carve = s.carve := by
  simp [State.modNodePort]
@[simp] theorem State.modNodePort_access (s : State) (r : PortRef) (f : Port → Port) :
    (s.modNodePort r f).access = s.access := by
  simp [State.modNodePort]
@[simp] theorem State.modNodePort_twin (s : State) (r : PortRef) (f : Port → Port) :
    (s.modNodePort r f).twin = s.twin := by
  simp [State.modNodePort]
@[simp] theorem State.modNodePort_sec (s : State) (r : PortRef) (f : Port → Port) :
    (s.modNodePort r f).sec = s.sec := by
  simp [State.modNodePort]
@[simp] theorem State.modNodePort_mail (s : State) (r : PortRef) (f : Port → Port) :
    (s.modNodePort r f).mail = s.mail := by
  simp [State.modNodePort]
@[simp] theorem State.modNodePort_fabric (s : State) (r : PortRef) (f : Port → Port) :
    (s.modNodePort r f).fabric = s.fabric := by
  simp [State.modNodePort]
@[simp] theorem State.modNodePort_power (s : State) (r : PortRef) (f : Port → Port) :
    (s.modNodePort r f).power = s.power := by
  simp [State.modNodePort]
@[simp] theorem State.modNodePort_twill (s : State) (r : PortRef) (f : Port → Port) :
    (s.modNodePort r f).twill = s.twill := by
  simp [State.modNodePort]
@[simp] theorem State.modNodePort_jacquard (s : State) (r : PortRef) (f : Port → Port) :
    (s.modNodePort r f).jacquard = s.jacquard := by
  simp [State.modNodePort]
@[simp] theorem State.modNodePort_calico (s : State) (r : PortRef) (f : Port → Port) :
    (s.modNodePort r f).calico = s.calico := by
  simp [State.modNodePort]
@[simp] theorem State.modNodePort_store (s : State) (r : PortRef) (f : Port → Port) :
    (s.modNodePort r f).store = s.store := by
  simp [State.modNodePort]
@[simp] theorem State.modNodePort_buckram (s : State) (r : PortRef) (f : Port → Port) :
    (s.modNodePort r f).buckram = s.buckram := by
  simp [State.modNodePort]
@[simp] theorem State.modNodePort_drawn (s : State) (r : PortRef) (f : Port → Port) :
    (s.modNodePort r f).drawn = s.drawn := by
  simp [State.modNodePort]
@[simp] theorem State.setHostPort_pending (s : State) (p : Nat) (h : HostPort) :
    (s.setHostPort p h).pending = s.pending := by
  unfold State.setHostPort; (repeat' split) <;> rfl
@[simp] theorem State.setHostPort_clock (s : State) (p : Nat) (h : HostPort) :
    (s.setHostPort p h).clock = s.clock := by
  unfold State.setHostPort; (repeat' split) <;> rfl
@[simp] theorem State.setHostPort_faults (s : State) (p : Nat) (h : HostPort) :
    (s.setHostPort p h).faults = s.faults := by
  unfold State.setHostPort; (repeat' split) <;> rfl
@[simp] theorem State.setHostPort_pins (s : State) (p : Nat) (h : HostPort) :
    (s.setHostPort p h).pins = s.pins := by
  unfold State.setHostPort; (repeat' split) <;> rfl
@[simp] theorem State.setHostPort_up (s : State) (p : Nat) (h : HostPort) :
    (s.setHostPort p h).up = s.up := by
  unfold State.setHostPort; (repeat' split) <;> rfl
@[simp] theorem State.setHostPort_streams (s : State) (p : Nat) (h : HostPort) :
    (s.setHostPort p h).streams = s.streams := by
  unfold State.setHostPort; (repeat' split) <;> rfl
@[simp] theorem State.setHostPort_carve (s : State) (p : Nat) (h : HostPort) :
    (s.setHostPort p h).carve = s.carve := by
  unfold State.setHostPort; (repeat' split) <;> rfl
@[simp] theorem State.setHostPort_ports (s : State) (p : Nat) (h : HostPort) :
    (s.setHostPort p h).ports = s.ports := by
  unfold State.setHostPort; (repeat' split) <;> rfl
@[simp] theorem State.setHostPort_access (s : State) (p : Nat) (h : HostPort) :
    (s.setHostPort p h).access = s.access := by
  unfold State.setHostPort; (repeat' split) <;> rfl
@[simp] theorem State.setHostPort_twin (s : State) (p : Nat) (h : HostPort) :
    (s.setHostPort p h).twin = s.twin := by
  unfold State.setHostPort; (repeat' split) <;> rfl
@[simp] theorem State.setHostPort_sec (s : State) (p : Nat) (h : HostPort) :
    (s.setHostPort p h).sec = s.sec := by
  unfold State.setHostPort; (repeat' split) <;> rfl
@[simp] theorem State.setHostPort_mail (s : State) (p : Nat) (h : HostPort) :
    (s.setHostPort p h).mail = s.mail := by
  unfold State.setHostPort; (repeat' split) <;> rfl
@[simp] theorem State.setHostPort_agent (s : State) (p : Nat) (h : HostPort) :
    (s.setHostPort p h).agent = s.agent := by
  unfold State.setHostPort; (repeat' split) <;> rfl
@[simp] theorem State.setHostPort_fabric (s : State) (p : Nat) (h : HostPort) :
    (s.setHostPort p h).fabric = s.fabric := by
  unfold State.setHostPort; (repeat' split) <;> rfl
@[simp] theorem State.setHostPort_power (s : State) (p : Nat) (h : HostPort) :
    (s.setHostPort p h).power = s.power := by
  unfold State.setHostPort; (repeat' split) <;> rfl
@[simp] theorem State.setHostPort_twill (s : State) (p : Nat) (h : HostPort) :
    (s.setHostPort p h).twill = s.twill := by
  unfold State.setHostPort; (repeat' split) <;> rfl
@[simp] theorem State.setHostPort_jacquard (s : State) (p : Nat) (h : HostPort) :
    (s.setHostPort p h).jacquard = s.jacquard := by
  unfold State.setHostPort; (repeat' split) <;> rfl
@[simp] theorem State.setHostPort_calico (s : State) (p : Nat) (h : HostPort) :
    (s.setHostPort p h).calico = s.calico := by
  unfold State.setHostPort; (repeat' split) <;> rfl
@[simp] theorem State.setHostPort_store (s : State) (p : Nat) (h : HostPort) :
    (s.setHostPort p h).store = s.store := by
  unfold State.setHostPort; (repeat' split) <;> rfl
@[simp] theorem State.setHostPort_buckram (s : State) (p : Nat) (h : HostPort) :
    (s.setHostPort p h).buckram = s.buckram := by
  unfold State.setHostPort; (repeat' split) <;> rfl
@[simp] theorem State.setHostPort_drawn (s : State) (p : Nat) (h : HostPort) :
    (s.setHostPort p h).drawn = s.drawn := by
  unfold State.setHostPort; (repeat' split) <;> rfl
@[simp] theorem State.modHostPort_pending (s : State) (p : Nat) (f : HostPort → HostPort) :
    (s.modHostPort p f).pending = s.pending := by
  simp [State.modHostPort]
@[simp] theorem State.modHostPort_clock (s : State) (p : Nat) (f : HostPort → HostPort) :
    (s.modHostPort p f).clock = s.clock := by
  simp [State.modHostPort]
@[simp] theorem State.modHostPort_faults (s : State) (p : Nat) (f : HostPort → HostPort) :
    (s.modHostPort p f).faults = s.faults := by
  simp [State.modHostPort]
@[simp] theorem State.modHostPort_pins (s : State) (p : Nat) (f : HostPort → HostPort) :
    (s.modHostPort p f).pins = s.pins := by
  simp [State.modHostPort]
@[simp] theorem State.modHostPort_up (s : State) (p : Nat) (f : HostPort → HostPort) :
    (s.modHostPort p f).up = s.up := by
  simp [State.modHostPort]
@[simp] theorem State.modHostPort_streams (s : State) (p : Nat) (f : HostPort → HostPort) :
    (s.modHostPort p f).streams = s.streams := by
  simp [State.modHostPort]
@[simp] theorem State.modHostPort_carve (s : State) (p : Nat) (f : HostPort → HostPort) :
    (s.modHostPort p f).carve = s.carve := by
  simp [State.modHostPort]
@[simp] theorem State.modHostPort_ports (s : State) (p : Nat) (f : HostPort → HostPort) :
    (s.modHostPort p f).ports = s.ports := by
  simp [State.modHostPort]
@[simp] theorem State.modHostPort_access (s : State) (p : Nat) (f : HostPort → HostPort) :
    (s.modHostPort p f).access = s.access := by
  simp [State.modHostPort]
@[simp] theorem State.modHostPort_twin (s : State) (p : Nat) (f : HostPort → HostPort) :
    (s.modHostPort p f).twin = s.twin := by
  simp [State.modHostPort]
@[simp] theorem State.modHostPort_sec (s : State) (p : Nat) (f : HostPort → HostPort) :
    (s.modHostPort p f).sec = s.sec := by
  simp [State.modHostPort]
@[simp] theorem State.modHostPort_mail (s : State) (p : Nat) (f : HostPort → HostPort) :
    (s.modHostPort p f).mail = s.mail := by
  simp [State.modHostPort]
@[simp] theorem State.modHostPort_agent (s : State) (p : Nat) (f : HostPort → HostPort) :
    (s.modHostPort p f).agent = s.agent := by
  simp [State.modHostPort]
@[simp] theorem State.modHostPort_fabric (s : State) (p : Nat) (f : HostPort → HostPort) :
    (s.modHostPort p f).fabric = s.fabric := by
  simp [State.modHostPort]
@[simp] theorem State.modHostPort_power (s : State) (p : Nat) (f : HostPort → HostPort) :
    (s.modHostPort p f).power = s.power := by
  simp [State.modHostPort]
@[simp] theorem State.modHostPort_twill (s : State) (p : Nat) (f : HostPort → HostPort) :
    (s.modHostPort p f).twill = s.twill := by
  simp [State.modHostPort]
@[simp] theorem State.modHostPort_jacquard (s : State) (p : Nat) (f : HostPort → HostPort) :
    (s.modHostPort p f).jacquard = s.jacquard := by
  simp [State.modHostPort]
@[simp] theorem State.modHostPort_calico (s : State) (p : Nat) (f : HostPort → HostPort) :
    (s.modHostPort p f).calico = s.calico := by
  simp [State.modHostPort]
@[simp] theorem State.modHostPort_store (s : State) (p : Nat) (f : HostPort → HostPort) :
    (s.modHostPort p f).store = s.store := by
  simp [State.modHostPort]
@[simp] theorem State.modHostPort_buckram (s : State) (p : Nat) (f : HostPort → HostPort) :
    (s.modHostPort p f).buckram = s.buckram := by
  simp [State.modHostPort]
@[simp] theorem State.modHostPort_drawn (s : State) (p : Nat) (f : HostPort → HostPort) :
    (s.modHostPort p f).drawn = s.drawn := by
  simp [State.modHostPort]
@[simp] theorem State.setRing_pending (s : State) (p : Nat) (r : Nat) (x : Ring) :
    (s.setRing p r x).pending = s.pending := by
  simp [State.setRing]
@[simp] theorem State.setRing_clock (s : State) (p : Nat) (r : Nat) (x : Ring) :
    (s.setRing p r x).clock = s.clock := by
  simp [State.setRing]
@[simp] theorem State.setRing_faults (s : State) (p : Nat) (r : Nat) (x : Ring) :
    (s.setRing p r x).faults = s.faults := by
  simp [State.setRing]
@[simp] theorem State.setRing_pins (s : State) (p : Nat) (r : Nat) (x : Ring) :
    (s.setRing p r x).pins = s.pins := by
  simp [State.setRing]
@[simp] theorem State.setRing_up (s : State) (p : Nat) (r : Nat) (x : Ring) :
    (s.setRing p r x).up = s.up := by
  simp [State.setRing]
@[simp] theorem State.setRing_streams (s : State) (p : Nat) (r : Nat) (x : Ring) :
    (s.setRing p r x).streams = s.streams := by
  simp [State.setRing]
@[simp] theorem State.setRing_carve (s : State) (p : Nat) (r : Nat) (x : Ring) :
    (s.setRing p r x).carve = s.carve := by
  simp [State.setRing]
@[simp] theorem State.setRing_ports (s : State) (p : Nat) (r : Nat) (x : Ring) :
    (s.setRing p r x).ports = s.ports := by
  simp [State.setRing]
@[simp] theorem State.setRing_access (s : State) (p : Nat) (r : Nat) (x : Ring) :
    (s.setRing p r x).access = s.access := by
  simp [State.setRing]
@[simp] theorem State.setRing_twin (s : State) (p : Nat) (r : Nat) (x : Ring) :
    (s.setRing p r x).twin = s.twin := by
  simp [State.setRing]
@[simp] theorem State.setRing_sec (s : State) (p : Nat) (r : Nat) (x : Ring) :
    (s.setRing p r x).sec = s.sec := by
  simp [State.setRing]
@[simp] theorem State.setRing_mail (s : State) (p : Nat) (r : Nat) (x : Ring) :
    (s.setRing p r x).mail = s.mail := by
  simp [State.setRing]
@[simp] theorem State.setRing_agent (s : State) (p : Nat) (r : Nat) (x : Ring) :
    (s.setRing p r x).agent = s.agent := by
  simp [State.setRing]
@[simp] theorem State.setRing_fabric (s : State) (p : Nat) (r : Nat) (x : Ring) :
    (s.setRing p r x).fabric = s.fabric := by
  simp [State.setRing]
@[simp] theorem State.setRing_power (s : State) (p : Nat) (r : Nat) (x : Ring) :
    (s.setRing p r x).power = s.power := by
  simp [State.setRing]
@[simp] theorem State.setRing_twill (s : State) (p : Nat) (r : Nat) (x : Ring) :
    (s.setRing p r x).twill = s.twill := by
  simp [State.setRing]
@[simp] theorem State.setRing_jacquard (s : State) (p : Nat) (r : Nat) (x : Ring) :
    (s.setRing p r x).jacquard = s.jacquard := by
  simp [State.setRing]
@[simp] theorem State.setRing_calico (s : State) (p : Nat) (r : Nat) (x : Ring) :
    (s.setRing p r x).calico = s.calico := by
  simp [State.setRing]
@[simp] theorem State.setRing_store (s : State) (p : Nat) (r : Nat) (x : Ring) :
    (s.setRing p r x).store = s.store := by
  simp [State.setRing]
@[simp] theorem State.setRing_buckram (s : State) (p : Nat) (r : Nat) (x : Ring) :
    (s.setRing p r x).buckram = s.buckram := by
  simp [State.setRing]
@[simp] theorem State.setRing_drawn (s : State) (p : Nat) (r : Nat) (x : Ring) :
    (s.setRing p r x).drawn = s.drawn := by
  simp [State.setRing]
@[simp] theorem State.modAgentCore_pending (s : State) (f : AgentCore → AgentCore) :
    (s.modAgentCore f).pending = s.pending := rfl
@[simp] theorem State.modAgentCore_host (s : State) (f : AgentCore → AgentCore) :
    (s.modAgentCore f).host = s.host := rfl
@[simp] theorem State.modAgentCore_clock (s : State) (f : AgentCore → AgentCore) :
    (s.modAgentCore f).clock = s.clock := rfl
@[simp] theorem State.modAgentCore_faults (s : State) (f : AgentCore → AgentCore) :
    (s.modAgentCore f).faults = s.faults := rfl
@[simp] theorem State.modAgentCore_pins (s : State) (f : AgentCore → AgentCore) :
    (s.modAgentCore f).pins = s.pins := rfl
@[simp] theorem State.modAgentCore_up (s : State) (f : AgentCore → AgentCore) :
    (s.modAgentCore f).up = s.up := rfl
@[simp] theorem State.modAgentCore_streams (s : State) (f : AgentCore → AgentCore) :
    (s.modAgentCore f).streams = s.streams := rfl
@[simp] theorem State.modAgentCore_carve (s : State) (f : AgentCore → AgentCore) :
    (s.modAgentCore f).carve = s.carve := rfl
@[simp] theorem State.modAgentCore_ports (s : State) (f : AgentCore → AgentCore) :
    (s.modAgentCore f).ports = s.ports := rfl
@[simp] theorem State.modAgentCore_access (s : State) (f : AgentCore → AgentCore) :
    (s.modAgentCore f).access = s.access := rfl
@[simp] theorem State.modAgentCore_twin (s : State) (f : AgentCore → AgentCore) :
    (s.modAgentCore f).twin = s.twin := rfl
@[simp] theorem State.modAgentCore_sec (s : State) (f : AgentCore → AgentCore) :
    (s.modAgentCore f).sec = s.sec := rfl
@[simp] theorem State.modAgentCore_mail (s : State) (f : AgentCore → AgentCore) :
    (s.modAgentCore f).mail = s.mail := rfl
@[simp] theorem State.modAgentCore_fabric (s : State) (f : AgentCore → AgentCore) :
    (s.modAgentCore f).fabric = s.fabric := rfl
@[simp] theorem State.modAgentCore_power (s : State) (f : AgentCore → AgentCore) :
    (s.modAgentCore f).power = s.power := rfl
@[simp] theorem State.modAgentCore_twill (s : State) (f : AgentCore → AgentCore) :
    (s.modAgentCore f).twill = s.twill := rfl
@[simp] theorem State.modAgentCore_jacquard (s : State) (f : AgentCore → AgentCore) :
    (s.modAgentCore f).jacquard = s.jacquard := rfl
@[simp] theorem State.modAgentCore_calico (s : State) (f : AgentCore → AgentCore) :
    (s.modAgentCore f).calico = s.calico := rfl
@[simp] theorem State.modAgentCore_store (s : State) (f : AgentCore → AgentCore) :
    (s.modAgentCore f).store = s.store := rfl
@[simp] theorem State.modAgentCore_buckram (s : State) (f : AgentCore → AgentCore) :
    (s.modAgentCore f).buckram = s.buckram := rfl
@[simp] theorem State.modAgentCore_drawn (s : State) (f : AgentCore → AgentCore) :
    (s.modAgentCore f).drawn = s.drawn := rfl
@[simp] theorem State.modAgentWork_pending (s : State) (f : AgentWork → AgentWork) :
    (s.modAgentWork f).pending = s.pending := rfl
@[simp] theorem State.modAgentWork_host (s : State) (f : AgentWork → AgentWork) :
    (s.modAgentWork f).host = s.host := rfl
@[simp] theorem State.modAgentWork_clock (s : State) (f : AgentWork → AgentWork) :
    (s.modAgentWork f).clock = s.clock := rfl
@[simp] theorem State.modAgentWork_faults (s : State) (f : AgentWork → AgentWork) :
    (s.modAgentWork f).faults = s.faults := rfl
@[simp] theorem State.modAgentWork_pins (s : State) (f : AgentWork → AgentWork) :
    (s.modAgentWork f).pins = s.pins := rfl
@[simp] theorem State.modAgentWork_up (s : State) (f : AgentWork → AgentWork) :
    (s.modAgentWork f).up = s.up := rfl
@[simp] theorem State.modAgentWork_streams (s : State) (f : AgentWork → AgentWork) :
    (s.modAgentWork f).streams = s.streams := rfl
@[simp] theorem State.modAgentWork_carve (s : State) (f : AgentWork → AgentWork) :
    (s.modAgentWork f).carve = s.carve := rfl
@[simp] theorem State.modAgentWork_ports (s : State) (f : AgentWork → AgentWork) :
    (s.modAgentWork f).ports = s.ports := rfl
@[simp] theorem State.modAgentWork_access (s : State) (f : AgentWork → AgentWork) :
    (s.modAgentWork f).access = s.access := rfl
@[simp] theorem State.modAgentWork_twin (s : State) (f : AgentWork → AgentWork) :
    (s.modAgentWork f).twin = s.twin := rfl
@[simp] theorem State.modAgentWork_sec (s : State) (f : AgentWork → AgentWork) :
    (s.modAgentWork f).sec = s.sec := rfl
@[simp] theorem State.modAgentWork_mail (s : State) (f : AgentWork → AgentWork) :
    (s.modAgentWork f).mail = s.mail := rfl
@[simp] theorem State.modAgentWork_fabric (s : State) (f : AgentWork → AgentWork) :
    (s.modAgentWork f).fabric = s.fabric := rfl
@[simp] theorem State.modAgentWork_power (s : State) (f : AgentWork → AgentWork) :
    (s.modAgentWork f).power = s.power := rfl
@[simp] theorem State.modAgentWork_twill (s : State) (f : AgentWork → AgentWork) :
    (s.modAgentWork f).twill = s.twill := rfl
@[simp] theorem State.modAgentWork_jacquard (s : State) (f : AgentWork → AgentWork) :
    (s.modAgentWork f).jacquard = s.jacquard := rfl
@[simp] theorem State.modAgentWork_calico (s : State) (f : AgentWork → AgentWork) :
    (s.modAgentWork f).calico = s.calico := rfl
@[simp] theorem State.modAgentWork_store (s : State) (f : AgentWork → AgentWork) :
    (s.modAgentWork f).store = s.store := rfl
@[simp] theorem State.modAgentWork_buckram (s : State) (f : AgentWork → AgentWork) :
    (s.modAgentWork f).buckram = s.buckram := rfl
@[simp] theorem State.modAgentWork_drawn (s : State) (f : AgentWork → AgentWork) :
    (s.modAgentWork f).drawn = s.drawn := rfl
@[simp] theorem State.modBuckram_pending (s : State) (f : Buckram → Buckram) :
    (s.modBuckram f).pending = s.pending := rfl
@[simp] theorem State.modBuckram_host (s : State) (f : Buckram → Buckram) :
    (s.modBuckram f).host = s.host := rfl
@[simp] theorem State.modBuckram_clock (s : State) (f : Buckram → Buckram) :
    (s.modBuckram f).clock = s.clock := rfl
@[simp] theorem State.modBuckram_faults (s : State) (f : Buckram → Buckram) :
    (s.modBuckram f).faults = s.faults := rfl
@[simp] theorem State.modBuckram_pins (s : State) (f : Buckram → Buckram) :
    (s.modBuckram f).pins = s.pins := rfl
@[simp] theorem State.modBuckram_up (s : State) (f : Buckram → Buckram) :
    (s.modBuckram f).up = s.up := rfl
@[simp] theorem State.modBuckram_streams (s : State) (f : Buckram → Buckram) :
    (s.modBuckram f).streams = s.streams := rfl
@[simp] theorem State.modBuckram_carve (s : State) (f : Buckram → Buckram) :
    (s.modBuckram f).carve = s.carve := rfl
@[simp] theorem State.modBuckram_ports (s : State) (f : Buckram → Buckram) :
    (s.modBuckram f).ports = s.ports := rfl
@[simp] theorem State.modBuckram_access (s : State) (f : Buckram → Buckram) :
    (s.modBuckram f).access = s.access := rfl
@[simp] theorem State.modBuckram_twin (s : State) (f : Buckram → Buckram) :
    (s.modBuckram f).twin = s.twin := rfl
@[simp] theorem State.modBuckram_sec (s : State) (f : Buckram → Buckram) :
    (s.modBuckram f).sec = s.sec := rfl
@[simp] theorem State.modBuckram_mail (s : State) (f : Buckram → Buckram) :
    (s.modBuckram f).mail = s.mail := rfl
@[simp] theorem State.modBuckram_agent (s : State) (f : Buckram → Buckram) :
    (s.modBuckram f).agent = s.agent := rfl
@[simp] theorem State.modBuckram_fabric (s : State) (f : Buckram → Buckram) :
    (s.modBuckram f).fabric = s.fabric := rfl
@[simp] theorem State.modBuckram_power (s : State) (f : Buckram → Buckram) :
    (s.modBuckram f).power = s.power := rfl
@[simp] theorem State.modBuckram_twill (s : State) (f : Buckram → Buckram) :
    (s.modBuckram f).twill = s.twill := rfl
@[simp] theorem State.modBuckram_jacquard (s : State) (f : Buckram → Buckram) :
    (s.modBuckram f).jacquard = s.jacquard := rfl
@[simp] theorem State.modBuckram_calico (s : State) (f : Buckram → Buckram) :
    (s.modBuckram f).calico = s.calico := rfl
@[simp] theorem State.modBuckram_store (s : State) (f : Buckram → Buckram) :
    (s.modBuckram f).store = s.store := rfl
@[simp] theorem State.modBuckram_drawn (s : State) (f : Buckram → Buckram) :
    (s.modBuckram f).drawn = s.drawn := rfl
@[simp] theorem State.setMtrState_pending (s : State) (st : Nat) :
    (s.setMtrState st).pending = s.pending := by
  unfold State.setMtrState; (repeat' split) <;> rfl
@[simp] theorem State.setMtrState_clock (s : State) (st : Nat) :
    (s.setMtrState st).clock = s.clock := by
  unfold State.setMtrState; (repeat' split) <;> rfl
@[simp] theorem State.setMtrState_faults (s : State) (st : Nat) :
    (s.setMtrState st).faults = s.faults := by
  unfold State.setMtrState; (repeat' split) <;> rfl
@[simp] theorem State.setMtrState_pins (s : State) (st : Nat) :
    (s.setMtrState st).pins = s.pins := by
  unfold State.setMtrState; (repeat' split) <;> rfl
@[simp] theorem State.setMtrState_up (s : State) (st : Nat) :
    (s.setMtrState st).up = s.up := by
  unfold State.setMtrState; (repeat' split) <;> rfl
@[simp] theorem State.setMtrState_streams (s : State) (st : Nat) :
    (s.setMtrState st).streams = s.streams := by
  unfold State.setMtrState; (repeat' split) <;> rfl
@[simp] theorem State.setMtrState_carve (s : State) (st : Nat) :
    (s.setMtrState st).carve = s.carve := by
  unfold State.setMtrState; (repeat' split) <;> rfl
@[simp] theorem State.setMtrState_ports (s : State) (st : Nat) :
    (s.setMtrState st).ports = s.ports := by
  unfold State.setMtrState; (repeat' split) <;> rfl
@[simp] theorem State.setMtrState_access (s : State) (st : Nat) :
    (s.setMtrState st).access = s.access := by
  unfold State.setMtrState; (repeat' split) <;> rfl
@[simp] theorem State.setMtrState_twin (s : State) (st : Nat) :
    (s.setMtrState st).twin = s.twin := by
  unfold State.setMtrState; (repeat' split) <;> rfl
@[simp] theorem State.setMtrState_sec (s : State) (st : Nat) :
    (s.setMtrState st).sec = s.sec := by
  unfold State.setMtrState; (repeat' split) <;> rfl
@[simp] theorem State.setMtrState_mail (s : State) (st : Nat) :
    (s.setMtrState st).mail = s.mail := by
  unfold State.setMtrState; (repeat' split) <;> rfl
@[simp] theorem State.setMtrState_agent (s : State) (st : Nat) :
    (s.setMtrState st).agent = s.agent := by
  unfold State.setMtrState; (repeat' split) <;> rfl
@[simp] theorem State.setMtrState_fabric (s : State) (st : Nat) :
    (s.setMtrState st).fabric = s.fabric := by
  unfold State.setMtrState; (repeat' split) <;> rfl
@[simp] theorem State.setMtrState_power (s : State) (st : Nat) :
    (s.setMtrState st).power = s.power := by
  unfold State.setMtrState; (repeat' split) <;> rfl
@[simp] theorem State.setMtrState_twill (s : State) (st : Nat) :
    (s.setMtrState st).twill = s.twill := by
  unfold State.setMtrState; (repeat' split) <;> rfl
@[simp] theorem State.setMtrState_jacquard (s : State) (st : Nat) :
    (s.setMtrState st).jacquard = s.jacquard := by
  unfold State.setMtrState; (repeat' split) <;> rfl
@[simp] theorem State.setMtrState_calico (s : State) (st : Nat) :
    (s.setMtrState st).calico = s.calico := by
  unfold State.setMtrState; (repeat' split) <;> rfl
@[simp] theorem State.setMtrState_store (s : State) (st : Nat) :
    (s.setMtrState st).store = s.store := by
  unfold State.setMtrState; (repeat' split) <;> rfl
@[simp] theorem State.setMtrState_drawn (s : State) (st : Nat) :
    (s.setMtrState st).drawn = s.drawn := by
  unfold State.setMtrState; (repeat' split) <;> rfl
@[simp] theorem State.modTable_pending (s : State) (i : Nat) (f : CalTable → CalTable) :
    (s.modTable i f).pending = s.pending := rfl
@[simp] theorem State.modTable_host (s : State) (i : Nat) (f : CalTable → CalTable) :
    (s.modTable i f).host = s.host := rfl
@[simp] theorem State.modTable_clock (s : State) (i : Nat) (f : CalTable → CalTable) :
    (s.modTable i f).clock = s.clock := rfl
@[simp] theorem State.modTable_faults (s : State) (i : Nat) (f : CalTable → CalTable) :
    (s.modTable i f).faults = s.faults := rfl
@[simp] theorem State.modTable_pins (s : State) (i : Nat) (f : CalTable → CalTable) :
    (s.modTable i f).pins = s.pins := rfl
@[simp] theorem State.modTable_up (s : State) (i : Nat) (f : CalTable → CalTable) :
    (s.modTable i f).up = s.up := rfl
@[simp] theorem State.modTable_streams (s : State) (i : Nat) (f : CalTable → CalTable) :
    (s.modTable i f).streams = s.streams := rfl
@[simp] theorem State.modTable_carve (s : State) (i : Nat) (f : CalTable → CalTable) :
    (s.modTable i f).carve = s.carve := rfl
@[simp] theorem State.modTable_ports (s : State) (i : Nat) (f : CalTable → CalTable) :
    (s.modTable i f).ports = s.ports := rfl
@[simp] theorem State.modTable_access (s : State) (i : Nat) (f : CalTable → CalTable) :
    (s.modTable i f).access = s.access := rfl
@[simp] theorem State.modTable_twin (s : State) (i : Nat) (f : CalTable → CalTable) :
    (s.modTable i f).twin = s.twin := rfl
@[simp] theorem State.modTable_sec (s : State) (i : Nat) (f : CalTable → CalTable) :
    (s.modTable i f).sec = s.sec := rfl
@[simp] theorem State.modTable_mail (s : State) (i : Nat) (f : CalTable → CalTable) :
    (s.modTable i f).mail = s.mail := rfl
@[simp] theorem State.modTable_agent (s : State) (i : Nat) (f : CalTable → CalTable) :
    (s.modTable i f).agent = s.agent := rfl
@[simp] theorem State.modTable_fabric (s : State) (i : Nat) (f : CalTable → CalTable) :
    (s.modTable i f).fabric = s.fabric := rfl
@[simp] theorem State.modTable_power (s : State) (i : Nat) (f : CalTable → CalTable) :
    (s.modTable i f).power = s.power := rfl
@[simp] theorem State.modTable_twill (s : State) (i : Nat) (f : CalTable → CalTable) :
    (s.modTable i f).twill = s.twill := rfl
@[simp] theorem State.modTable_jacquard (s : State) (i : Nat) (f : CalTable → CalTable) :
    (s.modTable i f).jacquard = s.jacquard := rfl
@[simp] theorem State.modTable_store (s : State) (i : Nat) (f : CalTable → CalTable) :
    (s.modTable i f).store = s.store := rfl
@[simp] theorem State.modTable_buckram (s : State) (i : Nat) (f : CalTable → CalTable) :
    (s.modTable i f).buckram = s.buckram := rfl
@[simp] theorem State.modTable_drawn (s : State) (i : Nat) (f : CalTable → CalTable) :
    (s.modTable i f).drawn = s.drawn := rfl
@[simp] theorem State.modClock_pending (s : State) (f : Clock → Clock) :
    (s.modClock f).pending = s.pending := rfl
@[simp] theorem State.modClock_host (s : State) (f : Clock → Clock) :
    (s.modClock f).host = s.host := rfl
@[simp] theorem State.modClock_faults (s : State) (f : Clock → Clock) :
    (s.modClock f).faults = s.faults := rfl
@[simp] theorem State.modClock_pins (s : State) (f : Clock → Clock) :
    (s.modClock f).pins = s.pins := rfl
@[simp] theorem State.modClock_up (s : State) (f : Clock → Clock) :
    (s.modClock f).up = s.up := rfl
@[simp] theorem State.modClock_streams (s : State) (f : Clock → Clock) :
    (s.modClock f).streams = s.streams := rfl
@[simp] theorem State.modClock_carve (s : State) (f : Clock → Clock) :
    (s.modClock f).carve = s.carve := rfl
@[simp] theorem State.modClock_ports (s : State) (f : Clock → Clock) :
    (s.modClock f).ports = s.ports := rfl
@[simp] theorem State.modClock_access (s : State) (f : Clock → Clock) :
    (s.modClock f).access = s.access := rfl
@[simp] theorem State.modClock_twin (s : State) (f : Clock → Clock) :
    (s.modClock f).twin = s.twin := rfl
@[simp] theorem State.modClock_sec (s : State) (f : Clock → Clock) :
    (s.modClock f).sec = s.sec := rfl
@[simp] theorem State.modClock_mail (s : State) (f : Clock → Clock) :
    (s.modClock f).mail = s.mail := rfl
@[simp] theorem State.modClock_agent (s : State) (f : Clock → Clock) :
    (s.modClock f).agent = s.agent := rfl
@[simp] theorem State.modClock_fabric (s : State) (f : Clock → Clock) :
    (s.modClock f).fabric = s.fabric := rfl
@[simp] theorem State.modClock_power (s : State) (f : Clock → Clock) :
    (s.modClock f).power = s.power := rfl
@[simp] theorem State.modClock_twill (s : State) (f : Clock → Clock) :
    (s.modClock f).twill = s.twill := rfl
@[simp] theorem State.modClock_jacquard (s : State) (f : Clock → Clock) :
    (s.modClock f).jacquard = s.jacquard := rfl
@[simp] theorem State.modClock_calico (s : State) (f : Clock → Clock) :
    (s.modClock f).calico = s.calico := rfl
@[simp] theorem State.modClock_store (s : State) (f : Clock → Clock) :
    (s.modClock f).store = s.store := rfl
@[simp] theorem State.modClock_buckram (s : State) (f : Clock → Clock) :
    (s.modClock f).buckram = s.buckram := rfl
@[simp] theorem State.modClock_drawn (s : State) (f : Clock → Clock) :
    (s.modClock f).drawn = s.drawn := rfl
@[simp] theorem State.modWalk_pending (s : State) (f : Walk → Walk) :
    (s.modWalk f).pending = s.pending := rfl
@[simp] theorem State.modWalk_host (s : State) (f : Walk → Walk) :
    (s.modWalk f).host = s.host := rfl
@[simp] theorem State.modWalk_clock (s : State) (f : Walk → Walk) :
    (s.modWalk f).clock = s.clock := rfl
@[simp] theorem State.modWalk_faults (s : State) (f : Walk → Walk) :
    (s.modWalk f).faults = s.faults := rfl
@[simp] theorem State.modWalk_pins (s : State) (f : Walk → Walk) :
    (s.modWalk f).pins = s.pins := rfl
@[simp] theorem State.modWalk_up (s : State) (f : Walk → Walk) :
    (s.modWalk f).up = s.up := rfl
@[simp] theorem State.modWalk_streams (s : State) (f : Walk → Walk) :
    (s.modWalk f).streams = s.streams := rfl
@[simp] theorem State.modWalk_carve (s : State) (f : Walk → Walk) :
    (s.modWalk f).carve = s.carve := rfl
@[simp] theorem State.modWalk_ports (s : State) (f : Walk → Walk) :
    (s.modWalk f).ports = s.ports := rfl
@[simp] theorem State.modWalk_access (s : State) (f : Walk → Walk) :
    (s.modWalk f).access = s.access := rfl
@[simp] theorem State.modWalk_twin (s : State) (f : Walk → Walk) :
    (s.modWalk f).twin = s.twin := rfl
@[simp] theorem State.modWalk_sec (s : State) (f : Walk → Walk) :
    (s.modWalk f).sec = s.sec := rfl
@[simp] theorem State.modWalk_mail (s : State) (f : Walk → Walk) :
    (s.modWalk f).mail = s.mail := rfl
@[simp] theorem State.modWalk_agent (s : State) (f : Walk → Walk) :
    (s.modWalk f).agent = s.agent := rfl
@[simp] theorem State.modWalk_power (s : State) (f : Walk → Walk) :
    (s.modWalk f).power = s.power := rfl
@[simp] theorem State.modWalk_twill (s : State) (f : Walk → Walk) :
    (s.modWalk f).twill = s.twill := rfl
@[simp] theorem State.modWalk_jacquard (s : State) (f : Walk → Walk) :
    (s.modWalk f).jacquard = s.jacquard := rfl
@[simp] theorem State.modWalk_calico (s : State) (f : Walk → Walk) :
    (s.modWalk f).calico = s.calico := rfl
@[simp] theorem State.modWalk_store (s : State) (f : Walk → Walk) :
    (s.modWalk f).store = s.store := rfl
@[simp] theorem State.modWalk_buckram (s : State) (f : Walk → Walk) :
    (s.modWalk f).buckram = s.buckram := rfl
@[simp] theorem State.modWalk_drawn (s : State) (f : Walk → Walk) :
    (s.modWalk f).drawn = s.drawn := rfl
@[simp] theorem State.modOwn_pending (s : State) (f : TopoSection → TopoSection) :
    (s.modOwn f).pending = s.pending := rfl
@[simp] theorem State.modOwn_host (s : State) (f : TopoSection → TopoSection) :
    (s.modOwn f).host = s.host := rfl
@[simp] theorem State.modOwn_clock (s : State) (f : TopoSection → TopoSection) :
    (s.modOwn f).clock = s.clock := rfl
@[simp] theorem State.modOwn_faults (s : State) (f : TopoSection → TopoSection) :
    (s.modOwn f).faults = s.faults := rfl
@[simp] theorem State.modOwn_pins (s : State) (f : TopoSection → TopoSection) :
    (s.modOwn f).pins = s.pins := rfl
@[simp] theorem State.modOwn_up (s : State) (f : TopoSection → TopoSection) :
    (s.modOwn f).up = s.up := rfl
@[simp] theorem State.modOwn_streams (s : State) (f : TopoSection → TopoSection) :
    (s.modOwn f).streams = s.streams := rfl
@[simp] theorem State.modOwn_carve (s : State) (f : TopoSection → TopoSection) :
    (s.modOwn f).carve = s.carve := rfl
@[simp] theorem State.modOwn_ports (s : State) (f : TopoSection → TopoSection) :
    (s.modOwn f).ports = s.ports := rfl
@[simp] theorem State.modOwn_access (s : State) (f : TopoSection → TopoSection) :
    (s.modOwn f).access = s.access := rfl
@[simp] theorem State.modOwn_twin (s : State) (f : TopoSection → TopoSection) :
    (s.modOwn f).twin = s.twin := rfl
@[simp] theorem State.modOwn_sec (s : State) (f : TopoSection → TopoSection) :
    (s.modOwn f).sec = s.sec := rfl
@[simp] theorem State.modOwn_mail (s : State) (f : TopoSection → TopoSection) :
    (s.modOwn f).mail = s.mail := rfl
@[simp] theorem State.modOwn_agent (s : State) (f : TopoSection → TopoSection) :
    (s.modOwn f).agent = s.agent := rfl
@[simp] theorem State.modOwn_power (s : State) (f : TopoSection → TopoSection) :
    (s.modOwn f).power = s.power := rfl
@[simp] theorem State.modOwn_twill (s : State) (f : TopoSection → TopoSection) :
    (s.modOwn f).twill = s.twill := rfl
@[simp] theorem State.modOwn_jacquard (s : State) (f : TopoSection → TopoSection) :
    (s.modOwn f).jacquard = s.jacquard := rfl
@[simp] theorem State.modOwn_calico (s : State) (f : TopoSection → TopoSection) :
    (s.modOwn f).calico = s.calico := rfl
@[simp] theorem State.modOwn_store (s : State) (f : TopoSection → TopoSection) :
    (s.modOwn f).store = s.store := rfl
@[simp] theorem State.modOwn_buckram (s : State) (f : TopoSection → TopoSection) :
    (s.modOwn f).buckram = s.buckram := rfl
@[simp] theorem State.modOwn_drawn (s : State) (f : TopoSection → TopoSection) :
    (s.modOwn f).drawn = s.drawn := rfl
@[simp] theorem State.putSection_pending (s : State) (x : TopoSection) :
    (s.putSection x).pending = s.pending := rfl
@[simp] theorem State.putSection_host (s : State) (x : TopoSection) :
    (s.putSection x).host = s.host := rfl
@[simp] theorem State.putSection_clock (s : State) (x : TopoSection) :
    (s.putSection x).clock = s.clock := rfl
@[simp] theorem State.putSection_faults (s : State) (x : TopoSection) :
    (s.putSection x).faults = s.faults := rfl
@[simp] theorem State.putSection_pins (s : State) (x : TopoSection) :
    (s.putSection x).pins = s.pins := rfl
@[simp] theorem State.putSection_up (s : State) (x : TopoSection) :
    (s.putSection x).up = s.up := rfl
@[simp] theorem State.putSection_streams (s : State) (x : TopoSection) :
    (s.putSection x).streams = s.streams := rfl
@[simp] theorem State.putSection_carve (s : State) (x : TopoSection) :
    (s.putSection x).carve = s.carve := rfl
@[simp] theorem State.putSection_ports (s : State) (x : TopoSection) :
    (s.putSection x).ports = s.ports := rfl
@[simp] theorem State.putSection_access (s : State) (x : TopoSection) :
    (s.putSection x).access = s.access := rfl
@[simp] theorem State.putSection_twin (s : State) (x : TopoSection) :
    (s.putSection x).twin = s.twin := rfl
@[simp] theorem State.putSection_sec (s : State) (x : TopoSection) :
    (s.putSection x).sec = s.sec := rfl
@[simp] theorem State.putSection_mail (s : State) (x : TopoSection) :
    (s.putSection x).mail = s.mail := rfl
@[simp] theorem State.putSection_agent (s : State) (x : TopoSection) :
    (s.putSection x).agent = s.agent := rfl
@[simp] theorem State.putSection_power (s : State) (x : TopoSection) :
    (s.putSection x).power = s.power := rfl
@[simp] theorem State.putSection_twill (s : State) (x : TopoSection) :
    (s.putSection x).twill = s.twill := rfl
@[simp] theorem State.putSection_jacquard (s : State) (x : TopoSection) :
    (s.putSection x).jacquard = s.jacquard := rfl
@[simp] theorem State.putSection_calico (s : State) (x : TopoSection) :
    (s.putSection x).calico = s.calico := rfl
@[simp] theorem State.putSection_store (s : State) (x : TopoSection) :
    (s.putSection x).store = s.store := rfl
@[simp] theorem State.putSection_buckram (s : State) (x : TopoSection) :
    (s.putSection x).buckram = s.buckram := rfl
@[simp] theorem State.putSection_drawn (s : State) (x : TopoSection) :
    (s.putSection x).drawn = s.drawn := rfl
@[simp] theorem State.modEpoch_pending (s : State) (f : Epoch → Epoch) :
    (s.modEpoch f).pending = s.pending := rfl
@[simp] theorem State.modEpoch_host (s : State) (f : Epoch → Epoch) :
    (s.modEpoch f).host = s.host := rfl
@[simp] theorem State.modEpoch_clock (s : State) (f : Epoch → Epoch) :
    (s.modEpoch f).clock = s.clock := rfl
@[simp] theorem State.modEpoch_faults (s : State) (f : Epoch → Epoch) :
    (s.modEpoch f).faults = s.faults := rfl
@[simp] theorem State.modEpoch_pins (s : State) (f : Epoch → Epoch) :
    (s.modEpoch f).pins = s.pins := rfl
@[simp] theorem State.modEpoch_up (s : State) (f : Epoch → Epoch) :
    (s.modEpoch f).up = s.up := rfl
@[simp] theorem State.modEpoch_streams (s : State) (f : Epoch → Epoch) :
    (s.modEpoch f).streams = s.streams := rfl
@[simp] theorem State.modEpoch_carve (s : State) (f : Epoch → Epoch) :
    (s.modEpoch f).carve = s.carve := rfl
@[simp] theorem State.modEpoch_ports (s : State) (f : Epoch → Epoch) :
    (s.modEpoch f).ports = s.ports := rfl
@[simp] theorem State.modEpoch_access (s : State) (f : Epoch → Epoch) :
    (s.modEpoch f).access = s.access := rfl
@[simp] theorem State.modEpoch_twin (s : State) (f : Epoch → Epoch) :
    (s.modEpoch f).twin = s.twin := rfl
@[simp] theorem State.modEpoch_sec (s : State) (f : Epoch → Epoch) :
    (s.modEpoch f).sec = s.sec := rfl
@[simp] theorem State.modEpoch_mail (s : State) (f : Epoch → Epoch) :
    (s.modEpoch f).mail = s.mail := rfl
@[simp] theorem State.modEpoch_agent (s : State) (f : Epoch → Epoch) :
    (s.modEpoch f).agent = s.agent := rfl
@[simp] theorem State.modEpoch_power (s : State) (f : Epoch → Epoch) :
    (s.modEpoch f).power = s.power := rfl
@[simp] theorem State.modEpoch_twill (s : State) (f : Epoch → Epoch) :
    (s.modEpoch f).twill = s.twill := rfl
@[simp] theorem State.modEpoch_jacquard (s : State) (f : Epoch → Epoch) :
    (s.modEpoch f).jacquard = s.jacquard := rfl
@[simp] theorem State.modEpoch_calico (s : State) (f : Epoch → Epoch) :
    (s.modEpoch f).calico = s.calico := rfl
@[simp] theorem State.modEpoch_store (s : State) (f : Epoch → Epoch) :
    (s.modEpoch f).store = s.store := rfl
@[simp] theorem State.modEpoch_buckram (s : State) (f : Epoch → Epoch) :
    (s.modEpoch f).buckram = s.buckram := rfl
@[simp] theorem State.modEpoch_drawn (s : State) (f : Epoch → Epoch) :
    (s.modEpoch f).drawn = s.drawn := rfl
@[simp] theorem State.putImage_pending (s : State) (i : BankImage) :
    (s.putImage i).pending = s.pending := rfl
@[simp] theorem State.putImage_host (s : State) (i : BankImage) :
    (s.putImage i).host = s.host := rfl
@[simp] theorem State.putImage_clock (s : State) (i : BankImage) :
    (s.putImage i).clock = s.clock := rfl
@[simp] theorem State.putImage_faults (s : State) (i : BankImage) :
    (s.putImage i).faults = s.faults := rfl
@[simp] theorem State.putImage_pins (s : State) (i : BankImage) :
    (s.putImage i).pins = s.pins := rfl
@[simp] theorem State.putImage_up (s : State) (i : BankImage) :
    (s.putImage i).up = s.up := rfl
@[simp] theorem State.putImage_streams (s : State) (i : BankImage) :
    (s.putImage i).streams = s.streams := rfl
@[simp] theorem State.putImage_carve (s : State) (i : BankImage) :
    (s.putImage i).carve = s.carve := rfl
@[simp] theorem State.putImage_ports (s : State) (i : BankImage) :
    (s.putImage i).ports = s.ports := rfl
@[simp] theorem State.putImage_access (s : State) (i : BankImage) :
    (s.putImage i).access = s.access := rfl
@[simp] theorem State.putImage_twin (s : State) (i : BankImage) :
    (s.putImage i).twin = s.twin := rfl
@[simp] theorem State.putImage_sec (s : State) (i : BankImage) :
    (s.putImage i).sec = s.sec := rfl
@[simp] theorem State.putImage_mail (s : State) (i : BankImage) :
    (s.putImage i).mail = s.mail := rfl
@[simp] theorem State.putImage_agent (s : State) (i : BankImage) :
    (s.putImage i).agent = s.agent := rfl
@[simp] theorem State.putImage_power (s : State) (i : BankImage) :
    (s.putImage i).power = s.power := rfl
@[simp] theorem State.putImage_twill (s : State) (i : BankImage) :
    (s.putImage i).twill = s.twill := rfl
@[simp] theorem State.putImage_jacquard (s : State) (i : BankImage) :
    (s.putImage i).jacquard = s.jacquard := rfl
@[simp] theorem State.putImage_calico (s : State) (i : BankImage) :
    (s.putImage i).calico = s.calico := rfl
@[simp] theorem State.putImage_store (s : State) (i : BankImage) :
    (s.putImage i).store = s.store := rfl
@[simp] theorem State.putImage_buckram (s : State) (i : BankImage) :
    (s.putImage i).buckram = s.buckram := rfl
@[simp] theorem State.putImage_drawn (s : State) (i : BankImage) :
    (s.putImage i).drawn = s.drawn := rfl
@[simp] theorem State.modChange_pending (s : State) (id : Nat) (f : SliceChange → SliceChange) :
    (s.modChange id f).pending = s.pending := rfl
@[simp] theorem State.modChange_host (s : State) (id : Nat) (f : SliceChange → SliceChange) :
    (s.modChange id f).host = s.host := rfl
@[simp] theorem State.modChange_clock (s : State) (id : Nat) (f : SliceChange → SliceChange) :
    (s.modChange id f).clock = s.clock := rfl
@[simp] theorem State.modChange_faults (s : State) (id : Nat) (f : SliceChange → SliceChange) :
    (s.modChange id f).faults = s.faults := rfl
@[simp] theorem State.modChange_pins (s : State) (id : Nat) (f : SliceChange → SliceChange) :
    (s.modChange id f).pins = s.pins := rfl
@[simp] theorem State.modChange_up (s : State) (id : Nat) (f : SliceChange → SliceChange) :
    (s.modChange id f).up = s.up := rfl
@[simp] theorem State.modChange_streams (s : State) (id : Nat) (f : SliceChange → SliceChange) :
    (s.modChange id f).streams = s.streams := rfl
@[simp] theorem State.modChange_carve (s : State) (id : Nat) (f : SliceChange → SliceChange) :
    (s.modChange id f).carve = s.carve := rfl
@[simp] theorem State.modChange_ports (s : State) (id : Nat) (f : SliceChange → SliceChange) :
    (s.modChange id f).ports = s.ports := rfl
@[simp] theorem State.modChange_twin (s : State) (id : Nat) (f : SliceChange → SliceChange) :
    (s.modChange id f).twin = s.twin := rfl
@[simp] theorem State.modChange_sec (s : State) (id : Nat) (f : SliceChange → SliceChange) :
    (s.modChange id f).sec = s.sec := rfl
@[simp] theorem State.modChange_mail (s : State) (id : Nat) (f : SliceChange → SliceChange) :
    (s.modChange id f).mail = s.mail := rfl
@[simp] theorem State.modChange_agent (s : State) (id : Nat) (f : SliceChange → SliceChange) :
    (s.modChange id f).agent = s.agent := rfl
@[simp] theorem State.modChange_fabric (s : State) (id : Nat) (f : SliceChange → SliceChange) :
    (s.modChange id f).fabric = s.fabric := rfl
@[simp] theorem State.modChange_power (s : State) (id : Nat) (f : SliceChange → SliceChange) :
    (s.modChange id f).power = s.power := rfl
@[simp] theorem State.modChange_twill (s : State) (id : Nat) (f : SliceChange → SliceChange) :
    (s.modChange id f).twill = s.twill := rfl
@[simp] theorem State.modChange_jacquard (s : State) (id : Nat) (f : SliceChange → SliceChange) :
    (s.modChange id f).jacquard = s.jacquard := rfl
@[simp] theorem State.modChange_calico (s : State) (id : Nat) (f : SliceChange → SliceChange) :
    (s.modChange id f).calico = s.calico := rfl
@[simp] theorem State.modChange_store (s : State) (id : Nat) (f : SliceChange → SliceChange) :
    (s.modChange id f).store = s.store := rfl
@[simp] theorem State.modChange_buckram (s : State) (id : Nat) (f : SliceChange → SliceChange) :
    (s.modChange id f).buckram = s.buckram := rfl
@[simp] theorem State.modChange_drawn (s : State) (id : Nat) (f : SliceChange → SliceChange) :
    (s.modChange id f).drawn = s.drawn := rfl
@[simp] theorem State.putTargetImage_pending (s : State) (i : TargetImage) :
    (s.putTargetImage i).pending = s.pending := rfl
@[simp] theorem State.putTargetImage_host (s : State) (i : TargetImage) :
    (s.putTargetImage i).host = s.host := rfl
@[simp] theorem State.putTargetImage_clock (s : State) (i : TargetImage) :
    (s.putTargetImage i).clock = s.clock := rfl
@[simp] theorem State.putTargetImage_faults (s : State) (i : TargetImage) :
    (s.putTargetImage i).faults = s.faults := rfl
@[simp] theorem State.putTargetImage_pins (s : State) (i : TargetImage) :
    (s.putTargetImage i).pins = s.pins := rfl
@[simp] theorem State.putTargetImage_up (s : State) (i : TargetImage) :
    (s.putTargetImage i).up = s.up := rfl
@[simp] theorem State.putTargetImage_streams (s : State) (i : TargetImage) :
    (s.putTargetImage i).streams = s.streams := rfl
@[simp] theorem State.putTargetImage_carve (s : State) (i : TargetImage) :
    (s.putTargetImage i).carve = s.carve := rfl
@[simp] theorem State.putTargetImage_ports (s : State) (i : TargetImage) :
    (s.putTargetImage i).ports = s.ports := rfl
@[simp] theorem State.putTargetImage_twin (s : State) (i : TargetImage) :
    (s.putTargetImage i).twin = s.twin := rfl
@[simp] theorem State.putTargetImage_sec (s : State) (i : TargetImage) :
    (s.putTargetImage i).sec = s.sec := rfl
@[simp] theorem State.putTargetImage_mail (s : State) (i : TargetImage) :
    (s.putTargetImage i).mail = s.mail := rfl
@[simp] theorem State.putTargetImage_agent (s : State) (i : TargetImage) :
    (s.putTargetImage i).agent = s.agent := rfl
@[simp] theorem State.putTargetImage_fabric (s : State) (i : TargetImage) :
    (s.putTargetImage i).fabric = s.fabric := rfl
@[simp] theorem State.putTargetImage_power (s : State) (i : TargetImage) :
    (s.putTargetImage i).power = s.power := rfl
@[simp] theorem State.putTargetImage_twill (s : State) (i : TargetImage) :
    (s.putTargetImage i).twill = s.twill := rfl
@[simp] theorem State.putTargetImage_jacquard (s : State) (i : TargetImage) :
    (s.putTargetImage i).jacquard = s.jacquard := rfl
@[simp] theorem State.putTargetImage_calico (s : State) (i : TargetImage) :
    (s.putTargetImage i).calico = s.calico := rfl
@[simp] theorem State.putTargetImage_store (s : State) (i : TargetImage) :
    (s.putTargetImage i).store = s.store := rfl
@[simp] theorem State.putTargetImage_buckram (s : State) (i : TargetImage) :
    (s.putTargetImage i).buckram = s.buckram := rfl
@[simp] theorem State.putTargetImage_drawn (s : State) (i : TargetImage) :
    (s.putTargetImage i).drawn = s.drawn := rfl
@[simp] theorem State.putMemberExch_pending (s : State) (x : MemberExchange) :
    (s.putMemberExch x).pending = s.pending := rfl
@[simp] theorem State.putMemberExch_host (s : State) (x : MemberExchange) :
    (s.putMemberExch x).host = s.host := rfl
@[simp] theorem State.putMemberExch_clock (s : State) (x : MemberExchange) :
    (s.putMemberExch x).clock = s.clock := rfl
@[simp] theorem State.putMemberExch_faults (s : State) (x : MemberExchange) :
    (s.putMemberExch x).faults = s.faults := rfl
@[simp] theorem State.putMemberExch_pins (s : State) (x : MemberExchange) :
    (s.putMemberExch x).pins = s.pins := rfl
@[simp] theorem State.putMemberExch_up (s : State) (x : MemberExchange) :
    (s.putMemberExch x).up = s.up := rfl
@[simp] theorem State.putMemberExch_streams (s : State) (x : MemberExchange) :
    (s.putMemberExch x).streams = s.streams := rfl
@[simp] theorem State.putMemberExch_carve (s : State) (x : MemberExchange) :
    (s.putMemberExch x).carve = s.carve := rfl
@[simp] theorem State.putMemberExch_ports (s : State) (x : MemberExchange) :
    (s.putMemberExch x).ports = s.ports := rfl
@[simp] theorem State.putMemberExch_access (s : State) (x : MemberExchange) :
    (s.putMemberExch x).access = s.access := rfl
@[simp] theorem State.putMemberExch_twin (s : State) (x : MemberExchange) :
    (s.putMemberExch x).twin = s.twin := rfl
@[simp] theorem State.putMemberExch_sec (s : State) (x : MemberExchange) :
    (s.putMemberExch x).sec = s.sec := rfl
@[simp] theorem State.putMemberExch_mail (s : State) (x : MemberExchange) :
    (s.putMemberExch x).mail = s.mail := rfl
@[simp] theorem State.putMemberExch_fabric (s : State) (x : MemberExchange) :
    (s.putMemberExch x).fabric = s.fabric := rfl
@[simp] theorem State.putMemberExch_power (s : State) (x : MemberExchange) :
    (s.putMemberExch x).power = s.power := rfl
@[simp] theorem State.putMemberExch_twill (s : State) (x : MemberExchange) :
    (s.putMemberExch x).twill = s.twill := rfl
@[simp] theorem State.putMemberExch_jacquard (s : State) (x : MemberExchange) :
    (s.putMemberExch x).jacquard = s.jacquard := rfl
@[simp] theorem State.putMemberExch_calico (s : State) (x : MemberExchange) :
    (s.putMemberExch x).calico = s.calico := rfl
@[simp] theorem State.putMemberExch_store (s : State) (x : MemberExchange) :
    (s.putMemberExch x).store = s.store := rfl
@[simp] theorem State.putMemberExch_buckram (s : State) (x : MemberExchange) :
    (s.putMemberExch x).buckram = s.buckram := rfl
@[simp] theorem State.putMemberExch_drawn (s : State) (x : MemberExchange) :
    (s.putMemberExch x).drawn = s.drawn := rfl
@[simp] theorem State.putPlan_pending (s : State) (p : Plan) :
    (s.putPlan p).pending = s.pending := rfl
@[simp] theorem State.putPlan_host (s : State) (p : Plan) :
    (s.putPlan p).host = s.host := rfl
@[simp] theorem State.putPlan_clock (s : State) (p : Plan) :
    (s.putPlan p).clock = s.clock := rfl
@[simp] theorem State.putPlan_faults (s : State) (p : Plan) :
    (s.putPlan p).faults = s.faults := rfl
@[simp] theorem State.putPlan_pins (s : State) (p : Plan) :
    (s.putPlan p).pins = s.pins := rfl
@[simp] theorem State.putPlan_up (s : State) (p : Plan) :
    (s.putPlan p).up = s.up := rfl
@[simp] theorem State.putPlan_streams (s : State) (p : Plan) :
    (s.putPlan p).streams = s.streams := rfl
@[simp] theorem State.putPlan_carve (s : State) (p : Plan) :
    (s.putPlan p).carve = s.carve := rfl
@[simp] theorem State.putPlan_ports (s : State) (p : Plan) :
    (s.putPlan p).ports = s.ports := rfl
@[simp] theorem State.putPlan_access (s : State) (p : Plan) :
    (s.putPlan p).access = s.access := rfl
@[simp] theorem State.putPlan_twin (s : State) (p : Plan) :
    (s.putPlan p).twin = s.twin := rfl
@[simp] theorem State.putPlan_sec (s : State) (p : Plan) :
    (s.putPlan p).sec = s.sec := rfl
@[simp] theorem State.putPlan_mail (s : State) (p : Plan) :
    (s.putPlan p).mail = s.mail := rfl
@[simp] theorem State.putPlan_agent (s : State) (p : Plan) :
    (s.putPlan p).agent = s.agent := rfl
@[simp] theorem State.putPlan_fabric (s : State) (p : Plan) :
    (s.putPlan p).fabric = s.fabric := rfl
@[simp] theorem State.putPlan_power (s : State) (p : Plan) :
    (s.putPlan p).power = s.power := rfl
@[simp] theorem State.putPlan_twill (s : State) (p : Plan) :
    (s.putPlan p).twill = s.twill := rfl
@[simp] theorem State.putPlan_calico (s : State) (p : Plan) :
    (s.putPlan p).calico = s.calico := rfl
@[simp] theorem State.putPlan_store (s : State) (p : Plan) :
    (s.putPlan p).store = s.store := rfl
@[simp] theorem State.putPlan_buckram (s : State) (p : Plan) :
    (s.putPlan p).buckram = s.buckram := rfl
@[simp] theorem State.putPlan_drawn (s : State) (p : Plan) :
    (s.putPlan p).drawn = s.drawn := rfl
@[simp] theorem State.modPlan_pending (s : State) (i : Nat) (f : Plan → Plan) :
    (s.modPlan i f).pending = s.pending := rfl
@[simp] theorem State.modPlan_host (s : State) (i : Nat) (f : Plan → Plan) :
    (s.modPlan i f).host = s.host := rfl
@[simp] theorem State.modPlan_clock (s : State) (i : Nat) (f : Plan → Plan) :
    (s.modPlan i f).clock = s.clock := rfl
@[simp] theorem State.modPlan_faults (s : State) (i : Nat) (f : Plan → Plan) :
    (s.modPlan i f).faults = s.faults := rfl
@[simp] theorem State.modPlan_pins (s : State) (i : Nat) (f : Plan → Plan) :
    (s.modPlan i f).pins = s.pins := rfl
@[simp] theorem State.modPlan_up (s : State) (i : Nat) (f : Plan → Plan) :
    (s.modPlan i f).up = s.up := rfl
@[simp] theorem State.modPlan_streams (s : State) (i : Nat) (f : Plan → Plan) :
    (s.modPlan i f).streams = s.streams := rfl
@[simp] theorem State.modPlan_carve (s : State) (i : Nat) (f : Plan → Plan) :
    (s.modPlan i f).carve = s.carve := rfl
@[simp] theorem State.modPlan_ports (s : State) (i : Nat) (f : Plan → Plan) :
    (s.modPlan i f).ports = s.ports := rfl
@[simp] theorem State.modPlan_access (s : State) (i : Nat) (f : Plan → Plan) :
    (s.modPlan i f).access = s.access := rfl
@[simp] theorem State.modPlan_twin (s : State) (i : Nat) (f : Plan → Plan) :
    (s.modPlan i f).twin = s.twin := rfl
@[simp] theorem State.modPlan_sec (s : State) (i : Nat) (f : Plan → Plan) :
    (s.modPlan i f).sec = s.sec := rfl
@[simp] theorem State.modPlan_mail (s : State) (i : Nat) (f : Plan → Plan) :
    (s.modPlan i f).mail = s.mail := rfl
@[simp] theorem State.modPlan_agent (s : State) (i : Nat) (f : Plan → Plan) :
    (s.modPlan i f).agent = s.agent := rfl
@[simp] theorem State.modPlan_fabric (s : State) (i : Nat) (f : Plan → Plan) :
    (s.modPlan i f).fabric = s.fabric := rfl
@[simp] theorem State.modPlan_power (s : State) (i : Nat) (f : Plan → Plan) :
    (s.modPlan i f).power = s.power := rfl
@[simp] theorem State.modPlan_twill (s : State) (i : Nat) (f : Plan → Plan) :
    (s.modPlan i f).twill = s.twill := rfl
@[simp] theorem State.modPlan_calico (s : State) (i : Nat) (f : Plan → Plan) :
    (s.modPlan i f).calico = s.calico := rfl
@[simp] theorem State.modPlan_store (s : State) (i : Nat) (f : Plan → Plan) :
    (s.modPlan i f).store = s.store := rfl
@[simp] theorem State.modPlan_buckram (s : State) (i : Nat) (f : Plan → Plan) :
    (s.modPlan i f).buckram = s.buckram := rfl
@[simp] theorem State.modPlan_drawn (s : State) (i : Nat) (f : Plan → Plan) :
    (s.modPlan i f).drawn = s.drawn := rfl
@[simp] theorem State.modExch_pending (s : State) (i : Nat) (f : Exchange → Exchange) :
    (s.modExch i f).pending = s.pending := rfl
@[simp] theorem State.modExch_host (s : State) (i : Nat) (f : Exchange → Exchange) :
    (s.modExch i f).host = s.host := rfl
@[simp] theorem State.modExch_clock (s : State) (i : Nat) (f : Exchange → Exchange) :
    (s.modExch i f).clock = s.clock := rfl
@[simp] theorem State.modExch_faults (s : State) (i : Nat) (f : Exchange → Exchange) :
    (s.modExch i f).faults = s.faults := rfl
@[simp] theorem State.modExch_pins (s : State) (i : Nat) (f : Exchange → Exchange) :
    (s.modExch i f).pins = s.pins := rfl
@[simp] theorem State.modExch_up (s : State) (i : Nat) (f : Exchange → Exchange) :
    (s.modExch i f).up = s.up := rfl
@[simp] theorem State.modExch_streams (s : State) (i : Nat) (f : Exchange → Exchange) :
    (s.modExch i f).streams = s.streams := rfl
@[simp] theorem State.modExch_carve (s : State) (i : Nat) (f : Exchange → Exchange) :
    (s.modExch i f).carve = s.carve := rfl
@[simp] theorem State.modExch_ports (s : State) (i : Nat) (f : Exchange → Exchange) :
    (s.modExch i f).ports = s.ports := rfl
@[simp] theorem State.modExch_access (s : State) (i : Nat) (f : Exchange → Exchange) :
    (s.modExch i f).access = s.access := rfl
@[simp] theorem State.modExch_twin (s : State) (i : Nat) (f : Exchange → Exchange) :
    (s.modExch i f).twin = s.twin := rfl
@[simp] theorem State.modExch_sec (s : State) (i : Nat) (f : Exchange → Exchange) :
    (s.modExch i f).sec = s.sec := rfl
@[simp] theorem State.modExch_mail (s : State) (i : Nat) (f : Exchange → Exchange) :
    (s.modExch i f).mail = s.mail := rfl
@[simp] theorem State.modExch_agent (s : State) (i : Nat) (f : Exchange → Exchange) :
    (s.modExch i f).agent = s.agent := rfl
@[simp] theorem State.modExch_fabric (s : State) (i : Nat) (f : Exchange → Exchange) :
    (s.modExch i f).fabric = s.fabric := rfl
@[simp] theorem State.modExch_power (s : State) (i : Nat) (f : Exchange → Exchange) :
    (s.modExch i f).power = s.power := rfl
@[simp] theorem State.modExch_twill (s : State) (i : Nat) (f : Exchange → Exchange) :
    (s.modExch i f).twill = s.twill := rfl
@[simp] theorem State.modExch_calico (s : State) (i : Nat) (f : Exchange → Exchange) :
    (s.modExch i f).calico = s.calico := rfl
@[simp] theorem State.modExch_store (s : State) (i : Nat) (f : Exchange → Exchange) :
    (s.modExch i f).store = s.store := rfl
@[simp] theorem State.modExch_buckram (s : State) (i : Nat) (f : Exchange → Exchange) :
    (s.modExch i f).buckram = s.buckram := rfl
@[simp] theorem State.modExch_drawn (s : State) (i : Nat) (f : Exchange → Exchange) :
    (s.modExch i f).drawn = s.drawn := rfl
@[simp] theorem State.modLink_pending (s : State) (r : PortRef) (f : Link → Link) :
    (s.modLink r f).pending = s.pending := by
  simp [State.modLink]
@[simp] theorem State.modLink_host (s : State) (r : PortRef) (f : Link → Link) :
    (s.modLink r f).host = s.host := by
  simp [State.modLink]
@[simp] theorem State.modLink_clock (s : State) (r : PortRef) (f : Link → Link) :
    (s.modLink r f).clock = s.clock := by
  simp [State.modLink]
@[simp] theorem State.modLink_faults (s : State) (r : PortRef) (f : Link → Link) :
    (s.modLink r f).faults = s.faults := by
  simp [State.modLink]
@[simp] theorem State.modLink_pins (s : State) (r : PortRef) (f : Link → Link) :
    (s.modLink r f).pins = s.pins := by
  simp [State.modLink]
@[simp] theorem State.modLink_up (s : State) (r : PortRef) (f : Link → Link) :
    (s.modLink r f).up = s.up := by
  simp [State.modLink]
@[simp] theorem State.modLink_streams (s : State) (r : PortRef) (f : Link → Link) :
    (s.modLink r f).streams = s.streams := by
  simp [State.modLink]
@[simp] theorem State.modLink_carve (s : State) (r : PortRef) (f : Link → Link) :
    (s.modLink r f).carve = s.carve := by
  simp [State.modLink]
@[simp] theorem State.modLink_access (s : State) (r : PortRef) (f : Link → Link) :
    (s.modLink r f).access = s.access := by
  simp [State.modLink]
@[simp] theorem State.modLink_twin (s : State) (r : PortRef) (f : Link → Link) :
    (s.modLink r f).twin = s.twin := by
  simp [State.modLink]
@[simp] theorem State.modLink_sec (s : State) (r : PortRef) (f : Link → Link) :
    (s.modLink r f).sec = s.sec := by
  simp [State.modLink]
@[simp] theorem State.modLink_mail (s : State) (r : PortRef) (f : Link → Link) :
    (s.modLink r f).mail = s.mail := by
  simp [State.modLink]
@[simp] theorem State.modLink_fabric (s : State) (r : PortRef) (f : Link → Link) :
    (s.modLink r f).fabric = s.fabric := by
  simp [State.modLink]
@[simp] theorem State.modLink_power (s : State) (r : PortRef) (f : Link → Link) :
    (s.modLink r f).power = s.power := by
  simp [State.modLink]
@[simp] theorem State.modLink_twill (s : State) (r : PortRef) (f : Link → Link) :
    (s.modLink r f).twill = s.twill := by
  simp [State.modLink]
@[simp] theorem State.modLink_jacquard (s : State) (r : PortRef) (f : Link → Link) :
    (s.modLink r f).jacquard = s.jacquard := by
  simp [State.modLink]
@[simp] theorem State.modLink_calico (s : State) (r : PortRef) (f : Link → Link) :
    (s.modLink r f).calico = s.calico := by
  simp [State.modLink]
@[simp] theorem State.modLink_store (s : State) (r : PortRef) (f : Link → Link) :
    (s.modLink r f).store = s.store := by
  simp [State.modLink]
@[simp] theorem State.modLink_buckram (s : State) (r : PortRef) (f : Link → Link) :
    (s.modLink r f).buckram = s.buckram := by
  simp [State.modLink]
@[simp] theorem State.modLink_drawn (s : State) (r : PortRef) (f : Link → Link) :
    (s.modLink r f).drawn = s.drawn := by
  simp [State.modLink]
@[simp] theorem State.modFlow_pending (s : State) (r : PortRef) (f : Flow → Flow) :
    (s.modFlow r f).pending = s.pending := by
  simp [State.modFlow]
@[simp] theorem State.modFlow_host (s : State) (r : PortRef) (f : Flow → Flow) :
    (s.modFlow r f).host = s.host := by
  simp [State.modFlow]
@[simp] theorem State.modFlow_clock (s : State) (r : PortRef) (f : Flow → Flow) :
    (s.modFlow r f).clock = s.clock := by
  simp [State.modFlow]
@[simp] theorem State.modFlow_faults (s : State) (r : PortRef) (f : Flow → Flow) :
    (s.modFlow r f).faults = s.faults := by
  simp [State.modFlow]
@[simp] theorem State.modFlow_pins (s : State) (r : PortRef) (f : Flow → Flow) :
    (s.modFlow r f).pins = s.pins := by
  simp [State.modFlow]
@[simp] theorem State.modFlow_up (s : State) (r : PortRef) (f : Flow → Flow) :
    (s.modFlow r f).up = s.up := by
  simp [State.modFlow]
@[simp] theorem State.modFlow_streams (s : State) (r : PortRef) (f : Flow → Flow) :
    (s.modFlow r f).streams = s.streams := by
  simp [State.modFlow]
@[simp] theorem State.modFlow_carve (s : State) (r : PortRef) (f : Flow → Flow) :
    (s.modFlow r f).carve = s.carve := by
  simp [State.modFlow]
@[simp] theorem State.modFlow_access (s : State) (r : PortRef) (f : Flow → Flow) :
    (s.modFlow r f).access = s.access := by
  simp [State.modFlow]
@[simp] theorem State.modFlow_twin (s : State) (r : PortRef) (f : Flow → Flow) :
    (s.modFlow r f).twin = s.twin := by
  simp [State.modFlow]
@[simp] theorem State.modFlow_sec (s : State) (r : PortRef) (f : Flow → Flow) :
    (s.modFlow r f).sec = s.sec := by
  simp [State.modFlow]
@[simp] theorem State.modFlow_mail (s : State) (r : PortRef) (f : Flow → Flow) :
    (s.modFlow r f).mail = s.mail := by
  simp [State.modFlow]
@[simp] theorem State.modFlow_fabric (s : State) (r : PortRef) (f : Flow → Flow) :
    (s.modFlow r f).fabric = s.fabric := by
  simp [State.modFlow]
@[simp] theorem State.modFlow_power (s : State) (r : PortRef) (f : Flow → Flow) :
    (s.modFlow r f).power = s.power := by
  simp [State.modFlow]
@[simp] theorem State.modFlow_twill (s : State) (r : PortRef) (f : Flow → Flow) :
    (s.modFlow r f).twill = s.twill := by
  simp [State.modFlow]
@[simp] theorem State.modFlow_jacquard (s : State) (r : PortRef) (f : Flow → Flow) :
    (s.modFlow r f).jacquard = s.jacquard := by
  simp [State.modFlow]
@[simp] theorem State.modFlow_calico (s : State) (r : PortRef) (f : Flow → Flow) :
    (s.modFlow r f).calico = s.calico := by
  simp [State.modFlow]
@[simp] theorem State.modFlow_store (s : State) (r : PortRef) (f : Flow → Flow) :
    (s.modFlow r f).store = s.store := by
  simp [State.modFlow]
@[simp] theorem State.modFlow_buckram (s : State) (r : PortRef) (f : Flow → Flow) :
    (s.modFlow r f).buckram = s.buckram := by
  simp [State.modFlow]
@[simp] theorem State.modFlow_drawn (s : State) (r : PortRef) (f : Flow → Flow) :
    (s.modFlow r f).drawn = s.drawn := by
  simp [State.modFlow]
@[simp] theorem State.modExchange_pending (s : State) (r : PortRef) (k : Nat) (g : TsExchange → TsExchange) :
    (s.modExchange r k g).pending = s.pending := by
  simp [State.modExchange]
@[simp] theorem State.modExchange_host (s : State) (r : PortRef) (k : Nat) (g : TsExchange → TsExchange) :
    (s.modExchange r k g).host = s.host := by
  simp [State.modExchange]
@[simp] theorem State.modExchange_clock (s : State) (r : PortRef) (k : Nat) (g : TsExchange → TsExchange) :
    (s.modExchange r k g).clock = s.clock := by
  simp [State.modExchange]
@[simp] theorem State.modExchange_faults (s : State) (r : PortRef) (k : Nat) (g : TsExchange → TsExchange) :
    (s.modExchange r k g).faults = s.faults := by
  simp [State.modExchange]
@[simp] theorem State.modExchange_pins (s : State) (r : PortRef) (k : Nat) (g : TsExchange → TsExchange) :
    (s.modExchange r k g).pins = s.pins := by
  simp [State.modExchange]
@[simp] theorem State.modExchange_up (s : State) (r : PortRef) (k : Nat) (g : TsExchange → TsExchange) :
    (s.modExchange r k g).up = s.up := by
  simp [State.modExchange]
@[simp] theorem State.modExchange_streams (s : State) (r : PortRef) (k : Nat) (g : TsExchange → TsExchange) :
    (s.modExchange r k g).streams = s.streams := by
  simp [State.modExchange]
@[simp] theorem State.modExchange_carve (s : State) (r : PortRef) (k : Nat) (g : TsExchange → TsExchange) :
    (s.modExchange r k g).carve = s.carve := by
  simp [State.modExchange]
@[simp] theorem State.modExchange_access (s : State) (r : PortRef) (k : Nat) (g : TsExchange → TsExchange) :
    (s.modExchange r k g).access = s.access := by
  simp [State.modExchange]
@[simp] theorem State.modExchange_twin (s : State) (r : PortRef) (k : Nat) (g : TsExchange → TsExchange) :
    (s.modExchange r k g).twin = s.twin := by
  simp [State.modExchange]
@[simp] theorem State.modExchange_sec (s : State) (r : PortRef) (k : Nat) (g : TsExchange → TsExchange) :
    (s.modExchange r k g).sec = s.sec := by
  simp [State.modExchange]
@[simp] theorem State.modExchange_mail (s : State) (r : PortRef) (k : Nat) (g : TsExchange → TsExchange) :
    (s.modExchange r k g).mail = s.mail := by
  simp [State.modExchange]
@[simp] theorem State.modExchange_fabric (s : State) (r : PortRef) (k : Nat) (g : TsExchange → TsExchange) :
    (s.modExchange r k g).fabric = s.fabric := by
  simp [State.modExchange]
@[simp] theorem State.modExchange_power (s : State) (r : PortRef) (k : Nat) (g : TsExchange → TsExchange) :
    (s.modExchange r k g).power = s.power := by
  simp [State.modExchange]
@[simp] theorem State.modExchange_twill (s : State) (r : PortRef) (k : Nat) (g : TsExchange → TsExchange) :
    (s.modExchange r k g).twill = s.twill := by
  simp [State.modExchange]
@[simp] theorem State.modExchange_jacquard (s : State) (r : PortRef) (k : Nat) (g : TsExchange → TsExchange) :
    (s.modExchange r k g).jacquard = s.jacquard := by
  simp [State.modExchange]
@[simp] theorem State.modExchange_calico (s : State) (r : PortRef) (k : Nat) (g : TsExchange → TsExchange) :
    (s.modExchange r k g).calico = s.calico := by
  simp [State.modExchange]
@[simp] theorem State.modExchange_store (s : State) (r : PortRef) (k : Nat) (g : TsExchange → TsExchange) :
    (s.modExchange r k g).store = s.store := by
  simp [State.modExchange]
@[simp] theorem State.modExchange_buckram (s : State) (r : PortRef) (k : Nat) (g : TsExchange → TsExchange) :
    (s.modExchange r k g).buckram = s.buckram := by
  simp [State.modExchange]
@[simp] theorem State.modExchange_drawn (s : State) (r : PortRef) (k : Nat) (g : TsExchange → TsExchange) :
    (s.modExchange r k g).drawn = s.drawn := by
  simp [State.modExchange]
@[simp] theorem State.setUnit_pending (s : State) (u : UnitRec) :
    (s.setUnit u).pending = s.pending := rfl
@[simp] theorem State.setUnit_host (s : State) (u : UnitRec) :
    (s.setUnit u).host = s.host := rfl
@[simp] theorem State.setUnit_clock (s : State) (u : UnitRec) :
    (s.setUnit u).clock = s.clock := rfl
@[simp] theorem State.setUnit_pins (s : State) (u : UnitRec) :
    (s.setUnit u).pins = s.pins := rfl
@[simp] theorem State.setUnit_up (s : State) (u : UnitRec) :
    (s.setUnit u).up = s.up := rfl
@[simp] theorem State.setUnit_streams (s : State) (u : UnitRec) :
    (s.setUnit u).streams = s.streams := rfl
@[simp] theorem State.setUnit_carve (s : State) (u : UnitRec) :
    (s.setUnit u).carve = s.carve := rfl
@[simp] theorem State.setUnit_ports (s : State) (u : UnitRec) :
    (s.setUnit u).ports = s.ports := rfl
@[simp] theorem State.setUnit_access (s : State) (u : UnitRec) :
    (s.setUnit u).access = s.access := rfl
@[simp] theorem State.setUnit_twin (s : State) (u : UnitRec) :
    (s.setUnit u).twin = s.twin := rfl
@[simp] theorem State.setUnit_sec (s : State) (u : UnitRec) :
    (s.setUnit u).sec = s.sec := rfl
@[simp] theorem State.setUnit_mail (s : State) (u : UnitRec) :
    (s.setUnit u).mail = s.mail := rfl
@[simp] theorem State.setUnit_agent (s : State) (u : UnitRec) :
    (s.setUnit u).agent = s.agent := rfl
@[simp] theorem State.setUnit_fabric (s : State) (u : UnitRec) :
    (s.setUnit u).fabric = s.fabric := rfl
@[simp] theorem State.setUnit_power (s : State) (u : UnitRec) :
    (s.setUnit u).power = s.power := rfl
@[simp] theorem State.setUnit_twill (s : State) (u : UnitRec) :
    (s.setUnit u).twill = s.twill := rfl
@[simp] theorem State.setUnit_jacquard (s : State) (u : UnitRec) :
    (s.setUnit u).jacquard = s.jacquard := rfl
@[simp] theorem State.setUnit_calico (s : State) (u : UnitRec) :
    (s.setUnit u).calico = s.calico := rfl
@[simp] theorem State.setUnit_store (s : State) (u : UnitRec) :
    (s.setUnit u).store = s.store := rfl
@[simp] theorem State.setUnit_buckram (s : State) (u : UnitRec) :
    (s.setUnit u).buckram = s.buckram := rfl
@[simp] theorem State.setUnit_drawn (s : State) (u : UnitRec) :
    (s.setUnit u).drawn = s.drawn := rfl
@[simp] theorem State.clearUnit_pending (s : State) (kind : Nat) (idx : Nat) :
    (s.clearUnit kind idx).pending = s.pending := rfl
@[simp] theorem State.clearUnit_host (s : State) (kind : Nat) (idx : Nat) :
    (s.clearUnit kind idx).host = s.host := rfl
@[simp] theorem State.clearUnit_clock (s : State) (kind : Nat) (idx : Nat) :
    (s.clearUnit kind idx).clock = s.clock := rfl
@[simp] theorem State.clearUnit_pins (s : State) (kind : Nat) (idx : Nat) :
    (s.clearUnit kind idx).pins = s.pins := rfl
@[simp] theorem State.clearUnit_up (s : State) (kind : Nat) (idx : Nat) :
    (s.clearUnit kind idx).up = s.up := rfl
@[simp] theorem State.clearUnit_streams (s : State) (kind : Nat) (idx : Nat) :
    (s.clearUnit kind idx).streams = s.streams := rfl
@[simp] theorem State.clearUnit_carve (s : State) (kind : Nat) (idx : Nat) :
    (s.clearUnit kind idx).carve = s.carve := rfl
@[simp] theorem State.clearUnit_ports (s : State) (kind : Nat) (idx : Nat) :
    (s.clearUnit kind idx).ports = s.ports := rfl
@[simp] theorem State.clearUnit_access (s : State) (kind : Nat) (idx : Nat) :
    (s.clearUnit kind idx).access = s.access := rfl
@[simp] theorem State.clearUnit_twin (s : State) (kind : Nat) (idx : Nat) :
    (s.clearUnit kind idx).twin = s.twin := rfl
@[simp] theorem State.clearUnit_sec (s : State) (kind : Nat) (idx : Nat) :
    (s.clearUnit kind idx).sec = s.sec := rfl
@[simp] theorem State.clearUnit_mail (s : State) (kind : Nat) (idx : Nat) :
    (s.clearUnit kind idx).mail = s.mail := rfl
@[simp] theorem State.clearUnit_agent (s : State) (kind : Nat) (idx : Nat) :
    (s.clearUnit kind idx).agent = s.agent := rfl
@[simp] theorem State.clearUnit_fabric (s : State) (kind : Nat) (idx : Nat) :
    (s.clearUnit kind idx).fabric = s.fabric := rfl
@[simp] theorem State.clearUnit_power (s : State) (kind : Nat) (idx : Nat) :
    (s.clearUnit kind idx).power = s.power := rfl
@[simp] theorem State.clearUnit_twill (s : State) (kind : Nat) (idx : Nat) :
    (s.clearUnit kind idx).twill = s.twill := rfl
@[simp] theorem State.clearUnit_jacquard (s : State) (kind : Nat) (idx : Nat) :
    (s.clearUnit kind idx).jacquard = s.jacquard := rfl
@[simp] theorem State.clearUnit_calico (s : State) (kind : Nat) (idx : Nat) :
    (s.clearUnit kind idx).calico = s.calico := rfl
@[simp] theorem State.clearUnit_store (s : State) (kind : Nat) (idx : Nat) :
    (s.clearUnit kind idx).store = s.store := rfl
@[simp] theorem State.clearUnit_buckram (s : State) (kind : Nat) (idx : Nat) :
    (s.clearUnit kind idx).buckram = s.buckram := rfl
@[simp] theorem State.clearUnit_drawn (s : State) (kind : Nat) (idx : Nat) :
    (s.clearUnit kind idx).drawn = s.drawn := rfl
@[simp] theorem State.modRecord_pending (s : State) (i : Nat) (f : EventRec → EventRec) :
    (s.modRecord i f).pending = s.pending := rfl
@[simp] theorem State.modRecord_host (s : State) (i : Nat) (f : EventRec → EventRec) :
    (s.modRecord i f).host = s.host := rfl
@[simp] theorem State.modRecord_clock (s : State) (i : Nat) (f : EventRec → EventRec) :
    (s.modRecord i f).clock = s.clock := rfl
@[simp] theorem State.modRecord_pins (s : State) (i : Nat) (f : EventRec → EventRec) :
    (s.modRecord i f).pins = s.pins := rfl
@[simp] theorem State.modRecord_up (s : State) (i : Nat) (f : EventRec → EventRec) :
    (s.modRecord i f).up = s.up := rfl
@[simp] theorem State.modRecord_streams (s : State) (i : Nat) (f : EventRec → EventRec) :
    (s.modRecord i f).streams = s.streams := rfl
@[simp] theorem State.modRecord_carve (s : State) (i : Nat) (f : EventRec → EventRec) :
    (s.modRecord i f).carve = s.carve := rfl
@[simp] theorem State.modRecord_ports (s : State) (i : Nat) (f : EventRec → EventRec) :
    (s.modRecord i f).ports = s.ports := rfl
@[simp] theorem State.modRecord_access (s : State) (i : Nat) (f : EventRec → EventRec) :
    (s.modRecord i f).access = s.access := rfl
@[simp] theorem State.modRecord_twin (s : State) (i : Nat) (f : EventRec → EventRec) :
    (s.modRecord i f).twin = s.twin := rfl
@[simp] theorem State.modRecord_sec (s : State) (i : Nat) (f : EventRec → EventRec) :
    (s.modRecord i f).sec = s.sec := rfl
@[simp] theorem State.modRecord_mail (s : State) (i : Nat) (f : EventRec → EventRec) :
    (s.modRecord i f).mail = s.mail := rfl
@[simp] theorem State.modRecord_agent (s : State) (i : Nat) (f : EventRec → EventRec) :
    (s.modRecord i f).agent = s.agent := rfl
@[simp] theorem State.modRecord_fabric (s : State) (i : Nat) (f : EventRec → EventRec) :
    (s.modRecord i f).fabric = s.fabric := rfl
@[simp] theorem State.modRecord_power (s : State) (i : Nat) (f : EventRec → EventRec) :
    (s.modRecord i f).power = s.power := rfl
@[simp] theorem State.modRecord_twill (s : State) (i : Nat) (f : EventRec → EventRec) :
    (s.modRecord i f).twill = s.twill := rfl
@[simp] theorem State.modRecord_jacquard (s : State) (i : Nat) (f : EventRec → EventRec) :
    (s.modRecord i f).jacquard = s.jacquard := rfl
@[simp] theorem State.modRecord_calico (s : State) (i : Nat) (f : EventRec → EventRec) :
    (s.modRecord i f).calico = s.calico := rfl
@[simp] theorem State.modRecord_store (s : State) (i : Nat) (f : EventRec → EventRec) :
    (s.modRecord i f).store = s.store := rfl
@[simp] theorem State.modRecord_buckram (s : State) (i : Nat) (f : EventRec → EventRec) :
    (s.modRecord i f).buckram = s.buckram := rfl
@[simp] theorem State.modRecord_drawn (s : State) (i : Nat) (f : EventRec → EventRec) :
    (s.modRecord i f).drawn = s.drawn := rfl
@[simp] theorem State.modCmd_pending (s : State) (id : Nat) (f : Cmd → Cmd) :
    (s.modCmd id f).pending = s.pending := rfl
@[simp] theorem State.modCmd_clock (s : State) (id : Nat) (f : Cmd → Cmd) :
    (s.modCmd id f).clock = s.clock := rfl
@[simp] theorem State.modCmd_faults (s : State) (id : Nat) (f : Cmd → Cmd) :
    (s.modCmd id f).faults = s.faults := rfl
@[simp] theorem State.modCmd_pins (s : State) (id : Nat) (f : Cmd → Cmd) :
    (s.modCmd id f).pins = s.pins := rfl
@[simp] theorem State.modCmd_up (s : State) (id : Nat) (f : Cmd → Cmd) :
    (s.modCmd id f).up = s.up := rfl
@[simp] theorem State.modCmd_streams (s : State) (id : Nat) (f : Cmd → Cmd) :
    (s.modCmd id f).streams = s.streams := rfl
@[simp] theorem State.modCmd_carve (s : State) (id : Nat) (f : Cmd → Cmd) :
    (s.modCmd id f).carve = s.carve := rfl
@[simp] theorem State.modCmd_ports (s : State) (id : Nat) (f : Cmd → Cmd) :
    (s.modCmd id f).ports = s.ports := rfl
@[simp] theorem State.modCmd_access (s : State) (id : Nat) (f : Cmd → Cmd) :
    (s.modCmd id f).access = s.access := rfl
@[simp] theorem State.modCmd_twin (s : State) (id : Nat) (f : Cmd → Cmd) :
    (s.modCmd id f).twin = s.twin := rfl
@[simp] theorem State.modCmd_sec (s : State) (id : Nat) (f : Cmd → Cmd) :
    (s.modCmd id f).sec = s.sec := rfl
@[simp] theorem State.modCmd_mail (s : State) (id : Nat) (f : Cmd → Cmd) :
    (s.modCmd id f).mail = s.mail := rfl
@[simp] theorem State.modCmd_agent (s : State) (id : Nat) (f : Cmd → Cmd) :
    (s.modCmd id f).agent = s.agent := rfl
@[simp] theorem State.modCmd_fabric (s : State) (id : Nat) (f : Cmd → Cmd) :
    (s.modCmd id f).fabric = s.fabric := rfl
@[simp] theorem State.modCmd_power (s : State) (id : Nat) (f : Cmd → Cmd) :
    (s.modCmd id f).power = s.power := rfl
@[simp] theorem State.modCmd_twill (s : State) (id : Nat) (f : Cmd → Cmd) :
    (s.modCmd id f).twill = s.twill := rfl
@[simp] theorem State.modCmd_jacquard (s : State) (id : Nat) (f : Cmd → Cmd) :
    (s.modCmd id f).jacquard = s.jacquard := rfl
@[simp] theorem State.modCmd_calico (s : State) (id : Nat) (f : Cmd → Cmd) :
    (s.modCmd id f).calico = s.calico := rfl
@[simp] theorem State.modCmd_store (s : State) (id : Nat) (f : Cmd → Cmd) :
    (s.modCmd id f).store = s.store := rfl
@[simp] theorem State.modCmd_buckram (s : State) (id : Nat) (f : Cmd → Cmd) :
    (s.modCmd id f).buckram = s.buckram := rfl
@[simp] theorem State.modCmd_drawn (s : State) (id : Nat) (f : Cmd → Cmd) :
    (s.modCmd id f).drawn = s.drawn := rfl
@[simp] theorem State.settle_pending (s : State) :
    (s.settle).pending = s.pending := rfl
@[simp] theorem State.settle_host (s : State) :
    (s.settle).host = s.host := rfl
@[simp] theorem State.settle_clock (s : State) :
    (s.settle).clock = s.clock := rfl
@[simp] theorem State.settle_faults (s : State) :
    (s.settle).faults = s.faults := rfl
@[simp] theorem State.settle_up (s : State) :
    (s.settle).up = s.up := rfl
@[simp] theorem State.settle_streams (s : State) :
    (s.settle).streams = s.streams := rfl
@[simp] theorem State.settle_carve (s : State) :
    (s.settle).carve = s.carve := rfl
@[simp] theorem State.settle_ports (s : State) :
    (s.settle).ports = s.ports := rfl
@[simp] theorem State.settle_access (s : State) :
    (s.settle).access = s.access := rfl
@[simp] theorem State.settle_twin (s : State) :
    (s.settle).twin = s.twin := rfl
@[simp] theorem State.settle_sec (s : State) :
    (s.settle).sec = s.sec := rfl
@[simp] theorem State.settle_mail (s : State) :
    (s.settle).mail = s.mail := rfl
@[simp] theorem State.settle_agent (s : State) :
    (s.settle).agent = s.agent := rfl
@[simp] theorem State.settle_fabric (s : State) :
    (s.settle).fabric = s.fabric := rfl
@[simp] theorem State.settle_power (s : State) :
    (s.settle).power = s.power := rfl
@[simp] theorem State.settle_twill (s : State) :
    (s.settle).twill = s.twill := rfl
@[simp] theorem State.settle_jacquard (s : State) :
    (s.settle).jacquard = s.jacquard := rfl
@[simp] theorem State.settle_calico (s : State) :
    (s.settle).calico = s.calico := rfl
@[simp] theorem State.settle_store (s : State) :
    (s.settle).store = s.store := rfl
@[simp] theorem State.settle_buckram (s : State) :
    (s.settle).buckram = s.buckram := rfl
@[simp] theorem State.settle_drawn (s : State) :
    (s.settle).drawn = s.drawn := rfl
@[simp] theorem State.putAgentShard_pending (s : State) (x : MemberShard) :
    (s.putAgentShard x).pending = s.pending := rfl
@[simp] theorem State.putAgentShard_host (s : State) (x : MemberShard) :
    (s.putAgentShard x).host = s.host := rfl
@[simp] theorem State.putAgentShard_clock (s : State) (x : MemberShard) :
    (s.putAgentShard x).clock = s.clock := rfl
@[simp] theorem State.putAgentShard_faults (s : State) (x : MemberShard) :
    (s.putAgentShard x).faults = s.faults := rfl
@[simp] theorem State.putAgentShard_pins (s : State) (x : MemberShard) :
    (s.putAgentShard x).pins = s.pins := rfl
@[simp] theorem State.putAgentShard_up (s : State) (x : MemberShard) :
    (s.putAgentShard x).up = s.up := rfl
@[simp] theorem State.putAgentShard_streams (s : State) (x : MemberShard) :
    (s.putAgentShard x).streams = s.streams := rfl
@[simp] theorem State.putAgentShard_carve (s : State) (x : MemberShard) :
    (s.putAgentShard x).carve = s.carve := rfl
@[simp] theorem State.putAgentShard_ports (s : State) (x : MemberShard) :
    (s.putAgentShard x).ports = s.ports := rfl
@[simp] theorem State.putAgentShard_access (s : State) (x : MemberShard) :
    (s.putAgentShard x).access = s.access := rfl
@[simp] theorem State.putAgentShard_twin (s : State) (x : MemberShard) :
    (s.putAgentShard x).twin = s.twin := rfl
@[simp] theorem State.putAgentShard_sec (s : State) (x : MemberShard) :
    (s.putAgentShard x).sec = s.sec := rfl
@[simp] theorem State.putAgentShard_mail (s : State) (x : MemberShard) :
    (s.putAgentShard x).mail = s.mail := rfl
@[simp] theorem State.putAgentShard_fabric (s : State) (x : MemberShard) :
    (s.putAgentShard x).fabric = s.fabric := rfl
@[simp] theorem State.putAgentShard_power (s : State) (x : MemberShard) :
    (s.putAgentShard x).power = s.power := rfl
@[simp] theorem State.putAgentShard_twill (s : State) (x : MemberShard) :
    (s.putAgentShard x).twill = s.twill := rfl
@[simp] theorem State.putAgentShard_jacquard (s : State) (x : MemberShard) :
    (s.putAgentShard x).jacquard = s.jacquard := rfl
@[simp] theorem State.putAgentShard_calico (s : State) (x : MemberShard) :
    (s.putAgentShard x).calico = s.calico := rfl
@[simp] theorem State.putAgentShard_store (s : State) (x : MemberShard) :
    (s.putAgentShard x).store = s.store := rfl
@[simp] theorem State.putAgentShard_buckram (s : State) (x : MemberShard) :
    (s.putAgentShard x).buckram = s.buckram := rfl
@[simp] theorem State.putAgentShard_drawn (s : State) (x : MemberShard) :
    (s.putAgentShard x).drawn = s.drawn := rfl
@[simp] theorem State.modStore_pending (s : State) (f : Store → Store) :
    (s.modStore f).pending = s.pending := rfl
@[simp] theorem State.modStore_host (s : State) (f : Store → Store) :
    (s.modStore f).host = s.host := rfl
@[simp] theorem State.modStore_clock (s : State) (f : Store → Store) :
    (s.modStore f).clock = s.clock := rfl
@[simp] theorem State.modStore_faults (s : State) (f : Store → Store) :
    (s.modStore f).faults = s.faults := rfl
@[simp] theorem State.modStore_pins (s : State) (f : Store → Store) :
    (s.modStore f).pins = s.pins := rfl
@[simp] theorem State.modStore_up (s : State) (f : Store → Store) :
    (s.modStore f).up = s.up := rfl
@[simp] theorem State.modStore_streams (s : State) (f : Store → Store) :
    (s.modStore f).streams = s.streams := rfl
@[simp] theorem State.modStore_carve (s : State) (f : Store → Store) :
    (s.modStore f).carve = s.carve := rfl
@[simp] theorem State.modStore_ports (s : State) (f : Store → Store) :
    (s.modStore f).ports = s.ports := rfl
@[simp] theorem State.modStore_access (s : State) (f : Store → Store) :
    (s.modStore f).access = s.access := rfl
@[simp] theorem State.modStore_twin (s : State) (f : Store → Store) :
    (s.modStore f).twin = s.twin := rfl
@[simp] theorem State.modStore_sec (s : State) (f : Store → Store) :
    (s.modStore f).sec = s.sec := rfl
@[simp] theorem State.modStore_mail (s : State) (f : Store → Store) :
    (s.modStore f).mail = s.mail := rfl
@[simp] theorem State.modStore_agent (s : State) (f : Store → Store) :
    (s.modStore f).agent = s.agent := rfl
@[simp] theorem State.modStore_fabric (s : State) (f : Store → Store) :
    (s.modStore f).fabric = s.fabric := rfl
@[simp] theorem State.modStore_power (s : State) (f : Store → Store) :
    (s.modStore f).power = s.power := rfl
@[simp] theorem State.modStore_twill (s : State) (f : Store → Store) :
    (s.modStore f).twill = s.twill := rfl
@[simp] theorem State.modStore_jacquard (s : State) (f : Store → Store) :
    (s.modStore f).jacquard = s.jacquard := rfl
@[simp] theorem State.modStore_calico (s : State) (f : Store → Store) :
    (s.modStore f).calico = s.calico := rfl
@[simp] theorem State.modStore_buckram (s : State) (f : Store → Store) :
    (s.modStore f).buckram = s.buckram := rfl
@[simp] theorem State.modStore_drawn (s : State) (f : Store → Store) :
    (s.modStore f).drawn = s.drawn := rfl
@[simp] theorem State.modGen_pending (s : State) (job : Nat) (gen : Nat) (f : StoreSlot → StoreSlot) :
    (s.modGen job gen f).pending = s.pending := rfl
@[simp] theorem State.modGen_host (s : State) (job : Nat) (gen : Nat) (f : StoreSlot → StoreSlot) :
    (s.modGen job gen f).host = s.host := rfl
@[simp] theorem State.modGen_clock (s : State) (job : Nat) (gen : Nat) (f : StoreSlot → StoreSlot) :
    (s.modGen job gen f).clock = s.clock := rfl
@[simp] theorem State.modGen_faults (s : State) (job : Nat) (gen : Nat) (f : StoreSlot → StoreSlot) :
    (s.modGen job gen f).faults = s.faults := rfl
@[simp] theorem State.modGen_pins (s : State) (job : Nat) (gen : Nat) (f : StoreSlot → StoreSlot) :
    (s.modGen job gen f).pins = s.pins := rfl
@[simp] theorem State.modGen_up (s : State) (job : Nat) (gen : Nat) (f : StoreSlot → StoreSlot) :
    (s.modGen job gen f).up = s.up := rfl
@[simp] theorem State.modGen_streams (s : State) (job : Nat) (gen : Nat) (f : StoreSlot → StoreSlot) :
    (s.modGen job gen f).streams = s.streams := rfl
@[simp] theorem State.modGen_carve (s : State) (job : Nat) (gen : Nat) (f : StoreSlot → StoreSlot) :
    (s.modGen job gen f).carve = s.carve := rfl
@[simp] theorem State.modGen_ports (s : State) (job : Nat) (gen : Nat) (f : StoreSlot → StoreSlot) :
    (s.modGen job gen f).ports = s.ports := rfl
@[simp] theorem State.modGen_access (s : State) (job : Nat) (gen : Nat) (f : StoreSlot → StoreSlot) :
    (s.modGen job gen f).access = s.access := rfl
@[simp] theorem State.modGen_twin (s : State) (job : Nat) (gen : Nat) (f : StoreSlot → StoreSlot) :
    (s.modGen job gen f).twin = s.twin := rfl
@[simp] theorem State.modGen_sec (s : State) (job : Nat) (gen : Nat) (f : StoreSlot → StoreSlot) :
    (s.modGen job gen f).sec = s.sec := rfl
@[simp] theorem State.modGen_mail (s : State) (job : Nat) (gen : Nat) (f : StoreSlot → StoreSlot) :
    (s.modGen job gen f).mail = s.mail := rfl
@[simp] theorem State.modGen_agent (s : State) (job : Nat) (gen : Nat) (f : StoreSlot → StoreSlot) :
    (s.modGen job gen f).agent = s.agent := rfl
@[simp] theorem State.modGen_fabric (s : State) (job : Nat) (gen : Nat) (f : StoreSlot → StoreSlot) :
    (s.modGen job gen f).fabric = s.fabric := rfl
@[simp] theorem State.modGen_power (s : State) (job : Nat) (gen : Nat) (f : StoreSlot → StoreSlot) :
    (s.modGen job gen f).power = s.power := rfl
@[simp] theorem State.modGen_twill (s : State) (job : Nat) (gen : Nat) (f : StoreSlot → StoreSlot) :
    (s.modGen job gen f).twill = s.twill := rfl
@[simp] theorem State.modGen_jacquard (s : State) (job : Nat) (gen : Nat) (f : StoreSlot → StoreSlot) :
    (s.modGen job gen f).jacquard = s.jacquard := rfl
@[simp] theorem State.modGen_calico (s : State) (job : Nat) (gen : Nat) (f : StoreSlot → StoreSlot) :
    (s.modGen job gen f).calico = s.calico := rfl
@[simp] theorem State.modGen_buckram (s : State) (job : Nat) (gen : Nat) (f : StoreSlot → StoreSlot) :
    (s.modGen job gen f).buckram = s.buckram := rfl
@[simp] theorem State.modGen_drawn (s : State) (job : Nat) (gen : Nat) (f : StoreSlot → StoreSlot) :
    (s.modGen job gen f).drawn = s.drawn := rfl
@[simp] theorem State.modShard_pending (s : State) (job : Nat) (gen : Nat) (owner : Nat) (f : StoreShard → StoreShard) :
    (s.modShard job gen owner f).pending = s.pending := rfl
@[simp] theorem State.modShard_host (s : State) (job : Nat) (gen : Nat) (owner : Nat) (f : StoreShard → StoreShard) :
    (s.modShard job gen owner f).host = s.host := rfl
@[simp] theorem State.modShard_clock (s : State) (job : Nat) (gen : Nat) (owner : Nat) (f : StoreShard → StoreShard) :
    (s.modShard job gen owner f).clock = s.clock := rfl
@[simp] theorem State.modShard_faults (s : State) (job : Nat) (gen : Nat) (owner : Nat) (f : StoreShard → StoreShard) :
    (s.modShard job gen owner f).faults = s.faults := rfl
@[simp] theorem State.modShard_pins (s : State) (job : Nat) (gen : Nat) (owner : Nat) (f : StoreShard → StoreShard) :
    (s.modShard job gen owner f).pins = s.pins := rfl
@[simp] theorem State.modShard_up (s : State) (job : Nat) (gen : Nat) (owner : Nat) (f : StoreShard → StoreShard) :
    (s.modShard job gen owner f).up = s.up := rfl
@[simp] theorem State.modShard_streams (s : State) (job : Nat) (gen : Nat) (owner : Nat) (f : StoreShard → StoreShard) :
    (s.modShard job gen owner f).streams = s.streams := rfl
@[simp] theorem State.modShard_carve (s : State) (job : Nat) (gen : Nat) (owner : Nat) (f : StoreShard → StoreShard) :
    (s.modShard job gen owner f).carve = s.carve := rfl
@[simp] theorem State.modShard_ports (s : State) (job : Nat) (gen : Nat) (owner : Nat) (f : StoreShard → StoreShard) :
    (s.modShard job gen owner f).ports = s.ports := rfl
@[simp] theorem State.modShard_access (s : State) (job : Nat) (gen : Nat) (owner : Nat) (f : StoreShard → StoreShard) :
    (s.modShard job gen owner f).access = s.access := rfl
@[simp] theorem State.modShard_twin (s : State) (job : Nat) (gen : Nat) (owner : Nat) (f : StoreShard → StoreShard) :
    (s.modShard job gen owner f).twin = s.twin := rfl
@[simp] theorem State.modShard_sec (s : State) (job : Nat) (gen : Nat) (owner : Nat) (f : StoreShard → StoreShard) :
    (s.modShard job gen owner f).sec = s.sec := rfl
@[simp] theorem State.modShard_mail (s : State) (job : Nat) (gen : Nat) (owner : Nat) (f : StoreShard → StoreShard) :
    (s.modShard job gen owner f).mail = s.mail := rfl
@[simp] theorem State.modShard_agent (s : State) (job : Nat) (gen : Nat) (owner : Nat) (f : StoreShard → StoreShard) :
    (s.modShard job gen owner f).agent = s.agent := rfl
@[simp] theorem State.modShard_fabric (s : State) (job : Nat) (gen : Nat) (owner : Nat) (f : StoreShard → StoreShard) :
    (s.modShard job gen owner f).fabric = s.fabric := rfl
@[simp] theorem State.modShard_power (s : State) (job : Nat) (gen : Nat) (owner : Nat) (f : StoreShard → StoreShard) :
    (s.modShard job gen owner f).power = s.power := rfl
@[simp] theorem State.modShard_twill (s : State) (job : Nat) (gen : Nat) (owner : Nat) (f : StoreShard → StoreShard) :
    (s.modShard job gen owner f).twill = s.twill := rfl
@[simp] theorem State.modShard_jacquard (s : State) (job : Nat) (gen : Nat) (owner : Nat) (f : StoreShard → StoreShard) :
    (s.modShard job gen owner f).jacquard = s.jacquard := rfl
@[simp] theorem State.modShard_calico (s : State) (job : Nat) (gen : Nat) (owner : Nat) (f : StoreShard → StoreShard) :
    (s.modShard job gen owner f).calico = s.calico := rfl
@[simp] theorem State.modShard_buckram (s : State) (job : Nat) (gen : Nat) (owner : Nat) (f : StoreShard → StoreShard) :
    (s.modShard job gen owner f).buckram = s.buckram := rfl
@[simp] theorem State.modShard_drawn (s : State) (job : Nat) (gen : Nat) (owner : Nat) (f : StoreShard → StoreShard) :
    (s.modShard job gen owner f).drawn = s.drawn := rfl
@[simp] theorem State.modTrack_pending (s : State) (job : Nat) (gen : Nat) (f : GenTrack → GenTrack) :
    (s.modTrack job gen f).pending = s.pending := rfl
@[simp] theorem State.modTrack_host (s : State) (job : Nat) (gen : Nat) (f : GenTrack → GenTrack) :
    (s.modTrack job gen f).host = s.host := rfl
@[simp] theorem State.modTrack_clock (s : State) (job : Nat) (gen : Nat) (f : GenTrack → GenTrack) :
    (s.modTrack job gen f).clock = s.clock := rfl
@[simp] theorem State.modTrack_faults (s : State) (job : Nat) (gen : Nat) (f : GenTrack → GenTrack) :
    (s.modTrack job gen f).faults = s.faults := rfl
@[simp] theorem State.modTrack_pins (s : State) (job : Nat) (gen : Nat) (f : GenTrack → GenTrack) :
    (s.modTrack job gen f).pins = s.pins := rfl
@[simp] theorem State.modTrack_up (s : State) (job : Nat) (gen : Nat) (f : GenTrack → GenTrack) :
    (s.modTrack job gen f).up = s.up := rfl
@[simp] theorem State.modTrack_streams (s : State) (job : Nat) (gen : Nat) (f : GenTrack → GenTrack) :
    (s.modTrack job gen f).streams = s.streams := rfl
@[simp] theorem State.modTrack_carve (s : State) (job : Nat) (gen : Nat) (f : GenTrack → GenTrack) :
    (s.modTrack job gen f).carve = s.carve := rfl
@[simp] theorem State.modTrack_ports (s : State) (job : Nat) (gen : Nat) (f : GenTrack → GenTrack) :
    (s.modTrack job gen f).ports = s.ports := rfl
@[simp] theorem State.modTrack_access (s : State) (job : Nat) (gen : Nat) (f : GenTrack → GenTrack) :
    (s.modTrack job gen f).access = s.access := rfl
@[simp] theorem State.modTrack_twin (s : State) (job : Nat) (gen : Nat) (f : GenTrack → GenTrack) :
    (s.modTrack job gen f).twin = s.twin := rfl
@[simp] theorem State.modTrack_sec (s : State) (job : Nat) (gen : Nat) (f : GenTrack → GenTrack) :
    (s.modTrack job gen f).sec = s.sec := rfl
@[simp] theorem State.modTrack_mail (s : State) (job : Nat) (gen : Nat) (f : GenTrack → GenTrack) :
    (s.modTrack job gen f).mail = s.mail := rfl
@[simp] theorem State.modTrack_agent (s : State) (job : Nat) (gen : Nat) (f : GenTrack → GenTrack) :
    (s.modTrack job gen f).agent = s.agent := rfl
@[simp] theorem State.modTrack_fabric (s : State) (job : Nat) (gen : Nat) (f : GenTrack → GenTrack) :
    (s.modTrack job gen f).fabric = s.fabric := rfl
@[simp] theorem State.modTrack_power (s : State) (job : Nat) (gen : Nat) (f : GenTrack → GenTrack) :
    (s.modTrack job gen f).power = s.power := rfl
@[simp] theorem State.modTrack_twill (s : State) (job : Nat) (gen : Nat) (f : GenTrack → GenTrack) :
    (s.modTrack job gen f).twill = s.twill := rfl
@[simp] theorem State.modTrack_jacquard (s : State) (job : Nat) (gen : Nat) (f : GenTrack → GenTrack) :
    (s.modTrack job gen f).jacquard = s.jacquard := rfl
@[simp] theorem State.modTrack_calico (s : State) (job : Nat) (gen : Nat) (f : GenTrack → GenTrack) :
    (s.modTrack job gen f).calico = s.calico := rfl
@[simp] theorem State.modTrack_buckram (s : State) (job : Nat) (gen : Nat) (f : GenTrack → GenTrack) :
    (s.modTrack job gen f).buckram = s.buckram := rfl
@[simp] theorem State.modTrack_drawn (s : State) (job : Nat) (gen : Nat) (f : GenTrack → GenTrack) :
    (s.modTrack job gen f).drawn = s.drawn := rfl
@[simp] theorem State.modSec_pending (s : State) (f : Sec → Sec) :
    (s.modSec f).pending = s.pending := rfl
@[simp] theorem State.modSec_host (s : State) (f : Sec → Sec) :
    (s.modSec f).host = s.host := rfl
@[simp] theorem State.modSec_clock (s : State) (f : Sec → Sec) :
    (s.modSec f).clock = s.clock := rfl
@[simp] theorem State.modSec_faults (s : State) (f : Sec → Sec) :
    (s.modSec f).faults = s.faults := rfl
@[simp] theorem State.modSec_pins (s : State) (f : Sec → Sec) :
    (s.modSec f).pins = s.pins := rfl
@[simp] theorem State.modSec_up (s : State) (f : Sec → Sec) :
    (s.modSec f).up = s.up := rfl
@[simp] theorem State.modSec_streams (s : State) (f : Sec → Sec) :
    (s.modSec f).streams = s.streams := rfl
@[simp] theorem State.modSec_carve (s : State) (f : Sec → Sec) :
    (s.modSec f).carve = s.carve := rfl
@[simp] theorem State.modSec_ports (s : State) (f : Sec → Sec) :
    (s.modSec f).ports = s.ports := rfl
@[simp] theorem State.modSec_access (s : State) (f : Sec → Sec) :
    (s.modSec f).access = s.access := rfl
@[simp] theorem State.modSec_twin (s : State) (f : Sec → Sec) :
    (s.modSec f).twin = s.twin := rfl
@[simp] theorem State.modSec_mail (s : State) (f : Sec → Sec) :
    (s.modSec f).mail = s.mail := rfl
@[simp] theorem State.modSec_agent (s : State) (f : Sec → Sec) :
    (s.modSec f).agent = s.agent := rfl
@[simp] theorem State.modSec_fabric (s : State) (f : Sec → Sec) :
    (s.modSec f).fabric = s.fabric := rfl
@[simp] theorem State.modSec_power (s : State) (f : Sec → Sec) :
    (s.modSec f).power = s.power := rfl
@[simp] theorem State.modSec_twill (s : State) (f : Sec → Sec) :
    (s.modSec f).twill = s.twill := rfl
@[simp] theorem State.modSec_jacquard (s : State) (f : Sec → Sec) :
    (s.modSec f).jacquard = s.jacquard := rfl
@[simp] theorem State.modSec_calico (s : State) (f : Sec → Sec) :
    (s.modSec f).calico = s.calico := rfl
@[simp] theorem State.modSec_store (s : State) (f : Sec → Sec) :
    (s.modSec f).store = s.store := rfl
@[simp] theorem State.modSec_buckram (s : State) (f : Sec → Sec) :
    (s.modSec f).buckram = s.buckram := rfl
@[simp] theorem State.modSec_drawn (s : State) (f : Sec → Sec) :
    (s.modSec f).drawn = s.drawn := rfl
@[simp] theorem State.setPolicy_pending (s : State) (f : Policy → Policy) :
    (s.setPolicy f).pending = s.pending := rfl
@[simp] theorem State.setPolicy_host (s : State) (f : Policy → Policy) :
    (s.setPolicy f).host = s.host := rfl
@[simp] theorem State.setPolicy_clock (s : State) (f : Policy → Policy) :
    (s.setPolicy f).clock = s.clock := rfl
@[simp] theorem State.setPolicy_faults (s : State) (f : Policy → Policy) :
    (s.setPolicy f).faults = s.faults := rfl
@[simp] theorem State.setPolicy_pins (s : State) (f : Policy → Policy) :
    (s.setPolicy f).pins = s.pins := rfl
@[simp] theorem State.setPolicy_up (s : State) (f : Policy → Policy) :
    (s.setPolicy f).up = s.up := rfl
@[simp] theorem State.setPolicy_streams (s : State) (f : Policy → Policy) :
    (s.setPolicy f).streams = s.streams := rfl
@[simp] theorem State.setPolicy_carve (s : State) (f : Policy → Policy) :
    (s.setPolicy f).carve = s.carve := rfl
@[simp] theorem State.setPolicy_ports (s : State) (f : Policy → Policy) :
    (s.setPolicy f).ports = s.ports := rfl
@[simp] theorem State.setPolicy_access (s : State) (f : Policy → Policy) :
    (s.setPolicy f).access = s.access := rfl
@[simp] theorem State.setPolicy_twin (s : State) (f : Policy → Policy) :
    (s.setPolicy f).twin = s.twin := rfl
@[simp] theorem State.setPolicy_mail (s : State) (f : Policy → Policy) :
    (s.setPolicy f).mail = s.mail := rfl
@[simp] theorem State.setPolicy_agent (s : State) (f : Policy → Policy) :
    (s.setPolicy f).agent = s.agent := rfl
@[simp] theorem State.setPolicy_fabric (s : State) (f : Policy → Policy) :
    (s.setPolicy f).fabric = s.fabric := rfl
@[simp] theorem State.setPolicy_power (s : State) (f : Policy → Policy) :
    (s.setPolicy f).power = s.power := rfl
@[simp] theorem State.setPolicy_twill (s : State) (f : Policy → Policy) :
    (s.setPolicy f).twill = s.twill := rfl
@[simp] theorem State.setPolicy_jacquard (s : State) (f : Policy → Policy) :
    (s.setPolicy f).jacquard = s.jacquard := rfl
@[simp] theorem State.setPolicy_calico (s : State) (f : Policy → Policy) :
    (s.setPolicy f).calico = s.calico := rfl
@[simp] theorem State.setPolicy_store (s : State) (f : Policy → Policy) :
    (s.setPolicy f).store = s.store := rfl
@[simp] theorem State.setPolicy_buckram (s : State) (f : Policy → Policy) :
    (s.setPolicy f).buckram = s.buckram := rfl
@[simp] theorem State.setPolicy_drawn (s : State) (f : Policy → Policy) :
    (s.setPolicy f).drawn = s.drawn := rfl
@[simp] theorem State.modPeer_pending (s : State) (addr : Nat) (f : Peer → Peer) :
    (s.modPeer addr f).pending = s.pending := rfl
@[simp] theorem State.modPeer_host (s : State) (addr : Nat) (f : Peer → Peer) :
    (s.modPeer addr f).host = s.host := rfl
@[simp] theorem State.modPeer_clock (s : State) (addr : Nat) (f : Peer → Peer) :
    (s.modPeer addr f).clock = s.clock := rfl
@[simp] theorem State.modPeer_faults (s : State) (addr : Nat) (f : Peer → Peer) :
    (s.modPeer addr f).faults = s.faults := rfl
@[simp] theorem State.modPeer_pins (s : State) (addr : Nat) (f : Peer → Peer) :
    (s.modPeer addr f).pins = s.pins := rfl
@[simp] theorem State.modPeer_up (s : State) (addr : Nat) (f : Peer → Peer) :
    (s.modPeer addr f).up = s.up := rfl
@[simp] theorem State.modPeer_streams (s : State) (addr : Nat) (f : Peer → Peer) :
    (s.modPeer addr f).streams = s.streams := rfl
@[simp] theorem State.modPeer_carve (s : State) (addr : Nat) (f : Peer → Peer) :
    (s.modPeer addr f).carve = s.carve := rfl
@[simp] theorem State.modPeer_ports (s : State) (addr : Nat) (f : Peer → Peer) :
    (s.modPeer addr f).ports = s.ports := rfl
@[simp] theorem State.modPeer_access (s : State) (addr : Nat) (f : Peer → Peer) :
    (s.modPeer addr f).access = s.access := rfl
@[simp] theorem State.modPeer_sec (s : State) (addr : Nat) (f : Peer → Peer) :
    (s.modPeer addr f).sec = s.sec := rfl
@[simp] theorem State.modPeer_mail (s : State) (addr : Nat) (f : Peer → Peer) :
    (s.modPeer addr f).mail = s.mail := rfl
@[simp] theorem State.modPeer_agent (s : State) (addr : Nat) (f : Peer → Peer) :
    (s.modPeer addr f).agent = s.agent := rfl
@[simp] theorem State.modPeer_fabric (s : State) (addr : Nat) (f : Peer → Peer) :
    (s.modPeer addr f).fabric = s.fabric := rfl
@[simp] theorem State.modPeer_power (s : State) (addr : Nat) (f : Peer → Peer) :
    (s.modPeer addr f).power = s.power := rfl
@[simp] theorem State.modPeer_twill (s : State) (addr : Nat) (f : Peer → Peer) :
    (s.modPeer addr f).twill = s.twill := rfl
@[simp] theorem State.modPeer_jacquard (s : State) (addr : Nat) (f : Peer → Peer) :
    (s.modPeer addr f).jacquard = s.jacquard := rfl
@[simp] theorem State.modPeer_calico (s : State) (addr : Nat) (f : Peer → Peer) :
    (s.modPeer addr f).calico = s.calico := rfl
@[simp] theorem State.modPeer_store (s : State) (addr : Nat) (f : Peer → Peer) :
    (s.modPeer addr f).store = s.store := rfl
@[simp] theorem State.modPeer_buckram (s : State) (addr : Nat) (f : Peer → Peer) :
    (s.modPeer addr f).buckram = s.buckram := rfl
@[simp] theorem State.modPeer_drawn (s : State) (addr : Nat) (f : Peer → Peer) :
    (s.modPeer addr f).drawn = s.drawn := rfl
@[simp] theorem State.modRotation_pending (s : State) (job : Nat) (kind : Nat) (f : Rotation → Rotation) :
    (s.modRotation job kind f).pending = s.pending := rfl
@[simp] theorem State.modRotation_host (s : State) (job : Nat) (kind : Nat) (f : Rotation → Rotation) :
    (s.modRotation job kind f).host = s.host := rfl
@[simp] theorem State.modRotation_clock (s : State) (job : Nat) (kind : Nat) (f : Rotation → Rotation) :
    (s.modRotation job kind f).clock = s.clock := rfl
@[simp] theorem State.modRotation_faults (s : State) (job : Nat) (kind : Nat) (f : Rotation → Rotation) :
    (s.modRotation job kind f).faults = s.faults := rfl
@[simp] theorem State.modRotation_pins (s : State) (job : Nat) (kind : Nat) (f : Rotation → Rotation) :
    (s.modRotation job kind f).pins = s.pins := rfl
@[simp] theorem State.modRotation_up (s : State) (job : Nat) (kind : Nat) (f : Rotation → Rotation) :
    (s.modRotation job kind f).up = s.up := rfl
@[simp] theorem State.modRotation_streams (s : State) (job : Nat) (kind : Nat) (f : Rotation → Rotation) :
    (s.modRotation job kind f).streams = s.streams := rfl
@[simp] theorem State.modRotation_carve (s : State) (job : Nat) (kind : Nat) (f : Rotation → Rotation) :
    (s.modRotation job kind f).carve = s.carve := rfl
@[simp] theorem State.modRotation_ports (s : State) (job : Nat) (kind : Nat) (f : Rotation → Rotation) :
    (s.modRotation job kind f).ports = s.ports := rfl
@[simp] theorem State.modRotation_access (s : State) (job : Nat) (kind : Nat) (f : Rotation → Rotation) :
    (s.modRotation job kind f).access = s.access := rfl
@[simp] theorem State.modRotation_twin (s : State) (job : Nat) (kind : Nat) (f : Rotation → Rotation) :
    (s.modRotation job kind f).twin = s.twin := rfl
@[simp] theorem State.modRotation_mail (s : State) (job : Nat) (kind : Nat) (f : Rotation → Rotation) :
    (s.modRotation job kind f).mail = s.mail := rfl
@[simp] theorem State.modRotation_agent (s : State) (job : Nat) (kind : Nat) (f : Rotation → Rotation) :
    (s.modRotation job kind f).agent = s.agent := rfl
@[simp] theorem State.modRotation_fabric (s : State) (job : Nat) (kind : Nat) (f : Rotation → Rotation) :
    (s.modRotation job kind f).fabric = s.fabric := rfl
@[simp] theorem State.modRotation_power (s : State) (job : Nat) (kind : Nat) (f : Rotation → Rotation) :
    (s.modRotation job kind f).power = s.power := rfl
@[simp] theorem State.modRotation_twill (s : State) (job : Nat) (kind : Nat) (f : Rotation → Rotation) :
    (s.modRotation job kind f).twill = s.twill := rfl
@[simp] theorem State.modRotation_jacquard (s : State) (job : Nat) (kind : Nat) (f : Rotation → Rotation) :
    (s.modRotation job kind f).jacquard = s.jacquard := rfl
@[simp] theorem State.modRotation_calico (s : State) (job : Nat) (kind : Nat) (f : Rotation → Rotation) :
    (s.modRotation job kind f).calico = s.calico := rfl
@[simp] theorem State.modRotation_store (s : State) (job : Nat) (kind : Nat) (f : Rotation → Rotation) :
    (s.modRotation job kind f).store = s.store := rfl
@[simp] theorem State.modRotation_buckram (s : State) (job : Nat) (kind : Nat) (f : Rotation → Rotation) :
    (s.modRotation job kind f).buckram = s.buckram := rfl
@[simp] theorem State.modRotation_drawn (s : State) (job : Nat) (kind : Nat) (f : Rotation → Rotation) :
    (s.modRotation job kind f).drawn = s.drawn := rfl
@[simp] theorem State.putSlice_pending (s : State) (x : Slice) :
    (s.putSlice x).pending = s.pending := rfl
@[simp] theorem State.putSlice_host (s : State) (x : Slice) :
    (s.putSlice x).host = s.host := rfl
@[simp] theorem State.putSlice_clock (s : State) (x : Slice) :
    (s.putSlice x).clock = s.clock := rfl
@[simp] theorem State.putSlice_faults (s : State) (x : Slice) :
    (s.putSlice x).faults = s.faults := rfl
@[simp] theorem State.putSlice_pins (s : State) (x : Slice) :
    (s.putSlice x).pins = s.pins := rfl
@[simp] theorem State.putSlice_up (s : State) (x : Slice) :
    (s.putSlice x).up = s.up := rfl
@[simp] theorem State.putSlice_streams (s : State) (x : Slice) :
    (s.putSlice x).streams = s.streams := rfl
@[simp] theorem State.putSlice_carve (s : State) (x : Slice) :
    (s.putSlice x).carve = s.carve := rfl
@[simp] theorem State.putSlice_ports (s : State) (x : Slice) :
    (s.putSlice x).ports = s.ports := rfl
@[simp] theorem State.putSlice_twin (s : State) (x : Slice) :
    (s.putSlice x).twin = s.twin := rfl
@[simp] theorem State.putSlice_sec (s : State) (x : Slice) :
    (s.putSlice x).sec = s.sec := rfl
@[simp] theorem State.putSlice_mail (s : State) (x : Slice) :
    (s.putSlice x).mail = s.mail := rfl
@[simp] theorem State.putSlice_agent (s : State) (x : Slice) :
    (s.putSlice x).agent = s.agent := rfl
@[simp] theorem State.putSlice_fabric (s : State) (x : Slice) :
    (s.putSlice x).fabric = s.fabric := rfl
@[simp] theorem State.putSlice_power (s : State) (x : Slice) :
    (s.putSlice x).power = s.power := rfl
@[simp] theorem State.putSlice_twill (s : State) (x : Slice) :
    (s.putSlice x).twill = s.twill := rfl
@[simp] theorem State.putSlice_jacquard (s : State) (x : Slice) :
    (s.putSlice x).jacquard = s.jacquard := rfl
@[simp] theorem State.putSlice_calico (s : State) (x : Slice) :
    (s.putSlice x).calico = s.calico := rfl
@[simp] theorem State.putSlice_store (s : State) (x : Slice) :
    (s.putSlice x).store = s.store := rfl
@[simp] theorem State.putSlice_buckram (s : State) (x : Slice) :
    (s.putSlice x).buckram = s.buckram := rfl
@[simp] theorem State.putSlice_drawn (s : State) (x : Slice) :
    (s.putSlice x).drawn = s.drawn := rfl
@[simp] theorem State.modSolve_pending (s : State) (f : Solve → Solve) :
    (s.modSolve f).pending = s.pending := rfl
@[simp] theorem State.modSolve_host (s : State) (f : Solve → Solve) :
    (s.modSolve f).host = s.host := rfl
@[simp] theorem State.modSolve_clock (s : State) (f : Solve → Solve) :
    (s.modSolve f).clock = s.clock := rfl
@[simp] theorem State.modSolve_faults (s : State) (f : Solve → Solve) :
    (s.modSolve f).faults = s.faults := rfl
@[simp] theorem State.modSolve_pins (s : State) (f : Solve → Solve) :
    (s.modSolve f).pins = s.pins := rfl
@[simp] theorem State.modSolve_up (s : State) (f : Solve → Solve) :
    (s.modSolve f).up = s.up := rfl
@[simp] theorem State.modSolve_streams (s : State) (f : Solve → Solve) :
    (s.modSolve f).streams = s.streams := rfl
@[simp] theorem State.modSolve_carve (s : State) (f : Solve → Solve) :
    (s.modSolve f).carve = s.carve := rfl
@[simp] theorem State.modSolve_ports (s : State) (f : Solve → Solve) :
    (s.modSolve f).ports = s.ports := rfl
@[simp] theorem State.modSolve_access (s : State) (f : Solve → Solve) :
    (s.modSolve f).access = s.access := rfl
@[simp] theorem State.modSolve_twin (s : State) (f : Solve → Solve) :
    (s.modSolve f).twin = s.twin := rfl
@[simp] theorem State.modSolve_sec (s : State) (f : Solve → Solve) :
    (s.modSolve f).sec = s.sec := rfl
@[simp] theorem State.modSolve_mail (s : State) (f : Solve → Solve) :
    (s.modSolve f).mail = s.mail := rfl
@[simp] theorem State.modSolve_agent (s : State) (f : Solve → Solve) :
    (s.modSolve f).agent = s.agent := rfl
@[simp] theorem State.modSolve_power (s : State) (f : Solve → Solve) :
    (s.modSolve f).power = s.power := rfl
@[simp] theorem State.modSolve_twill (s : State) (f : Solve → Solve) :
    (s.modSolve f).twill = s.twill := rfl
@[simp] theorem State.modSolve_jacquard (s : State) (f : Solve → Solve) :
    (s.modSolve f).jacquard = s.jacquard := rfl
@[simp] theorem State.modSolve_calico (s : State) (f : Solve → Solve) :
    (s.modSolve f).calico = s.calico := rfl
@[simp] theorem State.modSolve_store (s : State) (f : Solve → Solve) :
    (s.modSolve f).store = s.store := rfl
@[simp] theorem State.modSolve_buckram (s : State) (f : Solve → Solve) :
    (s.modSolve f).buckram = s.buckram := rfl
@[simp] theorem State.modSolve_drawn (s : State) (f : Solve → Solve) :
    (s.modSolve f).drawn = s.drawn := rfl
@[simp] theorem State.putGather_pending (s : State) (g : SwitchStep) :
    (s.putGather g).pending = s.pending := rfl
@[simp] theorem State.putGather_host (s : State) (g : SwitchStep) :
    (s.putGather g).host = s.host := rfl
@[simp] theorem State.putGather_clock (s : State) (g : SwitchStep) :
    (s.putGather g).clock = s.clock := rfl
@[simp] theorem State.putGather_faults (s : State) (g : SwitchStep) :
    (s.putGather g).faults = s.faults := rfl
@[simp] theorem State.putGather_pins (s : State) (g : SwitchStep) :
    (s.putGather g).pins = s.pins := rfl
@[simp] theorem State.putGather_up (s : State) (g : SwitchStep) :
    (s.putGather g).up = s.up := rfl
@[simp] theorem State.putGather_streams (s : State) (g : SwitchStep) :
    (s.putGather g).streams = s.streams := rfl
@[simp] theorem State.putGather_carve (s : State) (g : SwitchStep) :
    (s.putGather g).carve = s.carve := rfl
@[simp] theorem State.putGather_ports (s : State) (g : SwitchStep) :
    (s.putGather g).ports = s.ports := rfl
@[simp] theorem State.putGather_access (s : State) (g : SwitchStep) :
    (s.putGather g).access = s.access := rfl
@[simp] theorem State.putGather_twin (s : State) (g : SwitchStep) :
    (s.putGather g).twin = s.twin := rfl
@[simp] theorem State.putGather_sec (s : State) (g : SwitchStep) :
    (s.putGather g).sec = s.sec := rfl
@[simp] theorem State.putGather_mail (s : State) (g : SwitchStep) :
    (s.putGather g).mail = s.mail := rfl
@[simp] theorem State.putGather_fabric (s : State) (g : SwitchStep) :
    (s.putGather g).fabric = s.fabric := rfl
@[simp] theorem State.putGather_power (s : State) (g : SwitchStep) :
    (s.putGather g).power = s.power := rfl
@[simp] theorem State.putGather_twill (s : State) (g : SwitchStep) :
    (s.putGather g).twill = s.twill := rfl
@[simp] theorem State.putGather_jacquard (s : State) (g : SwitchStep) :
    (s.putGather g).jacquard = s.jacquard := rfl
@[simp] theorem State.putGather_calico (s : State) (g : SwitchStep) :
    (s.putGather g).calico = s.calico := rfl
@[simp] theorem State.putGather_store (s : State) (g : SwitchStep) :
    (s.putGather g).store = s.store := rfl
@[simp] theorem State.putGather_buckram (s : State) (g : SwitchStep) :
    (s.putGather g).buckram = s.buckram := rfl
@[simp] theorem State.putGather_drawn (s : State) (g : SwitchStep) :
    (s.putGather g).drawn = s.drawn := rfl
@[simp] theorem State.putMember_pending (s : State) (x : MemberStep) :
    (s.putMember x).pending = s.pending := rfl
@[simp] theorem State.putMember_host (s : State) (x : MemberStep) :
    (s.putMember x).host = s.host := rfl
@[simp] theorem State.putMember_clock (s : State) (x : MemberStep) :
    (s.putMember x).clock = s.clock := rfl
@[simp] theorem State.putMember_faults (s : State) (x : MemberStep) :
    (s.putMember x).faults = s.faults := rfl
@[simp] theorem State.putMember_pins (s : State) (x : MemberStep) :
    (s.putMember x).pins = s.pins := rfl
@[simp] theorem State.putMember_up (s : State) (x : MemberStep) :
    (s.putMember x).up = s.up := rfl
@[simp] theorem State.putMember_streams (s : State) (x : MemberStep) :
    (s.putMember x).streams = s.streams := rfl
@[simp] theorem State.putMember_carve (s : State) (x : MemberStep) :
    (s.putMember x).carve = s.carve := rfl
@[simp] theorem State.putMember_ports (s : State) (x : MemberStep) :
    (s.putMember x).ports = s.ports := rfl
@[simp] theorem State.putMember_access (s : State) (x : MemberStep) :
    (s.putMember x).access = s.access := rfl
@[simp] theorem State.putMember_twin (s : State) (x : MemberStep) :
    (s.putMember x).twin = s.twin := rfl
@[simp] theorem State.putMember_sec (s : State) (x : MemberStep) :
    (s.putMember x).sec = s.sec := rfl
@[simp] theorem State.putMember_mail (s : State) (x : MemberStep) :
    (s.putMember x).mail = s.mail := rfl
@[simp] theorem State.putMember_fabric (s : State) (x : MemberStep) :
    (s.putMember x).fabric = s.fabric := rfl
@[simp] theorem State.putMember_power (s : State) (x : MemberStep) :
    (s.putMember x).power = s.power := rfl
@[simp] theorem State.putMember_twill (s : State) (x : MemberStep) :
    (s.putMember x).twill = s.twill := rfl
@[simp] theorem State.putMember_jacquard (s : State) (x : MemberStep) :
    (s.putMember x).jacquard = s.jacquard := rfl
@[simp] theorem State.putMember_calico (s : State) (x : MemberStep) :
    (s.putMember x).calico = s.calico := rfl
@[simp] theorem State.putMember_store (s : State) (x : MemberStep) :
    (s.putMember x).store = s.store := rfl
@[simp] theorem State.putMember_buckram (s : State) (x : MemberStep) :
    (s.putMember x).buckram = s.buckram := rfl
@[simp] theorem State.putMember_drawn (s : State) (x : MemberStep) :
    (s.putMember x).drawn = s.drawn := rfl
@[simp] theorem State.putBase_pending (s : State) (b : BasePair) :
    (s.putBase b).pending = s.pending := rfl
@[simp] theorem State.putBase_host (s : State) (b : BasePair) :
    (s.putBase b).host = s.host := rfl
@[simp] theorem State.putBase_clock (s : State) (b : BasePair) :
    (s.putBase b).clock = s.clock := rfl
@[simp] theorem State.putBase_faults (s : State) (b : BasePair) :
    (s.putBase b).faults = s.faults := rfl
@[simp] theorem State.putBase_pins (s : State) (b : BasePair) :
    (s.putBase b).pins = s.pins := rfl
@[simp] theorem State.putBase_up (s : State) (b : BasePair) :
    (s.putBase b).up = s.up := rfl
@[simp] theorem State.putBase_streams (s : State) (b : BasePair) :
    (s.putBase b).streams = s.streams := rfl
@[simp] theorem State.putBase_carve (s : State) (b : BasePair) :
    (s.putBase b).carve = s.carve := rfl
@[simp] theorem State.putBase_ports (s : State) (b : BasePair) :
    (s.putBase b).ports = s.ports := rfl
@[simp] theorem State.putBase_access (s : State) (b : BasePair) :
    (s.putBase b).access = s.access := rfl
@[simp] theorem State.putBase_twin (s : State) (b : BasePair) :
    (s.putBase b).twin = s.twin := rfl
@[simp] theorem State.putBase_sec (s : State) (b : BasePair) :
    (s.putBase b).sec = s.sec := rfl
@[simp] theorem State.putBase_mail (s : State) (b : BasePair) :
    (s.putBase b).mail = s.mail := rfl
@[simp] theorem State.putBase_agent (s : State) (b : BasePair) :
    (s.putBase b).agent = s.agent := rfl
@[simp] theorem State.putBase_fabric (s : State) (b : BasePair) :
    (s.putBase b).fabric = s.fabric := rfl
@[simp] theorem State.putBase_power (s : State) (b : BasePair) :
    (s.putBase b).power = s.power := rfl
@[simp] theorem State.putBase_jacquard (s : State) (b : BasePair) :
    (s.putBase b).jacquard = s.jacquard := rfl
@[simp] theorem State.putBase_calico (s : State) (b : BasePair) :
    (s.putBase b).calico = s.calico := rfl
@[simp] theorem State.putBase_store (s : State) (b : BasePair) :
    (s.putBase b).store = s.store := rfl
@[simp] theorem State.putBase_buckram (s : State) (b : BasePair) :
    (s.putBase b).buckram = s.buckram := rfl
@[simp] theorem State.putBase_drawn (s : State) (b : BasePair) :
    (s.putBase b).drawn = s.drawn := rfl
@[simp] theorem State.putGroup_pending (s : State) (g : Group) :
    (s.putGroup g).pending = s.pending := rfl
@[simp] theorem State.putGroup_host (s : State) (g : Group) :
    (s.putGroup g).host = s.host := rfl
@[simp] theorem State.putGroup_clock (s : State) (g : Group) :
    (s.putGroup g).clock = s.clock := rfl
@[simp] theorem State.putGroup_faults (s : State) (g : Group) :
    (s.putGroup g).faults = s.faults := rfl
@[simp] theorem State.putGroup_pins (s : State) (g : Group) :
    (s.putGroup g).pins = s.pins := rfl
@[simp] theorem State.putGroup_up (s : State) (g : Group) :
    (s.putGroup g).up = s.up := rfl
@[simp] theorem State.putGroup_streams (s : State) (g : Group) :
    (s.putGroup g).streams = s.streams := rfl
@[simp] theorem State.putGroup_carve (s : State) (g : Group) :
    (s.putGroup g).carve = s.carve := rfl
@[simp] theorem State.putGroup_ports (s : State) (g : Group) :
    (s.putGroup g).ports = s.ports := rfl
@[simp] theorem State.putGroup_access (s : State) (g : Group) :
    (s.putGroup g).access = s.access := rfl
@[simp] theorem State.putGroup_twin (s : State) (g : Group) :
    (s.putGroup g).twin = s.twin := rfl
@[simp] theorem State.putGroup_sec (s : State) (g : Group) :
    (s.putGroup g).sec = s.sec := rfl
@[simp] theorem State.putGroup_mail (s : State) (g : Group) :
    (s.putGroup g).mail = s.mail := rfl
@[simp] theorem State.putGroup_agent (s : State) (g : Group) :
    (s.putGroup g).agent = s.agent := rfl
@[simp] theorem State.putGroup_fabric (s : State) (g : Group) :
    (s.putGroup g).fabric = s.fabric := rfl
@[simp] theorem State.putGroup_power (s : State) (g : Group) :
    (s.putGroup g).power = s.power := rfl
@[simp] theorem State.putGroup_jacquard (s : State) (g : Group) :
    (s.putGroup g).jacquard = s.jacquard := rfl
@[simp] theorem State.putGroup_calico (s : State) (g : Group) :
    (s.putGroup g).calico = s.calico := rfl
@[simp] theorem State.putGroup_store (s : State) (g : Group) :
    (s.putGroup g).store = s.store := rfl
@[simp] theorem State.putGroup_buckram (s : State) (g : Group) :
    (s.putGroup g).buckram = s.buckram := rfl
@[simp] theorem State.putGroup_drawn (s : State) (g : Group) :
    (s.putGroup g).drawn = s.drawn := rfl
@[simp] theorem State.modGroup_pending (s : State) (id : Nat) (f : Group → Group) :
    (s.modGroup id f).pending = s.pending := rfl
@[simp] theorem State.modGroup_host (s : State) (id : Nat) (f : Group → Group) :
    (s.modGroup id f).host = s.host := rfl
@[simp] theorem State.modGroup_clock (s : State) (id : Nat) (f : Group → Group) :
    (s.modGroup id f).clock = s.clock := rfl
@[simp] theorem State.modGroup_faults (s : State) (id : Nat) (f : Group → Group) :
    (s.modGroup id f).faults = s.faults := rfl
@[simp] theorem State.modGroup_pins (s : State) (id : Nat) (f : Group → Group) :
    (s.modGroup id f).pins = s.pins := rfl
@[simp] theorem State.modGroup_up (s : State) (id : Nat) (f : Group → Group) :
    (s.modGroup id f).up = s.up := rfl
@[simp] theorem State.modGroup_streams (s : State) (id : Nat) (f : Group → Group) :
    (s.modGroup id f).streams = s.streams := rfl
@[simp] theorem State.modGroup_carve (s : State) (id : Nat) (f : Group → Group) :
    (s.modGroup id f).carve = s.carve := rfl
@[simp] theorem State.modGroup_ports (s : State) (id : Nat) (f : Group → Group) :
    (s.modGroup id f).ports = s.ports := rfl
@[simp] theorem State.modGroup_access (s : State) (id : Nat) (f : Group → Group) :
    (s.modGroup id f).access = s.access := rfl
@[simp] theorem State.modGroup_twin (s : State) (id : Nat) (f : Group → Group) :
    (s.modGroup id f).twin = s.twin := rfl
@[simp] theorem State.modGroup_sec (s : State) (id : Nat) (f : Group → Group) :
    (s.modGroup id f).sec = s.sec := rfl
@[simp] theorem State.modGroup_mail (s : State) (id : Nat) (f : Group → Group) :
    (s.modGroup id f).mail = s.mail := rfl
@[simp] theorem State.modGroup_agent (s : State) (id : Nat) (f : Group → Group) :
    (s.modGroup id f).agent = s.agent := rfl
@[simp] theorem State.modGroup_fabric (s : State) (id : Nat) (f : Group → Group) :
    (s.modGroup id f).fabric = s.fabric := rfl
@[simp] theorem State.modGroup_power (s : State) (id : Nat) (f : Group → Group) :
    (s.modGroup id f).power = s.power := rfl
@[simp] theorem State.modGroup_jacquard (s : State) (id : Nat) (f : Group → Group) :
    (s.modGroup id f).jacquard = s.jacquard := rfl
@[simp] theorem State.modGroup_calico (s : State) (id : Nat) (f : Group → Group) :
    (s.modGroup id f).calico = s.calico := rfl
@[simp] theorem State.modGroup_store (s : State) (id : Nat) (f : Group → Group) :
    (s.modGroup id f).store = s.store := rfl
@[simp] theorem State.modGroup_buckram (s : State) (id : Nat) (f : Group → Group) :
    (s.modGroup id f).buckram = s.buckram := rfl
@[simp] theorem State.modGroup_drawn (s : State) (id : Nat) (f : Group → Group) :
    (s.modGroup id f).drawn = s.drawn := rfl
@[simp] theorem State.modStep_pending (s : State) (id : Nat) (step : Nat) (f : GroupStep → GroupStep) :
    (s.modStep id step f).pending = s.pending := rfl
@[simp] theorem State.modStep_host (s : State) (id : Nat) (step : Nat) (f : GroupStep → GroupStep) :
    (s.modStep id step f).host = s.host := rfl
@[simp] theorem State.modStep_clock (s : State) (id : Nat) (step : Nat) (f : GroupStep → GroupStep) :
    (s.modStep id step f).clock = s.clock := rfl
@[simp] theorem State.modStep_faults (s : State) (id : Nat) (step : Nat) (f : GroupStep → GroupStep) :
    (s.modStep id step f).faults = s.faults := rfl
@[simp] theorem State.modStep_pins (s : State) (id : Nat) (step : Nat) (f : GroupStep → GroupStep) :
    (s.modStep id step f).pins = s.pins := rfl
@[simp] theorem State.modStep_up (s : State) (id : Nat) (step : Nat) (f : GroupStep → GroupStep) :
    (s.modStep id step f).up = s.up := rfl
@[simp] theorem State.modStep_streams (s : State) (id : Nat) (step : Nat) (f : GroupStep → GroupStep) :
    (s.modStep id step f).streams = s.streams := rfl
@[simp] theorem State.modStep_carve (s : State) (id : Nat) (step : Nat) (f : GroupStep → GroupStep) :
    (s.modStep id step f).carve = s.carve := rfl
@[simp] theorem State.modStep_ports (s : State) (id : Nat) (step : Nat) (f : GroupStep → GroupStep) :
    (s.modStep id step f).ports = s.ports := rfl
@[simp] theorem State.modStep_access (s : State) (id : Nat) (step : Nat) (f : GroupStep → GroupStep) :
    (s.modStep id step f).access = s.access := rfl
@[simp] theorem State.modStep_twin (s : State) (id : Nat) (step : Nat) (f : GroupStep → GroupStep) :
    (s.modStep id step f).twin = s.twin := rfl
@[simp] theorem State.modStep_sec (s : State) (id : Nat) (step : Nat) (f : GroupStep → GroupStep) :
    (s.modStep id step f).sec = s.sec := rfl
@[simp] theorem State.modStep_mail (s : State) (id : Nat) (step : Nat) (f : GroupStep → GroupStep) :
    (s.modStep id step f).mail = s.mail := rfl
@[simp] theorem State.modStep_agent (s : State) (id : Nat) (step : Nat) (f : GroupStep → GroupStep) :
    (s.modStep id step f).agent = s.agent := rfl
@[simp] theorem State.modStep_fabric (s : State) (id : Nat) (step : Nat) (f : GroupStep → GroupStep) :
    (s.modStep id step f).fabric = s.fabric := rfl
@[simp] theorem State.modStep_power (s : State) (id : Nat) (step : Nat) (f : GroupStep → GroupStep) :
    (s.modStep id step f).power = s.power := rfl
@[simp] theorem State.modStep_jacquard (s : State) (id : Nat) (step : Nat) (f : GroupStep → GroupStep) :
    (s.modStep id step f).jacquard = s.jacquard := rfl
@[simp] theorem State.modStep_calico (s : State) (id : Nat) (step : Nat) (f : GroupStep → GroupStep) :
    (s.modStep id step f).calico = s.calico := rfl
@[simp] theorem State.modStep_store (s : State) (id : Nat) (step : Nat) (f : GroupStep → GroupStep) :
    (s.modStep id step f).store = s.store := rfl
@[simp] theorem State.modStep_buckram (s : State) (id : Nat) (step : Nat) (f : GroupStep → GroupStep) :
    (s.modStep id step f).buckram = s.buckram := rfl
@[simp] theorem State.modStep_drawn (s : State) (id : Nat) (step : Nat) (f : GroupStep → GroupStep) :
    (s.modStep id step f).drawn = s.drawn := rfl
@[simp] theorem State.modTwin_pending (s : State) (f : Twin → Twin) :
    (s.modTwin f).pending = s.pending := rfl
@[simp] theorem State.modTwin_host (s : State) (f : Twin → Twin) :
    (s.modTwin f).host = s.host := rfl
@[simp] theorem State.modTwin_clock (s : State) (f : Twin → Twin) :
    (s.modTwin f).clock = s.clock := rfl
@[simp] theorem State.modTwin_faults (s : State) (f : Twin → Twin) :
    (s.modTwin f).faults = s.faults := rfl
@[simp] theorem State.modTwin_pins (s : State) (f : Twin → Twin) :
    (s.modTwin f).pins = s.pins := rfl
@[simp] theorem State.modTwin_up (s : State) (f : Twin → Twin) :
    (s.modTwin f).up = s.up := rfl
@[simp] theorem State.modTwin_streams (s : State) (f : Twin → Twin) :
    (s.modTwin f).streams = s.streams := rfl
@[simp] theorem State.modTwin_carve (s : State) (f : Twin → Twin) :
    (s.modTwin f).carve = s.carve := rfl
@[simp] theorem State.modTwin_ports (s : State) (f : Twin → Twin) :
    (s.modTwin f).ports = s.ports := rfl
@[simp] theorem State.modTwin_access (s : State) (f : Twin → Twin) :
    (s.modTwin f).access = s.access := rfl
@[simp] theorem State.modTwin_sec (s : State) (f : Twin → Twin) :
    (s.modTwin f).sec = s.sec := rfl
@[simp] theorem State.modTwin_mail (s : State) (f : Twin → Twin) :
    (s.modTwin f).mail = s.mail := rfl
@[simp] theorem State.modTwin_agent (s : State) (f : Twin → Twin) :
    (s.modTwin f).agent = s.agent := rfl
@[simp] theorem State.modTwin_fabric (s : State) (f : Twin → Twin) :
    (s.modTwin f).fabric = s.fabric := rfl
@[simp] theorem State.modTwin_power (s : State) (f : Twin → Twin) :
    (s.modTwin f).power = s.power := rfl
@[simp] theorem State.modTwin_twill (s : State) (f : Twin → Twin) :
    (s.modTwin f).twill = s.twill := rfl
@[simp] theorem State.modTwin_jacquard (s : State) (f : Twin → Twin) :
    (s.modTwin f).jacquard = s.jacquard := rfl
@[simp] theorem State.modTwin_calico (s : State) (f : Twin → Twin) :
    (s.modTwin f).calico = s.calico := rfl
@[simp] theorem State.modTwin_store (s : State) (f : Twin → Twin) :
    (s.modTwin f).store = s.store := rfl
@[simp] theorem State.modTwin_buckram (s : State) (f : Twin → Twin) :
    (s.modTwin f).buckram = s.buckram := rfl
@[simp] theorem State.modTwin_drawn (s : State) (f : Twin → Twin) :
    (s.modTwin f).drawn = s.drawn := rfl
@[simp] theorem State.raiseCause_pending (s : State) (c : Nat) :
    (s.raiseCause c).pending = s.pending := rfl
@[simp] theorem State.raiseCause_clock (s : State) (c : Nat) :
    (s.raiseCause c).clock = s.clock := rfl
@[simp] theorem State.raiseCause_faults (s : State) (c : Nat) :
    (s.raiseCause c).faults = s.faults := rfl
@[simp] theorem State.raiseCause_pins (s : State) (c : Nat) :
    (s.raiseCause c).pins = s.pins := rfl
@[simp] theorem State.raiseCause_up (s : State) (c : Nat) :
    (s.raiseCause c).up = s.up := rfl
@[simp] theorem State.raiseCause_streams (s : State) (c : Nat) :
    (s.raiseCause c).streams = s.streams := rfl
@[simp] theorem State.raiseCause_carve (s : State) (c : Nat) :
    (s.raiseCause c).carve = s.carve := rfl
@[simp] theorem State.raiseCause_ports (s : State) (c : Nat) :
    (s.raiseCause c).ports = s.ports := rfl
@[simp] theorem State.raiseCause_access (s : State) (c : Nat) :
    (s.raiseCause c).access = s.access := rfl
@[simp] theorem State.raiseCause_twin (s : State) (c : Nat) :
    (s.raiseCause c).twin = s.twin := rfl
@[simp] theorem State.raiseCause_sec (s : State) (c : Nat) :
    (s.raiseCause c).sec = s.sec := rfl
@[simp] theorem State.raiseCause_mail (s : State) (c : Nat) :
    (s.raiseCause c).mail = s.mail := rfl
@[simp] theorem State.raiseCause_agent (s : State) (c : Nat) :
    (s.raiseCause c).agent = s.agent := rfl
@[simp] theorem State.raiseCause_fabric (s : State) (c : Nat) :
    (s.raiseCause c).fabric = s.fabric := rfl
@[simp] theorem State.raiseCause_power (s : State) (c : Nat) :
    (s.raiseCause c).power = s.power := rfl
@[simp] theorem State.raiseCause_twill (s : State) (c : Nat) :
    (s.raiseCause c).twill = s.twill := rfl
@[simp] theorem State.raiseCause_jacquard (s : State) (c : Nat) :
    (s.raiseCause c).jacquard = s.jacquard := rfl
@[simp] theorem State.raiseCause_calico (s : State) (c : Nat) :
    (s.raiseCause c).calico = s.calico := rfl
@[simp] theorem State.raiseCause_store (s : State) (c : Nat) :
    (s.raiseCause c).store = s.store := rfl
@[simp] theorem State.raiseCause_buckram (s : State) (c : Nat) :
    (s.raiseCause c).buckram = s.buckram := rfl
@[simp] theorem State.raiseCause_drawn (s : State) (c : Nat) :
    (s.raiseCause c).drawn = s.drawn := rfl
@[simp] theorem State.writeRecord_pending (s : State) (p : Nat) (r : Nat) (orphan : Bool) (c : Rec) :
    (s.writeRecord p r orphan c).pending = s.pending := by
  unfold State.writeRecord; dsimp only; (repeat' split) <;> simp
@[simp] theorem State.writeRecord_clock (s : State) (p : Nat) (r : Nat) (orphan : Bool) (c : Rec) :
    (s.writeRecord p r orphan c).clock = s.clock := by
  unfold State.writeRecord; dsimp only; (repeat' split) <;> simp
@[simp] theorem State.writeRecord_faults (s : State) (p : Nat) (r : Nat) (orphan : Bool) (c : Rec) :
    (s.writeRecord p r orphan c).faults = s.faults := by
  unfold State.writeRecord; dsimp only; (repeat' split) <;> simp
@[simp] theorem State.writeRecord_pins (s : State) (p : Nat) (r : Nat) (orphan : Bool) (c : Rec) :
    (s.writeRecord p r orphan c).pins = s.pins := by
  unfold State.writeRecord; dsimp only; (repeat' split) <;> simp
@[simp] theorem State.writeRecord_up (s : State) (p : Nat) (r : Nat) (orphan : Bool) (c : Rec) :
    (s.writeRecord p r orphan c).up = s.up := by
  unfold State.writeRecord; dsimp only; (repeat' split) <;> simp
@[simp] theorem State.writeRecord_streams (s : State) (p : Nat) (r : Nat) (orphan : Bool) (c : Rec) :
    (s.writeRecord p r orphan c).streams = s.streams := by
  unfold State.writeRecord; dsimp only; (repeat' split) <;> simp
@[simp] theorem State.writeRecord_carve (s : State) (p : Nat) (r : Nat) (orphan : Bool) (c : Rec) :
    (s.writeRecord p r orphan c).carve = s.carve := by
  unfold State.writeRecord; dsimp only; (repeat' split) <;> simp
@[simp] theorem State.writeRecord_ports (s : State) (p : Nat) (r : Nat) (orphan : Bool) (c : Rec) :
    (s.writeRecord p r orphan c).ports = s.ports := by
  unfold State.writeRecord; dsimp only; (repeat' split) <;> simp
@[simp] theorem State.writeRecord_access (s : State) (p : Nat) (r : Nat) (orphan : Bool) (c : Rec) :
    (s.writeRecord p r orphan c).access = s.access := by
  unfold State.writeRecord; dsimp only; (repeat' split) <;> simp
@[simp] theorem State.writeRecord_twin (s : State) (p : Nat) (r : Nat) (orphan : Bool) (c : Rec) :
    (s.writeRecord p r orphan c).twin = s.twin := by
  unfold State.writeRecord; dsimp only; (repeat' split) <;> simp
@[simp] theorem State.writeRecord_sec (s : State) (p : Nat) (r : Nat) (orphan : Bool) (c : Rec) :
    (s.writeRecord p r orphan c).sec = s.sec := by
  unfold State.writeRecord; dsimp only; (repeat' split) <;> simp
@[simp] theorem State.writeRecord_mail (s : State) (p : Nat) (r : Nat) (orphan : Bool) (c : Rec) :
    (s.writeRecord p r orphan c).mail = s.mail := by
  unfold State.writeRecord; dsimp only; (repeat' split) <;> simp
@[simp] theorem State.writeRecord_agent (s : State) (p : Nat) (r : Nat) (orphan : Bool) (c : Rec) :
    (s.writeRecord p r orphan c).agent = s.agent := by
  unfold State.writeRecord; dsimp only; (repeat' split) <;> simp
@[simp] theorem State.writeRecord_fabric (s : State) (p : Nat) (r : Nat) (orphan : Bool) (c : Rec) :
    (s.writeRecord p r orphan c).fabric = s.fabric := by
  unfold State.writeRecord; dsimp only; (repeat' split) <;> simp
@[simp] theorem State.writeRecord_power (s : State) (p : Nat) (r : Nat) (orphan : Bool) (c : Rec) :
    (s.writeRecord p r orphan c).power = s.power := by
  unfold State.writeRecord; dsimp only; (repeat' split) <;> simp
@[simp] theorem State.writeRecord_twill (s : State) (p : Nat) (r : Nat) (orphan : Bool) (c : Rec) :
    (s.writeRecord p r orphan c).twill = s.twill := by
  unfold State.writeRecord; dsimp only; (repeat' split) <;> simp
@[simp] theorem State.writeRecord_jacquard (s : State) (p : Nat) (r : Nat) (orphan : Bool) (c : Rec) :
    (s.writeRecord p r orphan c).jacquard = s.jacquard := by
  unfold State.writeRecord; dsimp only; (repeat' split) <;> simp
@[simp] theorem State.writeRecord_calico (s : State) (p : Nat) (r : Nat) (orphan : Bool) (c : Rec) :
    (s.writeRecord p r orphan c).calico = s.calico := by
  unfold State.writeRecord; dsimp only; (repeat' split) <;> simp
@[simp] theorem State.writeRecord_store (s : State) (p : Nat) (r : Nat) (orphan : Bool) (c : Rec) :
    (s.writeRecord p r orphan c).store = s.store := by
  unfold State.writeRecord; dsimp only; (repeat' split) <;> simp
@[simp] theorem State.writeRecord_buckram (s : State) (p : Nat) (r : Nat) (orphan : Bool) (c : Rec) :
    (s.writeRecord p r orphan c).buckram = s.buckram := by
  unfold State.writeRecord; dsimp only; (repeat' split) <;> simp
@[simp] theorem State.writeRecord_drawn (s : State) (p : Nat) (r : Nat) (orphan : Bool) (c : Rec) :
    (s.writeRecord p r orphan c).drawn = s.drawn := by
  unfold State.writeRecord; dsimp only; (repeat' split) <;> simp
@[simp] theorem State.countFault_pending (s : State) (source : Nat) (sev : Nat) :
    (s.countFault source sev).pending = s.pending := rfl
@[simp] theorem State.countFault_host (s : State) (source : Nat) (sev : Nat) :
    (s.countFault source sev).host = s.host := rfl
@[simp] theorem State.countFault_clock (s : State) (source : Nat) (sev : Nat) :
    (s.countFault source sev).clock = s.clock := rfl
@[simp] theorem State.countFault_pins (s : State) (source : Nat) (sev : Nat) :
    (s.countFault source sev).pins = s.pins := rfl
@[simp] theorem State.countFault_up (s : State) (source : Nat) (sev : Nat) :
    (s.countFault source sev).up = s.up := rfl
@[simp] theorem State.countFault_streams (s : State) (source : Nat) (sev : Nat) :
    (s.countFault source sev).streams = s.streams := rfl
@[simp] theorem State.countFault_carve (s : State) (source : Nat) (sev : Nat) :
    (s.countFault source sev).carve = s.carve := rfl
@[simp] theorem State.countFault_ports (s : State) (source : Nat) (sev : Nat) :
    (s.countFault source sev).ports = s.ports := rfl
@[simp] theorem State.countFault_access (s : State) (source : Nat) (sev : Nat) :
    (s.countFault source sev).access = s.access := rfl
@[simp] theorem State.countFault_twin (s : State) (source : Nat) (sev : Nat) :
    (s.countFault source sev).twin = s.twin := rfl
@[simp] theorem State.countFault_sec (s : State) (source : Nat) (sev : Nat) :
    (s.countFault source sev).sec = s.sec := rfl
@[simp] theorem State.countFault_mail (s : State) (source : Nat) (sev : Nat) :
    (s.countFault source sev).mail = s.mail := rfl
@[simp] theorem State.countFault_agent (s : State) (source : Nat) (sev : Nat) :
    (s.countFault source sev).agent = s.agent := rfl
@[simp] theorem State.countFault_fabric (s : State) (source : Nat) (sev : Nat) :
    (s.countFault source sev).fabric = s.fabric := rfl
@[simp] theorem State.countFault_power (s : State) (source : Nat) (sev : Nat) :
    (s.countFault source sev).power = s.power := rfl
@[simp] theorem State.countFault_twill (s : State) (source : Nat) (sev : Nat) :
    (s.countFault source sev).twill = s.twill := rfl
@[simp] theorem State.countFault_jacquard (s : State) (source : Nat) (sev : Nat) :
    (s.countFault source sev).jacquard = s.jacquard := rfl
@[simp] theorem State.countFault_calico (s : State) (source : Nat) (sev : Nat) :
    (s.countFault source sev).calico = s.calico := rfl
@[simp] theorem State.countFault_store (s : State) (source : Nat) (sev : Nat) :
    (s.countFault source sev).store = s.store := rfl
@[simp] theorem State.countFault_buckram (s : State) (source : Nat) (sev : Nat) :
    (s.countFault source sev).buckram = s.buckram := rfl
@[simp] theorem State.countFault_drawn (s : State) (source : Nat) (sev : Nat) :
    (s.countFault source sev).drawn = s.drawn := rfl
@[simp] theorem State.schedule_pending (s : State) (code : Nat) (sev : Nat) (record : Nat) (f : FaultIn) :
    (s.schedule code sev record f).pending = s.pending := rfl
@[simp] theorem State.schedule_host (s : State) (code : Nat) (sev : Nat) (record : Nat) (f : FaultIn) :
    (s.schedule code sev record f).host = s.host := rfl
@[simp] theorem State.schedule_clock (s : State) (code : Nat) (sev : Nat) (record : Nat) (f : FaultIn) :
    (s.schedule code sev record f).clock = s.clock := rfl
@[simp] theorem State.schedule_pins (s : State) (code : Nat) (sev : Nat) (record : Nat) (f : FaultIn) :
    (s.schedule code sev record f).pins = s.pins := rfl
@[simp] theorem State.schedule_up (s : State) (code : Nat) (sev : Nat) (record : Nat) (f : FaultIn) :
    (s.schedule code sev record f).up = s.up := rfl
@[simp] theorem State.schedule_streams (s : State) (code : Nat) (sev : Nat) (record : Nat) (f : FaultIn) :
    (s.schedule code sev record f).streams = s.streams := rfl
@[simp] theorem State.schedule_carve (s : State) (code : Nat) (sev : Nat) (record : Nat) (f : FaultIn) :
    (s.schedule code sev record f).carve = s.carve := rfl
@[simp] theorem State.schedule_ports (s : State) (code : Nat) (sev : Nat) (record : Nat) (f : FaultIn) :
    (s.schedule code sev record f).ports = s.ports := rfl
@[simp] theorem State.schedule_access (s : State) (code : Nat) (sev : Nat) (record : Nat) (f : FaultIn) :
    (s.schedule code sev record f).access = s.access := rfl
@[simp] theorem State.schedule_twin (s : State) (code : Nat) (sev : Nat) (record : Nat) (f : FaultIn) :
    (s.schedule code sev record f).twin = s.twin := rfl
@[simp] theorem State.schedule_sec (s : State) (code : Nat) (sev : Nat) (record : Nat) (f : FaultIn) :
    (s.schedule code sev record f).sec = s.sec := rfl
@[simp] theorem State.schedule_mail (s : State) (code : Nat) (sev : Nat) (record : Nat) (f : FaultIn) :
    (s.schedule code sev record f).mail = s.mail := rfl
@[simp] theorem State.schedule_agent (s : State) (code : Nat) (sev : Nat) (record : Nat) (f : FaultIn) :
    (s.schedule code sev record f).agent = s.agent := rfl
@[simp] theorem State.schedule_fabric (s : State) (code : Nat) (sev : Nat) (record : Nat) (f : FaultIn) :
    (s.schedule code sev record f).fabric = s.fabric := rfl
@[simp] theorem State.schedule_power (s : State) (code : Nat) (sev : Nat) (record : Nat) (f : FaultIn) :
    (s.schedule code sev record f).power = s.power := rfl
@[simp] theorem State.schedule_twill (s : State) (code : Nat) (sev : Nat) (record : Nat) (f : FaultIn) :
    (s.schedule code sev record f).twill = s.twill := rfl
@[simp] theorem State.schedule_jacquard (s : State) (code : Nat) (sev : Nat) (record : Nat) (f : FaultIn) :
    (s.schedule code sev record f).jacquard = s.jacquard := rfl
@[simp] theorem State.schedule_calico (s : State) (code : Nat) (sev : Nat) (record : Nat) (f : FaultIn) :
    (s.schedule code sev record f).calico = s.calico := rfl
@[simp] theorem State.schedule_store (s : State) (code : Nat) (sev : Nat) (record : Nat) (f : FaultIn) :
    (s.schedule code sev record f).store = s.store := rfl
@[simp] theorem State.schedule_buckram (s : State) (code : Nat) (sev : Nat) (record : Nat) (f : FaultIn) :
    (s.schedule code sev record f).buckram = s.buckram := rfl
@[simp] theorem State.schedule_drawn (s : State) (code : Nat) (sev : Nat) (record : Nat) (f : FaultIn) :
    (s.schedule code sev record f).drawn = s.drawn := rfl
@[simp] theorem State.draw_pending (s : State) :
    (s.draw).1.pending = s.pending := rfl
@[simp] theorem State.draw_host (s : State) :
    (s.draw).1.host = s.host := rfl
@[simp] theorem State.draw_clock (s : State) :
    (s.draw).1.clock = s.clock := rfl
@[simp] theorem State.draw_faults (s : State) :
    (s.draw).1.faults = s.faults := rfl
@[simp] theorem State.draw_pins (s : State) :
    (s.draw).1.pins = s.pins := rfl
@[simp] theorem State.draw_up (s : State) :
    (s.draw).1.up = s.up := rfl
@[simp] theorem State.draw_streams (s : State) :
    (s.draw).1.streams = s.streams := rfl
@[simp] theorem State.draw_carve (s : State) :
    (s.draw).1.carve = s.carve := rfl
@[simp] theorem State.draw_ports (s : State) :
    (s.draw).1.ports = s.ports := rfl
@[simp] theorem State.draw_access (s : State) :
    (s.draw).1.access = s.access := rfl
@[simp] theorem State.draw_twin (s : State) :
    (s.draw).1.twin = s.twin := rfl
@[simp] theorem State.draw_sec (s : State) :
    (s.draw).1.sec = s.sec := rfl
@[simp] theorem State.draw_mail (s : State) :
    (s.draw).1.mail = s.mail := rfl
@[simp] theorem State.draw_agent (s : State) :
    (s.draw).1.agent = s.agent := rfl
@[simp] theorem State.draw_fabric (s : State) :
    (s.draw).1.fabric = s.fabric := rfl
@[simp] theorem State.draw_power (s : State) :
    (s.draw).1.power = s.power := rfl
@[simp] theorem State.draw_twill (s : State) :
    (s.draw).1.twill = s.twill := rfl
@[simp] theorem State.draw_jacquard (s : State) :
    (s.draw).1.jacquard = s.jacquard := rfl
@[simp] theorem State.draw_calico (s : State) :
    (s.draw).1.calico = s.calico := rfl
@[simp] theorem State.draw_store (s : State) :
    (s.draw).1.store = s.store := rfl
@[simp] theorem State.draw_buckram (s : State) :
    (s.draw).1.buckram = s.buckram := rfl
@[simp] theorem State.newRecord_pending (s : State) (code : Nat) (cls : Nat) (sev : Nat) (f : FaultIn) :
    (s.newRecord code cls sev f).pending = s.pending := by
  unfold State.newRecord; (repeat' split) <;> rfl
@[simp] theorem State.newRecord_clock (s : State) (code : Nat) (cls : Nat) (sev : Nat) (f : FaultIn) :
    (s.newRecord code cls sev f).clock = s.clock := by
  unfold State.newRecord; (repeat' split) <;> rfl
@[simp] theorem State.newRecord_pins (s : State) (code : Nat) (cls : Nat) (sev : Nat) (f : FaultIn) :
    (s.newRecord code cls sev f).pins = s.pins := by
  unfold State.newRecord; (repeat' split) <;> rfl
@[simp] theorem State.newRecord_up (s : State) (code : Nat) (cls : Nat) (sev : Nat) (f : FaultIn) :
    (s.newRecord code cls sev f).up = s.up := by
  unfold State.newRecord; (repeat' split) <;> rfl
@[simp] theorem State.newRecord_streams (s : State) (code : Nat) (cls : Nat) (sev : Nat) (f : FaultIn) :
    (s.newRecord code cls sev f).streams = s.streams := by
  unfold State.newRecord; (repeat' split) <;> rfl
@[simp] theorem State.newRecord_carve (s : State) (code : Nat) (cls : Nat) (sev : Nat) (f : FaultIn) :
    (s.newRecord code cls sev f).carve = s.carve := by
  unfold State.newRecord; (repeat' split) <;> rfl
@[simp] theorem State.newRecord_ports (s : State) (code : Nat) (cls : Nat) (sev : Nat) (f : FaultIn) :
    (s.newRecord code cls sev f).ports = s.ports := by
  unfold State.newRecord; (repeat' split) <;> rfl
@[simp] theorem State.newRecord_access (s : State) (code : Nat) (cls : Nat) (sev : Nat) (f : FaultIn) :
    (s.newRecord code cls sev f).access = s.access := by
  unfold State.newRecord; (repeat' split) <;> rfl
@[simp] theorem State.newRecord_twin (s : State) (code : Nat) (cls : Nat) (sev : Nat) (f : FaultIn) :
    (s.newRecord code cls sev f).twin = s.twin := by
  unfold State.newRecord; (repeat' split) <;> rfl
@[simp] theorem State.newRecord_sec (s : State) (code : Nat) (cls : Nat) (sev : Nat) (f : FaultIn) :
    (s.newRecord code cls sev f).sec = s.sec := by
  unfold State.newRecord; (repeat' split) <;> rfl
@[simp] theorem State.newRecord_mail (s : State) (code : Nat) (cls : Nat) (sev : Nat) (f : FaultIn) :
    (s.newRecord code cls sev f).mail = s.mail := by
  unfold State.newRecord; (repeat' split) <;> rfl
@[simp] theorem State.newRecord_agent (s : State) (code : Nat) (cls : Nat) (sev : Nat) (f : FaultIn) :
    (s.newRecord code cls sev f).agent = s.agent := by
  unfold State.newRecord; (repeat' split) <;> rfl
@[simp] theorem State.newRecord_fabric (s : State) (code : Nat) (cls : Nat) (sev : Nat) (f : FaultIn) :
    (s.newRecord code cls sev f).fabric = s.fabric := by
  unfold State.newRecord; (repeat' split) <;> rfl
@[simp] theorem State.newRecord_power (s : State) (code : Nat) (cls : Nat) (sev : Nat) (f : FaultIn) :
    (s.newRecord code cls sev f).power = s.power := by
  unfold State.newRecord; (repeat' split) <;> rfl
@[simp] theorem State.newRecord_twill (s : State) (code : Nat) (cls : Nat) (sev : Nat) (f : FaultIn) :
    (s.newRecord code cls sev f).twill = s.twill := by
  unfold State.newRecord; (repeat' split) <;> rfl
@[simp] theorem State.newRecord_jacquard (s : State) (code : Nat) (cls : Nat) (sev : Nat) (f : FaultIn) :
    (s.newRecord code cls sev f).jacquard = s.jacquard := by
  unfold State.newRecord; (repeat' split) <;> rfl
@[simp] theorem State.newRecord_calico (s : State) (code : Nat) (cls : Nat) (sev : Nat) (f : FaultIn) :
    (s.newRecord code cls sev f).calico = s.calico := by
  unfold State.newRecord; (repeat' split) <;> rfl
@[simp] theorem State.newRecord_store (s : State) (code : Nat) (cls : Nat) (sev : Nat) (f : FaultIn) :
    (s.newRecord code cls sev f).store = s.store := by
  unfold State.newRecord; (repeat' split) <;> rfl
@[simp] theorem State.newRecord_buckram (s : State) (code : Nat) (cls : Nat) (sev : Nat) (f : FaultIn) :
    (s.newRecord code cls sev f).buckram = s.buckram := by
  unfold State.newRecord; (repeat' split) <;> rfl
@[simp] theorem State.newRecord_drawn (s : State) (code : Nat) (cls : Nat) (sev : Nat) (f : FaultIn) :
    (s.newRecord code cls sev f).drawn = s.drawn := by
  unfold State.newRecord; (repeat' split) <;> rfl
@[simp] theorem State.setDev_pending (s : State) (d : DevState) :
    (s.setDev d).pending = s.pending := by
  unfold State.setDev; (repeat' split) <;> rfl
@[simp] theorem State.setDev_clock (s : State) (d : DevState) :
    (s.setDev d).clock = s.clock := by
  unfold State.setDev; (repeat' split) <;> rfl
@[simp] theorem State.setDev_faults (s : State) (d : DevState) :
    (s.setDev d).faults = s.faults := by
  unfold State.setDev; (repeat' split) <;> rfl
@[simp] theorem State.setDev_pins (s : State) (d : DevState) :
    (s.setDev d).pins = s.pins := by
  unfold State.setDev; (repeat' split) <;> rfl
@[simp] theorem State.setDev_streams (s : State) (d : DevState) :
    (s.setDev d).streams = s.streams := by
  unfold State.setDev; (repeat' split) <;> rfl
@[simp] theorem State.setDev_carve (s : State) (d : DevState) :
    (s.setDev d).carve = s.carve := by
  unfold State.setDev; (repeat' split) <;> rfl
@[simp] theorem State.setDev_ports (s : State) (d : DevState) :
    (s.setDev d).ports = s.ports := by
  unfold State.setDev; (repeat' split) <;> rfl
@[simp] theorem State.setDev_access (s : State) (d : DevState) :
    (s.setDev d).access = s.access := by
  unfold State.setDev; (repeat' split) <;> rfl
@[simp] theorem State.setDev_twin (s : State) (d : DevState) :
    (s.setDev d).twin = s.twin := by
  unfold State.setDev; (repeat' split) <;> rfl
@[simp] theorem State.setDev_sec (s : State) (d : DevState) :
    (s.setDev d).sec = s.sec := by
  unfold State.setDev; (repeat' split) <;> rfl
@[simp] theorem State.setDev_mail (s : State) (d : DevState) :
    (s.setDev d).mail = s.mail := by
  unfold State.setDev; (repeat' split) <;> rfl
@[simp] theorem State.setDev_agent (s : State) (d : DevState) :
    (s.setDev d).agent = s.agent := by
  unfold State.setDev; (repeat' split) <;> rfl
@[simp] theorem State.setDev_fabric (s : State) (d : DevState) :
    (s.setDev d).fabric = s.fabric := by
  unfold State.setDev; (repeat' split) <;> rfl
@[simp] theorem State.setDev_power (s : State) (d : DevState) :
    (s.setDev d).power = s.power := by
  unfold State.setDev; (repeat' split) <;> rfl
@[simp] theorem State.setDev_twill (s : State) (d : DevState) :
    (s.setDev d).twill = s.twill := by
  unfold State.setDev; (repeat' split) <;> rfl
@[simp] theorem State.setDev_jacquard (s : State) (d : DevState) :
    (s.setDev d).jacquard = s.jacquard := by
  unfold State.setDev; (repeat' split) <;> rfl
@[simp] theorem State.setDev_calico (s : State) (d : DevState) :
    (s.setDev d).calico = s.calico := by
  unfold State.setDev; (repeat' split) <;> rfl
@[simp] theorem State.setDev_store (s : State) (d : DevState) :
    (s.setDev d).store = s.store := by
  unfold State.setDev; (repeat' split) <;> rfl
@[simp] theorem State.setDev_buckram (s : State) (d : DevState) :
    (s.setDev d).buckram = s.buckram := by
  unfold State.setDev; (repeat' split) <;> rfl
@[simp] theorem State.setDev_drawn (s : State) (d : DevState) :
    (s.setDev d).drawn = s.drawn := by
  unfold State.setDev; (repeat' split) <;> rfl
@[simp] theorem State.driveCore_pending (s : State) :
    (s.driveCore).pending = s.pending := by
  unfold State.driveCore; (repeat' split) <;> rfl
@[simp] theorem State.driveCore_host (s : State) :
    (s.driveCore).host = s.host := by
  unfold State.driveCore; (repeat' split) <;> rfl
@[simp] theorem State.driveCore_clock (s : State) :
    (s.driveCore).clock = s.clock := by
  unfold State.driveCore; (repeat' split) <;> rfl
@[simp] theorem State.driveCore_faults (s : State) :
    (s.driveCore).faults = s.faults := by
  unfold State.driveCore; (repeat' split) <;> rfl
@[simp] theorem State.driveCore_pins (s : State) :
    (s.driveCore).pins = s.pins := by
  unfold State.driveCore; (repeat' split) <;> rfl
@[simp] theorem State.driveCore_up (s : State) :
    (s.driveCore).up = s.up := by
  unfold State.driveCore; (repeat' split) <;> rfl
@[simp] theorem State.driveCore_streams (s : State) :
    (s.driveCore).streams = s.streams := by
  unfold State.driveCore; (repeat' split) <;> rfl
@[simp] theorem State.driveCore_carve (s : State) :
    (s.driveCore).carve = s.carve := by
  unfold State.driveCore; (repeat' split) <;> rfl
@[simp] theorem State.driveCore_ports (s : State) :
    (s.driveCore).ports = s.ports := by
  unfold State.driveCore; (repeat' split) <;> rfl
@[simp] theorem State.driveCore_access (s : State) :
    (s.driveCore).access = s.access := by
  unfold State.driveCore; (repeat' split) <;> rfl
@[simp] theorem State.driveCore_twin (s : State) :
    (s.driveCore).twin = s.twin := by
  unfold State.driveCore; (repeat' split) <;> rfl
@[simp] theorem State.driveCore_sec (s : State) :
    (s.driveCore).sec = s.sec := by
  unfold State.driveCore; (repeat' split) <;> rfl
@[simp] theorem State.driveCore_mail (s : State) :
    (s.driveCore).mail = s.mail := by
  unfold State.driveCore; (repeat' split) <;> rfl
@[simp] theorem State.driveCore_agent (s : State) :
    (s.driveCore).agent = s.agent := by
  unfold State.driveCore; (repeat' split) <;> rfl
@[simp] theorem State.driveCore_fabric (s : State) :
    (s.driveCore).fabric = s.fabric := by
  unfold State.driveCore; (repeat' split) <;> rfl
@[simp] theorem State.driveCore_twill (s : State) :
    (s.driveCore).twill = s.twill := by
  unfold State.driveCore; (repeat' split) <;> rfl
@[simp] theorem State.driveCore_jacquard (s : State) :
    (s.driveCore).jacquard = s.jacquard := by
  unfold State.driveCore; (repeat' split) <;> rfl
@[simp] theorem State.driveCore_calico (s : State) :
    (s.driveCore).calico = s.calico := by
  unfold State.driveCore; (repeat' split) <;> rfl
@[simp] theorem State.driveCore_store (s : State) :
    (s.driveCore).store = s.store := by
  unfold State.driveCore; (repeat' split) <;> rfl
@[simp] theorem State.driveCore_buckram (s : State) :
    (s.driveCore).buckram = s.buckram := by
  unfold State.driveCore; (repeat' split) <;> rfl
@[simp] theorem State.driveCore_drawn (s : State) :
    (s.driveCore).drawn = s.drawn := by
  unfold State.driveCore; (repeat' split) <;> rfl
@[simp] theorem State.selvedgeSpend_pending (s : State) (u : SelvedgeUse) :
    (s.selvedgeSpend u).pending = s.pending := rfl
@[simp] theorem State.selvedgeSpend_host (s : State) (u : SelvedgeUse) :
    (s.selvedgeSpend u).host = s.host := rfl
@[simp] theorem State.selvedgeSpend_clock (s : State) (u : SelvedgeUse) :
    (s.selvedgeSpend u).clock = s.clock := rfl
@[simp] theorem State.selvedgeSpend_faults (s : State) (u : SelvedgeUse) :
    (s.selvedgeSpend u).faults = s.faults := rfl
@[simp] theorem State.selvedgeSpend_pins (s : State) (u : SelvedgeUse) :
    (s.selvedgeSpend u).pins = s.pins := rfl
@[simp] theorem State.selvedgeSpend_up (s : State) (u : SelvedgeUse) :
    (s.selvedgeSpend u).up = s.up := rfl
@[simp] theorem State.selvedgeSpend_streams (s : State) (u : SelvedgeUse) :
    (s.selvedgeSpend u).streams = s.streams := rfl
@[simp] theorem State.selvedgeSpend_carve (s : State) (u : SelvedgeUse) :
    (s.selvedgeSpend u).carve = s.carve := rfl
@[simp] theorem State.selvedgeSpend_ports (s : State) (u : SelvedgeUse) :
    (s.selvedgeSpend u).ports = s.ports := rfl
@[simp] theorem State.selvedgeSpend_access (s : State) (u : SelvedgeUse) :
    (s.selvedgeSpend u).access = s.access := rfl
@[simp] theorem State.selvedgeSpend_twin (s : State) (u : SelvedgeUse) :
    (s.selvedgeSpend u).twin = s.twin := rfl
@[simp] theorem State.selvedgeSpend_mail (s : State) (u : SelvedgeUse) :
    (s.selvedgeSpend u).mail = s.mail := rfl
@[simp] theorem State.selvedgeSpend_agent (s : State) (u : SelvedgeUse) :
    (s.selvedgeSpend u).agent = s.agent := rfl
@[simp] theorem State.selvedgeSpend_fabric (s : State) (u : SelvedgeUse) :
    (s.selvedgeSpend u).fabric = s.fabric := rfl
@[simp] theorem State.selvedgeSpend_power (s : State) (u : SelvedgeUse) :
    (s.selvedgeSpend u).power = s.power := rfl
@[simp] theorem State.selvedgeSpend_twill (s : State) (u : SelvedgeUse) :
    (s.selvedgeSpend u).twill = s.twill := rfl
@[simp] theorem State.selvedgeSpend_jacquard (s : State) (u : SelvedgeUse) :
    (s.selvedgeSpend u).jacquard = s.jacquard := rfl
@[simp] theorem State.selvedgeSpend_calico (s : State) (u : SelvedgeUse) :
    (s.selvedgeSpend u).calico = s.calico := rfl
@[simp] theorem State.selvedgeSpend_store (s : State) (u : SelvedgeUse) :
    (s.selvedgeSpend u).store = s.store := rfl
@[simp] theorem State.selvedgeSpend_buckram (s : State) (u : SelvedgeUse) :
    (s.selvedgeSpend u).buckram = s.buckram := rfl
@[simp] theorem State.selvedgeSpend_drawn (s : State) (u : SelvedgeUse) :
    (s.selvedgeSpend u).drawn = s.drawn := rfl

end Sys2Proof.Machine
end

