-- ==== Sys2Proof/Laws/Agent.lean ====
section
/-! SUPPORT. What a request at the agent does, once for every message. -/

namespace Sys2Proof.Machine

open Sys2Proof

/-- A request that the agent takes has its effect, and its answer is sent and kept (R160, R164, R166). -/
theorem agentRequest_taken (m : Msg) (mutating : Bool) (op : Nat) (act : State → State × AgentAnswer) (s : State)
    (h : taken m mutating op s = true) :
    s.agentRequest m mutating op act
      = answered m mutating s (act (takenBy m mutating s)).1 (act (takenBy m mutating s)).2 := by
  unfold taken at h
  simp only [Bool.and_eq_true, bne_iff_ne, ne_eq, Option.isNone_iff_eq_none, Bool.not_eq_true', Bool.or_eq_true] at h
  obtain ⟨⟨⟨⟨⟨h1, h2⟩, h3⟩, h4⟩, h5⟩, h6⟩ := h
  have h3' : ¬(m.ver < 3 ∧ isGeneel m.src = true) := by
    rintro ⟨a, b⟩
    simp [a, b] at h3
  unfold State.agentRequest
  simp only [h1, h2, h3', h4, h6, Bool.not_true, Bool.false_eq_true, if_false]
  cases mutating with
  | false => simp only [Bool.false_and, Bool.false_eq_true, if_false]; rfl
  | true =>
    simp only [Bool.true_eq_false, false_or] at h5
    simp only [h5.1, h5.2, Bool.and_false, Bool.not_true, Bool.false_eq_true, if_false, if_true]
    rfl

end Sys2Proof.Machine
end

