-- ==== Sys2Proof/Laws/Bytes.lean ====
section
/-! SUPPORT. Little-endian fields: what is written reads back, and lengths. -/

namespace Sys2Proof.Machine

open Sys2Proof

@[simp] theorem toLe_length (n v : Nat) : (toLe n v).length = n := by
  induction n generalizing v with
  | zero => rfl
  | succ n ih => simp [toLe, ih]

@[simp] theorem zeros_length (n : Nat) : (zeros n).length = n := by simp [zeros]

@[simp] theorem field_length (b : Bytes) (o n : Nat) : (field b o n).length = n := by
  unfold field; simp <;> omega

/-- The number of the bytes of a number is that number, cut to its bytes (R12). -/
theorem leVal_toLe (n v : Nat) : leVal (toLe n v) = v % 256 ^ n := by
  induction n generalizing v with
  | zero => simp [toLe, leVal, Nat.mod_one]
  | succ n ih =>
    simp only [toLe, leVal, ih, BitVec.toNat_ofNat]
    have h : (256 : Nat) ^ (n + 1) = 256 * 256 ^ n := by rw [Nat.pow_succ, Nat.mul_comm]
    rw [h, Nat.mod_mul]

/-- A field that lies within what is appended, from where it begins. -/
theorem field_append (a b c : Bytes) (n : Nat) (h : b.length = n) : field (a ++ b ++ c) a.length n = b := by
  subst h
  simp [field]

/-- A field that lies within what is appended. -/
theorem field_at (a b c : Bytes) (o n : Nat) (ha : a.length = o) (hb : b.length = n) : field (a ++ (b ++ c)) o n = b := by
  subst ha
  rw [← List.append_assoc]
  exact field_append a b c n hb

/-- A number written within what is appended. -/
theorem le_at (a c : Bytes) (o n v : Nat) (ha : a.length = o) (hv : v < 256 ^ n) : le (a ++ (toLe n v ++ c)) o n = v := by
  rw [le, field_at a (toLe n v) c o n ha (by simp), leVal_toLe, Nat.mod_eq_of_lt hv]

/-- A number written after some bytes reads back (R12). -/
theorem le_toLe (a c : Bytes) (n v : Nat) : le (a ++ toLe n v ++ c) a.length n = v % 256 ^ n := by
  rw [le, field_append a (toLe n v) c n (by simp), leVal_toLe]

/-- A field read of a field is that field. -/
theorem field_field (b : Bytes) (o n : Nat) : field (field b o n) 0 n = field b o n := by
  have := field_append [] (field b o n) [] n (by simp)
  simpa using this

/-- A byte of a field. -/
theorem field_get (b : Bytes) (o n i : Nat) (hi : i < n) : (field b o n)[i]? = some (b.getD (o + i) 0) := by
  unfold field
  dsimp only
  rw [List.getElem?_append]
  simp only [List.length_take, List.length_drop, List.getElem?_take, List.getElem?_drop, List.getElem?_replicate, List.getD_eq_getElem?_getD]
  by_cases h : i < min n (b.length - o)
  · rw [if_pos h, if_pos hi, List.getElem?_eq_getElem (by omega)]; rfl
  · rw [if_neg h, if_pos (by omega), List.getElem?_eq_none (by omega)]; rfl

/-- Two fields with the same bytes are the same. -/
theorem field_ext (b c : Bytes) (o k n : Nat) (h : ∀ i, i < n → b.getD (o + i) 0 = c.getD (k + i) 0) : field b o n = field c k n := by
  apply List.ext_getElem?
  intro i
  by_cases hi : i < n
  · rw [field_get b o n i hi, field_get c k n i hi, h i hi]
  · rw [List.getElem?_eq_none (by simp; omega), List.getElem?_eq_none (by simp; omega)]

/-- A byte of a field is the byte there. -/
theorem field_getD (b : Bytes) (o n i : Nat) (hi : i < n) : (field b o n).getD i 0 = b.getD (o + i) 0 := by
  rw [List.getD_eq_getElem?_getD, field_get b o n i hi]; rfl

/-- Beyond a field there are zero bytes. -/
theorem field_getD_ge (b : Bytes) (o n i : Nat) (hi : ¬ i < n) : (field b o n).getD i 0 = 0 := by
  rw [List.getD_eq_getElem?_getD, List.getElem?_eq_none (by simp; omega)]; rfl

/-- A byte of what is appended. -/
theorem getD_append (a c : Bytes) (i : Nat) : (a ++ c).getD i 0 = if i < a.length then a.getD i 0 else c.getD (i - a.length) 0 := by
  simp only [List.getD_eq_getElem?_getD, List.getElem?_append]
  split <;> rfl

/-- A check value has 32 bits (R612). -/
theorem crc32_lt (b : Bytes) : crc32 b < 2 ^ 32 := BitVec.isLt _

end Sys2Proof.Machine
end

