-- ==== Sys2Proof/Laws/Certs.lean ====
section
/-! SUPPORT. Certificates and signatures that verify: what an issuer certifies is found (R553, R554). -/

namespace Sys2Proof.Machine

open Sys2Proof

/-- The signature that a key is known to have verifies. -/
theorem falconVerify_own (k d : Bytes) : falconVerify k d (field (Config.falconSignature k d) 0 1280) = true := by
  unfold falconVerify
  simp

/-- The signed part of a certificate. -/
def certHead (kind serial : Nat) (issuer key : Bytes) : Bytes :=
  toLe 2 1 ++ (toLe 1 kind ++ (zeros 1 ++ (toLe 8 serial ++ (keyId issuer ++ (zeros 44 ++ (field key 0 1793 ++ zeros 7))))))

/-- A certificate of a key with the issuer's signature (R553). -/
def certOf (kind serial : Nat) (issuer key : Bytes) : Bytes :=
  certHead kind serial issuer key
    ++ field (Config.falconSignature issuer (shake32 (ascii "GN7CERT1" ++ certHead kind serial issuer key))) 0 1280

/-- A key ID has 8 bytes. -/
theorem keyId_length (k : Bytes) : (keyId k).length = 8 := field_length _ _ _

/-- What is signed of a certificate has 1,864 bytes. -/
theorem certHead_length (kind serial : Nat) (issuer key : Bytes) : (certHead kind serial issuer key).length = 1864 := by
  unfold certHead
  simp [keyId_length]

/-- A certificate has 3,144 bytes. -/
theorem certOf_length (kind serial : Nat) (issuer key : Bytes) : (certOf kind serial issuer key).length = 3144 := by
  unfold certOf
  rw [List.length_append, certHead_length, field_length]

/-- The issuer's key opens the certificate. -/
theorem issuedKey_certOf (kind serial : Nat) (issuer key : Bytes) :
    issuedKey issuer (certOf kind serial issuer key) = some (field key 0 1793) := by
  have e1 : le (certOf kind serial issuer key) 0 2 = 1 := by
    unfold certOf certHead
    exact le_at [] _ 0 2 1 rfl (by decide)
  have e2 : field (certOf kind serial issuer key) 12 8 = keyId issuer := by
    have := field_at (toLe 2 1 ++ (toLe 1 kind ++ (zeros 1 ++ toLe 8 serial))) (keyId issuer)
      (zeros 44 ++ (field key 0 1793 ++ zeros 7) ++ field (Config.falconSignature issuer (shake32 (ascii "GN7CERT1" ++ certHead kind serial issuer key))) 0 1280) 12 8 (by simp) (keyId_length _)
    rw [← this]
    unfold certOf
    congr 1
    simp only [certHead, List.append_assoc]
  have e3 : field (certOf kind serial issuer key) 0 1864 = certHead kind serial issuer key := by
    have := field_at [] (certHead kind serial issuer key) (field (Config.falconSignature issuer (shake32 (ascii "GN7CERT1" ++ certHead kind serial issuer key))) 0 1280) 0 1864 rfl (certHead_length ..)
    exact this
  have e4 : field (certOf kind serial issuer key) 1864 1280
      = field (Config.falconSignature issuer (shake32 (ascii "GN7CERT1" ++ certHead kind serial issuer key))) 0 1280 := by
    have := field_at (certHead kind serial issuer key) (field (Config.falconSignature issuer (shake32 (ascii "GN7CERT1" ++ certHead kind serial issuer key))) 0 1280) [] 1864 1280 (certHead_length ..) (by simp)
    rw [List.append_nil] at this
    exact this
  have e5 : certKey (certOf kind serial issuer key) = field key 0 1793 := by
    have := field_at (toLe 2 1 ++ (toLe 1 kind ++ (zeros 1 ++ (toLe 8 serial ++ (keyId issuer ++ zeros 44))))) (field key 0 1793)
      (zeros 7 ++ field (Config.falconSignature issuer (shake32 (ascii "GN7CERT1" ++ certHead kind serial issuer key))) 0 1280) 64 1793 (by simp [keyId_length]) (by simp)
    unfold certKey
    rw [← this]
    unfold certOf
    congr 1
    simp only [certHead, List.append_assoc]
  unfold issuedKey
  rw [e1, e2, e3, e4, e5, if_pos ⟨rfl, rfl, falconVerify_own _ _⟩]

/-- A certificate tells its kind. -/
theorem certOf_kind (kind serial : Nat) (issuer key : Bytes) (h : kind < 256) : le (certOf kind serial issuer key) 2 1 = kind := by
  unfold certOf certHead
  simp only [List.append_assoc]
  exact le_at (toLe 2 1) _ 2 1 kind (by simp) (by simpa using h)

/-- A certificate tells its subject serial. -/
theorem certOf_serial (kind serial : Nat) (issuer key : Bytes) (h : serial < 2 ^ 64) : le (certOf kind serial issuer key) 4 8 = serial := by
  have := le_at (toLe 2 1 ++ (toLe 1 kind ++ zeros 1)) ((keyId issuer ++ (zeros 44 ++ (field key 0 1793 ++ zeros 7)))
    ++ field (Config.falconSignature issuer (shake32 (ascii "GN7CERT1" ++ certHead kind serial issuer key))) 0 1280) 4 8 serial (by simp) (by simpa using h)
  refine Eq.trans ?_ this
  unfold certOf
  congr 1

/-- A certificate under the part's own intermediate is good. -/
theorem chainKey_certOf (kind serial : Nat) (key : Bytes) :
    chainKey (certOf kind serial (certKey (field (Config.partBytes "intermediate certificate") 0 3144)) key) = some (field key 0 1793) := by
  unfold chainKey intermediateKeys
  rw [List.findSome?_cons, issuedKey_certOf]

/-- A chain of a Geneel is good under the root. -/
theorem geneelKey_certOf (a b : Nat) (k1 k2 : Bytes) :
    geneelKey (certOf 1 a rootKey k1 ++ certOf 2 b (field k1 0 1793) k2) = some (field k2 0 1793) := by
  have e1 : field (certOf 1 a rootKey k1 ++ certOf 2 b (field k1 0 1793) k2) 0 3144 = certOf 1 a rootKey k1 :=
    field_at [] _ _ 0 3144 rfl (certOf_length ..)
  have e2 : field (certOf 1 a rootKey k1 ++ certOf 2 b (field k1 0 1793) k2) 3144 3144 = certOf 2 b (field k1 0 1793) k2 := by
    have := field_at (certOf 1 a rootKey k1) (certOf 2 b (field k1 0 1793) k2) [] 3144 3144 (certOf_length ..) (certOf_length ..)
    rwa [List.append_nil] at this
  unfold geneelKey
  simp only [e1, e2, issuedKey_certOf]
  rw [if_pos ⟨certOf_kind 1 a rootKey k1 (by decide), certOf_kind 2 b _ k2 (by decide)⟩]
/-- A peer's certificate under the part's own intermediate is good (R575). -/
theorem peerKey_certOf (p : Peer) (key : Bytes) (h : p.serial < 2 ^ 64) :
    peerKey p (certOf 2 p.serial (certKey (field (Config.partBytes "intermediate certificate") 0 3144)) key) = some (field key 0 1793) := by
  unfold peerKey
  rw [if_pos ⟨certOf_kind 2 _ _ _ (by decide), certOf_serial 2 _ _ _ h⟩, chainKey_certOf]

end Sys2Proof.Machine
end

