-- ==== Sys2Proof/Laws/Finish.lean ====
section
/-! SUPPORT. Every command finishes: its meaning is `State.finish` of some state, one lemma for each command. What follows from
`State.finish` (a next state, the queue untouched, the output pins following) holds of them all. -/

namespace Sys2Proof.Machine

open Sys2Proof

theorem execIdentify_finish (p : Packet) (s : State) :
    ∃ t, execIdentify p s = s.finish t :=
  ⟨_, rfl⟩

theorem execFloorplanGet_finish (p : Packet) (s : State) :
    ∃ t, execFloorplanGet p s = s.finish t :=
  ⟨_, rfl⟩

theorem execStateGet_finish (p : Packet) (s : State) :
    ∃ t, execStateGet p s = s.finish t :=
  ⟨_, rfl⟩

theorem execDeviceReset_finish (p : Packet) (s : State) :
    ∃ t, execDeviceReset p s = s.finish t :=
  ⟨_, rfl⟩

theorem execCmdCancel_finish (p : Packet) (s : State) :
    ∃ t, execCmdCancel p s = s.finish t :=
  ⟨_, rfl⟩

theorem execNop_finish (p : Packet) (s : State) :
    ∃ t, execNop p s = s.finish t :=
  ⟨_, rfl⟩

theorem execTickConfig_finish (p : Packet) (s : State) :
    ∃ t, execTickConfig p s = s.finish t :=
  ⟨_, rfl⟩

theorem execTickStart_finish (p : Packet) (s : State) :
    ∃ t, execTickStart p s = s.finish t :=
  ⟨_, rfl⟩

theorem execTickStatus_finish (p : Packet) (s : State) :
    ∃ t, execTickStatus p s = s.finish t :=
  ⟨_, rfl⟩

theorem execTickRunaheadGet_finish (p : Packet) (s : State) :
    ∃ t, execTickRunaheadGet p s = s.finish t :=
  ⟨_, rfl⟩

theorem execDiscoverStart_finish (p : Packet) (s : State) :
    ∃ t, execDiscoverStart p s = s.finish t :=
  ⟨_, rfl⟩

theorem execDiscoverStatus_finish (p : Packet) (s : State) :
    ∃ t, execDiscoverStatus p s = s.finish t :=
  ⟨_, rfl⟩

theorem execTopologyGet_finish (p : Packet) (s : State) :
    ∃ t, execTopologyGet p s = s.finish t :=
  ⟨_, rfl⟩

theorem execRackAbsorb_finish (p : Packet) (s : State) :
    ∃ t, execRackAbsorb p s = s.finish t :=
  ⟨_, rfl⟩

theorem execLinkRetrain_finish (p : Packet) (s : State) :
    ∃ t, execLinkRetrain p s = s.finish t :=
  ⟨_, rfl⟩

theorem execShelfAssign_finish (p : Packet) (s : State) :
    ∃ t, execShelfAssign p s = s.finish t :=
  ⟨_, rfl⟩

theorem execRouteSolve_finish (p : Packet) (s : State) :
    ∃ t, execRouteSolve p s = s.finish t :=
  ⟨_, rfl⟩

theorem execRouteStage_finish (p : Packet) (s : State) :
    ∃ t, execRouteStage p s = s.finish t :=
  ⟨_, rfl⟩

theorem execRouteCommit_finish (p : Packet) (s : State) :
    ∃ t, execRouteCommit p s = s.finish t :=
  ⟨_, rfl⟩

theorem execRoutePin_finish (p : Packet) (s : State) :
    ∃ t, execRoutePin p s = s.finish t :=
  ⟨_, rfl⟩

theorem execRouteUnpin_finish (p : Packet) (s : State) :
    ∃ t, execRouteUnpin p s = s.finish t :=
  ⟨_, rfl⟩

theorem execRouteStatus_finish (p : Packet) (s : State) :
    ∃ t, execRouteStatus p s = s.finish t :=
  ⟨_, rfl⟩

theorem execFailoverPrepare_finish (p : Packet) (s : State) :
    ∃ t, execFailoverPrepare p s = s.finish t :=
  ⟨_, rfl⟩

theorem execSliceCreate_finish (p : Packet) (s : State) :
    ∃ t, execSliceCreate p s = s.finish t :=
  ⟨_, rfl⟩

theorem execSliceModify_finish (p : Packet) (s : State) :
    ∃ t, execSliceModify p s = s.finish t :=
  ⟨_, rfl⟩

theorem execSliceDestroy_finish (p : Packet) (s : State) :
    ∃ t, execSliceDestroy p s = s.finish t :=
  ⟨_, rfl⟩

theorem execSliceGet_finish (p : Packet) (s : State) :
    ∃ t, execSliceGet p s = s.finish t :=
  ⟨_, rfl⟩

theorem execAccessSet_finish (p : Packet) (s : State) :
    ∃ t, execAccessSet p s = s.finish t :=
  ⟨_, rfl⟩

theorem execAccessGet_finish (p : Packet) (s : State) :
    ∃ t, execAccessGet p s = s.finish t :=
  ⟨_, rfl⟩

theorem execSparePromote_finish (p : Packet) (s : State) :
    ∃ t, execSparePromote p s = s.finish t :=
  ⟨_, rfl⟩

theorem execGroupCreate_finish (p : Packet) (s : State) :
    ∃ t, execGroupCreate p s = s.finish t :=
  ⟨_, rfl⟩

theorem execGroupDestroy_finish (p : Packet) (s : State) :
    ∃ t, execGroupDestroy p s = s.finish t :=
  ⟨_, rfl⟩

theorem execGroupStatus_finish (p : Packet) (s : State) :
    ∃ t, execGroupStatus p s = s.finish t :=
  ⟨_, rfl⟩

theorem execPlanCreate_finish (p : Packet) (s : State) :
    ∃ t, execPlanCreate p s = s.finish t :=
  ⟨_, rfl⟩

theorem execPlanDestroy_finish (p : Packet) (s : State) :
    ∃ t, execPlanDestroy p s = s.finish t :=
  ⟨_, rfl⟩

theorem execPlanStatus_finish (p : Packet) (s : State) :
    ∃ t, execPlanStatus p s = s.finish t :=
  ⟨_, rfl⟩

theorem execTableCreate_finish (p : Packet) (s : State) :
    ∃ t, execTableCreate p s = s.finish t :=
  ⟨_, rfl⟩

theorem execTableDestroy_finish (p : Packet) (s : State) :
    ∃ t, execTableDestroy p s = s.finish t :=
  ⟨_, rfl⟩

theorem execTableLoad_finish (p : Packet) (s : State) :
    ∃ t, execTableLoad p s = s.finish t :=
  ⟨_, rfl⟩

theorem execTableRead_finish (p : Packet) (s : State) :
    ∃ t, execTableRead p s = s.finish t :=
  ⟨_, rfl⟩

theorem execTableConfig_finish (p : Packet) (s : State) :
    ∃ t, execTableConfig p s = s.finish t :=
  ⟨_, rfl⟩

theorem execTableStatus_finish (p : Packet) (s : State) :
    ∃ t, execTableStatus p s = s.finish t :=
  ⟨_, rfl⟩

theorem execTableSnapshot_finish (p : Packet) (s : State) :
    ∃ t, execTableSnapshot p s = s.finish t :=
  ⟨_, rfl⟩

theorem execStoreCarve_finish (p : Packet) (s : State) :
    ∃ t, execStoreCarve p s = s.finish t :=
  ⟨_, rfl⟩

theorem execStoreMode_finish (p : Packet) (s : State) :
    ∃ t, execStoreMode p s = s.finish t :=
  ⟨_, rfl⟩

theorem execGenerationOpen_finish (p : Packet) (s : State) :
    ∃ t, execGenerationOpen p s = s.finish t :=
  ⟨_, rfl⟩

theorem execGenerationStatus_finish (p : Packet) (s : State) :
    ∃ t, execGenerationStatus p s = s.finish t :=
  ⟨_, rfl⟩

theorem execRestoreStart_finish (p : Packet) (s : State) :
    ∃ t, execRestoreStart p s = s.finish t :=
  ⟨_, rfl⟩

theorem execGenerationDrop_finish (p : Packet) (s : State) :
    ∃ t, execGenerationDrop p s = s.finish t :=
  ⟨_, rfl⟩

theorem execOppointSet_finish (p : Packet) (s : State) :
    ∃ t, execOppointSet p s = s.finish t :=
  ⟨_, rfl⟩

theorem execPowerStatus_finish (p : Packet) (s : State) :
    ∃ t, execPowerStatus p s = s.finish t :=
  ⟨_, rfl⟩

theorem execShelfBudgetSet_finish (p : Packet) (s : State) :
    ∃ t, execShelfBudgetSet p s = s.finish t :=
  ⟨_, rfl⟩

theorem execUnitDisable_finish (p : Packet) (s : State) :
    ∃ t, execUnitDisable p s = s.finish t :=
  ⟨_, rfl⟩

theorem execUnitEnable_finish (p : Packet) (s : State) :
    ∃ t, execUnitEnable p s = s.finish t :=
  ⟨_, rfl⟩

theorem execCurrentDeclare_finish (p : Packet) (s : State) :
    ∃ t, execCurrentDeclare p s = s.finish t :=
  ⟨_, rfl⟩

theorem execMtrParamSet_finish (p : Packet) (s : State) :
    ∃ t, execMtrParamSet p s = s.finish t :=
  ⟨_, rfl⟩

theorem execMtrBatchGet_finish (p : Packet) (s : State) :
    ∃ t, execMtrBatchGet p s = s.finish t :=
  ⟨_, rfl⟩

theorem execMtrJobEnergyGet_finish (p : Packet) (s : State) :
    ∃ t, execMtrJobEnergyGet p s = s.finish t :=
  ⟨_, rfl⟩

theorem execMtrAuditGet_finish (p : Packet) (s : State) :
    ∃ t, execMtrAuditGet p s = s.finish t :=
  ⟨_, rfl⟩

theorem execMtrIdentityGet_finish (p : Packet) (s : State) :
    ∃ t, execMtrIdentityGet p s = s.finish t :=
  ⟨_, rfl⟩

theorem execAttestGet_finish (p : Packet) (s : State) :
    ∃ t, execAttestGet p s = s.finish t :=
  ⟨_, rfl⟩

theorem execEnrol_finish (p : Packet) (s : State) :
    ∃ t, execEnrol p s = s.finish t :=
  ⟨_, rfl⟩

theorem execKeyPolicySet_finish (p : Packet) (s : State) :
    ∃ t, execKeyPolicySet p s = s.finish t :=
  ⟨_, rfl⟩

theorem execFwPolicySet_finish (p : Packet) (s : State) :
    ∃ t, execFwPolicySet p s = s.finish t :=
  ⟨_, rfl⟩

theorem execFwStage_finish (p : Packet) (s : State) :
    ∃ t, execFwStage p s = s.finish t :=
  ⟨_, rfl⟩

theorem execFwActivate_finish (p : Packet) (s : State) :
    ∃ t, execFwActivate p s = s.finish t :=
  ⟨_, rfl⟩

theorem execDebugChallenge_finish (p : Packet) (s : State) :
    ∃ t, execDebugChallenge p s = s.finish t :=
  ⟨_, rfl⟩

theorem execDebugUnlock_finish (p : Packet) (s : State) :
    ∃ t, execDebugUnlock p s = s.finish t :=
  ⟨_, rfl⟩

theorem execSeclogClear_finish (p : Packet) (s : State) :
    ∃ t, execSeclogClear p s = s.finish t :=
  ⟨_, rfl⟩

theorem execKeyRotate_finish (p : Packet) (s : State) :
    ∃ t, execKeyRotate p s = s.finish t :=
  ⟨_, rfl⟩

theorem execCosignStateGet_finish (p : Packet) (s : State) :
    ∃ t, execCosignStateGet p s = s.finish t :=
  ⟨_, rfl⟩

theorem execCosignWithdraw_finish (p : Packet) (s : State) :
    ∃ t, execCosignWithdraw p s = s.finish t :=
  ⟨_, rfl⟩

theorem execEventViewGet_finish (p : Packet) (s : State) :
    ∃ t, execEventViewGet p s = s.finish t :=
  ⟨_, rfl⟩

theorem execEventClear_finish (p : Packet) (s : State) :
    ∃ t, execEventClear p s = s.finish t :=
  ⟨_, rfl⟩

theorem execSeveritySet_finish (p : Packet) (s : State) :
    ∃ t, execSeveritySet p s = s.finish t :=
  ⟨_, rfl⟩

theorem execUnfence_finish (p : Packet) (s : State) :
    ∃ t, execUnfence p s = s.finish t :=
  ⟨_, rfl⟩

theorem execFaultRelease_finish (p : Packet) (s : State) :
    ∃ t, execFaultRelease p s = s.finish t :=
  ⟨_, rfl⟩

theorem execFaultSummaryGet_finish (p : Packet) (s : State) :
    ∃ t, execFaultSummaryGet p s = s.finish t :=
  ⟨_, rfl⟩

theorem execRoleAssign_finish (p : Packet) (s : State) :
    ∃ t, execRoleAssign p s = s.finish t :=
  ⟨_, rfl⟩

theorem execTwinStatus_finish (p : Packet) (s : State) :
    ∃ t, execTwinStatus p s = s.finish t :=
  ⟨_, rfl⟩

theorem execPeerListSet_finish (p : Packet) (s : State) :
    ∃ t, execPeerListSet p s = s.finish t :=
  ⟨_, rfl⟩

theorem execPeerStatus_finish (p : Packet) (s : State) :
    ∃ t, execPeerStatus p s = s.finish t :=
  ⟨_, rfl⟩

theorem execTakeover_finish (p : Packet) (s : State) :
    ∃ t, execTakeover p s = s.finish t :=
  ⟨_, rfl⟩

theorem execStreamRead_finish (p : Packet) (s : State) :
    ∃ t, execStreamRead p s = s.finish t :=
  ⟨_, rfl⟩

theorem execCountersGet_finish (p : Packet) (s : State) :
    ∃ t, execCountersGet p s = s.finish t :=
  ⟨_, rfl⟩

theorem execAgentCountersRead_finish (p : Packet) (s : State) :
    ∃ t, execAgentCountersRead p s = s.finish t :=
  ⟨_, rfl⟩

theorem execLoopback_finish (p : Packet) (s : State) :
    ∃ t, execLoopback p s = s.finish t :=
  ⟨_, rfl⟩

theorem execConfigRequest_finish (port : Nat) (s : State) :
    ∃ t, execConfigRequest port s = s.finish t := by
  unfold execConfigRequest
  repeat' (first | exact ⟨_, rfl⟩ | split | dsimp only)

theorem execSqDoorbellWrite_finish (port : Nat) (ring : Nat) (count : Nat) (s : State) :
    ∃ t, execSqDoorbellWrite port ring count s = s.finish t :=
  ⟨_, rfl⟩

theorem execCqDoorbellWrite_finish (port : Nat) (ring : Nat) (count : Nat) (s : State) :
    ∃ t, execCqDoorbellWrite port ring count s = s.finish t :=
  ⟨_, rfl⟩

theorem execRingEnable_finish (port : Nat) (ring : Nat) (ctrl : Nat) (s : State) :
    ∃ t, execRingEnable port ring ctrl s = s.finish t :=
  ⟨_, rfl⟩

theorem execRingDisable_finish (port : Nat) (ring : Nat) (ctrl : Nat) (s : State) :
    ∃ t, execRingDisable port ring ctrl s = s.finish t :=
  ⟨_, rfl⟩

theorem execRingStopComplete_finish (port : Nat) (ring : Nat) (s : State) :
    ∃ t, execRingStopComplete port ring s = s.finish t := by
  unfold execRingStopComplete
  repeat' (first | exact ⟨_, rfl⟩ | split | dsimp only)

theorem execEvtCurIndexWrite_finish (port : Nat) (index : Nat) (s : State) :
    ∃ t, execEvtCurIndexWrite port index s = s.finish t :=
  ⟨_, rfl⟩

theorem execEvtCurAdvWrite_finish (port : Nat) (s : State) :
    ∃ t, execEvtCurAdvWrite port s = s.finish t :=
  ⟨_, rfl⟩

theorem execEventSnapshotReady_finish (port : Nat) (s : State) :
    ∃ t, execEventSnapshotReady port s = s.finish t := by
  unfold execEventSnapshotReady
  repeat' (first | exact ⟨_, rfl⟩ | split | dsimp only)

theorem execIntCauseClear_finish (port : Nat) (causes : Nat) (s : State) :
    ∃ t, execIntCauseClear port causes s = s.finish t :=
  ⟨_, rfl⟩

theorem execIntMaskWrite_finish (port : Nat) (mask : Nat) (s : State) :
    ∃ t, execIntMaskWrite port mask s = s.finish t :=
  ⟨_, rfl⟩

theorem execRwQuadwordHalfWrite_finish (port : Nat) (offset : Nat) (value : Nat) (s : State) :
    ∃ t, execRwQuadwordHalfWrite port offset value s = s.finish t :=
  ⟨_, rfl⟩

theorem execQuadwordLowReadLatch_finish (port : Nat) (offset : Nat) (size : Nat) (s : State) :
    ∃ t, execQuadwordLowReadLatch port offset size s = s.finish t := by
  unfold execQuadwordLowReadLatch
  repeat' (first | exact ⟨_, rfl⟩ | split | dsimp only)

theorem execRegisterWrite_finish (port : Nat) (offset : Nat) (size : Nat) (value : Nat) (s : State) :
    ∃ t, execRegisterWrite port offset size value s = s.finish t :=
  ⟨_, rfl⟩

theorem execCoalesceTimerExpire_finish (port : Nat) (ring : Nat) (s : State) :
    ∃ t, execCoalesceTimerExpire port ring s = s.finish t := by
  unfold execCoalesceTimerExpire
  repeat' (first | exact ⟨_, rfl⟩ | split | dsimp only)

theorem execPacketFetch_finish (port : Nat) (ring : Nat) (packet : Packet) (bad : Bool) (s : State) :
    ∃ t, execPacketFetch port ring packet bad s = s.finish t := by
  unfold execPacketFetch
  repeat' (first | exact ⟨_, rfl⟩ | split | dsimp only)

theorem execCosignHoldExpire_finish (digest : Bytes) (s : State) :
    ∃ t, execCosignHoldExpire digest s = s.finish t := by
  unfold execCosignHoldExpire
  repeat' (first | exact ⟨_, rfl⟩ | split | dsimp only)

theorem execQueuedCommandRelease_finish (id : Nat) (s : State) :
    ∃ t, execQueuedCommandRelease id s = s.finish t := by
  unfold execQueuedCommandRelease
  repeat' (first | exact ⟨_, rfl⟩ | split | dsimp only)

theorem execQueuedCommandTimeout_finish (id : Nat) (s : State) :
    ∃ t, execQueuedCommandTimeout id s = s.finish t := by
  unfold execQueuedCommandTimeout
  repeat' (first | exact ⟨_, rfl⟩ | split | dsimp only)

theorem execOrphanQueueDrain_finish (port : Nat) (s : State) :
    ∃ t, execOrphanQueueDrain port s = s.finish t := by
  unfold execOrphanQueueDrain
  repeat' (first | exact ⟨_, rfl⟩ | split | dsimp only)

theorem execPwrGoodRise_finish (straps : Nat) (s : State) :
    ∃ t, execPwrGoodRise straps s = s.finish t := by
  unfold execPwrGoodRise
  repeat' (first | exact ⟨_, rfl⟩ | split | dsimp only)

theorem execPwrGoodFall_finish (s : State) :
    ∃ t, execPwrGoodFall s = s.finish t := by
  unfold execPwrGoodFall
  repeat' (first | exact ⟨_, rfl⟩ | split | dsimp only)

theorem execResetNAssert_finish (programmed : List (Nat × Bytes)) (s : State) :
    ∃ t, execResetNAssert programmed s = s.finish t := by
  unfold execResetNAssert
  repeat' (first | exact ⟨_, rfl⟩ | split | dsimp only)

theorem execResetNRelease_finish (us : Nat) (s : State) :
    ∃ t, execResetNRelease us s = s.finish t := by
  unfold execResetNRelease
  repeat' (first | exact ⟨_, rfl⟩ | split | dsimp only)

theorem execPerstAssert_finish (port : Nat) (s : State) :
    ∃ t, execPerstAssert port s = s.finish t := by
  unfold execPerstAssert
  repeat' (first | exact ⟨_, rfl⟩ | split | dsimp only)

theorem execPerstRelease_finish (port : Nat) (s : State) :
    ∃ t, execPerstRelease port s = s.finish t := by
  unfold execPerstRelease
  repeat' (first | exact ⟨_, rfl⟩ | split | dsimp only)

theorem execBootComplete_finish (clockOk : Bool) (selvedgeOk : Bool) (copies : Nat) (s : State) :
    ∃ t, execBootComplete clockOk selvedgeOk copies s = s.finish t := by
  unfold execBootComplete
  repeat' (first | exact ⟨_, rfl⟩ | split | dsimp only)

theorem execStage1Complete_finish (s : State) :
    ∃ t, execStage1Complete s = s.finish t := by
  unfold execStage1Complete
  repeat' (first | exact ⟨_, rfl⟩ | split | dsimp only)

theorem execStage2Complete_finish (s : State) :
    ∃ t, execStage2Complete s = s.finish t := by
  unfold execStage2Complete
  repeat' (first | exact ⟨_, rfl⟩ | split | dsimp only)

theorem execStage3Complete_finish (s : State) :
    ∃ t, execStage3Complete s = s.finish t := by
  unfold execStage3Complete
  repeat' (first | exact ⟨_, rfl⟩ | split | dsimp only)

theorem execStage4Complete_finish (s : State) :
    ∃ t, execStage4Complete s = s.finish t := by
  unfold execStage4Complete
  repeat' (first | exact ⟨_, rfl⟩ | split | dsimp only)

theorem execStage5Complete_finish (s : State) :
    ∃ t, execStage5Complete s = s.finish t := by
  unfold execStage5Complete
  repeat' (first | exact ⟨_, rfl⟩ | split | dsimp only)

theorem execRailBookingStart_finish (what : Nat) (s : State) :
    ∃ t, execRailBookingStart what s = s.finish t := by
  unfold execRailBookingStart
  repeat' (first | exact ⟨_, rfl⟩ | split | dsimp only)

theorem execSelfTestComplete_finish (kind : Nat) (idx : Nat) (passed : Bool) (detail : Nat) (rows : List DefectRow) (s : State) :
    ∃ t, execSelfTestComplete kind idx passed detail rows s = s.finish t := by
  unfold execSelfTestComplete
  repeat' (first | exact ⟨_, rfl⟩ | split | dsimp only)

theorem execLocalInstant_finish (s : State) :
    ∃ t, execLocalInstant s = s.finish t := by
  unfold execLocalInstant
  repeat' (first | exact ⟨_, rfl⟩ | split | dsimp only)

theorem execTickMarker_finish (m : Option Msg) (s : State) :
    ∃ t, execTickMarker m s = s.finish t := by
  unfold execTickMarker
  repeat' (first | exact ⟨_, rfl⟩ | split | dsimp only)

theorem execMarkerOneEmit_finish (at_ : StartMoment) (s : State) :
    ∃ t, execMarkerOneEmit at_ s = s.finish t := by
  unfold execMarkerOneEmit
  repeat' (first | exact ⟨_, rfl⟩ | split | dsimp only)

theorem execMarkerMissed_finish (s : State) :
    ∃ t, execMarkerMissed s = s.finish t := by
  unfold execMarkerMissed
  repeat' (first | exact ⟨_, rfl⟩ | split | dsimp only)

theorem execBackupMarkerEmit_finish (s : State) :
    ∃ t, execBackupMarkerEmit s = s.finish t := by
  unfold execBackupMarkerEmit
  repeat' (first | exact ⟨_, rfl⟩ | split | dsimp only)

theorem execMastershipReturn_finish (id : Nat) (s : State) :
    ∃ t, execMastershipReturn id s = s.finish t := by
  unfold execMastershipReturn
  repeat' (first | exact ⟨_, rfl⟩ | split | dsimp only)

theorem execTickInEdge_finish (ns : Int) (s : State) :
    ∃ t, execTickInEdge ns s = s.finish t := by
  unfold execTickInEdge
  repeat' (first | exact ⟨_, rfl⟩ | split | dsimp only)

theorem execTickInHoldover_finish (s : State) :
    ∃ t, execTickInHoldover s = s.finish t := by
  unfold execTickInHoldover
  repeat' (first | exact ⟨_, rfl⟩ | split | dsimp only)

theorem execBoundaryStrobe_finish (s : State) :
    ∃ t, execBoundaryStrobe s = s.finish t :=
  ⟨_, rfl⟩

theorem execJobNoticePublish_finish (s : State) :
    ∃ t, execJobNoticePublish s = s.finish t := by
  unfold execJobNoticePublish
  repeat' (first | exact ⟨_, rfl⟩ | split | dsimp only)

theorem execPeerHelloSend_finish (s : State) :
    ∃ t, execPeerHelloSend s = s.finish t :=
  ⟨_, rfl⟩

theorem execOppointSwitch_finish (s : State) :
    ∃ t, execOppointSwitch s = s.finish t := by
  unfold execOppointSwitch
  repeat' (first | exact ⟨_, rfl⟩ | split | dsimp only)

theorem execDroopFlagSet_finish (s : State) :
    ∃ t, execDroopFlagSet s = s.finish t :=
  ⟨_, rfl⟩

theorem execDroopFlagClear_finish (s : State) :
    ∃ t, execDroopFlagClear s = s.finish t :=
  ⟨_, rfl⟩

theorem execDroopLowering_finish (s : State) :
    ∃ t, execDroopLowering s = s.finish t :=
  ⟨_, rfl⟩

theorem execThermalSample_finish (temps : List Int) (s : State) :
    ∃ t, execThermalSample temps s = s.finish t := by
  unfold execThermalSample
  repeat' (first | exact ⟨_, rfl⟩ | split | dsimp only)

theorem execThermalLowering_finish (s : State) :
    ∃ t, execThermalLowering s = s.finish t := by
  unfold execThermalLowering
  repeat' (first | exact ⟨_, rfl⟩ | split | dsimp only)

theorem execThermalRecoveryRaise_finish (s : State) :
    ∃ t, execThermalRecoveryRaise s = s.finish t := by
  unfold execThermalRecoveryRaise
  repeat' (first | exact ⟨_, rfl⟩ | split | dsimp only)

theorem execThermComparatorTrip_finish (sensor : Nat) (s : State) :
    ∃ t, execThermComparatorTrip sensor s = s.finish t := by
  unfold execThermComparatorTrip
  repeat' (first | exact ⟨_, rfl⟩ | split | dsimp only)

theorem execTdpLimitLowering_finish (average : Nat) (logic : Nat) (s : State) :
    ∃ t, execTdpLimitLowering average logic s = s.finish t := by
  unfold execTdpLimitLowering
  repeat' (first | exact ⟨_, rfl⟩ | split | dsimp only)

theorem execTdpRecoveryRaise_finish (average : Nat) (logic : Nat) (s : State) :
    ∃ t, execTdpRecoveryRaise average logic s = s.finish t := by
  unfold execTdpRecoveryRaise
  repeat' (first | exact ⟨_, rfl⟩ | split | dsimp only)

theorem execAgeingMeasure_finish (slowdown : Int) (refsReadable : Bool) (s : State) :
    ∃ t, execAgeingMeasure slowdown refsReadable s = s.finish t := by
  unfold execAgeingMeasure
  repeat' (first | exact ⟨_, rfl⟩ | split | dsimp only)

theorem execOpsecWrite_finish (s : State) :
    ∃ t, execOpsecWrite s = s.finish t := by
  unfold execOpsecWrite
  repeat' (first | exact ⟨_, rfl⟩ | split | dsimp only)

theorem execFarEndSignalDetect_finish (r : PortRef) (s : State) :
    ∃ t, execFarEndSignalDetect r s = s.finish t := by
  unfold execFarEndSignalDetect
  repeat' (first | exact ⟨_, rfl⟩ | split | dsimp only)

theorem execLinkTrainingStart_finish (r : PortRef) (good : LanesFound) (reversed : Bool) (polarity : Nat) (s : State) :
    ∃ t, execLinkTrainingStart r good reversed polarity s = s.finish t := by
  unfold execLinkTrainingStart
  repeat' (first | exact ⟨_, rfl⟩ | split | dsimp only)

theorem execTrainingStepTimeout_finish (r : PortRef) (s : State) :
    ∃ t, execTrainingStepTimeout r s = s.finish t := by
  unfold execTrainingStepTimeout
  repeat' (first | exact ⟨_, rfl⟩ | split | dsimp only)

theorem execTrainingHandshakeDone_finish (r : PortRef) (t1 : Nat) (s : State) :
    ∃ t, execTrainingHandshakeDone r t1 s = s.finish t := by
  unfold execTrainingHandshakeDone
  repeat' (first | exact ⟨_, rfl⟩ | split | dsimp only)

theorem execHelloRepeat_finish (r : PortRef) (s : State) :
    ∃ t, execHelloRepeat r s = s.finish t := by
  unfold execHelloRepeat
  repeat' (first | exact ⟨_, rfl⟩ | split | dsimp only)

theorem execRetrainTrigger_finish (sign : RetrainSign) (s : State) :
    ∃ t, execRetrainTrigger sign s = s.finish t := by
  unfold execRetrainTrigger
  repeat' (first | exact ⟨_, rfl⟩ | split | dsimp only)

theorem execRetrainComplete_finish (r : PortRef) (s : State) :
    ∃ t, execRetrainComplete r s = s.finish t := by
  unfold execRetrainComplete
  repeat' (first | exact ⟨_, rfl⟩ | split | dsimp only)

theorem execRetrainTimeout_finish (r : PortRef) (s : State) :
    ∃ t, execRetrainTimeout r s = s.finish t := by
  unfold execRetrainTimeout
  repeat' (first | exact ⟨_, rfl⟩ | split | dsimp only)

theorem execDataFlitReceive_finish (r : PortRef) (f : Flit) (cw : Codewords) (s : State) :
    ∃ t, execDataFlitReceive r f cw s = s.finish t := by
  unfold execDataFlitReceive
  repeat' (first | exact ⟨_, rfl⟩ | split | dsimp only)

theorem execRetryRequestReceive_finish (r : PortRef) (lseq : Nat) (f : BareFlit) (s : State) :
    ∃ t, execRetryRequestReceive r lseq f s = s.finish t := by
  unfold execRetryRequestReceive
  repeat' (first | exact ⟨_, rfl⟩ | split | dsimp only)

theorem execIdleFlitReceive_finish (r : PortRef) (f : BareFlit) (s : State) :
    ∃ t, execIdleFlitReceive r f s = s.finish t := by
  unfold execIdleFlitReceive
  repeat' (first | exact ⟨_, rfl⟩ | split | dsimp only)

theorem execRetryHoldoffExpire_finish (r : PortRef) (s : State) :
    ∃ t, execRetryHoldoffExpire r s = s.finish t :=
  ⟨_, rfl⟩

theorem execLackStallReplay_finish (r : PortRef) (s : State) :
    ∃ t, execLackStallReplay r s = s.finish t := by
  unfold execLackStallReplay
  repeat' (first | exact ⟨_, rfl⟩ | split | dsimp only)

theorem execOutputFlitSelect_finish (now : SendMoment) (s0 : State) :
    ∃ t, execOutputFlitSelect now s0 = s0.finish t := by
  unfold execOutputFlitSelect
  repeat' (first | exact ⟨_, rfl⟩ | split | dsimp only)

theorem execLinkCreditReceive_finish (r : PortRef) (f : Flit) (cw : Codewords) (s : State) :
    ∃ t, execLinkCreditReceive r f cw s = s.finish t := by
  unfold execLinkCreditReceive
  repeat' (first | exact ⟨_, rfl⟩ | split | dsimp only)

theorem execLinkHelloReceive_finish (r : PortRef) (f : Flit) (cw : Codewords) (s : State) :
    ∃ t, execLinkHelloReceive r f cw s = s.finish t := by
  unfold execLinkHelloReceive
  repeat' (first | exact ⟨_, rfl⟩ | split | dsimp only)

theorem execTsReqReceive_finish (r : PortRef) (f : Flit) (cw : Codewords) (t2 : Nat) (t3 : Nat) (s : State) :
    ∃ t, execTsReqReceive r f cw t2 t3 s = s.finish t := by
  unfold execTsReqReceive
  repeat' (first | exact ⟨_, rfl⟩ | split | dsimp only)

theorem execTsRspReceive_finish (r : PortRef) (f : Flit) (cw : Codewords) (t4 : Nat) (s : State) :
    ∃ t, execTsRspReceive r f cw t4 s = s.finish t := by
  unfold execTsRspReceive
  repeat' (first | exact ⟨_, rfl⟩ | split | dsimp only)

theorem execTsFollowReceive_finish (r : PortRef) (f : Flit) (cw : Codewords) (s : State) :
    ∃ t, execTsFollowReceive r f cw s = s.finish t := by
  unfold execTsFollowReceive
  repeat' (first | exact ⟨_, rfl⟩ | split | dsimp only)

theorem execTsExchangeDiscard_finish (r : PortRef) (k : Nat) (s : State) :
    ∃ t, execTsExchangeDiscard r k s = s.finish t :=
  ⟨_, rfl⟩

theorem execDelayMeasurementDone_finish (r : PortRef) (s : State) :
    ∃ t, execDelayMeasurementDone r s = s.finish t := by
  unfold execDelayMeasurementDone
  repeat' (first | exact ⟨_, rfl⟩ | split | dsimp only)

theorem execLinkSessionFlitReceive_finish (r : PortRef) (f : Flit) (cw : Codewords) (s : State) :
    ∃ t, execLinkSessionFlitReceive r f cw s = s.finish t := by
  unfold execLinkSessionFlitReceive
  repeat' (first | exact ⟨_, rfl⟩ | split | dsimp only)

theorem execSessionCountNear_finish (r : PortRef) (s : State) :
    ∃ t, execSessionCountNear r s = s.finish t := by
  unfold execSessionCountNear
  repeat' (first | exact ⟨_, rfl⟩ | split | dsimp only)

theorem execAgentReset_finish (s : State) :
    ∃ t, execAgentReset s = s.finish t := by
  unfold execAgentReset
  repeat' (first | exact ⟨_, rfl⟩ | split | dsimp only)

theorem execAgentTickReceive_finish (m : Msg) (port : Nat) (arrival : Nat) (residence : Nat) (s : State) :
    ∃ t, execAgentTickReceive m port arrival residence s = s.finish t := by
  unfold execAgentTickReceive
  repeat' (first | exact ⟨_, rfl⟩ | split | dsimp only)

theorem execAgentFlywheelTick_finish (s : State) :
    ∃ t, execAgentFlywheelTick s = s.finish t := by
  unfold execAgentFlywheelTick
  repeat' (first | exact ⟨_, rfl⟩ | split | dsimp only)

theorem execAgentTickLoss_finish (s : State) :
    ∃ t, execAgentTickLoss s = s.finish t := by
  unfold execAgentTickLoss
  repeat' (first | exact ⟨_, rfl⟩ | split | dsimp only)

theorem execAgentProbeIdentify_finish (m : Msg) (s : State) :
    ∃ t, execAgentProbeIdentify m s = s.finish t :=
  ⟨_, rfl⟩

theorem execAgentProbeClaim_finish (m : Msg) (s : State) :
    ∃ t, execAgentProbeClaim m s = s.finish t :=
  ⟨_, rfl⟩

theorem execAgentProbeCert_finish (m : Msg) (s : State) :
    ∃ t, execAgentProbeCert m s = s.finish t :=
  ⟨_, rfl⟩

theorem execAgentProbeSession_finish (m : Msg) (s : State) :
    ∃ t, execAgentProbeSession m s = s.finish t :=
  ⟨_, rfl⟩

theorem execSwitchFlitForward_finish (inPort : Nat) (s : State) :
    ∃ t, execSwitchFlitForward inPort s = s.finish t := by
  unfold execSwitchFlitForward
  repeat' (first | exact ⟨_, rfl⟩ | split | dsimp only)

theorem execAgentLinkstateRequest_finish (m : Msg) (s : State) :
    ∃ t, execAgentLinkstateRequest m s = s.finish t := by
  unfold execAgentLinkstateRequest
  repeat' (first | exact ⟨_, rfl⟩ | split | dsimp only)

theorem execAgentTableWrite_finish (m : Msg) (s : State) :
    ∃ t, execAgentTableWrite m s = s.finish t :=
  ⟨_, rfl⟩

theorem execAgentCommitActivate_finish (m : Msg) (s : State) :
    ∃ t, execAgentCommitActivate m s = s.finish t :=
  ⟨_, rfl⟩

theorem execAgentCommitRetire_finish (m : Msg) (s : State) :
    ∃ t, execAgentCommitRetire m s = s.finish t :=
  ⟨_, rfl⟩

theorem execAgentCommitFailover_finish (m : Msg) (s : State) :
    ∃ t, execAgentCommitFailover m s = s.finish t :=
  ⟨_, rfl⟩

theorem execAgentCommitClearStandby_finish (m : Msg) (s : State) :
    ∃ t, execAgentCommitClearStandby m s = s.finish t :=
  ⟨_, rfl⟩

theorem execAgentCommitTargetSwap_finish (m : Msg) (s : State) :
    ∃ t, execAgentCommitTargetSwap m s = s.finish t :=
  ⟨_, rfl⟩

theorem execAgentCountersRequest_finish (m : Msg) (s : State) :
    ∃ t, execAgentCountersRequest m s = s.finish t :=
  ⟨_, rfl⟩

theorem execAgentTreeSet_finish (m : Msg) (s : State) :
    ∃ t, execAgentTreeSet m s = s.finish t :=
  ⟨_, rfl⟩

theorem execAgentCards_finish (m : Msg) (s : State) :
    ∃ t, execAgentCards m s = s.finish t :=
  ⟨_, rfl⟩

theorem execAgentKeyInstall_finish (m : Msg) (s : State) :
    ∃ t, execAgentKeyInstall m s = s.finish t :=
  ⟨_, rfl⟩

theorem execAgentKeySwitch_finish (m : Msg) (s : State) :
    ∃ t, execAgentKeySwitch m s = s.finish t :=
  ⟨_, rfl⟩

theorem execAgentKeyErase_finish (m : Msg) (s : State) :
    ∃ t, execAgentKeyErase m s = s.finish t :=
  ⟨_, rfl⟩

theorem execAgentCurrentGrant_finish (m : Msg) (s : State) :
    ∃ t, execAgentCurrentGrant m s = s.finish t :=
  ⟨_, rfl⟩

theorem execAgentRelease_finish (m : Msg) (s : State) :
    ∃ t, execAgentRelease m s = s.finish t :=
  ⟨_, rfl⟩

theorem execAgentLinkSession_finish (m : Msg) (s : State) :
    ∃ t, execAgentLinkSession m s = s.finish t :=
  ⟨_, rfl⟩

theorem execAgentVerdict_finish (m : Msg) (s : State) :
    ∃ t, execAgentVerdict m s = s.finish t := by
  unfold execAgentVerdict
  repeat' (first | exact ⟨_, rfl⟩ | split | dsimp only)

theorem execAgentFaultReportAck_finish (m : Msg) (s : State) :
    ∃ t, execAgentFaultReportAck m s = s.finish t :=
  ⟨_, rfl⟩

theorem execFaultReportRepeat_finish (s : State) :
    ∃ t, execFaultReportRepeat s = s.finish t := by
  unfold execFaultReportRepeat
  repeat' (first | exact ⟨_, rfl⟩ | split | dsimp only)

theorem execSegmentReassemblyExpire_finish (s : State) :
    ∃ t, execSegmentReassemblyExpire s = s.finish t :=
  ⟨_, rfl⟩

theorem execDeferredActionComplete_finish (s : State) :
    ∃ t, execDeferredActionComplete s = s.finish t :=
  ⟨_, rfl⟩

theorem execAgentGrantCold_finish (s : State) :
    ∃ t, execAgentGrantCold s = s.finish t :=
  ⟨_, rfl⟩

theorem execSwitchTwillRecord_finish (port : Nat) (f : Flit) (s : State) :
    ∃ t, execSwitchTwillRecord port f s = s.finish t := by
  unfold execSwitchTwillRecord
  repeat' (first | exact ⟨_, rfl⟩ | split | dsimp only)

theorem execMemberResultReceive_finish (f : Flit) (own : MemberUnits) (s : State) :
    ∃ t, execMemberResultReceive f own s = s.finish t := by
  unfold execMemberResultReceive
  repeat' (first | exact ⟨_, rfl⟩ | split | dsimp only)

theorem execAgentPlanAreaWrite_finish (f : Flit) (item : Nat) (countStream : Nat) (rank : Nat) (s : State) :
    ∃ t, execAgentPlanAreaWrite f item countStream rank s = s.finish t := by
  unfold execAgentPlanAreaWrite
  repeat' (first | exact ⟨_, rfl⟩ | split | dsimp only)

theorem execAgentExchangeData_finish (port : Nat) (f : Flit) (item : Nat) (countStream : Nat) (rank : Nat) (s : State) :
    ∃ t, execAgentExchangeData port f item countStream rank s = s.finish t := by
  unfold execAgentExchangeData
  repeat' (first | exact ⟨_, rfl⟩ | split | dsimp only)

theorem execIdentReceive_finish (m : Msg) (s : State) :
    ∃ t, execIdentReceive m s = s.finish t := by
  unfold execIdentReceive
  repeat' (first | exact ⟨_, rfl⟩ | split | dsimp only)

theorem execLinkstateReceive_finish (m : Msg) (s : State) :
    ∃ t, execLinkstateReceive m s = s.finish t := by
  unfold execLinkstateReceive
  repeat' (first | exact ⟨_, rfl⟩ | split | dsimp only)

theorem execTopologyRecordChange_finish (s : State) :
    ∃ t, execTopologyRecordChange s = s.finish t := by
  unfold execTopologyRecordChange
  repeat' (first | exact ⟨_, rfl⟩ | split | dsimp only)

theorem execFaultReportReceive_finish (m : Msg) (s : State) :
    ∃ t, execFaultReportReceive m s = s.finish t := by
  unfold execFaultReportReceive
  repeat' (first | exact ⟨_, rfl⟩ | split | dsimp only)

theorem execAgentReplyReceive_finish (m : Msg) (s : State) :
    ∃ t, execAgentReplyReceive m s = s.finish t := by
  unfold execAgentReplyReceive
  repeat' (first | exact ⟨_, rfl⟩ | split | dsimp only)

theorem execAgentReplyResend_finish (msgid : Nat) (s : State) :
    ∃ t, execAgentReplyResend msgid s = s.finish t := by
  unfold execAgentReplyResend
  repeat' (first | exact ⟨_, rfl⟩ | split | dsimp only)

theorem execAgentReplyTimeout_finish (msgid : Nat) (s : State) :
    ∃ t, execAgentReplyTimeout msgid s = s.finish t := by
  unfold execAgentReplyTimeout
  repeat' (first | exact ⟨_, rfl⟩ | split | dsimp only)

theorem execDiscoveryLevelStep_finish (s : State) :
    ∃ t, execDiscoveryLevelStep s = s.finish t := by
  unfold execDiscoveryLevelStep
  repeat' (first | exact ⟨_, rfl⟩ | split | dsimp only)

theorem execTopologyDeltaReceive_finish (src : Nat) (d : SectionDelta) (s : State) :
    ∃ t, execTopologyDeltaReceive src d s = s.finish t :=
  ⟨_, rfl⟩

theorem execSolveReqReceive_finish (m : Msg) (s : State) :
    ∃ t, execSolveReqReceive m s = s.finish t :=
  ⟨_, rfl⟩

theorem execQueuedSolveStart_finish (s : State) :
    ∃ t, execQueuedSolveStart s = s.finish t := by
  unfold execQueuedSolveStart
  repeat' (first | exact ⟨_, rfl⟩ | split | dsimp only)

theorem execSolveCallReceive_finish (m : Msg) (s : State) :
    ∃ t, execSolveCallReceive m s = s.finish t :=
  ⟨_, rfl⟩

theorem execSolveVectorReceive_finish (m : Msg) (s : State) :
    ∃ t, execSolveVectorReceive m s = s.finish t :=
  ⟨_, rfl⟩

theorem execSolveGoReceive_finish (m : Msg) (s : State) :
    ∃ t, execSolveGoReceive m s = s.finish t :=
  ⟨_, rfl⟩

theorem execSolveBatchComplete_finish (s : State) :
    ∃ t, execSolveBatchComplete s = s.finish t :=
  ⟨_, rfl⟩

theorem execShareDataReceive_finish (m : Msg) (s : State) :
    ∃ t, execShareDataReceive m s = s.finish t :=
  ⟨_, rfl⟩

theorem execShareDataTimeout_finish (share : Nat) (s : State) :
    ∃ t, execShareDataTimeout share s = s.finish t := by
  unfold execShareDataTimeout
  repeat' (first | exact ⟨_, rfl⟩ | split | dsimp only)

theorem execShareMoveReceive_finish (m : Msg) (s : State) :
    ∃ t, execShareMoveReceive m s = s.finish t :=
  ⟨_, rfl⟩

theorem execSolveDoneReceive_finish (m : Msg) (s : State) :
    ∃ t, execSolveDoneReceive m s = s.finish t :=
  ⟨_, rfl⟩

theorem execSolveAbortReceive_finish (m : Msg) (s : State) :
    ∃ t, execSolveAbortReceive m s = s.finish t :=
  ⟨_, rfl⟩

theorem execEpochStageReceive_finish (m : Msg) (s : State) :
    ∃ t, execEpochStageReceive m s = s.finish t :=
  ⟨_, rfl⟩

theorem execEpochStagedReceive_finish (m : Msg) (s : State) :
    ∃ t, execEpochStagedReceive m s = s.finish t :=
  ⟨_, rfl⟩

theorem execEpochCommitReceive_finish (m : Msg) (s : State) :
    ∃ t, execEpochCommitReceive m s = s.finish t :=
  ⟨_, rfl⟩

theorem execEpochDoneReceive_finish (m : Msg) (s : State) :
    ∃ t, execEpochDoneReceive m s = s.finish t :=
  ⟨_, rfl⟩

theorem execSliceChangeStagingStart_finish (s : State) :
    ∃ t, execSliceChangeStagingStart s = s.finish t := by
  unfold execSliceChangeStagingStart
  repeat' (first | exact ⟨_, rfl⟩ | split | dsimp only)

theorem execSliceChangeTimeout_finish (job : Nat) (s : State) :
    ∃ t, execSliceChangeTimeout job s = s.finish t := by
  unfold execSliceChangeTimeout
  repeat' (first | exact ⟨_, rfl⟩ | split | dsimp only)

theorem execStreamRelease_finish (id : Nat) (s : State) :
    ∃ t, execStreamRelease id s = s.finish t := by
  unfold execStreamRelease
  repeat' (first | exact ⟨_, rfl⟩ | split | dsimp only)

theorem execSliceDrainEnd_finish (job : Nat) (s : State) :
    ∃ t, execSliceDrainEnd job s = s.finish t := by
  unfold execSliceDrainEnd
  repeat' (first | exact ⟨_, rfl⟩ | split | dsimp only)

theorem execTwillUpRecordReceive_finish (port : Nat) (f : Flit) (s : State) :
    ∃ t, execTwillUpRecordReceive port f s = s.finish t := by
  unfold execTwillUpRecordReceive
  repeat' (first | exact ⟨_, rfl⟩ | split | dsimp only)

theorem execTwillTallyReceive_finish (port : Nat) (f : Flit) (s : State) :
    ∃ t, execTwillTallyReceive port f s = s.finish t := by
  unfold execTwillTallyReceive
  repeat' (first | exact ⟨_, rfl⟩ | split | dsimp only)

theorem execTwillCommitDecide_finish (group : Nat) (step : Nat) (ns : Nat) (s : State) :
    ∃ t, execTwillCommitDecide group step ns s = s.finish t := by
  unfold execTwillCommitDecide
  repeat' (first | exact ⟨_, rfl⟩ | split | dsimp only)

theorem execTwillStepDeadline_finish (group : Nat) (step : Nat) (s : State) :
    ∃ t, execTwillStepDeadline group step s = s.finish t := by
  unfold execTwillStepDeadline
  repeat' (first | exact ⟨_, rfl⟩ | split | dsimp only)

theorem execCountFlitReceive_finish (f : Flit) (s : State) :
    ∃ t, execCountFlitReceive f s = s.finish t := by
  unfold execCountFlitReceive
  repeat' (first | exact ⟨_, rfl⟩ | split | dsimp only)

theorem execCountsComplete_finish (plan : Nat) (s : State) :
    ∃ t, execCountsComplete plan s = s.finish t := by
  unfold execCountsComplete
  repeat' (first | exact ⟨_, rfl⟩ | split | dsimp only)

theorem execCountDeadline_finish (plan : Nat) (s : State) :
    ∃ t, execCountDeadline plan s = s.finish t := by
  unfold execCountDeadline
  repeat' (first | exact ⟨_, rfl⟩ | split | dsimp only)

theorem execPlanningPass_finish (plan : Nat) (s : State) :
    ∃ t, execPlanningPass plan s = s.finish t := by
  unfold execPlanningPass
  repeat' (first | exact ⟨_, rfl⟩ | split | dsimp only)

theorem execExchangeCheckStart_finish (plan : Nat) (s : State) :
    ∃ t, execExchangeCheckStart plan s = s.finish t := by
  unfold execExchangeCheckStart
  repeat' (first | exact ⟨_, rfl⟩ | split | dsimp only)

theorem execMemberReportTimeout_finish (plan : Nat) (rank : Nat) (s : State) :
    ∃ t, execMemberReportTimeout plan rank s = s.finish t := by
  unfold execMemberReportTimeout
  repeat' (first | exact ⟨_, rfl⟩ | split | dsimp only)

theorem execReportFlitReceive_finish (f : Flit) (s : State) :
    ∃ t, execReportFlitReceive f s = s.finish t := by
  unfold execReportFlitReceive
  repeat' (first | exact ⟨_, rfl⟩ | split | dsimp only)

theorem execXchgReadyReceive_finish (m : Msg) (s : State) :
    ∃ t, execXchgReadyReceive m s = s.finish t := by
  unfold execXchgReadyReceive
  repeat' (first | exact ⟨_, rfl⟩ | split | dsimp only)

theorem execXchgRepairReceive_finish (m : Msg) (s : State) :
    ∃ t, execXchgRepairReceive m s = s.finish t := by
  unfold execXchgRepairReceive
  repeat' (first | exact ⟨_, rfl⟩ | split | dsimp only)

theorem execTableRequestReceive_finish (f : Flit) (s : State) :
    ∃ t, execTableRequestReceive f s = s.finish t := by
  unfold execTableRequestReceive
  repeat' (first | exact ⟨_, rfl⟩ | split | dsimp only)

theorem execStrictLookupRelease_finish (s : State) :
    ∃ t, execStrictLookupRelease s = s.finish t := by
  unfold execStrictLookupRelease
  repeat' (first | exact ⟨_, rfl⟩ | split | dsimp only)

theorem execCoalescingStallResume_finish (slot : Nat) (s : State) :
    ∃ t, execCoalescingStallResume slot s = s.finish t := by
  unfold execCoalescingStallResume
  repeat' (first | exact ⟨_, rfl⟩ | split | dsimp only)

theorem execKeySweepPage_finish (part : Nat) (obj : Nat) (area : Nat) (s : State) :
    ∃ t, execKeySweepPage part obj area s = s.finish t := by
  unfold execKeySweepPage
  repeat' (first | exact ⟨_, rfl⟩ | split | dsimp only)

theorem execTableShardReceive_finish (m : Msg) (s : State) :
    ∃ t, execTableShardReceive m s = s.finish t := by
  unfold execTableShardReceive
  repeat' (first | exact ⟨_, rfl⟩ | split | dsimp only)

theorem execTableShardDoneReceive_finish (m : Msg) (s : State) :
    ∃ t, execTableShardDoneReceive m s = s.finish t := by
  unfold execTableShardDoneReceive
  repeat' (first | exact ⟨_, rfl⟩ | split | dsimp only)

theorem execTableShardTimeout_finish (cmd : Nat) (s : State) :
    ∃ t, execTableShardTimeout cmd s = s.finish t := by
  unfold execTableShardTimeout
  repeat' (first | exact ⟨_, rfl⟩ | split | dsimp only)

theorem execCheckpointDataReceive_finish (n : Node) (f : Flit) (s : State) :
    ∃ t, execCheckpointDataReceive n f s = s.finish t := by
  unfold execCheckpointDataReceive
  repeat' (first | exact ⟨_, rfl⟩ | split | dsimp only)

theorem execCheckpointEndReceive_finish (n : Node) (f : Flit) (s : State) :
    ∃ t, execCheckpointEndReceive n f s = s.finish t := by
  unfold execCheckpointEndReceive
  repeat' (first | exact ⟨_, rfl⟩ | split | dsimp only)

theorem execShardDigestComplete_finish (job : Nat) (gen : Nat) (owner : Nat) (s : State) :
    ∃ t, execShardDigestComplete job gen owner s = s.finish t := by
  unfold execShardDigestComplete
  repeat' (first | exact ⟨_, rfl⟩ | split | dsimp only)

theorem execGapResendTimer_finish (job : Nat) (gen : Nat) (owner : Nat) (s : State) :
    ∃ t, execGapResendTimer job gen owner s = s.finish t := by
  unfold execGapResendTimer
  repeat' (first | exact ⟨_, rfl⟩ | split | dsimp only)

theorem execGapReceive_finish (f : Flit) (s : State) :
    ∃ t, execGapReceive f s = s.finish t := by
  unfold execGapReceive
  repeat' (first | exact ⟨_, rfl⟩ | split | dsimp only)

theorem execPullReceive_finish (n : Node) (f : Flit) (s : State) :
    ∃ t, execPullReceive n f s = s.finish t := by
  unfold execPullReceive
  repeat' (first | exact ⟨_, rfl⟩ | split | dsimp only)

theorem execParReceive_finish (f : Flit) (s : State) :
    ∃ t, execParReceive f s = s.finish t := by
  unfold execParReceive
  repeat' (first | exact ⟨_, rfl⟩ | split | dsimp only)

theorem execPackReceive_finish (f : Flit) (s : State) :
    ∃ t, execPackReceive f s = s.finish t := by
  unfold execPackReceive
  repeat' (first | exact ⟨_, rfl⟩ | split | dsimp only)

theorem execGenerationCommit_finish (job : Nat) (gen : Nat) (s : State) :
    ∃ t, execGenerationCommit job gen s = s.finish t := by
  unfold execGenerationCommit
  repeat' (first | exact ⟨_, rfl⟩ | split | dsimp only)

theorem execGenerationDeadline_finish (job : Nat) (gen : Nat) (s : State) :
    ∃ t, execGenerationDeadline job gen s = s.finish t := by
  unfold execGenerationDeadline
  repeat' (first | exact ⟨_, rfl⟩ | split | dsimp only)

theorem execClearingComplete_finish (job : Nat) (gen : Nat) (s : State) :
    ∃ t, execClearingComplete job gen s = s.finish t := by
  unfold execClearingComplete
  repeat' (first | exact ⟨_, rfl⟩ | split | dsimp only)

theorem execSpillAfterCommit_finish (job : Nat) (gen : Nat) (s : State) :
    ∃ t, execSpillAfterCommit job gen s = s.finish t := by
  unfold execSpillAfterCommit
  repeat' (first | exact ⟨_, rfl⟩ | split | dsimp only)

theorem execGenCtlReceive_finish (m : Msg) (s : State) :
    ∃ t, execGenCtlReceive m s = s.finish t := by
  unfold execGenCtlReceive
  repeat' (first | exact ⟨_, rfl⟩ | split | dsimp only)

theorem execGenReportReceive_finish (m : Msg) (s : State) :
    ∃ t, execGenReportReceive m s = s.finish t := by
  unfold execGenReportReceive
  repeat' (first | exact ⟨_, rfl⟩ | split | dsimp only)

theorem execUnitDrainComplete_finish (kind : Nat) (idx : Nat) (s : State) :
    ∃ t, execUnitDrainComplete kind idx s = s.finish t := by
  unfold execUnitDrainComplete
  repeat' (first | exact ⟨_, rfl⟩ | split | dsimp only)

theorem execUnitDrainTimeout_finish (kind : Nat) (idx : Nat) (s : State) :
    ∃ t, execUnitDrainTimeout kind idx s = s.finish t := by
  unfold execUnitDrainTimeout
  repeat' (first | exact ⟨_, rfl⟩ | split | dsimp only)

theorem execCurrentStepSample_finish (addr : Nat) (kind : Nat) (e0 : Nat) (e1 : Nat) (e2 : Nat) (e3 : Nat) (s : State) :
    ∃ t, execCurrentStepSample addr kind e0 e1 e2 e3 s = s.finish t := by
  unfold execCurrentStepSample
  repeat' (first | exact ⟨_, rfl⟩ | split | dsimp only)

theorem execGrantWarmRenew_finish (addr : Nat) (kind : Nat) (action : Nat) (s : State) :
    ∃ t, execGrantWarmRenew addr kind action s = s.finish t := by
  unfold execGrantWarmRenew
  repeat' (first | exact ⟨_, rfl⟩ | split | dsimp only)

theorem execFaultDetect_finish (source : Nat) (code : Nat) (key : Nat) (job : Nat) (detail : Bytes) (handling : Option Nat) (poison : PoisonLine) (s : State) :
    ∃ t, execFaultDetect source code key job detail handling poison s = s.finish t := by
  unfold execFaultDetect
  repeat' (first | exact ⟨_, rfl⟩ | split | dsimp only)

theorem execUnitWatchdogExpire_finish (kind : Nat) (idx : Nat) (s : State) :
    ∃ t, execUnitWatchdogExpire kind idx s = s.finish t := by
  unfold execUnitWatchdogExpire
  repeat' (first | exact ⟨_, rfl⟩ | split | dsimp only)

theorem execFencingComplete_finish (kind : Nat) (idx : Nat) (s : State) :
    ∃ t, execFencingComplete kind idx s = s.finish t := by
  unfold execFencingComplete
  repeat' (first | exact ⟨_, rfl⟩ | split | dsimp only)

theorem execFaultQuietEnd_finish (s : State) :
    ∃ t, execFaultQuietEnd s = s.finish t := by
  unfold execFaultQuietEnd
  repeat' (first | exact ⟨_, rfl⟩ | split | dsimp only)

theorem execEventBlockSpill_finish (failures : Nat) (s : State) :
    ∃ t, execEventBlockSpill failures s = s.finish t := by
  unfold execEventBlockSpill
  repeat' (first | exact ⟨_, rfl⟩ | split | dsimp only)

theorem execEventSpillRetry_finish (failures : Nat) (s : State) :
    ∃ t, execEventSpillRetry failures s = s.finish t := by
  unfold execEventSpillRetry
  repeat' (first | exact ⟨_, rfl⟩ | split | dsimp only)

theorem execDeposition_finish (s : State) :
    ∃ t, execDeposition s = s.finish t := by
  unfold execDeposition
  repeat' (first | exact ⟨_, rfl⟩ | split | dsimp only)

theorem execMirrorDeltaReceive_finish (m : Msg) (item : Option MirrorItem) (s : State) :
    ∃ t, execMirrorDeltaReceive m item s = s.finish t :=
  ⟨_, rfl⟩

theorem execMirrorAckReceive_finish (m : Msg) (s : State) :
    ∃ t, execMirrorAckReceive m s = s.finish t :=
  ⟨_, rfl⟩

theorem execMirrorAckResend_finish (seq : Nat) (s : State) :
    ∃ t, execMirrorAckResend seq s = s.finish t := by
  unfold execMirrorAckResend
  repeat' (first | exact ⟨_, rfl⟩ | split | dsimp only)

theorem execMirrorSingleTimeout_finish (s : State) :
    ∃ t, execMirrorSingleTimeout s = s.finish t := by
  unfold execMirrorSingleTimeout
  repeat' (first | exact ⟨_, rfl⟩ | split | dsimp only)

theorem execHeartbeatReceive_finish (m : Msg) (s : State) :
    ∃ t, execHeartbeatReceive m s = s.finish t :=
  ⟨_, rfl⟩

theorem execHaltNoticeReceive_finish (m : Msg) (s : State) :
    ∃ t, execHaltNoticeReceive m s = s.finish t :=
  ⟨_, rfl⟩

theorem execResyncReqReceive_finish (m : Msg) (s : State) :
    ∃ t, execResyncReqReceive m s = s.finish t :=
  ⟨_, rfl⟩

theorem execResyncDataReceive_finish (m : Msg) (items : List MirrorItem) (s : State) :
    ∃ t, execResyncDataReceive m items s = s.finish t :=
  ⟨_, rfl⟩

theorem execAutomaticTakeover_finish (s : State) :
    ∃ t, execAutomaticTakeover s = s.finish t := by
  unfold execAutomaticTakeover
  repeat' (first | exact ⟨_, rfl⟩ | split | dsimp only)

theorem execPeerHelloReceive_finish (m : Msg) (s : State) :
    ∃ t, execPeerHelloReceive m s = s.finish t :=
  ⟨_, rfl⟩

theorem execPeerAbsent_finish (id : Nat) (s : State) :
    ∃ t, execPeerAbsent id s = s.finish t := by
  unfold execPeerAbsent
  repeat' (first | exact ⟨_, rfl⟩ | split | dsimp only)

theorem execPeerSessionOffer_finish (m : Msg) (s : State) :
    ∃ t, execPeerSessionOffer m s = s.finish t :=
  ⟨_, rfl⟩

theorem execPeerSessionAnswer_finish (m : Msg) (s : State) :
    ∃ t, execPeerSessionAnswer m s = s.finish t :=
  ⟨_, rfl⟩

theorem execPeerSessionKey_finish (m : Msg) (s : State) :
    ∃ t, execPeerSessionKey m s = s.finish t :=
  ⟨_, rfl⟩

theorem execPeerSessionCiphertext_finish (m : Msg) (s : State) :
    ∃ t, execPeerSessionCiphertext m s = s.finish t :=
  ⟨_, rfl⟩

theorem execKeyXferReceive_finish (m : Msg) (s : State) :
    ∃ t, execKeyXferReceive m s = s.finish t :=
  ⟨_, rfl⟩

theorem execKeyStateReceive_finish (m : Msg) (s : State) :
    ∃ t, execKeyStateReceive m s = s.finish t :=
  ⟨_, rfl⟩

theorem execKeyOrderReceive_finish (m : Msg) (s : State) :
    ∃ t, execKeyOrderReceive m s = s.finish t :=
  ⟨_, rfl⟩

theorem execKeyLifetimeExpire_finish (job : Nat) (kind : Nat) (s : State) :
    ∃ t, execKeyLifetimeExpire job kind s = s.finish t := by
  unfold execKeyLifetimeExpire
  repeat' (first | exact ⟨_, rfl⟩ | split | dsimp only)

theorem execReattestInterval_finish (s : State) :
    ∃ t, execReattestInterval s = s.finish t := by
  unfold execReattestInterval
  repeat' (first | exact ⟨_, rfl⟩ | split | dsimp only)

theorem execDebugNonceExpire_finish (s : State) :
    ∃ t, execDebugNonceExpire s = s.finish t := by
  unfold execDebugNonceExpire
  repeat' (first | exact ⟨_, rfl⟩ | split | dsimp only)

theorem execMeterBusCycle_finish (s : State) :
    ∃ t, execMeterBusCycle s = s.finish t := by
  unfold execMeterBusCycle
  repeat' (first | exact ⟨_, rfl⟩ | split | dsimp only)

theorem execShortReportReceive_finish (shelf : Nat) (frame : Bytes) (s : State) :
    ∃ t, execShortReportReceive shelf frame s = s.finish t := by
  unfold execShortReportReceive
  repeat' (first | exact ⟨_, rfl⟩ | split | dsimp only)

theorem execExtendedReportReceive_finish (frame : Bytes) (s : State) :
    ∃ t, execExtendedReportReceive frame s = s.finish t := by
  unfold execExtendedReportReceive
  repeat' (first | exact ⟨_, rfl⟩ | split | dsimp only)

theorem execMeterSilent_finish (shelf : Nat) (s : State) :
    ∃ t, execMeterSilent shelf s = s.finish t := by
  unfold execMeterSilent
  repeat' (first | exact ⟨_, rfl⟩ | split | dsimp only)

theorem execMtrStrobeReceive_finish (us : Nat) (s : State) :
    ∃ t, execMtrStrobeReceive us s = s.finish t := by
  unfold execMtrStrobeReceive
  repeat' (first | exact ⟨_, rfl⟩ | split | dsimp only)

theorem execWindowSelfClose_finish (s : State) :
    ∃ t, execWindowSelfClose s = s.finish t := by
  unfold execWindowSelfClose
  repeat' (first | exact ⟨_, rfl⟩ | split | dsimp only)

theorem execWindowSeal_finish (s : State) :
    ∃ t, execWindowSeal s = s.finish t := by
  unfold execWindowSeal
  repeat' (first | exact ⟨_, rfl⟩ | split | dsimp only)

theorem execMboxBoundary_finish (s : State) :
    ∃ t, execMboxBoundary s = s.finish t := by
  unfold execMboxBoundary
  repeat' (first | exact ⟨_, rfl⟩ | split | dsimp only)

theorem execMboxCounts_finish (s : State) :
    ∃ t, execMboxCounts s = s.finish t := by
  unfold execMboxCounts
  repeat' (first | exact ⟨_, rfl⟩ | split | dsimp only)

theorem execMboxParam_finish (s : State) :
    ∃ t, execMboxParam s = s.finish t := by
  unfold execMboxParam
  repeat' (first | exact ⟨_, rfl⟩ | split | dsimp only)

theorem execMboxQuery_finish (s : State) :
    ∃ t, execMboxQuery s = s.finish t := by
  unfold execMboxQuery
  repeat' (first | exact ⟨_, rfl⟩ | split | dsimp only)

theorem execMboxSealNotice_finish (s : State) :
    ∃ t, execMboxSealNotice s = s.finish t := by
  unfold execMboxSealNotice
  repeat' (first | exact ⟨_, rfl⟩ | split | dsimp only)

theorem execMtrQuerySegmentAnswer_finish (s : State) :
    ∃ t, execMtrQuerySegmentAnswer s = s.finish t := by
  unfold execMtrQuerySegmentAnswer
  repeat' (first | exact ⟨_, rfl⟩ | split | dsimp only)

theorem execMtrQueryTimeout_finish (s : State) :
    ∃ t, execMtrQueryTimeout s = s.finish t := by
  unfold execMtrQueryTimeout
  repeat' (first | exact ⟨_, rfl⟩ | split | dsimp only)

theorem execBuckramSelfFault_finish (s : State) :
    ∃ t, execBuckramSelfFault s = s.finish t := by
  unfold execBuckramSelfFault
  repeat' (first | exact ⟨_, rfl⟩ | split | dsimp only)

theorem execTrainingAttemptFailed_finish (r : PortRef) (s : State) :
    ∃ t, execTrainingAttemptFailed r s = s.finish t :=
  ⟨_, rfl⟩

theorem execMoveReleaseRequestReceive_finish (src : Nat) (serials : List Nat) (s : State) :
    ∃ t, execMoveReleaseRequestReceive src serials s = s.finish t :=
  ⟨_, rfl⟩

theorem execMoveReleaseConfirmReceive_finish (src : Nat) (granted : Bool) (s : State) :
    ∃ t, execMoveReleaseConfirmReceive src granted s = s.finish t :=
  ⟨_, rfl⟩

theorem execTwinTreeReportReceive_finish (group : Nat) (step : Nat) (s : State) :
    ∃ t, execTwinTreeReportReceive group step s = s.finish t := by
  unfold execTwinTreeReportReceive
  repeat' (first | exact ⟨_, rfl⟩ | split | dsimp only)

theorem execRdataReceive_finish (n : Node) (f : Flit) (s : State) :
    ∃ t, execRdataReceive n f s = s.finish t := by
  unfold execRdataReceive
  repeat' (first | exact ⟨_, rfl⟩ | split | dsimp only)

theorem execTableMemoryError_finish (unit : Nat) (s : State) :
    ∃ t, execTableMemoryError unit s = s.finish t := by
  unfold execTableMemoryError
  repeat' (first | exact ⟨_, rfl⟩ | split | dsimp only)

theorem execLoadStartingActionRequest_finish (kind : Nat) (action : Nat) (job : Nat) (s : State) :
    ∃ t, execLoadStartingActionRequest kind action job s = s.finish t := by
  unfold execLoadStartingActionRequest
  repeat' (first | exact ⟨_, rfl⟩ | split | dsimp only)

end Sys2Proof.Machine
end

