-- ==== Sys2Proof/Laws/Frame.lean ====
section
/-! SUPPORT. What the shared operations leave as it was: one lemma for each field. -/

namespace Sys2Proof.Machine

open Sys2Proof

@[simp] theorem State.imageObject_pending (s : State) (kind : Nat) (obj : Nat) (data : Bytes) (tick : Nat) :
    (s.imageObject kind obj data tick).pending = s.pending := by
  unfold State.imageObject; (repeat' split) <;> rfl
@[simp] theorem State.imageObject_host (s : State) (kind : Nat) (obj : Nat) (data : Bytes) (tick : Nat) :
    (s.imageObject kind obj data tick).host = s.host := by
  unfold State.imageObject; (repeat' split) <;> rfl
@[simp] theorem State.imageObject_clock (s : State) (kind : Nat) (obj : Nat) (data : Bytes) (tick : Nat) :
    (s.imageObject kind obj data tick).clock = s.clock := by
  unfold State.imageObject; (repeat' split) <;> rfl
@[simp] theorem State.imageObject_faults (s : State) (kind : Nat) (obj : Nat) (data : Bytes) (tick : Nat) :
    (s.imageObject kind obj data tick).faults = s.faults := by
  unfold State.imageObject; (repeat' split) <;> rfl
@[simp] theorem State.imageObject_pins (s : State) (kind : Nat) (obj : Nat) (data : Bytes) (tick : Nat) :
    (s.imageObject kind obj data tick).pins = s.pins := by
  unfold State.imageObject; (repeat' split) <;> rfl
@[simp] theorem State.imageObject_up (s : State) (kind : Nat) (obj : Nat) (data : Bytes) (tick : Nat) :
    (s.imageObject kind obj data tick).up = s.up := by
  unfold State.imageObject; (repeat' split) <;> rfl
@[simp] theorem State.imageObject_streams (s : State) (kind : Nat) (obj : Nat) (data : Bytes) (tick : Nat) :
    (s.imageObject kind obj data tick).streams = s.streams := by
  unfold State.imageObject; (repeat' split) <;> rfl
@[simp] theorem State.imageObject_carve (s : State) (kind : Nat) (obj : Nat) (data : Bytes) (tick : Nat) :
    (s.imageObject kind obj data tick).carve = s.carve := by
  unfold State.imageObject; (repeat' split) <;> rfl
@[simp] theorem State.imageObject_ports (s : State) (kind : Nat) (obj : Nat) (data : Bytes) (tick : Nat) :
    (s.imageObject kind obj data tick).ports = s.ports := by
  unfold State.imageObject; (repeat' split) <;> rfl
@[simp] theorem State.imageObject_access (s : State) (kind : Nat) (obj : Nat) (data : Bytes) (tick : Nat) :
    (s.imageObject kind obj data tick).access = s.access := by
  unfold State.imageObject; (repeat' split) <;> rfl
@[simp] theorem State.imageObject_sec (s : State) (kind : Nat) (obj : Nat) (data : Bytes) (tick : Nat) :
    (s.imageObject kind obj data tick).sec = s.sec := by
  unfold State.imageObject; (repeat' split) <;> rfl
@[simp] theorem State.imageObject_mail (s : State) (kind : Nat) (obj : Nat) (data : Bytes) (tick : Nat) :
    (s.imageObject kind obj data tick).mail = s.mail := by
  unfold State.imageObject; (repeat' split) <;> rfl
@[simp] theorem State.imageObject_agent (s : State) (kind : Nat) (obj : Nat) (data : Bytes) (tick : Nat) :
    (s.imageObject kind obj data tick).agent = s.agent := by
  unfold State.imageObject; (repeat' split) <;> rfl
@[simp] theorem State.imageObject_fabric (s : State) (kind : Nat) (obj : Nat) (data : Bytes) (tick : Nat) :
    (s.imageObject kind obj data tick).fabric = s.fabric := by
  unfold State.imageObject; (repeat' split) <;> rfl
@[simp] theorem State.imageObject_power (s : State) (kind : Nat) (obj : Nat) (data : Bytes) (tick : Nat) :
    (s.imageObject kind obj data tick).power = s.power := by
  unfold State.imageObject; (repeat' split) <;> rfl
@[simp] theorem State.imageObject_twill (s : State) (kind : Nat) (obj : Nat) (data : Bytes) (tick : Nat) :
    (s.imageObject kind obj data tick).twill = s.twill := by
  unfold State.imageObject; (repeat' split) <;> rfl
@[simp] theorem State.imageObject_jacquard (s : State) (kind : Nat) (obj : Nat) (data : Bytes) (tick : Nat) :
    (s.imageObject kind obj data tick).jacquard = s.jacquard := by
  unfold State.imageObject; (repeat' split) <;> rfl
@[simp] theorem State.imageObject_calico (s : State) (kind : Nat) (obj : Nat) (data : Bytes) (tick : Nat) :
    (s.imageObject kind obj data tick).calico = s.calico := by
  unfold State.imageObject; (repeat' split) <;> rfl
@[simp] theorem State.imageObject_store (s : State) (kind : Nat) (obj : Nat) (data : Bytes) (tick : Nat) :
    (s.imageObject kind obj data tick).store = s.store := by
  unfold State.imageObject; (repeat' split) <;> rfl
@[simp] theorem State.imageObject_buckram (s : State) (kind : Nat) (obj : Nat) (data : Bytes) (tick : Nat) :
    (s.imageObject kind obj data tick).buckram = s.buckram := by
  unfold State.imageObject; (repeat' split) <;> rfl
@[simp] theorem State.imageObject_drawn (s : State) (kind : Nat) (obj : Nat) (data : Bytes) (tick : Nat) :
    (s.imageObject kind obj data tick).drawn = s.drawn := by
  unfold State.imageObject; (repeat' split) <;> rfl
@[simp] theorem State.send_pending (s : State) (m : Msg) (awaitReply : Bool) (cmd : Option Nat) (purpose : Nat) :
    (s.send m awaitReply cmd purpose).pending = s.pending := by
  unfold State.send; (repeat' split) <;> rfl
@[simp] theorem State.send_host (s : State) (m : Msg) (awaitReply : Bool) (cmd : Option Nat) (purpose : Nat) :
    (s.send m awaitReply cmd purpose).host = s.host := by
  unfold State.send; (repeat' split) <;> rfl
@[simp] theorem State.send_clock (s : State) (m : Msg) (awaitReply : Bool) (cmd : Option Nat) (purpose : Nat) :
    (s.send m awaitReply cmd purpose).clock = s.clock := by
  unfold State.send; (repeat' split) <;> rfl
@[simp] theorem State.send_faults (s : State) (m : Msg) (awaitReply : Bool) (cmd : Option Nat) (purpose : Nat) :
    (s.send m awaitReply cmd purpose).faults = s.faults := by
  unfold State.send; (repeat' split) <;> rfl
@[simp] theorem State.send_pins (s : State) (m : Msg) (awaitReply : Bool) (cmd : Option Nat) (purpose : Nat) :
    (s.send m awaitReply cmd purpose).pins = s.pins := by
  unfold State.send; (repeat' split) <;> rfl
@[simp] theorem State.send_up (s : State) (m : Msg) (awaitReply : Bool) (cmd : Option Nat) (purpose : Nat) :
    (s.send m awaitReply cmd purpose).up = s.up := by
  unfold State.send; (repeat' split) <;> rfl
@[simp] theorem State.send_streams (s : State) (m : Msg) (awaitReply : Bool) (cmd : Option Nat) (purpose : Nat) :
    (s.send m awaitReply cmd purpose).streams = s.streams := by
  unfold State.send; (repeat' split) <;> rfl
@[simp] theorem State.send_carve (s : State) (m : Msg) (awaitReply : Bool) (cmd : Option Nat) (purpose : Nat) :
    (s.send m awaitReply cmd purpose).carve = s.carve := by
  unfold State.send; (repeat' split) <;> rfl
@[simp] theorem State.send_ports (s : State) (m : Msg) (awaitReply : Bool) (cmd : Option Nat) (purpose : Nat) :
    (s.send m awaitReply cmd purpose).ports = s.ports := by
  unfold State.send; (repeat' split) <;> rfl
@[simp] theorem State.send_access (s : State) (m : Msg) (awaitReply : Bool) (cmd : Option Nat) (purpose : Nat) :
    (s.send m awaitReply cmd purpose).access = s.access := by
  unfold State.send; (repeat' split) <;> rfl
@[simp] theorem State.send_twin (s : State) (m : Msg) (awaitReply : Bool) (cmd : Option Nat) (purpose : Nat) :
    (s.send m awaitReply cmd purpose).twin = s.twin := by
  unfold State.send; (repeat' split) <;> rfl
@[simp] theorem State.send_sec (s : State) (m : Msg) (awaitReply : Bool) (cmd : Option Nat) (purpose : Nat) :
    (s.send m awaitReply cmd purpose).sec = s.sec := by
  unfold State.send; (repeat' split) <;> rfl
@[simp] theorem State.send_agent (s : State) (m : Msg) (awaitReply : Bool) (cmd : Option Nat) (purpose : Nat) :
    (s.send m awaitReply cmd purpose).agent = s.agent := by
  unfold State.send; (repeat' split) <;> rfl
@[simp] theorem State.send_fabric (s : State) (m : Msg) (awaitReply : Bool) (cmd : Option Nat) (purpose : Nat) :
    (s.send m awaitReply cmd purpose).fabric = s.fabric := by
  unfold State.send; (repeat' split) <;> rfl
@[simp] theorem State.send_power (s : State) (m : Msg) (awaitReply : Bool) (cmd : Option Nat) (purpose : Nat) :
    (s.send m awaitReply cmd purpose).power = s.power := by
  unfold State.send; (repeat' split) <;> rfl
@[simp] theorem State.send_twill (s : State) (m : Msg) (awaitReply : Bool) (cmd : Option Nat) (purpose : Nat) :
    (s.send m awaitReply cmd purpose).twill = s.twill := by
  unfold State.send; (repeat' split) <;> rfl
@[simp] theorem State.send_jacquard (s : State) (m : Msg) (awaitReply : Bool) (cmd : Option Nat) (purpose : Nat) :
    (s.send m awaitReply cmd purpose).jacquard = s.jacquard := by
  unfold State.send; (repeat' split) <;> rfl
@[simp] theorem State.send_calico (s : State) (m : Msg) (awaitReply : Bool) (cmd : Option Nat) (purpose : Nat) :
    (s.send m awaitReply cmd purpose).calico = s.calico := by
  unfold State.send; (repeat' split) <;> rfl
@[simp] theorem State.send_store (s : State) (m : Msg) (awaitReply : Bool) (cmd : Option Nat) (purpose : Nat) :
    (s.send m awaitReply cmd purpose).store = s.store := by
  unfold State.send; (repeat' split) <;> rfl
@[simp] theorem State.send_buckram (s : State) (m : Msg) (awaitReply : Bool) (cmd : Option Nat) (purpose : Nat) :
    (s.send m awaitReply cmd purpose).buckram = s.buckram := by
  unfold State.send; (repeat' split) <;> rfl
@[simp] theorem State.send_drawn (s : State) (m : Msg) (awaitReply : Bool) (cmd : Option Nat) (purpose : Nat) :
    (s.send m awaitReply cmd purpose).drawn = s.drawn := by
  unfold State.send; (repeat' split) <;> rfl
@[simp] theorem State.mirrorDelta_pending (s : State) (kind : Nat) (obj : Nat) (data : Bytes) (tick : Nat) :
    (s.mirrorDelta kind obj data tick).pending = s.pending := by
  unfold State.mirrorDelta; (try dsimp only); (repeat' split) <;> simp
@[simp] theorem State.mirrorDelta_host (s : State) (kind : Nat) (obj : Nat) (data : Bytes) (tick : Nat) :
    (s.mirrorDelta kind obj data tick).host = s.host := by
  unfold State.mirrorDelta; (try dsimp only); (repeat' split) <;> simp
@[simp] theorem State.mirrorDelta_clock (s : State) (kind : Nat) (obj : Nat) (data : Bytes) (tick : Nat) :
    (s.mirrorDelta kind obj data tick).clock = s.clock := by
  unfold State.mirrorDelta; (try dsimp only); (repeat' split) <;> simp
@[simp] theorem State.mirrorDelta_faults (s : State) (kind : Nat) (obj : Nat) (data : Bytes) (tick : Nat) :
    (s.mirrorDelta kind obj data tick).faults = s.faults := by
  unfold State.mirrorDelta; (try dsimp only); (repeat' split) <;> simp
@[simp] theorem State.mirrorDelta_pins (s : State) (kind : Nat) (obj : Nat) (data : Bytes) (tick : Nat) :
    (s.mirrorDelta kind obj data tick).pins = s.pins := by
  unfold State.mirrorDelta; (try dsimp only); (repeat' split) <;> simp
@[simp] theorem State.mirrorDelta_up (s : State) (kind : Nat) (obj : Nat) (data : Bytes) (tick : Nat) :
    (s.mirrorDelta kind obj data tick).up = s.up := by
  unfold State.mirrorDelta; (try dsimp only); (repeat' split) <;> simp
@[simp] theorem State.mirrorDelta_streams (s : State) (kind : Nat) (obj : Nat) (data : Bytes) (tick : Nat) :
    (s.mirrorDelta kind obj data tick).streams = s.streams := by
  unfold State.mirrorDelta; (try dsimp only); (repeat' split) <;> simp
@[simp] theorem State.mirrorDelta_carve (s : State) (kind : Nat) (obj : Nat) (data : Bytes) (tick : Nat) :
    (s.mirrorDelta kind obj data tick).carve = s.carve := by
  unfold State.mirrorDelta; (try dsimp only); (repeat' split) <;> simp
@[simp] theorem State.mirrorDelta_ports (s : State) (kind : Nat) (obj : Nat) (data : Bytes) (tick : Nat) :
    (s.mirrorDelta kind obj data tick).ports = s.ports := by
  unfold State.mirrorDelta; (try dsimp only); (repeat' split) <;> simp
@[simp] theorem State.mirrorDelta_access (s : State) (kind : Nat) (obj : Nat) (data : Bytes) (tick : Nat) :
    (s.mirrorDelta kind obj data tick).access = s.access := by
  unfold State.mirrorDelta; (try dsimp only); (repeat' split) <;> simp
@[simp] theorem State.mirrorDelta_sec (s : State) (kind : Nat) (obj : Nat) (data : Bytes) (tick : Nat) :
    (s.mirrorDelta kind obj data tick).sec = s.sec := by
  unfold State.mirrorDelta; (try dsimp only); (repeat' split) <;> simp
@[simp] theorem State.mirrorDelta_agent (s : State) (kind : Nat) (obj : Nat) (data : Bytes) (tick : Nat) :
    (s.mirrorDelta kind obj data tick).agent = s.agent := by
  unfold State.mirrorDelta; (try dsimp only); (repeat' split) <;> simp
@[simp] theorem State.mirrorDelta_fabric (s : State) (kind : Nat) (obj : Nat) (data : Bytes) (tick : Nat) :
    (s.mirrorDelta kind obj data tick).fabric = s.fabric := by
  unfold State.mirrorDelta; (try dsimp only); (repeat' split) <;> simp
@[simp] theorem State.mirrorDelta_power (s : State) (kind : Nat) (obj : Nat) (data : Bytes) (tick : Nat) :
    (s.mirrorDelta kind obj data tick).power = s.power := by
  unfold State.mirrorDelta; (try dsimp only); (repeat' split) <;> simp
@[simp] theorem State.mirrorDelta_twill (s : State) (kind : Nat) (obj : Nat) (data : Bytes) (tick : Nat) :
    (s.mirrorDelta kind obj data tick).twill = s.twill := by
  unfold State.mirrorDelta; (try dsimp only); (repeat' split) <;> simp
@[simp] theorem State.mirrorDelta_jacquard (s : State) (kind : Nat) (obj : Nat) (data : Bytes) (tick : Nat) :
    (s.mirrorDelta kind obj data tick).jacquard = s.jacquard := by
  unfold State.mirrorDelta; (try dsimp only); (repeat' split) <;> simp
@[simp] theorem State.mirrorDelta_calico (s : State) (kind : Nat) (obj : Nat) (data : Bytes) (tick : Nat) :
    (s.mirrorDelta kind obj data tick).calico = s.calico := by
  unfold State.mirrorDelta; (try dsimp only); (repeat' split) <;> simp
@[simp] theorem State.mirrorDelta_store (s : State) (kind : Nat) (obj : Nat) (data : Bytes) (tick : Nat) :
    (s.mirrorDelta kind obj data tick).store = s.store := by
  unfold State.mirrorDelta; (try dsimp only); (repeat' split) <;> simp
@[simp] theorem State.mirrorDelta_buckram (s : State) (kind : Nat) (obj : Nat) (data : Bytes) (tick : Nat) :
    (s.mirrorDelta kind obj data tick).buckram = s.buckram := by
  unfold State.mirrorDelta; (try dsimp only); (repeat' split) <;> simp
@[simp] theorem State.mirrorDelta_drawn (s : State) (kind : Nat) (obj : Nat) (data : Bytes) (tick : Nat) :
    (s.mirrorDelta kind obj data tick).drawn = s.drawn := by
  unfold State.mirrorDelta; (try dsimp only); (repeat' split) <;> simp
@[simp] theorem State.mirrorAction_pending (s : State) (dst : Nat) (type : Nat) (body : Bytes) (tick : Nat) :
    (s.mirrorAction dst type body tick).pending = s.pending := by
  simp [State.mirrorAction]
@[simp] theorem State.mirrorAction_host (s : State) (dst : Nat) (type : Nat) (body : Bytes) (tick : Nat) :
    (s.mirrorAction dst type body tick).host = s.host := by
  simp [State.mirrorAction]
@[simp] theorem State.mirrorAction_clock (s : State) (dst : Nat) (type : Nat) (body : Bytes) (tick : Nat) :
    (s.mirrorAction dst type body tick).clock = s.clock := by
  simp [State.mirrorAction]
@[simp] theorem State.mirrorAction_faults (s : State) (dst : Nat) (type : Nat) (body : Bytes) (tick : Nat) :
    (s.mirrorAction dst type body tick).faults = s.faults := by
  simp [State.mirrorAction]
@[simp] theorem State.mirrorAction_pins (s : State) (dst : Nat) (type : Nat) (body : Bytes) (tick : Nat) :
    (s.mirrorAction dst type body tick).pins = s.pins := by
  simp [State.mirrorAction]
@[simp] theorem State.mirrorAction_up (s : State) (dst : Nat) (type : Nat) (body : Bytes) (tick : Nat) :
    (s.mirrorAction dst type body tick).up = s.up := by
  simp [State.mirrorAction]
@[simp] theorem State.mirrorAction_streams (s : State) (dst : Nat) (type : Nat) (body : Bytes) (tick : Nat) :
    (s.mirrorAction dst type body tick).streams = s.streams := by
  simp [State.mirrorAction]
@[simp] theorem State.mirrorAction_carve (s : State) (dst : Nat) (type : Nat) (body : Bytes) (tick : Nat) :
    (s.mirrorAction dst type body tick).carve = s.carve := by
  simp [State.mirrorAction]
@[simp] theorem State.mirrorAction_ports (s : State) (dst : Nat) (type : Nat) (body : Bytes) (tick : Nat) :
    (s.mirrorAction dst type body tick).ports = s.ports := by
  simp [State.mirrorAction]
@[simp] theorem State.mirrorAction_access (s : State) (dst : Nat) (type : Nat) (body : Bytes) (tick : Nat) :
    (s.mirrorAction dst type body tick).access = s.access := by
  simp [State.mirrorAction]
@[simp] theorem State.mirrorAction_sec (s : State) (dst : Nat) (type : Nat) (body : Bytes) (tick : Nat) :
    (s.mirrorAction dst type body tick).sec = s.sec := by
  simp [State.mirrorAction]
@[simp] theorem State.mirrorAction_agent (s : State) (dst : Nat) (type : Nat) (body : Bytes) (tick : Nat) :
    (s.mirrorAction dst type body tick).agent = s.agent := by
  simp [State.mirrorAction]
@[simp] theorem State.mirrorAction_fabric (s : State) (dst : Nat) (type : Nat) (body : Bytes) (tick : Nat) :
    (s.mirrorAction dst type body tick).fabric = s.fabric := by
  simp [State.mirrorAction]
@[simp] theorem State.mirrorAction_power (s : State) (dst : Nat) (type : Nat) (body : Bytes) (tick : Nat) :
    (s.mirrorAction dst type body tick).power = s.power := by
  simp [State.mirrorAction]
@[simp] theorem State.mirrorAction_twill (s : State) (dst : Nat) (type : Nat) (body : Bytes) (tick : Nat) :
    (s.mirrorAction dst type body tick).twill = s.twill := by
  simp [State.mirrorAction]
@[simp] theorem State.mirrorAction_jacquard (s : State) (dst : Nat) (type : Nat) (body : Bytes) (tick : Nat) :
    (s.mirrorAction dst type body tick).jacquard = s.jacquard := by
  simp [State.mirrorAction]
@[simp] theorem State.mirrorAction_calico (s : State) (dst : Nat) (type : Nat) (body : Bytes) (tick : Nat) :
    (s.mirrorAction dst type body tick).calico = s.calico := by
  simp [State.mirrorAction]
@[simp] theorem State.mirrorAction_store (s : State) (dst : Nat) (type : Nat) (body : Bytes) (tick : Nat) :
    (s.mirrorAction dst type body tick).store = s.store := by
  simp [State.mirrorAction]
@[simp] theorem State.mirrorAction_buckram (s : State) (dst : Nat) (type : Nat) (body : Bytes) (tick : Nat) :
    (s.mirrorAction dst type body tick).buckram = s.buckram := by
  simp [State.mirrorAction]
@[simp] theorem State.mirrorAction_drawn (s : State) (dst : Nat) (type : Nat) (body : Bytes) (tick : Nat) :
    (s.mirrorAction dst type body tick).drawn = s.drawn := by
  simp [State.mirrorAction]
@[simp] theorem State.setEpochState_pending (s : State) (st : EpochState) :
    (s.setEpochState st).pending = s.pending := by
  unfold State.setEpochState; (try dsimp only); (repeat' split) <;> simp
@[simp] theorem State.setEpochState_host (s : State) (st : EpochState) :
    (s.setEpochState st).host = s.host := by
  unfold State.setEpochState; (try dsimp only); (repeat' split) <;> simp
@[simp] theorem State.setEpochState_clock (s : State) (st : EpochState) :
    (s.setEpochState st).clock = s.clock := by
  unfold State.setEpochState; (try dsimp only); (repeat' split) <;> simp
@[simp] theorem State.setEpochState_faults (s : State) (st : EpochState) :
    (s.setEpochState st).faults = s.faults := by
  unfold State.setEpochState; (try dsimp only); (repeat' split) <;> simp
@[simp] theorem State.setEpochState_pins (s : State) (st : EpochState) :
    (s.setEpochState st).pins = s.pins := by
  unfold State.setEpochState; (try dsimp only); (repeat' split) <;> simp
@[simp] theorem State.setEpochState_up (s : State) (st : EpochState) :
    (s.setEpochState st).up = s.up := by
  unfold State.setEpochState; (try dsimp only); (repeat' split) <;> simp
@[simp] theorem State.setEpochState_streams (s : State) (st : EpochState) :
    (s.setEpochState st).streams = s.streams := by
  unfold State.setEpochState; (try dsimp only); (repeat' split) <;> simp
@[simp] theorem State.setEpochState_carve (s : State) (st : EpochState) :
    (s.setEpochState st).carve = s.carve := by
  unfold State.setEpochState; (try dsimp only); (repeat' split) <;> simp
@[simp] theorem State.setEpochState_ports (s : State) (st : EpochState) :
    (s.setEpochState st).ports = s.ports := by
  unfold State.setEpochState; (try dsimp only); (repeat' split) <;> simp
@[simp] theorem State.setEpochState_access (s : State) (st : EpochState) :
    (s.setEpochState st).access = s.access := by
  unfold State.setEpochState; (try dsimp only); (repeat' split) <;> simp
@[simp] theorem State.setEpochState_sec (s : State) (st : EpochState) :
    (s.setEpochState st).sec = s.sec := by
  unfold State.setEpochState; (try dsimp only); (repeat' split) <;> simp
@[simp] theorem State.setEpochState_agent (s : State) (st : EpochState) :
    (s.setEpochState st).agent = s.agent := by
  unfold State.setEpochState; (try dsimp only); (repeat' split) <;> simp
@[simp] theorem State.setEpochState_power (s : State) (st : EpochState) :
    (s.setEpochState st).power = s.power := by
  unfold State.setEpochState; (try dsimp only); (repeat' split) <;> simp
@[simp] theorem State.setEpochState_twill (s : State) (st : EpochState) :
    (s.setEpochState st).twill = s.twill := by
  unfold State.setEpochState; (try dsimp only); (repeat' split) <;> simp
@[simp] theorem State.setEpochState_jacquard (s : State) (st : EpochState) :
    (s.setEpochState st).jacquard = s.jacquard := by
  unfold State.setEpochState; (try dsimp only); (repeat' split) <;> simp
@[simp] theorem State.setEpochState_calico (s : State) (st : EpochState) :
    (s.setEpochState st).calico = s.calico := by
  unfold State.setEpochState; (try dsimp only); (repeat' split) <;> simp
@[simp] theorem State.setEpochState_store (s : State) (st : EpochState) :
    (s.setEpochState st).store = s.store := by
  unfold State.setEpochState; (try dsimp only); (repeat' split) <;> simp
@[simp] theorem State.setEpochState_buckram (s : State) (st : EpochState) :
    (s.setEpochState st).buckram = s.buckram := by
  unfold State.setEpochState; (try dsimp only); (repeat' split) <;> simp
@[simp] theorem State.setEpochState_drawn (s : State) (st : EpochState) :
    (s.setEpochState st).drawn = s.drawn := by
  unfold State.setEpochState; (try dsimp only); (repeat' split) <;> simp
@[simp] theorem State.setShelf_pending (s : State) (h : Nat) (x : Shelf) :
    (s.setShelf h x).pending = s.pending := by
  simp [State.setShelf]
@[simp] theorem State.setShelf_host (s : State) (h : Nat) (x : Shelf) :
    (s.setShelf h x).host = s.host := by
  simp [State.setShelf]
@[simp] theorem State.setShelf_clock (s : State) (h : Nat) (x : Shelf) :
    (s.setShelf h x).clock = s.clock := by
  simp [State.setShelf]
@[simp] theorem State.setShelf_faults (s : State) (h : Nat) (x : Shelf) :
    (s.setShelf h x).faults = s.faults := by
  simp [State.setShelf]
@[simp] theorem State.setShelf_pins (s : State) (h : Nat) (x : Shelf) :
    (s.setShelf h x).pins = s.pins := by
  simp [State.setShelf]
@[simp] theorem State.setShelf_up (s : State) (h : Nat) (x : Shelf) :
    (s.setShelf h x).up = s.up := by
  simp [State.setShelf]
@[simp] theorem State.setShelf_streams (s : State) (h : Nat) (x : Shelf) :
    (s.setShelf h x).streams = s.streams := by
  simp [State.setShelf]
@[simp] theorem State.setShelf_carve (s : State) (h : Nat) (x : Shelf) :
    (s.setShelf h x).carve = s.carve := by
  simp [State.setShelf]
@[simp] theorem State.setShelf_ports (s : State) (h : Nat) (x : Shelf) :
    (s.setShelf h x).ports = s.ports := by
  simp [State.setShelf]
@[simp] theorem State.setShelf_access (s : State) (h : Nat) (x : Shelf) :
    (s.setShelf h x).access = s.access := by
  simp [State.setShelf]
@[simp] theorem State.setShelf_sec (s : State) (h : Nat) (x : Shelf) :
    (s.setShelf h x).sec = s.sec := by
  simp [State.setShelf]
@[simp] theorem State.setShelf_agent (s : State) (h : Nat) (x : Shelf) :
    (s.setShelf h x).agent = s.agent := by
  simp [State.setShelf]
@[simp] theorem State.setShelf_fabric (s : State) (h : Nat) (x : Shelf) :
    (s.setShelf h x).fabric = s.fabric := by
  simp [State.setShelf]
@[simp] theorem State.setShelf_twill (s : State) (h : Nat) (x : Shelf) :
    (s.setShelf h x).twill = s.twill := by
  simp [State.setShelf]
@[simp] theorem State.setShelf_jacquard (s : State) (h : Nat) (x : Shelf) :
    (s.setShelf h x).jacquard = s.jacquard := by
  simp [State.setShelf]
@[simp] theorem State.setShelf_calico (s : State) (h : Nat) (x : Shelf) :
    (s.setShelf h x).calico = s.calico := by
  simp [State.setShelf]
@[simp] theorem State.setShelf_store (s : State) (h : Nat) (x : Shelf) :
    (s.setShelf h x).store = s.store := by
  simp [State.setShelf]
@[simp] theorem State.setShelf_buckram (s : State) (h : Nat) (x : Shelf) :
    (s.setShelf h x).buckram = s.buckram := by
  simp [State.setShelf]
@[simp] theorem State.setShelf_drawn (s : State) (h : Nat) (x : Shelf) :
    (s.setShelf h x).drawn = s.drawn := by
  simp [State.setShelf]
@[simp] theorem State.spillAll_pending (s : State) :
    (s.spillAll).pending = s.pending := rfl
@[simp] theorem State.spillAll_host (s : State) :
    (s.spillAll).host = s.host := rfl
@[simp] theorem State.spillAll_clock (s : State) :
    (s.spillAll).clock = s.clock := rfl
@[simp] theorem State.spillAll_pins (s : State) :
    (s.spillAll).pins = s.pins := rfl
@[simp] theorem State.spillAll_up (s : State) :
    (s.spillAll).up = s.up := rfl
@[simp] theorem State.spillAll_streams (s : State) :
    (s.spillAll).streams = s.streams := rfl
@[simp] theorem State.spillAll_carve (s : State) :
    (s.spillAll).carve = s.carve := rfl
@[simp] theorem State.spillAll_ports (s : State) :
    (s.spillAll).ports = s.ports := rfl
@[simp] theorem State.spillAll_access (s : State) :
    (s.spillAll).access = s.access := rfl
@[simp] theorem State.spillAll_twin (s : State) :
    (s.spillAll).twin = s.twin := rfl
@[simp] theorem State.spillAll_sec (s : State) :
    (s.spillAll).sec = s.sec := rfl
@[simp] theorem State.spillAll_mail (s : State) :
    (s.spillAll).mail = s.mail := rfl
@[simp] theorem State.spillAll_agent (s : State) :
    (s.spillAll).agent = s.agent := rfl
@[simp] theorem State.spillAll_fabric (s : State) :
    (s.spillAll).fabric = s.fabric := rfl
@[simp] theorem State.spillAll_power (s : State) :
    (s.spillAll).power = s.power := rfl
@[simp] theorem State.spillAll_twill (s : State) :
    (s.spillAll).twill = s.twill := rfl
@[simp] theorem State.spillAll_jacquard (s : State) :
    (s.spillAll).jacquard = s.jacquard := rfl
@[simp] theorem State.spillAll_calico (s : State) :
    (s.spillAll).calico = s.calico := rfl
@[simp] theorem State.spillAll_store (s : State) :
    (s.spillAll).store = s.store := rfl
@[simp] theorem State.spillAll_buckram (s : State) :
    (s.spillAll).buckram = s.buckram := rfl
@[simp] theorem State.spillAll_drawn (s : State) :
    (s.spillAll).drawn = s.drawn := rfl
@[simp] theorem State.halt_pending (s : State) (source : Nat) (code : Nat) :
    (s.halt source code).pending = s.pending := by
  simp [State.halt]
@[simp] theorem State.halt_clock (s : State) (source : Nat) (code : Nat) :
    (s.halt source code).clock = s.clock := by
  simp [State.halt]
@[simp] theorem State.halt_pins (s : State) (source : Nat) (code : Nat) :
    (s.halt source code).pins = s.pins := by
  simp [State.halt]
@[simp] theorem State.halt_streams (s : State) (source : Nat) (code : Nat) :
    (s.halt source code).streams = s.streams := by
  simp [State.halt]
@[simp] theorem State.halt_carve (s : State) (source : Nat) (code : Nat) :
    (s.halt source code).carve = s.carve := by
  simp [State.halt]
@[simp] theorem State.halt_ports (s : State) (source : Nat) (code : Nat) :
    (s.halt source code).ports = s.ports := by
  simp [State.halt]
@[simp] theorem State.halt_access (s : State) (source : Nat) (code : Nat) :
    (s.halt source code).access = s.access := by
  simp [State.halt]
@[simp] theorem State.halt_twin (s : State) (source : Nat) (code : Nat) :
    (s.halt source code).twin = s.twin := by
  simp [State.halt]
@[simp] theorem State.halt_sec (s : State) (source : Nat) (code : Nat) :
    (s.halt source code).sec = s.sec := by
  simp [State.halt]
@[simp] theorem State.halt_agent (s : State) (source : Nat) (code : Nat) :
    (s.halt source code).agent = s.agent := by
  simp [State.halt]
@[simp] theorem State.halt_fabric (s : State) (source : Nat) (code : Nat) :
    (s.halt source code).fabric = s.fabric := by
  simp [State.halt]
@[simp] theorem State.halt_power (s : State) (source : Nat) (code : Nat) :
    (s.halt source code).power = s.power := by
  simp [State.halt]
@[simp] theorem State.halt_twill (s : State) (source : Nat) (code : Nat) :
    (s.halt source code).twill = s.twill := by
  simp [State.halt]
@[simp] theorem State.halt_jacquard (s : State) (source : Nat) (code : Nat) :
    (s.halt source code).jacquard = s.jacquard := by
  simp [State.halt]
@[simp] theorem State.halt_calico (s : State) (source : Nat) (code : Nat) :
    (s.halt source code).calico = s.calico := by
  simp [State.halt]
@[simp] theorem State.halt_store (s : State) (source : Nat) (code : Nat) :
    (s.halt source code).store = s.store := by
  simp [State.halt]
@[simp] theorem State.halt_buckram (s : State) (source : Nat) (code : Nat) :
    (s.halt source code).buckram = s.buckram := by
  simp [State.halt]
@[simp] theorem State.halt_drawn (s : State) (source : Nat) (code : Nat) :
    (s.halt source code).drawn = s.drawn := by
  simp [State.halt]
@[simp] theorem State.mergeFault_pending (s : State) (code : Nat) (sev : Nat) (act : Nat) (f : FaultIn) (h : Handling) :
    (s.mergeFault code sev act f h).pending = s.pending := by
  unfold State.mergeFault; (try dsimp only); (repeat' split) <;> simp
@[simp] theorem State.mergeFault_clock (s : State) (code : Nat) (sev : Nat) (act : Nat) (f : FaultIn) (h : Handling) :
    (s.mergeFault code sev act f h).clock = s.clock := by
  unfold State.mergeFault; (try dsimp only); (repeat' split) <;> simp
@[simp] theorem State.mergeFault_pins (s : State) (code : Nat) (sev : Nat) (act : Nat) (f : FaultIn) (h : Handling) :
    (s.mergeFault code sev act f h).pins = s.pins := by
  unfold State.mergeFault; (try dsimp only); (repeat' split) <;> simp
@[simp] theorem State.mergeFault_streams (s : State) (code : Nat) (sev : Nat) (act : Nat) (f : FaultIn) (h : Handling) :
    (s.mergeFault code sev act f h).streams = s.streams := by
  unfold State.mergeFault; (try dsimp only); (repeat' split) <;> simp
@[simp] theorem State.mergeFault_carve (s : State) (code : Nat) (sev : Nat) (act : Nat) (f : FaultIn) (h : Handling) :
    (s.mergeFault code sev act f h).carve = s.carve := by
  unfold State.mergeFault; (try dsimp only); (repeat' split) <;> simp
@[simp] theorem State.mergeFault_ports (s : State) (code : Nat) (sev : Nat) (act : Nat) (f : FaultIn) (h : Handling) :
    (s.mergeFault code sev act f h).ports = s.ports := by
  unfold State.mergeFault; (try dsimp only); (repeat' split) <;> simp
@[simp] theorem State.mergeFault_access (s : State) (code : Nat) (sev : Nat) (act : Nat) (f : FaultIn) (h : Handling) :
    (s.mergeFault code sev act f h).access = s.access := by
  unfold State.mergeFault; (try dsimp only); (repeat' split) <;> simp
@[simp] theorem State.mergeFault_twin (s : State) (code : Nat) (sev : Nat) (act : Nat) (f : FaultIn) (h : Handling) :
    (s.mergeFault code sev act f h).twin = s.twin := by
  unfold State.mergeFault; (try dsimp only); (repeat' split) <;> simp
@[simp] theorem State.mergeFault_sec (s : State) (code : Nat) (sev : Nat) (act : Nat) (f : FaultIn) (h : Handling) :
    (s.mergeFault code sev act f h).sec = s.sec := by
  unfold State.mergeFault; (try dsimp only); (repeat' split) <;> simp
@[simp] theorem State.mergeFault_agent (s : State) (code : Nat) (sev : Nat) (act : Nat) (f : FaultIn) (h : Handling) :
    (s.mergeFault code sev act f h).agent = s.agent := by
  unfold State.mergeFault; (try dsimp only); (repeat' split) <;> simp
@[simp] theorem State.mergeFault_fabric (s : State) (code : Nat) (sev : Nat) (act : Nat) (f : FaultIn) (h : Handling) :
    (s.mergeFault code sev act f h).fabric = s.fabric := by
  unfold State.mergeFault; (try dsimp only); (repeat' split) <;> simp
@[simp] theorem State.mergeFault_power (s : State) (code : Nat) (sev : Nat) (act : Nat) (f : FaultIn) (h : Handling) :
    (s.mergeFault code sev act f h).power = s.power := by
  unfold State.mergeFault; (try dsimp only); (repeat' split) <;> simp
@[simp] theorem State.mergeFault_twill (s : State) (code : Nat) (sev : Nat) (act : Nat) (f : FaultIn) (h : Handling) :
    (s.mergeFault code sev act f h).twill = s.twill := by
  unfold State.mergeFault; (try dsimp only); (repeat' split) <;> simp
@[simp] theorem State.mergeFault_jacquard (s : State) (code : Nat) (sev : Nat) (act : Nat) (f : FaultIn) (h : Handling) :
    (s.mergeFault code sev act f h).jacquard = s.jacquard := by
  unfold State.mergeFault; (try dsimp only); (repeat' split) <;> simp
@[simp] theorem State.mergeFault_calico (s : State) (code : Nat) (sev : Nat) (act : Nat) (f : FaultIn) (h : Handling) :
    (s.mergeFault code sev act f h).calico = s.calico := by
  unfold State.mergeFault; (try dsimp only); (repeat' split) <;> simp
@[simp] theorem State.mergeFault_store (s : State) (code : Nat) (sev : Nat) (act : Nat) (f : FaultIn) (h : Handling) :
    (s.mergeFault code sev act f h).store = s.store := by
  unfold State.mergeFault; (try dsimp only); (repeat' split) <;> simp
@[simp] theorem State.mergeFault_buckram (s : State) (code : Nat) (sev : Nat) (act : Nat) (f : FaultIn) (h : Handling) :
    (s.mergeFault code sev act f h).buckram = s.buckram := by
  unfold State.mergeFault; (try dsimp only); (repeat' split) <;> simp
@[simp] theorem State.mergeFault_drawn (s : State) (code : Nat) (sev : Nat) (act : Nat) (f : FaultIn) (h : Handling) :
    (s.mergeFault code sev act f h).drawn = s.drawn := by
  unfold State.mergeFault; (try dsimp only); (repeat' split) <;> simp
@[simp] theorem State.fault_pending (s : State) (f : FaultIn) :
    (s.fault f).pending = s.pending := by
  unfold State.fault; (try dsimp only); (repeat' split) <;> simp
@[simp] theorem State.fault_clock (s : State) (f : FaultIn) :
    (s.fault f).clock = s.clock := by
  unfold State.fault; (try dsimp only); (repeat' split) <;> simp
@[simp] theorem State.fault_pins (s : State) (f : FaultIn) :
    (s.fault f).pins = s.pins := by
  unfold State.fault; (try dsimp only); (repeat' split) <;> simp
@[simp] theorem State.fault_streams (s : State) (f : FaultIn) :
    (s.fault f).streams = s.streams := by
  unfold State.fault; (try dsimp only); (repeat' split) <;> simp
@[simp] theorem State.fault_carve (s : State) (f : FaultIn) :
    (s.fault f).carve = s.carve := by
  unfold State.fault; (try dsimp only); (repeat' split) <;> simp
@[simp] theorem State.fault_ports (s : State) (f : FaultIn) :
    (s.fault f).ports = s.ports := by
  unfold State.fault; (try dsimp only); (repeat' split) <;> simp
@[simp] theorem State.fault_access (s : State) (f : FaultIn) :
    (s.fault f).access = s.access := by
  unfold State.fault; (try dsimp only); (repeat' split) <;> simp
@[simp] theorem State.fault_twin (s : State) (f : FaultIn) :
    (s.fault f).twin = s.twin := by
  unfold State.fault; (try dsimp only); (repeat' split) <;> simp
@[simp] theorem State.fault_sec (s : State) (f : FaultIn) :
    (s.fault f).sec = s.sec := by
  unfold State.fault; (try dsimp only); (repeat' split) <;> simp
@[simp] theorem State.fault_agent (s : State) (f : FaultIn) :
    (s.fault f).agent = s.agent := by
  unfold State.fault; (try dsimp only); (repeat' split) <;> simp
@[simp] theorem State.fault_fabric (s : State) (f : FaultIn) :
    (s.fault f).fabric = s.fabric := by
  unfold State.fault; (try dsimp only); (repeat' split) <;> simp
@[simp] theorem State.fault_power (s : State) (f : FaultIn) :
    (s.fault f).power = s.power := by
  unfold State.fault; (try dsimp only); (repeat' split) <;> simp
@[simp] theorem State.fault_twill (s : State) (f : FaultIn) :
    (s.fault f).twill = s.twill := by
  unfold State.fault; (try dsimp only); (repeat' split) <;> simp
@[simp] theorem State.fault_jacquard (s : State) (f : FaultIn) :
    (s.fault f).jacquard = s.jacquard := by
  unfold State.fault; (try dsimp only); (repeat' split) <;> simp
@[simp] theorem State.fault_calico (s : State) (f : FaultIn) :
    (s.fault f).calico = s.calico := by
  unfold State.fault; (try dsimp only); (repeat' split) <;> simp
@[simp] theorem State.fault_store (s : State) (f : FaultIn) :
    (s.fault f).store = s.store := by
  unfold State.fault; (try dsimp only); (repeat' split) <;> simp
@[simp] theorem State.fault_buckram (s : State) (f : FaultIn) :
    (s.fault f).buckram = s.buckram := by
  unfold State.fault; (try dsimp only); (repeat' split) <;> simp
@[simp] theorem State.fault_drawn (s : State) (f : FaultIn) :
    (s.fault f).drawn = s.drawn := by
  unfold State.fault; (try dsimp only); (repeat' split) <;> simp
@[simp] theorem State.setGuard_pending (s : State) (g : Nat) :
    (s.setGuard g).pending = s.pending := by
  unfold State.setGuard; (try dsimp only); (repeat' split) <;> simp
@[simp] theorem State.setGuard_clock (s : State) (g : Nat) :
    (s.setGuard g).clock = s.clock := by
  unfold State.setGuard; (try dsimp only); (repeat' split) <;> simp
@[simp] theorem State.setGuard_pins (s : State) (g : Nat) :
    (s.setGuard g).pins = s.pins := by
  unfold State.setGuard; (try dsimp only); (repeat' split) <;> simp
@[simp] theorem State.setGuard_streams (s : State) (g : Nat) :
    (s.setGuard g).streams = s.streams := by
  unfold State.setGuard; (try dsimp only); (repeat' split) <;> simp
@[simp] theorem State.setGuard_carve (s : State) (g : Nat) :
    (s.setGuard g).carve = s.carve := by
  unfold State.setGuard; (try dsimp only); (repeat' split) <;> simp
@[simp] theorem State.setGuard_ports (s : State) (g : Nat) :
    (s.setGuard g).ports = s.ports := by
  unfold State.setGuard; (try dsimp only); (repeat' split) <;> simp
@[simp] theorem State.setGuard_access (s : State) (g : Nat) :
    (s.setGuard g).access = s.access := by
  unfold State.setGuard; (try dsimp only); (repeat' split) <;> simp
@[simp] theorem State.setGuard_twin (s : State) (g : Nat) :
    (s.setGuard g).twin = s.twin := by
  unfold State.setGuard; (try dsimp only); (repeat' split) <;> simp
@[simp] theorem State.setGuard_sec (s : State) (g : Nat) :
    (s.setGuard g).sec = s.sec := by
  unfold State.setGuard; (try dsimp only); (repeat' split) <;> simp
@[simp] theorem State.setGuard_agent (s : State) (g : Nat) :
    (s.setGuard g).agent = s.agent := by
  unfold State.setGuard; (try dsimp only); (repeat' split) <;> simp
@[simp] theorem State.setGuard_fabric (s : State) (g : Nat) :
    (s.setGuard g).fabric = s.fabric := by
  unfold State.setGuard; (try dsimp only); (repeat' split) <;> simp
@[simp] theorem State.setGuard_twill (s : State) (g : Nat) :
    (s.setGuard g).twill = s.twill := by
  unfold State.setGuard; (try dsimp only); (repeat' split) <;> simp
@[simp] theorem State.setGuard_jacquard (s : State) (g : Nat) :
    (s.setGuard g).jacquard = s.jacquard := by
  unfold State.setGuard; (try dsimp only); (repeat' split) <;> simp
@[simp] theorem State.setGuard_calico (s : State) (g : Nat) :
    (s.setGuard g).calico = s.calico := by
  unfold State.setGuard; (try dsimp only); (repeat' split) <;> simp
@[simp] theorem State.setGuard_store (s : State) (g : Nat) :
    (s.setGuard g).store = s.store := by
  unfold State.setGuard; (try dsimp only); (repeat' split) <;> simp
@[simp] theorem State.setGuard_buckram (s : State) (g : Nat) :
    (s.setGuard g).buckram = s.buckram := by
  unfold State.setGuard; (try dsimp only); (repeat' split) <;> simp
@[simp] theorem State.setGuard_drawn (s : State) (g : Nat) :
    (s.setGuard g).drawn = s.drawn := by
  unfold State.setGuard; (try dsimp only); (repeat' split) <;> simp
@[simp] theorem State.testFault_pending (s : State) (kind : Nat) (idx : Nat) (cause : Nat) (detail : Nat) :
    (s.testFault kind idx cause detail).pending = s.pending := by
  simp [State.testFault]
@[simp] theorem State.testFault_clock (s : State) (kind : Nat) (idx : Nat) (cause : Nat) (detail : Nat) :
    (s.testFault kind idx cause detail).clock = s.clock := by
  simp [State.testFault]
@[simp] theorem State.testFault_pins (s : State) (kind : Nat) (idx : Nat) (cause : Nat) (detail : Nat) :
    (s.testFault kind idx cause detail).pins = s.pins := by
  simp [State.testFault]
@[simp] theorem State.testFault_up (s : State) (kind : Nat) (idx : Nat) (cause : Nat) (detail : Nat) :
    (s.testFault kind idx cause detail).up = s.up := by
  simp [State.testFault]
@[simp] theorem State.testFault_streams (s : State) (kind : Nat) (idx : Nat) (cause : Nat) (detail : Nat) :
    (s.testFault kind idx cause detail).streams = s.streams := by
  simp [State.testFault]
@[simp] theorem State.testFault_carve (s : State) (kind : Nat) (idx : Nat) (cause : Nat) (detail : Nat) :
    (s.testFault kind idx cause detail).carve = s.carve := by
  simp [State.testFault]
@[simp] theorem State.testFault_ports (s : State) (kind : Nat) (idx : Nat) (cause : Nat) (detail : Nat) :
    (s.testFault kind idx cause detail).ports = s.ports := by
  simp [State.testFault]
@[simp] theorem State.testFault_access (s : State) (kind : Nat) (idx : Nat) (cause : Nat) (detail : Nat) :
    (s.testFault kind idx cause detail).access = s.access := by
  simp [State.testFault]
@[simp] theorem State.testFault_twin (s : State) (kind : Nat) (idx : Nat) (cause : Nat) (detail : Nat) :
    (s.testFault kind idx cause detail).twin = s.twin := by
  simp [State.testFault]
@[simp] theorem State.testFault_sec (s : State) (kind : Nat) (idx : Nat) (cause : Nat) (detail : Nat) :
    (s.testFault kind idx cause detail).sec = s.sec := by
  simp [State.testFault]
@[simp] theorem State.testFault_mail (s : State) (kind : Nat) (idx : Nat) (cause : Nat) (detail : Nat) :
    (s.testFault kind idx cause detail).mail = s.mail := by
  simp [State.testFault]
@[simp] theorem State.testFault_agent (s : State) (kind : Nat) (idx : Nat) (cause : Nat) (detail : Nat) :
    (s.testFault kind idx cause detail).agent = s.agent := by
  simp [State.testFault]
@[simp] theorem State.testFault_fabric (s : State) (kind : Nat) (idx : Nat) (cause : Nat) (detail : Nat) :
    (s.testFault kind idx cause detail).fabric = s.fabric := by
  simp [State.testFault]
@[simp] theorem State.testFault_power (s : State) (kind : Nat) (idx : Nat) (cause : Nat) (detail : Nat) :
    (s.testFault kind idx cause detail).power = s.power := by
  simp [State.testFault]
@[simp] theorem State.testFault_twill (s : State) (kind : Nat) (idx : Nat) (cause : Nat) (detail : Nat) :
    (s.testFault kind idx cause detail).twill = s.twill := by
  simp [State.testFault]
@[simp] theorem State.testFault_jacquard (s : State) (kind : Nat) (idx : Nat) (cause : Nat) (detail : Nat) :
    (s.testFault kind idx cause detail).jacquard = s.jacquard := by
  simp [State.testFault]
@[simp] theorem State.testFault_calico (s : State) (kind : Nat) (idx : Nat) (cause : Nat) (detail : Nat) :
    (s.testFault kind idx cause detail).calico = s.calico := by
  simp [State.testFault]
@[simp] theorem State.testFault_store (s : State) (kind : Nat) (idx : Nat) (cause : Nat) (detail : Nat) :
    (s.testFault kind idx cause detail).store = s.store := by
  simp [State.testFault]
@[simp] theorem State.testFault_buckram (s : State) (kind : Nat) (idx : Nat) (cause : Nat) (detail : Nat) :
    (s.testFault kind idx cause detail).buckram = s.buckram := by
  simp [State.testFault]
@[simp] theorem State.testFault_drawn (s : State) (kind : Nat) (idx : Nat) (cause : Nat) (detail : Nat) :
    (s.testFault kind idx cause detail).drawn = s.drawn := by
  simp [State.testFault]
@[simp] theorem State.ringError_pending (s : State) (p : Nat) (r : Nat) (cause : Nat) (errSlot : Nat) :
    (s.ringError p r cause errSlot).pending = s.pending := by
  simp [State.ringError]
@[simp] theorem State.ringError_clock (s : State) (p : Nat) (r : Nat) (cause : Nat) (errSlot : Nat) :
    (s.ringError p r cause errSlot).clock = s.clock := by
  simp [State.ringError]
@[simp] theorem State.ringError_pins (s : State) (p : Nat) (r : Nat) (cause : Nat) (errSlot : Nat) :
    (s.ringError p r cause errSlot).pins = s.pins := by
  simp [State.ringError]
@[simp] theorem State.ringError_streams (s : State) (p : Nat) (r : Nat) (cause : Nat) (errSlot : Nat) :
    (s.ringError p r cause errSlot).streams = s.streams := by
  simp [State.ringError]
@[simp] theorem State.ringError_carve (s : State) (p : Nat) (r : Nat) (cause : Nat) (errSlot : Nat) :
    (s.ringError p r cause errSlot).carve = s.carve := by
  simp [State.ringError]
@[simp] theorem State.ringError_ports (s : State) (p : Nat) (r : Nat) (cause : Nat) (errSlot : Nat) :
    (s.ringError p r cause errSlot).ports = s.ports := by
  simp [State.ringError]
@[simp] theorem State.ringError_access (s : State) (p : Nat) (r : Nat) (cause : Nat) (errSlot : Nat) :
    (s.ringError p r cause errSlot).access = s.access := by
  simp [State.ringError]
@[simp] theorem State.ringError_twin (s : State) (p : Nat) (r : Nat) (cause : Nat) (errSlot : Nat) :
    (s.ringError p r cause errSlot).twin = s.twin := by
  simp [State.ringError]
@[simp] theorem State.ringError_sec (s : State) (p : Nat) (r : Nat) (cause : Nat) (errSlot : Nat) :
    (s.ringError p r cause errSlot).sec = s.sec := by
  simp [State.ringError]
@[simp] theorem State.ringError_agent (s : State) (p : Nat) (r : Nat) (cause : Nat) (errSlot : Nat) :
    (s.ringError p r cause errSlot).agent = s.agent := by
  simp [State.ringError]
@[simp] theorem State.ringError_fabric (s : State) (p : Nat) (r : Nat) (cause : Nat) (errSlot : Nat) :
    (s.ringError p r cause errSlot).fabric = s.fabric := by
  simp [State.ringError]
@[simp] theorem State.ringError_power (s : State) (p : Nat) (r : Nat) (cause : Nat) (errSlot : Nat) :
    (s.ringError p r cause errSlot).power = s.power := by
  simp [State.ringError]
@[simp] theorem State.ringError_twill (s : State) (p : Nat) (r : Nat) (cause : Nat) (errSlot : Nat) :
    (s.ringError p r cause errSlot).twill = s.twill := by
  simp [State.ringError]
@[simp] theorem State.ringError_jacquard (s : State) (p : Nat) (r : Nat) (cause : Nat) (errSlot : Nat) :
    (s.ringError p r cause errSlot).jacquard = s.jacquard := by
  simp [State.ringError]
@[simp] theorem State.ringError_calico (s : State) (p : Nat) (r : Nat) (cause : Nat) (errSlot : Nat) :
    (s.ringError p r cause errSlot).calico = s.calico := by
  simp [State.ringError]
@[simp] theorem State.ringError_store (s : State) (p : Nat) (r : Nat) (cause : Nat) (errSlot : Nat) :
    (s.ringError p r cause errSlot).store = s.store := by
  simp [State.ringError]
@[simp] theorem State.ringError_buckram (s : State) (p : Nat) (r : Nat) (cause : Nat) (errSlot : Nat) :
    (s.ringError p r cause errSlot).buckram = s.buckram := by
  simp [State.ringError]
@[simp] theorem State.ringError_drawn (s : State) (p : Nat) (r : Nat) (cause : Nat) (errSlot : Nat) :
    (s.ringError p r cause errSlot).drawn = s.drawn := by
  simp [State.ringError]
@[simp] theorem State.orphanTo_pending (s : State) (p : Nat) (c : Rec) :
    (s.orphanTo p c).pending = s.pending := by
  unfold State.orphanTo; (try dsimp only); (repeat' split) <;> simp
@[simp] theorem State.orphanTo_clock (s : State) (p : Nat) (c : Rec) :
    (s.orphanTo p c).clock = s.clock := by
  unfold State.orphanTo; (try dsimp only); (repeat' split) <;> simp
@[simp] theorem State.orphanTo_pins (s : State) (p : Nat) (c : Rec) :
    (s.orphanTo p c).pins = s.pins := by
  unfold State.orphanTo; (try dsimp only); (repeat' split) <;> simp
@[simp] theorem State.orphanTo_streams (s : State) (p : Nat) (c : Rec) :
    (s.orphanTo p c).streams = s.streams := by
  unfold State.orphanTo; (try dsimp only); (repeat' split) <;> simp
@[simp] theorem State.orphanTo_carve (s : State) (p : Nat) (c : Rec) :
    (s.orphanTo p c).carve = s.carve := by
  unfold State.orphanTo; (try dsimp only); (repeat' split) <;> simp
@[simp] theorem State.orphanTo_ports (s : State) (p : Nat) (c : Rec) :
    (s.orphanTo p c).ports = s.ports := by
  unfold State.orphanTo; (try dsimp only); (repeat' split) <;> simp
@[simp] theorem State.orphanTo_access (s : State) (p : Nat) (c : Rec) :
    (s.orphanTo p c).access = s.access := by
  unfold State.orphanTo; (try dsimp only); (repeat' split) <;> simp
@[simp] theorem State.orphanTo_twin (s : State) (p : Nat) (c : Rec) :
    (s.orphanTo p c).twin = s.twin := by
  unfold State.orphanTo; (try dsimp only); (repeat' split) <;> simp
@[simp] theorem State.orphanTo_sec (s : State) (p : Nat) (c : Rec) :
    (s.orphanTo p c).sec = s.sec := by
  unfold State.orphanTo; (try dsimp only); (repeat' split) <;> simp
@[simp] theorem State.orphanTo_agent (s : State) (p : Nat) (c : Rec) :
    (s.orphanTo p c).agent = s.agent := by
  unfold State.orphanTo; (try dsimp only); (repeat' split) <;> simp
@[simp] theorem State.orphanTo_fabric (s : State) (p : Nat) (c : Rec) :
    (s.orphanTo p c).fabric = s.fabric := by
  unfold State.orphanTo; (try dsimp only); (repeat' split) <;> simp
@[simp] theorem State.orphanTo_power (s : State) (p : Nat) (c : Rec) :
    (s.orphanTo p c).power = s.power := by
  unfold State.orphanTo; (try dsimp only); (repeat' split) <;> simp
@[simp] theorem State.orphanTo_twill (s : State) (p : Nat) (c : Rec) :
    (s.orphanTo p c).twill = s.twill := by
  unfold State.orphanTo; (try dsimp only); (repeat' split) <;> simp
@[simp] theorem State.orphanTo_jacquard (s : State) (p : Nat) (c : Rec) :
    (s.orphanTo p c).jacquard = s.jacquard := by
  unfold State.orphanTo; (try dsimp only); (repeat' split) <;> simp
@[simp] theorem State.orphanTo_calico (s : State) (p : Nat) (c : Rec) :
    (s.orphanTo p c).calico = s.calico := by
  unfold State.orphanTo; (try dsimp only); (repeat' split) <;> simp
@[simp] theorem State.orphanTo_store (s : State) (p : Nat) (c : Rec) :
    (s.orphanTo p c).store = s.store := by
  unfold State.orphanTo; (try dsimp only); (repeat' split) <;> simp
@[simp] theorem State.orphanTo_buckram (s : State) (p : Nat) (c : Rec) :
    (s.orphanTo p c).buckram = s.buckram := by
  unfold State.orphanTo; (try dsimp only); (repeat' split) <;> simp
@[simp] theorem State.orphanTo_drawn (s : State) (p : Nat) (c : Rec) :
    (s.orphanTo p c).drawn = s.drawn := by
  unfold State.orphanTo; (try dsimp only); (repeat' split) <;> simp
@[simp] theorem State.drainOrphans_pending (p keep n : Nat) (s : State) :
    (s.drainOrphans p keep n).pending = s.pending := by
  induction n generalizing s with
  | zero => rfl
  | succ n ih =>
    unfold State.drainOrphans
    dsimp only
    (repeat' split) <;> simp [ih]
@[simp] theorem State.drainOrphans_clock (p keep n : Nat) (s : State) :
    (s.drainOrphans p keep n).clock = s.clock := by
  induction n generalizing s with
  | zero => rfl
  | succ n ih =>
    unfold State.drainOrphans
    dsimp only
    (repeat' split) <;> simp [ih]
@[simp] theorem State.drainOrphans_faults (p keep n : Nat) (s : State) :
    (s.drainOrphans p keep n).faults = s.faults := by
  induction n generalizing s with
  | zero => rfl
  | succ n ih =>
    unfold State.drainOrphans
    dsimp only
    (repeat' split) <;> simp [ih]
@[simp] theorem State.drainOrphans_pins (p keep n : Nat) (s : State) :
    (s.drainOrphans p keep n).pins = s.pins := by
  induction n generalizing s with
  | zero => rfl
  | succ n ih =>
    unfold State.drainOrphans
    dsimp only
    (repeat' split) <;> simp [ih]
@[simp] theorem State.drainOrphans_up (p keep n : Nat) (s : State) :
    (s.drainOrphans p keep n).up = s.up := by
  induction n generalizing s with
  | zero => rfl
  | succ n ih =>
    unfold State.drainOrphans
    dsimp only
    (repeat' split) <;> simp [ih]
@[simp] theorem State.drainOrphans_streams (p keep n : Nat) (s : State) :
    (s.drainOrphans p keep n).streams = s.streams := by
  induction n generalizing s with
  | zero => rfl
  | succ n ih =>
    unfold State.drainOrphans
    dsimp only
    (repeat' split) <;> simp [ih]
@[simp] theorem State.drainOrphans_carve (p keep n : Nat) (s : State) :
    (s.drainOrphans p keep n).carve = s.carve := by
  induction n generalizing s with
  | zero => rfl
  | succ n ih =>
    unfold State.drainOrphans
    dsimp only
    (repeat' split) <;> simp [ih]
@[simp] theorem State.drainOrphans_ports (p keep n : Nat) (s : State) :
    (s.drainOrphans p keep n).ports = s.ports := by
  induction n generalizing s with
  | zero => rfl
  | succ n ih =>
    unfold State.drainOrphans
    dsimp only
    (repeat' split) <;> simp [ih]
@[simp] theorem State.drainOrphans_access (p keep n : Nat) (s : State) :
    (s.drainOrphans p keep n).access = s.access := by
  induction n generalizing s with
  | zero => rfl
  | succ n ih =>
    unfold State.drainOrphans
    dsimp only
    (repeat' split) <;> simp [ih]
@[simp] theorem State.drainOrphans_twin (p keep n : Nat) (s : State) :
    (s.drainOrphans p keep n).twin = s.twin := by
  induction n generalizing s with
  | zero => rfl
  | succ n ih =>
    unfold State.drainOrphans
    dsimp only
    (repeat' split) <;> simp [ih]
@[simp] theorem State.drainOrphans_sec (p keep n : Nat) (s : State) :
    (s.drainOrphans p keep n).sec = s.sec := by
  induction n generalizing s with
  | zero => rfl
  | succ n ih =>
    unfold State.drainOrphans
    dsimp only
    (repeat' split) <;> simp [ih]
@[simp] theorem State.drainOrphans_mail (p keep n : Nat) (s : State) :
    (s.drainOrphans p keep n).mail = s.mail := by
  induction n generalizing s with
  | zero => rfl
  | succ n ih =>
    unfold State.drainOrphans
    dsimp only
    (repeat' split) <;> simp [ih]
@[simp] theorem State.drainOrphans_agent (p keep n : Nat) (s : State) :
    (s.drainOrphans p keep n).agent = s.agent := by
  induction n generalizing s with
  | zero => rfl
  | succ n ih =>
    unfold State.drainOrphans
    dsimp only
    (repeat' split) <;> simp [ih]
@[simp] theorem State.drainOrphans_fabric (p keep n : Nat) (s : State) :
    (s.drainOrphans p keep n).fabric = s.fabric := by
  induction n generalizing s with
  | zero => rfl
  | succ n ih =>
    unfold State.drainOrphans
    dsimp only
    (repeat' split) <;> simp [ih]
@[simp] theorem State.drainOrphans_power (p keep n : Nat) (s : State) :
    (s.drainOrphans p keep n).power = s.power := by
  induction n generalizing s with
  | zero => rfl
  | succ n ih =>
    unfold State.drainOrphans
    dsimp only
    (repeat' split) <;> simp [ih]
@[simp] theorem State.drainOrphans_twill (p keep n : Nat) (s : State) :
    (s.drainOrphans p keep n).twill = s.twill := by
  induction n generalizing s with
  | zero => rfl
  | succ n ih =>
    unfold State.drainOrphans
    dsimp only
    (repeat' split) <;> simp [ih]
@[simp] theorem State.drainOrphans_jacquard (p keep n : Nat) (s : State) :
    (s.drainOrphans p keep n).jacquard = s.jacquard := by
  induction n generalizing s with
  | zero => rfl
  | succ n ih =>
    unfold State.drainOrphans
    dsimp only
    (repeat' split) <;> simp [ih]
@[simp] theorem State.drainOrphans_calico (p keep n : Nat) (s : State) :
    (s.drainOrphans p keep n).calico = s.calico := by
  induction n generalizing s with
  | zero => rfl
  | succ n ih =>
    unfold State.drainOrphans
    dsimp only
    (repeat' split) <;> simp [ih]
@[simp] theorem State.drainOrphans_store (p keep n : Nat) (s : State) :
    (s.drainOrphans p keep n).store = s.store := by
  induction n generalizing s with
  | zero => rfl
  | succ n ih =>
    unfold State.drainOrphans
    dsimp only
    (repeat' split) <;> simp [ih]
@[simp] theorem State.drainOrphans_buckram (p keep n : Nat) (s : State) :
    (s.drainOrphans p keep n).buckram = s.buckram := by
  induction n generalizing s with
  | zero => rfl
  | succ n ih =>
    unfold State.drainOrphans
    dsimp only
    (repeat' split) <;> simp [ih]
@[simp] theorem State.drainOrphans_drawn (p keep n : Nat) (s : State) :
    (s.drainOrphans p keep n).drawn = s.drawn := by
  induction n generalizing s with
  | zero => rfl
  | succ n ih =>
    unfold State.drainOrphans
    dsimp only
    (repeat' split) <;> simp [ih]
@[simp] theorem State.post_pending (s : State) (c : Rec) (keep : Nat) :
    (s.post c keep).pending = s.pending := by
  unfold State.post; (try dsimp only); (repeat' split) <;> simp
@[simp] theorem State.post_clock (s : State) (c : Rec) (keep : Nat) :
    (s.post c keep).clock = s.clock := by
  unfold State.post; (try dsimp only); (repeat' split) <;> simp
@[simp] theorem State.post_pins (s : State) (c : Rec) (keep : Nat) :
    (s.post c keep).pins = s.pins := by
  unfold State.post; (try dsimp only); (repeat' split) <;> simp
@[simp] theorem State.post_streams (s : State) (c : Rec) (keep : Nat) :
    (s.post c keep).streams = s.streams := by
  unfold State.post; (try dsimp only); (repeat' split) <;> simp
@[simp] theorem State.post_carve (s : State) (c : Rec) (keep : Nat) :
    (s.post c keep).carve = s.carve := by
  unfold State.post; (try dsimp only); (repeat' split) <;> simp
@[simp] theorem State.post_ports (s : State) (c : Rec) (keep : Nat) :
    (s.post c keep).ports = s.ports := by
  unfold State.post; (try dsimp only); (repeat' split) <;> simp
@[simp] theorem State.post_access (s : State) (c : Rec) (keep : Nat) :
    (s.post c keep).access = s.access := by
  unfold State.post; (try dsimp only); (repeat' split) <;> simp
@[simp] theorem State.post_twin (s : State) (c : Rec) (keep : Nat) :
    (s.post c keep).twin = s.twin := by
  unfold State.post; (try dsimp only); (repeat' split) <;> simp
@[simp] theorem State.post_sec (s : State) (c : Rec) (keep : Nat) :
    (s.post c keep).sec = s.sec := by
  unfold State.post; (try dsimp only); (repeat' split) <;> simp
@[simp] theorem State.post_agent (s : State) (c : Rec) (keep : Nat) :
    (s.post c keep).agent = s.agent := by
  unfold State.post; (try dsimp only); (repeat' split) <;> simp
@[simp] theorem State.post_fabric (s : State) (c : Rec) (keep : Nat) :
    (s.post c keep).fabric = s.fabric := by
  unfold State.post; (try dsimp only); (repeat' split) <;> simp
@[simp] theorem State.post_power (s : State) (c : Rec) (keep : Nat) :
    (s.post c keep).power = s.power := by
  unfold State.post; (try dsimp only); (repeat' split) <;> simp
@[simp] theorem State.post_twill (s : State) (c : Rec) (keep : Nat) :
    (s.post c keep).twill = s.twill := by
  unfold State.post; (try dsimp only); (repeat' split) <;> simp
@[simp] theorem State.post_jacquard (s : State) (c : Rec) (keep : Nat) :
    (s.post c keep).jacquard = s.jacquard := by
  unfold State.post; (try dsimp only); (repeat' split) <;> simp
@[simp] theorem State.post_calico (s : State) (c : Rec) (keep : Nat) :
    (s.post c keep).calico = s.calico := by
  unfold State.post; (try dsimp only); (repeat' split) <;> simp
@[simp] theorem State.post_store (s : State) (c : Rec) (keep : Nat) :
    (s.post c keep).store = s.store := by
  unfold State.post; (try dsimp only); (repeat' split) <;> simp
@[simp] theorem State.post_buckram (s : State) (c : Rec) (keep : Nat) :
    (s.post c keep).buckram = s.buckram := by
  unfold State.post; (try dsimp only); (repeat' split) <;> simp
@[simp] theorem State.post_drawn (s : State) (c : Rec) (keep : Nat) :
    (s.post c keep).drawn = s.drawn := by
  unfold State.post; (try dsimp only); (repeat' split) <;> simp
@[simp] theorem State.finishPacket_pending (s : State) (p : Packet) (status : Nat) (detail : Nat) (execTick : Nat) (result : Bytes) (cut : Bool) (keep : Nat) :
    (s.finishPacket p status detail execTick result cut keep).pending = s.pending := by
  unfold State.finishPacket; (try dsimp only); (repeat' split) <;> simp
@[simp] theorem State.finishPacket_clock (s : State) (p : Packet) (status : Nat) (detail : Nat) (execTick : Nat) (result : Bytes) (cut : Bool) (keep : Nat) :
    (s.finishPacket p status detail execTick result cut keep).clock = s.clock := by
  unfold State.finishPacket; (try dsimp only); (repeat' split) <;> simp
@[simp] theorem State.finishPacket_pins (s : State) (p : Packet) (status : Nat) (detail : Nat) (execTick : Nat) (result : Bytes) (cut : Bool) (keep : Nat) :
    (s.finishPacket p status detail execTick result cut keep).pins = s.pins := by
  unfold State.finishPacket; (try dsimp only); (repeat' split) <;> simp
@[simp] theorem State.finishPacket_streams (s : State) (p : Packet) (status : Nat) (detail : Nat) (execTick : Nat) (result : Bytes) (cut : Bool) (keep : Nat) :
    (s.finishPacket p status detail execTick result cut keep).streams = s.streams := by
  unfold State.finishPacket; (try dsimp only); (repeat' split) <;> simp
@[simp] theorem State.finishPacket_carve (s : State) (p : Packet) (status : Nat) (detail : Nat) (execTick : Nat) (result : Bytes) (cut : Bool) (keep : Nat) :
    (s.finishPacket p status detail execTick result cut keep).carve = s.carve := by
  unfold State.finishPacket; (try dsimp only); (repeat' split) <;> simp
@[simp] theorem State.finishPacket_ports (s : State) (p : Packet) (status : Nat) (detail : Nat) (execTick : Nat) (result : Bytes) (cut : Bool) (keep : Nat) :
    (s.finishPacket p status detail execTick result cut keep).ports = s.ports := by
  unfold State.finishPacket; (try dsimp only); (repeat' split) <;> simp
@[simp] theorem State.finishPacket_access (s : State) (p : Packet) (status : Nat) (detail : Nat) (execTick : Nat) (result : Bytes) (cut : Bool) (keep : Nat) :
    (s.finishPacket p status detail execTick result cut keep).access = s.access := by
  unfold State.finishPacket; (try dsimp only); (repeat' split) <;> simp
@[simp] theorem State.finishPacket_twin (s : State) (p : Packet) (status : Nat) (detail : Nat) (execTick : Nat) (result : Bytes) (cut : Bool) (keep : Nat) :
    (s.finishPacket p status detail execTick result cut keep).twin = s.twin := by
  unfold State.finishPacket; (try dsimp only); (repeat' split) <;> simp
@[simp] theorem State.finishPacket_sec (s : State) (p : Packet) (status : Nat) (detail : Nat) (execTick : Nat) (result : Bytes) (cut : Bool) (keep : Nat) :
    (s.finishPacket p status detail execTick result cut keep).sec = s.sec := by
  unfold State.finishPacket; (try dsimp only); (repeat' split) <;> simp
@[simp] theorem State.finishPacket_agent (s : State) (p : Packet) (status : Nat) (detail : Nat) (execTick : Nat) (result : Bytes) (cut : Bool) (keep : Nat) :
    (s.finishPacket p status detail execTick result cut keep).agent = s.agent := by
  unfold State.finishPacket; (try dsimp only); (repeat' split) <;> simp
@[simp] theorem State.finishPacket_fabric (s : State) (p : Packet) (status : Nat) (detail : Nat) (execTick : Nat) (result : Bytes) (cut : Bool) (keep : Nat) :
    (s.finishPacket p status detail execTick result cut keep).fabric = s.fabric := by
  unfold State.finishPacket; (try dsimp only); (repeat' split) <;> simp
@[simp] theorem State.finishPacket_power (s : State) (p : Packet) (status : Nat) (detail : Nat) (execTick : Nat) (result : Bytes) (cut : Bool) (keep : Nat) :
    (s.finishPacket p status detail execTick result cut keep).power = s.power := by
  unfold State.finishPacket; (try dsimp only); (repeat' split) <;> simp
@[simp] theorem State.finishPacket_twill (s : State) (p : Packet) (status : Nat) (detail : Nat) (execTick : Nat) (result : Bytes) (cut : Bool) (keep : Nat) :
    (s.finishPacket p status detail execTick result cut keep).twill = s.twill := by
  unfold State.finishPacket; (try dsimp only); (repeat' split) <;> simp
@[simp] theorem State.finishPacket_jacquard (s : State) (p : Packet) (status : Nat) (detail : Nat) (execTick : Nat) (result : Bytes) (cut : Bool) (keep : Nat) :
    (s.finishPacket p status detail execTick result cut keep).jacquard = s.jacquard := by
  unfold State.finishPacket; (try dsimp only); (repeat' split) <;> simp
@[simp] theorem State.finishPacket_calico (s : State) (p : Packet) (status : Nat) (detail : Nat) (execTick : Nat) (result : Bytes) (cut : Bool) (keep : Nat) :
    (s.finishPacket p status detail execTick result cut keep).calico = s.calico := by
  unfold State.finishPacket; (try dsimp only); (repeat' split) <;> simp
@[simp] theorem State.finishPacket_store (s : State) (p : Packet) (status : Nat) (detail : Nat) (execTick : Nat) (result : Bytes) (cut : Bool) (keep : Nat) :
    (s.finishPacket p status detail execTick result cut keep).store = s.store := by
  unfold State.finishPacket; (try dsimp only); (repeat' split) <;> simp
@[simp] theorem State.finishPacket_buckram (s : State) (p : Packet) (status : Nat) (detail : Nat) (execTick : Nat) (result : Bytes) (cut : Bool) (keep : Nat) :
    (s.finishPacket p status detail execTick result cut keep).buckram = s.buckram := by
  unfold State.finishPacket; (try dsimp only); (repeat' split) <;> simp
@[simp] theorem State.finishPacket_drawn (s : State) (p : Packet) (status : Nat) (detail : Nat) (execTick : Nat) (result : Bytes) (cut : Bool) (keep : Nat) :
    (s.finishPacket p status detail execTick result cut keep).drawn = s.drawn := by
  unfold State.finishPacket; (try dsimp only); (repeat' split) <;> simp
@[simp] theorem State.reject_pending (s : State) (p : Packet) (status : Nat) (detail : Nat) :
    (s.reject p status detail).pending = s.pending := by
  simp [State.reject]
@[simp] theorem State.reject_clock (s : State) (p : Packet) (status : Nat) (detail : Nat) :
    (s.reject p status detail).clock = s.clock := by
  simp [State.reject]
@[simp] theorem State.reject_pins (s : State) (p : Packet) (status : Nat) (detail : Nat) :
    (s.reject p status detail).pins = s.pins := by
  simp [State.reject]
@[simp] theorem State.reject_streams (s : State) (p : Packet) (status : Nat) (detail : Nat) :
    (s.reject p status detail).streams = s.streams := by
  simp [State.reject]
@[simp] theorem State.reject_carve (s : State) (p : Packet) (status : Nat) (detail : Nat) :
    (s.reject p status detail).carve = s.carve := by
  simp [State.reject]
@[simp] theorem State.reject_ports (s : State) (p : Packet) (status : Nat) (detail : Nat) :
    (s.reject p status detail).ports = s.ports := by
  simp [State.reject]
@[simp] theorem State.reject_access (s : State) (p : Packet) (status : Nat) (detail : Nat) :
    (s.reject p status detail).access = s.access := by
  simp [State.reject]
@[simp] theorem State.reject_twin (s : State) (p : Packet) (status : Nat) (detail : Nat) :
    (s.reject p status detail).twin = s.twin := by
  simp [State.reject]
@[simp] theorem State.reject_sec (s : State) (p : Packet) (status : Nat) (detail : Nat) :
    (s.reject p status detail).sec = s.sec := by
  simp [State.reject]
@[simp] theorem State.reject_agent (s : State) (p : Packet) (status : Nat) (detail : Nat) :
    (s.reject p status detail).agent = s.agent := by
  simp [State.reject]
@[simp] theorem State.reject_fabric (s : State) (p : Packet) (status : Nat) (detail : Nat) :
    (s.reject p status detail).fabric = s.fabric := by
  simp [State.reject]
@[simp] theorem State.reject_power (s : State) (p : Packet) (status : Nat) (detail : Nat) :
    (s.reject p status detail).power = s.power := by
  simp [State.reject]
@[simp] theorem State.reject_twill (s : State) (p : Packet) (status : Nat) (detail : Nat) :
    (s.reject p status detail).twill = s.twill := by
  simp [State.reject]
@[simp] theorem State.reject_jacquard (s : State) (p : Packet) (status : Nat) (detail : Nat) :
    (s.reject p status detail).jacquard = s.jacquard := by
  simp [State.reject]
@[simp] theorem State.reject_calico (s : State) (p : Packet) (status : Nat) (detail : Nat) :
    (s.reject p status detail).calico = s.calico := by
  simp [State.reject]
@[simp] theorem State.reject_store (s : State) (p : Packet) (status : Nat) (detail : Nat) :
    (s.reject p status detail).store = s.store := by
  simp [State.reject]
@[simp] theorem State.reject_buckram (s : State) (p : Packet) (status : Nat) (detail : Nat) :
    (s.reject p status detail).buckram = s.buckram := by
  simp [State.reject]
@[simp] theorem State.reject_drawn (s : State) (p : Packet) (status : Nat) (detail : Nat) :
    (s.reject p status detail).drawn = s.drawn := by
  simp [State.reject]
@[simp] theorem State.tellAll_pending (s : State) (l : List Nat) (type : Nat) (body : Bytes) :
    (s.tellAll l type body).pending = s.pending := by
  unfold State.tellAll
  induction l generalizing s with
  | nil => rfl
  | cons a l ih => rw [List.foldl_cons, ih]; simp
@[simp] theorem State.tellAll_host (s : State) (l : List Nat) (type : Nat) (body : Bytes) :
    (s.tellAll l type body).host = s.host := by
  unfold State.tellAll
  induction l generalizing s with
  | nil => rfl
  | cons a l ih => rw [List.foldl_cons, ih]; simp
@[simp] theorem State.tellAll_clock (s : State) (l : List Nat) (type : Nat) (body : Bytes) :
    (s.tellAll l type body).clock = s.clock := by
  unfold State.tellAll
  induction l generalizing s with
  | nil => rfl
  | cons a l ih => rw [List.foldl_cons, ih]; simp
@[simp] theorem State.tellAll_faults (s : State) (l : List Nat) (type : Nat) (body : Bytes) :
    (s.tellAll l type body).faults = s.faults := by
  unfold State.tellAll
  induction l generalizing s with
  | nil => rfl
  | cons a l ih => rw [List.foldl_cons, ih]; simp
@[simp] theorem State.tellAll_pins (s : State) (l : List Nat) (type : Nat) (body : Bytes) :
    (s.tellAll l type body).pins = s.pins := by
  unfold State.tellAll
  induction l generalizing s with
  | nil => rfl
  | cons a l ih => rw [List.foldl_cons, ih]; simp
@[simp] theorem State.tellAll_up (s : State) (l : List Nat) (type : Nat) (body : Bytes) :
    (s.tellAll l type body).up = s.up := by
  unfold State.tellAll
  induction l generalizing s with
  | nil => rfl
  | cons a l ih => rw [List.foldl_cons, ih]; simp
@[simp] theorem State.tellAll_streams (s : State) (l : List Nat) (type : Nat) (body : Bytes) :
    (s.tellAll l type body).streams = s.streams := by
  unfold State.tellAll
  induction l generalizing s with
  | nil => rfl
  | cons a l ih => rw [List.foldl_cons, ih]; simp
@[simp] theorem State.tellAll_carve (s : State) (l : List Nat) (type : Nat) (body : Bytes) :
    (s.tellAll l type body).carve = s.carve := by
  unfold State.tellAll
  induction l generalizing s with
  | nil => rfl
  | cons a l ih => rw [List.foldl_cons, ih]; simp
@[simp] theorem State.tellAll_ports (s : State) (l : List Nat) (type : Nat) (body : Bytes) :
    (s.tellAll l type body).ports = s.ports := by
  unfold State.tellAll
  induction l generalizing s with
  | nil => rfl
  | cons a l ih => rw [List.foldl_cons, ih]; simp
@[simp] theorem State.tellAll_access (s : State) (l : List Nat) (type : Nat) (body : Bytes) :
    (s.tellAll l type body).access = s.access := by
  unfold State.tellAll
  induction l generalizing s with
  | nil => rfl
  | cons a l ih => rw [List.foldl_cons, ih]; simp
@[simp] theorem State.tellAll_twin (s : State) (l : List Nat) (type : Nat) (body : Bytes) :
    (s.tellAll l type body).twin = s.twin := by
  unfold State.tellAll
  induction l generalizing s with
  | nil => rfl
  | cons a l ih => rw [List.foldl_cons, ih]; simp
@[simp] theorem State.tellAll_sec (s : State) (l : List Nat) (type : Nat) (body : Bytes) :
    (s.tellAll l type body).sec = s.sec := by
  unfold State.tellAll
  induction l generalizing s with
  | nil => rfl
  | cons a l ih => rw [List.foldl_cons, ih]; simp
@[simp] theorem State.tellAll_agent (s : State) (l : List Nat) (type : Nat) (body : Bytes) :
    (s.tellAll l type body).agent = s.agent := by
  unfold State.tellAll
  induction l generalizing s with
  | nil => rfl
  | cons a l ih => rw [List.foldl_cons, ih]; simp
@[simp] theorem State.tellAll_fabric (s : State) (l : List Nat) (type : Nat) (body : Bytes) :
    (s.tellAll l type body).fabric = s.fabric := by
  unfold State.tellAll
  induction l generalizing s with
  | nil => rfl
  | cons a l ih => rw [List.foldl_cons, ih]; simp
@[simp] theorem State.tellAll_power (s : State) (l : List Nat) (type : Nat) (body : Bytes) :
    (s.tellAll l type body).power = s.power := by
  unfold State.tellAll
  induction l generalizing s with
  | nil => rfl
  | cons a l ih => rw [List.foldl_cons, ih]; simp
@[simp] theorem State.tellAll_twill (s : State) (l : List Nat) (type : Nat) (body : Bytes) :
    (s.tellAll l type body).twill = s.twill := by
  unfold State.tellAll
  induction l generalizing s with
  | nil => rfl
  | cons a l ih => rw [List.foldl_cons, ih]; simp
@[simp] theorem State.tellAll_jacquard (s : State) (l : List Nat) (type : Nat) (body : Bytes) :
    (s.tellAll l type body).jacquard = s.jacquard := by
  unfold State.tellAll
  induction l generalizing s with
  | nil => rfl
  | cons a l ih => rw [List.foldl_cons, ih]; simp
@[simp] theorem State.tellAll_calico (s : State) (l : List Nat) (type : Nat) (body : Bytes) :
    (s.tellAll l type body).calico = s.calico := by
  unfold State.tellAll
  induction l generalizing s with
  | nil => rfl
  | cons a l ih => rw [List.foldl_cons, ih]; simp
@[simp] theorem State.tellAll_store (s : State) (l : List Nat) (type : Nat) (body : Bytes) :
    (s.tellAll l type body).store = s.store := by
  unfold State.tellAll
  induction l generalizing s with
  | nil => rfl
  | cons a l ih => rw [List.foldl_cons, ih]; simp
@[simp] theorem State.tellAll_buckram (s : State) (l : List Nat) (type : Nat) (body : Bytes) :
    (s.tellAll l type body).buckram = s.buckram := by
  unfold State.tellAll
  induction l generalizing s with
  | nil => rfl
  | cons a l ih => rw [List.foldl_cons, ih]; simp
@[simp] theorem State.tellAll_drawn (s : State) (l : List Nat) (type : Nat) (body : Bytes) :
    (s.tellAll l type body).drawn = s.drawn := by
  unfold State.tellAll
  induction l generalizing s with
  | nil => rfl
  | cons a l ih => rw [List.foldl_cons, ih]; simp
@[simp] theorem State.discard_pending (s : State) (c : Cmd) :
    (s.discard c).pending = s.pending := by
  unfold State.discard; (try dsimp only); (repeat' split) <;> simp
@[simp] theorem State.discard_host (s : State) (c : Cmd) :
    (s.discard c).host = s.host := by
  unfold State.discard; (try dsimp only); (repeat' split) <;> simp
@[simp] theorem State.discard_clock (s : State) (c : Cmd) :
    (s.discard c).clock = s.clock := by
  unfold State.discard; (try dsimp only); (repeat' split) <;> simp
@[simp] theorem State.discard_faults (s : State) (c : Cmd) :
    (s.discard c).faults = s.faults := by
  unfold State.discard; (try dsimp only); (repeat' split) <;> simp
@[simp] theorem State.discard_pins (s : State) (c : Cmd) :
    (s.discard c).pins = s.pins := by
  unfold State.discard; (try dsimp only); (repeat' split) <;> simp
@[simp] theorem State.discard_up (s : State) (c : Cmd) :
    (s.discard c).up = s.up := by
  unfold State.discard; (try dsimp only); (repeat' split) <;> simp
@[simp] theorem State.discard_carve (s : State) (c : Cmd) :
    (s.discard c).carve = s.carve := by
  unfold State.discard; (try dsimp only); (repeat' split) <;> simp
@[simp] theorem State.discard_ports (s : State) (c : Cmd) :
    (s.discard c).ports = s.ports := by
  unfold State.discard; (try dsimp only); (repeat' split) <;> simp
@[simp] theorem State.discard_access (s : State) (c : Cmd) :
    (s.discard c).access = s.access := by
  unfold State.discard; (try dsimp only); (repeat' split) <;> simp
@[simp] theorem State.discard_twin (s : State) (c : Cmd) :
    (s.discard c).twin = s.twin := by
  unfold State.discard; (try dsimp only); (repeat' split) <;> simp
@[simp] theorem State.discard_sec (s : State) (c : Cmd) :
    (s.discard c).sec = s.sec := by
  unfold State.discard; (try dsimp only); (repeat' split) <;> simp
@[simp] theorem State.discard_agent (s : State) (c : Cmd) :
    (s.discard c).agent = s.agent := by
  unfold State.discard; (try dsimp only); (repeat' split) <;> simp
@[simp] theorem State.discard_fabric (s : State) (c : Cmd) :
    (s.discard c).fabric = s.fabric := by
  unfold State.discard; (try dsimp only); (repeat' split) <;> simp
@[simp] theorem State.discard_buckram (s : State) (c : Cmd) :
    (s.discard c).buckram = s.buckram := by
  unfold State.discard; (try dsimp only); (repeat' split) <;> simp
@[simp] theorem State.discard_drawn (s : State) (c : Cmd) :
    (s.discard c).drawn = s.drawn := by
  unfold State.discard; (try dsimp only); (repeat' split) <;> simp
@[simp] theorem State.endNow_pending (s : State) (id : Nat) (status : Nat) (detail : Nat) (tick : Nat) (result : Bytes) :
    (s.endNow id status detail tick result).pending = s.pending := by
  unfold State.endNow; (try dsimp only); (repeat' split) <;> simp
@[simp] theorem State.endNow_clock (s : State) (id : Nat) (status : Nat) (detail : Nat) (tick : Nat) (result : Bytes) :
    (s.endNow id status detail tick result).clock = s.clock := by
  unfold State.endNow; (try dsimp only); (repeat' split) <;> simp
@[simp] theorem State.endNow_pins (s : State) (id : Nat) (status : Nat) (detail : Nat) (tick : Nat) (result : Bytes) :
    (s.endNow id status detail tick result).pins = s.pins := by
  unfold State.endNow; (try dsimp only); (repeat' split) <;> simp
@[simp] theorem State.endNow_carve (s : State) (id : Nat) (status : Nat) (detail : Nat) (tick : Nat) (result : Bytes) :
    (s.endNow id status detail tick result).carve = s.carve := by
  unfold State.endNow; (try dsimp only); (repeat' split) <;> simp
@[simp] theorem State.endNow_ports (s : State) (id : Nat) (status : Nat) (detail : Nat) (tick : Nat) (result : Bytes) :
    (s.endNow id status detail tick result).ports = s.ports := by
  unfold State.endNow; (try dsimp only); (repeat' split) <;> simp
@[simp] theorem State.endNow_access (s : State) (id : Nat) (status : Nat) (detail : Nat) (tick : Nat) (result : Bytes) :
    (s.endNow id status detail tick result).access = s.access := by
  unfold State.endNow; (try dsimp only); (repeat' split) <;> simp
@[simp] theorem State.endNow_twin (s : State) (id : Nat) (status : Nat) (detail : Nat) (tick : Nat) (result : Bytes) :
    (s.endNow id status detail tick result).twin = s.twin := by
  unfold State.endNow; (try dsimp only); (repeat' split) <;> simp
@[simp] theorem State.endNow_sec (s : State) (id : Nat) (status : Nat) (detail : Nat) (tick : Nat) (result : Bytes) :
    (s.endNow id status detail tick result).sec = s.sec := by
  unfold State.endNow; (try dsimp only); (repeat' split) <;> simp
@[simp] theorem State.endNow_agent (s : State) (id : Nat) (status : Nat) (detail : Nat) (tick : Nat) (result : Bytes) :
    (s.endNow id status detail tick result).agent = s.agent := by
  unfold State.endNow; (try dsimp only); (repeat' split) <;> simp
@[simp] theorem State.endNow_fabric (s : State) (id : Nat) (status : Nat) (detail : Nat) (tick : Nat) (result : Bytes) :
    (s.endNow id status detail tick result).fabric = s.fabric := by
  unfold State.endNow; (try dsimp only); (repeat' split) <;> simp
@[simp] theorem State.endNow_buckram (s : State) (id : Nat) (status : Nat) (detail : Nat) (tick : Nat) (result : Bytes) :
    (s.endNow id status detail tick result).buckram = s.buckram := by
  unfold State.endNow; (try dsimp only); (repeat' split) <;> simp
@[simp] theorem State.endNow_drawn (s : State) (id : Nat) (status : Nat) (detail : Nat) (tick : Nat) (result : Bytes) :
    (s.endNow id status detail tick result).drawn = s.drawn := by
  unfold State.endNow; (try dsimp only); (repeat' split) <;> simp
@[simp] theorem State.endCmd_pending (s : State) (id : Nat) (status : Nat) (detail : Nat) (result : Bytes) :
    (s.endCmd id status detail result).pending = s.pending := by
  unfold State.endCmd; (try dsimp only); (repeat' split) <;> simp
@[simp] theorem State.endCmd_clock (s : State) (id : Nat) (status : Nat) (detail : Nat) (result : Bytes) :
    (s.endCmd id status detail result).clock = s.clock := by
  unfold State.endCmd; (try dsimp only); (repeat' split) <;> simp
@[simp] theorem State.endCmd_pins (s : State) (id : Nat) (status : Nat) (detail : Nat) (result : Bytes) :
    (s.endCmd id status detail result).pins = s.pins := by
  unfold State.endCmd; (try dsimp only); (repeat' split) <;> simp
@[simp] theorem State.endCmd_carve (s : State) (id : Nat) (status : Nat) (detail : Nat) (result : Bytes) :
    (s.endCmd id status detail result).carve = s.carve := by
  unfold State.endCmd; (try dsimp only); (repeat' split) <;> simp
@[simp] theorem State.endCmd_ports (s : State) (id : Nat) (status : Nat) (detail : Nat) (result : Bytes) :
    (s.endCmd id status detail result).ports = s.ports := by
  unfold State.endCmd; (try dsimp only); (repeat' split) <;> simp
@[simp] theorem State.endCmd_access (s : State) (id : Nat) (status : Nat) (detail : Nat) (result : Bytes) :
    (s.endCmd id status detail result).access = s.access := by
  unfold State.endCmd; (try dsimp only); (repeat' split) <;> simp
@[simp] theorem State.endCmd_twin (s : State) (id : Nat) (status : Nat) (detail : Nat) (result : Bytes) :
    (s.endCmd id status detail result).twin = s.twin := by
  unfold State.endCmd; (try dsimp only); (repeat' split) <;> simp
@[simp] theorem State.endCmd_sec (s : State) (id : Nat) (status : Nat) (detail : Nat) (result : Bytes) :
    (s.endCmd id status detail result).sec = s.sec := by
  unfold State.endCmd; (try dsimp only); (repeat' split) <;> simp
@[simp] theorem State.endCmd_agent (s : State) (id : Nat) (status : Nat) (detail : Nat) (result : Bytes) :
    (s.endCmd id status detail result).agent = s.agent := by
  unfold State.endCmd; (try dsimp only); (repeat' split) <;> simp
@[simp] theorem State.endCmd_fabric (s : State) (id : Nat) (status : Nat) (detail : Nat) (result : Bytes) :
    (s.endCmd id status detail result).fabric = s.fabric := by
  unfold State.endCmd; (try dsimp only); (repeat' split) <;> simp
@[simp] theorem State.endCmd_buckram (s : State) (id : Nat) (status : Nat) (detail : Nat) (result : Bytes) :
    (s.endCmd id status detail result).buckram = s.buckram := by
  unfold State.endCmd; (try dsimp only); (repeat' split) <;> simp
@[simp] theorem State.endCmd_drawn (s : State) (id : Nat) (status : Nat) (detail : Nat) (result : Bytes) :
    (s.endCmd id status detail result).drawn = s.drawn := by
  unfold State.endCmd; (try dsimp only); (repeat' split) <;> simp
@[simp] theorem State.postPending_pending (s : State) (id : Nat) (detail : Nat) :
    (s.postPending id detail).pending = s.pending := by
  unfold State.postPending; (try dsimp only); (repeat' split) <;> simp
@[simp] theorem State.postPending_clock (s : State) (id : Nat) (detail : Nat) :
    (s.postPending id detail).clock = s.clock := by
  unfold State.postPending; (try dsimp only); (repeat' split) <;> simp
@[simp] theorem State.postPending_pins (s : State) (id : Nat) (detail : Nat) :
    (s.postPending id detail).pins = s.pins := by
  unfold State.postPending; (try dsimp only); (repeat' split) <;> simp
@[simp] theorem State.postPending_streams (s : State) (id : Nat) (detail : Nat) :
    (s.postPending id detail).streams = s.streams := by
  unfold State.postPending; (try dsimp only); (repeat' split) <;> simp
@[simp] theorem State.postPending_carve (s : State) (id : Nat) (detail : Nat) :
    (s.postPending id detail).carve = s.carve := by
  unfold State.postPending; (try dsimp only); (repeat' split) <;> simp
@[simp] theorem State.postPending_ports (s : State) (id : Nat) (detail : Nat) :
    (s.postPending id detail).ports = s.ports := by
  unfold State.postPending; (try dsimp only); (repeat' split) <;> simp
@[simp] theorem State.postPending_access (s : State) (id : Nat) (detail : Nat) :
    (s.postPending id detail).access = s.access := by
  unfold State.postPending; (try dsimp only); (repeat' split) <;> simp
@[simp] theorem State.postPending_twin (s : State) (id : Nat) (detail : Nat) :
    (s.postPending id detail).twin = s.twin := by
  unfold State.postPending; (try dsimp only); (repeat' split) <;> simp
@[simp] theorem State.postPending_sec (s : State) (id : Nat) (detail : Nat) :
    (s.postPending id detail).sec = s.sec := by
  unfold State.postPending; (try dsimp only); (repeat' split) <;> simp
@[simp] theorem State.postPending_agent (s : State) (id : Nat) (detail : Nat) :
    (s.postPending id detail).agent = s.agent := by
  unfold State.postPending; (try dsimp only); (repeat' split) <;> simp
@[simp] theorem State.postPending_fabric (s : State) (id : Nat) (detail : Nat) :
    (s.postPending id detail).fabric = s.fabric := by
  unfold State.postPending; (try dsimp only); (repeat' split) <;> simp
@[simp] theorem State.postPending_power (s : State) (id : Nat) (detail : Nat) :
    (s.postPending id detail).power = s.power := by
  unfold State.postPending; (try dsimp only); (repeat' split) <;> simp
@[simp] theorem State.postPending_twill (s : State) (id : Nat) (detail : Nat) :
    (s.postPending id detail).twill = s.twill := by
  unfold State.postPending; (try dsimp only); (repeat' split) <;> simp
@[simp] theorem State.postPending_jacquard (s : State) (id : Nat) (detail : Nat) :
    (s.postPending id detail).jacquard = s.jacquard := by
  unfold State.postPending; (try dsimp only); (repeat' split) <;> simp
@[simp] theorem State.postPending_calico (s : State) (id : Nat) (detail : Nat) :
    (s.postPending id detail).calico = s.calico := by
  unfold State.postPending; (try dsimp only); (repeat' split) <;> simp
@[simp] theorem State.postPending_store (s : State) (id : Nat) (detail : Nat) :
    (s.postPending id detail).store = s.store := by
  unfold State.postPending; (try dsimp only); (repeat' split) <;> simp
@[simp] theorem State.postPending_buckram (s : State) (id : Nat) (detail : Nat) :
    (s.postPending id detail).buckram = s.buckram := by
  unfold State.postPending; (try dsimp only); (repeat' split) <;> simp
@[simp] theorem State.postPending_drawn (s : State) (id : Nat) (detail : Nat) :
    (s.postPending id detail).drawn = s.drawn := by
  unfold State.postPending; (try dsimp only); (repeat' split) <;> simp
@[simp] theorem State.sendFor_pending (s : State) (id : Nat) (m : Msg) (purpose : Nat) :
    (s.sendFor id m purpose).pending = s.pending := by
  unfold State.sendFor; (try dsimp only); (repeat' split) <;> simp
@[simp] theorem State.sendFor_clock (s : State) (id : Nat) (m : Msg) (purpose : Nat) :
    (s.sendFor id m purpose).clock = s.clock := by
  unfold State.sendFor; (try dsimp only); (repeat' split) <;> simp
@[simp] theorem State.sendFor_faults (s : State) (id : Nat) (m : Msg) (purpose : Nat) :
    (s.sendFor id m purpose).faults = s.faults := by
  unfold State.sendFor; (try dsimp only); (repeat' split) <;> simp
@[simp] theorem State.sendFor_pins (s : State) (id : Nat) (m : Msg) (purpose : Nat) :
    (s.sendFor id m purpose).pins = s.pins := by
  unfold State.sendFor; (try dsimp only); (repeat' split) <;> simp
@[simp] theorem State.sendFor_up (s : State) (id : Nat) (m : Msg) (purpose : Nat) :
    (s.sendFor id m purpose).up = s.up := by
  unfold State.sendFor; (try dsimp only); (repeat' split) <;> simp
@[simp] theorem State.sendFor_streams (s : State) (id : Nat) (m : Msg) (purpose : Nat) :
    (s.sendFor id m purpose).streams = s.streams := by
  unfold State.sendFor; (try dsimp only); (repeat' split) <;> simp
@[simp] theorem State.sendFor_carve (s : State) (id : Nat) (m : Msg) (purpose : Nat) :
    (s.sendFor id m purpose).carve = s.carve := by
  unfold State.sendFor; (try dsimp only); (repeat' split) <;> simp
@[simp] theorem State.sendFor_ports (s : State) (id : Nat) (m : Msg) (purpose : Nat) :
    (s.sendFor id m purpose).ports = s.ports := by
  unfold State.sendFor; (try dsimp only); (repeat' split) <;> simp
@[simp] theorem State.sendFor_access (s : State) (id : Nat) (m : Msg) (purpose : Nat) :
    (s.sendFor id m purpose).access = s.access := by
  unfold State.sendFor; (try dsimp only); (repeat' split) <;> simp
@[simp] theorem State.sendFor_twin (s : State) (id : Nat) (m : Msg) (purpose : Nat) :
    (s.sendFor id m purpose).twin = s.twin := by
  unfold State.sendFor; (try dsimp only); (repeat' split) <;> simp
@[simp] theorem State.sendFor_sec (s : State) (id : Nat) (m : Msg) (purpose : Nat) :
    (s.sendFor id m purpose).sec = s.sec := by
  unfold State.sendFor; (try dsimp only); (repeat' split) <;> simp
@[simp] theorem State.sendFor_agent (s : State) (id : Nat) (m : Msg) (purpose : Nat) :
    (s.sendFor id m purpose).agent = s.agent := by
  unfold State.sendFor; (try dsimp only); (repeat' split) <;> simp
@[simp] theorem State.sendFor_fabric (s : State) (id : Nat) (m : Msg) (purpose : Nat) :
    (s.sendFor id m purpose).fabric = s.fabric := by
  unfold State.sendFor; (try dsimp only); (repeat' split) <;> simp
@[simp] theorem State.sendFor_power (s : State) (id : Nat) (m : Msg) (purpose : Nat) :
    (s.sendFor id m purpose).power = s.power := by
  unfold State.sendFor; (try dsimp only); (repeat' split) <;> simp
@[simp] theorem State.sendFor_twill (s : State) (id : Nat) (m : Msg) (purpose : Nat) :
    (s.sendFor id m purpose).twill = s.twill := by
  unfold State.sendFor; (try dsimp only); (repeat' split) <;> simp
@[simp] theorem State.sendFor_jacquard (s : State) (id : Nat) (m : Msg) (purpose : Nat) :
    (s.sendFor id m purpose).jacquard = s.jacquard := by
  unfold State.sendFor; (try dsimp only); (repeat' split) <;> simp
@[simp] theorem State.sendFor_calico (s : State) (id : Nat) (m : Msg) (purpose : Nat) :
    (s.sendFor id m purpose).calico = s.calico := by
  unfold State.sendFor; (try dsimp only); (repeat' split) <;> simp
@[simp] theorem State.sendFor_store (s : State) (id : Nat) (m : Msg) (purpose : Nat) :
    (s.sendFor id m purpose).store = s.store := by
  unfold State.sendFor; (try dsimp only); (repeat' split) <;> simp
@[simp] theorem State.sendFor_buckram (s : State) (id : Nat) (m : Msg) (purpose : Nat) :
    (s.sendFor id m purpose).buckram = s.buckram := by
  unfold State.sendFor; (try dsimp only); (repeat' split) <;> simp
@[simp] theorem State.sendFor_drawn (s : State) (id : Nat) (m : Msg) (purpose : Nat) :
    (s.sendFor id m purpose).drawn = s.drawn := by
  unfold State.sendFor; (try dsimp only); (repeat' split) <;> simp
@[simp] theorem State.addCmd_pending (s : State) (op : HostOp) (p : Packet) (slot : Nat) (phase : CmdPhase) (due : Nat) (twin : Option Packet) :
    (s.addCmd op p slot phase due twin).1.pending = s.pending := rfl
@[simp] theorem State.addCmd_clock (s : State) (op : HostOp) (p : Packet) (slot : Nat) (phase : CmdPhase) (due : Nat) (twin : Option Packet) :
    (s.addCmd op p slot phase due twin).1.clock = s.clock := rfl
@[simp] theorem State.addCmd_faults (s : State) (op : HostOp) (p : Packet) (slot : Nat) (phase : CmdPhase) (due : Nat) (twin : Option Packet) :
    (s.addCmd op p slot phase due twin).1.faults = s.faults := rfl
@[simp] theorem State.addCmd_pins (s : State) (op : HostOp) (p : Packet) (slot : Nat) (phase : CmdPhase) (due : Nat) (twin : Option Packet) :
    (s.addCmd op p slot phase due twin).1.pins = s.pins := rfl
@[simp] theorem State.addCmd_up (s : State) (op : HostOp) (p : Packet) (slot : Nat) (phase : CmdPhase) (due : Nat) (twin : Option Packet) :
    (s.addCmd op p slot phase due twin).1.up = s.up := rfl
@[simp] theorem State.addCmd_streams (s : State) (op : HostOp) (p : Packet) (slot : Nat) (phase : CmdPhase) (due : Nat) (twin : Option Packet) :
    (s.addCmd op p slot phase due twin).1.streams = s.streams := rfl
@[simp] theorem State.addCmd_carve (s : State) (op : HostOp) (p : Packet) (slot : Nat) (phase : CmdPhase) (due : Nat) (twin : Option Packet) :
    (s.addCmd op p slot phase due twin).1.carve = s.carve := rfl
@[simp] theorem State.addCmd_ports (s : State) (op : HostOp) (p : Packet) (slot : Nat) (phase : CmdPhase) (due : Nat) (twin : Option Packet) :
    (s.addCmd op p slot phase due twin).1.ports = s.ports := rfl
@[simp] theorem State.addCmd_access (s : State) (op : HostOp) (p : Packet) (slot : Nat) (phase : CmdPhase) (due : Nat) (twin : Option Packet) :
    (s.addCmd op p slot phase due twin).1.access = s.access := rfl
@[simp] theorem State.addCmd_twin (s : State) (op : HostOp) (p : Packet) (slot : Nat) (phase : CmdPhase) (due : Nat) (twin : Option Packet) :
    (s.addCmd op p slot phase due twin).1.twin = s.twin := rfl
@[simp] theorem State.addCmd_sec (s : State) (op : HostOp) (p : Packet) (slot : Nat) (phase : CmdPhase) (due : Nat) (twin : Option Packet) :
    (s.addCmd op p slot phase due twin).1.sec = s.sec := rfl
@[simp] theorem State.addCmd_mail (s : State) (op : HostOp) (p : Packet) (slot : Nat) (phase : CmdPhase) (due : Nat) (twin : Option Packet) :
    (s.addCmd op p slot phase due twin).1.mail = s.mail := rfl
@[simp] theorem State.addCmd_agent (s : State) (op : HostOp) (p : Packet) (slot : Nat) (phase : CmdPhase) (due : Nat) (twin : Option Packet) :
    (s.addCmd op p slot phase due twin).1.agent = s.agent := rfl
@[simp] theorem State.addCmd_fabric (s : State) (op : HostOp) (p : Packet) (slot : Nat) (phase : CmdPhase) (due : Nat) (twin : Option Packet) :
    (s.addCmd op p slot phase due twin).1.fabric = s.fabric := rfl
@[simp] theorem State.addCmd_power (s : State) (op : HostOp) (p : Packet) (slot : Nat) (phase : CmdPhase) (due : Nat) (twin : Option Packet) :
    (s.addCmd op p slot phase due twin).1.power = s.power := rfl
@[simp] theorem State.addCmd_twill (s : State) (op : HostOp) (p : Packet) (slot : Nat) (phase : CmdPhase) (due : Nat) (twin : Option Packet) :
    (s.addCmd op p slot phase due twin).1.twill = s.twill := rfl
@[simp] theorem State.addCmd_jacquard (s : State) (op : HostOp) (p : Packet) (slot : Nat) (phase : CmdPhase) (due : Nat) (twin : Option Packet) :
    (s.addCmd op p slot phase due twin).1.jacquard = s.jacquard := rfl
@[simp] theorem State.addCmd_calico (s : State) (op : HostOp) (p : Packet) (slot : Nat) (phase : CmdPhase) (due : Nat) (twin : Option Packet) :
    (s.addCmd op p slot phase due twin).1.calico = s.calico := rfl
@[simp] theorem State.addCmd_store (s : State) (op : HostOp) (p : Packet) (slot : Nat) (phase : CmdPhase) (due : Nat) (twin : Option Packet) :
    (s.addCmd op p slot phase due twin).1.store = s.store := rfl
@[simp] theorem State.addCmd_buckram (s : State) (op : HostOp) (p : Packet) (slot : Nat) (phase : CmdPhase) (due : Nat) (twin : Option Packet) :
    (s.addCmd op p slot phase due twin).1.buckram = s.buckram := rfl
@[simp] theorem State.addCmd_drawn (s : State) (op : HostOp) (p : Packet) (slot : Nat) (phase : CmdPhase) (due : Nat) (twin : Option Packet) :
    (s.addCmd op p slot phase due twin).1.drawn = s.drawn := rfl
@[simp] theorem State.ask_pending (s : State) (dst : Nat) (type : Nat) (body : Bytes) (cmd : Option Nat) (purpose : Nat) :
    (s.ask dst type body cmd purpose).pending = s.pending := by
  simp [State.ask]
@[simp] theorem State.ask_host (s : State) (dst : Nat) (type : Nat) (body : Bytes) (cmd : Option Nat) (purpose : Nat) :
    (s.ask dst type body cmd purpose).host = s.host := by
  simp [State.ask]
@[simp] theorem State.ask_clock (s : State) (dst : Nat) (type : Nat) (body : Bytes) (cmd : Option Nat) (purpose : Nat) :
    (s.ask dst type body cmd purpose).clock = s.clock := by
  simp [State.ask]
@[simp] theorem State.ask_faults (s : State) (dst : Nat) (type : Nat) (body : Bytes) (cmd : Option Nat) (purpose : Nat) :
    (s.ask dst type body cmd purpose).faults = s.faults := by
  simp [State.ask]
@[simp] theorem State.ask_pins (s : State) (dst : Nat) (type : Nat) (body : Bytes) (cmd : Option Nat) (purpose : Nat) :
    (s.ask dst type body cmd purpose).pins = s.pins := by
  simp [State.ask]
@[simp] theorem State.ask_up (s : State) (dst : Nat) (type : Nat) (body : Bytes) (cmd : Option Nat) (purpose : Nat) :
    (s.ask dst type body cmd purpose).up = s.up := by
  simp [State.ask]
@[simp] theorem State.ask_streams (s : State) (dst : Nat) (type : Nat) (body : Bytes) (cmd : Option Nat) (purpose : Nat) :
    (s.ask dst type body cmd purpose).streams = s.streams := by
  simp [State.ask]
@[simp] theorem State.ask_carve (s : State) (dst : Nat) (type : Nat) (body : Bytes) (cmd : Option Nat) (purpose : Nat) :
    (s.ask dst type body cmd purpose).carve = s.carve := by
  simp [State.ask]
@[simp] theorem State.ask_ports (s : State) (dst : Nat) (type : Nat) (body : Bytes) (cmd : Option Nat) (purpose : Nat) :
    (s.ask dst type body cmd purpose).ports = s.ports := by
  simp [State.ask]
@[simp] theorem State.ask_access (s : State) (dst : Nat) (type : Nat) (body : Bytes) (cmd : Option Nat) (purpose : Nat) :
    (s.ask dst type body cmd purpose).access = s.access := by
  simp [State.ask]
@[simp] theorem State.ask_twin (s : State) (dst : Nat) (type : Nat) (body : Bytes) (cmd : Option Nat) (purpose : Nat) :
    (s.ask dst type body cmd purpose).twin = s.twin := by
  simp [State.ask]
@[simp] theorem State.ask_sec (s : State) (dst : Nat) (type : Nat) (body : Bytes) (cmd : Option Nat) (purpose : Nat) :
    (s.ask dst type body cmd purpose).sec = s.sec := by
  simp [State.ask]
@[simp] theorem State.ask_agent (s : State) (dst : Nat) (type : Nat) (body : Bytes) (cmd : Option Nat) (purpose : Nat) :
    (s.ask dst type body cmd purpose).agent = s.agent := by
  simp [State.ask]
@[simp] theorem State.ask_fabric (s : State) (dst : Nat) (type : Nat) (body : Bytes) (cmd : Option Nat) (purpose : Nat) :
    (s.ask dst type body cmd purpose).fabric = s.fabric := by
  simp [State.ask]
@[simp] theorem State.ask_power (s : State) (dst : Nat) (type : Nat) (body : Bytes) (cmd : Option Nat) (purpose : Nat) :
    (s.ask dst type body cmd purpose).power = s.power := by
  simp [State.ask]
@[simp] theorem State.ask_twill (s : State) (dst : Nat) (type : Nat) (body : Bytes) (cmd : Option Nat) (purpose : Nat) :
    (s.ask dst type body cmd purpose).twill = s.twill := by
  simp [State.ask]
@[simp] theorem State.ask_jacquard (s : State) (dst : Nat) (type : Nat) (body : Bytes) (cmd : Option Nat) (purpose : Nat) :
    (s.ask dst type body cmd purpose).jacquard = s.jacquard := by
  simp [State.ask]
@[simp] theorem State.ask_calico (s : State) (dst : Nat) (type : Nat) (body : Bytes) (cmd : Option Nat) (purpose : Nat) :
    (s.ask dst type body cmd purpose).calico = s.calico := by
  simp [State.ask]
@[simp] theorem State.ask_store (s : State) (dst : Nat) (type : Nat) (body : Bytes) (cmd : Option Nat) (purpose : Nat) :
    (s.ask dst type body cmd purpose).store = s.store := by
  simp [State.ask]
@[simp] theorem State.ask_buckram (s : State) (dst : Nat) (type : Nat) (body : Bytes) (cmd : Option Nat) (purpose : Nat) :
    (s.ask dst type body cmd purpose).buckram = s.buckram := by
  simp [State.ask]
@[simp] theorem State.ask_drawn (s : State) (dst : Nat) (type : Nat) (body : Bytes) (cmd : Option Nat) (purpose : Nat) :
    (s.ask dst type body cmd purpose).drawn = s.drawn := by
  simp [State.ask]
@[simp] theorem State.askFor_pending (s : State) (id : Nat) (dst : Nat) (type : Nat) (body : Bytes) (purpose : Nat) :
    (s.askFor id dst type body purpose).pending = s.pending := by
  simp [State.askFor]
@[simp] theorem State.askFor_clock (s : State) (id : Nat) (dst : Nat) (type : Nat) (body : Bytes) (purpose : Nat) :
    (s.askFor id dst type body purpose).clock = s.clock := by
  simp [State.askFor]
@[simp] theorem State.askFor_faults (s : State) (id : Nat) (dst : Nat) (type : Nat) (body : Bytes) (purpose : Nat) :
    (s.askFor id dst type body purpose).faults = s.faults := by
  simp [State.askFor]
@[simp] theorem State.askFor_pins (s : State) (id : Nat) (dst : Nat) (type : Nat) (body : Bytes) (purpose : Nat) :
    (s.askFor id dst type body purpose).pins = s.pins := by
  simp [State.askFor]
@[simp] theorem State.askFor_up (s : State) (id : Nat) (dst : Nat) (type : Nat) (body : Bytes) (purpose : Nat) :
    (s.askFor id dst type body purpose).up = s.up := by
  simp [State.askFor]
@[simp] theorem State.askFor_streams (s : State) (id : Nat) (dst : Nat) (type : Nat) (body : Bytes) (purpose : Nat) :
    (s.askFor id dst type body purpose).streams = s.streams := by
  simp [State.askFor]
@[simp] theorem State.askFor_carve (s : State) (id : Nat) (dst : Nat) (type : Nat) (body : Bytes) (purpose : Nat) :
    (s.askFor id dst type body purpose).carve = s.carve := by
  simp [State.askFor]
@[simp] theorem State.askFor_ports (s : State) (id : Nat) (dst : Nat) (type : Nat) (body : Bytes) (purpose : Nat) :
    (s.askFor id dst type body purpose).ports = s.ports := by
  simp [State.askFor]
@[simp] theorem State.askFor_access (s : State) (id : Nat) (dst : Nat) (type : Nat) (body : Bytes) (purpose : Nat) :
    (s.askFor id dst type body purpose).access = s.access := by
  simp [State.askFor]
@[simp] theorem State.askFor_twin (s : State) (id : Nat) (dst : Nat) (type : Nat) (body : Bytes) (purpose : Nat) :
    (s.askFor id dst type body purpose).twin = s.twin := by
  simp [State.askFor]
@[simp] theorem State.askFor_sec (s : State) (id : Nat) (dst : Nat) (type : Nat) (body : Bytes) (purpose : Nat) :
    (s.askFor id dst type body purpose).sec = s.sec := by
  simp [State.askFor]
@[simp] theorem State.askFor_agent (s : State) (id : Nat) (dst : Nat) (type : Nat) (body : Bytes) (purpose : Nat) :
    (s.askFor id dst type body purpose).agent = s.agent := by
  simp [State.askFor]
@[simp] theorem State.askFor_fabric (s : State) (id : Nat) (dst : Nat) (type : Nat) (body : Bytes) (purpose : Nat) :
    (s.askFor id dst type body purpose).fabric = s.fabric := by
  simp [State.askFor]
@[simp] theorem State.askFor_power (s : State) (id : Nat) (dst : Nat) (type : Nat) (body : Bytes) (purpose : Nat) :
    (s.askFor id dst type body purpose).power = s.power := by
  simp [State.askFor]
@[simp] theorem State.askFor_twill (s : State) (id : Nat) (dst : Nat) (type : Nat) (body : Bytes) (purpose : Nat) :
    (s.askFor id dst type body purpose).twill = s.twill := by
  simp [State.askFor]
@[simp] theorem State.askFor_jacquard (s : State) (id : Nat) (dst : Nat) (type : Nat) (body : Bytes) (purpose : Nat) :
    (s.askFor id dst type body purpose).jacquard = s.jacquard := by
  simp [State.askFor]
@[simp] theorem State.askFor_calico (s : State) (id : Nat) (dst : Nat) (type : Nat) (body : Bytes) (purpose : Nat) :
    (s.askFor id dst type body purpose).calico = s.calico := by
  simp [State.askFor]
@[simp] theorem State.askFor_store (s : State) (id : Nat) (dst : Nat) (type : Nat) (body : Bytes) (purpose : Nat) :
    (s.askFor id dst type body purpose).store = s.store := by
  simp [State.askFor]
@[simp] theorem State.askFor_buckram (s : State) (id : Nat) (dst : Nat) (type : Nat) (body : Bytes) (purpose : Nat) :
    (s.askFor id dst type body purpose).buckram = s.buckram := by
  simp [State.askFor]
@[simp] theorem State.askFor_drawn (s : State) (id : Nat) (dst : Nat) (type : Nat) (body : Bytes) (purpose : Nat) :
    (s.askFor id dst type body purpose).drawn = s.drawn := by
  simp [State.askFor]
@[simp] theorem State.addHolder_pending (s : State) (job : Nat) (kind : Nat) (addr : Nat) :
    (s.addHolder job kind addr).pending = s.pending := by
  unfold State.addHolder; (try dsimp only); (repeat' split) <;> simp
@[simp] theorem State.addHolder_host (s : State) (job : Nat) (kind : Nat) (addr : Nat) :
    (s.addHolder job kind addr).host = s.host := by
  unfold State.addHolder; (try dsimp only); (repeat' split) <;> simp
@[simp] theorem State.addHolder_clock (s : State) (job : Nat) (kind : Nat) (addr : Nat) :
    (s.addHolder job kind addr).clock = s.clock := by
  unfold State.addHolder; (try dsimp only); (repeat' split) <;> simp
@[simp] theorem State.addHolder_faults (s : State) (job : Nat) (kind : Nat) (addr : Nat) :
    (s.addHolder job kind addr).faults = s.faults := by
  unfold State.addHolder; (try dsimp only); (repeat' split) <;> simp
@[simp] theorem State.addHolder_pins (s : State) (job : Nat) (kind : Nat) (addr : Nat) :
    (s.addHolder job kind addr).pins = s.pins := by
  unfold State.addHolder; (try dsimp only); (repeat' split) <;> simp
@[simp] theorem State.addHolder_up (s : State) (job : Nat) (kind : Nat) (addr : Nat) :
    (s.addHolder job kind addr).up = s.up := by
  unfold State.addHolder; (try dsimp only); (repeat' split) <;> simp
@[simp] theorem State.addHolder_streams (s : State) (job : Nat) (kind : Nat) (addr : Nat) :
    (s.addHolder job kind addr).streams = s.streams := by
  unfold State.addHolder; (try dsimp only); (repeat' split) <;> simp
@[simp] theorem State.addHolder_carve (s : State) (job : Nat) (kind : Nat) (addr : Nat) :
    (s.addHolder job kind addr).carve = s.carve := by
  unfold State.addHolder; (try dsimp only); (repeat' split) <;> simp
@[simp] theorem State.addHolder_ports (s : State) (job : Nat) (kind : Nat) (addr : Nat) :
    (s.addHolder job kind addr).ports = s.ports := by
  unfold State.addHolder; (try dsimp only); (repeat' split) <;> simp
@[simp] theorem State.addHolder_access (s : State) (job : Nat) (kind : Nat) (addr : Nat) :
    (s.addHolder job kind addr).access = s.access := by
  unfold State.addHolder; (try dsimp only); (repeat' split) <;> simp
@[simp] theorem State.addHolder_twin (s : State) (job : Nat) (kind : Nat) (addr : Nat) :
    (s.addHolder job kind addr).twin = s.twin := by
  unfold State.addHolder; (try dsimp only); (repeat' split) <;> simp
@[simp] theorem State.addHolder_mail (s : State) (job : Nat) (kind : Nat) (addr : Nat) :
    (s.addHolder job kind addr).mail = s.mail := by
  unfold State.addHolder; (try dsimp only); (repeat' split) <;> simp
@[simp] theorem State.addHolder_agent (s : State) (job : Nat) (kind : Nat) (addr : Nat) :
    (s.addHolder job kind addr).agent = s.agent := by
  unfold State.addHolder; (try dsimp only); (repeat' split) <;> simp
@[simp] theorem State.addHolder_fabric (s : State) (job : Nat) (kind : Nat) (addr : Nat) :
    (s.addHolder job kind addr).fabric = s.fabric := by
  unfold State.addHolder; (try dsimp only); (repeat' split) <;> simp
@[simp] theorem State.addHolder_power (s : State) (job : Nat) (kind : Nat) (addr : Nat) :
    (s.addHolder job kind addr).power = s.power := by
  unfold State.addHolder; (try dsimp only); (repeat' split) <;> simp
@[simp] theorem State.addHolder_twill (s : State) (job : Nat) (kind : Nat) (addr : Nat) :
    (s.addHolder job kind addr).twill = s.twill := by
  unfold State.addHolder; (try dsimp only); (repeat' split) <;> simp
@[simp] theorem State.addHolder_jacquard (s : State) (job : Nat) (kind : Nat) (addr : Nat) :
    (s.addHolder job kind addr).jacquard = s.jacquard := by
  unfold State.addHolder; (try dsimp only); (repeat' split) <;> simp
@[simp] theorem State.addHolder_calico (s : State) (job : Nat) (kind : Nat) (addr : Nat) :
    (s.addHolder job kind addr).calico = s.calico := by
  unfold State.addHolder; (try dsimp only); (repeat' split) <;> simp
@[simp] theorem State.addHolder_store (s : State) (job : Nat) (kind : Nat) (addr : Nat) :
    (s.addHolder job kind addr).store = s.store := by
  unfold State.addHolder; (try dsimp only); (repeat' split) <;> simp
@[simp] theorem State.addHolder_buckram (s : State) (job : Nat) (kind : Nat) (addr : Nat) :
    (s.addHolder job kind addr).buckram = s.buckram := by
  unfold State.addHolder; (try dsimp only); (repeat' split) <;> simp
@[simp] theorem State.addHolder_drawn (s : State) (job : Nat) (kind : Nat) (addr : Nat) :
    (s.addHolder job kind addr).drawn = s.drawn := by
  unfold State.addHolder; (try dsimp only); (repeat' split) <;> simp
@[simp] theorem State.secLog_pending (s : State) (kind : Nat) (opcode : Nat) (signers : Nat) (job : Nat) (subject : Bytes) :
    (s.secLog kind opcode signers job subject).pending = s.pending := by
  unfold State.secLog; (repeat' split) <;> rfl
@[simp] theorem State.secLog_host (s : State) (kind : Nat) (opcode : Nat) (signers : Nat) (job : Nat) (subject : Bytes) :
    (s.secLog kind opcode signers job subject).host = s.host := by
  unfold State.secLog; (repeat' split) <;> rfl
@[simp] theorem State.secLog_clock (s : State) (kind : Nat) (opcode : Nat) (signers : Nat) (job : Nat) (subject : Bytes) :
    (s.secLog kind opcode signers job subject).clock = s.clock := by
  unfold State.secLog; (repeat' split) <;> rfl
@[simp] theorem State.secLog_faults (s : State) (kind : Nat) (opcode : Nat) (signers : Nat) (job : Nat) (subject : Bytes) :
    (s.secLog kind opcode signers job subject).faults = s.faults := by
  unfold State.secLog; (repeat' split) <;> rfl
@[simp] theorem State.secLog_pins (s : State) (kind : Nat) (opcode : Nat) (signers : Nat) (job : Nat) (subject : Bytes) :
    (s.secLog kind opcode signers job subject).pins = s.pins := by
  unfold State.secLog; (repeat' split) <;> rfl
@[simp] theorem State.secLog_up (s : State) (kind : Nat) (opcode : Nat) (signers : Nat) (job : Nat) (subject : Bytes) :
    (s.secLog kind opcode signers job subject).up = s.up := by
  unfold State.secLog; (repeat' split) <;> rfl
@[simp] theorem State.secLog_streams (s : State) (kind : Nat) (opcode : Nat) (signers : Nat) (job : Nat) (subject : Bytes) :
    (s.secLog kind opcode signers job subject).streams = s.streams := by
  unfold State.secLog; (repeat' split) <;> rfl
@[simp] theorem State.secLog_carve (s : State) (kind : Nat) (opcode : Nat) (signers : Nat) (job : Nat) (subject : Bytes) :
    (s.secLog kind opcode signers job subject).carve = s.carve := by
  unfold State.secLog; (repeat' split) <;> rfl
@[simp] theorem State.secLog_ports (s : State) (kind : Nat) (opcode : Nat) (signers : Nat) (job : Nat) (subject : Bytes) :
    (s.secLog kind opcode signers job subject).ports = s.ports := by
  unfold State.secLog; (repeat' split) <;> rfl
@[simp] theorem State.secLog_access (s : State) (kind : Nat) (opcode : Nat) (signers : Nat) (job : Nat) (subject : Bytes) :
    (s.secLog kind opcode signers job subject).access = s.access := by
  unfold State.secLog; (repeat' split) <;> rfl
@[simp] theorem State.secLog_twin (s : State) (kind : Nat) (opcode : Nat) (signers : Nat) (job : Nat) (subject : Bytes) :
    (s.secLog kind opcode signers job subject).twin = s.twin := by
  unfold State.secLog; (repeat' split) <;> rfl
@[simp] theorem State.secLog_mail (s : State) (kind : Nat) (opcode : Nat) (signers : Nat) (job : Nat) (subject : Bytes) :
    (s.secLog kind opcode signers job subject).mail = s.mail := by
  unfold State.secLog; (repeat' split) <;> rfl
@[simp] theorem State.secLog_agent (s : State) (kind : Nat) (opcode : Nat) (signers : Nat) (job : Nat) (subject : Bytes) :
    (s.secLog kind opcode signers job subject).agent = s.agent := by
  unfold State.secLog; (repeat' split) <;> rfl
@[simp] theorem State.secLog_fabric (s : State) (kind : Nat) (opcode : Nat) (signers : Nat) (job : Nat) (subject : Bytes) :
    (s.secLog kind opcode signers job subject).fabric = s.fabric := by
  unfold State.secLog; (repeat' split) <;> rfl
@[simp] theorem State.secLog_power (s : State) (kind : Nat) (opcode : Nat) (signers : Nat) (job : Nat) (subject : Bytes) :
    (s.secLog kind opcode signers job subject).power = s.power := by
  unfold State.secLog; (repeat' split) <;> rfl
@[simp] theorem State.secLog_twill (s : State) (kind : Nat) (opcode : Nat) (signers : Nat) (job : Nat) (subject : Bytes) :
    (s.secLog kind opcode signers job subject).twill = s.twill := by
  unfold State.secLog; (repeat' split) <;> rfl
@[simp] theorem State.secLog_jacquard (s : State) (kind : Nat) (opcode : Nat) (signers : Nat) (job : Nat) (subject : Bytes) :
    (s.secLog kind opcode signers job subject).jacquard = s.jacquard := by
  unfold State.secLog; (repeat' split) <;> rfl
@[simp] theorem State.secLog_calico (s : State) (kind : Nat) (opcode : Nat) (signers : Nat) (job : Nat) (subject : Bytes) :
    (s.secLog kind opcode signers job subject).calico = s.calico := by
  unfold State.secLog; (repeat' split) <;> rfl
@[simp] theorem State.secLog_store (s : State) (kind : Nat) (opcode : Nat) (signers : Nat) (job : Nat) (subject : Bytes) :
    (s.secLog kind opcode signers job subject).store = s.store := by
  unfold State.secLog; (repeat' split) <;> rfl
@[simp] theorem State.secLog_buckram (s : State) (kind : Nat) (opcode : Nat) (signers : Nat) (job : Nat) (subject : Bytes) :
    (s.secLog kind opcode signers job subject).buckram = s.buckram := by
  unfold State.secLog; (repeat' split) <;> rfl
@[simp] theorem State.secLog_drawn (s : State) (kind : Nat) (opcode : Nat) (signers : Nat) (job : Nat) (subject : Bytes) :
    (s.secLog kind opcode signers job subject).drawn = s.drawn := by
  unfold State.secLog; (repeat' split) <;> rfl
@[simp] theorem State.keyInstall_pending (s : State) (addr : Nat) (k : HeldKey) (cmd : Option Nat) (p : Purpose) :
    (s.keyInstall addr k cmd p).pending = s.pending := by
  unfold State.keyInstall; (try dsimp only); (repeat' split) <;> simp
@[simp] theorem State.keyInstall_clock (s : State) (addr : Nat) (k : HeldKey) (cmd : Option Nat) (p : Purpose) :
    (s.keyInstall addr k cmd p).clock = s.clock := by
  unfold State.keyInstall; (try dsimp only); (repeat' split) <;> simp
@[simp] theorem State.keyInstall_faults (s : State) (addr : Nat) (k : HeldKey) (cmd : Option Nat) (p : Purpose) :
    (s.keyInstall addr k cmd p).faults = s.faults := by
  unfold State.keyInstall; (try dsimp only); (repeat' split) <;> simp
@[simp] theorem State.keyInstall_pins (s : State) (addr : Nat) (k : HeldKey) (cmd : Option Nat) (p : Purpose) :
    (s.keyInstall addr k cmd p).pins = s.pins := by
  unfold State.keyInstall; (try dsimp only); (repeat' split) <;> simp
@[simp] theorem State.keyInstall_up (s : State) (addr : Nat) (k : HeldKey) (cmd : Option Nat) (p : Purpose) :
    (s.keyInstall addr k cmd p).up = s.up := by
  unfold State.keyInstall; (try dsimp only); (repeat' split) <;> simp
@[simp] theorem State.keyInstall_streams (s : State) (addr : Nat) (k : HeldKey) (cmd : Option Nat) (p : Purpose) :
    (s.keyInstall addr k cmd p).streams = s.streams := by
  unfold State.keyInstall; (try dsimp only); (repeat' split) <;> simp
@[simp] theorem State.keyInstall_carve (s : State) (addr : Nat) (k : HeldKey) (cmd : Option Nat) (p : Purpose) :
    (s.keyInstall addr k cmd p).carve = s.carve := by
  unfold State.keyInstall; (try dsimp only); (repeat' split) <;> simp
@[simp] theorem State.keyInstall_ports (s : State) (addr : Nat) (k : HeldKey) (cmd : Option Nat) (p : Purpose) :
    (s.keyInstall addr k cmd p).ports = s.ports := by
  unfold State.keyInstall; (try dsimp only); (repeat' split) <;> simp
@[simp] theorem State.keyInstall_access (s : State) (addr : Nat) (k : HeldKey) (cmd : Option Nat) (p : Purpose) :
    (s.keyInstall addr k cmd p).access = s.access := by
  unfold State.keyInstall; (try dsimp only); (repeat' split) <;> simp
@[simp] theorem State.keyInstall_twin (s : State) (addr : Nat) (k : HeldKey) (cmd : Option Nat) (p : Purpose) :
    (s.keyInstall addr k cmd p).twin = s.twin := by
  unfold State.keyInstall; (try dsimp only); (repeat' split) <;> simp
@[simp] theorem State.keyInstall_sec (s : State) (addr : Nat) (k : HeldKey) (cmd : Option Nat) (p : Purpose) :
    (s.keyInstall addr k cmd p).sec = s.sec := by
  unfold State.keyInstall; (try dsimp only); (repeat' split) <;> simp
@[simp] theorem State.keyInstall_agent (s : State) (addr : Nat) (k : HeldKey) (cmd : Option Nat) (p : Purpose) :
    (s.keyInstall addr k cmd p).agent = s.agent := by
  unfold State.keyInstall; (try dsimp only); (repeat' split) <;> simp
@[simp] theorem State.keyInstall_fabric (s : State) (addr : Nat) (k : HeldKey) (cmd : Option Nat) (p : Purpose) :
    (s.keyInstall addr k cmd p).fabric = s.fabric := by
  unfold State.keyInstall; (try dsimp only); (repeat' split) <;> simp
@[simp] theorem State.keyInstall_power (s : State) (addr : Nat) (k : HeldKey) (cmd : Option Nat) (p : Purpose) :
    (s.keyInstall addr k cmd p).power = s.power := by
  unfold State.keyInstall; (try dsimp only); (repeat' split) <;> simp
@[simp] theorem State.keyInstall_twill (s : State) (addr : Nat) (k : HeldKey) (cmd : Option Nat) (p : Purpose) :
    (s.keyInstall addr k cmd p).twill = s.twill := by
  unfold State.keyInstall; (try dsimp only); (repeat' split) <;> simp
@[simp] theorem State.keyInstall_jacquard (s : State) (addr : Nat) (k : HeldKey) (cmd : Option Nat) (p : Purpose) :
    (s.keyInstall addr k cmd p).jacquard = s.jacquard := by
  unfold State.keyInstall; (try dsimp only); (repeat' split) <;> simp
@[simp] theorem State.keyInstall_calico (s : State) (addr : Nat) (k : HeldKey) (cmd : Option Nat) (p : Purpose) :
    (s.keyInstall addr k cmd p).calico = s.calico := by
  unfold State.keyInstall; (try dsimp only); (repeat' split) <;> simp
@[simp] theorem State.keyInstall_store (s : State) (addr : Nat) (k : HeldKey) (cmd : Option Nat) (p : Purpose) :
    (s.keyInstall addr k cmd p).store = s.store := by
  unfold State.keyInstall; (try dsimp only); (repeat' split) <;> simp
@[simp] theorem State.keyInstall_buckram (s : State) (addr : Nat) (k : HeldKey) (cmd : Option Nat) (p : Purpose) :
    (s.keyInstall addr k cmd p).buckram = s.buckram := by
  unfold State.keyInstall; (try dsimp only); (repeat' split) <;> simp
@[simp] theorem State.keyInstall_drawn (s : State) (addr : Nat) (k : HeldKey) (cmd : Option Nat) (p : Purpose) :
    (s.keyInstall addr k cmd p).drawn = s.drawn := by
  unfold State.keyInstall; (try dsimp only); (repeat' split) <;> simp

end Sys2Proof.Machine
end

