-- ==== Sys2Proof/Laws/Host.lean ====
section
/-! SUPPORT. What the acceptance and the end of a host command do, once for every opcode. -/

namespace Sys2Proof.Machine

open Sys2Proof

/-! ### Numbers of commands -/

theorem foldl_max_ge (l : List Cmd) (n : Nat) : n ≤ l.foldl (fun a c => max a (c.id + 1)) n := by
  induction l generalizing n with
  | nil => exact Nat.le_refl n
  | cons c l ih => exact Nat.le_trans (Nat.le_max_left n (c.id + 1)) (ih _)

theorem foldl_max_gt (l : List Cmd) (n : Nat) (c : Cmd) (h : c ∈ l) : c.id < l.foldl (fun a d => max a (d.id + 1)) n := by
  induction l generalizing n with
  | nil => simp at h
  | cons d l ih =>
    rcases List.mem_cons.1 h with rfl | h
    · exact Nat.lt_of_lt_of_le (Nat.lt_of_lt_of_le (Nat.lt_succ_self _) (Nat.le_max_right n _)) (foldl_max_ge l _)
    · exact ih _ h

/-- The number of a new command is no other command's. -/
theorem State.freshCmd_fresh (s : State) (c : Cmd) (h : c ∈ s.host.cmds) : c.id ≠ s.freshCmd :=
  Nat.ne_of_lt (foldl_max_gt s.host.cmds s.host.nextCmd c h)

theorem find_fresh (s : State) (c : Cmd) (hc : c.id = s.freshCmd) :
    (s.host.cmds ++ [c]).find? (fun d => d.id == s.freshCmd) = some c := by
  rw [List.find?_append]
  have h : s.host.cmds.find? (fun d => d.id == s.freshCmd) = none := by
    apply List.find?_eq_none.2
    intro d hd
    simpa using s.freshCmd_fresh d hd
  simp [h, hc]

theorem filter_fresh (s : State) (c : Cmd) (hc : c.id = s.freshCmd) :
    (s.host.cmds ++ [c]).filter (fun d => d.id != s.freshCmd) = s.host.cmds := by
  rw [List.filter_append]
  have h : s.host.cmds.filter (fun d => d.id != s.freshCmd) = s.host.cmds := by
    apply List.filter_eq_self.2
    intro d hd
    simpa using s.freshCmd_fresh d hd
  simp [h, hc]

theorem map_fresh (s : State) (c : Cmd) (hc : c.id = s.freshCmd) (f : Cmd → Cmd) :
    (s.host.cmds ++ [c]).map (fun d => if d.id = s.freshCmd then f d else d) = s.host.cmds ++ [f c] := by
  rw [List.map_append]
  have h : s.host.cmds.map (fun d => if d.id = s.freshCmd then f d else d) = s.host.cmds := by
    conv => rhs; rw [← List.map_id s.host.cmds]
    apply List.map_congr_left
    intro d hd
    simp [s.freshCmd_fresh d hd]
  simp [h, hc]

/-! ### Records -/

@[simp] theorem State.setHostPort_cmds (s : State) (p : Nat) (h : HostPort) : (s.setHostPort p h).host.cmds = s.host.cmds := by
  unfold State.setHostPort; split <;> rfl

@[simp] theorem State.modHostPort_cmds (s : State) (p : Nat) (f : HostPort → HostPort) :
    (s.modHostPort p f).host.cmds = s.host.cmds := by simp [State.modHostPort]

@[simp] theorem State.setRing_cmds (s : State) (p r : Nat) (x : Ring) : (s.setRing p r x).host.cmds = s.host.cmds := by
  simp [State.setRing]

@[simp] theorem State.setHostPort_completions (s : State) (p : Nat) (h : HostPort) :
    (s.setHostPort p h).host.completions = s.host.completions := by
  unfold State.setHostPort; split <;> rfl

@[simp] theorem State.modHostPort_completions (s : State) (p : Nat) (f : HostPort → HostPort) :
    (s.modHostPort p f).host.completions = s.host.completions := by simp [State.modHostPort]

@[simp] theorem State.setRing_completions (s : State) (p r : Nat) (x : Ring) :
    (s.setRing p r x).host.completions = s.host.completions := by simp [State.setRing]

@[simp] theorem State.setHostPort_results (s : State) (p : Nat) (h : HostPort) :
    (s.setHostPort p h).host.results = s.host.results := by
  unfold State.setHostPort; split <;> rfl

@[simp] theorem State.modHostPort_results (s : State) (p : Nat) (f : HostPort → HostPort) :
    (s.modHostPort p f).host.results = s.host.results := by simp [State.modHostPort]

@[simp] theorem State.setRing_results (s : State) (p r : Nat) (x : Ring) :
    (s.setRing p r x).host.results = s.host.results := by simp [State.setRing]

@[simp] theorem State.writeRecord_cmds (s : State) (p r : Nat) (o : Bool) (c : Rec) :
    (s.writeRecord p r o c).host.cmds = s.host.cmds := by
  unfold State.writeRecord; dsimp only; (repeat' split) <;> simp

/-- A completion record has 32 bytes (R109). -/
theorem Completion.bytes_length (c : Completion) : c.bytes.length = 32 := by
  simp [Completion.bytes, toLe_length]

/-- A record written is the last one the host has got, and its bytes are the last in the host's memory. -/
theorem State.writeRecord_last (s : State) (p r : Nat) (o : Bool) (c : Rec) :
    ∃ d, (s.writeRecord p r o c).host.completions.getLast? = some d ∧ d.port = p ∧ d.cq = r ∧ d.tag = c.tag ∧ d.seq = c.seq
      ∧ d.opcode = c.opcode ∧ d.status = c.status ∧ d.detail = c.detail ∧ d.execTick = c.execTick
      ∧ d.final = (c.status != 1) ∧ d.orphan = o ∧ d.resultLen = c.resultLen
      ∧ (s.writeRecord p r o c).host.results = s.host.results ++ [{ port := p, addr := d.addr, bytes := d.bytes }] := by
  unfold State.writeRecord
  dsimp only
  (repeat' split) <;> simp

@[simp] theorem State.drainOrphans_cmds (p keep n : Nat) (s : State) : (s.drainOrphans p keep n).host.cmds = s.host.cmds := by
  induction n generalizing s with
  | zero => rfl
  | succ n ih => unfold State.drainOrphans; dsimp only; (repeat' split) <;> simp [ih]

/-- Orphans that drain write nothing but records to the host's memory (R94, R109). -/
theorem State.drainOrphans_results (p keep n : Nat) (s : State) : ∃ m, (s.drainOrphans p keep n).host.results = s.host.results ++ m
    ∧ ∀ w ∈ m, w.bytes.length = 32 := by
  induction n generalizing s with
  | zero => exact ⟨[], by simp [State.drainOrphans]⟩
  | succ n ih =>
    unfold State.drainOrphans
    dsimp only
    split
    · exact ⟨[], by simp⟩
    · rename_i o rest _
      split
      · exact ⟨[], by simp⟩
      · obtain ⟨m, h1, h2⟩ := ih (((s.modHostPort p (fun h => { h with orphans := rest })).writeRecord p 0 true {
          port := o.origPort, ring := o.origRing, tag := o.tag, opcode := o.opcode, seq := o.seq, status := o.status
          detail := o.detail, execTick := o.execTick, resultLen := o.resultLen, trunc := o.trunc }))
        obtain ⟨d, _, _, _, _, _, _, _, _, _, _, _, _, hw⟩ := (s.modHostPort p (fun h => { h with orphans := rest })).writeRecord_last p 0 true {
          port := o.origPort, ring := o.origRing, tag := o.tag, opcode := o.opcode, seq := o.seq, status := o.status
          detail := o.detail, execTick := o.execTick, resultLen := o.resultLen, trunc := o.trunc }
        refine ⟨{ port := p, addr := d.addr, bytes := d.bytes } :: m, ?_, ?_⟩
        · rw [h1, hw]; simp
        · intro w hw'
          rcases List.mem_cons.1 hw' with rfl | hw'
          · exact d.bytes_length
          · exact h2 w hw'

/-- A host port whose ring can be written to: the device runs rings, PERST is not asserted, the port is good (R110, R112). -/
def State.posts (s : State) (p r : Nat) : Prop :=
  s.up.dev ≠ .halt ∧ s.up.dev ≠ .off ∧ (s.hostPort p).perst = false ∧ (s.unitStatus 4 p).lost = false
    ∧ (s.ring p r).takesRecords = true

theorem State.ringRuns_posts (s : State) (p : Packet) (h : s.ringRuns p = true)
    (ht : (s.ring p.port p.ring).takesRecords = true) : s.posts p.port p.ring := by
  unfold State.ringRuns at h
  simp only [Bool.and_eq_true, Bool.not_eq_true'] at h
  obtain ⟨⟨⟨⟨⟨_, _⟩, h3⟩, h4⟩, _⟩, h5⟩ := h
  refine ⟨?_, ?_, h3, h4, ht⟩ <;> intro hd <;> simp [hd] at h5

/-- Where a ring takes records, posting writes one record and changes nothing but the host interface. -/
theorem State.post_writes (s : State) (c : Rec) (h : s.posts c.port c.ring) (hc : c.cut = false) :
    s.post c = (if c.ring = 0 then s.drainOrphans c.port 1 (s.hostPort c.port).orphans.length else s).writeRecord
      c.port c.ring false c := by
  obtain ⟨h1, h2, h3, h4, h5⟩ := h
  unfold State.post
  simp [h1, h2, h3, h4, h5, hc]

/-- What posting a record shows the host, and that it changes nothing else. -/
theorem State.post_shows (s : State) (c : Rec) (h : s.posts c.port c.ring) (hc : c.cut = false) :
    (∃ d, (s.post c).host.completions.getLast? = some d ∧ d.port = c.port ∧ d.cq = c.ring ∧ d.tag = c.tag ∧ d.seq = c.seq
      ∧ d.opcode = c.opcode ∧ d.status = c.status ∧ d.detail = c.detail ∧ d.execTick = c.execTick
      ∧ d.final = (c.status != 1) ∧ d.orphan = false ∧ d.resultLen = c.resultLen
      ∧ ∃ m, (s.post c).host.results = s.host.results ++ m ∧ (∀ w ∈ m, w.bytes.length = 32)
        ∧ m.getLast? = some { port := c.port, addr := d.addr, bytes := d.bytes })
    ∧ (s.post c).host.cmds = s.host.cmds
    ∧ s.post c = { s with host := (s.post c).host } := by
  have key : ∀ u v : State, u.pending = v.pending → u.clock = v.clock → u.faults = v.faults → u.pins = v.pins → u.up = v.up →
      u.streams = v.streams → u.carve = v.carve → u.ports = v.ports → u.access = v.access → u.twin = v.twin → u.sec = v.sec →
      u.mail = v.mail → u.agent = v.agent → u.fabric = v.fabric → u.power = v.power → u.twill = v.twill →
      u.jacquard = v.jacquard → u.calico = v.calico → u.store = v.store → u.buckram = v.buckram → u.drawn = v.drawn →
      u = { v with host := u.host } := by
    intro u v
    cases u; cases v
    simp only [State.mk.injEq]
    intros; simp_all
  rw [s.post_writes c h hc]
  refine ⟨?_, ?_, ?_⟩
  · obtain ⟨d, a1, a2, a3, a4, a5, a6, a7, a8, a9, a10, a11, a12, hw⟩ := (if c.ring = 0 then
      s.drainOrphans c.port 1 (s.hostPort c.port).orphans.length else s).writeRecord_last c.port c.ring false c
    obtain ⟨m, h1, h2⟩ : ∃ m, (if c.ring = 0 then s.drainOrphans c.port 1 (s.hostPort c.port).orphans.length else s).host.results
        = s.host.results ++ m ∧ ∀ w ∈ m, w.bytes.length = 32 := by
      split
      · exact s.drainOrphans_results ..
      · exact ⟨[], by simp⟩
    refine ⟨d, a1, a2, a3, a4, a5, a6, a7, a8, a9, a10, a11, a12, m ++ [{ port := c.port, addr := d.addr, bytes := d.bytes }], ?_, ?_, ?_⟩
    · rw [hw, h1, List.append_assoc]
    · intro w hw'
      rcases List.mem_append.1 hw' with hw' | hw'
      · exact h2 w hw'
      · rw [List.mem_singleton.1 hw']; exact d.bytes_length
    · simp
  · split <;> simp
  · apply key <;> (split <;> simp)

/-- Two states that differ in nothing but the host interface. -/
theorem State.ext_host (u v : State) (h : u = { v with host := u.host }) (w : HostIf) :
    { u with host := w } = { v with host := w } := by rw [h]

theorem State.hostPort_cmds (s : State) (p : Nat) (l : List Cmd) :
    ({ s with host := { s.host with cmds := l } } : State).hostPort p = s.hostPort p := rfl

/-- The final record of one packet, with its result, as the host sees it; nothing but the host interface changes. -/
theorem State.finishPacket_shows (s : State) (p : Packet) (status detail tick : Nat) (result : Bytes)
    (h : s.posts p.port p.ring) (h1 : status ≠ 1) :
    Posted (s.finishPacket p status detail tick result) p p.opcode status detail tick result
    ∧ (s.finishPacket p status detail tick result).host.cmds = s.host.cmds
    ∧ s.finishPacket p status detail tick result = { s with host := (s.finishPacket p status detail tick result).host } := by
  obtain ⟨d1, d2, d3, d4, d5⟩ := h
  unfold State.finishPacket
  dsimp only
  generalize hs1 : (if bit p.flags 2 = true ∧ result ≠ [] ∧ s.up.dev ≠ .halt ∧ s.up.dev ≠ .off then
      { s with host := { s.host with results := s.host.results ++
          [{ port := p.port, addr := p.resultDesc.1, bytes := result.take p.resultDesc.2 }] } } else s) = s1
  have hh : s1 = { s with host := s1.host } := by rw [← hs1]; split <;> rfl
  have hc : s1.host.cmds = s.host.cmds := by rw [← hs1]; split <;> rfl
  have hr : bit p.flags 2 = true → result ≠ [] → s1.host.results = s.host.results ++
      [{ port := p.port, addr := p.resultDesc.1, bytes := result.take p.resultDesc.2 }] := by
    intro a b; rw [← hs1]; simp [a, b, d1, d2]
  have hp : s1.posts p.port p.ring := by
    have e1 : s1.up = s.up := by rw [hh]
    have e2 : s1.faults = s.faults := by rw [hh]
    have e3 : s1.host.h0 = s.host.h0 ∧ s1.host.h1 = s.host.h1 := by rw [← hs1]; split <;> exact ⟨rfl, rfl⟩
    have e4 : s1.hostPort p.port = s.hostPort p.port := by simp [State.hostPort, e3.1, e3.2]
    have e5 : s1.unitStatus 4 p.port = s.unitStatus 4 p.port := by simp [State.unitStatus, State.unitRec, e2]
    refine ⟨by rw [e1]; exact d1, by rw [e1]; exact d2, by rw [e4]; exact d3, by rw [e5]; exact d4, ?_⟩
    simp only [State.ring, e4]; exact d5
  obtain ⟨⟨d, q1, q2, q3, q4, q5, q6, q7, q8, q9, q10, q11, q12, m, m1, m2, m3⟩, w2, w4⟩ := s1.post_shows {
    port := p.port, ring := p.ring, tag := p.tag, opcode := p.opcode, seq := p.seq, status := status, detail := detail
    execTick := tick, resultLen := result.length, trunc := decide (p.resultDesc.2 < result.length) } hp rfl
  refine ⟨⟨⟨d, q1, q2, q3, q4, q5, q6, q7, q8, q9, ?_, q11, q12, ?_⟩, ?_⟩, ?_, ?_⟩
  · rw [q10]; simpa using h1
  · rw [m1, List.getLast?_append, m3]; rfl
  · intro a b
    refine ⟨s.host.results, m, ?_, m2⟩
    rw [m1, hr a b, List.append_assoc]; rfl
  · rw [w2, hc]
  · rw [w4]; exact State.ext_host s1 s hh _

/-- Whether a command has taken effect is the same with the status it is told. -/
@[simp] theorem Cmd.endAs_effect (c : Cmd) (st d : Nat) : tookEffect (c.endAs st d).1 = tookEffect st := by
  unfold Cmd.endAs
  split
  · rename_i h; rw [h.1]; rfl
  · rfl

/-- A command never ends with the status of one that waits. -/
theorem Cmd.endAs_final (c : Cmd) (st d : Nat) (h : st ≠ 1) : (c.endAs st d).1 ≠ 1 := by
  unfold Cmd.endAs
  split
  · exact (by decide : (0x13 : Nat) ≠ 1)
  · exact h

/-- One that was neither late nor spread ends with its own status. -/
theorem Cmd.endAs_plain (c : Cmd) (st d : Nat) (h : c.endStatus ≠ 0x13) : c.endAs st d = (st, d) := by
  unfold Cmd.endAs
  rw [if_neg (fun x => h x.2)]

/-- The end of a command whose completion does not wait for the twin (R65, R74, R108, R651). -/
theorem State.endCmd_shows (u : State) (id status detail : Nat) (result : Bytes) (c : Cmd)
    (hc : u.host.cmds.find? (fun d => d.id == id) = some c) (ht : c.twinPkt = none) (hp : u.posts c.pkt.port c.pkt.ring)
    (hu : c.cut.contains c.pkt.port = false) (hb : c.phase ≠ .timed ∨ tookEffect status = true)
    (hg : (u.gating && tookEffect status && mirroredOpcode c.pkt.opcode) = false) (h1 : status ≠ 1) :
    Posted (u.endCmd id status detail result) c.pkt c.pkt.opcode (c.endAs status detail).1 (c.endAs status detail).2
      (if tookEffect status then c.effect.getD u.tickNow else 0) result
    ∧ (u.endCmd id status detail result).host.cmds = u.host.cmds.filter (fun d => d.id != id)
    ∧ u.endCmd id status detail result = { u with host := (u.endCmd id status detail result).host } := by
  unfold State.endCmd
  have hd : ¬(c.phase = .timed ∧ (!tookEffect status) = true) := by
    rintro ⟨a, b⟩
    rcases hb with hb | hb
    · exact hb a
    · simp [hb] at b
  simp only [hc, Option.map_some, Option.getD_some, Option.bind_some, Cmd.endAs_effect, hg]
  simp only [State.endNow, hc, ht, Cmd.endAs_effect, hd, hu, Bool.false_eq_true, if_false]
  have hp' : ({ u with host := { u.host with cmds := u.host.cmds.filter (fun d => d.id != id) } } : State).posts c.pkt.port
      c.pkt.ring := hp
  exact State.finishPacket_shows _ c.pkt (c.endAs status detail).1 (c.endAs status detail).2 _ result hp' (c.endAs_final status detail h1)

/-! ### Acceptance -/

theorem Entered_spec (op : HostOp) (p : Packet) (s : State) (h : Entered op p s = true) :
    s.mayFetch p.port p.ring = true ∧ s.waitsBehind (asOp op p) = false ∧ (s.ring p.port p.ring).takesRecords = true
    ∧ checks [(fetched p s).checkHeader op (asOp op p), (fetched p s).checkState op,
      (fetched p s).checkAccess op (asOp op p) (s.masterOf p.port p.ring)] = .ok
    ∧ (fetched p s).checkSigs op (asOp op p) (s.masterOf p.port p.ring) = .free := by
  unfold Entered Checked at h
  simp only [Bool.and_eq_true, beq_iff_eq, Bool.not_eq_true'] at h
  exact ⟨h.1.1.1.1, h.1.1.1.2, h.1.1.2, h.1.2, h.2⟩

/-- A packet that a ring may fetch, with nothing ordered before it, goes to its checks (R114). -/
theorem command_submits (op : HostOp) (p : Packet) (s : State) (h1 : s.mayFetch p.port p.ring = true)
    (h2 : s.waitsBehind (asOp op p) = false) : s.command op p = (fetched p s).submit op (asOp op p) := by
  show (if s.mayFetch p.port p.ring = true then
    if s.waitsBehind (asOp op p) = true then (fetched p s).keepOrdered (asOp op p) else (fetched p s).submit op (asOp op p) else s) = _
  rw [if_pos h1, if_neg (by simp [h2])]

/-- A ring that may be fetched from runs. -/
theorem State.mayFetch_runs (s : State) (p : Packet) (h : s.mayFetch p.port p.ring = true) : s.ringRuns p = true := by
  unfold State.mayFetch at h
  simp only [Bool.and_eq_true] at h
  exact h.1.1.1.1

/-- A packet that passes every check is accepted (R106). -/
theorem command_accepts (op : HostOp) (p : Packet) (s : State) (h : Admitted op p s = true) :
    s.command op p = (fetched p s).accept op (asOp op p) ((fetched p s).masterOf p.port p.ring) := by
  unfold Admitted at h
  simp only [Bool.and_eq_true, beq_iff_eq] at h
  obtain ⟨h1, h2, _, h3, h4⟩ := Entered_spec op p s h.1
  rw [command_submits op p s h1 h2]
  unfold State.submit
  dsimp only
  have e : (fetched p s).masterOf (asOp op p).port (asOp op p).ring = s.masterOf p.port p.ring := rfl
  have e' : (fetched p s).masterOf p.port p.ring = s.masterOf p.port p.ring := rfl
  rw [e, e', h3, h4]
  simp only [State.takeIn, h.2]

/-- An accepted command with no effective tick and no wait runs at once (R66): its effect begins in `begun`. -/
theorem accept_runs (op : HostOp) (p : Packet) (s : State) (h0 : p.effTick = 0) (he : op.waitsForAgents = false)
    (hs : ∀ q id u, op.start q id u = u) :
    s.accept op (asOp op p) (s.masterOf p.port p.ring) = (match op.apply (asOp op p) s.freshCmd (begun op p s) with
      | (u, .running) => u
      | (u, .done st d r) => u.endCmd s.freshCmd st d r) := by
  have h0' : (asOp op p).effTick = 0 := h0
  unfold State.accept
  simp only [h0', hs, he, ne_eq, not_true_eq_false, Bool.false_eq_true, if_false]
  unfold State.runCmd
  have e1 : (s.addCmd op (asOp op p) (s.masterOf p.port p.ring) .timed s.clock.now none).2 = s.freshCmd := rfl
  have e2 : (s.addCmd op (asOp op p) (s.masterOf p.port p.ring) .timed s.clock.now none).1
      = withEntry s (entryOf op p s s.clock.now) := rfl
  rw [e1, e2]
  have e3 : (withEntry s (entryOf op p s s.clock.now)).cmd s.freshCmd = some (entryOf op p s s.clock.now) :=
    find_fresh s _ rfl
  have e4 : (withEntry s (entryOf op p s s.clock.now)).modCmd s.freshCmd (fun d => { d with
        phase := .running, begun := true, effect := if (entryOf op p s s.clock.now).pkt.effTick = 0 then d.effect
          else some (withEntry s (entryOf op p s s.clock.now)).tickNow })
      = begun op p s := by
    have h0'' : (entryOf op p s s.clock.now).pkt.effTick = 0 := h0
    simp only [h0'', if_true]
    unfold State.modCmd begun withEntry
    simp only [map_fresh s (entryOf op p s s.clock.now) rfl]
  simp only [e3, e4]
  have e5 : (entryOf op p s s.clock.now).pkt = asOp op p := rfl
  have e6 : (entryOf op p s s.clock.now).endStatus = 0 := rfl
  rw [e5]
  simp only [e6, ne_eq, not_true_eq_false, and_false, if_false]
  show (match (op.apply (asOp op p) s.freshCmd (begun op p s)).2 with
    | .running => (op.apply (asOp op p) s.freshCmd (begun op p s)).1
    | .done st d r => (op.apply (asOp op p) s.freshCmd (begun op p s)).1.endCmd s.freshCmd st d r) = _
  rcases op.apply (asOp op p) s.freshCmd (begun op p s) with ⟨u, f⟩
  cases f <;> rfl

/-- An accepted command with no effective tick of an opcode that waits is held for three ticks (R66, R67). -/
theorem accept_waits (op : HostOp) (p : Packet) (s : State) (h0 : p.effTick = 0) (he : op.waitsForAgents = true) :
    s.accept op (asOp op p) (s.masterOf p.port p.ring)
      = op.start (asOp op p) s.freshCmd (withEntry s (entryOf op p s (s.clock.now + 3))) := by
  have h0' : (asOp op p).effTick = 0 := h0
  unfold State.accept
  simp only [h0', he, ne_eq, not_true_eq_false, if_false, if_true]
  rfl

/-- The acceptance of a command with no effective tick and no wait: its effect, then its end (R66, R109). -/
theorem accept_ended (op : HostOp) (p : Packet) (s : State) (h0 : p.effTick = 0) (he : op.waitsForAgents = false)
    (hs : ∀ q id u, op.start q id u = u) :
    s.accept op (asOp op p) (s.masterOf p.port p.ring) = ended s.freshCmd (op.apply (asOp op p) s.freshCmd (begun op p s)) := by
  rw [accept_runs op p s h0 he hs]
  rcases op.apply (asOp op p) s.freshCmd (begun op p s) with ⟨u, f⟩
  cases f <;> rfl

/-- An accepted command with no effective tick and no wait: its effect, then its end (R66, R109). -/
theorem command_ended (op : HostOp) (p : Packet) (s : State) (h : Admitted op p s = true) (h0 : p.effTick = 0) (he : op.waitsForAgents = false)
    (hs : ∀ q id u, op.start q id u = u) :
    s.command op p = ended s.freshCmd (op.apply (asOp op p) s.freshCmd (begun op p (fetched p s))) := by
  rw [command_accepts op p s h, accept_ended op p _ h0 he hs]
  rfl

/-- An accepted command with no effective tick of an opcode that does not wait: what begins at acceptance, then its effect (R66). -/
theorem command_starts (op : HostOp) (p : Packet) (s : State) (h : Admitted op p s = true) (h0 : p.effTick = 0) (he : op.waitsForAgents = false) :
    s.command op p = (op.start (asOp op p) s.freshCmd (withEntry (fetched p s) (entryOf op p (fetched p s) s.clock.now))).runCmd op
      s.freshCmd := by
  have h0' : (asOp op p).effTick = 0 := h0
  rw [command_accepts op p s h]
  unfold State.accept
  simp only [h0', he, ne_eq, not_true_eq_false, Bool.false_eq_true, if_false]
  rfl

/-- An accepted command of an opcode that waits: held for three ticks (R66, R67). -/
theorem command_held (op : HostOp) (p : Packet) (s : State) (h : Admitted op p s = true) (h0 : p.effTick = 0) (he : op.waitsForAgents = true) :
    s.command op p = op.start (asOp op p) s.freshCmd (withEntry (fetched p s) (entryOf op p (fetched p s) (s.clock.now + 3))) := by
  rw [command_accepts op p s h, accept_waits op p _ h0 he]
  rfl

/-- An accepted command with an effective tick: held until it, ST_PENDING posted (R66, R69). -/
theorem command_timed (op : HostOp) (p : Packet) (s : State) (h : Admitted op p s = true) (h0 : p.effTick ≠ 0) :
    s.command op p = (op.start (asOp op p) s.freshCmd (withEntry (fetched p s)
      (entryOf op p (fetched p s) (s.instantOf p.effTick)))).postPending s.freshCmd p.effTick := by
  have h0' : (asOp op p).effTick ≠ 0 := h0
  rw [command_accepts op p s h]
  unfold State.accept
  simp only [h0', ne_eq, not_false_eq_true, if_true]
  rfl

/-- A held command at its tick: its effect, then its end (R66, R109). -/
theorem run_held (op : HostOp) (u : State) (id : Nat) (c : Cmd) (hc : u.cmd id = some c) (h : c.endStatus = 0) :
    u.runCmd op id = ended id (op.apply c.pkt id (underway c id u)) := by
  unfold State.runCmd
  simp only [hc, h, ne_eq, not_true_eq_false, and_false, if_false]
  rfl

theorem foldl_endCmd_access (l : List Cmd) (s : State) :
    (l.foldl (fun t c => t.endCmd c.id 0x40 0) s).access = s.access := by
  induction l generalizing s with
  | nil => rfl
  | cons c l ih => rw [List.foldl_cons, ih, State.endCmd_access]

/-- The last signature of a command changes no master slot. -/
theorem signedState_access (op : HostOp) (p : Packet) (g : List Nat) (s : State) : (signedState op p g s).access = s.access := by
  have e : ∀ u : State, u.dropHolds.access = u.access := fun u => foldl_endCmd_access _ _
  unfold signedState State.release
  dsimp only
  split
  · rw [State.secLog_access, e]; rfl
  · rw [e]; rfl

theorem signedState_masterOf (op : HostOp) (p q : Packet) (g : List Nat) (s : State) :
    (signedState op q g s).masterOf p.port p.ring = s.masterOf p.port p.ring := by
  unfold State.masterOf
  rw [signedState_access]

/-- A packet that passes checks 2 to 5: what its signatures make of it, checks 7 to 11 after the last one (R102 to R106). -/
theorem command_checked (op : HostOp) (p : Packet) (s : State) (h : Checked op p s = true) :
    s.command op p = signedBy op p s (fun g => (signedState op p g s).takeIn op (asOp op p) (s.masterOf p.port p.ring)) := by
  unfold Checked at h
  simp only [Bool.and_eq_true, beq_iff_eq, Bool.not_eq_true'] at h
  rw [command_submits op p s h.1.1.1 h.1.1.2]
  unfold State.submit signedBy
  dsimp only
  have e : (fetched p s).masterOf (asOp op p).port (asOp op p).ring = s.masterOf p.port p.ring := rfl
  have e' : (fetched p s).masterOf p.port p.ring = s.masterOf p.port p.ring := rfl
  rw [e] at h ⊢
  rw [e', h.2]
  dsimp only
  rcases hk : (fetched p s).checkSigs op (asOp op p) (s.masterOf p.port p.ring) with _ | g | c | c
  · rfl
  · rfl
  · rfl
  · cases c <;> rfl

/-- A signed command with a good header whose later checks pass (R102 to R106). -/
theorem command_signed (op : HostOp) (p : Packet) (s : State) (h : Signable op p s) :
    s.command op p = signedBy op p s (fun g => (signedState op p g s).accept op (asOp op p) (s.masterOf p.port p.ring)) := by
  rw [command_checked op p s h.1]
  congr 1
  funext g
  simp only [State.takeIn, h.2 g]

/-- A signed command that needs no wait: its effect begins at its last signature (R66, R101). -/
theorem signed_ended (op : HostOp) (p : Packet) (s : State) (h : Signable op p s) (h0 : p.effTick = 0) (he : op.waitsForAgents = false)
    (hs : ∀ q id u, op.start q id u = u) :
    s.command op p = signedBy op p s (fun g =>
      let v := signedState op p g s
      ended v.freshCmd (op.apply (asOp op p) v.freshCmd (begun op p v))) := by
  rw [command_signed op p s h]
  congr 1
  funext g
  dsimp only
  rw [← signedState_masterOf op p p g s, accept_ended op p _ h0 he hs]

/-- A signed command of an opcode that waits is held for three ticks from its last signature (R66, R67, R101). -/
theorem signed_held (op : HostOp) (p : Packet) (s : State) (h : Signable op p s) (h0 : p.effTick = 0) (he : op.waitsForAgents = true) :
    s.command op p = signedBy op p s (fun g =>
      let v := signedState op p g s
      op.start (asOp op p) v.freshCmd (withEntry v (entryOf op p v (v.clock.now + 3)))) := by
  rw [command_signed op p s h]
  congr 1
  funext g
  dsimp only
  rw [← signedState_masterOf op p p g s, accept_waits op p _ h0 he]

/-- A command that is executed and ends at its acceptance: its effect `u` and its final record (R66, R106, R109). -/
theorem command_ends (op : HostOp) (p : Packet) (s u : State) (st d : Nat) (r : Bytes) (h : Admitted op p s = true)
    (h0 : p.effTick = 0) (he : op.waitsForAgents = false) (hs : ∀ q id v, op.start q id v = v)
    (ha : op.apply (asOp op p) s.freshCmd (begun op p (fetched p s)) = (u, .done st d r))
    (hu : u.host.cmds = (begun op p (fetched p s)).host.cmds) (hp : u.posts p.port p.ring)
    (hg : (u.gating && tookEffect st && mirroredOpcode op.opcode) = false) (h1 : st ≠ 1) :
    ∃ t, s.command op p = t ∧ Posted t p op.opcode st d (if tookEffect st then u.tickNow else 0) r
      ∧ t.host.cmds = s.host.cmds ∧ t = { u with host := t.host } := by
  refine ⟨u.endCmd s.freshCmd st d r, ?_, ?_⟩
  · have e : (fetched p s).freshCmd = s.freshCmd := rfl
    rw [command_accepts op p s h, accept_runs op p _ h0 he hs, e, ha]
  · have hc : u.host.cmds.find? (fun e => e.id == s.freshCmd)
        = some { entryOf op p (fetched p s) s.clock.now with phase := .running, begun := true } := by
      rw [hu]; exact find_fresh (fetched p s) _ rfl
    obtain ⟨w1, w2, w3⟩ := State.endCmd_shows u s.freshCmd st d r _ hc rfl hp rfl (Or.inl (by simp)) hg h1
    rw [Cmd.endAs_plain _ st d (show (0 : Nat) ≠ 0x13 by decide)] at w1
    refine ⟨w1, ?_, w3⟩
    rw [w2, hu]
    exact filter_fresh (fetched p s) _ rfl

/-- A state that differs from another in the commands only, posts as that does. -/
theorem posts_begun (op : HostOp) (p : Packet) (s : State) (h : Admitted op p s = true) :
    (begun op p (fetched p s)).posts p.port p.ring := by
  unfold Admitted at h
  simp only [Bool.and_eq_true, beq_iff_eq] at h
  obtain ⟨h1, _, h2, _, _⟩ := Entered_spec op p s h.1
  exact s.ringRuns_posts (asOp op p) (s.mayFetch_runs (asOp op p) h1) h2

/-- A query answers: its result is posted, and nothing else changes (R106, R109). -/
theorem query_answers (op : HostOp) (p : Packet) (s : State) (r : Bytes) (h : Admitted op p s = true)
    (h0 : p.effTick = 0) (he : op.waitsForAgents = false) (hs : ∀ q id v, op.start q id v = v) (hm : mirroredOpcode op.opcode = false ∨ s.gating = false)
    (ha : op.apply (asOp op p) s.freshCmd (begun op p (fetched p s)) = (begun op p (fetched p s), Fin.result r)) :
    ∃ t, s.finish (s.command op p) = .next t ∧ Answers s t p op.opcode r := by
  have hg : ((begun op p (fetched p s)).gating && tookEffect 0 && mirroredOpcode op.opcode) = false := by
    rcases hm with hm | hm
    · simp [hm]
    · have : (begun op p (fetched p s)).gating = s.gating := rfl
      simp [this, hm]
  obtain ⟨t, e1, e2, e3, e4⟩ := command_ends op p s (begun op p (fetched p s)) 0 0 r h h0 he hs ha rfl (posts_begun op p s h) hg (by decide)
  refine ⟨_, rfl, ?_, ?_, ?_⟩
  · rw [e1]; exact e2
  · rw [e1]; exact e3
  · rw [e1, e4]; rfl

end Sys2Proof.Machine
end

