-- ==== Sys2Proof/Laws/Keys.lean ====
section
/-! SUPPORT. Lists of keys and values in their one form: keys strictly rising, an unlisted key reading as none. -/

namespace Sys2Proof.Machine

open Sys2Proof

/-- A key reads as what was last written to it. -/
@[simp] theorem kvGet_kvSet_same {α : Type} (m : List (Nat × α)) (x : Nat) (v : α) : kvGet (kvSet m x v) x = some v := by
  induction m with
  | nil => simp [kvSet, kvGet]
  | cons e r ih =>
    obtain ⟨k, w⟩ := e
    unfold kvSet
    split
    · simp [kvGet]
    · split
      · simp [kvGet]
      · rename_i h1 h2
        simp only [kvGet]
        rw [if_neg (fun h => h2 h.symm)]
        exact ih

/-- A write leaves every other key as it was. -/
theorem kvGet_kvSet_other {α : Type} (m : List (Nat × α)) (x y : Nat) (v : α) (h : x ≠ y) : kvGet (kvSet m x v) y = kvGet m y := by
  induction m with
  | nil => simp [kvSet, kvGet, h]
  | cons e r ih =>
    obtain ⟨k, w⟩ := e
    unfold kvSet
    split
    · simp [kvGet, h]
    · split
      · rename_i h1 h2
        subst h2
        simp [kvGet, h]
      · simp only [kvGet]; rw [ih]

/-- An erased key is unlisted. -/
@[simp] theorem kvGet_kvErase_same {α : Type} (m : List (Nat × α)) (x : Nat) : kvGet (kvErase m x) x = none := by
  induction m with
  | nil => rfl
  | cons e r ih =>
    obtain ⟨k, w⟩ := e
    unfold kvErase at ih ⊢
    by_cases h : k = x
    · simp [h, ih]
    · have hb : (k != x) = true := by simpa using h
      simp only [List.filter_cons, hb, if_true, kvGet, h, if_false]
      exact ih

/-- An erasure leaves every other key as it was. -/
theorem kvGet_kvErase_other {α : Type} (m : List (Nat × α)) (x y : Nat) (h : x ≠ y) : kvGet (kvErase m x) y = kvGet m y := by
  induction m with
  | nil => rfl
  | cons e r ih =>
    obtain ⟨k, w⟩ := e
    unfold kvErase at ih ⊢
    by_cases hk : k = x
    · subst hk; simp [kvGet, h, ih]
    · have hb : (k != x) = true := by simpa using hk
      simp only [List.filter_cons, hb, if_true, kvGet]
      rw [ih]

theorem kvWf_cons {α : Type} (a : Nat × α) (r : List (Nat × α)) :
    kvWf (a :: r) = true ↔ (∀ e ∈ r.head?, a.1 < e.1) ∧ kvWf r = true := by
  cases r with
  | nil => simp [kvWf]
  | cons b r => simp [kvWf]

/-- The first key of a list after a write. -/
theorem kvSet_head {α : Type} (m : List (Nat × α)) (x : Nat) (v : α) (e : Nat × α) (h : e ∈ (kvSet m x v).head?) :
    e.1 = x ∨ ∃ d ∈ m.head?, e.1 = d.1 := by
  cases m with
  | nil => simp [kvSet] at h; exact .inl (by rw [← h])
  | cons d r =>
    obtain ⟨k, w⟩ := d
    unfold kvSet at h
    split at h
    · simp at h; exact .inl (by rw [← h])
    · split at h
      · simp at h; exact .inl (by rw [← h])
      · simp at h; exact .inr ⟨(k, w), by simp, by rw [← h]⟩

/-- A write keeps the keys rising. -/
theorem kvSet_wf {α : Type} (m : List (Nat × α)) (x : Nat) (v : α) (h : kvWf m = true) : kvWf (kvSet m x v) = true := by
  induction m with
  | nil => rfl
  | cons d r ih =>
    obtain ⟨k, w⟩ := d
    have hr := (kvWf_cons (k, w) r).1 h
    unfold kvSet
    split
    · rename_i hx; rw [kvWf_cons]; exact ⟨by simpa using hx, h⟩
    · split
      · rename_i hx; subst hx; rw [kvWf_cons]; exact ⟨hr.1, hr.2⟩
      · rename_i h1 h2
        rw [kvWf_cons]
        refine ⟨?_, ih hr.2⟩
        intro e he
        rcases kvSet_head r x v e he with hh | ⟨d, hd, hh⟩
        · simp only [hh]; omega
        · rw [hh]; exact hr.1 d hd

theorem kvWf_lt {α : Type} (a : Nat × α) (r : List (Nat × α)) (h : kvWf (a :: r) = true) : ∀ e ∈ r, a.1 < e.1 := by
  induction r generalizing a with
  | nil => simp
  | cons b r ih =>
    intro e he
    have hb := (kvWf_cons a (b :: r)).1 h
    have h1 : a.1 < b.1 := hb.1 b (by simp)
    rcases List.mem_cons.1 he with rfl | he
    · exact h1
    · exact Nat.lt_trans h1 (ih b hb.2 e he)

/-- An erasure keeps the keys rising. -/
theorem kvErase_wf {α : Type} (m : List (Nat × α)) (x : Nat) (h : kvWf m = true) : kvWf (kvErase m x) = true := by
  induction m with
  | nil => rfl
  | cons a r ih =>
    have hr := (kvWf_cons a r).1 h
    have hlt := kvWf_lt a r h
    unfold kvErase at ih ⊢
    rw [List.filter_cons]
    split
    · rw [kvWf_cons]
      refine ⟨?_, ih hr.2⟩
      intro e he
      have : e ∈ r.filter (fun e => e.1 != x) := List.mem_of_mem_head? he
      exact hlt e (List.mem_filter.1 this).1
    · exact ih hr.2

/-! ### Ports -/

@[simp] theorem State.port_setPort (s : State) (p : Nat) (x : Port) : (s.setPort p x).port p = x := by
  simp [State.port, State.setPort]

@[simp] theorem State.nodePort_setNodePort (s : State) (r : PortRef) (x : Port) : (s.setNodePort r x).nodePort r = x := by
  unfold State.setNodePort State.nodePort
  split <;> simp [State.port, State.setPort]

@[simp] theorem State.nodePort_modNodePort (s : State) (r : PortRef) (f : Port → Port) :
    (s.modNodePort r f).nodePort r = f (s.nodePort r) := by simp [State.modNodePort]

end Sys2Proof.Machine
end

