-- ==== Sys2Proof/Laws/PerInstr.lean ====
section
/-! SUPPORT. Facts about every command as syntax, one lemma for each constructor. -/

namespace Sys2Proof.Laws.CarriesPacket

open Sys2Proof Sys2Proof.Machine

/-- A well-formed host command row carries a well-formed packet: its parameters are as long as its header says, at most 4,096 bytes, with as
many signature blocks as NSIG says (R95, R99). -/
def Statement (i : Instr) : Prop := i.wf = true → ∀ op p, hostRow i = some (op, p) →
  p.params.length = p.len ∧ p.len ≤ 4096 ∧ p.sigs.length = p.flags / 8 % 4

/-- What the check of a packet says. -/
theorem of_wf (p : Packet) (h : p.wf = true) : p.params.length = p.len ∧ p.len ≤ 4096 ∧ p.sigs.length = p.flags / 8 % 4 := by
  unfold Packet.wf at h
  simp only [Bool.and_eq_true, beq_iff_eq, decide_eq_true_eq] at h
  exact ⟨h.1.1.2, h.1.1.1.1.1.1.1.2, h.1.2⟩

theorem farEndSignalDetect (r : PortRef) : Statement (.farEndSignalDetect r) := fun _ _ _ e => nomatch e

theorem linkTrainingStart (r : PortRef) (good : LanesFound) (reversed : Bool) (polarity : Nat) : Statement (.linkTrainingStart r good reversed polarity) := fun _ _ _ e => nomatch e

theorem trainingStepTimeout (r : PortRef) : Statement (.trainingStepTimeout r) := fun _ _ _ e => nomatch e

theorem trainingHandshakeDone (r : PortRef) (t1 : Nat) : Statement (.trainingHandshakeDone r t1) := fun _ _ _ e => nomatch e

theorem helloRepeat (r : PortRef) : Statement (.helloRepeat r) := fun _ _ _ e => nomatch e

theorem retrainTrigger (r : RetrainSign) : Statement (.retrainTrigger r) := fun _ _ _ e => nomatch e

theorem retrainComplete (r : PortRef) : Statement (.retrainComplete r) := fun _ _ _ e => nomatch e

theorem retrainTimeout (r : PortRef) : Statement (.retrainTimeout r) := fun _ _ _ e => nomatch e

theorem dataFlitReceive (r : PortRef) (f : Flit) (cw : Codewords) : Statement (.dataFlitReceive r f cw) := fun _ _ _ e => nomatch e

theorem retryRequestReceive (r : PortRef) (lseq : Nat) (f : BareFlit) : Statement (.retryRequestReceive r lseq f) := fun _ _ _ e => nomatch e

theorem idleFlitReceive (r : PortRef) (f : BareFlit) : Statement (.idleFlitReceive r f) := fun _ _ _ e => nomatch e

theorem retryHoldoffExpire (r : PortRef) : Statement (.retryHoldoffExpire r) := fun _ _ _ e => nomatch e

theorem lackStallReplay (r : PortRef) : Statement (.lackStallReplay r) := fun _ _ _ e => nomatch e

theorem outputFlitSelect (now : SendMoment) : Statement (.outputFlitSelect now) := fun _ _ _ e => nomatch e

theorem linkCreditReceive (r : PortRef) (f : Flit) (cw : Codewords) : Statement (.linkCreditReceive r f cw) := fun _ _ _ e => nomatch e

theorem linkHelloReceive (r : PortRef) (f : Flit) (cw : Codewords) : Statement (.linkHelloReceive r f cw) := fun _ _ _ e => nomatch e

theorem tsReqReceive (r : PortRef) (f : Flit) (cw : Codewords) (t2 : Nat) (t3 : Nat) : Statement (.tsReqReceive r f cw t2 t3) := fun _ _ _ e => nomatch e

theorem tsRspReceive (r : PortRef) (f : Flit) (cw : Codewords) (t4 : Nat) : Statement (.tsRspReceive r f cw t4) := fun _ _ _ e => nomatch e

theorem tsFollowReceive (r : PortRef) (f : Flit) (cw : Codewords) : Statement (.tsFollowReceive r f cw) := fun _ _ _ e => nomatch e

theorem tsExchangeDiscard (r : PortRef) (k : Nat) : Statement (.tsExchangeDiscard r k) := fun _ _ _ e => nomatch e

theorem delayMeasurementDone (r : PortRef) : Statement (.delayMeasurementDone r) := fun _ _ _ e => nomatch e

theorem linkSessionFlitReceive (r : PortRef) (f : Flit) (cw : Codewords) : Statement (.linkSessionFlitReceive r f cw) := fun _ _ _ e => nomatch e

theorem sessionCountNear (r : PortRef) : Statement (.sessionCountNear r) := fun _ _ _ e => nomatch e

theorem trainingAttemptFailed (r : PortRef) : Statement (.trainingAttemptFailed r) := fun _ _ _ e => nomatch e

theorem agentReset : Statement (.agentReset) := fun _ _ _ e => nomatch e

theorem agentTickReceive (m : Msg) (port : Nat) (arrival : Nat) (residence : Nat) : Statement (.agentTickReceive m port arrival residence) := fun _ _ _ e => nomatch e

theorem agentFlywheelTick : Statement (.agentFlywheelTick) := fun _ _ _ e => nomatch e

theorem agentTickLoss : Statement (.agentTickLoss) := fun _ _ _ e => nomatch e

theorem agentProbeIdentify (m : Msg) : Statement (.agentProbeIdentify m) := fun _ _ _ e => nomatch e

theorem agentProbeClaim (m : Msg) : Statement (.agentProbeClaim m) := fun _ _ _ e => nomatch e

theorem agentProbeCert (m : Msg) : Statement (.agentProbeCert m) := fun _ _ _ e => nomatch e

theorem agentProbeSession (m : Msg) : Statement (.agentProbeSession m) := fun _ _ _ e => nomatch e

theorem switchFlitForward (inPort : Nat) : Statement (.switchFlitForward inPort) := fun _ _ _ e => nomatch e

theorem agentLinkstateRequest (m : Msg) : Statement (.agentLinkstateRequest m) := fun _ _ _ e => nomatch e

theorem agentTableWrite (m : Msg) : Statement (.agentTableWrite m) := fun _ _ _ e => nomatch e

theorem agentCommitActivate (m : Msg) : Statement (.agentCommitActivate m) := fun _ _ _ e => nomatch e

theorem agentCommitRetire (m : Msg) : Statement (.agentCommitRetire m) := fun _ _ _ e => nomatch e

theorem agentCommitFailover (m : Msg) : Statement (.agentCommitFailover m) := fun _ _ _ e => nomatch e

theorem agentCommitClearStandby (m : Msg) : Statement (.agentCommitClearStandby m) := fun _ _ _ e => nomatch e

theorem agentCommitTargetSwap (m : Msg) : Statement (.agentCommitTargetSwap m) := fun _ _ _ e => nomatch e

theorem agentCountersRequest (m : Msg) : Statement (.agentCountersRequest m) := fun _ _ _ e => nomatch e

theorem agentTreeSet (m : Msg) : Statement (.agentTreeSet m) := fun _ _ _ e => nomatch e

theorem agentCards (m : Msg) : Statement (.agentCards m) := fun _ _ _ e => nomatch e

theorem agentKeyInstall (m : Msg) : Statement (.agentKeyInstall m) := fun _ _ _ e => nomatch e

theorem agentKeySwitch (m : Msg) : Statement (.agentKeySwitch m) := fun _ _ _ e => nomatch e

theorem agentKeyErase (m : Msg) : Statement (.agentKeyErase m) := fun _ _ _ e => nomatch e

theorem agentCurrentGrant (m : Msg) : Statement (.agentCurrentGrant m) := fun _ _ _ e => nomatch e

theorem agentRelease (m : Msg) : Statement (.agentRelease m) := fun _ _ _ e => nomatch e

theorem agentLinkSession (m : Msg) : Statement (.agentLinkSession m) := fun _ _ _ e => nomatch e

theorem agentFaultReportAck (m : Msg) : Statement (.agentFaultReportAck m) := fun _ _ _ e => nomatch e

theorem faultReportRepeat : Statement (.faultReportRepeat) := fun _ _ _ e => nomatch e

theorem segmentReassemblyExpire : Statement (.segmentReassemblyExpire) := fun _ _ _ e => nomatch e

theorem deferredActionComplete : Statement (.deferredActionComplete) := fun _ _ _ e => nomatch e

theorem agentGrantCold : Statement (.agentGrantCold) := fun _ _ _ e => nomatch e

theorem tableMemoryError (unit : Nat) : Statement (.tableMemoryError unit) := fun _ _ _ e => nomatch e

theorem loadStartingActionRequest (kind : Nat) (action : Nat) (job : Nat) : Statement (.loadStartingActionRequest kind action job) := fun _ _ _ e => nomatch e

theorem discoverStart (p : Packet) : Statement (.discoverStart p) := by
  intro h op q e
  cases e
  exact of_wf p h

theorem discoverStatus (p : Packet) : Statement (.discoverStatus p) := by
  intro h op q e
  cases e
  exact of_wf p h

theorem topologyGet (p : Packet) : Statement (.topologyGet p) := by
  intro h op q e
  cases e
  exact of_wf p h

theorem rackAbsorb (p : Packet) : Statement (.rackAbsorb p) := by
  intro h op q e
  cases e
  exact of_wf p h

theorem linkRetrain (p : Packet) : Statement (.linkRetrain p) := by
  intro h op q e
  cases e
  exact of_wf p h

theorem shelfAssign (p : Packet) : Statement (.shelfAssign p) := by
  intro h op q e
  cases e
  exact of_wf p h

theorem routeSolve (p : Packet) : Statement (.routeSolve p) := by
  intro h op q e
  cases e
  exact of_wf p h

theorem routeStage (p : Packet) : Statement (.routeStage p) := by
  intro h op q e
  cases e
  exact of_wf p h

theorem routeCommit (p : Packet) : Statement (.routeCommit p) := by
  intro h op q e
  cases e
  exact of_wf p h

theorem routePin (p : Packet) : Statement (.routePin p) := by
  intro h op q e
  cases e
  exact of_wf p h

theorem routeUnpin (p : Packet) : Statement (.routeUnpin p) := by
  intro h op q e
  cases e
  exact of_wf p h

theorem routeStatus (p : Packet) : Statement (.routeStatus p) := by
  intro h op q e
  cases e
  exact of_wf p h

theorem failoverPrepare (p : Packet) : Statement (.failoverPrepare p) := by
  intro h op q e
  cases e
  exact of_wf p h

theorem identReceive (m : Msg) : Statement (.identReceive m) := fun _ _ _ e => nomatch e

theorem linkstateReceive (m : Msg) : Statement (.linkstateReceive m) := fun _ _ _ e => nomatch e

theorem discoveryLevelStep : Statement (.discoveryLevelStep) := fun _ _ _ e => nomatch e

theorem topologyDeltaReceive (src : Nat) (d : SectionDelta) : Statement (.topologyDeltaReceive src d) := fun _ _ _ e => nomatch e

theorem moveReleaseRequestReceive (src : Nat) (serials : List Nat) : Statement (.moveReleaseRequestReceive src serials) := fun _ _ _ e => nomatch e

theorem moveReleaseConfirmReceive (src : Nat) (granted : Bool) : Statement (.moveReleaseConfirmReceive src granted) := fun _ _ _ e => nomatch e

theorem solveReqReceive (m : Msg) : Statement (.solveReqReceive m) := fun _ _ _ e => nomatch e

theorem queuedSolveStart : Statement (.queuedSolveStart) := fun _ _ _ e => nomatch e

theorem solveCallReceive (m : Msg) : Statement (.solveCallReceive m) := fun _ _ _ e => nomatch e

theorem solveVectorReceive (m : Msg) : Statement (.solveVectorReceive m) := fun _ _ _ e => nomatch e

theorem solveGoReceive (m : Msg) : Statement (.solveGoReceive m) := fun _ _ _ e => nomatch e

theorem solveBatchComplete : Statement (.solveBatchComplete) := fun _ _ _ e => nomatch e

theorem shareDataReceive (m : Msg) : Statement (.shareDataReceive m) := fun _ _ _ e => nomatch e

theorem shareDataTimeout (share : Nat) : Statement (.shareDataTimeout share) := fun _ _ _ e => nomatch e

theorem shareMoveReceive (m : Msg) : Statement (.shareMoveReceive m) := fun _ _ _ e => nomatch e

theorem solveDoneReceive (m : Msg) : Statement (.solveDoneReceive m) := fun _ _ _ e => nomatch e

theorem solveAbortReceive (m : Msg) : Statement (.solveAbortReceive m) := fun _ _ _ e => nomatch e

theorem epochStageReceive (m : Msg) : Statement (.epochStageReceive m) := fun _ _ _ e => nomatch e

theorem epochStagedReceive (m : Msg) : Statement (.epochStagedReceive m) := fun _ _ _ e => nomatch e

theorem epochCommitReceive (m : Msg) : Statement (.epochCommitReceive m) := fun _ _ _ e => nomatch e

theorem epochDoneReceive (m : Msg) : Statement (.epochDoneReceive m) := fun _ _ _ e => nomatch e

theorem groupCreate (p : Packet) : Statement (.groupCreate p) := by
  intro h op q e
  cases e
  exact of_wf p h

theorem groupDestroy (p : Packet) : Statement (.groupDestroy p) := by
  intro h op q e
  cases e
  exact of_wf p h

theorem groupStatus (p : Packet) : Statement (.groupStatus p) := by
  intro h op q e
  cases e
  exact of_wf p h

theorem twillUpRecordReceive (port : Nat) (f : Flit) : Statement (.twillUpRecordReceive port f) := fun _ _ _ e => nomatch e

theorem twillTallyReceive (port : Nat) (f : Flit) : Statement (.twillTallyReceive port f) := fun _ _ _ e => nomatch e

theorem twillCommitDecide (group : Nat) (step : Nat) (ns : Nat) : Statement (.twillCommitDecide group step ns) := fun _ _ _ e => nomatch e

theorem twillStepDeadline (group : Nat) (step : Nat) : Statement (.twillStepDeadline group step) := fun _ _ _ e => nomatch e

theorem twinTreeReportReceive (group : Nat) (step : Nat) : Statement (.twinTreeReportReceive group step) := fun _ _ _ e => nomatch e

theorem switchTwillRecord (port : Nat) (f : Flit) : Statement (.switchTwillRecord port f) := fun _ _ _ e => nomatch e

theorem memberResultReceive (f : Flit) (own : MemberUnits) : Statement (.memberResultReceive f own) := fun _ _ _ e => nomatch e

theorem agentVerdict (m : Msg) : Statement (.agentVerdict m) := fun _ _ _ e => nomatch e

theorem planCreate (p : Packet) : Statement (.planCreate p) := by
  intro h op q e
  cases e
  exact of_wf p h

theorem planDestroy (p : Packet) : Statement (.planDestroy p) := by
  intro h op q e
  cases e
  exact of_wf p h

theorem planStatus (p : Packet) : Statement (.planStatus p) := by
  intro h op q e
  cases e
  exact of_wf p h

theorem countFlitReceive (f : Flit) : Statement (.countFlitReceive f) := fun _ _ _ e => nomatch e

theorem countsComplete (plan : Nat) : Statement (.countsComplete plan) := fun _ _ _ e => nomatch e

theorem countDeadline (plan : Nat) : Statement (.countDeadline plan) := fun _ _ _ e => nomatch e

theorem planningPass (plan : Nat) : Statement (.planningPass plan) := fun _ _ _ e => nomatch e

theorem exchangeCheckStart (plan : Nat) : Statement (.exchangeCheckStart plan) := fun _ _ _ e => nomatch e

theorem memberReportTimeout (plan : Nat) (rank : Nat) : Statement (.memberReportTimeout plan rank) := fun _ _ _ e => nomatch e

theorem reportFlitReceive (f : Flit) : Statement (.reportFlitReceive f) := fun _ _ _ e => nomatch e

theorem xchgReadyReceive (m : Msg) : Statement (.xchgReadyReceive m) := fun _ _ _ e => nomatch e

theorem xchgRepairReceive (m : Msg) : Statement (.xchgRepairReceive m) := fun _ _ _ e => nomatch e

theorem agentPlanAreaWrite (f : Flit) (item : Nat) (countStream : Nat) (rank : Nat) : Statement (.agentPlanAreaWrite f item countStream rank) := fun _ _ _ e => nomatch e

theorem agentExchangeData (port : Nat) (f : Flit) (item : Nat) (countStream : Nat) (rank : Nat) : Statement (.agentExchangeData port f item countStream rank) := fun _ _ _ e => nomatch e

theorem storeCarve (p : Packet) : Statement (.storeCarve p) := by
  intro h op q e
  cases e
  exact of_wf p h

theorem storeMode (p : Packet) : Statement (.storeMode p) := by
  intro h op q e
  cases e
  exact of_wf p h

theorem generationOpen (p : Packet) : Statement (.generationOpen p) := by
  intro h op q e
  cases e
  exact of_wf p h

theorem generationStatus (p : Packet) : Statement (.generationStatus p) := by
  intro h op q e
  cases e
  exact of_wf p h

theorem restoreStart (p : Packet) : Statement (.restoreStart p) := by
  intro h op q e
  cases e
  exact of_wf p h

theorem generationDrop (p : Packet) : Statement (.generationDrop p) := by
  intro h op q e
  cases e
  exact of_wf p h

theorem checkpointDataReceive (n : Node) (f : Flit) : Statement (.checkpointDataReceive n f) := fun _ _ _ e => nomatch e

theorem checkpointEndReceive (n : Node) (f : Flit) : Statement (.checkpointEndReceive n f) := fun _ _ _ e => nomatch e

theorem shardDigestComplete (job : Nat) (gen : Nat) (owner : Nat) : Statement (.shardDigestComplete job gen owner) := fun _ _ _ e => nomatch e

theorem gapResendTimer (job : Nat) (gen : Nat) (owner : Nat) : Statement (.gapResendTimer job gen owner) := fun _ _ _ e => nomatch e

theorem gapReceive (f : Flit) : Statement (.gapReceive f) := fun _ _ _ e => nomatch e

theorem pullReceive (n : Node) (f : Flit) : Statement (.pullReceive n f) := fun _ _ _ e => nomatch e

theorem parReceive (f : Flit) : Statement (.parReceive f) := fun _ _ _ e => nomatch e

theorem packReceive (f : Flit) : Statement (.packReceive f) := fun _ _ _ e => nomatch e

theorem rdataReceive (n : Node) (f : Flit) : Statement (.rdataReceive n f) := fun _ _ _ e => nomatch e

theorem generationCommit (job : Nat) (gen : Nat) : Statement (.generationCommit job gen) := fun _ _ _ e => nomatch e

theorem generationDeadline (job : Nat) (gen : Nat) : Statement (.generationDeadline job gen) := fun _ _ _ e => nomatch e

theorem clearingComplete (job : Nat) (gen : Nat) : Statement (.clearingComplete job gen) := fun _ _ _ e => nomatch e

theorem spillAfterCommit (job : Nat) (gen : Nat) : Statement (.spillAfterCommit job gen) := fun _ _ _ e => nomatch e

theorem genCtlReceive (m : Msg) : Statement (.genCtlReceive m) := fun _ _ _ e => nomatch e

theorem genReportReceive (m : Msg) : Statement (.genReportReceive m) := fun _ _ _ e => nomatch e

theorem tableCreate (p : Packet) : Statement (.tableCreate p) := by
  intro h op q e
  cases e
  exact of_wf p h

theorem tableDestroy (p : Packet) : Statement (.tableDestroy p) := by
  intro h op q e
  cases e
  exact of_wf p h

theorem tableLoad (p : Packet) : Statement (.tableLoad p) := by
  intro h op q e
  cases e
  exact of_wf p h

theorem tableRead (p : Packet) : Statement (.tableRead p) := by
  intro h op q e
  cases e
  exact of_wf p h

theorem tableConfig (p : Packet) : Statement (.tableConfig p) := by
  intro h op q e
  cases e
  exact of_wf p h

theorem tableStatus (p : Packet) : Statement (.tableStatus p) := by
  intro h op q e
  cases e
  exact of_wf p h

theorem tableSnapshot (p : Packet) : Statement (.tableSnapshot p) := by
  intro h op q e
  cases e
  exact of_wf p h

theorem tableRequestReceive (f : Flit) : Statement (.tableRequestReceive f) := fun _ _ _ e => nomatch e

theorem strictLookupRelease : Statement (.strictLookupRelease) := fun _ _ _ e => nomatch e

theorem coalescingStallResume (slot : Nat) : Statement (.coalescingStallResume slot) := fun _ _ _ e => nomatch e

theorem tableShardReceive (m : Msg) : Statement (.tableShardReceive m) := fun _ _ _ e => nomatch e

theorem tableShardDoneReceive (m : Msg) : Statement (.tableShardDoneReceive m) := fun _ _ _ e => nomatch e

theorem tableShardTimeout (cmd : Nat) : Statement (.tableShardTimeout cmd) := fun _ _ _ e => nomatch e

theorem oppointSet (p : Packet) : Statement (.oppointSet p) := by
  intro h op q e
  cases e
  exact of_wf p h

theorem powerStatus (p : Packet) : Statement (.powerStatus p) := by
  intro h op q e
  cases e
  exact of_wf p h

theorem shelfBudgetSet (p : Packet) : Statement (.shelfBudgetSet p) := by
  intro h op q e
  cases e
  exact of_wf p h

theorem unitDisable (p : Packet) : Statement (.unitDisable p) := by
  intro h op q e
  cases e
  exact of_wf p h

theorem unitEnable (p : Packet) : Statement (.unitEnable p) := by
  intro h op q e
  cases e
  exact of_wf p h

theorem currentDeclare (p : Packet) : Statement (.currentDeclare p) := by
  intro h op q e
  cases e
  exact of_wf p h

theorem oppointSwitch : Statement (.oppointSwitch) := fun _ _ _ e => nomatch e

theorem droopFlagSet : Statement (.droopFlagSet) := fun _ _ _ e => nomatch e

theorem droopFlagClear : Statement (.droopFlagClear) := fun _ _ _ e => nomatch e

theorem droopLowering : Statement (.droopLowering) := fun _ _ _ e => nomatch e

theorem thermalSample (temps : List Int) : Statement (.thermalSample temps) := fun _ _ _ e => nomatch e

theorem thermalLowering : Statement (.thermalLowering) := fun _ _ _ e => nomatch e

theorem thermalRecoveryRaise : Statement (.thermalRecoveryRaise) := fun _ _ _ e => nomatch e

theorem thermComparatorTrip (sensor : Nat) : Statement (.thermComparatorTrip sensor) := fun _ _ _ e => nomatch e

theorem tdpLimitLowering (average : Nat) (logic : Nat) : Statement (.tdpLimitLowering average logic) := fun _ _ _ e => nomatch e

theorem tdpRecoveryRaise (average : Nat) (logic : Nat) : Statement (.tdpRecoveryRaise average logic) := fun _ _ _ e => nomatch e

theorem ageingMeasure (slowdown : Int) (refsReadable : Bool) : Statement (.ageingMeasure slowdown refsReadable) := fun _ _ _ e => nomatch e

theorem opsecWrite : Statement (.opsecWrite) := fun _ _ _ e => nomatch e

theorem unitDrainComplete (kind : Nat) (idx : Nat) : Statement (.unitDrainComplete kind idx) := fun _ _ _ e => nomatch e

theorem unitDrainTimeout (kind : Nat) (idx : Nat) : Statement (.unitDrainTimeout kind idx) := fun _ _ _ e => nomatch e

theorem currentStepSample (addr : Nat) (kind : Nat) (e0 : Nat) (e1 : Nat) (e2 : Nat) (e3 : Nat) : Statement (.currentStepSample addr kind e0 e1 e2 e3) := fun _ _ _ e => nomatch e

theorem grantWarmRenew (addr : Nat) (kind : Nat) (action : Nat) : Statement (.grantWarmRenew addr kind action) := fun _ _ _ e => nomatch e

theorem sliceCreate (p : Packet) : Statement (.sliceCreate p) := by
  intro h op q e
  cases e
  exact of_wf p h

theorem sliceModify (p : Packet) : Statement (.sliceModify p) := by
  intro h op q e
  cases e
  exact of_wf p h

theorem sliceDestroy (p : Packet) : Statement (.sliceDestroy p) := by
  intro h op q e
  cases e
  exact of_wf p h

theorem sliceGet (p : Packet) : Statement (.sliceGet p) := by
  intro h op q e
  cases e
  exact of_wf p h

theorem accessSet (p : Packet) : Statement (.accessSet p) := by
  intro h op q e
  cases e
  exact of_wf p h

theorem accessGet (p : Packet) : Statement (.accessGet p) := by
  intro h op q e
  cases e
  exact of_wf p h

theorem sparePromote (p : Packet) : Statement (.sparePromote p) := by
  intro h op q e
  cases e
  exact of_wf p h

theorem sliceChangeStagingStart : Statement (.sliceChangeStagingStart) := fun _ _ _ e => nomatch e

theorem sliceChangeTimeout (job : Nat) : Statement (.sliceChangeTimeout job) := fun _ _ _ e => nomatch e

theorem streamRelease (id : Nat) : Statement (.streamRelease id) := fun _ _ _ e => nomatch e

theorem sliceDrainEnd (job : Nat) : Statement (.sliceDrainEnd job) := fun _ _ _ e => nomatch e

theorem attestGet (p : Packet) : Statement (.attestGet p) := by
  intro h op q e
  cases e
  exact of_wf p h

theorem enrol (p : Packet) : Statement (.enrol p) := by
  intro h op q e
  cases e
  exact of_wf p h

theorem keyPolicySet (p : Packet) : Statement (.keyPolicySet p) := by
  intro h op q e
  cases e
  exact of_wf p h

theorem fwPolicySet (p : Packet) : Statement (.fwPolicySet p) := by
  intro h op q e
  cases e
  exact of_wf p h

theorem fwStage (p : Packet) : Statement (.fwStage p) := by
  intro h op q e
  cases e
  exact of_wf p h

theorem fwActivate (p : Packet) : Statement (.fwActivate p) := by
  intro h op q e
  cases e
  exact of_wf p h

theorem debugChallenge (p : Packet) : Statement (.debugChallenge p) := by
  intro h op q e
  cases e
  exact of_wf p h

theorem debugUnlock (p : Packet) : Statement (.debugUnlock p) := by
  intro h op q e
  cases e
  exact of_wf p h

theorem seclogClear (p : Packet) : Statement (.seclogClear p) := by
  intro h op q e
  cases e
  exact of_wf p h

theorem keyRotate (p : Packet) : Statement (.keyRotate p) := by
  intro h op q e
  cases e
  exact of_wf p h

theorem cosignStateGet (p : Packet) : Statement (.cosignStateGet p) := by
  intro h op q e
  cases e
  exact of_wf p h

theorem cosignWithdraw (p : Packet) : Statement (.cosignWithdraw p) := by
  intro h op q e
  cases e
  exact of_wf p h

theorem peerSessionOffer (m : Msg) : Statement (.peerSessionOffer m) := fun _ _ _ e => nomatch e

theorem peerSessionAnswer (m : Msg) : Statement (.peerSessionAnswer m) := fun _ _ _ e => nomatch e

theorem peerSessionKey (m : Msg) : Statement (.peerSessionKey m) := fun _ _ _ e => nomatch e

theorem peerSessionCiphertext (m : Msg) : Statement (.peerSessionCiphertext m) := fun _ _ _ e => nomatch e

theorem keyXferReceive (m : Msg) : Statement (.keyXferReceive m) := fun _ _ _ e => nomatch e

theorem keyStateReceive (m : Msg) : Statement (.keyStateReceive m) := fun _ _ _ e => nomatch e

theorem keyOrderReceive (m : Msg) : Statement (.keyOrderReceive m) := fun _ _ _ e => nomatch e

theorem keyLifetimeExpire (job : Nat) (kind : Nat) : Statement (.keyLifetimeExpire job kind) := fun _ _ _ e => nomatch e

theorem reattestInterval : Statement (.reattestInterval) := fun _ _ _ e => nomatch e

theorem debugNonceExpire : Statement (.debugNonceExpire) := fun _ _ _ e => nomatch e

theorem keySweepPage (part : Nat) (obj : Nat) (area : Nat) : Statement (.keySweepPage part obj area) := fun _ _ _ e => nomatch e

theorem mtrParamSet (p : Packet) : Statement (.mtrParamSet p) := by
  intro h op q e
  cases e
  exact of_wf p h

theorem mtrBatchGet (p : Packet) : Statement (.mtrBatchGet p) := by
  intro h op q e
  cases e
  exact of_wf p h

theorem mtrJobEnergyGet (p : Packet) : Statement (.mtrJobEnergyGet p) := by
  intro h op q e
  cases e
  exact of_wf p h

theorem mtrAuditGet (p : Packet) : Statement (.mtrAuditGet p) := by
  intro h op q e
  cases e
  exact of_wf p h

theorem mtrIdentityGet (p : Packet) : Statement (.mtrIdentityGet p) := by
  intro h op q e
  cases e
  exact of_wf p h

theorem meterBusCycle : Statement (.meterBusCycle) := fun _ _ _ e => nomatch e

theorem shortReportReceive (shelf : Nat) (frame : Bytes) : Statement (.shortReportReceive shelf frame) := fun _ _ _ e => nomatch e

theorem extendedReportReceive (frame : Bytes) : Statement (.extendedReportReceive frame) := fun _ _ _ e => nomatch e

theorem meterSilent (shelf : Nat) : Statement (.meterSilent shelf) := fun _ _ _ e => nomatch e

theorem mtrStrobeReceive (us : Nat) : Statement (.mtrStrobeReceive us) := fun _ _ _ e => nomatch e

theorem windowSelfClose : Statement (.windowSelfClose) := fun _ _ _ e => nomatch e

theorem windowSeal : Statement (.windowSeal) := fun _ _ _ e => nomatch e

theorem mboxBoundary : Statement (.mboxBoundary) := fun _ _ _ e => nomatch e

theorem mboxCounts : Statement (.mboxCounts) := fun _ _ _ e => nomatch e

theorem mboxParam : Statement (.mboxParam) := fun _ _ _ e => nomatch e

theorem mboxQuery : Statement (.mboxQuery) := fun _ _ _ e => nomatch e

theorem mboxSealNotice : Statement (.mboxSealNotice) := fun _ _ _ e => nomatch e

theorem mtrQuerySegmentAnswer : Statement (.mtrQuerySegmentAnswer) := fun _ _ _ e => nomatch e

theorem mtrQueryTimeout : Statement (.mtrQueryTimeout) := fun _ _ _ e => nomatch e

theorem buckramSelfFault : Statement (.buckramSelfFault) := fun _ _ _ e => nomatch e

theorem eventViewGet (p : Packet) : Statement (.eventViewGet p) := by
  intro h op q e
  cases e
  exact of_wf p h

theorem eventClear (p : Packet) : Statement (.eventClear p) := by
  intro h op q e
  cases e
  exact of_wf p h

theorem severitySet (p : Packet) : Statement (.severitySet p) := by
  intro h op q e
  cases e
  exact of_wf p h

theorem unfence (p : Packet) : Statement (.unfence p) := by
  intro h op q e
  cases e
  exact of_wf p h

theorem faultRelease (p : Packet) : Statement (.faultRelease p) := by
  intro h op q e
  cases e
  exact of_wf p h

theorem faultSummaryGet (p : Packet) : Statement (.faultSummaryGet p) := by
  intro h op q e
  cases e
  exact of_wf p h

theorem faultDetect (source : Nat) (code : Nat) (key : Nat) (job : Nat) (detail : Bytes) (handling : Option Nat) (poison : PoisonLine) : Statement (.faultDetect source code key job detail handling poison) := fun _ _ _ e => nomatch e

theorem unitWatchdogExpire (kind : Nat) (idx : Nat) : Statement (.unitWatchdogExpire kind idx) := fun _ _ _ e => nomatch e

theorem fencingComplete (kind : Nat) (idx : Nat) : Statement (.fencingComplete kind idx) := fun _ _ _ e => nomatch e

theorem faultQuietEnd : Statement (.faultQuietEnd) := fun _ _ _ e => nomatch e

theorem eventBlockSpill (failures : Nat) : Statement (.eventBlockSpill failures) := fun _ _ _ e => nomatch e

theorem eventSpillRetry (failures : Nat) : Statement (.eventSpillRetry failures) := fun _ _ _ e => nomatch e

theorem pwrGoodRise (straps : Nat) : Statement (.pwrGoodRise straps) := fun _ _ _ e => nomatch e

theorem pwrGoodFall : Statement (.pwrGoodFall) := fun _ _ _ e => nomatch e

theorem resetNAssert (programmed : List (Nat × Bytes)) : Statement (.resetNAssert programmed) := fun _ _ _ e => nomatch e

theorem resetNRelease (us : Nat) : Statement (.resetNRelease us) := fun _ _ _ e => nomatch e

theorem perstAssert (port : Nat) : Statement (.perstAssert port) := fun _ _ _ e => nomatch e

theorem perstRelease (port : Nat) : Statement (.perstRelease port) := fun _ _ _ e => nomatch e

theorem bootComplete (clockOk : Bool) (selvedgeOk : Bool) (copies : Nat) : Statement (.bootComplete clockOk selvedgeOk copies) := fun _ _ _ e => nomatch e

theorem stage1Complete : Statement (.stage1Complete) := fun _ _ _ e => nomatch e

theorem stage2Complete : Statement (.stage2Complete) := fun _ _ _ e => nomatch e

theorem stage3Complete : Statement (.stage3Complete) := fun _ _ _ e => nomatch e

theorem stage4Complete : Statement (.stage4Complete) := fun _ _ _ e => nomatch e

theorem stage5Complete : Statement (.stage5Complete) := fun _ _ _ e => nomatch e

theorem railBookingStart (what : Nat) : Statement (.railBookingStart what) := fun _ _ _ e => nomatch e

theorem selfTestComplete (kind : Nat) (idx : Nat) (passed : Bool) (detail : Nat) (rows : List DefectRow) : Statement (.selfTestComplete kind idx passed detail rows) := fun _ _ _ e => nomatch e

theorem roleAssign (p : Packet) : Statement (.roleAssign p) := by
  intro h op q e
  cases e
  exact of_wf p h

theorem twinStatus (p : Packet) : Statement (.twinStatus p) := by
  intro h op q e
  cases e
  exact of_wf p h

theorem peerListSet (p : Packet) : Statement (.peerListSet p) := by
  intro h op q e
  cases e
  exact of_wf p h

theorem peerStatus (p : Packet) : Statement (.peerStatus p) := by
  intro h op q e
  cases e
  exact of_wf p h

theorem takeover (p : Packet) : Statement (.takeover p) := by
  intro h op q e
  cases e
  exact of_wf p h

theorem deposition : Statement (.deposition) := fun _ _ _ e => nomatch e

theorem mirrorDeltaReceive (m : Msg) (item : Option MirrorItem) : Statement (.mirrorDeltaReceive m item) := fun _ _ _ e => nomatch e

theorem mirrorAckReceive (m : Msg) : Statement (.mirrorAckReceive m) := fun _ _ _ e => nomatch e

theorem mirrorAckResend (seq : Nat) : Statement (.mirrorAckResend seq) := fun _ _ _ e => nomatch e

theorem mirrorSingleTimeout : Statement (.mirrorSingleTimeout) := fun _ _ _ e => nomatch e

theorem heartbeatReceive (m : Msg) : Statement (.heartbeatReceive m) := fun _ _ _ e => nomatch e

theorem haltNoticeReceive (m : Msg) : Statement (.haltNoticeReceive m) := fun _ _ _ e => nomatch e

theorem resyncReqReceive (m : Msg) : Statement (.resyncReqReceive m) := fun _ _ _ e => nomatch e

theorem resyncDataReceive (m : Msg) (items : List MirrorItem) : Statement (.resyncDataReceive m items) := fun _ _ _ e => nomatch e

theorem automaticTakeover : Statement (.automaticTakeover) := fun _ _ _ e => nomatch e

theorem peerHelloReceive (m : Msg) : Statement (.peerHelloReceive m) := fun _ _ _ e => nomatch e

theorem peerAbsent (id : Nat) : Statement (.peerAbsent id) := fun _ _ _ e => nomatch e

theorem tickConfig (p : Packet) : Statement (.tickConfig p) := by
  intro h op q e
  cases e
  exact of_wf p h

theorem tickStart (p : Packet) : Statement (.tickStart p) := by
  intro h op q e
  cases e
  exact of_wf p h

theorem tickStatus (p : Packet) : Statement (.tickStatus p) := by
  intro h op q e
  cases e
  exact of_wf p h

theorem tickRunaheadGet (p : Packet) : Statement (.tickRunaheadGet p) := by
  intro h op q e
  cases e
  exact of_wf p h

theorem mastershipReturn (id : Nat) : Statement (.mastershipReturn id) := fun _ _ _ e => nomatch e

theorem tickInEdge (ns : Int) : Statement (.tickInEdge ns) := fun _ _ _ e => nomatch e

theorem tickInHoldover : Statement (.tickInHoldover) := fun _ _ _ e => nomatch e

theorem boundaryStrobe : Statement (.boundaryStrobe) := fun _ _ _ e => nomatch e

theorem jobNoticePublish : Statement (.jobNoticePublish) := fun _ _ _ e => nomatch e

theorem peerHelloSend : Statement (.peerHelloSend) := fun _ _ _ e => nomatch e

theorem configRequest (port : Nat) : Statement (.configRequest port) := fun _ _ _ e => nomatch e

theorem sqDoorbellWrite (port : Nat) (ring : Nat) (count : Nat) : Statement (.sqDoorbellWrite port ring count) := fun _ _ _ e => nomatch e

theorem cqDoorbellWrite (port : Nat) (ring : Nat) (count : Nat) : Statement (.cqDoorbellWrite port ring count) := fun _ _ _ e => nomatch e

theorem ringEnable (port : Nat) (ring : Nat) (ctrl : Nat) : Statement (.ringEnable port ring ctrl) := fun _ _ _ e => nomatch e

theorem ringDisable (port : Nat) (ring : Nat) (ctrl : Nat) : Statement (.ringDisable port ring ctrl) := fun _ _ _ e => nomatch e

theorem ringStopComplete (port : Nat) (ring : Nat) : Statement (.ringStopComplete port ring) := fun _ _ _ e => nomatch e

theorem evtCurIndexWrite (port : Nat) (index : Nat) : Statement (.evtCurIndexWrite port index) := fun _ _ _ e => nomatch e

theorem evtCurAdvWrite (port : Nat) : Statement (.evtCurAdvWrite port) := fun _ _ _ e => nomatch e

theorem eventSnapshotReady (port : Nat) : Statement (.eventSnapshotReady port) := fun _ _ _ e => nomatch e

theorem intCauseClear (port : Nat) (causes : Nat) : Statement (.intCauseClear port causes) := fun _ _ _ e => nomatch e

theorem intMaskWrite (port : Nat) (mask : Nat) : Statement (.intMaskWrite port mask) := fun _ _ _ e => nomatch e

theorem rwQuadwordHalfWrite (port : Nat) (offset : Nat) (value : Nat) : Statement (.rwQuadwordHalfWrite port offset value) := fun _ _ _ e => nomatch e

theorem quadwordLowReadLatch (port : Nat) (offset : Nat) (size : Nat) : Statement (.quadwordLowReadLatch port offset size) := fun _ _ _ e => nomatch e

theorem registerWrite (port : Nat) (offset : Nat) (size : Nat) (value : Nat) : Statement (.registerWrite port offset size value) := fun _ _ _ e => nomatch e

theorem coalesceTimerExpire (port : Nat) (ring : Nat) : Statement (.coalesceTimerExpire port ring) := fun _ _ _ e => nomatch e

theorem identify (p : Packet) : Statement (.identify p) := by
  intro h op q e
  cases e
  exact of_wf p h

theorem floorplanGet (p : Packet) : Statement (.floorplanGet p) := by
  intro h op q e
  cases e
  exact of_wf p h

theorem stateGet (p : Packet) : Statement (.stateGet p) := by
  intro h op q e
  cases e
  exact of_wf p h

theorem deviceReset (p : Packet) : Statement (.deviceReset p) := by
  intro h op q e
  cases e
  exact of_wf p h

theorem cmdCancel (p : Packet) : Statement (.cmdCancel p) := by
  intro h op q e
  cases e
  exact of_wf p h

theorem nop (p : Packet) : Statement (.nop p) := by
  intro h op q e
  cases e
  exact of_wf p h

theorem streamRead (p : Packet) : Statement (.streamRead p) := by
  intro h op q e
  cases e
  exact of_wf p h

theorem countersGet (p : Packet) : Statement (.countersGet p) := by
  intro h op q e
  cases e
  exact of_wf p h

theorem agentCountersRead (p : Packet) : Statement (.agentCountersRead p) := by
  intro h op q e
  cases e
  exact of_wf p h

theorem loopback (p : Packet) : Statement (.loopback p) := by
  intro h op q e
  cases e
  exact of_wf p h

theorem packetFetch (port : Nat) (ring : Nat) (packet : Packet) (bad : Bool) : Statement (.packetFetch port ring packet bad) := fun _ _ _ e => nomatch e

theorem cosignHoldExpire (digest : Bytes) : Statement (.cosignHoldExpire digest) := fun _ _ _ e => nomatch e

theorem queuedCommandRelease (id : Nat) : Statement (.queuedCommandRelease id) := fun _ _ _ e => nomatch e

theorem queuedCommandTimeout (id : Nat) : Statement (.queuedCommandTimeout id) := fun _ _ _ e => nomatch e

theorem orphanQueueDrain (port : Nat) : Statement (.orphanQueueDrain port) := fun _ _ _ e => nomatch e

theorem topologyRecordChange : Statement (.topologyRecordChange) := fun _ _ _ e => nomatch e

theorem faultReportReceive (m : Msg) : Statement (.faultReportReceive m) := fun _ _ _ e => nomatch e

theorem agentReplyReceive (m : Msg) : Statement (.agentReplyReceive m) := fun _ _ _ e => nomatch e

theorem agentReplyResend (msgid : Nat) : Statement (.agentReplyResend msgid) := fun _ _ _ e => nomatch e

theorem agentReplyTimeout (msgid : Nat) : Statement (.agentReplyTimeout msgid) := fun _ _ _ e => nomatch e

theorem localInstant : Statement (.localInstant) := fun _ _ _ e => nomatch e

theorem tickMarker (m : Option Msg) : Statement (.tickMarker m) := fun _ _ _ e => nomatch e

theorem markerOneEmit (at_ : StartMoment) : Statement (.markerOneEmit at_) := fun _ _ _ e => nomatch e

theorem markerMissed : Statement (.markerMissed) := fun _ _ _ e => nomatch e

theorem backupMarkerEmit : Statement (.backupMarkerEmit) := fun _ _ _ e => nomatch e

end Sys2Proof.Laws.CarriesPacket
end

