-- ==== Sys2Proof/Tests/Slice0.lean ====
section
/-! SUPPORT. The author's own tests: a small state for each kind of statement, a witness for every statement that has hypotheses, the
checks of well-formedness, and small runs of one step whose expected values come from the spec. -/

namespace Sys2Proof.Tests

open Sys2Proof Sys2Proof.Machine

-- one theorem after the other: each evaluation by the kernel waits for the declarations before it
set_option Elab.async false

/-! ### Small states -/

/-- A state whose fabric port 0 holds this link. -/
def linkAt (l : Link) (f : Flow := {}) : State := { State.reset with ports := [(0, { link := l, flow := f })] }

/-- A state whose agent port 0 holds this link. -/
def agentLinkAt (l : Link) (f : Flow := {}) : State :=
  { State.reset with agent := { State.reset.agent with ports := [(0, { link := l, flow := f })] } }

/-- Fabric port 0 of the Geneel. -/
def port0 : PortRef := { port := 0 }

/-- Fabric port 0 of the agent. -/
def agentPort0 : PortRef := { node := .agent, port := 0 }

/-- What a far end says of itself. -/
def farEnd : Hello := { version := 3, kind := 2, addr := 0x8000, port := 0, linkClass := 0, width := 8, serial := 1 }

/-- An agent of bolt 0 in this state, of this kind, version 3, at tick 5. -/
def agentIn (st : AgentState) (kind : Nat := 2) (work : AgentWork := {}) : State :=
  { State.reset with agent := { State.reset.agent with
      core := { State.reset.agent.core with state := st, owner := some 0, kind := kind, tick := 5, marked := true }
      work := work } }

/-- A message of type `t` from the Geneel 0xF000 with this body. -/
def fromGeneel0 (t : Nat) (body : Bytes) : Msg := { src := 0xF000, dst := 0x8000, type := t, body := body }

/-- A check value written at byte 12 reads back. -/
theorem crc_body (a b : Bytes) (h : a.length = 12) : le (a ++ toLe 4 (crc32 b)) 12 4 = crc32 b := by
  have := le_toLe a [] 4 (crc32 b)
  rw [List.append_nil, h] at this
  rw [this]
  exact Nat.mod_eq_of_lt (crc32_lt b)

/-- The check value of an empty bank at byte 12 is that of any bank equal to it. -/
theorem crc_bank (a : Bytes) (b : Bank) (k : Bool) (hb : b = {}) (hk : k = false) (h : a.length = 12) :
    le (a ++ toLe 4 (crc32 (bankStream {} false))) 12 4 = crc32 (bankStream b k) := by
  subst hb hk
  exact crc_body a _ h

/-- The chain of a Geneel: an intermediate under the root, a device certificate under it. -/
def geneelChain : Bytes := certOf 1 1 rootKey [1] ++ certOf 2 1 (field [1] 0 1793) [2]

/-- PROBE op 3 with a signature of that Geneel. -/
def sessionBody : Bytes := zeros 35 ++ (zeros 1568
  ++ field (Config.falconSignature (field [2] 0 1793) (field (Config.shake256 (zeros 1568) 32) 0 32)) 0 1280)

theorem sessionBody_good : falconVerify (field [2] 0 1793) (field (Config.shake256 (field (sessionBody.drop 35) 0 1568) 32) 0 32)
    (field (sessionBody.drop 35) 1568 1280) = true := by
  have e0 : sessionBody.drop 35 = zeros 1568
      ++ field (Config.falconSignature (field [2] 0 1793) (field (Config.shake256 (zeros 1568) 32) 0 32)) 0 1280 := List.drop_left' (by simp)
  have e1 := field_at [] (zeros 1568) (field (Config.falconSignature (field [2] 0 1793) (field (Config.shake256 (zeros 1568) 32) 0 32)) 0 1280) 0 1568 rfl (by simp)
  have e2 := field_at (zeros 1568) (field (Config.falconSignature (field [2] 0 1793) (field (Config.shake256 (zeros 1568) 32) 0 32)) 0 1280) [] 1568 1280 (by simp) (by simp)
  rw [List.append_nil] at e2
  rw [List.nil_append] at e1
  rw [e0, e1, e2]
  exact falconVerify_own _ _

/-- PROBE op 2 with the second certificate of the chain. -/
def chainBody : Bytes := zeros 35 ++ ([1] ++ zeros 35) ++ certOf 2 1 (field [1] 0 1793) [2]

theorem chainBody_good : geneelKey (field (certOf 1 1 rootKey [1]) 0 3144 ++ field (chainBody.drop 35) 36 3144) = some (field [2] 0 1793) := by
  have e0 : chainBody.drop 35 = ([1] ++ zeros 35) ++ certOf 2 1 (field [1] 0 1793) [2] := by
    unfold chainBody
    rw [List.append_assoc]
    exact List.drop_left' (by simp)
  have e1 := field_at ([1] ++ zeros 35) (certOf 2 1 (field [1] 0 1793) [2]) [] 36 3144 (by rw [List.length_append, zeros_length]; rfl) (certOf_length ..)
  have e2 := field_at [] (certOf 1 1 rootKey [1]) [] 0 3144 rfl (certOf_length ..)
  rw [List.append_nil] at e1 e2
  rw [List.nil_append] at e2
  rw [e0, e1, e2]
  exact geneelKey_certOf 1 1 [1] [2]

/-- The nonce of a message from the Geneel 0xF000 with MSGID 0. -/
def nonce0 : Bytes := keyNonce (fromGeneel0 9 [])

/-- KEY_INSTALL of a wrapped key with its tag. -/
def wrapped1 : Bytes := zeros 40 ++ field (Config.gcmTag [1] nonce0 (zeros 8) (field (Config.gcmDecrypt [1] nonce0 (zeros 32)) 0 32)) 0 16

theorem wrapped1_good : field wrapped1 40 16 = field (Config.gcmTag [1] nonce0 (field wrapped1 0 8)
    (field (Config.gcmDecrypt [1] nonce0 (field wrapped1 8 32)) 0 32)) 0 16 := by
  have e1 : field wrapped1 0 8 = zeros 8 := rfl
  have e2 : field wrapped1 8 32 = zeros 32 := rfl
  have e3 := field_at (zeros 40) (field (Config.gcmTag [1] nonce0 (zeros 8) (field (Config.gcmDecrypt [1] nonce0 (zeros 32)) 0 32)) 0 16) [] 40 16 (by simp) (by simp)
  rw [List.append_nil] at e3
  rw [e1, e2]
  exact e3

/-- LINK_SESSION with its tag. -/
def tagged1 : Bytes := zeros 16 ++ field (Config.gcmTag [1] nonce0 (zeros 16) []) 0 16

theorem tagged1_good : field tagged1 16 16 = field (Config.gcmTag [1] nonce0 (field tagged1 0 16) []) 0 16 := by
  have e1 : field tagged1 0 16 = zeros 16 := rfl
  have e3 := field_at (zeros 16) (field (Config.gcmTag [1] nonce0 (zeros 16) []) 0 16) [] 16 16 (by simp) (by simp)
  rw [List.append_nil] at e3
  rw [e1]
  exact e3

/-- A Geneel placed at bolt 0, PRIMARY, its device in RUN. -/
def primary0 : State := { State.reset with
  up := { State.reset.up with placed := true, dev := .run }
  twin := { State.reset.twin with assigned := true, role := 0 } }

/-- A Geneel at bolt 0 that takes part in solve 7. -/
def solving (v : Solve) : State := { primary0 with fabric := { primary0.fabric with solve := some v } }

/-- Solve 7, called by the Geneel 0xF000. -/
def solve7 : Solve := { id := 7, params := decodeParams [], coordinator := 0xF000, callTick := 9 }

/-- A message of type `t` from the Geneel 0xF000 to a Geneel. -/
def toGeneel0 (t : Nat) (body : Bytes) : Msg := { src := 0xF000, dst := 0xF000, type := t, body := body }

/-- The power controller in this state, the device in RUN and its clock at this instant. -/
def powered (p : Power) (now : Nat := 0) : State := { primary0 with power := p, clock := { primary0.clock with now := now } }

/-- A unit in this status since this instant. -/
def unitIn (kind idx : Nat) (st : UnitStatus) : UnitRec := { kind := kind, index := idx, status := st, since := 0 }

/-- UNIT_DISABLE of unit 0 of kind 1. -/
def drainCmd : Cmd := { id := 4, pkt := { opcode := 0x0904 }, master := 0, phase := .running, since := 0, due := 0, data := [1, 0] }

/-- Unit 0 of kind 1 drains under that command. -/
def draining0 : State := { primary0 with
  faults := { primary0.faults with units := [unitIn 1 0 .draining] }
  host := { primary0.host with cmds := [drainCmd] }
  clock := { primary0.clock with now := 3750000 } }

/-- A grant of action 3 that ends at instant 20. -/
def warmGrant : Grant := { addr := 0x8000, kind := 1, action := 3, job := 1, start := 0, alone := 0, step := 10, standing := true, expiry := some 20 }

/-- A full block of the event log, its newest record 62,500 ticks old. -/
def spilling : State := { primary0 with faults := { primary0.faults with nextIndex := 1000 }, clock := { primary0.clock with now := 62500 } }

/-- Buckram in this state, the device in RUN. -/
def metered (b : Buckram) : State := { primary0 with buckram := b }

/-- A mailbox message of this kind. -/
def mboxMsg (kind : Nat) (body : Bytes) : Bytes := toLe 1 kind ++ [0] ++ field body 0 62

/-- Buckram in RUN after it has taken such a message. -/
def mboxTaken (kind : Nat) (body : Bytes) : Buckram :=
  ((({ state := 1, mbox := [mboxMsg kind body] } : Buckram).take kind).map Prod.fst).getD {}

/-- A Geneel of bolt 0 with one exchange plan. -/
def planned (p : Plan) (now : Nat := 0) : State := { primary0 with
  jacquard := { primary0.jacquard with plans := [p] }, clock := { primary0.clock with now := now } }

/-- Plan 1 of job 1 with two members at bolt 1, in this exchange. -/
def plan1 (e : Exchange) (flags : Nat := 0) : Plan := {
  id := 1, job := 1, item := 8, flags := flags, x := 1, deadline := 16, capacity := 1024, equal := 0, members := [1024, 1025]
  dataStream := 10, countStream := 11, cur := e }

/-- Plan 1 with its members at bolt 0, in the state CHECK with rank 0 asked. -/
def plan2 : Plan := { plan1 { state := 3, asked := [0] } with members := [0, 1] }

/-- An agent whose member of stream 0 holds a complete receive list of one entry. -/
def landing0 : State := { State.reset with agent := { State.reset.agent with core := { State.reset.agent.core with state := .serving }, work := { State.reset.agent.work with
  exchanges := [{ stream := 0, area := zeros 2 ++ [2] ++ zeros 21 ++ [1] ++ zeros 39 ++ [0, 0, 0, 0, 4, 0, 0, 0] }] } } }

/-- Table 1 of job 1, its shards at Geneel 0. -/
def table1 : CalTable := {
  id := 1, job := 1, state := 0, format := 1, opt := 0, flags := 0, admitAt := 1, d := 4, rowsAsked := 64, eta := 0, beta1 := 0, beta2 := 0, eps := 0
  lambda := 0, sigma := 0, shards := [0], seed := 0, buckets := 64, reqStream := 10, rspStream := 11, pages := 1, starts := [0] }

/-- A Geneel of bolt 0 that holds this table. -/
def tabled (t : CalTable) : State := { primary0 with calico := { primary0.calico with tables := [t] } }

/-- An update request of no record for table 1. -/
def request3 : Flit := { src := 0x8000, job := 1, payload := [3, 0, 1, 0] ++ zeros 12 }

/-- Table 1 with a slice of job 1 whose members may ask it. -/
def asked1 (w : List CalWindow) : State := { tabled { table1 with windows := w } with access := { State.reset.access with
  slices := [{ job := 1, state := .active, ranges := [(0x8000, 0x8001)] }] } }

/-- A good update of one record, one word of row 0. -/
def update1 : Flit := { src := 0x8000, job := 1, payload := [3, 1, 1, 0] ++ zeros 4 ++ [0, 0, 1, 0] ++ zeros 4 ++ zeros 12 }

/-- Generation 1 of job 1 in this state, with one shard of member 0x8000. -/
def slot1 (state : Nat) (y : StoreShard) : StoreSlot := { job := 1, gen := 1, state := state, openTick := 0, expected := 1, openAt := 0, deadline := 16, requester := 0xF000, shards := [y] }

/-- The shard of member 0x8000, two lines long. -/
def shard1 : StoreShard := { owner := 0x8000, quadrant := 0, page := 0, reserved := 2 }

/-- A Geneel that holds this generation. -/
def stored (x : StoreSlot) (now : Nat := 0) : State := { primary0 with
  store := { primary0.store with slots := [x], streams := [{ job := 1, ckpt := 12, rest := 13 }] }, clock := { primary0.clock with now := now } }

/-- A restart flit for that shard. -/
def rsFlit (kind flags off : Nat) (rest : Bytes) : Flit := { src := 0x8000, job := 1, stream := 12, payload := rsPayload kind flags 0x8000 1 off rest }

/-- A Geneel with a storage target 0x9000 that holds the memory key of job 1, and a generation to spill. -/
def spilling1 : State := { stored (slot1 3 shard1) with
  store := { (stored (slot1 3 shard1)).store with spill := true }
  ports := [(38, { link := { state := .up, far := some { version := 3, kind := 3, addr := 0x9000, port := 0, linkClass := 0, width := 8, serial := 1 } } })]
  sec := { primary0.sec with holders := [{ job := 1, kind := 1, addr := 0x9000 }] } }

/-- A Geneel of bolt 0 whose list names the Geneel of this ID, and whose slot may do everything. -/
def peered (p : Peer) : State := { primary0 with
  twin := { primary0.twin with peers := [p] }
  access := { State.reset.access with masters := [(8 + p.id, { classes := 0xFFFF, write := true })] } }

/-- A message of type `t` of the Geneel of this ID. -/
def fromPeer (id t : Nat) (body : Bytes) : Msg := { src := 0xF000 + id, dst := 0xF000, type := t, body := body }

/-- Geneel 2 of the peer list, with a nonce of this one and a session key. -/
def peer2 : Peer := { id := 2, serial := 9, ownNonce := some [], session := some [1] }

/-- Geneel 0 of the peer list. -/
def peer0 : Peer := { id := 0, serial := 8, ownNonce := some [], session := some [1] }

/-- A certificate of a Geneel of this serial under the intermediate that the part holds. -/
def peerCert (serial : Nat) : Bytes := certOf 2 serial (certKey (field (Config.partBytes "intermediate certificate") 0 3144)) [1]

/-- Its key. -/
def peerCertKey : Bytes := field [1] 0 1793

/-- An offer or answer of a peer with its certificate. -/
def helloOf (a b serial : Nat) : Bytes := [BitVec.ofNat 8 a, BitVec.ofNat 8 b, 0, 0] ++ zeros 32 ++ peerCert serial

theorem helloOf_key (p : Peer) (a b : Nat) (h : p.serial < 2 ^ 64) : peerKey p (field (helloOf a b p.serial) 36 3144) = some peerCertKey := by
  have e : field (helloOf a b p.serial) 36 3144 = peerCert p.serial := by
    have := field_at ([BitVec.ofNat 8 a, BitVec.ofNat 8 b, 0, 0] ++ zeros 32) (peerCert p.serial) [] 36 3144 (by rw [List.length_append, zeros_length]; rfl) (certOf_length ..)
    rwa [List.append_nil] at this
  rw [e]
  exact peerKey_certOf p [1] h

/-- A message of a peer session that is signed by the peer's key over what goes before it. -/
def signedBody (head n1 n2 : Bytes) : Bytes := head ++ field (Config.falconSignature peerCertKey (sessionDigest n1 n2 head)) 0 1280

theorem signedBody_good (head n1 n2 : Bytes) (n : Nat) (h : head.length = n) :
    falconVerify peerCertKey (sessionDigest n1 n2 (field (signedBody head n1 n2) 0 n)) (field (signedBody head n1 n2) n 1280) = true := by
  have e1 : field (signedBody head n1 n2) 0 n = head := field_at [] head _ 0 n rfl h
  have e2 : field (signedBody head n1 n2) n 1280 = field (Config.falconSignature peerCertKey (sessionDigest n1 n2 head)) 0 1280 := by
    have := field_at head (field (Config.falconSignature peerCertKey (sessionDigest n1 n2 head)) 0 1280) [] n 1280 h (by simp)
    rwa [List.append_nil] at this
  rw [e1, e2]
  exact falconVerify_own _ _

/-- Geneel 2 of the peer list, its certificate taken. -/
def peer2c : Peer := { peer2 with farCert := peerCert 9 }

/-- Geneel 0 of the peer list, its certificate taken. -/
def peer0c : Peer := { peer0 with farCert := peerCert 8 }

/-- A wrapped key of job 0 under a session key, with its tag. -/
def wrapped (sk : Bytes) : Bytes := zeros 40
  ++ field (Config.gcmTag sk (toLe 4 0 ++ zeros 8) (zeros 8) (field (Config.gcmDecrypt sk (toLe 4 0 ++ zeros 8) (zeros 32)) 0 32)) 0 16

theorem wrapped_good (sk : Bytes) : field (Config.gcmTag sk (toLe 4 0 ++ zeros 8) (field (wrapped sk) 0 8)
      (field (Config.gcmDecrypt sk (toLe 4 0 ++ zeros 8) (field (wrapped sk) 8 32)) 0 32)) 0 16 = field (wrapped sk) 40 16 := by
  have e1 : field (wrapped sk) 0 8 = zeros 8 := rfl
  have e2 : field (wrapped sk) 8 32 = zeros 32 := rfl
  have e3 := field_at (zeros 40) (field (Config.gcmTag sk (toLe 4 0 ++ zeros 8) (zeros 8) (field (Config.gcmDecrypt sk (toLe 4 0 ++ zeros 8) (zeros 32)) 0 32)) 0 16) [] 40 16 (by simp) (by simp)
  rw [List.append_nil] at e3
  rw [e1, e2]
  exact e3.symm

/-- The installation of generation 1 of the link key of job 1. -/
def rotation1 : Rotation := { job := 1, kind := 0, generation := 1, due := 0, stage := .installing, outstanding := [], owner := 0xF000 }

/-- The link key of job 0, in force. -/
def key1 : HeldKey := { job := 1, kind := 0, generation := 1, key := [1], current := true, since := 0 }

/-- The device in this state of its bring-up. -/
def booting (d : DevState) (now : Nat := 0) : State := { State.reset with
  up := { State.reset.up with dev := d }, clock := { State.reset.clock with now := now } }

/-- UNIT_ENABLE of unit 0 of kind 1. -/
def enableCmd : Cmd := { id := 4, pkt := { opcode := 0x0905 }, master := 0, phase := .running, since := 0, due := 0, data := [1, 0] }

/-- Unit 0 of kind 1 is switched on under that command. -/
def enabling : State := { primary0 with
  up := { primary0.up with domains := List.range 20 }
  faults := { primary0.faults with units := [unitIn 1 0 .off] }
  host := { primary0.host with cmds := [enableCmd] } }

/-- STAGE1 with every core of the test list passed. -/
def stage1Done : State := { booting .stage1 1000000000 with up := { (booting .stage1).up with
  domains := [0, 1], tested := (List.range 32).map (fun i => (1, i, 0)) } }

/-- STAGE2 with every unit of its kinds passed. -/
def stageDone2 : State := { booting .stage2 1000000000 with up := { (booting .stage2).up with
  domains := [0, 1, 2, 3], tested := [4, 5, 15, 16].flatMap (fun k => (List.range (unitCount k)).map (fun i => (k, i, 0))) } }

/-- A Geneel of bolt 0 at this tick of a started machine; it emits markers or not. -/
def ticking (tick : Nat) (emitting : Bool := true) : State := { primary0 with
  pins := { primary0.pins with pwrGood := true, resetN := true }
  clock := { primary0.clock with loaded := true, emitting := emitting, tick := tick, master := 0, now := 100000 } }

/-- SLICE_DESTROY of job 1, its drain running. -/
def destroyCmd : Cmd := { id := 4, pkt := { opcode := 0x0403, job := 1 }, master := 0, phase := .running, since := 0, due := 0, stage := 1, data := [0] }

/-- A change of the slice of job 1 that waits for its epoch. -/
def change1 : SliceChange := { id := 1, op := 1, job := 1, cmd := none, slice := { job := 1, state := .active }, since := 0, due := 0, stage := .waiting, solveId := 7 }

/-- Its solve's result, with the next tag in every bolt. -/
def result1 : SolveResult := { id := 7, params := decodeParams [], image := [], tags := List.replicate 32 0, agreed := [] }

/-- A Geneel where that change waits. -/
def changing : State := { primary0 with
  access := { primary0.access with changes := [change1] }, fabric := { primary0.fabric with results := [result1] } }

/-- A DRAINING stream with nothing outstanding. -/
def draining20 : Stream := { state := 2 }

/-- Host port 0 is up in RUN, with ring 0 as given. -/
def hosted (x : Ring) : State := { primary0 with host := { primary0.host with
  h0 := { linkUp := true, rings := [(0, x)] } } }

/-- A Geneel of bolt 0 that records the agent 0x8000 of serial 5 and waits for its reply to message 4. -/
def waiting4 (w : Waiting) (now : Nat := 0) (ports : Nat := 0) : State := { primary0 with
  fabric := { primary0.fabric with sections := [{ bolt := 0, nodes := [{ serial := 5, addr := 0x8000, kind := 2, ports := ports }] }] }
  mail := { primary0.mail with waiting := [w] }, clock := { primary0.clock with now := now } }

/-- The request that waits. -/
def request4 : Msg := { src := 0xF000, dst := 0x8000, type := 4, msgid := 4 }

/-- One tree rooted at Geneel 0 with up stream 20, root port 3. -/
def tree0 : GroupTree := { root := 0xF000, pipeline := 0, ports := [3], up := 20, down := 21, links := [], depth := 1, reach := 1, rate := 1, combining := 0 }

/-- Group 1 of job 1 with these steps and flow over tree 0. -/
def group1 (steps : List GroupStep) : Group := {
  id := 1, job := 1, op := 1, operator := 0, type := 1, stochastic := false, window := 4, voidLimit := 4, weight := 1, single := true
  q := 0, deadline := 16, ranges := [(0, 1)], n := 2, w := 1, state := .ready, t0 := tree0, t1 := none, flags := 0, steps := steps }

/-- A Geneel of bolt 0 that holds the group. -/
def weaving (steps : List GroupStep) (now : Nat := 0) : State := { primary0 with
  twill := { primary0.twill with groups := [group1 steps] }, clock := { primary0.clock with now := now } }

/-- A tree entry at the agent: tree 0 of group 1, up stream 20, down stream 21, parent port 0. -/
def entry1 : TreeEntry := {
  tree := 0, group := 1, job := 1, up := 20, down := 21, parent := 0, codes := 0, lane := 1, role := 0, reservation := 0, children := 2, effTick := 0 }

/-- An agent of this kind with that entry. -/
def weaver (kind : Nat) : State := agentIn .serving kind { trees := [entry1] }

/-- A step of group 1 whose tree is complete. -/
def doneStep : GroupStep := { step := 5, openAt := 0, t0 := { subends := [(3, 2)], dend := true, receipts := [0, 1] } }

/-- AGENT_VERDICT of group 1. -/
def verdictMsg : Msg := fromGeneel0 0x0F ([1, 0, 0, 1] ++ zeros 28)

/-- A Geneel of bolt 0 with the twin's slot open, in this role and mirror state. -/
def twinned (w : Twin) (now : Nat := 0) : State := { primary0 with
  twin := w, clock := { primary0.clock with now := now }
  access := { State.reset.access with masters := [(2, { classes := 0xFFFF, write := true })] } }

/-- A message of type `t` from the twin. -/
def fromTwin1 (t : Nat) (body : Bytes) : Msg := { src := 0xF001, dst := 0xF000, type := t, body := body }

/-- A Geneel with one command in its list, at this instant. -/
def holding (c : Cmd) (now : Nat := 0) : State := { primary0 with host := { primary0.host with cmds := [c] }, clock := { primary0.clock with now := now } }

/-- A packet that a host may send through ring 0 of port 0. -/
def packet0 : Packet := {}

/-- Host port 0 in RUN with ring 0 active and one doorbell beyond the head; its master may do everything. -/
def fetching : State := { hosted { state := .active, sqLog := 7, cqLog := 4, sqDb := 1 } with
  access := { State.reset.access with masters := [(0, { classes := 0xFFFF, read := true, write := true, cosign := true, opr := true, rings := 1 })] } }

/-- A command that waits for a second signature until instant 8. -/
def heldCmd : Cmd := { id := 4, pkt := {}, master := 0, phase := .signature 1 8, since := 0, due := 0 }

/-- A command that waits for a drain. -/
def drainedCmd : Cmd := { id := 4, pkt := { opcode := 0x0205 }, master := 0, phase := .drain, since := 0, due := 0 }

/-- A held command of this opcode. -/
def heldAt (opcode : Nat) : Cmd := { id := 4, pkt := { opcode := opcode }, master := 0, phase := .timed, since := 0, due := 3 }

/-- A packet with these own parameters. -/
def hostPacket (b : Bytes) (job : Nat := 0) : Packet := { params := b, len := b.length, job := job }

/-- The host port in RUN, Buckram in RUN. -/
def metered1 : State := { fetching with buckram := { fetching.buckram with state := 2 } }

/-- The host port in RUN, with the slice, group 1, plan 1, table 1 and generation 1 of job 1, and an agent 0x8000 in the record. -/
def hostWith1 : State := { fetching with
  access := { fetching.access with slices := [{ job := 1, state := .active, ranges := [(0x8000, 0x8001)] }] }
  fabric := { fetching.fabric with sections := [{ bolt := 0, nodes := [{ serial := 5, addr := 0x8000, kind := 2, attest := 1 }] }] }
  twill := { fetching.twill with groups := [group1 []] }
  jacquard := { fetching.jacquard with plans := [plan1 {}] }
  calico := { fetching.calico with tables := [table1] }
  store := { fetching.store with slots := [slot1 3 shard1], streams := [{ job := 1, ckpt := 12, rest := 13 }] } }

/-- The host port in RUN with a command of tag 9 that waits for its tick. -/
def fetchingWith : State := { fetching with host := { fetching.host with cmds := [{ heldAt 6 with pkt := { tag := 9 } }] } }

/-- The host port in RUN, a switch with a link to port 0 in the record. -/
def retrainable : State := { fetching with fabric := { fetching.fabric with sections := [{
  bolt := 0, nodes := [{ serial := 5, addr := 0x8000, kind := 2, attest := 1 }]
  links := [{ src := 0x8000, sport := 0, dst := 0xF000, dport := 0 }] }] } }

/-- The host port in RUN, solve 7 agreed, pin 3 in force. -/
def stageable : State := { fetching with fabric := { fetching.fabric with
  results := [result1], epoch := { fetching.fabric.epoch with pins := [{ id := 3, node := 0x8000, first := 0x8000, last := 0x8000, ports := [0] }] } } }

/-- The host port in RUN at tick 5, solve 7 staged. -/
def stagedHost : State := { fetching with
  clock := { fetching.clock with loaded := true, tick := 5, master := 0 }
  fabric := { fetching.fabric with epoch := { fetching.fabric.epoch with state := .staged, stagedId := 7 } } }

/-- The host port in RUN with a slice of job 1, its members 0 and 1. -/
def hostFor1 : State := { fetching with
  access := { fetching.access with slices := [{ job := 1, state := .active, ranges := [(0, 1)] }] }
  twill := { fetching.twill with bases := [{ job := 1, t0 := { root := 0xF000, ports := [], links := [] }, t1 := { root := 0xF001, ports := [], links := [] }, shared := false, joint := false, oneRoot := false }] } }

/-- Generation 1 of job 1 is open for a shard of table 1. -/
def snapshooting : State := { hostWith1 with
  store := { hostWith1.store with slots := [slot1 2 { shard1 with owner := 0x80000040 }] } }

/-- The host port of a SECONDARY in RUN. -/
def secondaryHost : State := { fetching with twin := { fetching.twin with role := 1 } }

/-- The host port in RUN, image slot A verified. -/
def imaged : State := { fetching with sec := { fetching.sec with slotA := { present := true, verified := true } } }

/-- The host port in RUN with an active slice of job 1, member 0, and a free spare 1. -/
def promotable : State := { hostFor1 with
  access := { hostFor1.access with slices := [{ job := 1, state := .active, ranges := [(0, 0)], policy := 4 }] }
  fabric := { hostFor1.fabric with sections := [{ bolt := 0, nodes := [
    { serial := 5, addr := 0, kind := 1, attest := 1, ver := 3, agState := 4, shelf := 0 },
    { serial := 6, addr := 1, kind := 1, attest := 1, ver := 3, agState := 4, shelf := 0, spare := true }] }] } }

/-- The host port in RUN at tick 5 with a key of job 1. -/
def keyed : State := { hostFor1 with
  clock := { hostFor1.clock with loaded := true, tick := 5, master := 0 }
  sec := { hostFor1.sec with keys := [{ key1 with kind := 1 }] } }

/-- The host port in RUN, an endpoint 0 that may be a member. -/
def sliceable : State := { promotable with access := { promotable.access with slices := [] } }

/-- The own parameters of an unlock with the debug key's signature for nonce 0 and scope 0. -/
def unlockBody : Bytes :=
  zeros 32 ++ (zeros 1 ++ (zeros 7 ++ (field (Config.partBytes "Paruren debug public key") 0 1793 ++ (zeros 7
    ++ (field (Config.falconSignature (field (Config.partBytes "Paruren debug public key") 0 1793)
      (shake32 (ascii "GN7DBGA1" ++ zeros 32 ++ identityDigest ++ zeros 1))) 0 1280 ++ [])))))

/-- A packet with them. -/
def unlock : Packet := { packet0 with len := 3120, params := unlockBody }

theorem unlock_good (p : Packet) (h : p.body = unlockBody) : (keyId (field p.body 40 1793) == debugKeyId
    && falconVerify (field p.body 40 1793) (shake32 (ascii "GN7DBGA1" ++ field p.body 0 32 ++ identityDigest ++ field p.body 32 1))
      (field p.body 1840 1280)) = true := by
  have e0 : field unlockBody 0 32 = zeros 32 := field_at [] (zeros 32) _ 0 32 rfl (by simp)
  have e1 : field unlockBody 32 1 = zeros 1 := field_at (zeros 32) (zeros 1) _ 32 1 (by simp) (by simp)
  have e2 : field unlockBody 40 1793 = field (Config.partBytes "Paruren debug public key") 0 1793 := by
    have := field_at (zeros 32 ++ (zeros 1 ++ zeros 7)) (field (Config.partBytes "Paruren debug public key") 0 1793) (zeros 7
      ++ (field (Config.falconSignature (field (Config.partBytes "Paruren debug public key") 0 1793)
      (shake32 (ascii "GN7DBGA1" ++ zeros 32 ++ identityDigest ++ zeros 1))) 0 1280 ++ [])) 40 1793 (by simp) (by simp)
    simpa only [unlockBody, List.append_assoc] using this
  have e3 : field unlockBody 1840 1280 = field (Config.falconSignature (field (Config.partBytes "Paruren debug public key") 0 1793)
      (shake32 (ascii "GN7DBGA1" ++ zeros 32 ++ identityDigest ++ zeros 1))) 0 1280 := by
    have := field_at (zeros 32 ++ (zeros 1 ++ (zeros 7 ++ (field (Config.partBytes "Paruren debug public key") 0 1793 ++ zeros 7))))
      (field (Config.falconSignature (field (Config.partBytes "Paruren debug public key") 0 1793)
      (shake32 (ascii "GN7DBGA1" ++ zeros 32 ++ identityDigest ++ zeros 1))) 0 1280) [] 1840 1280 (by simp) (by simp)
    simpa only [unlockBody, List.append_assoc] using this
  rw [h, e0, e1, e2, e3, falconVerify_own]
  simp [debugKeyId]

/-- The block of a credential that has signed a digest. -/
def sigBlock (cred : Nat) (key digest : Bytes) : Bytes :=
  toLe 1 cred ++ (toLe 1 1 ++ (toLe 2 1280 ++ (toLe 4 0 ++ (field (Config.falconSignature key digest) 0 1280 ++ []))))

/-- The state with an operator key and a custodian key enrolled. -/
def keyed12 (s : State) : State := { s with sec := { s.sec with policy := { s.sec.policy with operator := [1], custodian := [2] } } }

/-- The packet signed by the operator, and by the custodian but where `one` is set. -/
def signedPacket (op : HostOp) (p : Packet) (s : State) (one : Bool) : Packet :=
  let q := { p with flags := p.flags + (if one then 8 else 16) }
  let d := s.cosignDigest (asOp op q)
  { q with digest := d, sigs := if one then [sigBlock 1 [1] d] else [sigBlock 1 [1] d, sigBlock 2 [2] d] }

theorem block_good (s : State) (p : Packet) (slot i cred : Nat) (key : Bytes) (req : List Nat) (h : p.sigs.getD i [] = sigBlock cred key p.digest)
    (hm : (s.master slot).cosign = true) (hr : req.contains cred = true) (hk : s.credentialKey p cred = key) (hn : key ≠ [])
    (hd : p.digest = s.cosignDigest p) (h1 : 1 ≤ cred) (h3 : cred ≤ 3) : s.checkBlock p slot i req = .inl cred := by
  have e0 : le (sigBlock cred key p.digest) 0 1 = cred := le_at [] _ 0 1 cred rfl (by omega)
  have e1 : le (sigBlock cred key p.digest) 1 1 = 1 := le_at (toLe 1 cred) _ 1 1 1 (by simp) (by decide)
  have e2 : le (sigBlock cred key p.digest) 2 2 = 1280 := by
    have := le_at (toLe 1 cred ++ toLe 1 1) (toLe 4 0 ++ (field (Config.falconSignature key p.digest) 0 1280 ++ [])) 2 2 1280 (by simp) (by decide)
    simpa only [sigBlock, List.append_assoc] using this
  have e4 : le (sigBlock cred key p.digest) 4 4 = 0 := by
    have := le_at (toLe 1 cred ++ (toLe 1 1 ++ toLe 2 1280)) (field (Config.falconSignature key p.digest) 0 1280 ++ []) 4 4 0 (by simp) (by decide)
    simpa only [sigBlock, List.append_assoc] using this
  have e8 : field (sigBlock cred key p.digest) 8 1280 = field (Config.falconSignature key p.digest) 0 1280 := by
    have := field_at (toLe 1 cred ++ (toLe 1 1 ++ (toLe 2 1280 ++ toLe 4 0))) (field (Config.falconSignature key p.digest) 0 1280) [] 8 1280 (by simp) (by simp)
    simpa only [sigBlock, List.append_assoc] using this
  unfold State.checkBlock
  simp only [h, e0, e1, e2, e4, e8, hm, hr, hk, falconVerify_own]
  simp [h1, h3, hn, hd]

theorem both_sign (op : HostOp) (p : Packet) (s : State) (slot : Nat) (hc : op.cosign = .oc) (hn : p.nsig = 2) (hm : (s.master slot).cosign = true)
    (h0 : p.sigs.getD 0 [] = sigBlock 1 s.sec.policy.operator p.digest) (h1 : p.sigs.getD 1 [] = sigBlock 2 s.sec.policy.custodian p.digest)
    (hd : p.digest = s.cosignDigest p) (ho : s.sec.policy.operator ≠ []) (hk : s.sec.policy.custodian ≠ []) :
    s.checkSigs op p slot = .full [1, 2] := by
  have k1 : s.credentialKey p 1 = s.sec.policy.operator := by simp [State.credentialKey, ho]
  have k2 : s.credentialKey p 2 = s.sec.policy.custodian := by simp [State.credentialKey, ho]
  have b0 := block_good s p slot 0 1 _ [1, 2] h0 hm rfl k1 ho hd (by decide) (by decide)
  have b1 := block_good s p slot 1 2 _ [1, 2] h1 hm rfl k2 hk hd (by decide) (by decide)
  unfold State.checkSigs
  simp only [hc, Cosign.required, hn, b0, b1, ho]
  rfl

theorem operator_signs (op : HostOp) (p : Packet) (s : State) (slot : Nat) (hc : op.cosign = .o) (hn : p.nsig = 1) (hm : (s.master slot).cosign = true)
    (h0 : p.sigs.getD 0 [] = sigBlock 1 s.sec.policy.operator p.digest)
    (hd : p.digest = s.cosignDigest p) (ho : s.sec.policy.operator ≠ []) : s.checkSigs op p slot = .full [1] := by
  have k1 : s.credentialKey p 1 = s.sec.policy.operator := by simp [State.credentialKey, ho]
  have b0 := block_good s p slot 0 1 _ [1] h0 hm rfl k1 ho hd (by decide) (by decide)
  unfold State.checkSigs
  simp only [hc, Cosign.required, hn, b0]
  rfl

/-- The host port in RUN, a debug nonce drawn and no job's key held. -/
def challenged : State := { fetching with sec := { fetching.sec with nonce := some (zeros 32, 0) } }

/-- A PRIMARY in sync with its twin, with a held ROUTE_SOLVE. -/
def gatedHost : State := { primary0 with
  host := { primary0.host with cmds := [heldAt 0x0301] }, twin := { primary0.twin with mirror := .inSync, unacked := [{ seq := 1, tick := 0, kind := 0, last := true, obj := 0, data := [] }] } }

/-- The host port in RUN, its ring 0 bound to the JOB master of job 1 in slot 72, which may do nothing. -/
def boundHost : State := { fetching with
  access := { fetching.access with masters := [(72, { cls := 5, job := 1, port := 0, rings := 1 })] } }

/-! ### Witnesses: states and operands that meet the hypotheses of each statement -/

theorem witness_EmptyQueueIdles : ∃ s : State, s.pending = [] :=
  ⟨State.reset, rfl⟩

theorem witness_AlarmOutputsFollow : ∃ s t : State, PinsFollow s ∧ step s = .next t :=
  ⟨State.reset, State.reset, ⟨by decide, by decide⟩, rfl⟩

theorem witness_HostRowsAreCommands :
    (∃ (i : Instr) (op : HostOp) (p : Packet) (s : State), hostRow i = some (op, p) ∧ Entered op p s = true ∧ Checked op p s = true)
    ∧ (∃ (i : Instr) (op : HostOp) (p : Packet) (s : State), hostRow i = some (op, p) ∧ s.ringRuns (asOp op p) = false ∧ s.mayFetch p.port p.ring = false)
    ∧ (∃ (i : Instr) (op : HostOp) (p : Packet) (s : State), hostRow i = some (op, p) ∧ s.mayFetch p.port p.ring = true ∧ s.waitsBehind (asOp op p) = true) :=
  ⟨⟨.nop packet0, opNop, packet0, fetching, rfl, by decide +kernel, by decide +kernel⟩,
    ⟨.nop packet0, opNop, packet0, State.reset, rfl, by decide +kernel, by decide +kernel⟩,
    ⟨.nop { packet0 with flags := 2 }, opNop, _, fetchingWith, rfl, by decide +kernel, by decide +kernel⟩⟩

theorem witness_CommandsWaitForTheirTick : ∃ (i : Instr) (op : HostOp) (p : Packet) (s : State), hostRow i = some (op, p) ∧ Admitted op p s = true ∧ p.effTick ≠ 0 :=
  ⟨.routeCommit { hostPacket [7, 0, 0, 0, 0, 0, 0, 0] with effTick := 20 }, opRouteCommit, _, stagedHost, rfl, by decide +kernel, by decide⟩

theorem witness_CommandsEndOnce :
    (∃ (s : State) (id status : Nat) (c : Cmd), s.host.cmds.find? (fun d => d.id == id) = some c ∧ c.twinPkt = none ∧ CanPost s c.pkt = true ∧ c.cut.contains c.pkt.port = false ∧ (c.phase ≠ .timed ∨ tookEffect status = true) ∧ status ≠ 1 ∧ (s.gating && tookEffect status && mirroredOpcode c.pkt.opcode) = false)
    ∧ (∃ (s : State) (id status : Nat) (c : Cmd), s.host.cmds.find? (fun d => d.id == id) = some c ∧ (s.gating && tookEffect status && mirroredOpcode c.pkt.opcode) = true) :=
  ⟨⟨fetchingWith, 4, 0, { heldAt 6 with pkt := { tag := 9 } }, by decide +kernel, rfl, by decide +kernel, rfl, Or.inr rfl, by decide, by decide +kernel⟩,
    ⟨gatedHost, 4, 0, heldAt 0x0301, by decide +kernel, by decide +kernel⟩⟩

theorem witness_EffectiveTicks :
    (∃ (op : HostOp) (p : Packet) (s : State), s.clock.loaded = true ∧ CanPost s p = true ∧ p.effTick ≠ 0 ∧ op.eff = .ei ∧ p.effTick < s.clock.tick + 1)
    ∧ (∃ (op : HostOp) (p : Packet) (s : State), s.clock.loaded = true ∧ CanPost s p = true ∧ p.effTick ≠ 0 ∧ op.eff = .ea ∧ p.effTick < s.clock.tick + 3)
    ∧ (∃ (p : Packet) (s : State), s.clock.loaded = true ∧ CanPost s p = true ∧ p.effTick ≠ 0 ∧ s.clock.tick + 16777216 < p.effTick)
    ∧ (∃ (op : HostOp) (p : Packet) (s : State), s.clock.loaded = true ∧ CanPost s p = true ∧ p.effTick ≠ 0 ∧ op.eff = .ei ∧ s.clock.tick + 1 ≤ p.effTick ∧ p.effTick ≤ s.clock.tick + 16777216)
    ∧ (∃ (op : HostOp) (p : Packet) (s : State), s.clock.loaded = true ∧ CanPost s p = true ∧ p.effTick ≠ 0 ∧ op.eff = .ea ∧ s.clock.tick + 3 ≤ p.effTick ∧ p.effTick ≤ s.clock.tick + 16777216) :=
  ⟨⟨opNop, { packet0 with effTick := 5 }, stagedHost, rfl, by decide +kernel, by decide, rfl, by decide⟩,
    ⟨opRouteCommit, { packet0 with effTick := 7 }, stagedHost, rfl, by decide +kernel, by decide, rfl, by decide⟩,
    ⟨{ packet0 with effTick := 16777222 }, stagedHost, rfl, by decide +kernel, by decide, by decide⟩,
    ⟨opNop, { packet0 with effTick := 6 }, stagedHost, rfl, by decide +kernel, by decide, rfl, by decide, by decide⟩,
    ⟨opRouteCommit, { packet0 with effTick := 16777221 }, stagedHost, rfl, by decide +kernel, by decide, rfl, by decide, by decide⟩⟩

theorem witness_RightsOfTheRing :
    (∃ (port ring : Nat) (s : State), ∃ e ∈ s.access.masters, 72 ≤ e.1 ∧ e.2.cls = 5 ∧ e.2.port = port ∧ e.2.rings.getLsbD ring = true)
    ∧ (∃ (i : Instr) (op : HostOp) (p : Packet) (s : State) (j : Nat), hostRow i = some (op, p) ∧ s.mayFetch p.port p.ring = true ∧ s.waitsBehind (asOp op p) = false ∧ (s.ring p.port p.ring).takesRecords = true ∧ (fetched p s).checkHeader op (asOp op p) = .ok ∧ (fetched p s).checkState op = .ok ∧ s.masterJob (s.masterOf p.port p.ring) = some j ∧ p.job ≠ j)
    ∧ (∃ (i : Instr) (op : HostOp) (p : Packet) (s : State), hostRow i = some (op, p) ∧ s.mayFetch p.port p.ring = true ∧ s.waitsBehind (asOp op p) = false ∧ (s.ring p.port p.ring).takesRecords = true ∧ (fetched p s).checkHeader op (asOp op p) = .ok ∧ (fetched p s).checkState op = .ok ∧ s.masterJob (s.masterOf p.port p.ring) = some p.job ∧ (s.master (s.masterOf p.port p.ring)).classes.getLsbD (op.opcode / 256) = false) :=
  ⟨⟨0, 0, boundHost, (72, _), List.mem_cons_self .., by decide, rfl, rfl, by decide⟩,
    ⟨.nop packet0, opNop, packet0, boundHost, 1, rfl, by decide +kernel, by decide +kernel, by decide +kernel, by decide +kernel, by decide +kernel, by decide +kernel, by decide⟩,
    ⟨.nop { packet0 with job := 1 }, opNop, { packet0 with job := 1 }, boundHost, rfl, by decide +kernel, by decide +kernel, by decide +kernel, by decide +kernel, by decide +kernel, by decide +kernel, by decide +kernel⟩⟩

theorem witness_BookingsKeepTheBudget : ∃ b : Nat, 0 < b :=
  ⟨1, by decide⟩

theorem witness_TieBreakIsTheFirstAfter : ∃ (n w : Nat) (req : List Nat), 0 < n ∧ (∀ i ∈ req, i < n) ∧ w % n ∈ req :=
  ⟨4, 6, [3, 2], by decide, by decide, by decide⟩

theorem witness_FlitsAndCodewords :
    (∃ f : Flit, f.wf = true ∧ f.enc = true)
    ∧ (∃ f : Flit, f.wf = true ∧ f.enc = false)
    ∧ (∃ data : List Nat, data.length = 514)
    ∧ (∃ (words : List (List Nat)) (w n x : Nat), 0 < w ∧ words.flatten[n]? = some x) :=
  ⟨⟨{ enc := true, tag := zeros 16, payload := zeros 224, plen := 224, lseq := 4095, sseq := 1048575 }, by decide +kernel, rfl⟩,
    ⟨{ payload := zeros 240, job := 4095 }, by decide +kernel, rfl⟩,
    ⟨List.replicate 514 0, by decide +kernel⟩,
    ⟨[[7, 8]], 1, 1, 8, by decide, rfl⟩⟩

theorem witness_LinkTrainingCompletes :
    (∃ (r : PortRef) (s : State), r.node = .agent ∧ (s.nodePort r).link.state = .down)
    ∧ (∃ (r : PortRef) (good : LanesFound) (s : State), (s.nodePort r).link.state = .training ∧ (s.nodePort r).link.step = 1 ∧ (widthOf (BitVec.ofNat 8 good.lanes)).1 ≠ 0)
    ∧ (∃ (r : PortRef) (good : LanesFound) (s : State), (s.nodePort r).link.state = .training ∧ (s.nodePort r).link.step = 1 ∧ (widthOf (BitVec.ofNat 8 good.lanes)).1 = 0)
    ∧ (∃ (r : PortRef) (s : State), (s.nodePort r).link.state = .training ∧ (s.nodePort r).link.step ≠ 0)
    ∧ (∃ (r : PortRef) (s : State), r.node = .agent ∧ (s.nodePort r).link.state = .training ∧ (s.nodePort r).link.step = 7 ∧ handshakeOk (s.nodePort r).link false = true)
    ∧ (∃ (r : PortRef) (s : State), (s.nodePort r).link.state = .training ∧ (s.nodePort r).link.step = 7 ∧ (s.nodePort r).link.helloAcked = false)
    ∧ (∃ (r : PortRef) (lockLost : Bool) (s : State), (s.nodePort r).link.state = .up ∧ s.retrainDue r.node (s.nodePort r).link lockLost = true ∧ ((s.nodePort r).link.retrainTimes.filter (fun t => s.nodeNow r.node < t + s.nodeTicks r.node 3600000000)).length < 4 ∧ r.node = .agent)
    ∧ (∃ (r : PortRef) (lockLost : Bool) (s : State), (s.nodePort r).link.state = .up ∧ s.retrainDue r.node (s.nodePort r).link lockLost = true ∧ ((s.nodePort r).link.retrainTimes.filter (fun t => s.nodeNow r.node < t + s.nodeTicks r.node 3600000000)).length < 4 ∧ r.node = .geneel)
    ∧ (∃ (r : PortRef) (lockLost : Bool) (s : State), (s.nodePort r).link.state = .up ∧ s.retrainDue r.node (s.nodePort r).link lockLost = true ∧ 4 ≤ ((s.nodePort r).link.retrainTimes.filter (fun t => s.nodeNow r.node < t + s.nodeTicks r.node 3600000000)).length)
    ∧ (∃ (r : PortRef) (s : State), (s.nodePort r).link.state = .retrain ∧ (s.nodePort r).link.waits = false ∧ 2 ≤ (s.nodePort r).link.width)
    ∧ (∃ (r : PortRef) (s : State), (s.nodePort r).link.state = .retrain ∧ (s.nodePort r).link.waits = false) :=
  ⟨⟨agentPort0, State.reset, by decide +kernel⟩,
    ⟨port0, { lanes := 255, cls := 1 }, linkAt { state := .training, step := 1 }, by decide +kernel⟩,
    ⟨port0, { lanes := 1, cls := 1 }, linkAt { state := .training, step := 1 }, by decide +kernel⟩,
    ⟨port0, linkAt { state := .training, step := 3 }, by decide +kernel⟩,
    ⟨agentPort0, agentLinkAt { state := .training, step := 7, width := 8, far := some farEnd, helloAcked := true }, by decide +kernel⟩,
    ⟨port0, linkAt { state := .training, step := 7 }, by decide +kernel⟩,
    ⟨agentPort0, true, agentLinkAt { state := .up }, by decide +kernel⟩,
    ⟨port0, true, linkAt { state := .up }, by decide +kernel⟩,
    ⟨port0, true, linkAt { state := .up, retrainTimes := [0, 0, 0, 0] }, by decide +kernel⟩,
    ⟨port0, linkAt { state := .retrain, width := 2 }, by decide +kernel⟩,
    ⟨port0, linkAt { state := .retrain, width := 2 }, by decide +kernel⟩⟩

theorem witness_LinkFlitsComplete :
    (∃ (r : PortRef) (f : Flit) (s : State), (s.nodePort r).link.state = .up ∧ f.lseq = (s.nodePort r).link.rxSeq ∧ f.enc = false ∧ (s.takeLack r f.lack).judgeFlit r f = .good)
    ∧ (∃ (r : PortRef) (f : Flit) (cw : Codewords) (s : State), (s.nodePort r).link.state = .up ∧ (s.takeSeq r f cw).2 = true ∧ f.enc = false ∧ (s.takeSeq r f cw).1.judgeFlit r f = .good)
    ∧ (∃ (r : PortRef) (lseq : Nat) (i : Nat) (f : BareFlit) (s : State), (s.takeBare r f).2 = true ∧ (((s.takeBare r f).1.takeLack r f.lack).nodePort r).link.retryBuf.findIdx? (fun f => f.lseq == lseq) = some i)
    ∧ (∃ (r : PortRef) (f : BareFlit) (s : State), (s.takeBare r f).2 = true)
    ∧ (∃ (r : PortRef) (s : State), (s.nodePort r).link.retryBuf ≠ [])
    ∧ (∃ (r : PortRef) (e : Nat × Flit) (d : List Nat) (s : State), (s.nodePort r).link.state = .up ∧ ((s.queueMessages r).nodePort r).link.control = [] ∧ (s.queueMessages r).chooseFlit r = some (e, d) ∧ ((s.queueMessages r).nodePort r).flow.exchanges = [])
    ∧ (∃ (r : PortRef) (s : State), (s.nodePort r).link.state = .up ∧ ((s.queueMessages r).nodePort r).link.control = [] ∧ (s.queueMessages r).chooseFlit r = none ∧ ((s.queueMessages r).nodePort r).flow.exchanges = [] ∧ ((s.queueMessages r).nodePort r).flow.due.any (0 < ·) = false)
    ∧ (∃ (r : PortRef) (c : Bytes) (rest : List Bytes) (s : State), (s.nodePort r).link.state = .up ∧ ((s.queueMessages r).nodePort r).link.control = c :: rest ∧ ((s.queueMessages r).nodePort r).link.retryBuf.length < windowOf r.node)
    ∧ (∃ (r : PortRef) (e : TsExchange) (s : State), (s.nodePort r).link.state = .up ∧ ((s.queueMessages r).nodePort r).link.control = [] ∧ (s.queueMessages r).chooseFlit r = none ∧ ((s.queueMessages r).nodePort r).link.retryBuf.length < windowOf r.node ∧ ((s.queueMessages r).nodePort r).flow.exchanges.find? (fun e => !e.sent) = some e) :=
  ⟨⟨port0, { kind := .data }, linkAt { state := .up }, by decide +kernel⟩,
    ⟨port0, { kind := .data }, { errors := [3] }, linkAt { state := .up }, by decide +kernel⟩,
    ⟨port0, 4, 0, { lack := 3 }, linkAt { state := .up, retryBuf := [{ lseq := 4 }] }, by decide +kernel⟩,
    ⟨port0, { lack := 3 }, linkAt { state := .up }, by decide +kernel⟩,
    ⟨port0, linkAt { state := .up, retryBuf := [{ lseq := 4 }] }, by decide +kernel⟩,
    ⟨port0, (0, { kind := .data, dst := 0x8000 }), [0, 0, 0, 0, 0, 0], linkAt { state := .up, width := 8, outQueue := [(0, { kind := .data, dst := 0x8000 })] }, by decide +kernel⟩,
    ⟨port0, linkAt { state := .up, width := 8 }, by decide +kernel⟩,
    ⟨port0, [0], [], linkAt { state := .up, width := 8, control := [[0]] }, by decide +kernel⟩,
    ⟨port0, { index := 0, t1 := 0 }, linkAt { state := .up, width := 8 } { exchanges := [{ index := 0, t1 := 0 }] }, by decide +kernel⟩⟩

theorem witness_LinkControlCompletes :
    (∃ (r : PortRef) (f : Flit) (s : State), (s.nodePort r).link.talks = true ∧ f.lseq = (s.nodePort r).link.rxSeq)
    ∧ (∃ (r : PortRef) (f : Flit) (cw : Codewords) (s : State), (s.nodePort r).link.talks = true ∧ (s.takeControl r f cw).2 = true ∧ ((s.takeControl r f cw).1.nodePort r).link.state = .training)
    ∧ (∃ (r : PortRef) (f : Flit) (cw : Codewords) (s : State), (s.nodePort r).link.state = .up ∧ (s.takeControl r f cw).2 = true)
    ∧ (∃ (r : PortRef) (f : Flit) (cw : Codewords) (s : State), (s.nodePort r).link.state = .up ∧ (s.takeControl r f cw).2 = true)
    ∧ (∃ (r : PortRef) (f : Flit) (cw : Codewords) (e : TsExchange) (t2 : Nat) (t4 : Nat) (s : State), (s.nodePort r).link.state = .up ∧ (s.takeControl r f cw).2 = true ∧ ((s.takeControl r f cw).1.nodePort r).flow.exchanges.find? (fun x => x.index == le f.payload 17 1) = some e ∧ e.t2 = some t2 ∧ e.t4 = some t4 ∧ e.t3 = none)
    ∧ (∃ (r : PortRef) (d : Nat) (ds : List Nat) (s : State), (s.nodePort r).link.state = .up ∧ (s.nodePort r).flow.exchanges.all (fun e => e.t3.isSome) = true ∧ (s.nodePort r).flow.delays = d :: ds ∧ (lengthOf (s.nodePort r).link.linkClass (ds.foldl min d)).2 = true)
    ∧ (∃ (r : PortRef) (f : Flit) (cw : Codewords) (s : State), (s.nodePort r).link.state = .up ∧ (s.takeControl r f cw).2 = true ∧ ((s.takeControl r f cw).1.nodePort r).flow.session = none)
    ∧ (∃ (r : PortRef) (s : State), r.node = .agent ∧ 2 ^ 47 ≤ (s.nodePort r).flow.txCount ∧ (s.nodePort r).flow.sessionNear = false) :=
  ⟨⟨port0, { kind := .control }, linkAt { state := .up }, by decide +kernel⟩,
    ⟨port0, { kind := .control }, {}, linkAt { state := .training, step := 7 }, by decide +kernel⟩,
    ⟨port0, { kind := .control }, {}, linkAt { state := .up }, by decide +kernel⟩,
    ⟨port0, { kind := .control }, {}, linkAt { state := .up }, by decide +kernel⟩,
    ⟨port0, { kind := .control }, {}, { index := 0, t1 := 1, t2 := some 2, t4 := some 9 }, 2, 9, linkAt { state := .up } { exchanges := [{ index := 0, t1 := 1, t2 := some 2, t4 := some 9 }] }, by decide +kernel⟩,
    ⟨port0, 4500, [4400], linkAt { state := .up } { delays := [4500, 4400] }, by decide +kernel⟩,
    ⟨port0, { kind := .control }, {}, linkAt { state := .up }, by decide +kernel⟩,
    ⟨agentPort0, agentLinkAt { state := .up } { txCount := 2 ^ 47 }, by decide +kernel⟩⟩

theorem witness_AgentDiscoveryCompletes :
    (∃ (m : Msg) (s : State), taken m false 0 s = true)
    ∧ (∃ (m : Msg) (s : State), taken m false 1 s = true ∧ isGeneel m.src = true ∧ s.agent.core.owner = none ∧ s.agent.core.highToken ≤ m.token)
    ∧ (∃ (m : Msg) (s : State), taken m false 2 s = true ∧ le (m.body.drop 35) 0 1 = 0)
    ∧ (∃ (m : Msg) (s : State), taken m true 3 s = true)
    ∧ (∃ (m : Msg) (k : Bytes) (s : State), taken m true 3 s = true ∧ geneelKey s.agent.core.chain = some k ∧ falconVerify k (field (Config.shake256 (field (m.body.drop 35) 0 1568) 32) 0 32) (field (m.body.drop 35) 1568 1280) = true)
    ∧ (∃ (m : Msg) (k : Bytes) (s : State), taken m false 2 s = true ∧ le (m.body.drop 35) 0 1 ≠ 0 ∧ geneelKey (field s.agent.core.chain 0 3144 ++ field (m.body.drop 35) 36 3144) = some k)
    ∧ (∃ (m : Msg) (s : State), taken m false 0 s = true ∧ (s.portsAsked m).length ≤ 17)
    ∧ (∃ (m : Msg) (s : State), taken m false 0 s = true ∧ le m.content 0 1 ≤ 3 ∧ le m.content 4 1 ≤ 25) :=
  ⟨⟨fromGeneel0 1 (zeros 35), agentIn .claimed, by decide +kernel⟩,
    ⟨fromGeneel0 1 (zeros 34 ++ [1, 3]), { State.reset with agent := { State.reset.agent with core := { State.reset.agent.core with state := .unclaimed } } }, by decide +kernel⟩,
    ⟨fromGeneel0 1 (zeros 34 ++ [2, 0]), agentIn .claimed, by decide +kernel⟩,
    ⟨fromGeneel0 1 (zeros 35), agentIn .claimed, by decide +kernel⟩,
    ⟨fromGeneel0 1 sessionBody, field [2] 0 1793, { agentIn .claimed with agent := { (agentIn .claimed).agent with core := { (agentIn .claimed).agent.core with chain := geneelChain } } }, by decide +kernel, geneelKey_certOf 1 1 [1] [2], sessionBody_good⟩,
    ⟨fromGeneel0 1 chainBody, field [2] 0 1793, { agentIn .claimed with agent := { (agentIn .claimed).agent with core := { (agentIn .claimed).agent.core with chain := certOf 1 1 rootKey [1] } } }, by decide +kernel, by decide +kernel, chainBody_good⟩,
    ⟨fromGeneel0 3 [1, 2], agentIn .serving, by decide +kernel⟩,
    ⟨fromGeneel0 6 [0, 0, 0, 0, 2, 0, 0, 0], agentIn .serving, by decide +kernel⟩⟩

theorem witness_AgentCommitsComplete :
    (∃ (m : Msg) (s : State), taken m true 0 s = true ∧ le m.content 0 1 = 0 ∧ le m.content 1 1 ≤ 1 ∧ le m.content 2 1 ≤ 1 ∧ le m.content 3 1 ≤ 16 ∧ (writeEntries m.content).any (fun e => decide (tableSize 0 ≤ e.1)) = false ∧ ((takenBy m true s).agent.work.bank (le m.content 1 1)).state = .free)
    ∧ (∃ (m : Msg) (s : State), taken m true 0 s = true ∧ le m.content 1 1 ≤ 1 ∧ (takenBy m true s).timedTick (le m.content 4 6) 4 = none ∧ (takenBy m true s).agent.work.pendingBank (le m.content 1 1) = false ∧ ((takenBy m true s).agent.work.bank (le m.content 1 1)).state = .free ∧ (takenBy m true s).agent.work.timed.any (fun x => x.tick == le m.content 4 6 && (match x.act with
        | .activate _ _ => true
        | _ => false)) = false ∧ le m.content 12 4 = crc32 (bankStream ((takenBy m true s).agent.work.bank (le m.content 1 1)) ((takenBy m true s).agent.core.kind == 2)))
    ∧ (∃ (m : Msg) (s : State), taken m true 0 s = true ∧ le m.content 1 1 ≤ 1 ∧ (takenBy m true s).timedTick (le m.content 4 6) 4 = none ∧ (takenBy m true s).agent.work.pendingBank (le m.content 1 1) = false ∧ ((takenBy m true s).agent.work.bank (le m.content 1 1)).state = .old)
    ∧ (∃ (m : Msg) (d : DeltaSet) (s : State), taken m true 0 s = true ∧ (takenBy m true s).timedTick (le m.content 4 6) 4 = none ∧ (takenBy m true s).agent.work.bankS.find? (fun d => d.failureId == le m.content 10 2 && !d.stale) = some d ∧ some d.epochTag = (takenBy m true s).agent.work.active.map (fun k => ((takenBy m true s).agent.work.bank k).epoch))
    ∧ (∃ (m : Msg) (s : State), taken m true 0 s = true ∧ (takenBy m true s).timedTick (le m.content 4 6) 4 = none)
    ∧ (∃ (m : Msg) (s : State), taken m true 0 s = true ∧ (takenBy m true s).agent.core.kind = 1 ∧ (takenBy m true s).timedTick (le m.content 4 6) 4 = none ∧ le m.content 12 4 = crc32 (targetStream (takenBy m true s).agent.work.targetStandby)) :=
  ⟨⟨fromGeneel0 4 (zeros 16), agentIn .serving, by decide +kernel⟩,
    ⟨fromGeneel0 5 ([0, 0, 1, 0] ++ toLe 6 9 ++ zeros 2 ++ toLe 4 (crc32 (bankStream {} false))), agentIn .serving 1, by decide +kernel, by decide +kernel, by decide +kernel, by decide +kernel, by decide +kernel, by decide +kernel, crc_bank ([0, 0, 1, 0] ++ toLe 6 9 ++ zeros 2) _ _ (by decide +kernel) (by decide +kernel) (by decide)⟩,
    ⟨fromGeneel0 5 ([1, 0, 0, 0] ++ toLe 6 9), agentIn .serving 2 { bankA := { state := .old } }, by decide +kernel⟩,
    ⟨fromGeneel0 5 ([2, 0, 0, 0] ++ toLe 6 9 ++ [7, 0]), { failureId := 7, epochTag := 1, entries := [] }, agentIn .serving 2 { bankA := { state := .active, epoch := 1 }, bankS := [{ failureId := 7, epochTag := 1, entries := [] }] }, by decide +kernel⟩,
    ⟨fromGeneel0 5 ([3, 0, 0, 0] ++ toLe 6 9), agentIn .serving, by decide +kernel⟩,
    ⟨fromGeneel0 5 ([4, 0, 0, 0] ++ toLe 6 9 ++ zeros 2 ++ toLe 4 (crc32 (targetStream []))), agentIn .serving 1, by decide +kernel, by decide +kernel, by decide +kernel, crc_body ([4, 0, 0, 0] ++ toLe 6 9 ++ zeros 2) (targetStream []) (by decide)⟩⟩

theorem witness_AgentWorkCompletes :
    (∃ (m : Msg) (s : State), taken m true 0 s = true ∧ le m.content 0 1 = 0 ∧ ((((takenBy m true s).agent.work.otherTrees (treeOf m.content) (max (takenBy m true s).agent.core.tick (treeOf m.content).effTick)).map
        TreeEntry.reservation).foldl (· + ·) 0 + (treeOf m.content).reservation ≤ (takenBy m true s).agent.work.store) ∧ ((takenBy m true s).agent.work.otherTrees (treeOf m.content) (max (takenBy m true s).agent.core.tick (treeOf m.content).effTick)).length < (takenBy m true s).agent.work.treeCap)
    ∧ (∃ (m : Msg) (s : State), taken m true 0 s = true ∧ (takenBy m true s).agent.core.kind = 1 ∧ le m.content 10 1 ≤ 12 ∧ (takenBy m true s).agent.work.cards = [])
    ∧ (∃ (m : Msg) (a : Nat) (key : Bytes) (s : State), taken m true 0 s = true ∧ s.agent.core.sessionKey = some (a, key) ∧ key ≠ [] ∧ le m.content 2 1 ≤ 1 ∧ le m.content 3 1 ≤ 1 ∧ s.agent.work.tx (le m.content 0 2) (le m.content 2 1) = none)
    ∧ (∃ (m : Msg) (a : Nat) (key : Bytes) (s : State), taken m true 0 s = true ∧ s.agent.core.sessionKey = some (a, key) ∧ key ≠ [] ∧ le m.content 2 1 ≤ 1 ∧ le m.content 3 1 ≤ 1 ∧ s.agent.work.tx (le m.content 0 2) (le m.content 2 1) = none ∧ field m.content 40 16 = field (Config.gcmTag key (keyNonce m) (field m.content 0 8) (field (Config.gcmDecrypt key (keyNonce m) (field m.content 8 32)) 0 32)) 0 16)
    ∧ (∃ (m : Msg) (s : State), taken m true 0 s = true ∧ (takenBy m true s).timedTick (le m.content 6 6) 6 = none ∧ le m.content 2 1 ≤ 1 ∧ le m.content 3 1 ≤ 1)
    ∧ (∃ (m : Msg) (s : State), taken m true 0 s = true ∧ (takenBy m true s).timedTick (le m.content 6 6) 6 = none ∧ (takenBy m true s).agent.work.txAt (le m.content 0 2) (le m.content 2 1) (le m.content 6 6) ≠ some (le m.content 3 1) ∧ (takenBy m true s).slotBusy (le m.content 0 2) (le m.content 3 1) = false ∧ le m.content 2 1 ≤ 1 ∧ le m.content 3 1 ≤ 1)
    ∧ (∃ (m : Msg) (s : State), taken m true 0 s = true ∧ le m.content 0 1 ≤ 5 ∧ ((takenBy m true s).agent.work.grants.filter (fun x => !(x.action == le m.content 4 4 && x.kind == le m.content 0 1))).length < 64)
    ∧ (∃ (m : Msg) (g : AgentGrant) (s : State), taken m true 0 s = true ∧ (takenBy m true s).grantReleased (le m.content 0 4) = some g ∧ (takenBy m true s).timedTick (le m.content 4 6) 4 = none)
    ∧ (∃ (m : Msg) (a : Nat) (key : Bytes) (s : State), taken m true 0 s = true ∧ s.agent.core.sessionKey = some (a, key) ∧ key ≠ [] ∧ le m.content 8 6 = 0 ∧ ((takenBy m true s).agentPort (le m.content 0 1)).link.state = .up ∧ ((takenBy m true s).agentPort (le m.content 0 1)).flow.sessionsUsed.contains (le m.content 2 3) = false)
    ∧ (∃ (m : Msg) (a : Nat) (key : Bytes) (s : State), taken m true 0 s = true ∧ s.agent.core.sessionKey = some (a, key) ∧ key ≠ [] ∧ le m.content 8 6 = 0 ∧ ((takenBy m true s).agentPort (le m.content 0 1)).link.state = .up ∧ ((takenBy m true s).agentPort (le m.content 0 1)).flow.sessionsUsed.contains (le m.content 2 3) = false ∧ field m.content 16 16 = field (Config.gcmTag key (keyNonce m) (field m.content 0 16) []) 0 16) :=
  ⟨⟨fromGeneel0 7 (zeros 64), agentIn .serving, by decide +kernel⟩,
    ⟨fromGeneel0 8 (zeros 16), agentIn .serving 1, by decide +kernel⟩,
    ⟨fromGeneel0 9 (zeros 56), 0xF000, [1], { agentIn .serving with agent := { (agentIn .serving).agent with core := { (agentIn .serving).agent.core with sessionKey := some (0xF000, [1]) } } }, by decide +kernel⟩,
    ⟨fromGeneel0 9 wrapped1, 0xF000, [1], { agentIn .serving with agent := { (agentIn .serving).agent with core := { (agentIn .serving).agent.core with sessionKey := some (0xF000, [1]) } } }, by decide +kernel, rfl, by decide, by decide +kernel, by decide +kernel, by decide +kernel, wrapped1_good⟩,
    ⟨fromGeneel0 10 (zeros 6 ++ toLe 6 9), agentIn .serving, by decide +kernel⟩,
    ⟨fromGeneel0 11 ([0, 0, 0, 1, 0, 0] ++ toLe 6 9), agentIn .serving, by decide +kernel⟩,
    ⟨fromGeneel0 12 (zeros 18), agentIn .serving, by decide +kernel⟩,
    ⟨fromGeneel0 13 (toLe 4 3 ++ toLe 6 9), { kind := 1, job := 1, action := 3, offset := 0, step := 10, expiry := 99, used := 5 }, agentIn .serving 1 { grants := [{ kind := 1, job := 1, action := 3, offset := 0, step := 10, expiry := 99, used := 5 }] }, by decide +kernel⟩,
    ⟨fromGeneel0 17 (zeros 32), 0xF000, [1], { agentIn .serving with agent := { (agentIn .serving).agent with
      core := { (agentIn .serving).agent.core with sessionKey := some (0xF000, [1]) }, ports := [(0, { link := { state := .up } })] } }, by decide +kernel⟩,
    ⟨fromGeneel0 17 tagged1, 0xF000, [1], { agentIn .serving with agent := { (agentIn .serving).agent with
      core := { (agentIn .serving).agent.core with sessionKey := some (0xF000, [1]) }, ports := [(0, { link := { state := .up } })] } }, by decide +kernel, rfl, by decide, by decide +kernel, by decide +kernel, by decide +kernel, tagged1_good⟩⟩

theorem witness_AgentEventsComplete :
    (∃ (m : Msg) (s : State), (s.agent.core.state = .serving ∨ s.agent.core.state = .quiesced) ∧ s.agent.core.tick < le m.content 0 6)
    ∧ (∃ (m : Msg) (s : State), (s.agent.core.state = .serving ∨ s.agent.core.state = .quiesced) ∧ s.agent.core.marked = true ∧ s.agent.core.flywheel = 0 ∧ le m.content 0 6 = s.agent.core.tick ∧ le m.content 7 1 < s.agent.core.master)
    ∧ (∃ (s : State), s.agent.core.marked = true ∧ s.agent.core.state ≠ .reset ∧ s.agent.core.flywheel < 16)
    ∧ (∃ (s : State), 16 ≤ s.agent.core.flywheel ∧ s.agent.core.state = .serving)
    ∧ (∃ (inPort : Nat) (f : Flit) (rest : List Flit) (s : State), (s.nodePort { node := .agent, port := inPort }).link.inputBuf = f :: rest ∧ s.agent.core.state ≠ .reset ∧ f.dst = 0xFFFF ∧ f.vc = 0 ∧ le f.payload 17 1 < le f.payload 16 1)
    ∧ (∃ (s : State), s.agent.core.state ≠ .reset ∧ s.agent.work.active.isSome = true)
    ∧ (∃ (kind : Nat) (action : Nat) (g : AgentGrant) (s : State), s.agent.core.kind = 1 ∧ s.agent.core.state = .serving ∧ s.grantOf kind action = some g ∧ g.cold = false) :=
  ⟨⟨fromGeneel0 16 (toLe 6 6 ++ zeros 18), agentIn .serving 1, by decide +kernel⟩,
    ⟨fromGeneel0 16 (toLe 6 5 ++ [16, 1] ++ zeros 16), { agentIn .serving with agent := { (agentIn .serving).agent with core := { (agentIn .serving).agent.core with master := 3 } } }, by decide +kernel⟩,
    ⟨agentIn .serving, by decide +kernel⟩,
    ⟨{ agentIn .serving with agent := { (agentIn .serving).agent with core := { (agentIn .serving).agent.core with flywheel := 16 } } }, by decide +kernel⟩,
    ⟨0, { kind := .data, dst := 0xFFFF, payload := zeros 16 ++ [1, 0, 2] }, [], { agentIn .claimed with agent := { (agentIn .claimed).agent with
      ports := [(0, { link := { state := .up, inputBuf := [{ kind := .data, dst := 0xFFFF, payload := zeros 16 ++ [1, 0, 2] }] } })] } }, by decide +kernel⟩,
    ⟨agentIn .serving 2 { bankA := { state := .active } }, by decide +kernel⟩,
    ⟨1, 3, { kind := 1, job := 1, action := 3, offset := 0, step := 10, expiry := 99, used := 5 }, agentIn .serving 1 { grants := [{ kind := 1, job := 1, action := 3, offset := 0, step := 10, expiry := 99, used := 5 }] }, by decide +kernel⟩⟩

theorem witness_DiscoveryEventsComplete :
    (∃ (m : Msg) (w : Waiting) (s : State), s.mail.waiting.find? (fun w => w.msg.msgid == m.msgid) = some w ∧ w.kind = Purpose.identify.code ∧ s.fabric.walk.probes.any (fun p => p.msgid == m.msgid) = true)
    ∧ (∃ (m : Msg) (n : TopoNode) (s : State), s.ownSection.node m.src = some n)
    ∧ (∃ (s : State), s.fabric.walk.running = true ∧ s.fabric.walk.stage = 1 ∧ s.isPrimary = true)
    ∧ (∃ (s : State), s.fabric.walk.running = true ∧ s.fabric.walk.stage = 2 ∧ s.fabric.walk.awaits = [] ∧ s.fabric.walk.since + 4 ≤ s.clock.now ∧ s.isPrimary = true)
    ∧ (∃ (src : Nat) (d : SectionDelta) (s : State), s.senderMay src 2 = true ∧ d.bolt ≠ s.up.bolt)
    ∧ (∃ (src : Nat) (serials : List Nat) (s : State), s.senderMay src 2 = true ∧ s.isPrimary = true ∧ (s.ownSection.nodes.filter (fun n => serials.contains n.serial)).any (fun n => (s.sliceOfLen n.addr).isSome) = false)
    ∧ (∃ (src : Nat) (id : Nat) (s : State), s.senderMay src 2 = true ∧ s.fabric.walk.running = true ∧ s.fabric.walk.releasing.contains ((src - 0xF000) / 2) = true ∧ s.fabric.walk.cmd = some id)
    ∧ (∃ (src : Nat) (s : State), s.senderMay src 2 = true ∧ s.fabric.walk.running = true ∧ s.fabric.walk.releasing.contains ((src - 0xF000) / 2) = true) :=
  ⟨⟨{ toGeneel0 1 (zeros 40) with msgid := 4 }, { msg := { toGeneel0 1 [] with msgid := 4 }, sentAt := 0, purpose := Purpose.identify.code }, { primary0 with
      mail := { primary0.mail with waiting := [{ msg := { toGeneel0 1 [] with msgid := 4 }, sentAt := 0, purpose := Purpose.identify.code }] }
      fabric := { primary0.fabric with walk := { probes := [{ path := [1], parent := 0, msgid := 4 }] } } }, by decide +kernel⟩,
    ⟨{ toGeneel0 3 [] with src := 0x8000 }, { serial := 5, addr := 0x8000, kind := 2 }, { primary0 with fabric := { primary0.fabric with sections := [{ bolt := 0, nodes := [{ serial := 5, addr := 0x8000, kind := 2 }] }] } }, by decide +kernel⟩,
    ⟨{ primary0 with fabric := { primary0.fabric with walk := { running := true, stage := 1 } } }, by decide +kernel⟩,
    ⟨{ primary0 with clock := { primary0.clock with now := 4 }, fabric := { primary0.fabric with walk := { running := true, stage := 2 } } }, by decide +kernel⟩,
    ⟨0xF000, { bolt := 1, gen := 1 }, primary0, by decide +kernel⟩,
    ⟨0xF000, [5], primary0, by decide +kernel⟩,
    ⟨0xF000, 9, { primary0 with fabric := { primary0.fabric with walk := { running := true, releasing := [0], cmd := some 9 } } }, by decide +kernel⟩,
    ⟨0xF000, { primary0 with fabric := { primary0.fabric with walk := { running := true, releasing := [0] } } }, by decide +kernel⟩⟩

theorem witness_SolveMessagesComplete :
    (∃ (m : Msg) (s : State), s.senderMay m.src 3 = true ∧ s.coordinator = s.ownAddr ∧ m.flags % 2 = 0 ∧ (s.gotRequest (decodeParams m.body) m.src m.msgid).2 = true)
    ∧ (∃ (m : Msg) (s : State), s.senderMay m.src 3 = true ∧ s.coordinator = s.ownAddr ∧ m.flags % 2 = 0 ∧ 64 ≤ s.fabric.queue.length)
    ∧ (∃ (s : State), s.coordinator = s.ownAddr)
    ∧ (∃ (m : Msg) (s : State), s.senderMay m.src 3 = true ∧ s.fabric.solve = none ∧ s.fabric.repeating = none)
    ∧ (∃ (m : Msg) (w : Solve) (s : State), s.senderMay m.src 3 = true ∧ s.fabric.solve = some w ∧ w.params = decodeParams (m.body.drop 12))
    ∧ (∃ (m : Msg) (s : State), s.senderMay m.src 3 = true ∧ (s.fabric.solve.map Solve.id) = some (le m.body 0 4))
    ∧ (∃ (m : Msg) (s : State), s.senderMay m.src 3 = true ∧ (s.fabric.solve.map Solve.id) = some (le m.body 0 4))
    ∧ (∃ (m : Msg) (v : Solve) (s : State), s.senderMay m.src 3 = true ∧ s.fabric.solve = some v ∧ v.id = le m.body 0 4 ∧ v.begun = true ∧ ((v.shares.find? (fun e => e.1 == (solverOf v.dests.length v.tileList (le m.body 8 3 / 64)).getD 0)).map Prod.snd).getD
        ((solverOf v.dests.length v.tileList (le m.body 8 3 / 64)).getD 0) = le m.body 4 1)
    ∧ (∃ (share : Nat) (v : Solve) (s : State), s.fabric.solve = some v ∧ v.reported = false ∧ v.begun = true ∧ v.startAt + s.shareTicks v share + 176 ≤ s.clock.now ∧ (v.boltNodes s.up.bolt).any (fun n => ((((splitShares v.dests.length v.tileList).filter (fun e => e.1 == share)).flatMap
        (fun e => (List.range (64 * (e.2.2 - e.2.1))).map (fun i => 64 * e.2.1 + i))).filterMap (fun i => v.dests[i]?)).any (fun d =>
          !(v.image.any (fun e => e.1 == n.addr && e.2.1 == d)))) = true)
    ∧ (∃ (m : Msg) (v : Solve) (s : State), s.senderMay m.src 3 = true ∧ s.fabric.solve = some v ∧ v.id = le m.body 0 4)
    ∧ (∃ (m : Msg) (s : State), s.senderMay m.src 3 = true ∧ (s.fabric.solve.map Solve.id) = some (le m.body 0 4))
    ∧ (∃ (m : Msg) (v : Solve) (s : State), s.senderMay m.src 3 = true ∧ s.fabric.solve = some v ∧ v.id = le m.body 0 4 ∧ le m.body 4 1 = 1 ∧ v.epochRepeat = false)
    ∧ (∃ (m : Msg) (v : Solve) (s : State), s.senderMay m.src 3 = true ∧ s.fabric.solve = some v ∧ v.id = le m.body 0 4 ∧ le m.body 4 1 = 2) :=
  ⟨⟨toGeneel0 0x40 [], primary0, by decide +kernel⟩,
    ⟨toGeneel0 0x40 [], { primary0 with fabric := { primary0.fabric with queue := List.replicate 64 { params := decodeParams [], from_ := [(0xF002, 0)] }, solve := some solve7 } }, by decide +kernel⟩,
    ⟨primary0, by decide +kernel⟩,
    ⟨toGeneel0 0x41 [], primary0, by decide +kernel⟩,
    ⟨toGeneel0 0x41 [], solve7, solving solve7, by decide +kernel⟩,
    ⟨toGeneel0 0x42 (toLe 4 7), solving solve7, by decide +kernel⟩,
    ⟨toGeneel0 0x43 (toLe 4 7), solving solve7, by decide +kernel⟩,
    ⟨toGeneel0 0x44 (toLe 4 7), { solve7 with begun := true }, solving { solve7 with begun := true }, by decide +kernel⟩,
    ⟨0, { solve7 with begun := true, tiles := [1], nodes := [{ addr := 0x8000, bolt := 0, kind := 2, tier := 0, ver := 3, ok := true }], dests := List.replicate 64 0x8000 }, { solving { solve7 with
      begun := true, tiles := [1], nodes := [{ addr := 0x8000, bolt := 0, kind := 2, tier := 0, ver := 3, ok := true }], dests := List.replicate 64 0x8000 } with clock := { State.reset.clock with now := 200 } }, by decide +kernel⟩,
    ⟨toGeneel0 0x45 (toLe 4 7), solve7, solving solve7, by decide +kernel⟩,
    ⟨toGeneel0 0x46 (toLe 4 7), solving solve7, by decide +kernel⟩,
    ⟨toGeneel0 0x47 (toLe 4 7 ++ [1]), solve7, solving solve7, by decide +kernel⟩,
    ⟨toGeneel0 0x47 (toLe 4 7 ++ [2]), solve7, solving solve7, by decide +kernel⟩⟩

theorem witness_EpochMessagesComplete :
    (∃ (m : Msg) (s : State), s.senderMay m.src 3 = true ∧ s.isPrimary = true ∧ s.fabric.epoch.state ≠ .draining)
    ∧ (∃ (m : Msg) (s : State), s.senderMay m.src 3 = true ∧ s.isPrimary = true ∧ s.fabric.epoch.state = .draining)
    ∧ (∃ (m : Msg) (s : State), s.senderMay m.src 3 = true ∧ s.fabric.epoch.stagedId = le m.body 0 4 ∧ s.fabric.epoch.state = .staging)
    ∧ (∃ (m : Msg) (s : State), s.senderMay m.src 3 = true ∧ ¬(s.fabric.epoch.stagedId = le m.body 0 4 ∧ s.fabric.epoch.state = .staging))
    ∧ (∃ (m : Msg) (s : State), s.senderMay m.src 3 = true ∧ s.isPrimary = true)
    ∧ (∃ (m : Msg) (s : State), s.senderMay m.src 3 = true) :=
  ⟨⟨toGeneel0 0x48 [], primary0, by decide +kernel⟩,
    ⟨toGeneel0 0x48 [], { primary0 with fabric := { primary0.fabric with epoch := { state := .draining } } }, by decide +kernel⟩,
    ⟨toGeneel0 0x49 (toLe 4 7), { primary0 with fabric := { primary0.fabric with epoch := { stagedId := 7, state := .staging } } }, by decide +kernel⟩,
    ⟨toGeneel0 0x49 (toLe 4 7), primary0, by decide +kernel⟩,
    ⟨toGeneel0 0x4A [], primary0, by decide +kernel⟩,
    ⟨toGeneel0 0x4B [], primary0, by decide +kernel⟩⟩

theorem witness_PowerEventsComplete :
    (∃ (kind : Nat) (idx : Nat) (c : Cmd) (s : State), s.unitStatus kind idx = .draining ∧ s.unitWork kind idx = 0 ∧ (s.unitOff kind idx).unitCmd 0x0904 kind idx = some c)
    ∧ (∃ (kind : Nat) (idx : Nat) (u : UnitRec) (c : Cmd) (s : State), s.unitRec kind idx = some u ∧ s.unitCmd 0x0904 kind idx = some c ∧ u.status = .draining ∧ c.since + 3750000 ≤ s.clock.now)
    ∧ (∃ (p : Nat) (t : Nat) (s : State), s.power.change = some (p, t) ∧ t + s.switchTicks ≤ s.clock.now ∧ s.power.droop = false ∧ s.power.guardNext = none)
    ∧ (∃ (s : State), s.up.dev ≠ .stage2)
    ∧ (∃ (s : State), s.power.refsLost = false)
    ∧ (∃ (addr : Nat) (h : Nat) (s : State), s.shelfOf addr = some h)
    ∧ (∃ (addr : Nat) (kind : Nat) (action : Nat) (e : Nat) (g : Grant) (s : State), s.power.grants.find? (fun g => g.addr == addr && g.kind == kind && g.action == action) = some g ∧ g.standing = true ∧ g.expiry = some e ∧ e ≤ s.clock.now + 16 ∧ s.clock.now < e) :=
  ⟨⟨1, 0, drainCmd, draining0, by decide +kernel⟩,
    ⟨1, 0, unitIn 1 0 .draining, drainCmd, draining0, by decide +kernel⟩,
    ⟨2, 0, powered { change := some (2, 0) } 1000000, by decide +kernel⟩,
    ⟨primary0, by decide +kernel⟩,
    ⟨primary0, by decide +kernel⟩,
    ⟨0x8000, 3, { primary0 with fabric := { primary0.fabric with sections := [{ bolt := 0, nodes := [{ addr := 0x8000, serial := 5, kind := 1, shelf := 3 }] }] } }, by decide +kernel⟩,
    ⟨0x8000, 1, 3, 20, warmGrant, powered { grants := [warmGrant] } 10, by decide +kernel⟩⟩

theorem witness_ThermalEventsComplete :
    (∃ (temps : List Int) (bad : List Nat) (t : State) (s : State), bad = ((temps.take 48).zipIdx.filter (fun x => (x.1 < -200 || 1500 < x.1) && !(s.unitStatus 15 x.2).lost)).map Prod.snd ∧ t = bad.foldl (fun v i => v.fault { source := unitSource 15 i, code := 0x10 }) { s with power := { s.power with temps := temps.take 48 } })
    ∧ (∃ (s : State), s.sensors.any (fun x => decide (1050 ≤ x.2)) = true ∧ s.power.heatAt = none ∧ min s.power.op (s.power.heatCap.getD 3) ≠ 0)
    ∧ (∃ (s : State), s.sensors.any (fun x => decide (1050 ≤ x.2)) = true ∧ s.power.heatAt = none ∧ min s.power.op (s.power.heatCap.getD 3) = 0)
    ∧ (∃ (t : Nat) (c : Nat) (s : State), s.power.coolSince = some t ∧ t + 6250 ≤ s.clock.now ∧ s.power.halved = false ∧ s.power.heatCap = some c)
    ∧ (∃ (t : Nat) (s : State), s.power.coolSince = some t ∧ t + 6250 ≤ s.clock.now ∧ s.power.halved = true)
    ∧ (∃ (average : Nat), 8350 < average)
    ∧ (∃ (average : Nat) (t : Nat) (c : Nat) (s : State), s.power.tdpLow = some t ∧ s.power.tdpCap = some c ∧ average < 8000 ∧ t + 6250 ≤ s.clock.now)
    ∧ (∃ (s : State), s.faults.opsecStored + 64 ≤ s.faults.opsec) :=
  ⟨⟨[], [], { primary0 with power := { primary0.power with temps := [] } }, primary0, rfl, rfl⟩,
    ⟨powered { op := 2, temps := [1050] }, by decide +kernel⟩,
    ⟨powered { op := 0, temps := [1050] }, by decide +kernel⟩,
    ⟨0, 1, powered { coolSince := some 0, heatCap := some 1 } 6250, by decide +kernel⟩,
    ⟨0, powered { coolSince := some 0, halved := true } 6250, by decide +kernel⟩,
    ⟨8351, by decide +kernel⟩,
    ⟨100, 0, 1, powered { tdpLow := some 0, tdpCap := some 1 } 6250, by decide +kernel⟩,
    ⟨{ primary0 with faults := { primary0.faults with opsec := 64 } }, by decide +kernel⟩⟩

theorem witness_FaultEventsComplete :
    (∃ (s : State), s.up.dev ≠ .off ∧ s.up.dev ≠ .halt)
    ∧ (∃ (kind : Nat) (idx : Nat) (s : State), s.up.dev ≠ .off ∧ s.up.dev ≠ .halt ∧ idx < unitCount kind ∧ s.unitGood kind idx = true)
    ∧ (∃ (kind : Nat) (idx : Nat) (u : UnitRec) (s : State), s.unitRec kind idx = some u ∧ u.status = .fencing)
    ∧ (∃ (s : State), s.up.dev = .fault ∧ s.faults.latched = false ∧ s.faults.releasedAt = none ∧ s.faultEnd ≤ s.clock.now)
    ∧ (∃ (s : State), s.faults.blockFull = true ∧ s.faults.spillRetry = none ∧ s.up.dev ≠ .off ∧ s.faults.blockNewest + 62500 ≤ s.clock.now)
    ∧ (∃ (t : Nat) (s : State), s.faults.spillRetry = some t ∧ t + 62500 ≤ s.clock.now ∧ s.faults.blockFull = true) :=
  ⟨⟨primary0, by decide +kernel⟩,
    ⟨1, 0, primary0, by decide +kernel⟩,
    ⟨1, 0, unitIn 1 0 .fencing, { primary0 with faults := { primary0.faults with units := [unitIn 1 0 .fencing] } }, by decide +kernel⟩,
    ⟨{ primary0 with up := { primary0.up with dev := .fault }, clock := { primary0.clock with now := 100000000 } }, by decide +kernel⟩,
    ⟨spilling, by decide +kernel⟩,
    ⟨0, { spilling with faults := { spilling.faults with spillRetry := some 0 } }, by decide +kernel⟩⟩

theorem witness_MeterBusCompletes :
    (∃ (s : State), s.buckram.works = true)
    ∧ (∃ (frame : Bytes) (s : State), s.buckram.works = true ∧ crc16 (field frame 0 6) = le frame 6 2 ∧ le frame 0 1 = s.buckram.cycles % 256)
    ∧ (∃ (frame : Bytes) (s : State), s.buckram.works = true ∧ crc32 (field frame 0 28) = le frame 28 4 ∧ le frame 0 2 = s.buckram.cycles % 65536 ∧ le frame 2 1 = s.buckram.cycles % 65536 % 96)
    ∧ (∃ (s : State), s.buckram.works = true)
    ∧ (∃ (s : State), s.buckram.works = true)
    ∧ (∃ (s : State), s.buckram.works = true ∧ s.buckram.openAt + 64000000 ≤ s.buckram.time)
    ∧ (∃ (w : ClosedWindow) (s : State), s.buckram.closed = some w ∧ s.buckram.works = true ∧ w.at_ + 5000 ≤ s.buckram.time)
    ∧ (∃ (s : State), s.buckram.state ≠ 3 ∧ ((((s.sealBatch true).setMtrState 3).fault { source := unitSource 3 0, code := 3 }).setUnit { kind := 3, index := 0, status := .fenced, code := 3, tick := s.tickNow, since := s.clock.now }).buckram.paramCmd = none) :=
  ⟨⟨metered { state := 1 }, by decide +kernel⟩,
    ⟨zeros 6 ++ toLe 2 (crc16 (zeros 6)), metered { state := 1 }, by decide +kernel⟩,
    ⟨zeros 28 ++ toLe 4 (crc32 (zeros 28)), metered { state := 1 }, by decide +kernel⟩,
    ⟨metered { state := 1 }, by decide +kernel⟩,
    ⟨metered { state := 1 }, by decide +kernel⟩,
    ⟨metered { state := 1, cycles := 64000 }, by decide +kernel⟩,
    ⟨{ at_ := 0, seconds := 1, shelves := [], charges := {} }, metered { state := 1, cycles := 5, closed := some { at_ := 0, seconds := 1, shelves := [], charges := {} } }, by decide +kernel⟩,
    ⟨metered { state := 1 }, by decide +kernel⟩⟩

theorem witness_MailboxCompletes :
    (∃ (b : Buckram) (m : Bytes) (s : State), s.buckram.works = true ∧ s.buckram.take 1 = some (b, m))
    ∧ (∃ (b : Buckram) (m : Bytes) (s : State), s.buckram.works = true ∧ s.buckram.take 2 = some (b, m))
    ∧ (∃ (b : Buckram) (m : Bytes) (s : State), s.buckram.works = true ∧ s.buckram.take 3 = some (b, m) ∧ le m 2 1 = 0 ∧ le m 3 1 = 1)
    ∧ (∃ (b : Buckram) (m : Bytes) (s : State), s.buckram.works = true ∧ s.buckram.take 5 = some (b, m))
    ∧ (∃ (b : Buckram) (m : Bytes) (a : Bytes) (s : State), s.buckram.take 4 = some (b, m) ∧ s.buckram.works = true ∧ b.answer (le m 2 1) (le m 4 8) (le m 12 2) (le m 14 2) = some a ∧ le m 2 1 ≠ 1)
    ∧ (∃ (q : MtrQuery) (rest : List MtrQuery) (s : State), s.buckram.queries = q :: rest ∧ q.answered = true ∧ s.buckram.respSeq = q.seq ∧ s.buckram.resp ≠ [] ∧ s.buckram.respTotal ≤ (q.got ++ s.buckram.resp).length)
    ∧ (∃ (q : MtrQuery) (rest : List MtrQuery) (s : State), s.buckram.queries = q :: rest ∧ q.answered = true ∧ s.buckram.respSeq = q.seq ∧ s.buckram.resp = [] ∧ s.buckram.respTotal = 0)
    ∧ (∃ (q : MtrQuery) (rest : List MtrQuery) (s : State), s.buckram.queries = q :: rest ∧ q.answered = false ∧ q.sentAt + 64 ≤ s.clock.now) :=
  ⟨⟨mboxTaken 1 ([]), mboxMsg 1 ([]), metered { state := 1, mbox := [mboxMsg 1 ([])] }, by decide +kernel⟩,
    ⟨mboxTaken 2 ([]), mboxMsg 2 ([]), metered { state := 1, mbox := [mboxMsg 2 ([])] }, by decide +kernel⟩,
    ⟨mboxTaken 3 ([0, 1]), mboxMsg 3 ([0, 1]), metered { state := 1, mbox := [mboxMsg 3 ([0, 1])] }, by decide +kernel⟩,
    ⟨mboxTaken 5 ([]), mboxMsg 5 ([]), metered { state := 1, mbox := [mboxMsg 5 ([])] }, by decide +kernel⟩,
    ⟨mboxTaken 4 [2], mboxMsg 4 [2], [], metered { state := 1, mbox := [mboxMsg 4 [2]] }, by decide +kernel⟩,
    ⟨{ cmd := 1, kind := 1, first := 0, count := 1, job := 0, answered := true }, [], metered { state := 1, queries := [{ cmd := 1, kind := 1, first := 0, count := 1, job := 0, answered := true }], resp := [7], respTotal := 1 }, by decide +kernel⟩,
    ⟨{ cmd := 1, kind := 1, first := 0, count := 1, job := 0, answered := true }, [], metered { state := 1, queries := [{ cmd := 1, kind := 1, first := 0, count := 1, job := 0, answered := true }] }, by decide +kernel⟩,
    ⟨{ cmd := 1, kind := 1, first := 0, count := 1, job := 0 }, [], { metered { state := 1, queries := [{ cmd := 1, kind := 1, first := 0, count := 1, job := 0 }] } with clock := { State.reset.clock with now := 64 } }, by decide +kernel⟩⟩

theorem witness_ExchangePlanningCompletes :
    (∃ (f : Flit) (s : State), s.jacquard.plans.find? (fun p => p.countStream == f.stream && !p.opening) = none)
    ∧ (∃ (f : Flit) (p : Plan) (s : State), s.jacquard.plans.find? (fun p => p.countStream == f.stream && !p.opening) = some p ∧ s.plan p.id = some p ∧ p.cur.state = 1 ∧ (xchgHeader f).kind = 2 ∧ (xchgHeader f).rank < p.n ∧ (xchgHeader f).num = p.cur.num % 256 ∧ s.countStore + 8 * (xchgRecords f (s.delta p.job)).length ≤ 2 ^ 30 ∧ countsGood p.n (((p.cur.counts.filter (fun c => c.1 == (xchgHeader f).rank)).getLast?).map (fun c => c.2.1)) (xchgRecords f (s.delta p.job)) = true)
    ∧ (∃ (plan : Nat) (p : Plan) (s : State), s.plan plan = some p ∧ p.cur.state = 1 ∧ p.cur.cAt = none ∧ ((p.ranksOf s.up.bolt).all (fun r => p.cur.lastFrom.contains r) && p.bolts.all (fun b => p.cur.ready.any (fun r => r.1 == b))) = true ∧ p.cur.ready.foldl (fun a r => a + r.2) 0 ≤ 4194304 ∧ ((s.localPairs p p.cur).filter (fun q => p.bolt q.dst != s.up.bolt)).length ≤ 1048576 ∧ p.isEqual = false ∧ p.presumed = none)
    ∧ (∃ (plan : Nat) (t : Nat) (p : Plan) (s : State), s.plan plan = some p ∧ p.cur.firstAt = some t ∧ p.cur.state = 1 ∧ p.cur.cAt = none ∧ t + p.deadline ≤ s.clock.now)
    ∧ (∃ (plan : Nat) (p : Plan) (s : State), s.plan plan = some p ∧ s.planNext = some plan ∧ p.cur.presumed = [] ∧ s.activeUnits 11 ≠ [])
    ∧ (∃ (plan : Nat) (p : Plan) (s : State), s.plan plan = some p ∧ p.cur.state = 2 ∧ p.cur.presumed = [] ∧ p.cur.pairs.any (fun q => q.rem != 0) = false ∧ p.cur.lastRound + 4 ≤ s.clock.now) :=
  ⟨⟨{}, primary0, by decide +kernel⟩,
    ⟨{ stream := 11, payload := [2, 0, 0, 0, 0, 0, 0, 0] }, plan1 { state := 1 }, planned (plan1 { state := 1 }), by decide +kernel⟩,
    ⟨1, plan1 { state := 1, ready := [(1, 0)] }, planned (plan1 { state := 1, ready := [(1, 0)] }), by decide +kernel⟩,
    ⟨1, 0, plan1 { state := 1, firstAt := some 0 }, planned (plan1 { state := 1, firstAt := some 0 }) 16, by decide +kernel⟩,
    ⟨1, plan1 { state := 2, pairs := [{ src := 0, dst := 1, rem := 8, pos := 0 }] }, planned (plan1 { state := 2, pairs := [{ src := 0, dst := 1, rem := 8, pos := 0 }] }), by decide +kernel⟩,
    ⟨1, plan1 { state := 2 }, planned (plan1 { state := 2 }) 4, by decide +kernel⟩⟩

theorem witness_ExchangeLandingCompletes :
    (∃ (plan : Nat) (rank : Nat) (p : Plan) (s : State), s.plan plan = some p ∧ p.cur.asked.contains rank = true ∧ p.cur.checkAt + 2 ≤ s.clock.now)
    ∧ (∃ (f : Flit) (p : Plan) (s : State), s.jacquard.plans.find? (fun p => p.countStream == f.stream) = some p ∧ (xchgHeader f).kind = 4 ∧ (xchgHeader f).num = p.cur.num % 256 ∧ (p.ranksOf s.up.bolt).contains (xchgHeader f).rank = true ∧ (p.cur.state = 2 ∨ p.cur.state = 3) ∧ xchgRecords f (s.delta p.job) = [] ∧ (xchgHeader f).last = true)
    ∧ (∃ (f : Flit) (p : Plan) (s : State), s.jacquard.plans.find? (fun p => p.countStream == f.stream) = some p ∧ (xchgHeader f).kind = 4 ∧ (xchgHeader f).num = p.cur.num % 256 ∧ (p.ranksOf s.up.bolt).contains (xchgHeader f).rank = true ∧ (p.cur.state = 2 ∨ p.cur.state = 3) ∧ xchgRecords f (s.delta p.job) ≠ [] ∧ p.cur.asked.contains (xchgHeader f).rank = true)
    ∧ (∃ (m : Msg) (p : Plan) (s : State), s.senderMay m.src 6 = true ∧ s.plan (le m.body 0 2) = some p ∧ p.cur.num = le m.body 2 4 ∧ p.cur.state ≠ 0 ∧ p.cur.state < 4 ∧ le m.body 7 1 = 0)
    ∧ (∃ (m : Msg) (p : Plan) (s : State), s.senderMay m.src 6 = true ∧ s.plan (le m.body 0 2) = some p ∧ p.cur.num = le m.body 2 4 ∧ p.cur.state ≠ 0 ∧ p.cur.state < 4 ∧ le m.body 7 1 = 1)
    ∧ (∃ (m : Msg) (p : Plan) (s : State), s.senderMay m.src 6 = true ∧ s.plan (le m.body 0 2) = some p ∧ p.cur.num = le m.body 2 4 ∧ p.cur.state ≠ 0 ∧ p.cur.state < 4 ∧ 2 ≤ le m.body 7 1 ∧ 1 ≤ le m.body 8 1 ∧ le m.body 8 1 ≤ 9)
    ∧ (∃ (m : Msg) (p : Plan) (s : State), s.senderMay m.src 6 = true ∧ s.plan (le m.body 0 2) = some p ∧ p.cur.num = le m.body 2 4)
    ∧ (∃ (f : Flit) (s : State), (xchgHeader f).kind = 3 ∧ (xchgHeader f).pos ≠ 0 ∧ s.agentForwards = true)
    ∧ (∃ (f : Flit) (item : Nat) (s : State), (xchgHeader f).kind = 1 ∧ (s.memberExch f.stream).listComplete = true ∧ le (s.memberExch f.stream).area 4 1 = (xchgHeader f).num ∧ 8 * (xchgHeader f).pos + (f.payload.drop 8).length
        ≤ ((((s.memberExch f.stream).entries.find? (fun e => e.1 == (xchgHeader f).rank)).map Prod.snd).getD 0) * item ∧ s.agentForwards = true)
    ∧ (∃ (f : Flit) (s : State), (xchgHeader f).kind ≠ 1 ∧ s.agentForwards = true) :=
  ⟨⟨1, 0, plan1 { state := 3, asked := [0] }, planned (plan1 { state := 3, asked := [0] }) 2, by decide +kernel⟩,
    ⟨{ stream := 11, payload := [20, 0, 0, 0, 0, 0, 0, 0] }, plan2, planned plan2, by decide +kernel⟩,
    ⟨{ stream := 11, payload := [4, 0, 0, 0, 1, 0, 0, 0] ++ zeros 8 }, plan2, planned plan2, by decide +kernel⟩,
    ⟨toGeneel0 0x60 ([1, 0, 0, 0, 0, 0, 0, 0, 2]), plan1 { state := 1 }, planned (plan1 { state := 1 }), by decide +kernel⟩,
    ⟨toGeneel0 0x60 ([1, 0, 0, 0, 0, 0, 0, 1, 2]), plan1 { state := 1 }, planned (plan1 { state := 1 }), by decide +kernel⟩,
    ⟨toGeneel0 0x60 ([1, 0, 0, 0, 0, 0, 0, 2, 2]), plan1 { state := 1 }, planned (plan1 { state := 1 }), by decide +kernel⟩,
    ⟨toGeneel0 0x61 [1], plan1 {}, planned (plan1 {}), by decide +kernel⟩,
    ⟨{ payload := [3, 0, 0, 0, 1, 0, 0, 0] }, { primary0 with agent := { primary0.agent with core := { primary0.agent.core with state := .serving } } }, by decide +kernel⟩,
    ⟨{ payload := [1, 0, 0, 0, 0, 0, 0, 0] }, 8, landing0, by decide +kernel⟩,
    ⟨{}, { primary0 with agent := { primary0.agent with core := { primary0.agent.core with state := .serving } } }, by decide +kernel⟩⟩

theorem witness_TablesComplete :
    (∃ (f : Flit) (s : State), (s.table (calHeader f.payload).table).filter (fun t => t.state != 3) = none)
    ∧ (∃ (f : Flit) (t : CalTable) (s : State), (s.table (calHeader f.payload).table).filter (fun t => t.state != 3) = some t ∧ f.job = t.job ∧ s.tableMember t.job f.src = true ∧ (if 1 ≤ (calHeader f.payload).op ∧ (calHeader f.payload).op ≤ 3 then (calRecords (calHeader f.payload) f.payload).filter (fun r => r.length == (calHeader f.payload).size) else []).any (fun r => t.shards.getD (t.place (le r 0 8)).shard 0xFF != s.ownId) = false ∧ (calHeader f.payload).good t f.enc f.payload = true ∧ t.state = 0 ∧ (t.window f.src).judge (calHeader f.payload).req = 2)
    ∧ (∃ (f : Flit) (t : CalTable) (s : State), (s.table (calHeader f.payload).table).filter (fun t => t.state != 3) = some t ∧ f.job = t.job ∧ s.tableMember t.job f.src = true ∧ (if 1 ≤ (calHeader f.payload).op ∧ (calHeader f.payload).op ≤ 3 then (calRecords (calHeader f.payload) f.payload).filter (fun r => r.length == (calHeader f.payload).size) else []).any (fun r => t.shards.getD (t.place (le r 0 8)).shard 0xFF != s.ownId) = false ∧ (calHeader f.payload).good t f.enc f.payload = true ∧ t.state = 0 ∧ (t.window f.src).judge (calHeader f.payload).req = 0 ∧ (s.isolated t.job).isSome = false ∧ (calHeader f.payload).op = 3)
    ∧ (∃ (slot : Nat) (t : State) (s : State), t = ((s.calico.stalled.zip s.calico.stalledTables).filter (fun x => s.engineOf x.1.slot == s.engineOf slot)).foldl (fun t x => t.takeRecord x.2 x.1) { s with calico := { s.calico with stalled := ((s.calico.stalled.zip s.calico.stalledTables).filter (fun x => !(s.engineOf x.1.slot == s.engineOf slot))).map Prod.fst, stalledTables := ((s.calico.stalled.zip s.calico.stalledTables).filter (fun x => !(s.engineOf x.1.slot == s.engineOf slot))).map Prod.snd } } ∧ t.stalledAt slot = false)
    ∧ (∃ (m : Msg) (i : Nat) (t : State) (s : State), s.senderMay m.src 7 = true ∧ le m.body 0 1 = 0 ∧ le m.body 2 2 = 0xFFFF ∧ s.numbersTables = true ∧ s.assignTable = (t, some i))
    ∧ (∃ (m : Msg) (s : State), s.senderMay m.src 7 = true ∧ le m.body 0 1 = 0 ∧ le m.body 2 2 ≠ 0xFFFF)
    ∧ (∃ (m : Msg) (t : CalTable) (s : State), s.senderMay m.src 7 = true ∧ le m.body 0 1 = 1 ∧ s.table (le m.body 2 2) = some t)
    ∧ (∃ (m : Msg) (o : ShardOp) (s : State), s.senderMay m.src 7 = true ∧ s.calico.ops.find? (fun o => o.op == le m.body 0 1 && o.waiting.contains m.src && (o.needId || o.table == le m.body 2 2)) = some o ∧ o.needId = false)
    ∧ (∃ (cmd : Nat) (o : ShardOp) (s : State), s.calico.ops.find? (fun o => o.cmd == cmd) = some o ∧ o.needId = false ∧ o.op ≠ 0 ∧ o.op ≠ 2 ∧ o.since + 8 ≤ s.clock.now) :=
  ⟨⟨{}, primary0, by decide +kernel⟩,
    ⟨update1, { table1 with windows := [{ len := 0x8000, base := 3000000000 }] }, asked1 [{ len := 0x8000, base := 3000000000 }], by decide +kernel⟩,
    ⟨update1, table1, asked1 [], by decide +kernel⟩,
    ⟨0, { primary0 with calico := { primary0.calico with stalled := [], stalledTables := [] } }, primary0, rfl, by decide +kernel⟩,
    ⟨toGeneel0 0x50 [0, 0, 255, 255], 0, { primary0 with calico := { primary0.calico with assigned := [0] } }, primary0, by decide +kernel⟩,
    ⟨toGeneel0 0x50 [0, 0, 1, 0], primary0, by decide +kernel⟩,
    ⟨toGeneel0 0x50 [1, 0, 1, 0], table1, tabled table1, by decide +kernel⟩,
    ⟨toGeneel0 0x51 [1, 0, 1, 0], { cmd := 4, op := 1, table := 1, waiting := [0xF000], since := 0 }, { primary0 with calico := { primary0.calico with ops := [{ cmd := 4, op := 1, table := 1, waiting := [0xF000], since := 0 }] } }, by decide +kernel⟩,
    ⟨4, { cmd := 4, op := 1, table := 1, waiting := [0xF000], since := 0 }, { primary0 with calico := { primary0.calico with ops := [{ cmd := 4, op := 1, table := 1, waiting := [0xF000], since := 0 }] }, clock := { primary0.clock with now := 8 } }, by decide +kernel⟩⟩

theorem witness_CheckpointFlowCompletes :
    (∃ (f : Flit) (x : StoreSlot) (y : StoreShard) (s : State), (rsHeader f.payload).kind = 1 ∧ s.genSlot f.job (rsHeader f.payload).gen = some x ∧ s.shard f.job (rsHeader f.payload).gen (rsHeader f.payload).owner = some y ∧ x.state = 2 ∧ f.stream = (s.storeStreams f.job).ckpt ∧ (rsHeader f.payload).off + min 3 (rsHeader f.payload).flags ≤ y.reserved)
    ∧ (∃ (f : Flit) (s : State), (rsHeader f.payload).kind = 1 ∧ s.genSlot f.job (rsHeader f.payload).gen = none)
    ∧ (∃ (f : Flit) (x : StoreSlot) (y : StoreShard) (s : State), (rsHeader f.payload).kind = 2 ∧ s.genSlot f.job (rsHeader f.payload).gen = some x ∧ s.shard f.job (rsHeader f.payload).gen (rsHeader f.payload).owner = some y ∧ y.accepted = false ∧ x.state = 2 ∧ le f.payload 16 4 ≤ y.reserved)
    ∧ (∃ (job : Nat) (gen : Nat) (owner : Nat) (x : StoreSlot) (y : StoreShard) (total : Nat) (dig : Bytes) (s : State), s.genSlot job gen = some x ∧ s.shard job gen owner = some y ∧ y.fin = some (total, dig) ∧ x.state = 2 ∧ y.accepted = false ∧ coveredTo y.lines total = true ∧ s.store.mode = 0)
    ∧ (∃ (job : Nat) (gen : Nat) (owner : Nat) (x : StoreSlot) (y : StoreShard) (total : Nat) (dig : Bytes) (s : State), s.genSlot job gen = some x ∧ s.shard job gen owner = some y ∧ y.fin = some (total, dig) ∧ x.state = 2 ∧ y.accepted = false ∧ coveredTo y.lines total = false ∧ y.gapAt + 8 ≤ s.clock.now)
    ∧ (∃ (f : Flit) (got : List (Nat × Nat × Nat)) (s : State), (rsHeader f.payload).kind = 7 ∧ s.store.mode = 1 ∧ (rsHeader f.payload).off / 64 % 4 = s.up.bolt % 4 ∧ got = (s.store.parGot ++ (rsLines (rsHeader f.payload) f.payload).map (fun (l : Nat × Bytes) => (f.src, (rsHeader f.payload).off / 64, l.1 % 64))).eraseDups)
    ∧ (∃ (f : Flit), (rsHeader f.payload).kind = 8)
    ∧ (∃ (job : Nat) (gen : Nat) (k : GenTrack) (s : State), s.track job gen = some k ∧ k.complete = true ∧ s.failing job gen = false)
    ∧ (∃ (job : Nat) (gen : Nat) (x : StoreSlot) (s : State), s.genSlot job gen = some x ∧ x.state = 2 ∧ x.openAt + x.deadline ≤ s.clock.now)
    ∧ (∃ (job : Nat) (gen : Nat) (x : StoreSlot) (s : State), s.genSlot job gen = some x ∧ x.state = 1 ∧ x.pendingPages = 0) :=
  ⟨⟨rsFlit 1 1 0 (zeros 64), slot1 2 shard1, shard1, stored (slot1 2 shard1), by decide +kernel⟩,
    ⟨rsFlit 1 1 0 (zeros 64), primary0, by decide +kernel⟩,
    ⟨rsFlit 2 0 0 [2], slot1 2 shard1, shard1, stored (slot1 2 shard1), by decide +kernel⟩,
    ⟨1, 1, 0x8000, slot1 2 { shard1 with fin := some (0, []) }, { shard1 with fin := some (0, []) }, 0, [], stored (slot1 2 { shard1 with fin := some (0, []) }), by decide +kernel⟩,
    ⟨1, 1, 0x8000, slot1 2 { shard1 with fin := some (1, []) }, { shard1 with fin := some (1, []) }, 1, [], stored (slot1 2 { shard1 with fin := some (1, []) }) 8, by decide +kernel⟩,
    ⟨rsFlit 7 0 0 [], [], { stored (slot1 2 shard1) with store := { (stored (slot1 2 shard1)).store with mode := 1 } }, by decide +kernel⟩,
    ⟨rsFlit 8 0 0 [], by decide +kernel⟩,
    ⟨1, 1, { job := 1, gen := 1, cmd := none, holders := [], opening := [] }, { primary0 with store := { primary0.store with tracks := [{ job := 1, gen := 1, cmd := none, holders := [], opening := [] }] } }, by decide +kernel⟩,
    ⟨1, 1, slot1 2 shard1, stored (slot1 2 shard1) 16, by decide +kernel⟩,
    ⟨1, 1, slot1 1 shard1, stored (slot1 1 shard1), by decide +kernel⟩⟩

theorem witness_RestoreFlowCompletes :
    (∃ (f : Flit) (x : StoreSlot) (y : StoreShard) (s : State), s.genSlot f.job (rsHeader f.payload).gen = some x ∧ s.shard f.job (rsHeader f.payload).gen (rsHeader f.payload).owner = some y ∧ (rsHeader f.payload).kind = 6 ∧ s.store.serving.find? (fun v => v.job == f.job && v.gen == (rsHeader f.payload).gen && v.len == (rsHeader f.payload).owner && v.len == f.src && v.sent) = none ∧ bit (rsHeader f.payload).flags 0 = false ∧ 2 ≤ x.state)
    ∧ (∃ (f : Flit) (x : StoreSlot) (y : StoreShard) (v : Serving) (s : State), s.genSlot f.job (rsHeader f.payload).gen = some x ∧ s.shard f.job (rsHeader f.payload).gen (rsHeader f.payload).owner = some y ∧ (rsHeader f.payload).kind = 6 ∧ s.store.serving.find? (fun v => v.job == f.job && v.gen == (rsHeader f.payload).gen && v.len == (rsHeader f.payload).owner && v.len == f.src && v.sent) = some v ∧ bit (rsHeader f.payload).flags 0 = true)
    ∧ (∃ (f : Flit) (x : StoreSlot) (y : StoreShard) (s : State), (rsHeader f.payload).kind = 5 ∧ s.genSlot f.job (rsHeader f.payload).gen = some x ∧ s.shard f.job (rsHeader f.payload).gen (rsHeader f.payload).owner = some y ∧ x.state = 3 ∧ f.src = (rsHeader f.payload).owner)
    ∧ (∃ (f : Flit) (s : State), (rsHeader f.payload).kind = 3 ∧ s.agentForwards = true)
    ∧ (∃ (f : Flit) (s : State), (rsHeader f.payload).kind = 4 ∧ s.agentForwards = true)
    ∧ (∃ (job : Nat) (gen : Nat) (owner : Nat) (total : Nat) (dig : Bytes) (s : State), s.genSlot job gen = none ∧ (s.agentShard job gen owner).rend = some (total, dig) ∧ s.agentForwards = true ∧ (s.agentShard job gen owner).done = false ∧ coveredTo (s.agentShard job gen owner).lines total = false ∧ (s.agentShard job gen owner).gapAt + 8 ≤ s.agent.core.tick)
    ∧ (∃ (job : Nat) (gen : Nat) (a : Nat) (x : StoreSlot) (s : State), s.genSlot job gen = some x ∧ s.storageTarget = some a ∧ s.store.spill = true ∧ x.state = 3 ∧ x.spilled = false ∧ (s.holdersOf job 1).contains a = true)
    ∧ (∃ (m : Msg) (s : State), s.senderMay m.src 8 = true ∧ le m.body 0 1 ≤ 4)
    ∧ (∃ (m : Msg) (s : State), s.senderMay m.src 8 = true ∧ le m.body 0 1 ≠ 4 ∧ le m.body 1 1 ≠ 3)
    ∧ (∃ (m : Msg) (s : State), s.senderMay m.src 8 = true ∧ le m.body 0 1 = 4) :=
  ⟨⟨rsFlit 6 0 0 [], slot1 2 shard1, shard1, stored (slot1 2 shard1), by decide +kernel⟩,
    ⟨rsFlit 6 1 0 [], slot1 3 shard1, shard1, { job := 1, gen := 1, len := 0x8000, kind := 2, sent := true, requester := 0xF000 }, { stored (slot1 3 shard1) with store := { (stored (slot1 3 shard1)).store with serving := [{ job := 1, gen := 1, len := 0x8000, kind := 2, sent := true, requester := 0xF000 }] } }, by decide +kernel⟩,
    ⟨rsFlit 5 0 0 [], slot1 3 shard1, shard1, stored (slot1 3 shard1), by decide +kernel⟩,
    ⟨rsFlit 3 0 0 [], { primary0 with agent := { primary0.agent with core := { primary0.agent.core with state := .serving } } }, by decide +kernel⟩,
    ⟨rsFlit 4 0 0 [1], { primary0 with agent := { primary0.agent with core := { primary0.agent.core with state := .serving } } }, by decide +kernel⟩,
    ⟨1, 1, 0x8000, 1, [], { primary0 with agent := { primary0.agent with core := { primary0.agent.core with state := .serving, tick := 8 }, work := { primary0.agent.work with shards := [{ job := 1, generation := 1, owner := 0x8000, rend := some (1, []) }] } } }, by decide +kernel⟩,
    ⟨1, 1, 0x9000, slot1 3 shard1, spilling1, by decide +kernel⟩,
    ⟨toGeneel0 0x58 [], primary0, by decide +kernel⟩,
    ⟨toGeneel0 0x59 [], primary0, by decide +kernel⟩,
    ⟨toGeneel0 0x59 [4], primary0, by decide +kernel⟩⟩

theorem witness_PeerSessionsComplete :
    (∃ (m : Msg) (p : Peer) (s : State), s.senderMay m.src 0x0B = true ∧ s.peerAt m.src = some p ∧ le m.body 0 1 = 0 ∧ le m.body 1 1 = p.id ∧ p.id < s.ownId)
    ∧ (∃ (m : Msg) (p : Peer) (key : Bytes) (s : State), s.senderMay m.src 0x0B = true ∧ s.peerAt m.src = some p ∧ le m.body 0 1 = 0 ∧ le m.body 1 1 = p.id ∧ p.id < s.ownId ∧ peerKey p (field m.body 36 3144) = some key)
    ∧ (∃ (m : Msg) (p : Peer) (n : Bytes) (s : State), s.senderMay m.src 0x0B = true ∧ s.peerAt m.src = some p ∧ le m.body 0 1 = 1 ∧ le m.body 1 1 = p.id ∧ p.ownNonce = some n ∧ s.ownId < p.id)
    ∧ (∃ (m : Msg) (p : Peer) (n : Bytes) (key : Bytes) (s : State), s.senderMay m.src 0x0B = true ∧ s.peerAt m.src = some p ∧ le m.body 0 1 = 1 ∧ le m.body 1 1 = p.id ∧ p.ownNonce = some n ∧ s.ownId < p.id ∧ peerKey p (field m.body 36 3144) = some key)
    ∧ (∃ (m : Msg) (p : Peer) (mine : Bytes) (s : State), s.senderMay m.src 0x0B = true ∧ s.peerAt m.src = some p ∧ le m.body 0 1 = 2 ∧ le m.body 1 1 = p.id ∧ p.ownNonce = some mine ∧ s.ownId < p.id)
    ∧ (∃ (m : Msg) (p : Peer) (mine : Bytes) (key : Bytes) (s : State), s.senderMay m.src 0x0B = true ∧ s.peerAt m.src = some p ∧ le m.body 0 1 = 2 ∧ le m.body 1 1 = p.id ∧ p.ownNonce = some mine ∧ s.ownId < p.id ∧ peerKey p p.farCert = some key ∧ falconVerify key (sessionDigest mine p.farNonce (field m.body 0 1612)) (field m.body 1612 1280) = true ∧ s.sec.policy.minFw ≤ le m.body 1604 4 ∧ s.sec.policy.revoked.contains (field m.body 1572 32) = false)
    ∧ (∃ (m : Msg) (p : Peer) (mine : Bytes) (s : State), s.senderMay m.src 0x0B = true ∧ s.peerAt m.src = some p ∧ le m.body 0 1 = 3 ∧ le m.body 1 1 = p.id ∧ p.ownNonce = some mine ∧ p.id < s.ownId)
    ∧ (∃ (m : Msg) (p : Peer) (mine : Bytes) (key : Bytes) (s : State), s.senderMay m.src 0x0B = true ∧ s.peerAt m.src = some p ∧ le m.body 0 1 = 3 ∧ le m.body 1 1 = p.id ∧ p.ownNonce = some mine ∧ p.id < s.ownId ∧ peerKey p p.farCert = some key ∧ falconVerify key (sessionDigest p.farNonce mine (field m.body 0 1572)) (field m.body 1572 1280) = true)
    ∧ (∃ (m : Msg) (sk : Bytes) (s : State), s.senderMay m.src 0x0B = true ∧ (s.peerAt m.src).bind Peer.session = some sk ∧ le m.body 0 2 ≤ 4095 ∧ le m.body 2 1 ≤ 1 ∧ s.sec.debugOpen = false)
    ∧ (∃ (m : Msg) (sk : Bytes) (s : State), s.senderMay m.src 0x0B = true ∧ (s.peerAt m.src).bind Peer.session = some sk ∧ le m.body 0 2 ≤ 4095 ∧ le m.body 2 1 ≤ 1 ∧ s.sec.debugOpen = false ∧ field (Config.gcmTag sk (toLe 4 m.msgid ++ zeros 8) (field m.body 0 8) (field (Config.gcmDecrypt sk (toLe 4 m.msgid ++ zeros 8) (field m.body 8 32)) 0 32)) 0 16 = field m.body 40 16)
    ∧ (∃ (m : Msg) (r : Rotation) (s : State), s.senderMay m.src 0x0B = true ∧ s.rotation (le m.body 0 2) (le m.body 2 1) = some r ∧ r.owner = s.ownAddr ∧ r.generation = le m.body 4 2 ∧ le m.body 3 1 = 0)
    ∧ (∃ (m : Msg) (s : State), s.senderMay m.src 0x0B = true ∧ le m.body 3 1 ≤ 1 ∧ le m.body 2 1 = 1) :=
  ⟨⟨fromPeer 0 0x68 [0, 0], peer0, { peered peer0 with up := { primary0.up with bolt := 1 } }, by decide +kernel⟩,
    ⟨fromPeer 0 0x68 (helloOf 0 0 8), peer0, peerCertKey, { peered peer0 with up := { primary0.up with bolt := 1 } }, by decide +kernel, by decide +kernel, by decide +kernel, by decide +kernel, by decide +kernel, helloOf_key peer0 0 0 (by decide)⟩,
    ⟨fromPeer 2 0x68 [1, 2], peer2, [], peered peer2, by decide +kernel⟩,
    ⟨fromPeer 2 0x68 (helloOf 1 2 9), peer2, [], peerCertKey, peered peer2, by decide +kernel, by decide +kernel, by decide +kernel, by decide +kernel, by decide +kernel, by decide +kernel, helloOf_key peer2 1 2 (by decide)⟩,
    ⟨fromPeer 2 0x68 [2, 2], peer2, [], peered peer2, by decide +kernel⟩,
    ⟨fromPeer 2 0x68 (signedBody ([2, 2] ++ zeros 1610) [] []), peer2c, [], peerCertKey, peered peer2c, by decide +kernel, rfl, by decide +kernel, by decide +kernel, rfl, by decide +kernel, peerKey_certOf peer2 [1] (by decide), signedBody_good _ _ _ 1612 (by rw [List.length_append, zeros_length]; rfl), Nat.zero_le _, rfl⟩,
    ⟨fromPeer 0 0x68 [3, 0], peer0, [], { peered peer0 with up := { primary0.up with bolt := 1 } }, by decide +kernel⟩,
    ⟨fromPeer 0 0x68 (signedBody ([3, 0] ++ zeros 1570) [] []), peer0c, [], peerCertKey, { peered peer0c with up := { primary0.up with bolt := 1 } }, by decide +kernel, rfl, by decide +kernel, by decide +kernel, rfl, by decide +kernel, peerKey_certOf peer0 [1] (by decide), signedBody_good _ _ _ 1572 (by rw [List.length_append, zeros_length]; rfl)⟩,
    ⟨fromPeer 2 0x69 [], [1], peered peer2, by decide +kernel⟩,
    ⟨fromPeer 2 0x69 (wrapped [1]), [1], peered peer2, by decide +kernel, by decide +kernel, by decide +kernel, by decide +kernel, by decide +kernel, wrapped_good [1]⟩,
    ⟨fromPeer 2 0x6A [1, 0, 0, 0, 1], rotation1, { peered peer2 with sec := { primary0.sec with rotations := [rotation1] } }, by decide +kernel⟩,
    ⟨fromPeer 2 0x6B [1, 0, 1], peered peer2, by decide +kernel⟩⟩

theorem witness_SecurityTimersComplete :
    (∃ (job : Nat) (kind : Nat) (k : HeldKey) (life : Nat) (s : State), s.currentKey job kind = some k ∧ kind ≤ 1 ∧ life = (if kind = 0 then s.sec.policy.keys.linkLife else s.sec.policy.keys.memLife) ∧ life ≠ 0 ∧ k.since + life ≤ s.clock.now ∧ s.keyOwner job = s.ownAddr ∧ s.isPrimary = true ∧ s.rotation job kind = none)
    ∧ (∃ (s : State), s.sec.policy.keys.reattest = true ∧ s.sec.policy.keys.interval ≠ 0 ∧ s.sec.reattested + s.sec.policy.keys.interval ≤ s.clock.now ∧ s.isPrimary = true)
    ∧ (∃ (n : Bytes) (t : Nat) (s : State), s.sec.nonce = some (n, t) ∧ t + 3750000 ≤ s.clock.now)
    ∧ (∃ (obj : Nat) (t : CalTable) (s : State), s.table obj = some t)
    ∧ (∃ (part : Nat), part ≠ 0) :=
  ⟨⟨1, 0, key1, 16, { primary0 with sec := { primary0.sec with keys := [key1], policy := { primary0.sec.policy with keys := { primary0.sec.policy.keys with linkLife := 16 } } }, clock := { primary0.clock with now := 16 } }, by decide +kernel⟩,
    ⟨{ primary0 with sec := { primary0.sec with policy := { primary0.sec.policy with keys := { primary0.sec.policy.keys with reattest := true, interval := 16 } } }, clock := { primary0.clock with now := 16 } }, by decide +kernel⟩,
    ⟨[], 0, { primary0 with sec := { primary0.sec with nonce := some ([], 0) }, clock := { primary0.clock with now := 3750000 } }, by decide +kernel⟩,
    ⟨1, table1, tabled table1, by decide +kernel⟩,
    ⟨1, by decide +kernel⟩⟩

theorem witness_BringUpStagesComplete :
    (∃ (s : State), s.up.dev = .boot)
    ∧ (∃ (s : State), s.up.dev = .boot)
    ∧ (∃ (s : State), s.up.dev = .stage1 ∧ s.stageDone [1] s.stage1Target = true ∧ 2 ≤ (s.fenceUntested [1]).goodCount 1)
    ∧ (∃ (s : State), s.up.dev = .stage2 ∧ s.stageDone [4, 5, 15, 16] 30 = true ∧ s.untested [5] = [] ∧ (s.fenceUntested [4, 15, 16]).goodCount 4 ≠ 0)
    ∧ (∃ (s : State), s.up.dev = .stage3 ∧ s.stageDone [6, 7] 1200 = true)
    ∧ (∃ (s : State), s.up.dev = .stage4 ∧ s.stageOver 2500 = true)
    ∧ (∃ (s : State), s.up.dev = .stage5 ∧ s.stageDone [9, 10, 11, 12, 13, 14] 400 = true)
    ∧ (∃ (what : Nat) (e : Nat × Nat) (s : State), s.up.booked.find? (fun e => e.1 == what) = some e ∧ e.2 ≤ s.clock.now ∧ s.up.dev ≠ .off ∧ s.up.dev ≠ .halt ∧ what < 32)
    ∧ (∃ (kind : Nat) (idx : Nat) (c : Cmd) (u : UnitRec) (s : State), idx < unitCount kind ∧ s.domainUsable (testDomain kind idx) = true ∧ s.unfenceCmd kind idx = none ∧ s.up.dev ≠ testStage kind ∧ s.unitCmd 0x0905 kind idx = some c ∧ s.unitRec kind idx = some u ∧ u.status = .off)
    ∧ (∃ (kind : Nat) (idx : Nat) (c : Cmd) (u : UnitRec) (s : State), idx < unitCount kind ∧ s.domainUsable (testDomain kind idx) = true ∧ s.unfenceCmd kind idx = none ∧ s.up.dev ≠ testStage kind ∧ s.unitCmd 0x0905 kind idx = some c ∧ s.unitRec kind idx = some u ∧ u.status = .off)
    ∧ (∃ (kind : Nat) (idx : Nat) (s : State), idx < unitCount kind ∧ s.domainUsable (testDomain kind idx) = true ∧ s.unfenceCmd kind idx = none ∧ s.up.dev = testStage kind ∧ s.up.dev ≠ .off ∧ s.isTested kind idx = false ∧ (s.testList kind).contains idx = true) :=
  ⟨⟨booting .boot, by decide +kernel⟩,
    ⟨booting .boot, by decide +kernel⟩,
    ⟨stage1Done, by decide +kernel⟩,
    ⟨stageDone2, by decide +kernel⟩,
    ⟨booting .stage3 1000000000, by decide +kernel⟩,
    ⟨booting .stage4 1000000000, by decide +kernel⟩,
    ⟨booting .stage5 1000000000, by decide +kernel⟩,
    ⟨3, (3, 0), { booting .stage2 with up := { (booting .stage2).up with booked := [(3, 0)] } }, by decide +kernel⟩,
    ⟨1, 0, enableCmd, unitIn 1 0 .off, enabling, by decide +kernel⟩,
    ⟨1, 0, enableCmd, unitIn 1 0 .off, enabling, by decide +kernel⟩,
    ⟨1, 0, { booting .stage1 with up := { (booting .stage1).up with domains := [0, 1] } }, by decide +kernel⟩⟩

theorem witness_PowerAndResetPinsComplete :
    (∃ (s : State), s.pins.pwrGood = false)
    ∧ (∃ (s : State), s.pins.resetN = true)
    ∧ (∃ (us : Nat) (s : State), s.pins.resetN = false ∧ s.pins.pwrGood = true ∧ s.up.tripped = false ∧ 1000 ≤ us)
    ∧ (∃ (us : Nat) (s : State), s.pins.resetN = false ∧ s.pins.pwrGood = true ∧ s.up.tripped = false ∧ us < 10 ∧ s.up.dev ≠ .off)
    ∧ (∃ (us : Nat) (s : State), s.pins.resetN = false ∧ s.pins.pwrGood = true ∧ s.up.tripped = false ∧ 10 ≤ us ∧ us < 1000 ∧ s.up.dev ≠ .off)
    ∧ (∃ (port : Nat) (s : State), (s.hostPort port).perst = true) :=
  ⟨⟨State.reset, by decide +kernel⟩,
    ⟨{ State.reset with pins := { State.reset.pins with resetN := true } }, by decide +kernel⟩,
    ⟨1000, { primary0 with pins := { primary0.pins with resetN := false, pwrGood := true } }, by decide +kernel⟩,
    ⟨9, { primary0 with pins := { primary0.pins with resetN := false, pwrGood := true } }, by decide +kernel⟩,
    ⟨10, { primary0 with pins := { primary0.pins with resetN := false, pwrGood := true } }, by decide +kernel⟩,
    ⟨0, (execPerstAssert 0 State.reset |> fun | .next t => t | _ => State.reset), by decide +kernel⟩⟩

theorem witness_TickEdgesComplete :
    (∃ (s : State), s.up.dev ≠ .off ∧ s.up.dev ≠ .halt ∧ s.clock.loaded = true ∧ s.clock.emitting = true ∧ s.clock.mode ≠ 0)
    ∧ (∃ (s : State), s.up.dev ≠ .off ∧ s.up.dev ≠ .halt ∧ s.clock.loaded = true ∧ s.clock.emitting = false)
    ∧ (∃ (s : State), s.clock.emitting = true ∧ s.clock.mode ≠ 0 ∧ s.clock.lock ≠ 2 ∧ s.clock.edgeAt.getD 0 + 2 * cdiv s.clock.interval s.clock.period ≤ s.clock.now)
    ∧ (∃ (id : Nat) (s : State), s.clock.loaded = true ∧ id < s.ownId ∧ s.clock.emitting = true ∧ s.clock.handover = 0 ∧ s.healthyId id = true ∧ s.primaryId id = true ∧ s.twin.peers.any (fun p => p.id == id && (match p.healthySince with | some t => decide (t + 62500 ≤ s.clock.now) | none => false)) = true)
    ∧ (∃ (id : Nat) (t : Nat) (s : State), s.clock.loaded = true ∧ id = s.ownId ∧ s.clock.emitting = false ∧ s.isPrimary = true ∧ s.up.dev.healthy = true ∧ s.clock.eligibleSince = some t ∧ t + 62500 ≤ s.clock.now ∧ s.clock.nextMaster = id ∧ s.clock.handover = s.clock.tick + 1)
    ∧ (∃ (s : State), s.clock.loaded = true ∧ s.clock.tick ≠ 0 ∧ s.clock.tick % s.ticks 1000000 = 0 ∧ s.clock.strobeTick ≠ s.clock.tick ∧ s.up.dev ≠ .halt)
    ∧ (∃ (s : State), s.clock.loaded = true ∧ s.clock.tick ≠ 0 ∧ s.clock.tick % 4096 = 0 ∧ s.clock.noticeTick ≠ s.clock.tick ∧ s.up.dev ≠ .halt)
    ∧ (∃ (s : State), (s.up.dev.healthy = true ∨ s.up.dev = .fault)) :=
  ⟨⟨{ ticking 5 with clock := { (ticking 5).clock with mode := 1 } }, by decide +kernel⟩,
    ⟨ticking 5 false, by decide +kernel⟩,
    ⟨{ ticking 5 with clock := { (ticking 5).clock with mode := 1 } }, by decide +kernel⟩,
    ⟨0, { ticking 5 with up := { (ticking 5).up with bolt := 1 }, twin := { (ticking 5).twin with peers := [{ id := 0, serial := 1, role := 0, dev := 8, absent := false, healthySince := some 0 }] } }, by decide +kernel⟩,
    ⟨0, 0, { ticking 5 false with clock := { (ticking 5 false).clock with eligibleSince := some 0, nextMaster := 0, handover := 6 } }, by decide +kernel⟩,
    ⟨ticking 62500, by decide +kernel⟩,
    ⟨ticking 4096, by decide +kernel⟩,
    ⟨primary0, by decide +kernel⟩⟩

theorem witness_MarkersComplete :
    (∃ (s : State), s.clock.loaded = false ∧ s.clocked = true)
    ∧ (∃ (s : State), s.clocked = true ∧ s.clock.loaded = true ∧ s.clock.emitting = true)
    ∧ (∃ (m : Msg) (s : State), s.clocked = true ∧ m.type = 0x10)
    ∧ (∃ (t : Nat) (s : State), s.clock.startFrom = some t ∧ s.clock.loaded = false ∧ s.clocked = true ∧ s.elected = some s.ownId ∧ t ≤ s.clock.now ∧ s.clock.mode = 0)
    ∧ (∃ (us : Nat) (t : Nat) (s : State), s.clock.startFrom = some t ∧ s.clock.loaded = false ∧ s.clocked = true ∧ s.elected = some s.ownId ∧ t ≤ s.clock.now ∧ s.clock.mode ≠ 0 ∧ 16 * s.clock.now + us % 16 ≤ 16 * t + 2 * s.clock.interval)
    ∧ (∃ (us : Nat) (t : Nat) (s : State), s.clock.startFrom = some t ∧ s.clock.loaded = false ∧ s.clocked = true ∧ s.elected = some s.ownId ∧ t ≤ s.clock.now ∧ s.clock.mode ≠ 0 ∧ 16 * t + 2 * s.clock.interval ≤ 16 * s.clock.now + us % 16)
    ∧ (∃ (s : State), s.clock.loaded = true ∧ s.clock.emitting = false ∧ s.clocked = true)
    ∧ (∃ (s : State), s.clock.loaded = true ∧ s.clock.emitting = false ∧ s.clocked = true ∧ 2 ≤ s.clock.missedRun ∧ s.electedBut (some s.clock.master) = some s.ownId) :=
  ⟨⟨{ ticking 0 with clock := { (ticking 0).clock with loaded := false } }, by decide +kernel⟩,
    ⟨ticking 5, by decide +kernel⟩,
    ⟨toGeneel0 0x10 [], ticking 5 false, by decide +kernel⟩,
    ⟨16, { ticking 0 false with clock := { (ticking 0 false).clock with loaded := false, startFrom := some 16, mode := 0, master := 0xFF } }, by decide +kernel⟩,
    ⟨0, 100000, { { ticking 0 false with clock := { (ticking 0 false).clock with loaded := false, startFrom := some 16, mode := 1, master := 0xFF } } with clock := { ({ ticking 0 false with clock := { (ticking 0 false).clock with loaded := false, startFrom := some 16, mode := 1, master := 0xFF } }).clock with startFrom := some 100000 } }, by decide +kernel⟩,
    ⟨0, 16, { ticking 0 false with clock := { (ticking 0 false).clock with loaded := false, startFrom := some 16, mode := 1, master := 0xFF } }, by decide +kernel⟩,
    ⟨ticking 5 false, by decide +kernel⟩,
    ⟨{ ticking 5 false with clock := { (ticking 5 false).clock with missedRun := 2, master := 4 } }, by decide +kernel⟩⟩

theorem witness_SliceEventsComplete :
    (∃ (c : SliceChange) (r : SolveResult) (s : State), s.access.changes.find? (fun c => c.stage == .waiting && c.rides != 1) = some c ∧ s.fabric.epoch.state = .stable ∧ s.fabric.results.find? (fun r => r.id == c.solveId) = some r ∧ s.resultFresh r = true)
    ∧ (∃ (c : SliceChange) (s : State), s.access.changes.find? (fun c => c.stage == .waiting && c.rides != 1) = some c ∧ s.fabric.epoch.state = .stable ∧ s.fabric.results.find? (fun r => r.id == c.solveId) = none)
    ∧ (∃ (job : Nat) (c : SliceChange) (s : State), s.access.changes.find? (fun c => c.job == job && c.op != 2 && (c.stage == .solving || c.stage == .waiting)) = some c ∧ c.since + 3750000 ≤ s.clock.now)
    ∧ (∃ (job : Nat) (x : Slice) (s : State), s.slice job = some x ∧ x.state = .draining ∧ s.streams.any (fun e => e.2.job == job) = false ∧ s.host.cmds.find? (fun c => c.pkt.opcode == 0x0403 && c.pkt.job == job && c.stage == 1) = none)
    ∧ (∃ (job : Nat) (x : Slice) (c : Cmd) (s : State), s.slice job = some x ∧ x.state = .draining ∧ s.streams.any (fun e => e.2.job == job) = false ∧ s.host.cmds.find? (fun c => c.pkt.opcode == 0x0403 && c.pkt.job == job && c.stage == 1) = some c) :=
  ⟨⟨change1, result1, changing, by decide +kernel⟩,
    ⟨change1, { changing with fabric := primary0.fabric }, by decide +kernel⟩,
    ⟨1, change1, { changing with clock := { changing.clock with now := 3750000 } }, by decide +kernel⟩,
    ⟨1, { job := 1, state := .draining }, { primary0 with access := { primary0.access with slices := [{ job := 1, state := .draining }] } }, by decide +kernel⟩,
    ⟨1, { job := 1, state := .draining }, destroyCmd, { primary0 with host := { primary0.host with cmds := [destroyCmd] }, access := { primary0.access with slices := [{ job := 1, state := .draining }] } }, by decide +kernel⟩⟩

theorem witness_StreamsAreReleased :
    (∃ (id : Nat) (e : Stream) (s : State), kvGet s.streams id = some e ∧ (e.state = 2 ∨ e.state = 3) ∧ e.outstanding = 0)
    ∧ (∃ (id : Nat) (e : Stream) (s : State), kvGet s.streams id = some e ∧ (e.outstanding ≠ 0 ∨ e.state = 1)) :=
  ⟨⟨20, draining20, { primary0 with streams := [(20, draining20)] }, by decide +kernel⟩,
    ⟨20, { draining20 with outstanding := 1 }, { primary0 with streams := [(20, { draining20 with outstanding := 1 })] }, by decide +kernel⟩⟩

theorem witness_DoorbellsAndRingsComplete :
    (∃ (port : Nat) (ring : Nat) (count : Nat) (s : State), ring < 64 ∧ s.barOpen port = true ∧ s.up.dev ≠ .halt ∧ (s.ring port ring).state = .active ∧ ahead (count % 2 ^ 32) (s.ring port ring).sqDb < 2 ^ 31 ∧ ahead (count % 2 ^ 32) (s.ring port ring).sqHead ≤ (s.ring port ring).slots)
    ∧ (∃ (port : Nat) (ring : Nat) (count : Nat) (s : State), ring < 64 ∧ s.barOpen port = true ∧ s.up.dev ≠ .halt ∧ (s.ring port ring).state = .active ∧ 2 ^ 31 ≤ ahead (count % 2 ^ 32) (s.ring port ring).sqDb)
    ∧ (∃ (port : Nat) (ring : Nat) (count : Nat) (s : State), ring < 64 ∧ s.barOpen port = true ∧ s.up.dev ≠ .halt ∧ (s.ring port ring).state = .active ∧ ahead (count % 2 ^ 32) (s.ring port ring).sqDb < 2 ^ 31 ∧ (s.ring port ring).slots < ahead (count % 2 ^ 32) (s.ring port ring).sqHead)
    ∧ (∃ (port : Nat) (ring : Nat) (count : Nat) (s : State), ring < 64 ∧ s.barOpen port = true ∧ s.up.dev ≠ .halt ∧ (s.ring port ring).state = .active ∧ ahead (count % 2 ^ 32) (s.ring port ring).cqDb < 2 ^ 31 ∧ ahead (s.ring port ring).cqTail (count % 2 ^ 32) < 2 ^ 31)
    ∧ (∃ (port : Nat) (ring : Nat) (count : Nat) (s : State), ring < 64 ∧ s.barOpen port = true ∧ s.up.dev ≠ .halt ∧ (s.ring port ring).state = .active ∧ (2 ^ 31 ≤ ahead (count % 2 ^ 32) (s.ring port ring).cqDb ∨ 2 ^ 31 ≤ ahead (s.ring port ring).cqTail (count % 2 ^ 32)))
    ∧ (∃ (port : Nat) (ring : Nat) (ctrl : Nat) (s : State), ring < 64 ∧ s.barOpen port = true ∧ s.up.dev ≠ .halt ∧ (s.ring port ring).state = .disabled ∧ (s.ring port ring).stopping = false ∧ Ring.shapeOk { s.ring port ring with coalCnt := bits ((ctrl / 2 * 2 + 1) % 2 ^ 32) 19 12, coalUs := bits ((ctrl / 2 * 2 + 1) % 2 ^ 32) 27 20, sqLog := bits ((ctrl / 2 * 2 + 1) % 2 ^ 32) 7 4, cqLog := bits ((ctrl / 2 * 2 + 1) % 2 ^ 32) 11 8 } = true)
    ∧ (∃ (port : Nat) (ring : Nat) (ctrl : Nat) (s : State), ring < 64 ∧ s.barOpen port = true ∧ s.up.dev ≠ .halt ∧ (s.ring port ring).state = .disabled ∧ (s.ring port ring).stopping = false ∧ Ring.shapeOk { s.ring port ring with coalCnt := bits ((ctrl / 2 * 2 + 1) % 2 ^ 32) 19 12, coalUs := bits ((ctrl / 2 * 2 + 1) % 2 ^ 32) 27 20, sqLog := bits ((ctrl / 2 * 2 + 1) % 2 ^ 32) 7 4, cqLog := bits ((ctrl / 2 * 2 + 1) % 2 ^ 32) 11 8 } = false)
    ∧ (∃ (port : Nat) (ring : Nat) (s : State), ring < 64 ∧ s.barOpen port = true ∧ s.up.dev ≠ .halt ∧ (s.ring port ring).state ≠ .disabled)
    ∧ (∃ (port : Nat) (ring : Nat) (s : State), (s.ring port ring).stopping = true ∧ s.outstanding port ring = 0) :=
  ⟨⟨0, 0, 3, hosted { state := .active, sqLog := 7 }, by decide +kernel⟩,
    ⟨0, 0, 4294967295, hosted { state := .active, sqLog := 7 }, by decide +kernel⟩,
    ⟨0, 0, 129, hosted { state := .active, sqLog := 7 }, by decide +kernel⟩,
    ⟨0, 0, 0, hosted { state := .active, sqLog := 7 }, by decide +kernel⟩,
    ⟨0, 0, 1, hosted { state := .active, sqLog := 7 }, by decide +kernel⟩,
    ⟨0, 0, 1136, hosted {}, by decide +kernel⟩,
    ⟨0, 0, 0, hosted {}, by decide +kernel⟩,
    ⟨0, 0, hosted { state := .active, sqLog := 7 }, by decide +kernel⟩,
    ⟨0, 0, hosted { state := .active, stopping := true }, by decide +kernel⟩⟩

theorem witness_RegistersComplete :
    (∃ (port : Nat) (offset : Nat) (s : State), s.barOpen port = true ∧ offset % 8 = 0)
    ∧ (∃ (port : Nat) (offset : Nat) (v : Nat) (s : State), s.barOpen port = true ∧ offset % 8 = 4 ∧ (s.hostPort port).readLatch = some (offset - 4, v))
    ∧ (∃ (port : Nat) (s : State), (s.hostPort port).perst = false ∧ (s.hostPort port).linkUp = true ∧ (s.unitStatus 4 port).lost = false)
    ∧ (∃ (port : Nat) (offset : Nat) (s : State), s.barOpen port = true ∧ s.up.dev ≠ .halt ∧ offset % 4 = 0 ∧ rwQuad (offset / 8 * 8) = false)
    ∧ (∃ (port : Nat) (offset : Nat) (s : State), s.barOpen port = true ∧ s.up.dev ≠ .halt ∧ offset % 8 = 0 ∧ rwQuad offset = true)
    ∧ (∃ (port : Nat) (offset : Nat) (s : State), s.barOpen port = true ∧ s.up.dev ≠ .halt ∧ offset % 8 = 0 ∧ rwQuad offset = true)
    ∧ (∃ (port : Nat) (s : State), s.barOpen port = true ∧ s.up.dev ≠ .halt ∧ s.portOpr port = true)
    ∧ (∃ (port : Nat) (s : State), s.barOpen port = true ∧ s.up.dev ≠ .halt ∧ s.portOpr port = true)
    ∧ (∃ (s : State), s.up.dev ≠ .halt)
    ∧ (∃ (port : Nat) (s : State), s.barOpen port = true ∧ s.up.dev ≠ .halt)
    ∧ (∃ (port : Nat) (s : State), s.barOpen port = true ∧ s.up.dev ≠ .halt)
    ∧ (∃ (port : Nat) (ring : Nat) (s : State), (s.ring port ring).unsignalled ≠ 0 ∧ (s.ring port ring).coalUs ≠ 0 ∧ (s.ring port ring).coalCnt ≠ 0 ∧ s.up.dev ≠ .halt) :=
  ⟨⟨0, 0, hosted {}, by decide +kernel⟩,
    ⟨0, 4, 7, { primary0 with host := { primary0.host with h0 := { linkUp := true, readLatch := some (0, 7) } } }, by decide +kernel⟩,
    ⟨0, hosted {}, by decide +kernel⟩,
    ⟨0, 0x200, hosted {}, by decide +kernel⟩,
    ⟨0, 0x800, hosted {}, by decide +kernel⟩,
    ⟨0, 0x800, hosted {}, by decide +kernel⟩,
    ⟨0, { hosted {} with access := { (hosted {}).access with masters := [(0, { opr := true })] } }, by decide +kernel⟩,
    ⟨0, { hosted {} with access := { (hosted {}).access with masters := [(0, { opr := true })] } }, by decide +kernel⟩,
    ⟨hosted {}, by decide +kernel⟩,
    ⟨0, hosted {}, by decide +kernel⟩,
    ⟨0, hosted {}, by decide +kernel⟩,
    ⟨0, 0, hosted { state := .active, unsignalled := 1, coalUs := 4 }, by decide +kernel⟩⟩

theorem witness_RepliesComplete :
    (∃ (m : Msg) (w : Waiting) (s : State), s.mail.waiting.find? (fun w => w.msg.msgid == m.msgid && (w.msg.dst == 0xFFFF || m.dst == 0xFFFF || w.msg.dst == m.src)) = some w ∧ m.flags % 2 = 1 ∧ (w.kind == Purpose.identify.code || w.kind == Purpose.claim.code || w.kind == Purpose.reclaim.code || w.kind == Purpose.takeover.code) = false ∧ (w.kind == Purpose.linkstate.code || w.kind == Purpose.refresh.code) = false)
    ∧ (∃ (m : Msg) (w : Waiting) (s : State), s.mail.waiting.find? (fun w => w.msg.msgid == m.msgid && (w.msg.dst == 0xFFFF || m.dst == 0xFFFF || w.msg.dst == m.src)) = some w ∧ m.flags % 2 = 1 ∧ (w.kind == Purpose.identify.code || w.kind == Purpose.claim.code || w.kind == Purpose.reclaim.code || w.kind == Purpose.takeover.code) = false ∧ (w.kind == Purpose.linkstate.code || w.kind == Purpose.refresh.code) = true ∧ le m.content 0 2 = 0 ∧ (m.content.drop 8).length = 204 ∧ le (m.content.drop 8) 192 1 + 1 < ((s.ownSection.node w.about).map TopoNode.ports).getD 0)
    ∧ (∃ (msgid : Nat) (w : Waiting) (s : State), s.mail.waiting.find? (fun w => w.msg.msgid == msgid) = some w ∧ w.resent = false ∧ w.sentAt + 2 ≤ s.clock.now ∧ s.notYetSent msgid = false ∧ s.silenced w.msg = false)
    ∧ (∃ (msgid : Nat) (w : Waiting) (s : State), s.mail.waiting.find? (fun w => w.msg.msgid == msgid) = some w ∧ w.resent = true ∧ w.sentAt + 2 ≤ s.clock.now ∧ s.notYetSent msgid = false)
    ∧ (∃ (m : Msg) (n : TopoNode) (s : State), s.ownSection.node m.src = some n)
    ∧ (∃ (s : State), s.mail.linkNews ≠ [] ∧ s.up.dev ≠ .off ∧ s.up.dev ≠ .halt ∧ (({ s with mail := { s.mail with linkNews := [] } } : State).recordNews s.ownSection s.mail.linkNews).2 ≠ [] ∧ ((({ s with mail := { s.mail with linkNews := [] } } : State).recordNews s.ownSection s.mail.linkNews).2.foldl State.newsRetrain ({ s with mail := { s.mail with linkNews := [] } } : State)).isPrimary = true) :=
  ⟨⟨{ src := 0x8000, dst := 0xF000, type := 4, msgid := 4, flags := 1 }, { msg := request4, sentAt := 0, purpose := 100 }, waiting4 { msg := request4, sentAt := 0, purpose := 100 }, by decide +kernel⟩,
    ⟨{ src := 0x8000, dst := 0xF000, type := 6, msgid := 4, flags := 1, body := zeros 212 }, { msg := request4, sentAt := 0, purpose := Purpose.linkstate.code }, waiting4 { msg := request4, sentAt := 0, purpose := Purpose.linkstate.code } 0 64, by decide +kernel⟩,
    ⟨4, { msg := request4, sentAt := 0 }, waiting4 { msg := request4, sentAt := 0 } 2, by decide +kernel⟩,
    ⟨4, { msg := request4, sentAt := 0, resent := true }, waiting4 { msg := request4, sentAt := 0, resent := true } 2, by decide +kernel⟩,
    ⟨{ src := 0x8000, dst := 0xF000, type := 0x0E }, { serial := 5, addr := 0x8000, kind := 2 }, waiting4 { msg := request4, sentAt := 0 }, by decide +kernel⟩,
    ⟨{ waiting4 { msg := request4, sentAt := 0 } with mail := { primary0.mail with linkNews := [(0x8000, [0, 2, 0, 0, 2, 0, 0, 0, 0, 0, 0, 0])] } }, by decide +kernel⟩⟩

theorem witness_TwillRootCompletes :
    (∃ (f : Flit) (s : State), s.groupOfFlit f = none)
    ∧ (∃ (port : Nat) (f : Flit) (g : Group) (k : Nat) (t : GroupTree) (x : GroupStep) (s : State), s.groupOfFlit f = some (g, k, t) ∧ le f.payload 7 1 ≠ 0 ∧ t.ports.contains port = true ∧ g.stepOf (le f.payload 0 4) = some x ∧ x.verdict = 0)
    ∧ (∃ (f : Flit) (s : State), s.groupOfFlit f = none)
    ∧ (∃ (port : Nat) (f : Flit) (g : Group) (k : Nat) (t : GroupTree) (x : GroupStep) (s : State), s.groupOfFlit f = some (g, k, t) ∧ le f.payload 7 1 = 0 ∧ t.ports.contains port = true ∧ g.stepOf (le f.payload 0 4) = some x ∧ x.verdict = 0)
    ∧ (∃ (group : Nat) (step : Nat) (g : Group) (x : GroupStep) (s : State), s.group group = some g ∧ g.stepOf step = some x ∧ g.t0.root = s.ownAddr ∧ g.mayCommit s.ownAddr x = true)
    ∧ (∃ (group : Nat) (step : Nat) (g : Group) (x : GroupStep) (s : State), s.group group = some g ∧ g.stepOf step = some x ∧ g.t0.root = s.ownAddr ∧ x.verdict = 0 ∧ x.openAt + g.deadline ≤ s.clock.now)
    ∧ (∃ (group : Nat) (g : Group) (s : State), s.group group = some g ∧ g.t0.root = s.ownAddr) :=
  ⟨⟨{}, primary0, by decide +kernel⟩,
    ⟨3, { dst := 0xF000, stream := 20, payload := [5, 0, 0, 0, 0, 0, 0, 1] }, group1 [{ step := 5, openAt := 0 }], 0, tree0, { step := 5, openAt := 0 }, weaving [{ step := 5, openAt := 0 }], by decide +kernel⟩,
    ⟨{}, primary0, by decide +kernel⟩,
    ⟨3, { dst := 0xF000, stream := 20, payload := [5, 0, 0, 0, 0, 0, 0, 0] }, group1 [{ step := 5, openAt := 0 }], 0, tree0, { step := 5, openAt := 0 }, weaving [{ step := 5, openAt := 0 }], by decide +kernel⟩,
    ⟨1, 5, group1 [doneStep], doneStep, weaving [doneStep], by decide +kernel⟩,
    ⟨1, 5, group1 [{ step := 5, openAt := 0 }], { step := 5, openAt := 0 }, weaving [{ step := 5, openAt := 0 }] 16, by decide +kernel⟩,
    ⟨1, group1 [], weaving [], by decide +kernel⟩⟩

theorem witness_TwillAgentCompletes :
    (∃ (f : Flit) (s : State), s.treeOfFlit f = none)
    ∧ (∃ (f : Flit) (e : TreeEntry) (s : State), s.treeOfFlit f = some e ∧ f.vc = 3 ∧ le f.payload 7 1 = 0 ∧ s.agentForwards = true)
    ∧ (∃ (f : Flit) (e : TreeEntry) (s : State), s.treeOfFlit f = some e ∧ f.vc = 3 ∧ le f.payload 7 1 ≠ 0 ∧ s.agentForwards = true)
    ∧ (∃ (f : Flit) (e : TreeEntry) (s : State), s.treeOfFlit f = some e ∧ f.vc ≠ 3 ∧ le f.payload 7 1 = 0 ∧ s.agentForwards = true)
    ∧ (∃ (f : Flit) (e : TreeEntry) (s : State), s.treeOfFlit f = some e ∧ f.vc ≠ 3 ∧ le f.payload 7 1 ≠ 0 ∧ s.agentForwards = true)
    ∧ (∃ (f : Flit) (e : TreeEntry) (s : State), s.treeOfFlit { f with vc := 3 } = some e ∧ (e.tree == 1) = false ∧ le f.payload 7 1 ≠ 0 ∧ (s.memberOf e.group (le f.payload 0 4)).dend0 = none ∧ s.agentForwards = true)
    ∧ (∃ (f : Flit) (e : TreeEntry) (y : Tally) (s : State), s.treeOfFlit { f with vc := 3 } = some e ∧ (e.tree == 1) = false ∧ le f.payload 7 1 = 0 ∧ (talliesOf f.payload).find? (fun y => y.type == 4) = some y ∧ (s.memberOf e.group (le f.payload 0 4)).receipt0 = false ∧ y.data ≤ (s.memberOf e.group (le f.payload 0 4)).cover0 ∧ s.agentForwards = true)
    ∧ (∃ (m : Msg) (e : TreeEntry) (s : State), s.agentTree (le m.content 2 1) (le m.content 0 2) = some e ∧ s.agent.core.kind ≠ 1 ∧ s.agentForwards = true)
    ∧ (∃ (m : Msg) (e : TreeEntry) (s : State), s.agentTree (le m.content 2 1) (le m.content 0 2) = some e ∧ s.agent.core.kind = 1 ∧ ((s.forwardVc1 m m.content e.children).memberOf (le m.content 0 2) (le m.content 4 4)).verdict = 0 ∧ le m.content 14 4 = 0 ∧ s.agentForwards = true) :=
  ⟨⟨{}, primary0, by decide +kernel⟩,
    ⟨{ vc := 3, stream := 21 }, entry1, weaver 2, by decide +kernel⟩,
    ⟨{ vc := 3, stream := 21, payload := [5, 0, 0, 0, 0, 0, 0, 1] }, entry1, weaver 2, by decide +kernel⟩,
    ⟨{ vc := 2, stream := 20 }, entry1, weaver 2, by decide +kernel⟩,
    ⟨{ vc := 2, stream := 20, payload := [5, 0, 0, 0, 0, 0, 0, 1] }, entry1, weaver 2, by decide +kernel⟩,
    ⟨{ stream := 21, payload := [5, 0, 0, 0, 0, 0, 0, 1] }, entry1, weaver 1, by decide +kernel⟩,
    ⟨{ stream := 21, payload := [5, 0, 0, 0, 0, 0, 0, 0, 4, 0, 0, 0, 0, 0, 0, 0] }, entry1, { type := 4, flags := 0, addr := 0, data := 0 }, weaver 1, by decide +kernel⟩,
    ⟨verdictMsg, entry1, weaver 2, by decide +kernel⟩,
    ⟨verdictMsg, entry1, weaver 1, by decide +kernel⟩⟩

theorem witness_MirrorCompletes :
    (∃ (m : Msg) (s : State), s.senderMay m.src 0x0D = true ∧ m.src = s.twinAddr ∧ s.twin.role ≠ 0 ∧ s.twin.assigned = true ∧ (le m.body 0 4 + 2 ^ 32 - s.twin.received) % 2 ^ 32 = 0)
    ∧ (∃ (m : Msg) (s : State), s.senderMay m.src 0x0D = true ∧ m.src = s.twinAddr ∧ s.twin.role ≠ 0 ∧ s.twin.assigned = true ∧ (le m.body 0 4 + 2 ^ 32 - s.twin.received) % 2 ^ 32 = 1 ∧ s.twin.held.any (fun x => x.seq == le m.body 0 4) = false ∧ s.twin.mirror ≠ .resync)
    ∧ (∃ (m : Msg) (s : State), s.senderMay m.src 0x0D = true ∧ m.src = s.twinAddr ∧ s.twin.role ≠ 0 ∧ s.twin.assigned = true ∧ 1 < (le m.body 0 4 + 2 ^ 32 - s.twin.received) % 2 ^ 32 ∧ (le m.body 0 4 + 2 ^ 32 - s.twin.received) % 2 ^ 32 < 2 ^ 31 ∧ s.twin.held.any (fun x => x.seq == le m.body 0 4) = false ∧ s.twin.mirror ≠ .resync)
    ∧ (∃ (m : Msg) (s : State), s.senderMay m.src 0x0D = true ∧ m.src = s.twinAddr ∧ s.isPrimary = true)
    ∧ (∃ (seq : Nat) (d : Delta) (s : State), s.twin.unacked.find? (fun d => d.seq == seq) = some d ∧ s.isPrimary = true ∧ (s.twin.mirror = .inSync ∨ s.twin.mirror = .resync))
    ∧ (∃ (d : Delta) (s : State), s.twin.unacked.find? (fun d => decide (d.at_ + 1 ≤ s.clock.now)) = some d ∧ s.isPrimary = true ∧ (s.twin.mirror = .inSync ∨ s.twin.mirror = .resync))
    ∧ (∃ (m : Msg) (s : State), s.senderMay m.src 0x0D = true ∧ m.src = s.twinAddr ∧ s.isPrimary = true)
    ∧ (∃ (m : Msg) (s : State), s.senderMay m.src 0x0D = true ∧ m.src = s.twinAddr ∧ s.twin.role ≠ 0 ∧ s.twin.mirror = .resync) :=
  ⟨⟨fromTwin1 0x70 [4], twinned { assigned := true, role := 1, mirror := .inSync, received := 4 }, by decide +kernel⟩,
    ⟨fromTwin1 0x70 [5], twinned { assigned := true, role := 1, mirror := .inSync, received := 4 }, by decide +kernel⟩,
    ⟨fromTwin1 0x70 [6], twinned { assigned := true, role := 1, mirror := .inSync, received := 4 }, by decide +kernel⟩,
    ⟨fromTwin1 0x71 [4], twinned { assigned := true, role := 0, mirror := .inSync, unacked := [{ seq := 4, tick := 0, kind := 5, last := true, obj := 0, data := [], at_ := 0 }] }, by decide +kernel⟩,
    ⟨4, { seq := 4, tick := 0, kind := 5, last := true, obj := 0, data := [], at_ := 0 }, twinned { assigned := true, role := 0, mirror := .inSync, unacked := [{ seq := 4, tick := 0, kind := 5, last := true, obj := 0, data := [], at_ := 0 }] }, by decide +kernel⟩,
    ⟨{ seq := 4, tick := 0, kind := 5, last := true, obj := 0, data := [], at_ := 0 }, twinned { assigned := true, role := 0, mirror := .inSync, unacked := [{ seq := 4, tick := 0, kind := 5, last := true, obj := 0, data := [], at_ := 0 }] } 1, by decide +kernel⟩,
    ⟨fromTwin1 0x74 [], twinned { assigned := true, role := 0, mirror := .inSync, unacked := [{ seq := 4, tick := 0, kind := 5, last := true, obj := 0, data := [], at_ := 0 }] }, by decide +kernel⟩,
    ⟨fromTwin1 0x75 [], twinned { assigned := true, role := 1, mirror := .resync }, by decide +kernel⟩⟩

theorem witness_TwinRolesComplete :
    (∃ (t : Nat) (s : State), s.twin.deposeDue = some t ∧ s.isPrimary = true)
    ∧ (∃ (s : State), s.armed = true ∧ (s.twinSilent = true ∨ s.twin.haltNotice = some (s.clock.now - 1) ∧ 1 ≤ s.clock.now))
    ∧ (∃ (m : Msg) (s : State), s.senderMay m.src 0x0D = true ∧ m.src = s.twinAddr ∧ s.isPrimary = true ∧ le m.body 0 1 = 0)
    ∧ (∃ (m : Msg) (s : State), s.senderMay m.src 0x0D = true ∧ m.src = s.twinAddr ∧ s.isPrimary = false ∧ (s.twin.assigned = false ∨ le m.body 0 1 ≠ 0))
    ∧ (∃ (m : Msg) (s : State), s.senderMay m.src 0x0D = true ∧ m.src = s.twinAddr)
    ∧ (∃ (m : Msg) (s : State), s.senderMay m.src 0x0D = true ∧ field m.body 20 32 ≠ field s.twin.listDigest 0 32)
    ∧ (∃ (m : Msg) (q : Peer) (s : State), s.senderMay m.src 0x0D = true ∧ field m.body 20 32 = field s.twin.listDigest 0 32 ∧ (s.modPeer m.src (fun p => { p with
        heard := some s.clock.now, heardTick := le m.body 12 6, role := le m.body 0 1, dev := le m.body 1 1, tiles := le m.body 2 1
        token := le m.body 4 8, mismatch := false, absent := false
        healthySince := if le m.body 0 1 = 0 ∧ 7 ≤ le m.body 1 1 ∧ le m.body 1 1 ≤ 9 then some (p.healthySince.getD s.clock.now) else none })).peerAt m.src = some q)
    ∧ (∃ (id : Nat) (t : Nat) (p : Peer) (s : State), s.twin.peers.find? (fun p => p.id == id) = some p ∧ p.heard = some t ∧ t + 256 ≤ s.clock.now ∧ id ≠ s.ownId) :=
  ⟨⟨9, twinned { assigned := true, role := 0, deposeDue := some 9 }, by decide +kernel⟩,
    ⟨twinned { assigned := true, role := 1, mirror := .inSync, token := 1, heardRole := some 0, heardMirror := 0 } 100000, by decide +kernel⟩,
    ⟨fromTwin1 0x72 [], twinned { assigned := true, role := 0, mirror := .inSync, unacked := [{ seq := 4, tick := 0, kind := 5, last := true, obj := 0, data := [], at_ := 0 }] }, by decide +kernel⟩,
    ⟨fromTwin1 0x72 [1], twinned { assigned := true, role := 1, mirror := .inSync, received := 4 }, by decide +kernel⟩,
    ⟨fromTwin1 0x73 [], twinned { assigned := true, role := 1, mirror := .inSync, received := 4 }, by decide +kernel⟩,
    ⟨fromPeer 2 0x76 (zeros 20 ++ [1]), peered peer2, by decide +kernel⟩,
    ⟨fromPeer 2 0x76 [], { peer2 with heard := some 0, role := 0, absent := false }, peered peer2, by decide +kernel⟩,
    ⟨2, 0, { peer2 with heard := some 0, absent := false }, { peered { peer2 with heard := some 0, absent := false } with clock := { primary0.clock with now := 256 } }, by decide +kernel⟩⟩

theorem witness_PacketFetchCompletes :
    (∃ (port : Nat) (ring : Nat) (packet : Packet) (s : State), s.fetchNext = some (64 * port + ring) ∧ s.asksFetch port ring = true ∧ packet.seq = (s.ring port ring).seqExp ∧ packet.nsig ≠ 3 ∧ packet.len ≤ 4096 ∧ packetSlots packet ≤ (s.ring port ring).covered)
    ∧ (∃ (port : Nat) (ring : Nat) (packet : Packet) (s : State), s.fetchNext = some (64 * port + ring) ∧ s.asksFetch port ring = true ∧ packet.seq = (s.ring port ring).seqExp ∧ packet.nsig ≠ 3 ∧ packet.len ≤ 4096 ∧ (s.ring port ring).covered < packetSlots packet)
    ∧ (∃ (port : Nat) (ring : Nat) (packet : Packet) (s : State), s.fetchNext = some (64 * port + ring) ∧ s.asksFetch port ring = true ∧ packet.seq ≠ (s.ring port ring).seqExp)
    ∧ (∃ (port : Nat) (ring : Nat) (packet : Packet) (s : State), s.fetchNext = some (64 * port + ring) ∧ s.asksFetch port ring = true ∧ packet.seq = (s.ring port ring).seqExp ∧ packet.nsig = 3)
    ∧ (∃ (port : Nat) (ring : Nat) (packet : Packet) (s : State), s.fetchNext = some (64 * port + ring) ∧ s.asksFetch port ring = true ∧ packet.seq = (s.ring port ring).seqExp ∧ packet.nsig ≠ 3 ∧ 4096 < packet.len)
    ∧ (∃ (port : Nat) (ring : Nat) (s : State), s.fetchNext = some (64 * port + ring) ∧ s.asksFetch port ring = true)
    ∧ (∃ (digest : Bytes) (c : Cmd) (s : State), s.expiredHold digest = some c)
    ∧ (∃ (id : Nat) (c : Cmd) (s : State), s.cmd id = some c ∧ c.phase = .drain ∧ c.since + 3750000 ≤ s.clock.now)
    ∧ (∃ (id : Nat) (c : Cmd) (op : HostOp) (s : State), s.cmd id = some c ∧ hostOp c.pkt.opcode = some op ∧ c.phase = .drain ∧ op.target c.pkt s = .ok ∧ s.hasRight op c.master = true)
    ∧ (∃ (s : State), s.up.dev ≠ .halt ∧ s.up.dev ≠ .off) :=
  ⟨⟨0, 0, packet0, fetching, by decide +kernel⟩,
    ⟨0, 0, { packet0 with len := 4096 }, fetching, by decide +kernel⟩,
    ⟨0, 0, { packet0 with seq := 9 }, fetching, by decide +kernel⟩,
    ⟨0, 0, { packet0 with flags := 24 }, fetching, by decide +kernel⟩,
    ⟨0, 0, { packet0 with len := 4097 }, fetching, by decide +kernel⟩,
    ⟨0, 0, fetching, by decide +kernel⟩,
    ⟨heldCmd.pkt.digest, heldCmd, holding heldCmd 8, by decide +kernel⟩,
    ⟨4, drainedCmd, holding drainedCmd 3750000, by decide +kernel⟩,
    ⟨4, drainedCmd, opLinkRetrain, { fetching with host := { fetching.host with cmds := [drainedCmd] } }, by decide +kernel, rfl, rfl, by decide +kernel, by decide +kernel⟩,
    ⟨primary0, by decide +kernel⟩⟩

theorem witness_QueriesAnswer :
    (∃ (p : Packet) (s : State), Admitted opIdentify p s = true ∧ p.effTick = 0)
    ∧ (∃ (p : Packet) (s : State), Admitted opFloorplanGet p s = true ∧ p.effTick = 0)
    ∧ (∃ (p : Packet) (s : State), Admitted opStateGet p s = true ∧ p.effTick = 0)
    ∧ (∃ (p : Packet) (s : State), Admitted opNop p s = true ∧ p.effTick = 0)
    ∧ (∃ (p : Packet) (s : State), Admitted opLoopback p s = true ∧ p.effTick = 0)
    ∧ (∃ (p : Packet) (s : State), Admitted opTickStatus p s = true ∧ p.effTick = 0)
    ∧ (∃ (p : Packet) (s : State), Admitted opTickRunaheadGet p s = true ∧ p.effTick = 0)
    ∧ (∃ (p : Packet) (s : State), Admitted opStreamRead p s = true ∧ p.effTick = 0)
    ∧ (∃ (p : Packet) (s : State), Admitted opCosignStateGet p s = true ∧ p.effTick = 0)
    ∧ (∃ (p : Packet) (s : State), Admitted opEventViewGet p s = true ∧ p.effTick = 0)
    ∧ (∃ (p : Packet) (s : State), Admitted opFaultSummaryGet p s = true ∧ p.effTick = 0)
    ∧ (∃ (p : Packet) (s : State), Admitted opTwinStatus p s = true ∧ p.effTick = 0)
    ∧ (∃ (p : Packet) (s : State), Admitted opPeerStatus p s = true ∧ p.effTick = 0)
    ∧ (∃ (p : Packet) (s : State), Admitted opPowerStatus p s = true ∧ p.effTick = 0) :=
  ⟨⟨packet0, fetching, by decide +kernel⟩,
    ⟨packet0, fetching, by decide +kernel⟩,
    ⟨packet0, fetching, by decide +kernel⟩,
    ⟨packet0, fetching, by decide +kernel⟩,
    ⟨packet0, fetching, by decide +kernel⟩,
    ⟨packet0, fetching, by decide +kernel⟩,
    ⟨packet0, fetching, by decide +kernel⟩,
    ⟨hostPacket [0, 0, 4, 0, 0, 0, 0, 0], fetching, by decide +kernel⟩,
    ⟨packet0, fetching, by decide +kernel⟩,
    ⟨hostPacket (zeros 8 ++ [1] ++ zeros 7), fetching, by decide +kernel⟩,
    ⟨hostPacket (zeros 4), fetching, by decide +kernel⟩,
    ⟨packet0, fetching, by decide +kernel⟩,
    ⟨packet0, fetching, by decide +kernel⟩,
    ⟨packet0, fetching, by decide +kernel⟩⟩

theorem witness_StateQueriesAnswer :
    (∃ (p : Packet) (s : State), Admitted opDiscoverStatus p s = true ∧ p.effTick = 0)
    ∧ (∃ (p : Packet) (s : State), Admitted opTopologyGet p s = true ∧ p.effTick = 0)
    ∧ (∃ (p : Packet) (s : State), Admitted opRouteStatus p s = true ∧ p.effTick = 0)
    ∧ (∃ (p : Packet) (s : State), Admitted opSliceGet p s = true ∧ p.effTick = 0)
    ∧ (∃ (p : Packet) (s : State), Admitted opAccessGet p s = true ∧ p.effTick = 0)
    ∧ (∃ (p : Packet) (s : State), Admitted opGroupStatus p s = true ∧ p.effTick = 0)
    ∧ (∃ (p : Packet) (s : State), Admitted opPlanStatus p s = true ∧ p.effTick = 0)
    ∧ (∃ (p : Packet) (s : State), Admitted opTableStatus p s = true ∧ p.effTick = 0)
    ∧ (∃ (p : Packet) (s : State), Admitted opTableRead p s = true ∧ p.effTick = 0)
    ∧ (∃ (p : Packet) (s : State), Admitted opGenerationStatus p s = true ∧ p.effTick = 0)
    ∧ (∃ (p : Packet) (s : State), Admitted opMtrBatchGet p s = true ∧ p.effTick = 0)
    ∧ (∃ (p : Packet) (s : State), Admitted opMtrJobEnergyGet p s = true ∧ p.effTick = 0)
    ∧ (∃ (p : Packet) (s : State), Admitted opMtrAuditGet p s = true ∧ p.effTick = 0)
    ∧ (∃ (p : Packet) (s : State), Admitted opMtrIdentityGet p s = true ∧ p.effTick = 0)
    ∧ (∃ (p : Packet) (s : State), Admitted opCountersGet p s = true ∧ p.effTick = 0)
    ∧ (∃ (p : Packet) (s : State), Admitted opAgentCountersRead p s = true ∧ p.effTick = 0)
    ∧ (∃ (p : Packet) (s : State), Admitted opAttestGet p s = true ∧ p.effTick = 0)
    ∧ (∃ (p : Packet) (s : State), Admitted opDebugChallenge p s = true ∧ p.effTick = 0) :=
  ⟨⟨packet0, fetching, by decide +kernel⟩,
    ⟨hostPacket (zeros 12), fetching, by decide +kernel⟩,
    ⟨packet0, fetching, by decide +kernel⟩,
    ⟨packet0, fetching, by decide +kernel⟩,
    ⟨hostPacket (zeros 8), fetching, by decide +kernel⟩,
    ⟨hostPacket [1, 0] 1, hostWith1, by decide +kernel⟩,
    ⟨hostPacket [1, 0] 1, hostWith1, by decide +kernel⟩,
    ⟨hostPacket [1, 0] 1, hostWith1, by decide +kernel⟩,
    ⟨hostPacket ([1, 0, 0, 0, 1] ++ zeros 11) 1, hostWith1, by decide +kernel⟩,
    ⟨hostPacket (zeros 4) 1, hostWith1, by decide +kernel⟩,
    ⟨hostPacket (zeros 8 ++ [1, 0]), metered1, by decide +kernel⟩,
    ⟨hostPacket (zeros 8 ++ [1, 0]) 1, metered1, by decide +kernel⟩,
    ⟨hostPacket (zeros 4 ++ [1, 0]), metered1, by decide +kernel⟩,
    ⟨packet0, metered1, by decide +kernel⟩,
    ⟨hostPacket (zeros 12), fetching, by decide +kernel⟩,
    ⟨hostPacket [0, 128, 0, 0, 0, 0, 1, 0], hostWith1, by decide +kernel⟩,
    ⟨hostPacket (zeros 48), fetching, by decide +kernel⟩,
    ⟨packet0, fetching, by decide +kernel⟩⟩

theorem witness_DeviceCommandsComplete :
    (∃ (p : Packet) (s : State), Admitted opDeviceReset p s = true ∧ p.effTick = 0)
    ∧ (∃ (p : Packet) (s : State), Admitted opCmdCancel p s = true ∧ p.effTick = 0)
    ∧ (∃ (p : Packet) (s : State), Admitted opTickConfig p s = true ∧ p.effTick = 0)
    ∧ (∃ (p : Packet) (s : State), Admitted opTickStart p s = true ∧ p.effTick = 0)
    ∧ (∃ (p : Packet) (s : State), Admitted opCosignWithdraw p s = true ∧ p.effTick = 0)
    ∧ (∃ (p : Packet) (s : State), Admitted opFaultRelease p s = true ∧ p.effTick = 0)
    ∧ (∃ (p : Packet) (s : State), Admitted opSeveritySet p s = true ∧ p.effTick = 0)
    ∧ (∃ (p : Packet) (s : State), Admitted opUnfence p s = true ∧ p.effTick = 0)
    ∧ (∃ (p : Packet) (s : State), Admitted opOppointSet p s = true ∧ p.effTick = 0)
    ∧ (∃ (p : Packet) (s : State), Admitted opUnitDisable p s = true ∧ p.effTick = 0)
    ∧ (∃ (p : Packet) (s : State), Admitted opUnitEnable p s = true ∧ p.effTick = 0)
    ∧ (∃ (p : Packet) (s : State), Admitted opCurrentDeclare p s = true ∧ p.effTick = 0) :=
  ⟨⟨packet0, fetching, by decide +kernel⟩,
    ⟨hostPacket ([0, 0, 0, 0, 9, 0, 0, 0]), fetchingWith, by decide +kernel⟩,
    ⟨hostPacket ([16, 0] ++ zeros 6), fetching, by decide +kernel⟩,
    ⟨packet0, fetching, by decide +kernel⟩,
    ⟨hostPacket (zeros 32), fetching, by decide +kernel⟩,
    ⟨packet0, fetching, by decide +kernel⟩,
    ⟨hostPacket ([1] ++ zeros 15), fetching, by decide +kernel⟩,
    ⟨hostPacket ([0, 1] ++ zeros 6), fetching, by decide +kernel⟩,
    ⟨hostPacket (List.replicate 16 0xFF), fetching, by decide +kernel⟩,
    ⟨hostPacket ([1] ++ zeros 7), fetching, by decide +kernel⟩,
    ⟨hostPacket ([1] ++ zeros 7), fetching, by decide +kernel⟩,
    ⟨hostPacket ([0, 128, 0, 128] ++ zeros 12) 1, hostWith1, by decide +kernel⟩⟩

theorem witness_FabricCommandsComplete :
    (∃ (p : Packet) (s : State), Admitted opDiscoverStart p s = true ∧ p.effTick = 0)
    ∧ (∃ (p : Packet) (s : State), Admitted opRackAbsorb p s = true ∧ p.effTick = 0)
    ∧ (∃ (p : Packet) (id : Nat) (c : Cmd) (s : State), s.cmd id = some c ∧ c.pkt = asOp opRackAbsorb p ∧ c.endStatus = 0)
    ∧ (∃ (p : Packet) (s : State), Admitted opLinkRetrain p s = true ∧ p.effTick = 0)
    ∧ (∃ (p : Packet) (s : State), Admitted opShelfAssign p s = true ∧ p.effTick = 0)
    ∧ (∃ (p : Packet) (s : State), Admitted opRouteSolve p s = true ∧ p.effTick = 0)
    ∧ (∃ (p : Packet) (s : State), Admitted opRouteStage p s = true ∧ p.effTick = 0)
    ∧ (∃ (p : Packet) (s : State), Admitted opFailoverPrepare p s = true ∧ p.effTick = 0)
    ∧ (∃ (p : Packet) (s : State), Admitted opRoutePin p s = true ∧ p.effTick = 0)
    ∧ (∃ (p : Packet) (id : Nat) (c : Cmd) (s : State), s.cmd id = some c ∧ c.pkt = asOp opRoutePin p ∧ c.endStatus = 0)
    ∧ (∃ (p : Packet) (s : State), Admitted opRouteUnpin p s = true ∧ p.effTick = 0)
    ∧ (∃ (p : Packet) (id : Nat) (c : Cmd) (s : State), s.cmd id = some c ∧ c.pkt = asOp opRouteUnpin p ∧ c.endStatus = 0)
    ∧ (∃ (p : Packet) (s : State), Admitted opRouteCommit p s = true ∧ p.effTick ≠ 0) :=
  ⟨⟨hostPacket (zeros 8), fetching, by decide +kernel⟩,
    ⟨hostPacket (zeros 8), fetching, by decide +kernel⟩,
    ⟨packet0, 4, heldAt 0x0204, { primary0 with host := { primary0.host with cmds := [heldAt 0x0204] } }, by decide +kernel, rfl, rfl⟩,
    ⟨hostPacket [0, 0x80, 0], retrainable, by decide +kernel⟩,
    ⟨hostPacket ([1] ++ zeros 7 ++ [0, 128, 0, 128] ++ zeros 4), hostWith1, by decide +kernel⟩,
    ⟨hostPacket ([0, 2, 1, 0] ++ zeros 12), fetching, by decide +kernel⟩,
    ⟨hostPacket [7, 0, 0, 0, 0, 0, 0, 0], stageable, by decide +kernel⟩,
    ⟨hostPacket (zeros 8), fetching, by decide +kernel⟩,
    ⟨hostPacket [0, 128, 0, 128, 0, 128, 1, 0, 0, 255, 255, 255], hostWith1, by decide +kernel⟩,
    ⟨packet0, 4, heldAt 0x0304, { primary0 with host := { primary0.host with cmds := [heldAt 0x0304] } }, by decide +kernel, rfl, rfl⟩,
    ⟨hostPacket [3, 0, 0], stageable, by decide +kernel⟩,
    ⟨packet0, 4, heldAt 0x0305, { primary0 with host := { primary0.host with cmds := [heldAt 0x0305] } }, by decide +kernel, rfl, rfl⟩,
    ⟨{ hostPacket [7, 0, 0, 0, 0, 0, 0, 0] with effTick := 20 }, stagedHost, by decide +kernel⟩⟩

theorem witness_CollectiveCommandsComplete :
    (∃ (p : Packet) (s : State), Admitted opGroupCreate p s = true ∧ p.effTick = 0)
    ∧ (∃ (p : Packet) (id : Nat) (c : Cmd) (s : State), s.cmd id = some c ∧ c.pkt = asOp opGroupCreate p ∧ c.endStatus = 0)
    ∧ (∃ (p : Packet) (s : State), Admitted opGroupDestroy p s = true ∧ p.effTick = 0)
    ∧ (∃ (p : Packet) (id : Nat) (c : Cmd) (s : State), s.cmd id = some c ∧ c.pkt = asOp opGroupDestroy p ∧ c.endStatus = 0)
    ∧ (∃ (p : Packet) (s : State), Admitted opPlanCreate p s = true ∧ p.effTick = 0)
    ∧ (∃ (p : Packet) (id : Nat) (c : Cmd) (s : State), s.cmd id = some c ∧ c.pkt = asOp opPlanCreate p ∧ c.endStatus = 0)
    ∧ (∃ (p : Packet) (s : State), Admitted opPlanDestroy p s = true ∧ p.effTick = 0)
    ∧ (∃ (p : Packet) (s : State), Admitted opTableCreate p s = true ∧ p.effTick = 0)
    ∧ (∃ (p : Packet) (id : Nat) (c : Cmd) (s : State), s.cmd id = some c ∧ c.pkt = asOp opTableCreate p ∧ c.endStatus = 0)
    ∧ (∃ (p : Packet) (s : State), Admitted opTableDestroy p s = true ∧ p.effTick = 0)
    ∧ (∃ (p : Packet) (id : Nat) (c : Cmd) (s : State), s.cmd id = some c ∧ c.pkt = asOp opTableDestroy p ∧ c.endStatus = 0)
    ∧ (∃ (p : Packet) (s : State), Admitted opTableConfig p s = true ∧ p.effTick = 0)
    ∧ (∃ (p : Packet) (id : Nat) (c : Cmd) (s : State), s.cmd id = some c ∧ c.pkt = asOp opTableConfig p ∧ c.endStatus = 0)
    ∧ (∃ (p : Packet) (s : State), Admitted opTableSnapshot p s = true ∧ p.effTick = 0)
    ∧ (∃ (p : Packet) (id : Nat) (c : Cmd) (s : State), s.cmd id = some c ∧ c.pkt = asOp opTableSnapshot p ∧ c.endStatus = 0)
    ∧ (∃ (p : Packet) (s : State), Admitted opTableLoad p s = true ∧ p.effTick = 0)
    ∧ (∃ (p : Packet) (id : Nat) (c : Cmd) (s : State), s.cmd id = some c ∧ c.pkt = asOp opTableLoad p ∧ c.endStatus = 0) :=
  ⟨⟨hostPacket ([1, 0, 0, 0, 1, 0, 0, 1, 0, 0, 0, 0, 1, 0, 0, 0, 0, 0, 1, 0]) 1, hostFor1, by decide +kernel⟩,
    ⟨packet0, 4, heldAt 0x0501, { primary0 with host := { primary0.host with cmds := [heldAt 0x0501] } }, by decide +kernel, rfl, rfl⟩,
    ⟨hostPacket [1, 0] 1, hostWith1, by decide +kernel⟩,
    ⟨packet0, 4, heldAt 0x0502, { primary0 with host := { primary0.host with cmds := [heldAt 0x0502] } }, by decide +kernel, rfl, rfl⟩,
    ⟨hostPacket ([8, 0, 0, 0, 0, 0, 0, 0, 1, 0, 0, 0, 0, 0, 0, 0, 1, 0, 0, 0, 0, 0, 1, 0]) 1, hostFor1, by decide +kernel⟩,
    ⟨packet0, 4, heldAt 0x0601, { primary0 with host := { primary0.host with cmds := [heldAt 0x0601] } }, by decide +kernel, rfl, rfl⟩,
    ⟨hostPacket [1, 0] 1, hostWith1, by decide +kernel⟩,
    ⟨hostPacket ([1, 0, 0, 0, 16, 0, 0, 0, 8] ++ zeros 39) 1, hostFor1, by decide +kernel⟩,
    ⟨packet0, 4, heldAt 0x0701, { primary0 with host := { primary0.host with cmds := [heldAt 0x0701] } }, by decide +kernel, rfl, rfl⟩,
    ⟨hostPacket [1, 0] 1, hostWith1, by decide +kernel⟩,
    ⟨packet0, 4, heldAt 0x0702, { primary0 with host := { primary0.host with cmds := [heldAt 0x0702] } }, by decide +kernel, rfl, rfl⟩,
    ⟨hostPacket ([1, 0] ++ zeros 26) 1, hostWith1, by decide +kernel⟩,
    ⟨packet0, 4, heldAt 0x0705, { primary0 with host := { primary0.host with cmds := [heldAt 0x0705] } }, by decide +kernel, rfl, rfl⟩,
    ⟨hostPacket ([1, 0, 0, 0, 1, 0, 0, 0]) 1, snapshooting, by decide +kernel⟩,
    ⟨packet0, 4, heldAt 0x0707, { primary0 with host := { primary0.host with cmds := [heldAt 0x0707] } }, by decide +kernel, rfl, rfl⟩,
    ⟨hostPacket ([1, 0] ++ zeros 14) 1, hostWith1, by decide +kernel⟩,
    ⟨packet0, 4, heldAt 0x0703, { primary0 with host := { primary0.host with cmds := [heldAt 0x0703] } }, by decide +kernel, rfl, rfl⟩⟩

theorem witness_StoreCommandsComplete :
    (∃ (p : Packet) (s : State), Admitted opStoreCarve p s = true ∧ p.effTick = 0)
    ∧ (∃ (p : Packet) (s : State), Admitted opStoreMode p s = true ∧ p.effTick = 0)
    ∧ (∃ (p : Packet) (s : State), Admitted opGenerationDrop p s = true ∧ p.effTick = 0)
    ∧ (∃ (p : Packet) (s : State), Admitted opRoleAssign p s = true ∧ p.effTick = 0)
    ∧ (∃ (p : Packet) (s : State), Admitted opPeerListSet p s = true ∧ p.effTick = 0)
    ∧ (∃ (p : Packet) (s : State), Admitted opTakeover p s = true ∧ p.effTick = 0)
    ∧ (∃ (p : Packet) (s : State), Admitted opGenerationOpen p s = true ∧ p.effTick = 0)
    ∧ (∃ (p : Packet) (id : Nat) (c : Cmd) (s : State), s.cmd id = some c ∧ c.pkt = asOp opGenerationOpen p ∧ c.endStatus = 0)
    ∧ (∃ (p : Packet) (s : State), Admitted opRestoreStart p s = true ∧ p.effTick = 0)
    ∧ (∃ (p : Packet) (s : State), Admitted opShelfBudgetSet p s = true ∧ p.effTick = 0)
    ∧ (∃ (p : Packet) (id : Nat) (c : Cmd) (s : State), s.cmd id = some c ∧ c.pkt = asOp opShelfBudgetSet p ∧ c.endStatus = 0) :=
  ⟨⟨hostPacket [0], fetching, by decide +kernel⟩,
    ⟨hostPacket (zeros 8), fetching, by decide +kernel⟩,
    ⟨hostPacket [1, 0, 0, 0] 1, hostWith1, by decide +kernel⟩,
    ⟨hostPacket ([0] ++ zeros 7 ++ [9] ++ zeros 7), fetching, by decide +kernel⟩,
    ⟨hostPacket ([2] ++ zeros 7 ++ zeros 16 ++ [1] ++ zeros 15), fetching, by decide +kernel⟩,
    ⟨hostPacket ([9] ++ zeros 7 ++ [1] ++ zeros 7), secondaryHost, by decide +kernel⟩,
    ⟨hostPacket ([1] ++ zeros 15) 1, hostFor1, by decide +kernel⟩,
    ⟨packet0, 4, heldAt 0x0803, { primary0 with host := { primary0.host with cmds := [heldAt 0x0803] } }, by decide +kernel, rfl, rfl⟩,
    ⟨hostPacket ([1, 0, 0, 0] ++ zeros 4) 1, hostWith1, by decide +kernel⟩,
    ⟨hostPacket ([1] ++ zeros 7 ++ [0, 0, 10, 0, 100, 0, 0, 0]), fetching, by decide +kernel⟩,
    ⟨packet0, 4, heldAt 0x0903, { primary0 with host := { primary0.host with cmds := [heldAt 0x0903] } }, by decide +kernel, rfl, rfl⟩⟩

theorem witness_SecurityCommandsComplete :
    (∃ (p : Packet) (s : State), Admitted opFwStage p s = true ∧ p.effTick = 0)
    ∧ (∃ (p : Packet) (s : State), Admitted opFwActivate p s = true ∧ p.effTick = 0)
    ∧ (∃ (p : Packet) (s : State), Admitted opMtrParamSet p s = true ∧ p.effTick = 0)
    ∧ (∃ (p : Packet) (s : State), Admitted opSparePromote p s = true ∧ p.effTick = 0)
    ∧ (∃ (p : Packet) (s : State), Admitted opKeyRotate p s = true ∧ p.effTick ≠ 0)
    ∧ (∃ (p : Packet) (id : Nat) (c : Cmd) (s : State), s.cmd id = some c ∧ c.pkt = asOp opKeyRotate p ∧ c.endStatus = 0) :=
  ⟨⟨hostPacket (zeros 8 ++ [0, 16, 0, 0, 0, 0, 0, 0]), fetching, by decide +kernel⟩,
    ⟨hostPacket (zeros 8), imaged, by decide +kernel⟩,
    ⟨{ hostPacket (zeros 16) with flags := 8, sigs := [[]] }, metered1, by decide +kernel⟩,
    ⟨hostPacket ([0, 0, 0xFF, 0xFF] ++ zeros 4) 1, promotable, by decide +kernel⟩,
    ⟨{ hostPacket ([1] ++ zeros 7) 1 with effTick := 20 }, keyed, by decide +kernel⟩,
    ⟨packet0, 4, heldAt 0x0B0A, { primary0 with host := { primary0.host with cmds := [heldAt 0x0B0A] } }, by decide +kernel, rfl, rfl⟩⟩

theorem witness_SignedCommandsComplete :
    (∃ (p : Packet) (s : State), Signable opSliceCreate p s ∧ p.effTick = 0)
    ∧ (∃ (p : Packet) (s : State) (g : List Nat), Signable opSliceCreate p s ∧ p.effTick = 0 ∧ (fetched p s).checkSigs opSliceCreate (asOp opSliceCreate p) (s.masterOf p.port p.ring) = .full g)
    ∧ (∃ (p : Packet) (s : State), Signable opSliceModify p s ∧ p.effTick = 0)
    ∧ (∃ (p : Packet) (s : State) (g : List Nat), Signable opSliceModify p s ∧ p.effTick = 0 ∧ (fetched p s).checkSigs opSliceModify (asOp opSliceModify p) (s.masterOf p.port p.ring) = .full g)
    ∧ (∃ (p : Packet) (s : State), Signable opSliceDestroy p s ∧ p.effTick = 0)
    ∧ (∃ (p : Packet) (id : Nat) (c : Cmd) (s : State), s.cmd id = some c ∧ c.pkt = asOp opSliceDestroy p ∧ c.endStatus = 0)
    ∧ (∃ (p : Packet) (s : State) (g : List Nat), Signable opSliceDestroy p s ∧ p.effTick = 0 ∧ (fetched p s).checkSigs opSliceDestroy (asOp opSliceDestroy p) (s.masterOf p.port p.ring) = .full g)
    ∧ (∃ (p : Packet) (s : State), Signable opAccessSet p s ∧ p.effTick = 0)
    ∧ (∃ (p : Packet) (s : State) (g : List Nat), Signable opAccessSet p s ∧ p.effTick = 0 ∧ (fetched p s).checkSigs opAccessSet (asOp opAccessSet p) (s.masterOf p.port p.ring) = .full g)
    ∧ (∃ (p : Packet) (s : State), Signable opEnrol p s ∧ p.effTick = 0)
    ∧ (∃ (p : Packet) (s : State) (g : List Nat), Signable opEnrol p s ∧ p.effTick = 0 ∧ (fetched p s).checkSigs opEnrol (asOp opEnrol p) (s.masterOf p.port p.ring) = .full g)
    ∧ (∃ (p : Packet) (s : State), Signable opKeyPolicySet p s ∧ p.effTick = 0)
    ∧ (∃ (p : Packet) (s : State) (g : List Nat), Signable opKeyPolicySet p s ∧ p.effTick = 0 ∧ (fetched p s).checkSigs opKeyPolicySet (asOp opKeyPolicySet p) (s.masterOf p.port p.ring) = .full g)
    ∧ (∃ (p : Packet) (s : State), Signable opFwPolicySet p s ∧ p.effTick = 0)
    ∧ (∃ (p : Packet) (s : State) (g : List Nat), Signable opFwPolicySet p s ∧ p.effTick = 0 ∧ (fetched p s).checkSigs opFwPolicySet (asOp opFwPolicySet p) (s.masterOf p.port p.ring) = .full g)
    ∧ (∃ (p : Packet) (s : State), Signable opSeclogClear p s ∧ p.effTick = 0)
    ∧ (∃ (p : Packet) (s : State) (g : List Nat), Signable opSeclogClear p s ∧ p.effTick = 0 ∧ (fetched p s).checkSigs opSeclogClear (asOp opSeclogClear p) (s.masterOf p.port p.ring) = .full g)
    ∧ (∃ (p : Packet) (s : State), Signable opEventClear p s ∧ p.effTick = 0)
    ∧ (∃ (p : Packet) (s : State) (g : List Nat), Signable opEventClear p s ∧ p.effTick = 0 ∧ (fetched p s).checkSigs opEventClear (asOp opEventClear p) (s.masterOf p.port p.ring) = .full g)
    ∧ (∃ (p : Packet) (s : State), Checked opDebugUnlock p s = true ∧ p.effTick = 0 ∧ p.bodyLen = 3120 ∧ ((∀ g, (signedState opDebugUnlock p g s).nonceValid (field p.body 0 32) = true
        ∧ (signedState opDebugUnlock p g s).sec.keys.any (fun k => k.job != 0) = false
        ∧ (signedState opDebugUnlock p g s).checkReserved opDebugUnlock (asOp opDebugUnlock p) (s.masterOf p.port p.ring) = .ok)))
    ∧ (∃ (p : Packet) (s : State) (g : List Nat), Checked opDebugUnlock p s = true ∧ p.effTick = 0 ∧ p.bodyLen = 3120 ∧ ((∀ g, (signedState opDebugUnlock p g s).nonceValid (field p.body 0 32) = true
        ∧ (signedState opDebugUnlock p g s).sec.keys.any (fun k => k.job != 0) = false
        ∧ (signedState opDebugUnlock p g s).checkReserved opDebugUnlock (asOp opDebugUnlock p) (s.masterOf p.port p.ring) = .ok)) ∧ (fetched p s).checkSigs opDebugUnlock (asOp opDebugUnlock p) (s.masterOf p.port p.ring) = .full g ∧ (keyId (field p.body 40 1793) == debugKeyId && falconVerify (field p.body 40 1793) (shake32 (ascii "GN7DBGA1" ++ field p.body 0 32 ++ identityDigest ++ field p.body 32 1)) (field p.body 1840 1280)) = true) :=
  ⟨⟨{ hostPacket (zeros 16 ++ [1, 0, 0, 0, 1, 0] ++ zeros 42 ++ zeros 8) 1 with flags := 4 }, sliceable, ⟨by decide +kernel, fun g => by rfl⟩, rfl⟩,
    ⟨signedPacket opSliceCreate ({ hostPacket (zeros 16 ++ [1, 0, 0, 0, 1, 0] ++ zeros 42 ++ zeros 8) 1 with flags := 4 }) (keyed12 (sliceable)) false, keyed12 (sliceable), [1, 2], ⟨by decide +kernel, fun g => by rfl⟩, rfl, both_sign _ _ _ _ rfl rfl (by decide +kernel) rfl rfl rfl (by decide) (by decide) ⟩,
    ⟨{ hostPacket (zeros 16 ++ [1, 0, 0, 0, 1, 0] ++ zeros 42 ++ zeros 8) 1 with flags := 4 }, promotable, ⟨by decide +kernel, fun g => by rfl⟩, rfl⟩,
    ⟨signedPacket opSliceModify ({ hostPacket (zeros 16 ++ [1, 0, 0, 0, 1, 0] ++ zeros 42 ++ zeros 8) 1 with flags := 4 }) (keyed12 (promotable)) false, keyed12 (promotable), [1, 2], ⟨by decide +kernel, fun g => by rfl⟩, rfl, both_sign _ _ _ _ rfl rfl (by decide +kernel) rfl rfl rfl (by decide) (by decide) ⟩,
    ⟨hostPacket [] 1, promotable, ⟨by decide +kernel, fun g => by rfl⟩, rfl⟩,
    ⟨packet0, 4, heldAt 0x0403, { primary0 with host := { primary0.host with cmds := [heldAt 0x0403] } }, by decide +kernel, rfl, rfl⟩,
    ⟨signedPacket opSliceDestroy (hostPacket [] 1) (keyed12 (promotable)) false, keyed12 (promotable), [1, 2], ⟨by decide +kernel, fun g => by rfl⟩, rfl, both_sign _ _ _ _ rfl rfl (by decide +kernel) rfl rfl rfl (by decide) (by decide) ⟩,
    ⟨hostPacket ([1] ++ zeros 7 ++ [0, 80] ++ zeros 22), fetching, ⟨by decide +kernel, fun g => by rfl⟩, rfl⟩,
    ⟨signedPacket opAccessSet (hostPacket ([1] ++ zeros 7 ++ [0, 80] ++ zeros 22)) (keyed12 (fetching)) false, keyed12 (fetching), [1, 2], ⟨by decide +kernel, fun g => by rfl⟩, rfl, both_sign _ _ _ _ rfl rfl (by decide +kernel) rfl rfl rfl (by decide) (by decide) ⟩,
    ⟨{ packet0 with len := 3601 }, fetching, ⟨by decide +kernel, fun g => by rfl⟩, rfl⟩,
    ⟨signedPacket opEnrol ({ packet0 with len := 3601, params := [3] }) (keyed12 (fetching)) false, keyed12 (fetching), [1, 2], ⟨by decide +kernel, fun g => by rfl⟩, rfl, both_sign _ _ _ _ rfl rfl (by decide +kernel) rfl rfl rfl (by decide) (by decide) ⟩,
    ⟨hostPacket ([0, 3] ++ zeros 22), fetching, ⟨by decide +kernel, fun g => by rfl⟩, rfl⟩,
    ⟨signedPacket opKeyPolicySet (hostPacket ([0, 3] ++ zeros 22)) (keyed12 (fetching)) false, keyed12 (fetching), [1, 2], ⟨by decide +kernel, fun g => by rfl⟩, rfl, both_sign _ _ _ _ rfl rfl (by decide +kernel) rfl rfl rfl (by decide) (by decide) ⟩,
    ⟨hostPacket (zeros 8), imaged, ⟨by decide +kernel, fun g => by rfl⟩, rfl⟩,
    ⟨signedPacket opFwPolicySet (hostPacket (zeros 8)) (keyed12 (imaged)) false, keyed12 (imaged), [1, 2], ⟨by decide +kernel, fun g => by rfl⟩, rfl, both_sign _ _ _ _ rfl rfl (by decide +kernel) rfl rfl rfl (by decide) (by decide) ⟩,
    ⟨hostPacket (zeros 8), fetching, ⟨by decide +kernel, fun g => by rfl⟩, rfl⟩,
    ⟨signedPacket opSeclogClear (hostPacket (zeros 8)) (keyed12 (fetching)) false, keyed12 (fetching), [1, 2], ⟨by decide +kernel, fun g => by rfl⟩, rfl, both_sign _ _ _ _ rfl rfl (by decide +kernel) rfl rfl rfl (by decide) (by decide) ⟩,
    ⟨hostPacket (zeros 8), fetching, ⟨by decide +kernel, fun g => by rfl⟩, rfl⟩,
    ⟨signedPacket opEventClear (hostPacket (zeros 8)) (keyed12 (fetching)) true, keyed12 (fetching), [1], ⟨by decide +kernel, fun g => by rfl⟩, rfl, operator_signs _ _ _ _ rfl rfl (by decide +kernel) rfl rfl (by decide) ⟩,
    ⟨{ packet0 with len := 3120, params := zeros 32 }, challenged, by decide +kernel, rfl, rfl, fun g => ⟨rfl, rfl, rfl⟩⟩,
    ⟨signedPacket opDebugUnlock unlock (keyed12 challenged) false, keyed12 challenged, [1, 2], by decide +kernel, rfl, rfl, fun g => ⟨rfl, rfl, rfl⟩, both_sign _ _ _ _ rfl rfl (by decide +kernel) rfl rfl rfl (by decide) (by decide), unlock_good _ rfl⟩⟩

/-! ### Well-formedness: a term that each check refuses -/

theorem test_port_wf : [({ port := 40 } : PortRef), { node := .agent, port := 256 }].all (fun r => !r.wf) = true := by decide

theorem test_flit_wf : [({ lseq := 4096 } : Flit), { lack := 4096 }, { vc := 8 }, { epb := 2 }, { kgen := 2 }, { dst := 65536 },
    { src := 65536 }, { stream := 65536 }, { job := 4096 }, { crvc := 8 }, { crcnt := 32 }, { sseq := 1048576 },
    { payload := zeros 241 }, { plen := 225 }, { tag := zeros 15 }].all (fun f => !f.wf) = true := by decide +kernel

theorem test_codewords_wf : [({ errors := [0, 0, 0] } : Codewords), { errors := [545] }].all (fun c => !c.wf) = true := by decide

theorem test_poison_wf : [PoisonLine.record 65536 0, .record 0 (2 ^ 64), .header 65536 0 0, .header 0 32 0, .header 0 0 (2 ^ 27),
    .shard 4096 0 0 0, .shard 0 (2 ^ 32) 0 0, .shard 0 0 (2 ^ 32) 0, .shard 0 0 0 (2 ^ 32)].all (fun p => !p.wf) = true := by decide

theorem test_found_wf : LanesFound.wf { lanes := 256 } = false ∧ LanesFound.wf { cls := 4 } = false ∧ MemberUnits.wf { units := 65536 } = false
    ∧ MemberUnits.wf { f0 := 65536 } = false ∧ MemberUnits.wf { f1 := 65536 } = false ∧ StartMoment.wf { us := 16 } = false := by decide

theorem test_message_wf : [({ src := 65536 } : Msg), { dst := 65536 }, { type := 256 }, { ver := 256 }, { flags := 256 },
    { msgid := 2 ^ 32 }, { token := 2 ^ 64 }, { stream := 65536 }].all (fun m => !m.wf) = true := by decide +kernel

theorem test_packet_wf : [({ port := 2 } : Packet), { ring := 64 }, { opcode := 65536 }, { flags := 65536 }, { tag := 2 ^ 32 },
    { seq := 2 ^ 32 }, { len := 4097, params := zeros 4097 }, { effTick := 2 ^ 48 }, { job := 65536 }, { digest := [] }, { rsvd := [] },
    { params := [0] }, { flags := 8 }, { flags := 8, sigs := [[]] }].all (fun p => !p.wf) = true := by decide +kernel

theorem test_ill_formed_1 : [
    (.farEndSignalDetect { port := 40 } : Instr),
    .linkTrainingStart { port := 40 } {} false 0,
    .linkTrainingStart {} { lanes := 256 } false 0,
    .linkTrainingStart {} {} false 256,
    .trainingStepTimeout { port := 40 },
    .trainingHandshakeDone { port := 40 } 0,
    .helloRepeat { port := 40 },
    .retrainTrigger { port := { port := 40 } },
    .retrainComplete { port := 40 },
    .retrainTimeout { port := 40 },
    .dataFlitReceive { port := 40 } {} {},
    .dataFlitReceive {} { lseq := 4096 } {},
    .dataFlitReceive {} {} { errors := [545] },
    .retryRequestReceive { port := 40 } 0 {},
    .retryRequestReceive {} 4096 {},
    .retryRequestReceive {} 0 { lack := 4096 },
    .idleFlitReceive { port := 40 } {},
    .idleFlitReceive {} { lack := 4096 },
    .retryHoldoffExpire { port := 40 },
    .lackStallReplay { port := 40 },
    .outputFlitSelect { port := { port := 40 } },
    .linkCreditReceive { port := 40 } {} {},
    .linkCreditReceive {} { lseq := 4096 } {},
    .linkCreditReceive {} {} { errors := [545] },
    .linkHelloReceive { port := 40 } {} {},
    .linkHelloReceive {} { lseq := 4096 } {},
    .linkHelloReceive {} {} { errors := [545] },
    .tsReqReceive { port := 40 } {} {} 0 0,
    .tsReqReceive {} { lseq := 4096 } {} 0 0,
    .tsReqReceive {} {} { errors := [545] } 0 0,
    .tsRspReceive { port := 40 } {} {} 0,
    .tsRspReceive {} { lseq := 4096 } {} 0,
    .tsRspReceive {} {} { errors := [545] } 0,
    .tsFollowReceive { port := 40 } {} {},
    .tsFollowReceive {} { lseq := 4096 } {},
    .tsFollowReceive {} {} { errors := [545] },
    .tsExchangeDiscard { port := 40 } 0,
    .tsExchangeDiscard {} 64,
    .delayMeasurementDone { port := 40 },
    .linkSessionFlitReceive { port := 40 } {} {},
    .linkSessionFlitReceive {} { lseq := 4096 } {},
    .linkSessionFlitReceive {} {} { errors := [545] },
    .sessionCountNear { port := 40 },
    .trainingAttemptFailed { port := 40 },
    .agentTickReceive { src := 65536 } 0 0 0,
    .agentTickReceive {} 256 0 0,
    .agentProbeIdentify { src := 65536 },
    .agentProbeClaim { src := 65536 },
    .agentProbeCert { src := 65536 },
    .agentProbeSession { src := 65536 },
    .switchFlitForward 256,
    .agentLinkstateRequest { src := 65536 },
    .agentTableWrite { src := 65536 },
    .agentCommitActivate { src := 65536 },
    .agentCommitRetire { src := 65536 },
    .agentCommitFailover { src := 65536 },
    .agentCommitClearStandby { src := 65536 },
    .agentCommitTargetSwap { src := 65536 },
    .agentCountersRequest { src := 65536 },
    .agentTreeSet { src := 65536 },
    .agentCards { src := 65536 },
    .agentKeyInstall { src := 65536 },
    .agentKeySwitch { src := 65536 },
    .agentKeyErase { src := 65536 },
    .agentCurrentGrant { src := 65536 },
    .agentRelease { src := 65536 },
    .agentLinkSession { src := 65536 },
    .agentFaultReportAck { src := 65536 },
    .tableMemoryError 256,
    .loadStartingActionRequest 6 0 0,
    .loadStartingActionRequest 0 (2 ^ 32) 0,
    .loadStartingActionRequest 0 0 4096,
    .discoverStart { port := 2 },
    .discoverStatus { port := 2 },
    .topologyGet { port := 2 },
    .rackAbsorb { port := 2 },
    .linkRetrain { port := 2 },
    .shelfAssign { port := 2 },
    .routeSolve { port := 2 },
    .routeStage { port := 2 }].all (fun (i : Instr) => !i.wf) = true := by decide +kernel

theorem test_ill_formed_2 : [
    (.routeCommit { port := 2 } : Instr),
    .routePin { port := 2 },
    .routeUnpin { port := 2 },
    .routeStatus { port := 2 },
    .failoverPrepare { port := 2 },
    .identReceive { src := 65536 },
    .linkstateReceive { src := 65536 },
    .topologyDeltaReceive 65536 { bolt := 0, gen := 0 },
    .topologyDeltaReceive 0 { bolt := 32, gen := 0 },
    .moveReleaseRequestReceive 65536 [],
    .moveReleaseConfirmReceive 65536 false,
    .solveReqReceive { src := 65536 },
    .solveCallReceive { src := 65536 },
    .solveVectorReceive { src := 65536 },
    .solveGoReceive { src := 65536 },
    .shareDataReceive { src := 65536 },
    .shareDataTimeout 64,
    .shareMoveReceive { src := 65536 },
    .solveDoneReceive { src := 65536 },
    .solveAbortReceive { src := 65536 },
    .epochStageReceive { src := 65536 },
    .epochStagedReceive { src := 65536 },
    .epochCommitReceive { src := 65536 },
    .epochDoneReceive { src := 65536 },
    .groupCreate { port := 2 },
    .groupDestroy { port := 2 },
    .groupStatus { port := 2 },
    .twillUpRecordReceive 40 {},
    .twillUpRecordReceive 0 { lseq := 4096 },
    .twillTallyReceive 40 {},
    .twillTallyReceive 0 { lseq := 4096 },
    .twillCommitDecide 65536 0 0,
    .twillCommitDecide 0 (2 ^ 32) 0,
    .twillStepDeadline 65536 0,
    .twillStepDeadline 0 (2 ^ 32),
    .twinTreeReportReceive 65536 0,
    .twinTreeReportReceive 0 (2 ^ 32),
    .switchTwillRecord 256 {},
    .switchTwillRecord 0 { lseq := 4096 },
    .memberResultReceive { lseq := 4096 } {},
    .memberResultReceive {} { units := 65536 },
    .agentVerdict { src := 65536 },
    .planCreate { port := 2 },
    .planDestroy { port := 2 },
    .planStatus { port := 2 },
    .countFlitReceive { lseq := 4096 },
    .countsComplete 65536,
    .countDeadline 65536,
    .planningPass 65536,
    .exchangeCheckStart 65536,
    .memberReportTimeout 65536 0,
    .memberReportTimeout 0 65536,
    .reportFlitReceive { lseq := 4096 },
    .xchgReadyReceive { src := 65536 },
    .xchgRepairReceive { src := 65536 },
    .agentPlanAreaWrite { lseq := 4096 } 0 0 0,
    .agentPlanAreaWrite {} 65536 0 0,
    .agentPlanAreaWrite {} 0 65536 0,
    .agentPlanAreaWrite {} 0 0 65536,
    .agentExchangeData 256 {} 0 0 0,
    .agentExchangeData 0 { lseq := 4096 } 0 0 0,
    .agentExchangeData 0 {} 65536 0 0,
    .agentExchangeData 0 {} 0 65536 0,
    .agentExchangeData 0 {} 0 0 65536,
    .storeCarve { port := 2 },
    .storeMode { port := 2 },
    .generationOpen { port := 2 },
    .generationStatus { port := 2 },
    .restoreStart { port := 2 },
    .generationDrop { port := 2 },
    .checkpointDataReceive .geneel { lseq := 4096 },
    .checkpointEndReceive .geneel { lseq := 4096 },
    .shardDigestComplete 4096 0 0,
    .shardDigestComplete 0 (2 ^ 32) 0,
    .shardDigestComplete 0 0 65536,
    .gapResendTimer 4096 0 0,
    .gapResendTimer 0 (2 ^ 32) 0,
    .gapResendTimer 0 0 65536,
    .gapReceive { lseq := 4096 },
    .pullReceive .geneel { lseq := 4096 }].all (fun (i : Instr) => !i.wf) = true := by decide +kernel

theorem test_ill_formed_3 : [
    (.parReceive { lseq := 4096 } : Instr),
    .packReceive { lseq := 4096 },
    .rdataReceive .geneel { lseq := 4096 },
    .generationCommit 4096 0,
    .generationCommit 0 (2 ^ 32),
    .generationDeadline 4096 0,
    .generationDeadline 0 (2 ^ 32),
    .clearingComplete 4096 0,
    .clearingComplete 0 (2 ^ 32),
    .spillAfterCommit 4096 0,
    .spillAfterCommit 0 (2 ^ 32),
    .genCtlReceive { src := 65536 },
    .genReportReceive { src := 65536 },
    .tableCreate { port := 2 },
    .tableDestroy { port := 2 },
    .tableLoad { port := 2 },
    .tableRead { port := 2 },
    .tableConfig { port := 2 },
    .tableStatus { port := 2 },
    .tableSnapshot { port := 2 },
    .tableRequestReceive { lseq := 4096 },
    .coalescingStallResume 65536,
    .tableShardReceive { src := 65536 },
    .tableShardDoneReceive { src := 65536 },
    .oppointSet { port := 2 },
    .powerStatus { port := 2 },
    .shelfBudgetSet { port := 2 },
    .unitDisable { port := 2 },
    .unitEnable { port := 2 },
    .currentDeclare { port := 2 },
    .thermComparatorTrip 48,
    .tdpLimitLowering 65536 0,
    .tdpLimitLowering 0 65536,
    .tdpRecoveryRaise 65536 0,
    .tdpRecoveryRaise 0 65536,
    .unitDrainComplete 17 0,
    .unitDrainComplete 0 144,
    .unitDrainTimeout 17 0,
    .unitDrainTimeout 0 144,
    .currentStepSample 65536 0 0 0 0 0,
    .currentStepSample 0 6 0 0 0 0,
    .grantWarmRenew 65536 0 0,
    .grantWarmRenew 0 6 0,
    .grantWarmRenew 0 0 (2 ^ 32),
    .sliceCreate { port := 2 },
    .sliceModify { port := 2 },
    .sliceDestroy { port := 2 },
    .sliceGet { port := 2 },
    .accessSet { port := 2 },
    .accessGet { port := 2 },
    .sparePromote { port := 2 },
    .sliceChangeTimeout 4096,
    .streamRelease 65536,
    .sliceDrainEnd 4096,
    .attestGet { port := 2 },
    .enrol { port := 2 },
    .keyPolicySet { port := 2 },
    .fwPolicySet { port := 2 },
    .fwStage { port := 2 },
    .fwActivate { port := 2 },
    .debugChallenge { port := 2 },
    .debugUnlock { port := 2 },
    .seclogClear { port := 2 },
    .keyRotate { port := 2 },
    .cosignStateGet { port := 2 },
    .cosignWithdraw { port := 2 },
    .peerSessionOffer { src := 65536 },
    .peerSessionAnswer { src := 65536 },
    .peerSessionKey { src := 65536 },
    .peerSessionCiphertext { src := 65536 },
    .keyXferReceive { src := 65536 },
    .keyStateReceive { src := 65536 },
    .keyOrderReceive { src := 65536 },
    .keyLifetimeExpire 4096 0,
    .keyLifetimeExpire 0 2,
    .mtrParamSet { port := 2 },
    .mtrBatchGet { port := 2 },
    .mtrJobEnergyGet { port := 2 },
    .mtrAuditGet { port := 2 },
    .mtrIdentityGet { port := 2 }].all (fun (i : Instr) => !i.wf) = true := by decide +kernel

theorem test_ill_formed_4 : [
    (.shortReportReceive 96 [] : Instr),
    .meterSilent 96,
    .mtrStrobeReceive (2 ^ 32),
    .eventViewGet { port := 2 },
    .eventClear { port := 2 },
    .severitySet { port := 2 },
    .unfence { port := 2 },
    .faultRelease { port := 2 },
    .faultSummaryGet { port := 2 },
    .faultDetect 65536 0 0 0 [] none .other,
    .faultDetect 0 65536 0 0 [] none .other,
    .faultDetect 0 0 (2 ^ 32) 0 [] none .other,
    .faultDetect 0 0 0 4096 [] none .other,
    .faultDetect 0 0 0 0 (zeros 17) none .other,
    .faultDetect 0 0 0 0 [] none (.record 65536 0),
    .unitWatchdogExpire 17 0,
    .unitWatchdogExpire 0 144,
    .fencingComplete 17 0,
    .fencingComplete 0 144,
    .eventBlockSpill 4,
    .eventSpillRetry 4,
    .pwrGoodRise 32,
    .resetNRelease (2 ^ 32),
    .perstAssert 2,
    .perstRelease 2,
    .bootComplete false false 3,
    .selfTestComplete 17 0 false 0 [],
    .selfTestComplete 0 144 false 0 [],
    .roleAssign { port := 2 },
    .twinStatus { port := 2 },
    .peerListSet { port := 2 },
    .peerStatus { port := 2 },
    .takeover { port := 2 },
    .mirrorDeltaReceive { src := 65536 } none,
    .mirrorAckReceive { src := 65536 },
    .mirrorAckResend (2 ^ 32),
    .heartbeatReceive { src := 65536 },
    .haltNoticeReceive { src := 65536 },
    .resyncReqReceive { src := 65536 },
    .resyncDataReceive { src := 65536 } [],
    .peerHelloReceive { src := 65536 },
    .peerAbsent 64,
    .tickConfig { port := 2 },
    .tickStart { port := 2 },
    .tickStatus { port := 2 },
    .tickRunaheadGet { port := 2 },
    .mastershipReturn 64,
    .configRequest 2,
    .sqDoorbellWrite 2 0 0,
    .sqDoorbellWrite 0 64 0,
    .sqDoorbellWrite 0 0 (2 ^ 32),
    .cqDoorbellWrite 2 0 0,
    .cqDoorbellWrite 0 64 0,
    .cqDoorbellWrite 0 0 (2 ^ 32),
    .ringEnable 2 0 0,
    .ringEnable 0 64 0,
    .ringEnable 0 0 (2 ^ 64),
    .ringDisable 2 0 0,
    .ringDisable 0 64 0,
    .ringDisable 0 0 (2 ^ 64),
    .ringStopComplete 2 0,
    .ringStopComplete 0 64,
    .evtCurIndexWrite 2 0,
    .evtCurIndexWrite 0 (2 ^ 64),
    .evtCurAdvWrite 2,
    .eventSnapshotReady 2,
    .intCauseClear 2 0,
    .intCauseClear 0 64,
    .intMaskWrite 2 0,
    .intMaskWrite 0 64,
    .rwQuadwordHalfWrite 2 0 0,
    .rwQuadwordHalfWrite 0 (2 ^ 20) 0,
    .rwQuadwordHalfWrite 0 0 (2 ^ 64),
    .quadwordLowReadLatch 2 0 4,
    .quadwordLowReadLatch 0 (2 ^ 20) 4,
    .quadwordLowReadLatch 0 0 5,
    .registerWrite 2 0 4 0,
    .registerWrite 0 (2 ^ 20) 4 0,
    .registerWrite 0 0 5 0,
    .registerWrite 0 0 4 (2 ^ 64)].all (fun (i : Instr) => !i.wf) = true := by decide +kernel

theorem test_ill_formed_5 : [
    (.coalesceTimerExpire 2 0 : Instr),
    .coalesceTimerExpire 0 64,
    .identify { port := 2 },
    .floorplanGet { port := 2 },
    .stateGet { port := 2 },
    .deviceReset { port := 2 },
    .cmdCancel { port := 2 },
    .nop { port := 2 },
    .streamRead { port := 2 },
    .countersGet { port := 2 },
    .agentCountersRead { port := 2 },
    .loopback { port := 2 },
    .packetFetch 2 0 {} false,
    .packetFetch 0 64 {} false,
    .packetFetch 0 0 { port := 2 } false,
    .cosignHoldExpire [],
    .orphanQueueDrain 2,
    .faultReportReceive { src := 65536 },
    .agentReplyReceive { src := 65536 },
    .agentReplyResend (2 ^ 32),
    .agentReplyTimeout (2 ^ 32),
    .tickMarker (some { src := 65536 }),
    .markerOneEmit { us := 16 }].all (fun (i : Instr) => !i.wf) = true := by decide +kernel

/-! ### Small tests -/

/-- R76: of requesters 0 and 3 of four, from position 2 the next is 3. -/
theorem test_tie_break : tieBreak 4 6 [0, 3] = some 3 := by decide

/-- R507: a step of 25 with 10 per tick, from a full allowance, waits two ticks and leaves 5. -/
theorem test_booking : ({ frontier := 0, left := 10 } : Account).book 10 25 0 = (2, { frontier := 2, left := 5 }) := by decide

/-- R111: the codes of the device states. -/
theorem test_device_codes : [DevState.off, .boot, .ready, .run, .degraded, .fault, .halt].map DevState.code = [0, 1, 7, 8, 9, 10, 11] := by decide

/-- The table gives no bits: no word spells a command. -/
theorem test_no_words : decodeTableWord 16 6 = none ∧ (State.reset.withFetchWord 16 6).pending = [] := by decide

/-- The first record of the host, its status, opcode and detail, after a command. -/
def told (i : Instr) (s : State) : Option (Nat × Nat × Nat) := match exec i s with
  | .next t => t.host.completions.getLast?.map (fun c => (c.status, c.opcode, c.detail))
  | _ => none

/-- R106: a NOP through a ring that runs is answered with ST_OK. -/
theorem test_nop : told (.nop packet0) fetching = some (0, 6, 0) := by decide +kernel

/-- R82: no ring runs after reset. -/
theorem test_nop_off : told (.nop packet0) State.reset = none := by decide +kernel

/-- R106, check 2: an opcode that is not assigned. -/
theorem test_bad_opcode : told (.packetFetch 0 0 { packet0 with opcode := 7, seq := (fetching.ring 0 0).seqExp } false) fetching
    = some (0x10, 7, 7) := by decide +kernel

/-- R106, check 3: a reserved byte of the header. -/
theorem test_reserved : told (.nop { packet0 with rsvd := [1, 0, 0, 0, 0, 0, 0, 0] }) fetching = some (0x11, 6, 56) := by decide +kernel

/-- R43: an effective tick before machine start. -/
theorem test_before_start : told (.nop { packet0 with effTick := 5 }) fetching = some (3, 6, 8 + 256 * 1) := by decide +kernel

/-- R67: a late command is told the earliest tick. -/
theorem test_late : told (.nop { packet0 with effTick := 5 }) stagedHost = some (0x40, 6, 6) := by decide +kernel

/-- R98: a command that needs both signatures and carries none. -/
theorem test_needs_cosign : told (.enrol { packet0 with len := 3601 }) fetching = some (0x21, 0x0B02, 3) := by decide +kernel

/-- R107: the job of a bound ring comes before the class right. -/
theorem test_wrong_job : told (.nop packet0) boundHost = some (0x20, 6, 2 + 256 * 72) := by decide +kernel

/-- R502: a comparator at 115 °C asserts THERM_TRIP_N. -/
theorem test_therm_trip : (match exec (.thermComparatorTrip 3) primary0 with
    | .next t => t.pins.thermTripN
    | _ => true) = false := by decide +kernel

/-- R610: a device-fatal fault asserts FAULT_N. -/
theorem test_fault_pin : (match exec (.thermComparatorTrip 3) primary0 with
    | .next t => (t.pins.faultN, t.up.dev == .halt)
    | _ => (true, false)) = (false, true) := by decide +kernel

/-- An empty queue idles. -/
theorem test_idle : step State.reset = .next State.reset := rfl

/-- R133, from the code of IEEE 802.3 (log entry 192): a codeword has no syndrome, one with a wrong symbol has. -/
theorem test_codeword : (rsSyndromes (rsEncode [5, 1000, 7])).all (· == 0) = true
    ∧ (rsSyndromes ((rsEncode [5, 1000, 7]).set 1 999)).all (· == 0) = false := by decide +kernel

/-- R134: 2,048 bits a flit, 5,140 a codeword: the third flit has bits of the first two codewords, the sixth of the next two. -/
theorem test_flit_codewords : (List.range 6).map wordsOfFlit = [[0], [0], [0, 1], [1], [1], [1, 2]] := by decide

/-- R140: LSEQ 0xABC in bits [11:0], LACK 0x123 in [23:12], link control in [25:24], VC 5 in [28:26]. -/
theorem test_flit_header : (flitHeader { lseq := 0xABC, lack := 0x123, kind := .control, vc := 5 }).take 4 = [0xBC, 0x3A, 0x12, 0x15] := by
  decide

end Sys2Proof.Tests
end

section
/-! PROOFS of the family 01_architecture: what STREAM_RELEASE does to the stream table. -/

namespace Sys2Proof.Proofs

open Sys2Proof Sys2Proof.Machine

/-- An instruction that finishes in `t` leaves what `Done` says of `t`: the link from `State.finish`, in which the rows are
written, to `Done`, in which the statements are. -/
theorem finish_eq_next_done (s t : State) : s.finish t = .next (Done s t) := rfl

/-- The row of STREAM_RELEASE in the dispatch. -/
theorem exec_streamRelease (id : Nat) (s : State) : exec (.streamRelease id) s = execStreamRelease id s := rfl

/-- What STREAM_RELEASE does to a stream that has an entry: the guard of R32 decides between taking it out and leaving it. -/
theorem execStreamRelease_of_entry {id : Nat} {e : Stream} {s : State} (he : kvGet s.streams id = some e) :
    execStreamRelease id s =
      if (e.state = 2 ∨ e.state = 3) ∧ e.outstanding = 0 then .next (Done s { s with streams := kvErase s.streams id })
      else .next (Done s s) := by
  simp only [execStreamRelease, he, finish_eq_next_done]

/-- A stream with flits outstanding does not meet the guard, nor does an OPEN one. -/
theorem not_releasable_of_outstanding_or_open {e : Stream} (h : e.outstanding ≠ 0 ∨ e.state = 1) :
    ¬ ((e.state = 2 ∨ e.state = 3) ∧ e.outstanding = 0) := by
  rintro ⟨hstate, hnone⟩
  cases h with
  | inl hout => exact hout hnone
  | inr hopen => omega

/-- Settles O44: the guard of R32 holds of the streams of the first clause and fails of those of the second. -/
theorem streamsAreReleased : Obligations.StreamsAreReleased := by
  unfold Obligations.StreamsAreReleased
  constructor
  · intro id e s he hstate hnone
    rw [exec_streamRelease, execStreamRelease_of_entry he, if_pos ⟨hstate, hnone⟩]
  · intro id e s he hheld
    rw [exec_streamRelease, execStreamRelease_of_entry he, if_neg (not_releasable_of_outstanding_or_open hheld)]

end Sys2Proof.Proofs
end

section
/-! PROOFS of the family 02_fabric_tick: host commands, their effective ticks and their ends. -/

namespace Sys2Proof.Proofs

open Sys2Proof Sys2Proof.Machine

/-- Every host command row is its opcode's command: the link from the rows of the dispatch to `State.command`. -/
theorem exec_hostRow {i : Instr} {op : HostOp} {p : Packet} (h : hostRow i = some (op, p)) (s : State) :
    exec i s = .next (Done s (s.command op p)) := by
  unfold hostRow at h
  split at h <;> cases h <;> rfl

/-! ### Waiting for the tick -/

/-- The number of a new command names no entry. -/
theorem cmd_freshCmd (s : State) : s.cmd s.freshCmd = none :=
  List.find?_eq_none.2 (fun c hc => by simpa using s.freshCmd_fresh c hc)

/-- A new entry is found by the number of a new command. -/
theorem withEntry_cmd (op : HostOp) (p : Packet) (s : State) (due : Nat) :
    (withEntry s (entryOf op p s due)).cmd s.freshCmd = some (entryOf op p s due) :=
  find_fresh s _ rfl

/-- Settles O9: the acceptance of a command with a tick is `command_timed`, and its new entry has a number of its own. -/
theorem commandsWaitForTheirTick : Obligations.CommandsWaitForTheirTick := by
  unfold Obligations.CommandsWaitForTheirTick
  intro i op p s hrow hadm htick
  refine ⟨?_, cmd_freshCmd s, withEntry_cmd op p (fetched p s) _, rfl, rfl⟩
  rw [exec_hostRow hrow, command_timed op p s hadm htick]

/-! ### The end of a command -/

/-- A port that `CanPost` names takes records. -/
theorem posts_of_canPost {s : State} {p : Packet} (h : CanPost s p = true) : s.posts p.port p.ring := by
  simp only [CanPost, Bool.and_eq_true, bne_iff_ne, Bool.not_eq_true'] at h
  obtain ⟨⟨⟨⟨hhalt, hoff⟩, hperst⟩, hgood⟩, hring⟩ := h
  exact ⟨hhalt, hoff, hperst, hgood, hring⟩

/-- The end that is kept for the twin while completions are gated (R651). -/
def heldEnd (s : State) (c : Cmd) (id status detail : Nat) (result : Bytes) : HeldEnd := {
  seq := (s.twin.unacked.getLast?.map Delta.seq).getD 0, id := id, status := (c.endAs status detail).1
  detail := (c.endAs status detail).2, tick := c.effect.getD s.tickNow, result := result }

/-- A gated end is kept, and that is all (R651). -/
theorem endCmd_gated (s : State) (id status detail : Nat) (result : Bytes) (c : Cmd)
    (hc : s.host.cmds.find? (fun d => d.id == id) = some c)
    (hg : (s.gating && tookEffect status && mirroredOpcode c.pkt.opcode) = true) :
    s.endCmd id status detail result
      = { s with mail := { s.mail with heldEnds := s.mail.heldEnds ++ [heldEnd s c id status detail result] } } := by
  obtain ⟨⟨hgating, htook⟩, hmirrored⟩ : (s.gating = true ∧ tookEffect status = true) ∧ mirroredOpcode c.pkt.opcode = true := by
    simpa only [Bool.and_eq_true] using hg
  unfold State.endCmd
  simp only [hc, Option.map_some, Option.getD_some, Option.bind_some, Cmd.endAs_effect, hgating, htook,
    hmirrored, Bool.and_self, if_true]
  rfl

/-- Settles O10: `State.endCmd_shows` where the end is posted, `endCmd_gated` where it waits for the twin. -/
theorem commandsEndOnce : Obligations.CommandsEndOnce := by
  unfold Obligations.CommandsEndOnce
  constructor
  · intro s id status detail result c hc htwin hpost hcut heffect hfinal hgate
    exact s.endCmd_shows id status detail result c hc htwin (posts_of_canPost hpost) hcut heffect hgate hfinal
  · intro s id status detail result c hc hgate
    exact ⟨heldEnd s c id status detail result, rfl, rfl, rfl, rfl, rfl,
      endCmd_gated s id status detail result c hc hgate⟩

/-! ### The effective tick -/

/-- A check that fails is the answer of every list of checks that it heads. -/
theorem checks_fail (st d : Nat) (l : List Check) : checks (.fail st d :: l) = .fail st d := by
  change l.foldl Check.and (.fail st d) = .fail st d
  induction l with
  | nil => rfl
  | cons c l ih => exact ih

/-- A packet whose check 7 fails is refused with what the check says. -/
theorem takeIn_refused {s : State} {op : HostOp} {p : Packet} {slot st d : Nat} (hpost : CanPost s p = true)
    (hfinal : st ≠ 1) (hcheck : s.checkTick op p = .fail st d) :
    Refused s (s.takeIn op p slot) p p.opcode st d := by
  have htake : s.takeIn op p slot = s.finishPacket p st d 0 [] := by
    simp only [State.takeIn, State.lateChecks, hcheck, checks_fail, State.reject]
  rw [htake]
  exact s.finishPacket_shows p st d 0 [] (posts_of_canPost hpost) hfinal

section
variable {s : State} {op : HostOp} {p : Packet} (hload : s.clock.loaded = true) (htick : p.effTick ≠ 0)
include hload htick

/-- Check 7 for a tick that is named, in a fabric whose tick is loaded, for an effect that may name one (R67, R68). -/
theorem checkTick_of_tick (heff : op.eff = .ei ∨ op.eff = .ea) :
    s.checkTick op p =
      if p.effTick < s.clock.tick + op.eff.lead then .fail 0x40 (s.clock.tick + op.eff.lead)
      else if s.clock.tick + 16777216 < p.effTick then .fail 0x11 16 else .ok := by
  rcases heff with heff | heff <;> simp only [State.checkTick, hload, htick, heff, if_false, Bool.not_true, Bool.false_eq_true]

/-- A tick that leaves fewer ticks than the effect needs (R67). -/
theorem checkTick_late (heff : op.eff = .ei ∨ op.eff = .ea) (hlate : p.effTick < s.clock.tick + op.eff.lead) :
    s.checkTick op p = .fail 0x40 (s.clock.tick + op.eff.lead) := by
  rw [checkTick_of_tick hload htick heff, if_pos hlate]

/-- A tick too far ahead, whatever the opcode: one that may name no tick fails in the same way (R47, R68). -/
theorem checkTick_far (hfar : s.clock.tick + 16777216 < p.effTick) : s.checkTick op p = .fail 0x11 16 := by
  have hlead : op.eff.lead ≤ 3 := by cases op.eff <;> decide
  cases heff : op.eff with
  | d | tick => simp only [State.checkTick, hload, htick, heff, if_false, Bool.not_true, Bool.false_eq_true]
  | ei => rw [checkTick_of_tick hload htick (.inl heff), if_neg (by omega), if_pos hfar]
  | ea => rw [checkTick_of_tick hload htick (.inr heff), if_neg (by omega), if_pos hfar]

/-- A tick in between passes (R67, R68). -/
theorem checkTick_ok (heff : op.eff = .ei ∨ op.eff = .ea) (hsoon : s.clock.tick + op.eff.lead ≤ p.effTick)
    (hnear : p.effTick ≤ s.clock.tick + 16777216) : s.checkTick op p = .ok := by
  rw [checkTick_of_tick hload htick heff, if_neg (by omega), if_neg (by omega)]

end

/-- Settles O11: check 7 comes first of the late checks, and its answers are the four lemmas on `State.checkTick`. -/
theorem effectiveTicks : Obligations.EffectiveTicks := by
  unfold Obligations.EffectiveTicks
  intro op p slot s hload hpost htick
  refine ⟨?_, ?_, ?_, ?_, ?_⟩
  · intro heff hlate
    have hlead : op.eff.lead = 1 := congrArg EffAt.lead heff
    rw [← hlead] at hlate ⊢
    exact takeIn_refused hpost (by decide) (checkTick_late hload htick (.inl heff) hlate)
  · intro heff hlate
    have hlead : op.eff.lead = 3 := congrArg EffAt.lead heff
    rw [← hlead] at hlate ⊢
    exact takeIn_refused hpost (by decide) (checkTick_late hload htick (.inr heff) hlate)
  · intro hfar
    exact ⟨16, takeIn_refused hpost (by decide) (checkTick_far hload htick hfar)⟩
  · intro heff hsoon hnear
    have hlead : op.eff.lead = 1 := congrArg EffAt.lead heff
    exact checkTick_ok hload htick (.inl heff) (by omega) hnear
  · intro heff hsoon hnear
    have hlead : op.eff.lead = 3 := congrArg EffAt.lead heff
    exact checkTick_ok hload htick (.inr heff) (by omega) hnear

end Sys2Proof.Proofs
end

section
/-! PROOFS of the family 02_fabric_tick: the tie-break. -/

namespace Sys2Proof.Proofs

open Sys2Proof Sys2Proof.Machine

/-! ### Sorting -/

section
variable {α : Type} (key : α → Nat)

/-- An inserted element is added. -/
theorem perm_insertBy (l : List α) (v : α) : (insertBy key l v).Perm (v :: l) := by
  induction l with
  | nil => exact .refl _
  | cons w r ih =>
    unfold insertBy
    split
    · exact .refl _
    · exact (ih.cons w).trans (.swap v w r)

/-- Insertion into a rising list keeps it so. -/
theorem pairwise_insertBy {l : List α} (v : α) (h : l.Pairwise (key · ≤ key ·)) :
    (insertBy key l v).Pairwise (key · ≤ key ·) := by
  induction l with
  | nil => exact List.pairwise_singleton _ _
  | cons w r ih =>
    obtain ⟨hw, hr⟩ := List.pairwise_cons.1 h
    unfold insertBy
    split
    next hlt =>
      refine List.pairwise_cons.2 ⟨fun x hx => ?_, h⟩
      rcases List.mem_cons.1 hx with rfl | hx
      · exact Nat.le_of_lt hlt
      · exact Nat.le_trans (Nat.le_of_lt hlt) (hw x hx)
    next hge =>
      refine List.pairwise_cons.2 ⟨fun x hx => ?_, ih hr⟩
      rcases List.mem_cons.1 ((perm_insertBy key r v).mem_iff.1 hx) with rfl | hx
      · exact Nat.le_of_not_lt hge
      · exact hw x hx

/-- Insertion one by one adds the list to what is there. -/
theorem perm_foldl_insertBy (l acc : List α) : (l.foldl (insertBy key) acc).Perm (acc ++ l) := by
  induction l generalizing acc with
  | nil => simp
  | cons v l ih =>
    exact (ih _).trans (((perm_insertBy key acc v).append_right l).trans List.perm_middle.symm)

/-- A sorted list has the elements of the list. -/
theorem perm_sortBy (l : List α) : (sortBy key l).Perm l := perm_foldl_insertBy key l []

/-- A sorted list rises. -/
theorem pairwise_sortBy (l : List α) : (sortBy key l).Pairwise (key · ≤ key ·) := by
  suffices h : ∀ acc : List α, acc.Pairwise (key · ≤ key ·) → (l.foldl (insertBy key) acc).Pairwise (key · ≤ key ·) from
    h [] List.Pairwise.nil
  induction l with
  | nil => exact fun _ hacc => hacc
  | cons v l ih => exact fun acc hacc => ih _ (pairwise_insertBy key v hacc)

end

/-! ### The pick -/

/-- How far a requester is from the position `w` in a cycle of `n` (R76). -/
def cycleDist (n w i : Nat) : Nat := (i + n - w % n) % n

/-- The pick is the first of the requesters sorted by their distance. -/
theorem tieBreak_eq_head? (n w : Nat) (req : List Nat) : tieBreak n w req = (sortBy (cycleDist n w) req).head? := by
  unfold tieBreak cycleDist
  split <;> simp_all

/-- There is no pick only when nobody requests. -/
theorem tieBreak_eq_none_iff (n w : Nat) (req : List Nat) : tieBreak n w req = none ↔ req = [] := by
  rw [tieBreak_eq_head?, List.head?_eq_none_iff]
  exact ⟨fun h => List.nil_perm.1 (h ▸ perm_sortBy (cycleDist n w) req), fun h => by rw [h]; rfl⟩

/-- The pick is a requester, and none is nearer. -/
theorem tieBreak_nearest {n w : Nat} {req : List Nat} {i : Nat} (h : tieBreak n w req = some i) :
    i ∈ req ∧ ∀ j ∈ req, cycleDist n w i ≤ cycleDist n w j := by
  rw [tieBreak_eq_head?] at h
  obtain ⟨r, hsort⟩ := List.head?_eq_some_iff.1 h
  have hperm : (i :: r).Perm req := hsort ▸ perm_sortBy (cycleDist n w) req
  have hrise : (i :: r).Pairwise (cycleDist n w · ≤ cycleDist n w ·) := hsort ▸ pairwise_sortBy (cycleDist n w) req
  refine ⟨hperm.mem_iff.1 List.mem_cons_self, fun j hj => ?_⟩
  rcases List.mem_cons.1 (hperm.mem_iff.2 hj) with rfl | hj
  · exact Nat.le_refl _
  · exact (List.pairwise_cons.1 hrise).1 j hj

/-- Among the numbers below `n`, only the position itself is at distance zero. -/
theorem cycleDist_eq_zero_iff {n w i : Nat} (hi : i < n) : cycleDist n w i = 0 ↔ i = w % n := by
  have hw : w % n < n := Nat.mod_lt _ (by omega)
  unfold cycleDist
  generalize w % n = x at *
  by_cases hle : x ≤ i
  · have hmod : (i + n - x) % n = i - x := by
      rw [show i + n - x = i - x + n by omega, Nat.add_mod_right, Nat.mod_eq_of_lt (by omega)]
    omega
  · rw [Nat.mod_eq_of_lt (by omega)]
    omega

/-- Settles O14: the tie-break is the head of the requesters sorted by their distance from the position. -/
theorem tieBreakIsTheFirstAfter : Obligations.TieBreakIsTheFirstAfter := by
  unfold Obligations.TieBreakIsTheFirstAfter
  intro n w req _ hreq
  refine ⟨tieBreak_eq_none_iff n w req, fun i hi => tieBreak_nearest hi, fun hw => ?_⟩
  obtain ⟨i, hi⟩ := Option.ne_none_iff_exists'.1 (fun h => List.ne_nil_of_mem hw ((tieBreak_eq_none_iff n w req).1 h))
  obtain ⟨hmem, hnear⟩ := tieBreak_nearest hi
  have hzero : cycleDist n w (w % n) = 0 := (cycleDist_eq_zero_iff (hreq _ hw)).2 rfl
  have hpick : cycleDist n w i = 0 := Nat.le_zero.1 (hzero ▸ hnear _ hw)
  rw [hi, (cycleDist_eq_zero_iff (hreq i hmem)).1 hpick]

end Sys2Proof.Proofs
end

section
/-! PROOFS of the family 02_fabric_tick: the host rows of groups, plans, tables and of the security chapter. Each row is its opcode's
command; what an admitted command does, by how its opcode takes effect, and what a held one does at its tick, is said once for all. -/

namespace Sys2Proof.Proofs

open Sys2Proof Sys2Proof.Machine

section
variable {i : Instr} {op : HostOp} {p : Packet} {s : State} (hrow : hostRow i = some (op, p)) (hadm : Admitted op p s = true)
include hrow hadm

/-- An admitted row without an effective tick whose opcode waits: what begins at acceptance, with an entry held for three ticks (R66, R67). -/
theorem exec_held (htick : p.effTick = 0) (hwait : op.waitsForAgents = true) :
    exec i s = .next (Done s (op.start (asOp op p) s.freshCmd
      (withEntry (fetched p s) (entryOf op p (fetched p s) (s.clock.now + 3))))) := by
  rw [exec_hostRow hrow, command_held op p s hadm htick hwait]

/-- An admitted row without an effective tick whose opcode does not wait: what begins at acceptance, then the effect (R66). -/
theorem exec_started (htick : p.effTick = 0) (hwait : op.waitsForAgents = false) :
    exec i s = .next (Done s ((op.start (asOp op p) s.freshCmd
      (withEntry (fetched p s) (entryOf op p (fetched p s) s.clock.now))).runCmd op s.freshCmd)) := by
  rw [exec_hostRow hrow, command_starts op p s hadm htick hwait]

/-- An admitted row without an effective tick whose opcode neither waits nor begins anything: its effect, then its end (R66, R109). -/
theorem exec_ended (htick : p.effTick = 0) (hwait : op.waitsForAgents = false) (hstart : ∀ q id u, op.start q id u = u) :
    exec i s = .next (Done s (ended s.freshCmd (op.apply (asOp op p) s.freshCmd (begun op p (fetched p s))))) := by
  rw [exec_hostRow hrow, command_ended op p s hadm htick hwait hstart]

/-- An admitted row with an effective tick: what begins at acceptance, and ST_PENDING (R66, R69). -/
theorem exec_timed (htick : p.effTick ≠ 0) :
    exec i s = .next (Done s ((op.start (asOp op p) s.freshCmd
      (withEntry (fetched p s) (entryOf op p (fetched p s) (s.instantOf p.effTick)))).postPending s.freshCmd p.effTick)) := by
  rw [exec_hostRow hrow, command_timed op p s hadm htick]

end

/-- The effect of a held command at its tick, on the packet that its entry keeps (R66, R109). -/
theorem runCmd_asOp {op : HostOp} (p : Packet) {id : Nat} {c : Cmd} {s : State} (hc : s.cmd id = some c) (hpkt : c.pkt = asOp op p)
    (hend : c.endStatus = 0) : s.runCmd op id = ended id (op.apply (asOp op p) id (underway c id s)) := by
  rw [run_held op s id c hc hend, hpkt]

/-- Settles O57: at acceptance `exec_held`, but `exec_ended` for PLAN_DESTROY and `exec_started` for TABLE_LOAD, which do not wait; at its tick
`runCmd_asOp`. What is left of each is the opcode's own `start` or `apply`. -/
theorem collectiveCommandsComplete : Obligations.CollectiveCommandsComplete := by
  unfold Obligations.CollectiveCommandsComplete
  refine ⟨?groupCreate, ?groupCreated, ?groupDestroy, ?groupDestroyed, ?planCreate, ?planCreated, ?planDestroy, ?tableCreate,
    ?tableCreated, ?tableDestroy, ?tableDestroyed, ?tableConfig, ?tableConfigured, ?tableSnapshot, ?tableSnapshotTaken, ?tableLoad,
    ?tableLoaded⟩
  case groupCreate | groupDestroy | planCreate | tableCreate | tableDestroy | tableConfig | tableSnapshot =>
    intro p s hadm htick
    exact exec_held rfl hadm htick rfl
  case planDestroy =>
    intro p s hadm htick
    exact exec_ended rfl hadm htick rfl (fun _ _ _ => rfl)
  case tableLoad =>
    intro p s hadm htick
    exact exec_started rfl hadm htick rfl
  case groupCreated | groupDestroyed | planCreated | tableCreated | tableDestroyed | tableConfigured | tableSnapshotTaken | tableLoaded =>
    intro p id c s hc hpkt hend
    exact runCmd_asOp p hc hpkt hend

/-- Settles O59: FW_STAGE, FW_ACTIVATE and MTR_PARAM_SET take effect at once (`exec_ended`), SPARE_PROMOTE begins its promotion as it is held
(`exec_held`), KEY_ROTATE its rotations as it waits for its tick (`exec_timed`). -/
theorem securityCommandsComplete : Obligations.SecurityCommandsComplete := by
  unfold Obligations.SecurityCommandsComplete
  refine ⟨?fwStage, ?fwActivate, ?mtrParamSet, ?sparePromote, ?keyRotate, ?keyRotated⟩
  case fwStage | fwActivate | mtrParamSet =>
    intro p s hadm htick
    exact exec_ended rfl hadm htick rfl (fun _ _ _ => rfl)
  case sparePromote =>
    intro p s hadm htick
    exact exec_held rfl hadm htick rfl
  case keyRotate =>
    intro p s hadm htick
    exact exec_timed rfl hadm htick
  case keyRotated =>
    intro p id c s hc hpkt hend
    exact runCmd_asOp p hc hpkt hend

end Sys2Proof.Proofs
end

section
/-! PROOFS of the family 02_fabric_tick: the agent's own events. -/

namespace Sys2Proof.Proofs

open Sys2Proof Sys2Proof.Machine

section
variable {s : State} (hstate : s.agent.core.state = .serving ∨ s.agent.core.state = .quiesced)
include hstate

/-- An agent in SERVING or QUIESCED takes markers (R201). -/
theorem takes_ticks : ¬ (s.agent.core.state = .reset ∨ s.agent.core.state = .faulted) := by
  rcases hstate with h | h <;> simp [h]

/-- A marker makes it SERVING again (R62, R201). -/
theorem serving_after_tick :
    (if s.agent.core.state = .quiesced then AgentState.serving else s.agent.core.state) = .serving := by
  rcases hstate with h | h <;> simp [h]

end

/-- A TICK of a new tick at an agent that takes markers: placed, forwarded, its timed actions run (R62). -/
theorem execAgentTickReceive_new (m : Msg) (port arrival residence : Nat) (s : State)
    (hstate : s.agent.core.state = .serving ∨ s.agent.core.state = .quiesced) (hnew : s.agent.core.tick < le m.content 0 6) :
    execAgentTickReceive m port arrival residence s = s.finish (((s.modAgentCore (fun c => { c with
      marked := true, master := le m.content 7 1, period := le m.content 6 1, flywheel := 0, state := .serving
      placed := s.placeOf m.content port arrival })).forwardTick m residence).agentAtTick (le m.content 0 6)) := by
  have hother : ¬ (s.agent.core.marked = true ∧ le m.content 0 6 = s.agent.core.tick ∧ s.agent.core.flywheel = 0
      ∧ le m.content 7 1 ≠ s.agent.core.master) := fun h => Nat.ne_of_gt hnew h.2.1
  have hrepeat : ¬ (s.agent.core.marked = true ∧ le m.content 0 6 ≤ s.agent.core.tick ∧ s.agent.core.flywheel = 0) :=
    fun h => Nat.not_le_of_lt hnew h.2.1
  unfold execAgentTickReceive
  dsimp only
  rw [if_neg (takes_ticks hstate), if_neg hother, if_neg hrepeat, if_pos (.inl hnew)]
  simp only [State.modAgentCore, serving_after_tick hstate]

/-- A second TICK of the tick, of a lower Geneel ID: that one is followed (R52, R62). -/
theorem execAgentTickReceive_lower (m : Msg) (port arrival residence : Nat) (s : State)
    (hstate : s.agent.core.state = .serving ∨ s.agent.core.state = .quiesced) (hmarked : s.agent.core.marked = true)
    (hfly : s.agent.core.flywheel = 0) (hsame : le m.content 0 6 = s.agent.core.tick) (hlower : le m.content 7 1 < s.agent.core.master) :
    execAgentTickReceive m port arrival residence s = s.finish (((s.agentCount 6).modAgentCore (fun c => { c with
      master := le m.content 7 1, period := le m.content 6 1, placed := s.placeOf m.content port arrival })).forwardTick m residence) := by
  unfold execAgentTickReceive
  dsimp only
  rw [if_neg (takes_ticks hstate), if_pos ⟨hmarked, hsame, hfly, Nat.ne_of_lt hlower⟩, if_pos hlower]

/-- A flit with a route block goes to the port that the block names next (R173, R178). -/
theorem execSwitchFlitForward_routed (inPort : Nat) (f : Flit) (rest : List Flit) (s : State)
    (hbuf : (s.nodePort { node := .agent, port := inPort }).link.inputBuf = f :: rest) (hstate : s.agent.core.state ≠ .reset)
    (hdst : f.dst = 0xFFFF) (hvc : f.vc = 0) (hhops : le f.payload 17 1 < le f.payload 16 1) :
    execSwitchFlitForward inPort s = s.finish (((s.modLink { node := .agent, port := inPort } (fun l => { l with
        inputBuf := rest })).creditDue { node := .agent, port := inPort } f.vc).switchOut inPort
      (le f.payload (18 + le f.payload 17 1) 1)
      { f with payload := f.payload.take 17 ++ toLe 1 (le f.payload 17 1 + 1) ++ f.payload.drop 18 }) := by
  unfold execSwitchFlitForward
  simp only [hbuf]
  rw [if_neg hstate, if_pos ⟨hdst, hvc⟩, if_pos hhops]

/-- A starting action under a warm grant starts (R362, R514). -/
theorem execLoadStartingActionRequest_warm (kind action job : Nat) (g : AgentGrant) (s : State) (hkind : s.agent.core.kind = 1)
    (hstate : s.agent.core.state = .serving) (hgrant : s.grantOf kind action = some g) (hwarm : g.cold = false) :
    execLoadStartingActionRequest kind action job s = s.finish (s.runTimed (.release kind action)) := by
  unfold execLoadStartingActionRequest
  rw [if_neg (by simp [hkind, hstate])]
  simp only [hgrant, hwarm, Bool.false_eq_true, if_false]

/-- Settles O23: each row's guard decides it; reset, acknowledgement, repetition and the rows that only filter have none. -/
theorem agentEventsComplete : Obligations.AgentEventsComplete := by
  unfold Obligations.AgentEventsComplete
  refine ⟨?reset, ?newTick, ?lowerMaster, ?flywheel, ?tickLoss, ?forward, ?ack, ?reportRepeat, ?expire, ?deferred, ?cold, ?memoryError,
    ?startingAction⟩
  case reset | expire | deferred | cold => exact fun _ => rfl
  case ack => exact fun _ _ => rfl
  case reportRepeat => exact fun _ => rfl
  case newTick =>
    intro m port arrival residence s hstate hnew
    exact execAgentTickReceive_new m port arrival residence s hstate hnew
  case lowerMaster =>
    intro m port arrival residence s hstate hmarked hfly hsame hlower
    exact execAgentTickReceive_lower m port arrival residence s hstate hmarked hfly hsame hlower
  case flywheel =>
    intro s hmarked hstate hfly
    exact if_neg (by simp [hmarked, hstate, hfly])
  case tickLoss =>
    intro s hfly hserving
    exact if_neg (by simp [hserving, hfly])
  case forward =>
    intro inPort f rest s hbuf hstate hdst hvc hhops
    exact execSwitchFlitForward_routed inPort f rest s hbuf hstate hdst hvc hhops
  case memoryError =>
    intro unit s hstate hactive
    exact if_neg (by simp [hstate, Option.isSome_iff_ne_none.1 hactive])
  case startingAction =>
    intro kind action job g s hkind hstate hgrant hwarm
    exact execLoadStartingActionRequest_warm kind action job g s hkind hstate hgrant hwarm

end Sys2Proof.Proofs
end

section
/-! PROOFS of the family 02_fabric_tick: TICK_IN, mastership, notices, and the marker itself. -/

namespace Sys2Proof.Proofs

open Sys2Proof Sys2Proof.Machine

/-! ### TICK_IN, mastership and notices -/

/-- An edge of TICK_IN is counted while the tick runs; the emitting master that follows it locks, any other Geneel measures the phase
(R56, R57). -/
theorem execTickInEdge_counted (ns : Int) (s : State) (hoff : s.up.dev ≠ .off) (hhalt : s.up.dev ≠ .halt) (hload : s.clock.loaded = true) :
    execTickInEdge ns s =
      let s1 := s.modClock (fun x => { x with edges := x.edges + 1, edgeAt := some x.now })
      if s.clock.emitting = true then s.finish (if s.clock.mode = 0 then s1 else s1.modClock (fun x => { x with lock := 1 }))
      else s.finish (s1.modClock (fun x => { x with phase := some (max (-(2 ^ 31 - 1)) (min (2 ^ 31 - 1) ns)) })) := by
  unfold execTickInEdge
  dsimp only
  rw [if_neg (by simp [hoff, hhalt]), if_neg (by simp [hload])]

/-- The master announces its handover to a PRIMARY of lower ID, healthy for 62,500 ticks (R53). -/
theorem execMastershipReturn_announces (id : Nat) (s : State) (hload : s.clock.loaded = true) (hlower : id < s.ownId)
    (hemit : s.clock.emitting = true) (hfree : s.clock.handover = 0) (hhealthy : s.healthyId id = true)
    (hprimary : s.primaryId id = true) (hlong : s.twin.peers.any (fun p => p.id == id && (match p.healthySince with
      | some t => decide (t + 62500 ≤ s.clock.now)
      | none => false)) = true) :
    execMastershipReturn id s = s.finish (s.modClock (fun x => { x with handover := x.tick + 16, nextMaster := id })) := by
  unfold execMastershipReturn
  dsimp only
  rw [if_neg (by simp [hload]), if_neg (Nat.ne_of_lt hlower)]
  exact if_pos ⟨hemit, hlower, hfree, hhealthy, hprimary, hlong⟩

/-- The PRIMARY of lower ID emits from the tick announced (R53, R658). -/
theorem execMastershipReturn_takes (id t : Nat) (s : State) (hload : s.clock.loaded = true) (hown : id = s.ownId)
    (hfollows : s.clock.emitting = false) (hprimary : s.isPrimary = true) (hhealthy : s.up.dev.healthy = true)
    (hsince : s.clock.eligibleSince = some t) (hlong : t + 62500 ≤ s.clock.now) (hnext : s.clock.nextMaster = id)
    (hnow : s.clock.handover = s.clock.tick + 1) :
    execMastershipReturn id s = s.finish (s.modClock (fun x => { x with
      emitting := true, master := id, handover := 0, nextMaster := 0xFF, lock := 0 })) := by
  unfold execMastershipReturn
  dsimp only
  rw [if_neg (by simp [hload]), if_pos hown]
  exact if_pos ⟨by simp [hfollows], hprimary, hhealthy, by simp [hsince, hlong], hnext, hnow⟩

/-- At a boundary that has not been strobed, Buckram is told, and a primary reads its meters (R528, R530). -/
theorem strobe_boundary (s : State) (hload : s.clock.loaded = true) (hfirst : s.clock.tick ≠ 0)
    (hboundary : s.clock.tick % s.ticks 1000000 = 0) (hnew : s.clock.strobeTick ≠ s.clock.tick) (hhalt : s.up.dev ≠ .halt) :
    s.strobe =
      let s2 := ({ s with
        clock := { s.clock with strobeTick := s.clock.tick }
        pins := { s.pins with mtrStrobe := s.pins.mtrStrobe + 1 } } : State).modBuckram (fun b => b.post 1 (toLe 6 s.clock.tick))
      if s2.isPrimary then ((s2.bankNodes.filter (fun n => n.addr < 0x8000)).map TopoNode.addr).foldl (fun u a => u.readEnergy a) s2
      else s2 := by
  unfold State.strobe
  dsimp only
  rw [if_neg (by simp [hload, hfirst, hboundary, hnew, hhalt])]
  simp only [Bool.not_eq_true', ← Bool.not_eq_true, ite_not]

/-- Settles O41: each row's guard decides it. -/
theorem tickEdgesComplete : Obligations.TickEdgesComplete := by
  unfold Obligations.TickEdgesComplete
  refine ⟨?locks, ?measures, ?holdover, ?announces, ?takes, ?strobe, ?notices, ?hellos⟩
  case locks =>
    intro ns s hoff hhalt hload hemit hmode
    refine (execTickInEdge_counted ns s hoff hhalt hload).trans ((if_pos hemit).trans ?_)
    rw [if_neg hmode]
    rfl
  case measures =>
    intro ns s hoff hhalt hload hfollows
    exact (execTickInEdge_counted ns s hoff hhalt hload).trans (if_neg (by simp [hfollows]))
  case holdover =>
    intro s hemit hmode hlock hlate
    exact if_pos ⟨hemit, hmode, hlock, hlate⟩
  case announces =>
    intro id s hload hlower hemit hfree hhealthy hprimary hlong
    exact execMastershipReturn_announces id s hload hlower hemit hfree hhealthy hprimary hlong
  case takes =>
    intro id t s hload hown hfollows hprimary hhealthy hsince hlong hnext hnow
    exact execMastershipReturn_takes id t s hload hown hfollows hprimary hhealthy hsince hlong hnext hnow
  case strobe =>
    intro s hload hfirst hboundary hnew hhalt
    exact congrArg s.finish (strobe_boundary s hload hfirst hboundary hnew hhalt)
  case notices =>
    intro s hload hfirst hboundary hnew hhalt
    exact if_neg (by simp [hload, hfirst, hboundary, hnew, hhalt])
  case hellos =>
    intro s hdev
    exact congrArg s.finish (if_pos (by simpa using hdev))

/-! ### The marker -/

/-- Marker one as the elected master emits it, with its lock and before the event of holdover (R43, R56). -/
def markerOne (s : State) (lock : Nat) : State :=
  ((s.beginEmitting.modClock (fun x => { x with lock := lock, edgeAt := some x.now, startFrom := none })).take 1).sendTick

/-- What decides marker one at the elected master once its time has come (R43, R56, R57, R702). -/
theorem execMarkerOneEmit_due (m : StartMoment) (t : Nat) (s : State) (hstart : s.clock.startFrom = some t)
    (hload : s.clock.loaded = false) (hclocked : s.clocked = true) (helected : s.elected = some s.ownId) (hdue : t ≤ s.clock.now) :
    execMarkerOneEmit m s =
      if s.clock.mode = 0 then s.finish (markerOne s 0)
      else if m.edge = true ∧ 16 * s.clock.now + m.us % 16 ≤ 16 * t + 2 * s.clock.interval then s.finish (markerOne s 1)
      else if 16 * t + 2 * s.clock.interval ≤ 16 * s.clock.now + m.us % 16 then
        s.finish ((markerOne s 2).fault { source := 0xF128, code := 0x22 })
      else s.finish s := by
  unfold execMarkerOneEmit
  simp only [hstart]
  rw [if_neg (by simp [hload, hclocked, helected, hdue])]
  rfl

/-- Settles O42: each row's guard decides it; the modes of marker one are `execMarkerOneEmit_due`. -/
theorem markersComplete : Obligations.MarkersComplete := by
  unfold Obligations.MarkersComplete
  refine ⟨?localInstant, ?own, ?taken, ?free, ?locked, ?holdover, ?missed, ?backup⟩
  case localInstant =>
    intro s hload hclocked
    exact if_neg (by simp [hload, hclocked])
  case own =>
    intro s hclocked hload hemit
    refine (if_neg (by simp [hclocked])).trans (congrArg s.finish (if_pos ?_))
    rw [hload, hemit]
    rfl
  case taken =>
    intro m s hclocked htype
    exact (if_neg (by simp [hclocked])).trans (congrArg s.finish (if_pos htype))
  case free =>
    intro edge us t s hstart hload hclocked helected hdue hmode
    exact (execMarkerOneEmit_due _ t s hstart hload hclocked helected hdue).trans (if_pos hmode)
  case locked =>
    intro us t s hstart hload hclocked helected hdue hmode hsoon
    exact (execMarkerOneEmit_due _ t s hstart hload hclocked helected hdue).trans ((if_neg hmode).trans (if_pos ⟨rfl, hsoon⟩))
  case holdover =>
    intro us t s hstart hload hclocked helected hdue hmode hlate
    exact (execMarkerOneEmit_due _ t s hstart hload hclocked helected hdue).trans
      ((if_neg hmode).trans ((if_neg (by simp)).trans (if_pos hlate)))
  case missed =>
    intro s hload hfollows hclocked
    exact if_neg (by simp [hload, hfollows, hclocked])
  case backup =>
    intro s hload hfollows hclocked hmisses helected
    have hmissed : ¬ s.clock.missedRun < 2 := Nat.not_lt.2 hmisses
    exact if_neg (by simp only [hload, hfollows, hclocked, hmissed, helected, beq_self_eq_true, Bool.or_true, Bool.not_true,
      Bool.false_eq_true, or_self, not_false_eq_true])

end Sys2Proof.Proofs
end

section
/-! PROOFS of the family 02_fabric_tick: the fetch of a packet, and commands that wait. -/

namespace Sys2Proof.Proofs

open Sys2Proof Sys2Proof.Machine

/-! ### The fetch -/

/-- The state in which the ring that the tie-break serves is looked at: the look is a grant (R71, R76). -/
def granted (s : State) : State := { s with host := { s.host with grants := s.host.grants + 1 } }

/-- The cause with which the header slot of a packet stops its ring, 0 where it is right (R93, R96). -/
def headerCause (x : Ring) (p : Packet) : Nat :=
  if p.seq ≠ x.seqExp then 1 else if p.nsig = 3 then 2 else if 4096 < p.len then 7 else 0

section
variable {port ring : Nat} {packet : Packet} {s : State} (hnext : s.fetchNext = some (64 * port + ring))
  (hasks : s.asksFetch port ring = true)
include hnext hasks

/-- The ring that the tie-break serves, when it asks, is looked at. -/
theorem served_asks : ¬ (s.fetchNext ≠ some (64 * port + ring) ∨ (!s.asksFetch port ring) = true) := by
  simp [hnext, hasks]

/-- Bad data stop the ring (R93). -/
theorem execPacketFetch_badData :
    execPacketFetch port ring packet true s = s.finish ((granted s).ringError port ring 5 (s.ring port ring).sqHead) := by
  unfold execPacketFetch
  dsimp only
  rw [if_neg (served_asks hnext hasks), if_pos rfl]
  rfl

/-- A bad header slot is rejected and stops the ring (R93, R96). -/
theorem execPacketFetch_badHeader {cause : Nat} (hcause : headerCause (s.ring port ring) packet = cause) (hbad : cause ≠ 0) :
    execPacketFetch port ring packet false s = s.finish ((((granted s).setRing port ring { s.ring port ring with
        sqHead := ((s.ring port ring).sqHead + 1) % 2 ^ 32 }).reject { packet with port := port, ring := ring } 0x11
      (s.ring port ring).seqExp).ringError port ring cause (s.ring port ring).sqHead) := by
  subst hcause
  unfold execPacketFetch
  dsimp only
  rw [if_neg (served_asks hnext hasks), if_neg Bool.false_ne_true]
  exact if_pos hbad

/-- A right header slot: the packet is taken where the doorbell covers its slots, and looked at again at the next doorbell where it does not
(R85, R87). -/
theorem execPacketFetch_goodHeader (hgood : headerCause (s.ring port ring) packet = 0) :
    execPacketFetch port ring packet false s =
      if (s.ring port ring).covered < packetSlots packet then
        s.finish ((granted s).setRing port ring { s.ring port ring with short := some (s.ring port ring).sqDb })
      else
        let s1 := (granted s).setRing port ring { s.ring port ring with
          sqHead := ((s.ring port ring).sqHead + packetSlots packet) % 2 ^ 32, seqExp := ((s.ring port ring).seqExp + 1) % 2 ^ 32
          short := none }
        let s3 := (s1.countDispatch.selvedgeSpend { ver := packet.nsig }).takePacket { packet with port := port, ring := ring }
        s.finish (s3.orderPump s3.host.cmds.length) := by
  unfold execPacketFetch
  dsimp only
  rw [if_neg (served_asks hnext hasks), if_neg Bool.false_ne_true]
  exact if_neg (absurd hgood)

end

/-- A header slot with the right sequence, signature count and length. -/
theorem headerCause_eq_zero {x : Ring} {p : Packet} (hseq : p.seq = x.seqExp) (hsig : p.nsig ≠ 3) (hlen : p.len ≤ 4096) :
    headerCause x p = 0 := by
  unfold headerCause
  rw [if_neg (absurd hseq), if_neg hsig, if_neg (Nat.not_lt.2 hlen)]

/-! ### Commands that wait -/

/-- A command queued behind a drain that goes on waiting 60 s after its acceptance (R116). -/
theorem execQueuedCommandTimeout_ends (id : Nat) (c : Cmd) (s : State) (hc : s.cmd id = some c) (hphase : c.phase = .drain)
    (hlate : c.since + 3750000 ≤ s.clock.now) : execQueuedCommandTimeout id s = s.finish (s.endCmd id 0x50 0) := by
  unfold execQueuedCommandTimeout
  simp only [hc]
  rw [if_pos ⟨hphase, hlate⟩]

/-- A command queued behind a drain whose target drains no more goes on to wait for its tick or its agents, or runs (R116, R327). -/
theorem execQueuedCommandRelease_goesOn (id : Nat) (c : Cmd) (op : HostOp) (s : State) (hc : s.cmd id = some c)
    (hop : hostOp c.pkt.opcode = some op) (hphase : c.phase = .drain) (htarget : op.target c.pkt s = .ok)
    (hright : s.hasRight op c.master = true) :
    execQueuedCommandRelease id s =
      let due := if op.waitsForAgents = true then max c.due (s.clock.now + 3) else max c.due s.clock.now
      let s1 := s.modCmd id (fun d => { d with
        phase := .timed, due := due
        endStatus := if c.pkt.effTick ≠ 0 ∧ c.due < due then 0x13 else d.endStatus
        endDetail := if c.pkt.effTick ≠ 0 ∧ c.due < due then due - c.due else d.endDetail })
      let s2 := op.start c.pkt id s1
      s.finish (if due ≤ s.clock.now then s2.runCmd op id else s2) := by
  unfold execQueuedCommandRelease
  simp only [hc, hop, htarget]
  rw [if_neg (absurd hphase), if_neg (by simp [hright])]

/-- Settles O52: `execPacketFetch_badData`, `execPacketFetch_badHeader` for each cause, `execPacketFetch_goodHeader` for the rest of the fetch;
the rows of waiting commands by their guards. -/
theorem packetFetchCompletes : Obligations.PacketFetchCompletes := by
  unfold Obligations.PacketFetchCompletes
  refine ⟨?takes, ?short, ?badSeq, ?badSigs, ?badLength, ?badData, ?holdExpires, ?timesOut, ?goesOn, ?orphans⟩
  case takes =>
    intro port ring packet s hnext hasks hseq hsig hlen hcovered
    exact (execPacketFetch_goodHeader hnext hasks (headerCause_eq_zero hseq hsig hlen)).trans (if_neg (Nat.not_lt.2 hcovered))
  case short =>
    intro port ring packet s hnext hasks hseq hsig hlen hshort
    exact (execPacketFetch_goodHeader hnext hasks (headerCause_eq_zero hseq hsig hlen)).trans (if_pos hshort)
  case badSeq =>
    intro port ring packet s hnext hasks hseq
    exact execPacketFetch_badHeader hnext hasks (if_pos hseq) (by decide)
  case badSigs =>
    intro port ring packet s hnext hasks hseq hsig
    exact execPacketFetch_badHeader hnext hasks ((if_neg (absurd hseq)).trans (if_pos hsig)) (by decide)
  case badLength =>
    intro port ring packet s hnext hasks hseq hsig hlen
    exact execPacketFetch_badHeader hnext hasks
      ((if_neg (absurd hseq)).trans ((if_neg hsig).trans (if_pos hlen))) (by decide)
  case badData =>
    intro port ring packet s hnext hasks
    exact execPacketFetch_badData hnext hasks
  case holdExpires =>
    intro digest c s hc
    change execCosignHoldExpire digest s = _
    simp only [execCosignHoldExpire, hc]
    rfl
  case timesOut =>
    intro id c s hc hphase hlate
    exact execQueuedCommandTimeout_ends id c s hc hphase hlate
  case goesOn =>
    intro id c op s hc hop hphase htarget hright
    exact execQueuedCommandRelease_goesOn id c op s hc hop hphase htarget hright
  case orphans =>
    intro port s hhalt hoff
    exact if_neg (by simp [hhalt, hoff])

end Sys2Proof.Proofs
end

section
/-! PROOFS of the family 03_command_packets: what holds of every command, whatever it is: it is executed, and runs go on. -/

namespace Sys2Proof.Proofs

open Sys2Proof Sys2Proof.Machine

/-! ### One command -/

/-- Every command finishes: a host row is its opcode's command, and every other row has its own lemma. -/
theorem exec_finish (i : Instr) (s : State) : ∃ t, exec i s = s.finish t := by
  cases i with
  | identify p | floorplanGet p | stateGet p | deviceReset p | cmdCancel p | nop p | tickConfig p | tickStart p | tickStatus p
  | tickRunaheadGet p | discoverStart p | discoverStatus p | topologyGet p | rackAbsorb p | linkRetrain p | shelfAssign p | routeSolve p
  | routeStage p | routeCommit p | routePin p | routeUnpin p | routeStatus p | failoverPrepare p | sliceCreate p | sliceModify p
  | sliceDestroy p | sliceGet p | accessSet p | accessGet p | sparePromote p | groupCreate p | groupDestroy p | groupStatus p
  | planCreate p | planDestroy p | planStatus p | tableCreate p | tableDestroy p | tableLoad p | tableRead p | tableConfig p
  | tableStatus p | tableSnapshot p | storeCarve p | storeMode p | generationOpen p | generationStatus p | restoreStart p
  | generationDrop p | oppointSet p | powerStatus p | shelfBudgetSet p | unitDisable p | unitEnable p | currentDeclare p | mtrParamSet p
  | mtrBatchGet p | mtrJobEnergyGet p | mtrAuditGet p | mtrIdentityGet p | attestGet p | enrol p | keyPolicySet p | fwPolicySet p
  | fwStage p | fwActivate p | debugChallenge p | debugUnlock p | seclogClear p | keyRotate p | cosignStateGet p | cosignWithdraw p
  | eventViewGet p
  | eventClear p | severitySet p | unfence p | faultRelease p | faultSummaryGet p | roleAssign p | twinStatus p | peerListSet p
  | peerStatus p | takeover p | streamRead p | countersGet p | agentCountersRead p | loopback p =>
    exact ⟨_, exec_hostRow rfl s⟩
  | configRequest port => exact execConfigRequest_finish port s
  | sqDoorbellWrite port ring count => exact execSqDoorbellWrite_finish port ring count s
  | cqDoorbellWrite port ring count => exact execCqDoorbellWrite_finish port ring count s
  | ringEnable port ring ctrl => exact execRingEnable_finish port ring ctrl s
  | ringDisable port ring ctrl => exact execRingDisable_finish port ring ctrl s
  | ringStopComplete port ring => exact execRingStopComplete_finish port ring s
  | evtCurIndexWrite port index => exact execEvtCurIndexWrite_finish port index s
  | evtCurAdvWrite port => exact execEvtCurAdvWrite_finish port s
  | eventSnapshotReady port => exact execEventSnapshotReady_finish port s
  | intCauseClear port causes => exact execIntCauseClear_finish port causes s
  | intMaskWrite port mask => exact execIntMaskWrite_finish port mask s
  | rwQuadwordHalfWrite port offset value => exact execRwQuadwordHalfWrite_finish port offset value s
  | quadwordLowReadLatch port offset size => exact execQuadwordLowReadLatch_finish port offset size s
  | registerWrite port offset size value => exact execRegisterWrite_finish port offset size value s
  | coalesceTimerExpire port ring => exact execCoalesceTimerExpire_finish port ring s
  | packetFetch port ring packet bad => exact execPacketFetch_finish port ring packet bad s
  | cosignHoldExpire digest => exact execCosignHoldExpire_finish digest s
  | queuedCommandRelease id => exact execQueuedCommandRelease_finish id s
  | queuedCommandTimeout id => exact execQueuedCommandTimeout_finish id s
  | orphanQueueDrain port => exact execOrphanQueueDrain_finish port s
  | pwrGoodRise straps => exact execPwrGoodRise_finish straps s
  | pwrGoodFall => exact execPwrGoodFall_finish s
  | resetNAssert programmed => exact execResetNAssert_finish programmed s
  | resetNRelease us => exact execResetNRelease_finish us s
  | perstAssert port => exact execPerstAssert_finish port s
  | perstRelease port => exact execPerstRelease_finish port s
  | bootComplete clockOk selvedgeOk copies => exact execBootComplete_finish clockOk selvedgeOk copies s
  | stage1Complete => exact execStage1Complete_finish s
  | stage2Complete => exact execStage2Complete_finish s
  | stage3Complete => exact execStage3Complete_finish s
  | stage4Complete => exact execStage4Complete_finish s
  | stage5Complete => exact execStage5Complete_finish s
  | railBookingStart what => exact execRailBookingStart_finish what s
  | selfTestComplete kind idx passed detail rows => exact execSelfTestComplete_finish kind idx passed detail rows s
  | localInstant => exact execLocalInstant_finish s
  | tickMarker m => exact execTickMarker_finish m s
  | markerOneEmit at_ => exact execMarkerOneEmit_finish at_ s
  | markerMissed => exact execMarkerMissed_finish s
  | backupMarkerEmit => exact execBackupMarkerEmit_finish s
  | mastershipReturn id => exact execMastershipReturn_finish id s
  | tickInEdge ns => exact execTickInEdge_finish ns s
  | tickInHoldover => exact execTickInHoldover_finish s
  | boundaryStrobe => exact execBoundaryStrobe_finish s
  | jobNoticePublish => exact execJobNoticePublish_finish s
  | peerHelloSend => exact execPeerHelloSend_finish s
  | oppointSwitch => exact execOppointSwitch_finish s
  | droopFlagSet => exact execDroopFlagSet_finish s
  | droopFlagClear => exact execDroopFlagClear_finish s
  | droopLowering => exact execDroopLowering_finish s
  | thermalSample temps => exact execThermalSample_finish temps s
  | thermalLowering => exact execThermalLowering_finish s
  | thermalRecoveryRaise => exact execThermalRecoveryRaise_finish s
  | thermComparatorTrip sensor => exact execThermComparatorTrip_finish sensor s
  | tdpLimitLowering average logic => exact execTdpLimitLowering_finish average logic s
  | tdpRecoveryRaise average logic => exact execTdpRecoveryRaise_finish average logic s
  | ageingMeasure slowdown refsReadable => exact execAgeingMeasure_finish slowdown refsReadable s
  | opsecWrite => exact execOpsecWrite_finish s
  | farEndSignalDetect r => exact execFarEndSignalDetect_finish r s
  | linkTrainingStart r good reversed polarity => exact execLinkTrainingStart_finish r good reversed polarity s
  | trainingStepTimeout r => exact execTrainingStepTimeout_finish r s
  | trainingHandshakeDone r t1 => exact execTrainingHandshakeDone_finish r t1 s
  | helloRepeat r => exact execHelloRepeat_finish r s
  | retrainTrigger r => exact execRetrainTrigger_finish r s
  | retrainComplete r => exact execRetrainComplete_finish r s
  | retrainTimeout r => exact execRetrainTimeout_finish r s
  | dataFlitReceive r f cw => exact execDataFlitReceive_finish r f cw s
  | retryRequestReceive r lseq f => exact execRetryRequestReceive_finish r lseq f s
  | idleFlitReceive r f => exact execIdleFlitReceive_finish r f s
  | retryHoldoffExpire r => exact execRetryHoldoffExpire_finish r s
  | lackStallReplay r => exact execLackStallReplay_finish r s
  | outputFlitSelect now => exact execOutputFlitSelect_finish now s
  | linkCreditReceive r f cw => exact execLinkCreditReceive_finish r f cw s
  | linkHelloReceive r f cw => exact execLinkHelloReceive_finish r f cw s
  | tsReqReceive r f cw t2 t3 => exact execTsReqReceive_finish r f cw t2 t3 s
  | tsRspReceive r f cw t4 => exact execTsRspReceive_finish r f cw t4 s
  | tsFollowReceive r f cw => exact execTsFollowReceive_finish r f cw s
  | tsExchangeDiscard r k => exact execTsExchangeDiscard_finish r k s
  | delayMeasurementDone r => exact execDelayMeasurementDone_finish r s
  | linkSessionFlitReceive r f cw => exact execLinkSessionFlitReceive_finish r f cw s
  | sessionCountNear r => exact execSessionCountNear_finish r s
  | agentReset => exact execAgentReset_finish s
  | agentTickReceive m port arrival residence => exact execAgentTickReceive_finish m port arrival residence s
  | agentFlywheelTick => exact execAgentFlywheelTick_finish s
  | agentTickLoss => exact execAgentTickLoss_finish s
  | agentProbeIdentify m => exact execAgentProbeIdentify_finish m s
  | agentProbeClaim m => exact execAgentProbeClaim_finish m s
  | agentProbeCert m => exact execAgentProbeCert_finish m s
  | agentProbeSession m => exact execAgentProbeSession_finish m s
  | switchFlitForward inPort => exact execSwitchFlitForward_finish inPort s
  | agentLinkstateRequest m => exact execAgentLinkstateRequest_finish m s
  | agentTableWrite m => exact execAgentTableWrite_finish m s
  | agentCommitActivate m => exact execAgentCommitActivate_finish m s
  | agentCommitRetire m => exact execAgentCommitRetire_finish m s
  | agentCommitFailover m => exact execAgentCommitFailover_finish m s
  | agentCommitClearStandby m => exact execAgentCommitClearStandby_finish m s
  | agentCommitTargetSwap m => exact execAgentCommitTargetSwap_finish m s
  | agentCountersRequest m => exact execAgentCountersRequest_finish m s
  | agentTreeSet m => exact execAgentTreeSet_finish m s
  | agentCards m => exact execAgentCards_finish m s
  | agentKeyInstall m => exact execAgentKeyInstall_finish m s
  | agentKeySwitch m => exact execAgentKeySwitch_finish m s
  | agentKeyErase m => exact execAgentKeyErase_finish m s
  | agentCurrentGrant m => exact execAgentCurrentGrant_finish m s
  | agentRelease m => exact execAgentRelease_finish m s
  | agentLinkSession m => exact execAgentLinkSession_finish m s
  | agentVerdict m => exact execAgentVerdict_finish m s
  | agentFaultReportAck m => exact execAgentFaultReportAck_finish m s
  | faultReportRepeat => exact execFaultReportRepeat_finish s
  | segmentReassemblyExpire => exact execSegmentReassemblyExpire_finish s
  | deferredActionComplete => exact execDeferredActionComplete_finish s
  | agentGrantCold => exact execAgentGrantCold_finish s
  | switchTwillRecord port f => exact execSwitchTwillRecord_finish port f s
  | memberResultReceive f own => exact execMemberResultReceive_finish f own s
  | agentPlanAreaWrite f item countStream rank => exact execAgentPlanAreaWrite_finish f item countStream rank s
  | agentExchangeData port f item countStream rank => exact execAgentExchangeData_finish port f item countStream rank s
  | identReceive m => exact execIdentReceive_finish m s
  | linkstateReceive m => exact execLinkstateReceive_finish m s
  | topologyRecordChange => exact execTopologyRecordChange_finish s
  | faultReportReceive m => exact execFaultReportReceive_finish m s
  | agentReplyReceive m => exact execAgentReplyReceive_finish m s
  | agentReplyResend msgid => exact execAgentReplyResend_finish msgid s
  | agentReplyTimeout msgid => exact execAgentReplyTimeout_finish msgid s
  | discoveryLevelStep => exact execDiscoveryLevelStep_finish s
  | topologyDeltaReceive src d => exact execTopologyDeltaReceive_finish src d s
  | solveReqReceive m => exact execSolveReqReceive_finish m s
  | queuedSolveStart => exact execQueuedSolveStart_finish s
  | solveCallReceive m => exact execSolveCallReceive_finish m s
  | solveVectorReceive m => exact execSolveVectorReceive_finish m s
  | solveGoReceive m => exact execSolveGoReceive_finish m s
  | solveBatchComplete => exact execSolveBatchComplete_finish s
  | shareDataReceive m => exact execShareDataReceive_finish m s
  | shareDataTimeout share => exact execShareDataTimeout_finish share s
  | shareMoveReceive m => exact execShareMoveReceive_finish m s
  | solveDoneReceive m => exact execSolveDoneReceive_finish m s
  | solveAbortReceive m => exact execSolveAbortReceive_finish m s
  | epochStageReceive m => exact execEpochStageReceive_finish m s
  | epochStagedReceive m => exact execEpochStagedReceive_finish m s
  | epochCommitReceive m => exact execEpochCommitReceive_finish m s
  | epochDoneReceive m => exact execEpochDoneReceive_finish m s
  | sliceChangeStagingStart => exact execSliceChangeStagingStart_finish s
  | sliceChangeTimeout job => exact execSliceChangeTimeout_finish job s
  | streamRelease id => exact execStreamRelease_finish id s
  | sliceDrainEnd job => exact execSliceDrainEnd_finish job s
  | twillUpRecordReceive port f => exact execTwillUpRecordReceive_finish port f s
  | twillTallyReceive port f => exact execTwillTallyReceive_finish port f s
  | twillCommitDecide group step ns => exact execTwillCommitDecide_finish group step ns s
  | twillStepDeadline group step => exact execTwillStepDeadline_finish group step s
  | countFlitReceive f => exact execCountFlitReceive_finish f s
  | countsComplete plan => exact execCountsComplete_finish plan s
  | countDeadline plan => exact execCountDeadline_finish plan s
  | planningPass plan => exact execPlanningPass_finish plan s
  | exchangeCheckStart plan => exact execExchangeCheckStart_finish plan s
  | memberReportTimeout plan rank => exact execMemberReportTimeout_finish plan rank s
  | reportFlitReceive f => exact execReportFlitReceive_finish f s
  | xchgReadyReceive m => exact execXchgReadyReceive_finish m s
  | xchgRepairReceive m => exact execXchgRepairReceive_finish m s
  | tableRequestReceive f => exact execTableRequestReceive_finish f s
  | strictLookupRelease => exact execStrictLookupRelease_finish s
  | coalescingStallResume slot => exact execCoalescingStallResume_finish slot s
  | keySweepPage part obj area => exact execKeySweepPage_finish part obj area s
  | tableShardReceive m => exact execTableShardReceive_finish m s
  | tableShardDoneReceive m => exact execTableShardDoneReceive_finish m s
  | tableShardTimeout cmd => exact execTableShardTimeout_finish cmd s
  | checkpointDataReceive n f => exact execCheckpointDataReceive_finish n f s
  | checkpointEndReceive n f => exact execCheckpointEndReceive_finish n f s
  | shardDigestComplete job gen owner => exact execShardDigestComplete_finish job gen owner s
  | gapResendTimer job gen owner => exact execGapResendTimer_finish job gen owner s
  | gapReceive f => exact execGapReceive_finish f s
  | pullReceive n f => exact execPullReceive_finish n f s
  | parReceive f => exact execParReceive_finish f s
  | packReceive f => exact execPackReceive_finish f s
  | generationCommit job gen => exact execGenerationCommit_finish job gen s
  | generationDeadline job gen => exact execGenerationDeadline_finish job gen s
  | clearingComplete job gen => exact execClearingComplete_finish job gen s
  | spillAfterCommit job gen => exact execSpillAfterCommit_finish job gen s
  | genCtlReceive m => exact execGenCtlReceive_finish m s
  | genReportReceive m => exact execGenReportReceive_finish m s
  | unitDrainComplete kind idx => exact execUnitDrainComplete_finish kind idx s
  | unitDrainTimeout kind idx => exact execUnitDrainTimeout_finish kind idx s
  | currentStepSample addr kind e0 e1 e2 e3 => exact execCurrentStepSample_finish addr kind e0 e1 e2 e3 s
  | grantWarmRenew addr kind action => exact execGrantWarmRenew_finish addr kind action s
  | faultDetect source code key job detail handling poison => exact execFaultDetect_finish source code key job detail handling poison s
  | unitWatchdogExpire kind idx => exact execUnitWatchdogExpire_finish kind idx s
  | fencingComplete kind idx => exact execFencingComplete_finish kind idx s
  | faultQuietEnd => exact execFaultQuietEnd_finish s
  | eventBlockSpill failures => exact execEventBlockSpill_finish failures s
  | eventSpillRetry failures => exact execEventSpillRetry_finish failures s
  | deposition => exact execDeposition_finish s
  | mirrorDeltaReceive m item => exact execMirrorDeltaReceive_finish m item s
  | mirrorAckReceive m => exact execMirrorAckReceive_finish m s
  | mirrorAckResend seq => exact execMirrorAckResend_finish seq s
  | mirrorSingleTimeout => exact execMirrorSingleTimeout_finish s
  | heartbeatReceive m => exact execHeartbeatReceive_finish m s
  | haltNoticeReceive m => exact execHaltNoticeReceive_finish m s
  | resyncReqReceive m => exact execResyncReqReceive_finish m s
  | resyncDataReceive m items => exact execResyncDataReceive_finish m items s
  | automaticTakeover => exact execAutomaticTakeover_finish s
  | peerHelloReceive m => exact execPeerHelloReceive_finish m s
  | peerAbsent id => exact execPeerAbsent_finish id s
  | peerSessionOffer m => exact execPeerSessionOffer_finish m s
  | peerSessionAnswer m => exact execPeerSessionAnswer_finish m s
  | peerSessionKey m => exact execPeerSessionKey_finish m s
  | peerSessionCiphertext m => exact execPeerSessionCiphertext_finish m s
  | keyXferReceive m => exact execKeyXferReceive_finish m s
  | keyStateReceive m => exact execKeyStateReceive_finish m s
  | keyOrderReceive m => exact execKeyOrderReceive_finish m s
  | keyLifetimeExpire job kind => exact execKeyLifetimeExpire_finish job kind s
  | reattestInterval => exact execReattestInterval_finish s
  | debugNonceExpire => exact execDebugNonceExpire_finish s
  | meterBusCycle => exact execMeterBusCycle_finish s
  | shortReportReceive shelf frame => exact execShortReportReceive_finish shelf frame s
  | extendedReportReceive frame => exact execExtendedReportReceive_finish frame s
  | meterSilent shelf => exact execMeterSilent_finish shelf s
  | mtrStrobeReceive us => exact execMtrStrobeReceive_finish us s
  | windowSelfClose => exact execWindowSelfClose_finish s
  | windowSeal => exact execWindowSeal_finish s
  | mboxBoundary => exact execMboxBoundary_finish s
  | mboxCounts => exact execMboxCounts_finish s
  | mboxParam => exact execMboxParam_finish s
  | mboxQuery => exact execMboxQuery_finish s
  | mboxSealNotice => exact execMboxSealNotice_finish s
  | mtrQuerySegmentAnswer => exact execMtrQuerySegmentAnswer_finish s
  | mtrQueryTimeout => exact execMtrQueryTimeout_finish s
  | buckramSelfFault => exact execBuckramSelfFault_finish s
  | trainingAttemptFailed r => exact execTrainingAttemptFailed_finish r s
  | moveReleaseRequestReceive src serials => exact execMoveReleaseRequestReceive_finish src serials s
  | moveReleaseConfirmReceive src granted => exact execMoveReleaseConfirmReceive_finish src granted s
  | twinTreeReportReceive group step => exact execTwinTreeReportReceive_finish group step s
  | rdataReceive n f => exact execRdataReceive_finish n f s
  | tableMemoryError unit => exact execTableMemoryError_finish unit s
  | loadStartingActionRequest kind action job => exact execLoadStartingActionRequest_finish kind action job s

/-- What a command leaves has its alarm outputs set by the device (R610, R502, R694). -/
theorem pinsFollow_done (s t : State) : PinsFollow (Done s t) := by
  constructor
  · change (!(t.up.dev == .halt || t.up.clockBad)) = false ↔ t.up.dev = .halt ∨ t.up.clockBad = true
    rw [Bool.not_eq_false', Bool.or_eq_true, beq_iff_eq]
  · change (!t.up.tripped) = false ↔ t.up.tripped = true
    rw [Bool.not_eq_false']

/-- Settles O5: every command finishes, and a command that finishes leaves what `Done` says. -/
theorem everyCommandIsExecuted : Obligations.EveryCommandIsExecuted := by
  unfold Obligations.EveryCommandIsExecuted
  intro i s
  obtain ⟨t, ht⟩ := exec_finish i s
  exact ⟨Done s t, ht.trans (finish_eq_next_done s t), rfl, pinsFollow_done s t⟩

/-! ### One step -/

/-- With a command at the front of the queue, a step executes it on the state with the rest. -/
theorem step_cons {c : Instr} {rest : List Instr} {s : State} (h : s.pending = c :: rest) :
    step s = exec c { s with pending := rest } := by
  simp only [step, h]

/-- With nothing in the queue, a step idles (log entry 6). -/
theorem step_nil {s : State} (h : s.pending = []) : step s = .next s := by
  simp only [step, h]

/-- Settles O1: the queue of that state is the command and the rest. -/
theorem stepRunsTheFront : Obligations.StepRunsTheFront := by
  unfold Obligations.StepRunsTheFront
  intro c rest s
  exact step_cons rfl

/-- A step takes the front of the queue off it, and that is all it does to the queue. -/
theorem step_next (s : State) : ∃ t, step s = .next t ∧ t.pending = s.pending.tail := by
  cases h : s.pending with
  | nil => exact ⟨s, step_nil h, h⟩
  | cons c rest =>
    obtain ⟨t, hexec, hqueue, _⟩ := everyCommandIsExecuted c { s with pending := rest }
    exact ⟨t, (step_cons h).trans hexec, hqueue⟩

/-! ### Runs -/

/-- Settles O6, by induction on the number of steps, each of which answers a next state. -/
theorem runsNeverStop : Obligations.RunsNeverStop := by
  unfold Obligations.RunsNeverStop
  intro n
  induction n with
  | zero => exact fun _ => trivial
  | succ n ih =>
    intro s
    obtain ⟨t, hstep, _⟩ := step_next s
    exact ⟨t, hstep, ih t⟩

/-- `n` steps lead to a state whose queue has lost its first `n` commands. -/
theorem reaches_drop (n : Nat) (s : State) : ∃ t, Reaches n s t ∧ t.pending = s.pending.drop n := by
  induction n generalizing s with
  | zero => exact ⟨s, rfl, rfl⟩
  | succ n ih =>
    obtain ⟨u, hstep, hqueue⟩ := step_next s
    obtain ⟨t, hreach, hleft⟩ := ih u
    refine ⟨t, ⟨u, hstep, hreach⟩, ?_⟩
    rw [hleft, hqueue, List.drop_tail]

/-- Settles O7: as many steps as the queue is long drop all of it. -/
theorem queueEmpties : Obligations.QueueEmpties := by
  unfold Obligations.QueueEmpties
  intro s
  obtain ⟨t, hreach, hqueue⟩ := reaches_drop s.pending.length s
  exact ⟨t, hreach, hqueue.trans List.drop_length⟩

end Sys2Proof.Proofs
end

section
/-! PROOFS of the family 03_command_packets: a host row as its packet's checks and execution, and the rights of a ring. -/

namespace Sys2Proof.Proofs

open Sys2Proof Sys2Proof.Machine

/-! ### Host rows -/

/-- The opcode of a host row names that row (R705). -/
theorem hostOp_of_hostRow {i : Instr} {op : HostOp} {p : Packet} (h : hostRow i = some (op, p)) : hostOp op.opcode = some op := by
  unfold hostRow at h
  split at h <;> cases h <;> rfl

section
variable {op : HostOp} {p : Packet} {s : State}

/-- Nothing happens where the ring may not be fetched from (R72, R88, R89, R93, R112). -/
theorem command_unfetched (hfetch : s.mayFetch p.port p.ring = false) : s.command op p = s :=
  if_neg (by simp [hfetch])

/-- A ring that does not run may not be fetched from (R93, R112). -/
theorem mayFetch_of_stopped (hstop : s.ringRuns (asOp op p) = false) : s.mayFetch p.port p.ring = false :=
  Bool.eq_false_iff.2 (fun hfetch => absurd (s.mayFetch_runs (asOp op p) hfetch) (by simp [hstop]))

/-- A packet behind an ordered one is kept (R114). -/
theorem command_keeps (hfetch : s.mayFetch p.port p.ring = true) (hbehind : s.waitsBehind (asOp op p) = true) :
    s.command op p = (fetched p s).keepOrdered (asOp op p) :=
  (if_pos hfetch).trans (if_pos hbehind)

/-- A packet that needs no signature goes from check 5 to checks 7 to 11 (R102, R106). -/
theorem command_entered (h : Entered op p s = true) :
    s.command op p = (fetched p s).takeIn op (asOp op p) (s.masterOf p.port p.ring) := by
  obtain ⟨hchecked, hfree⟩ : Checked op p s = true ∧ (fetched p s).checkSigs op (asOp op p) (s.masterOf p.port p.ring) = .free := by
    simpa only [Entered, Bool.and_eq_true, beq_iff_eq] using h
  have hslot : (fetched p s).masterOf p.port p.ring = s.masterOf p.port p.ring := rfl
  rw [command_checked op p s hchecked]
  simp only [signedBy, hslot, hfree]

end

/-- Settles O8: the row is its opcode's command, which where the ring may be fetched from is `command_keeps`, `command_entered` or
`command_checked`. -/
theorem hostRowsAreCommands : Obligations.HostRowsAreCommands := by
  unfold Obligations.HostRowsAreCommands
  intro i op p hrow
  refine ⟨hostOp_of_hostRow hrow, fun s => ?_⟩
  exact ⟨exec_hostRow hrow s, command_unfetched, mayFetch_of_stopped, command_keeps, command_entered, command_checked op p s⟩

/-! ### The rights of a ring -/

/-- A master entry is a JOB entry that binds a ring of a port (R107, R324). -/
def Binds (port ring : Nat) (e : Nat × Access) : Prop :=
  72 ≤ e.1 ∧ e.2.cls = 5 ∧ e.2.port = port ∧ e.2.rings.getLsbD ring = true

/-- The test with which `State.masterOf` looks for the entry is `Binds`. -/
theorem masterOf_test_iff (port ring : Nat) (e : Nat × Access) :
    (72 ≤ e.1 && e.2.cls == 5 && e.2.port == port && e.2.rings.getLsbD ring) = true ↔ Binds port ring e := by
  simp [Binds, and_assoc]

/-- A ring that a JOB entry binds acts for such an entry (R107). -/
theorem masterOf_bound {port ring : Nat} {s : State} (h : ∃ e ∈ s.access.masters, Binds port ring e) :
    ∃ e ∈ s.access.masters, Binds port ring e ∧ s.masterOf port ring = e.1 := by
  obtain ⟨d, hd, hbind⟩ := h
  unfold State.masterOf
  split
  next e hfind =>
    have htest := List.find?_some hfind
    exact ⟨e, List.mem_of_find?_eq_some hfind, (masterOf_test_iff port ring e).1 htest, rfl⟩
  next hnone => exact absurd ((masterOf_test_iff port ring d).2 hbind) (List.find?_eq_none.1 hnone d hd)

/-- A ring that no JOB entry binds acts for the master of its port (R107). -/
theorem masterOf_unbound {port ring : Nat} {s : State} (h : ¬ ∃ e ∈ s.access.masters, Binds port ring e) :
    s.masterOf port ring = port := by
  unfold State.masterOf
  split
  next e hfind =>
    have htest := List.find?_some hfind
    exact absurd ⟨e, List.mem_of_find?_eq_some hfind, (masterOf_test_iff port ring e).1 htest⟩ h
  next => rfl

/-- Another job than the ring's fails check 5, whatever the rights are (R107). -/
theorem checkAccess_otherJob {s : State} {op : HostOp} {p : Packet} {slot j : Nat} (hmaster : s.masterJob slot = some j)
    (hjob : p.job ≠ j) : s.checkAccess op p slot = .fail 0x20 (2 + 256 * slot) := by
  simp [State.checkAccess, hmaster, hjob, needRight, Check.and]

/-- With the right job, a clear class bit fails check 5 (R107). -/
theorem checkAccess_noRight {s : State} {op : HostOp} {p : Packet} {slot : Nat} (hjob : ∀ j, s.masterJob slot = some j → p.job = j)
    (hclass : (s.master slot).classes.getLsbD (op.opcode / 256) = false) :
    s.checkAccess op p slot = .fail 0x20 (1 + 256 * slot) := by
  have hright : s.hasRight op slot = false := by simp [State.hasRight, hclass]
  cases hmaster : s.masterJob slot with
  | none => simp [State.checkAccess, hmaster, hright, needRight, Check.and]
  | some j => simp [State.checkAccess, hmaster, hjob j hmaster, hright, needRight, Check.and]

section
variable {i : Instr} {op : HostOp} {p : Packet} {s : State} {st d : Nat} (hrow : hostRow i = some (op, p))
  (hfetch : s.mayFetch p.port p.ring = true) (hbehind : s.waitsBehind (asOp op p) = false)
  (hring : (s.ring p.port p.ring).takesRecords = true) (hheader : (fetched p s).checkHeader op (asOp op p) = .ok)
  (hstate : (fetched p s).checkState op = .ok)
include hfetch hbehind hheader hstate

/-- A packet whose check 5 fails is rejected with what the check says (R106, R107). -/
theorem command_denied (haccess : (fetched p s).checkAccess op (asOp op p) (s.masterOf p.port p.ring) = .fail st d) :
    s.command op p = (fetched p s).finishPacket (asOp op p) st d 0 [] := by
  have hslot : (fetched p s).masterOf (asOp op p).port (asOp op p).ring = s.masterOf p.port p.ring := rfl
  rw [command_submits op p s hfetch hbehind]
  simp only [State.submit, hslot, hheader, hstate, haccess, checks, List.foldl, Check.and, State.reject]

include hrow hring

/-- A row whose packet's check 5 fails shows the host that, and changes nothing else (R106, R107). -/
theorem exec_denied (haccess : (fetched p s).checkAccess op (asOp op p) (s.masterOf p.port p.ring) = .fail st d) (hfinal : st ≠ 1) :
    ∃ t, exec i s = .next (Done s t) ∧ Refused (fetched p s) t (asOp op p) op.opcode st d := by
  have hposts : (fetched p s).posts p.port p.ring := s.ringRuns_posts (asOp op p) (s.mayFetch_runs (asOp op p) hfetch) hring
  refine ⟨s.command op p, exec_hostRow hrow s, ?_⟩
  rw [command_denied hfetch hbehind hheader hstate haccess]
  exact (fetched p s).finishPacket_shows (asOp op p) st d 0 [] hposts hfinal

end

/-- Settles O12: the master of a ring is the first JOB entry that binds it; check 5 looks at the job before the right. -/
theorem rightsOfTheRing : Obligations.RightsOfTheRing := by
  unfold Obligations.RightsOfTheRing
  constructor
  · exact fun port ring s => ⟨masterOf_bound, masterOf_unbound⟩
  · intro i op p s hrow hfetch hbehind hring hheader hstate
    constructor
    · intro j hmaster hjob
      exact exec_denied hrow hfetch hbehind hring hheader hstate (checkAccess_otherJob hmaster hjob) (by decide)
    · intro hjob hclass
      exact exec_denied hrow hfetch hbehind hring hheader hstate (checkAccess_noRight hjob hclass) (by decide)

end Sys2Proof.Proofs
end

section
/-! PROOFS of the family 03_command_packets: the host rows that ask, and those of the device, the clock, the faults and the power. Each
row is its opcode's command; what is left of it is the opcode's own `apply`. -/

namespace Sys2Proof.Proofs

open Sys2Proof Sys2Proof.Machine

/-- Settles O53: a query whose `apply` leaves the state as it is answers (`query_answers`), and what the host interface has got by then is
not among what is asked for. -/
theorem queriesAnswer : Obligations.QueriesAnswer := by
  unfold Obligations.QueriesAnswer
  refine ⟨?identify, ?floorplanGet, ?stateGet, ?nop, ?loopback, ?tickStatus, ?tickRunaheadGet, ?streamRead, ?cosignStateGet,
    ?eventViewGet, ?faultSummaryGet, ?twinStatus, ?peerStatus, ?powerStatus⟩
  case identify | floorplanGet | stateGet | nop | loopback | tickStatus | tickRunaheadGet | streamRead | cosignStateGet | eventViewGet
      | faultSummaryGet | twinStatus | peerStatus | powerStatus =>
    intro p s hadm htick
    exact query_answers _ p s _ hadm htick rfl (fun _ _ _ => rfl) (.inl rfl) rfl

/-- Settles O54: none of these waits or begins anything at its acceptance, so each is its effect and its end (`exec_ended`). -/
theorem stateQueriesAnswer : Obligations.StateQueriesAnswer := by
  unfold Obligations.StateQueriesAnswer
  refine ⟨?discoverStatus, ?topologyGet, ?routeStatus, ?sliceGet, ?accessGet, ?groupStatus, ?planStatus, ?tableStatus, ?tableRead,
    ?generationStatus, ?mtrBatchGet, ?mtrJobEnergyGet, ?mtrAuditGet, ?mtrIdentityGet, ?countersGet, ?agentCountersRead, ?attestGet,
    ?debugChallenge⟩
  case discoverStatus | topologyGet | routeStatus | sliceGet | accessGet | groupStatus | planStatus | tableStatus | tableRead
      | generationStatus | mtrBatchGet | mtrJobEnergyGet | mtrAuditGet | mtrIdentityGet | countersGet | agentCountersRead | attestGet
      | debugChallenge =>
    intro p s hadm htick
    exact exec_ended rfl hadm htick rfl (fun _ _ _ => rfl)

/-- Settles O55: each row is its effect and its end (`exec_ended`); where the effect branches on the state in which it begins, it is compared
for any such state. -/
theorem deviceCommandsComplete : Obligations.DeviceCommandsComplete := by
  unfold Obligations.DeviceCommandsComplete
  refine ⟨?deviceReset, ?cmdCancel, ?tickConfig, ?tickStart, ?cosignWithdraw, ?faultRelease, ?severitySet, ?unfence, ?oppointSet,
    ?unitDisable, ?unitEnable, ?currentDeclare⟩
  case cmdCancel | tickConfig | tickStart | cosignWithdraw | faultRelease | severitySet | oppointSet | currentDeclare =>
    intro p s hadm htick
    exact exec_ended rfl hadm htick rfl (fun _ _ _ => rfl)
  case deviceReset =>
    intro p s hadm htick
    refine (exec_ended rfl hadm htick rfl (fun _ _ _ => rfl)).trans ?_
    generalize begun opDeviceReset p (fetched p s) = s0
    rfl
  case unfence =>
    intro p s hadm htick
    refine (exec_ended rfl hadm htick rfl (fun _ _ _ => rfl)).trans ?_
    generalize begun opUnfence p (fetched p s) = s0
    rfl
  case unitDisable =>
    intro p s hadm htick
    refine (exec_ended rfl hadm htick rfl (fun _ _ _ => rfl)).trans ?_
    generalize begun opUnitDisable p (fetched p s) = s0
    rfl
  case unitEnable =>
    intro p s hadm htick
    refine (exec_ended rfl hadm htick rfl (fun _ _ _ => rfl)).trans ?_
    generalize begun opUnitEnable p (fetched p s) = s0
    rfl

end Sys2Proof.Proofs
end

section
/-! PROOFS of the family 03_command_packets: the host rows that need signatures. -/

namespace Sys2Proof.Proofs

open Sys2Proof Sys2Proof.Machine

/-! ### What the signatures decide -/

section
variable {i : Instr} {op : HostOp} {p : Packet} {s : State} {g : List Nat}

/-- A command that every required credential has signed goes on with its signers (R102, R104). -/
theorem signedBy_full (hfull : (fetched p s).checkSigs op (asOp op p) (s.masterOf p.port p.ring) = .full g) (go : List Nat → State) :
    signedBy op p s go = go g := by
  have hslot : (fetched p s).masterOf p.port p.ring = s.masterOf p.port p.ring := rfl
  simp only [signedBy, hslot, hfull]

variable (hrow : hostRow i = some (op, p))
include hrow

/-- A row whose packet passes checks 2 to 5, as its signatures have it (R102 to R106). -/
theorem exec_checked (hchecked : Checked op p s = true) :
    exec i s = .next (Done s (signedBy op p s (fun g =>
      (signedState op p g s).takeIn op (asOp op p) (s.masterOf p.port p.ring)))) := by
  rw [exec_hostRow hrow, command_checked op p s hchecked]

variable (hsign : Signable op p s) (htick : p.effTick = 0)
include hsign htick

/-- A signed row whose opcode waits: held for three ticks from its last signature (R66, R67, R101). -/
theorem exec_signedHeld (hwait : op.waitsForAgents = true) :
    exec i s = .next (Done s (signedBy op p s (fun g =>
      op.start (asOp op p) (signedState op p g s).freshCmd (withEntry (signedState op p g s)
        (entryOf op p (signedState op p g s) ((signedState op p g s).clock.now + 3)))))) := by
  rw [exec_hostRow hrow, signed_held op p s hsign htick hwait]

/-- A signed row whose opcode does not wait: its effect at its last signature, then its end (R66, R101, R109). -/
theorem exec_signedEnded (hwait : op.waitsForAgents = false) (hstart : ∀ q id u, op.start q id u = u) :
    exec i s = .next (Done s (signedBy op p s (fun g =>
      ended (signedState op p g s).freshCmd (op.apply (asOp op p) (signedState op p g s).freshCmd
        (begun op p (signedState op p g s)))))) := by
  rw [exec_hostRow hrow, signed_ended op p s hsign htick hwait hstart]

variable (hfull : (fetched p s).checkSigs op (asOp op p) (s.masterOf p.port p.ring) = .full g)
include hfull

/-- A fully signed row whose opcode waits is held. -/
theorem exec_fullHeld (hwait : op.waitsForAgents = true) :
    exec i s = .next (Done s (op.start (asOp op p) (signedState op p g s).freshCmd (withEntry (signedState op p g s)
      (entryOf op p (signedState op p g s) ((signedState op p g s).clock.now + 3))))) := by
  rw [exec_signedHeld hrow hsign htick hwait, signedBy_full hfull]

/-- A fully signed row whose opcode does not wait takes effect and ends. -/
theorem exec_fullEnded (hwait : op.waitsForAgents = false) (hstart : ∀ q id u, op.start q id u = u) :
    exec i s = .next (Done s (ended (signedState op p g s).freshCmd (op.apply (asOp op p) (signedState op p g s).freshCmd
      (begun op p (signedState op p g s))))) := by
  rw [exec_signedEnded hrow hsign htick hwait hstart, signedBy_full hfull]

end

/-! ### DEBUG_UNLOCK -/

/-- The third signature of DEBUG_UNLOCK, the debug key's over the nonce, is good (R590). -/
def debugSigned (p : Packet) : Bool :=
  keyId (field p.body 40 1793) == debugKeyId
    && falconVerify (field p.body 40 1793) (shake32 (ascii "GN7DBGA1" ++ field p.body 0 32 ++ identityDigest ++ field p.body 32 1))
      (field p.body 1840 1280)

/-- DEBUG_UNLOCK with a nonce that is valid and no keys but those of job 0: its last check that can fail is the third signature
(R590, R591). -/
theorem lateChecks_debugUnlock {p : Packet} {slot : Nat} {v : State} (htick : p.effTick = 0) (hlen : p.bodyLen = 3120)
    (hnonce : v.nonceValid (field p.body 0 32) = true) (hkeys : v.sec.keys.any (fun k => k.job != 0) = false)
    (hfree : v.checkReserved opDebugUnlock p slot = .ok) :
    v.lateChecks opDebugUnlock p slot = if debugSigned p = true then .ok else .fail 0x22 2 := by
  have hnow : v.checkTick opDebugUnlock p = .ok := if_pos htick
  have hroom : v.checkResources opDebugUnlock p = .ok := by
    simp [State.checkResources, State.wouldWait, htick, opDebugUnlock, Check.and]
  have hparams : opDebugUnlock.params p slot v = if debugSigned p = true then .ok else .fail 0x22 2 := by
    simp only [opDebugUnlock, needLen, need, needRight, hlen, hnonce, hkeys, beq_self_eq_true, Bool.not_false, if_true, checks,
      List.foldl, Check.and]
    rfl
  have htarget : opDebugUnlock.target p v = .ok := rfl
  simp only [State.lateChecks, hnow, hparams, hfree, hroom, htarget, checks, List.foldl, Check.and]
  cases debugSigned p <;> rfl

/-- DEBUG_UNLOCK after its two signatures: the third one decides (R590). -/
theorem takeIn_debugUnlock {p : Packet} {v : State} (htick : p.effTick = 0) (hlen : p.bodyLen = 3120)
    (hnonce : v.nonceValid (field p.body 0 32) = true) (hkeys : v.sec.keys.any (fun k => k.job != 0) = false)
    (hfree : v.checkReserved opDebugUnlock (asOp opDebugUnlock p) (v.masterOf p.port p.ring) = .ok) :
    v.takeIn opDebugUnlock (asOp opDebugUnlock p) (v.masterOf p.port p.ring) =
      if debugSigned p = true then
        ended v.freshCmd (opDebugUnlock.apply (asOp opDebugUnlock p) v.freshCmd (begun opDebugUnlock p v))
      else v.reject (asOp opDebugUnlock p) 0x22 2 := by
  have hlate := lateChecks_debugUnlock (p := asOp opDebugUnlock p) htick hlen hnonce hkeys hfree
  have hsame : debugSigned (asOp opDebugUnlock p) = debugSigned p := rfl
  rw [hsame] at hlate
  split
  next hgood =>
    rw [if_pos hgood] at hlate
    rw [← accept_ended opDebugUnlock p v htick rfl (fun _ _ _ => rfl)]
    simp only [State.takeIn, hlate]
  next hbad =>
    rw [if_neg hbad] at hlate
    simp only [State.takeIn, hlate]

/-- The row of DEBUG_UNLOCK, as its two signatures and then the third have it (R590, R591). -/
theorem exec_debugUnlock {p : Packet} {s : State} (hchecked : Checked opDebugUnlock p s = true) (htick : p.effTick = 0)
    (hlen : p.bodyLen = 3120)
    (hready : ∀ g, (signedState opDebugUnlock p g s).nonceValid (field p.body 0 32) = true
      ∧ (signedState opDebugUnlock p g s).sec.keys.any (fun k => k.job != 0) = false
      ∧ (signedState opDebugUnlock p g s).checkReserved opDebugUnlock (asOp opDebugUnlock p) (s.masterOf p.port p.ring) = .ok) :
    exec (.debugUnlock p) s = .next (Done s (signedBy opDebugUnlock p s (fun g =>
      if debugSigned p = true then
        ended (signedState opDebugUnlock p g s).freshCmd (opDebugUnlock.apply (asOp opDebugUnlock p)
          (signedState opDebugUnlock p g s).freshCmd (begun opDebugUnlock p (signedState opDebugUnlock p g s)))
      else (signedState opDebugUnlock p g s).reject (asOp opDebugUnlock p) 0x22 2))) := by
  rw [exec_checked rfl hchecked]
  congr 3
  funext g
  obtain ⟨hnonce, hkeys, hfree⟩ := hready g
  rw [← signedState_masterOf opDebugUnlock p p g s] at hfree ⊢
  exact takeIn_debugUnlock htick hlen hnonce hkeys hfree

/-- Settles O60: a row that waits is `exec_signedHeld`, any other `exec_signedEnded`, and with all its signatures `exec_fullHeld` or
`exec_fullEnded`; DEBUG_UNLOCK has a third signature. -/
theorem signedCommandsComplete : Obligations.SignedCommandsComplete := by
  unfold Obligations.SignedCommandsComplete
  refine ⟨?sliceCreate, ?sliceCreateFull, ?sliceModify, ?sliceModifyFull, ?sliceDestroy, ?sliceDestroyed, ?sliceDestroyFull, ?accessSet,
    ?accessSetFull, ?enrol, ?enrolFull, ?keyPolicy, ?keyPolicyFull, ?fwPolicy, ?fwPolicyFull, ?seclogClear, ?seclogClearFull,
    ?eventClear, ?eventClearFull, ?debugUnlock, ?debugUnlockFull⟩
  case sliceCreate | sliceModify | sliceDestroy =>
    intro p s hsign htick
    exact exec_signedHeld rfl hsign htick rfl
  case sliceCreateFull | sliceModifyFull | sliceDestroyFull =>
    intro p s g hsign htick hfull
    exact exec_fullHeld rfl hsign htick hfull rfl
  case accessSet | enrol | keyPolicy | fwPolicy | seclogClear | eventClear =>
    intro p s hsign htick
    exact exec_signedEnded rfl hsign htick rfl (fun _ _ _ => rfl)
  case accessSetFull | enrolFull | keyPolicyFull | fwPolicyFull | seclogClearFull | eventClearFull =>
    intro p s g hsign htick hfull
    exact exec_fullEnded rfl hsign htick hfull rfl (fun _ _ _ => rfl)
  case sliceDestroyed =>
    intro p id c s hc hpkt hend
    exact runCmd_asOp p hc hpkt hend
  case debugUnlock =>
    intro p s hchecked htick hlen hready
    exact exec_debugUnlock hchecked htick hlen hready
  case debugUnlockFull =>
    intro p s g hchecked htick hlen hready hfull hgood
    rw [exec_debugUnlock hchecked htick hlen hready, signedBy_full hfull]
    exact congrArg (fun t => Host.Outcome.next (Done s t)) (if_pos hgood)

end Sys2Proof.Proofs
end

section
/-! PROOFS of the family 03_command_packets: doorbells, ring control and the registers of BAR0. -/

namespace Sys2Proof.Proofs

open Sys2Proof Sys2Proof.Machine

/-! ### Writes of BAR0 -/

section
variable {port off v : Nat} {s : State} (hopen : s.barOpen port = true) (hhalt : s.up.dev ≠ .halt)
include hopen hhalt

/-- A write of an open port outside HALT, by its size and alignment (R15, R667, R668). -/
theorem barWrite_open (size : Nat) :
    s.barWrite port off size v =
      if size = 4 ∧ off % 4 = 0 then
        if rwQuad (off / 8 * 8) = true then s.halfOfRw port off (v % 2 ^ 32) else s.writeHalf port off (v % 2 ^ 32)
      else if size = 8 ∧ off % 8 = 0 then
        if rwQuad (off / 8 * 8) = true then s.writeQuad port off (v % 2 ^ 64)
        else (s.writeHalf port off (v % 2 ^ 32)).writeHalf port (off + 4) (v / 2 ^ 32 % 2 ^ 32)
      else s :=
  if_neg (by simp [hopen, hhalt])

/-- An aligned 4-byte write of a quadword that is written by halves goes to that half (R667). -/
theorem barWrite_half (halign : off % 4 = 0) (hquad : rwQuad (off / 8 * 8) = false) :
    s.barWrite port off 4 v = s.writeHalf port off (v % 2 ^ 32) := by
  rw [barWrite_open hopen hhalt, if_pos ⟨rfl, halign⟩, if_neg (by simp [hquad])]

section
variable (halign : off % 8 = 0) (hquad : rwQuad off = true)
include halign hquad

/-- An aligned 8-byte write of an RW quadword writes it (R668). -/
theorem barWrite_quad : s.barWrite port off 8 v = s.writeQuad port off (v % 2 ^ 64) := by
  have hbase : off / 8 * 8 = off := by omega
  rw [barWrite_open hopen hhalt, if_neg (by simp), if_pos ⟨rfl, halign⟩, hbase, if_pos hquad]

/-- A write of the lower half of an RW quadword is held (R668). -/
theorem barWrite_held :
    s.barWrite port off 4 v = s.modHostPort port (fun h => { h with writeHold := kvSet h.writeHold off (v % 2 ^ 32) }) := by
  have hbase : off / 8 * 8 = off := by omega
  rw [barWrite_open hopen hhalt, if_pos ⟨rfl, by omega⟩, hbase, if_pos hquad]
  exact if_pos halign

end

end

/-! ### Doorbells -/

section
variable {port ring count : Nat} {s : State}

/-- The lower half of a ring's quadword in the doorbell block is its submission doorbell (R673). -/
theorem writeHalf_sqDoorbell (hring : ring < 64) (v : Nat) : s.writeHalf port (0x20000 + 8 * ring) v = s.sqDoorbell port ring v := by
  have hindex : (0x20000 + 8 * ring - 0x20000) / 8 = ring := by omega
  unfold State.writeHalf
  rw [if_neg (by omega), if_neg (by omega), if_neg (by omega), if_neg (by omega), if_pos (by omega), if_pos (by omega), hindex]

/-- The upper half is its completion doorbell (R673). -/
theorem writeHalf_cqDoorbell (hring : ring < 64) (v : Nat) : s.writeHalf port (0x20004 + 8 * ring) v = s.cqDoorbell port ring v := by
  have hindex : (0x20004 + 8 * ring - 0x20000) / 8 = ring := by omega
  unfold State.writeHalf
  rw [if_neg (by omega), if_neg (by omega), if_neg (by omega), if_neg (by omega), if_pos (by omega), if_neg (by omega), hindex]

/-- The lower half of a ring's control quadword is its control (R672). -/
theorem writeHalf_ringControl (hring : ring < 64) (v : Nat) : s.writeHalf port (0x10010 + 64 * ring) v = s.ringControl port ring v := by
  have hindex : (0x10010 + 64 * ring - 0x10000) / 64 = ring := by omega
  unfold State.writeHalf
  rw [if_neg (by omega), if_neg (by omega), if_neg (by omega), if_pos (by omega)]
  dsimp only
  rw [if_pos (by omega), hindex]

/-- The doorbells are no RW quadwords. -/
theorem rwQuad_doorbells {off : Nat} (h : 0x20000 ≤ off) : rwQuad off = false := by
  simp only [rwQuad, Bool.or_eq_false_iff, Bool.and_eq_false_iff, beq_eq_false_iff_ne, decide_eq_false_iff_not]
  omega

/-- Nor is the control quadword of a ring. -/
theorem rwQuad_ringControl (hring : ring < 64) : rwQuad (0x10010 + 64 * ring) = false := by
  simp only [rwQuad, Bool.or_eq_false_iff, Bool.and_eq_false_iff, beq_eq_false_iff_ne, decide_eq_false_iff_not]
  omega

variable (hring : ring < 64) (hopen : s.barOpen port = true) (hhalt : s.up.dev ≠ .halt)
include hring hopen hhalt

/-- The row of the submission doorbell. -/
theorem exec_sqDoorbellWrite :
    exec (.sqDoorbellWrite port ring count) s = .next (Done s (s.sqDoorbell port ring (count % 2 ^ 32))) := by
  change s.finish (if ring < 64 then s.barWrite port (0x20000 + 8 * ring) 4 count else s) = _
  rw [if_pos hring, barWrite_half hopen hhalt (by omega) (rwQuad_doorbells (by omega)), writeHalf_sqDoorbell hring,
    finish_eq_next_done]

/-- The row of the completion doorbell. -/
theorem exec_cqDoorbellWrite :
    exec (.cqDoorbellWrite port ring count) s = .next (Done s (s.cqDoorbell port ring (count % 2 ^ 32))) := by
  change s.finish (if ring < 64 then s.barWrite port (0x20004 + 8 * ring) 4 count else s) = _
  rw [if_pos hring, barWrite_half hopen hhalt (by omega) (rwQuad_doorbells (by omega)), writeHalf_cqDoorbell hring,
    finish_eq_next_done]

/-- A 4-byte write at a ring's control goes there (R672). -/
theorem barWrite_ringControl (v : Nat) : s.barWrite port (0x10010 + 64 * ring) 4 v = s.ringControl port ring (v % 2 ^ 32) := by
  have hbase : (0x10010 + 64 * ring) / 8 * 8 = 0x10010 + 64 * ring := by omega
  rw [barWrite_half hopen hhalt (by omega) (by rw [hbase, rwQuad_ringControl hring]), writeHalf_ringControl hring]

/-- The row that enables a ring. -/
theorem exec_ringEnable (ctrl : Nat) :
    exec (.ringEnable port ring ctrl) s = .next (Done s (s.ringControl port ring ((ctrl / 2 * 2 + 1) % 2 ^ 32))) := by
  change s.finish (if ring < 64 then s.barWrite port (0x10010 + 64 * ring) 4 (ctrl / 2 * 2 + 1) else s) = _
  rw [if_pos hring, barWrite_ringControl hring hopen hhalt, finish_eq_next_done]

/-- The row that disables a ring. -/
theorem exec_ringDisable (ctrl : Nat) :
    exec (.ringDisable port ring ctrl) s = .next (Done s (s.ringControl port ring ((ctrl / 2 * 2) % 2 ^ 32))) := by
  change s.finish (if ring < 64 then s.barWrite port (0x10010 + 64 * ring) 4 (ctrl / 2 * 2) else s) = _
  rw [if_pos hring, barWrite_ringControl hring hopen hhalt, finish_eq_next_done]

end

section
variable {port ring v : Nat} {s : State} (hactive : (s.ring port ring).state = .active)
include hactive

/-- The submission doorbell of an ACTIVE ring: backwards, beyond the slots, or taken (R86, R673). -/
theorem sqDoorbell_active :
    s.sqDoorbell port ring (v % 2 ^ 32) =
      if 2 ^ 31 ≤ ahead (v % 2 ^ 32) (s.ring port ring).sqDb then s.ringError port ring 3 (s.ring port ring).sqHead
      else if (s.ring port ring).slots < ahead (v % 2 ^ 32) (s.ring port ring).sqHead then
        s.ringError port ring 4 (s.ring port ring).sqHead
      else s.setRing port ring { s.ring port ring with sqDb := v % 2 ^ 32 } := by
  unfold State.sqDoorbell
  dsimp only
  rw [if_neg (by simp [hactive]), Nat.mod_mod]

/-- The completion doorbell of an ACTIVE ring: backwards or beyond the tail, or taken (R90, R673). -/
theorem cqDoorbell_active :
    s.cqDoorbell port ring (v % 2 ^ 32) =
      if 2 ^ 31 ≤ ahead (v % 2 ^ 32) (s.ring port ring).cqDb ∨ 2 ^ 31 ≤ ahead (s.ring port ring).cqTail (v % 2 ^ 32) then
        s.ringError port ring 6 (s.ring port ring).sqHead
      else s.setRing port ring { s.ring port ring with cqDb := v % 2 ^ 32 } := by
  unfold State.cqDoorbell
  dsimp only
  rw [if_neg (by simp [hactive]), Nat.mod_mod]

end

/-! ### Ring control -/

/-- An idle ring with the control fields that are written to it (R671, R672). -/
def sized (x : Ring) (v : Nat) : Ring :=
  { x with coalCnt := bits v 19 12, coalUs := bits v 27 20, sqLog := bits v 7 4, cqLog := bits v 11 8 }

/-- ENABLE is the lowest bit that RING_ENABLE writes. -/
theorem enable_written (ctrl : Nat) : bit ((ctrl / 2 * 2 + 1) % 2 ^ 32) 0 = true := by
  simp only [bit, beq_iff_eq]
  omega

/-- It is clear in what RING_DISABLE writes. -/
theorem disable_written (ctrl : Nat) : bit ((ctrl / 2 * 2) % 2 ^ 32) 0 = false := by
  simp only [bit, beq_eq_false_iff_ne]
  omega

/-- ENABLE starts an idle ring of good shape from slot 0, and marks a bad one (R84, R672). -/
theorem ringControl_enable {port ring v : Nat} {s : State} (hstate : (s.ring port ring).state = .disabled)
    (hstop : (s.ring port ring).stopping = false) (hv : bit v 0 = true) :
    s.ringControl port ring v = s.setRing port ring (if (sized (s.ring port ring) v).shapeOk = true then
      { sized (s.ring port ring) v with
        state := .active, sqHead := 0, cqTail := 0, seqExp := 0, errCause := 0, errSlot := 0, sqDb := 0, cqDb := 0
        unsignalled := 0, noWrite := false }
    else { sized (s.ring port ring) v with cfgErr := true }) := by
  simp only [State.ringControl, sized, hstate, hstop, hv, beq_self_eq_true, Bool.not_false, Bool.and_self, Bool.not_true,
    Bool.false_eq_true, if_true, if_false]

/-- Without ENABLE a ring that is not DISABLED stops, its sizes as they were (R672). -/
theorem ringControl_disable {port ring v : Nat} {s : State} (hstate : (s.ring port ring).state ≠ .disabled) (hv : bit v 0 = false) :
    s.ringControl port ring v = s.setRing port ring { s.ring port ring with
      coalCnt := bits v 19 12, coalUs := bits v 27 20, stopping := true } := by
  simp only [State.ringControl, hstate, hv, beq_eq_false_iff_ne.2 hstate, Bool.false_and, Bool.false_eq_true, if_false]

/-- Settles O45: the doorbells are `sqDoorbell_active` and `cqDoorbell_active`, by the case that the hypotheses name; ring
control is `ringControl_enable`, by the ring's shape, and `ringControl_disable`. -/
theorem doorbellsAndRingsComplete : Obligations.DoorbellsAndRingsComplete := by
  unfold Obligations.DoorbellsAndRingsComplete
  refine ⟨?sqTaken, ?sqBack, ?sqBeyond, ?cqTaken, ?cqWrong, ?starts, ?marked, ?stops, ?stopped⟩
  case sqTaken =>
    intro port ring count s hring hopen hhalt hactive hback hbeyond
    rw [exec_sqDoorbellWrite hring hopen hhalt, sqDoorbell_active hactive, if_neg (Nat.not_le.2 hback), if_neg (Nat.not_lt.2 hbeyond)]
  case sqBack =>
    intro port ring count s hring hopen hhalt hactive hback
    rw [exec_sqDoorbellWrite hring hopen hhalt, sqDoorbell_active hactive, if_pos hback]
  case sqBeyond =>
    intro port ring count s hring hopen hhalt hactive hback hbeyond
    rw [exec_sqDoorbellWrite hring hopen hhalt, sqDoorbell_active hactive, if_neg (Nat.not_le.2 hback), if_pos hbeyond]
  case cqTaken =>
    intro port ring count s hring hopen hhalt hactive hback hbeyond
    rw [exec_cqDoorbellWrite hring hopen hhalt, cqDoorbell_active hactive,
      if_neg (not_or.2 ⟨Nat.not_le.2 hback, Nat.not_le.2 hbeyond⟩)]
  case cqWrong =>
    intro port ring count s hring hopen hhalt hactive hwrong
    rw [exec_cqDoorbellWrite hring hopen hhalt, cqDoorbell_active hactive, if_pos hwrong]
  case starts =>
    intro port ring ctrl s hring hopen hhalt hstate hstop hshape
    rw [exec_ringEnable hring hopen hhalt, ringControl_enable hstate hstop (enable_written ctrl)]
    exact congrArg (fun x => Host.Outcome.next (Done s (s.setRing port ring x))) (if_pos hshape)
  case marked =>
    intro port ring ctrl s hring hopen hhalt hstate hstop hshape
    rw [exec_ringEnable hring hopen hhalt, ringControl_enable hstate hstop (enable_written ctrl)]
    exact congrArg (fun x => Host.Outcome.next (Done s (s.setRing port ring x))) (if_neg (Bool.eq_false_iff.1 hshape))
  case stops =>
    intro port ring ctrl s hring hopen hhalt hstate
    rw [exec_ringDisable hring hopen hhalt, ringControl_disable hstate (disable_written ctrl)]
  case stopped =>
    intro port ring s hstop hnone
    exact congrArg s.finish (if_pos (by simp [hstop, hnone]))

/-! ### Reads, interrupts and the event window -/

section
variable {port off : Nat} {s : State} (hopen : s.barOpen port = true)
include hopen

/-- A read of a lower half returns it and latches the upper one (R667). -/
theorem execQuadwordLowReadLatch_low (halign : off % 8 = 0) :
    execQuadwordLowReadLatch port off 4 s = s.finish (s.setHostPort port { s.hostPort port with
      readData := s.barQuad port off % 2 ^ 32, readLatch := some (off, s.barQuad port off / 2 ^ 32) }) := by
  have hbase : off / 8 * 8 = off := by omega
  simp only [execQuadwordLowReadLatch, hopen, hbase, halign, Bool.not_true, Bool.false_eq_true, if_false, if_true, and_self, and_true,
    show ¬ (4 : Nat) = 8 by decide]

/-- A read of the upper half after one of the lower half returns what was latched (R667). -/
theorem execQuadwordLowReadLatch_high {v : Nat} (halign : off % 8 = 4) (hlatch : (s.hostPort port).readLatch = some (off - 4, v)) :
    execQuadwordLowReadLatch port off 4 s = s.finish (s.setHostPort port { s.hostPort port with readData := v, readLatch := none }) := by
  have hbase : off / 8 * 8 = off - 4 := by omega
  simp only [execQuadwordLowReadLatch, hopen, hbase, halign, hlatch, Bool.not_true, Bool.false_eq_true, if_false, if_true, and_self,
    and_false, show ¬ (4 : Nat) = 0 by decide]

variable (hhalt : s.up.dev ≠ .halt)
include hhalt

/-- A write of the interrupt block: the causes in bits 5 to 0 are cleared, the mask is bits 21 to 16 (R677). -/
theorem barWrite_interrupts {causes mask : Nat} (hcauses : causes < 64) (hmask : mask < 64) :
    s.barWrite port 0x200 4 (causes + 65536 * mask) = s.modHostPort port (fun h => h.intWrite causes mask) := by
  have hlow : (causes + 65536 * mask) % 2 ^ 32 % 64 = causes := by omega
  have hhigh : bits ((causes + 65536 * mask) % 2 ^ 32) 21 16 = mask := by
    unfold bits
    omega
  rw [barWrite_half hopen hhalt rfl rfl]
  unfold State.writeHalf
  rw [if_pos rfl, hlow, hhigh]

end

/-- The cursor of a port of the operator's seeks a record (R618, R679). -/
theorem evtSeek_operator {port : Nat} {s : State} (hopr : s.portOpr port = true) (i : Nat) :
    s.evtSeek port i = s.modHostPort port (fun h => { h with evt := s.snapshot (i % 2 ^ 64) }) :=
  if_neg (by simp [hopr])

/-- Settles O46: a write of BAR0 is one of the three rules above, a read one of two; the other rows go by their guard. -/
theorem registersComplete : Obligations.RegistersComplete := by
  unfold Obligations.RegistersComplete
  refine ⟨?readLow, ?readHigh, ?config, ?writeHalf, ?writeQuad, ?held, ?seek, ?advance, ?ready, ?clear, ?mask, ?coalesce⟩
  case readLow =>
    intro port off s hopen halign
    exact execQuadwordLowReadLatch_low hopen halign
  case readHigh =>
    intro port off v s hopen halign hlatch
    exact execQuadwordLowReadLatch_high hopen halign hlatch
  case config =>
    intro port s hperst hlink hgood
    exact if_neg (by simp [hperst, hlink, hgood])
  case writeHalf =>
    intro port off value s hopen hhalt halign hquad
    exact congrArg s.finish (barWrite_half hopen hhalt halign hquad)
  case writeQuad =>
    intro port off value s hopen hhalt halign hquad
    exact congrArg s.finish (barWrite_quad hopen hhalt halign hquad)
  case held =>
    intro port off value s hopen hhalt halign hquad
    have hbase : off / 8 * 8 = off := by omega
    exact congrArg s.finish ((if_pos (by rw [hbase, hquad])).trans (barWrite_held hopen hhalt halign hquad))
  case seek =>
    intro port index s hopen hhalt hopr
    have hseek : s.barWrite port 0x800 8 index = s.evtSeek port (index % 2 ^ 64) := barWrite_quad hopen hhalt rfl rfl
    rw [evtSeek_operator hopr, Nat.mod_mod] at hseek
    exact congrArg s.finish hseek
  case advance =>
    intro port s hopen hhalt hopr
    have hseek : s.barWrite port 0x818 4 8 = s.evtSeek port ((s.hostPort port).evt.index + 1) := barWrite_half hopen hhalt rfl rfl
    rw [evtSeek_operator hopr] at hseek
    exact congrArg s.finish hseek
  case ready =>
    intro port s hhalt
    refine (if_neg hhalt).trans (congrArg s.finish (congrArg (s.modHostPort port) (funext fun h => ?_)))
    unfold EvtCursor.ready
    split <;> rfl
  case clear =>
    intro port causes s hopen hhalt
    exact congrArg s.finish (barWrite_interrupts hopen hhalt (by omega) (s.hostPort port).mask.isLt)
  case mask =>
    intro port mask s hopen hhalt
    have hwrite := barWrite_interrupts hopen hhalt (causes := 0) (by decide) (Nat.mod_lt mask (by decide : 0 < 64))
    rw [Nat.zero_add] at hwrite
    exact congrArg s.finish hwrite
  case coalesce =>
    intro port ring s hnone hus hcnt hhalt
    exact if_neg (by simp [hnone, hus, hcnt, hhalt])

end Sys2Proof.Proofs
end

section
/-! PROOFS of the family 03_command_packets: replies of agents, their fault reports, and changes of the record. -/

namespace Sys2Proof.Proofs

open Sys2Proof Sys2Proof.Machine

/-! ### Replies -/

section
variable {m : Msg} {w : Waiting} {s : State}
  (hwait : s.mail.waiting.find? (fun w => w.msg.msgid == m.msgid && (w.msg.dst == 0xFFFF || m.dst == 0xFFFF || w.msg.dst == m.src)) = some w)
  (hreply : m.flags % 2 = 1)
  (hident : (w.kind == Purpose.identify.code || w.kind == Purpose.claim.code || w.kind == Purpose.reclaim.code
    || w.kind == Purpose.takeover.code) = false)
include hwait hreply hident

/-- The only reply to a request, whose waiting it ends (R164, R166). -/
theorem execAgentReplyReceive_ends (hwhole : (w.kind == Purpose.linkstate.code || w.kind == Purpose.refresh.code) = false) :
    execAgentReplyReceive m s =
      let s1 : State := { s with mail := { s.mail with waiting := s.mail.waiting.filter (fun v => v.msg.msgid != m.msgid) } }
      let s2 := if le m.content 0 2 = 3 ∧ s.isPrimary = true then
        s1.modTwin (fun t => { t with deposeDue := some (higherToken t.token (le m.content 4 4)) }) else s1
      s.finish (s2.replyTo w (le m.content 0 2) (le m.content 4 4) (m.content.drop 8)).pumpOutbox := by
  unfold execAgentReplyReceive
  simp only [hwait, hident, hwhole, Bool.false_and, Bool.false_eq_true, or_false, if_false]
  exact if_neg (by simp [hreply])

/-- A part of an answer in several replies, which is not the last (R198, log entry 204). -/
theorem execAgentReplyReceive_part (hparts : (w.kind == Purpose.linkstate.code || w.kind == Purpose.refresh.code) = true)
    (hgood : le m.content 0 2 = 0) (hfull : (m.content.drop 8).length = 204)
    (hmore : le (m.content.drop 8) 192 1 + 1 < ((s.ownSection.node w.about).map TopoNode.ports).getD 0) :
    execAgentReplyReceive m s =
      s.finish (s.modWalk (fun v => { v with reported := v.reported ++ [(w.about, m.content.drop 8)] })) := by
  unfold execAgentReplyReceive
  simp only [hwait, hident, hparts, hgood, hfull, hmore, Bool.false_and, Bool.false_eq_true, or_false]
  exact (if_neg (by simp [hreply])).trans (if_pos rfl)

end

section
variable {msgid : Nat} {w : Waiting} {s : State} (hwait : s.mail.waiting.find? (fun w => w.msg.msgid == msgid) = some w)
  (hlate : w.sentAt + 2 ≤ s.clock.now) (hsent : s.notYetSent msgid = false)
include hwait hlate hsent

/-- A request that has gone out once is sent again with RETRY (R160, R166). -/
theorem execAgentReplyResend_again (honce : w.resent = false) (hheard : s.silenced w.msg = false) :
    execAgentReplyResend msgid s =
      let s1 := s.sendAgain { w.msg with flags := w.msg.flags ||| 4 } true
      s.finish { s1 with mail := { s1.mail with waiting := s1.mail.waiting.map (fun v =>
        if v.msg.msgid = msgid then { v with resent := true, sentAt := s.clock.now } else v) } } := by
  unfold execAgentReplyResend
  simp only [hwait]
  rw [if_neg (by simp [honce, hlate, hsent]), if_neg (by simp [hheard])]

/-- One that has gone out twice counts as lost (R166). -/
theorem execAgentReplyTimeout_lost (htwice : w.resent = true) :
    execAgentReplyTimeout msgid s = s.finish (State.replyLost
      { s with mail := { s.mail with waiting := s.mail.waiting.filter (fun v => v.msg.msgid != msgid) } } w) := by
  unfold execAgentReplyTimeout
  simp only [hwait]
  exact if_neg (by simp [htwice, hlate, hsent])

end

/-- Settles O47: each row's guards decide it. -/
theorem repliesComplete : Obligations.RepliesComplete := by
  unfold Obligations.RepliesComplete
  refine ⟨?reply, ?part, ?resend, ?lost, ?report, ?record⟩
  case reply =>
    intro m w s hwait hreply hident hwhole
    refine (execAgentReplyReceive_ends hwait hreply hident hwhole).trans (congrArg s.finish ?_)
    dsimp only
    split <;> rfl
  case part =>
    intro m w s hwait hreply hident hparts hgood hfull hmore
    exact execAgentReplyReceive_part hwait hreply hident hparts hgood hfull hmore
  case resend =>
    intro msgid w s hwait honce hlate hsent hheard
    exact execAgentReplyResend_again hwait hlate hsent honce hheard
  case lost =>
    intro msgid w s hwait htwice hlate hsent
    exact execAgentReplyTimeout_lost hwait hlate hsent htwice
  case report =>
    intro m n s hnode
    change execFaultReportReceive m s = _
    unfold execFaultReportReceive
    simp only [hnode]
    rfl
  case record =>
    intro s hnews hoff hhalt hreal hprimary
    have hleads := fun hnot => Bool.false_ne_true ((congrArg not hprimary).symm.trans hnot)
    exact (if_neg (by simp [hnews, hoff, hhalt])).trans (if_neg (not_or.2 ⟨hleads, hreal⟩))

end Sys2Proof.Proofs
end

section
/-! PROOFS of the family 04_fabric_links: what a flit's bytes hold, and what the lanes carry of it. -/

namespace Sys2Proof.Proofs

open Sys2Proof Sys2Proof.Machine

/-! ### The bytes of a flit -/

/-- A field within a field. -/
theorem field_of_field (b : Bytes) {o n k m : Nat} (h : k + m ≤ n) : field (field b o n) k m = field b (o + k) m :=
  field_ext _ _ _ _ _ fun i hi => by rw [field_getD b o n (k + i) (by omega), Nat.add_assoc]

/-- A field of what is appended, from where that begins. -/
theorem field_append_right (a c : Bytes) {o : Nat} (n : Nat) (ha : a.length = o) : field (a ++ c) o n = field c 0 n :=
  field_ext _ _ _ _ _ fun i _ => by
    rw [getD_append, if_neg (by omega)]
    congr 1
    omega

/-- The number that the header of a flit is (R140). -/
def headerValue (f : Flit) : Nat :=
  f.lseq + 2 ^ 12 * f.lack + 2 ^ 24 * flitKindCode f.kind + 2 ^ 26 * f.vc + 2 ^ 29 * f.epb + 2 ^ 30 * f.kgen
    + 2 ^ 31 * flag f.enc + 2 ^ 32 * f.dst + 2 ^ 48 * f.src + 2 ^ 64 * f.stream + 2 ^ 80 * f.job + 2 ^ 92 * flitPlen f
    + 2 ^ 100 * f.crvc + 2 ^ 103 * f.crcnt + 2 ^ 108 * f.sseq

/-- KIND fits its two bits (R139). -/
theorem flitKindCode_lt (k : FlitKind) : flitKindCode k < 4 := by cases k <;> decide

/-- ENC fits its bit. -/
theorem flag_lt (b : Bool) : flag b < 2 := by cases b <;> decide

/-- PLEN of a well-formed flit fits its eight bits (R140). -/
theorem flitPlen_lt {f : Flit} (hpayload : f.payload.length ≤ 240) (hplen : f.plen ≤ 224) : flitPlen f < 256 := by
  unfold flitPlen
  split
  · split <;> omega
  · decide

/-- The bytes of a flit begin with its header. -/
theorem field_flitBytes_header (f : Flit) : field (flitBytes f) 0 16 = flitHeader f := by
  unfold flitBytes
  rw [field_of_field _ (by decide), List.append_assoc]
  exact field_at [] _ _ 0 16 rfl (toLe_length 16 _)

/-- The first 16 bytes of a flit are the number of its header, cut to 128 bits. -/
theorem le_flitBytes (f : Flit) : le (flitBytes f) 0 16 = headerValue f % 256 ^ 16 := by
  rw [le, field_flitBytes_header]
  exact leVal_toLe 16 (headerValue f)

/-- A plain flit has its payload behind the header (R140). -/
theorem field_flitBytes_plain {f : Flit} (henc : f.enc = false) : field (flitBytes f) 16 240 = field f.payload 0 240 := by
  unfold flitBytes
  rw [field_of_field _ (by decide), henc, if_neg Bool.false_ne_true, List.append_nil]
  exact field_append_right _ _ 240 (toLe_length 16 _)

/-- An encrypted flit has its tag behind the header (R140). -/
theorem field_flitBytes_tag {f : Flit} (henc : f.enc = true) : field (flitBytes f) 16 16 = field f.tag 0 16 := by
  unfold flitBytes
  rw [field_of_field _ (by decide), henc, if_pos rfl, List.append_assoc]
  exact field_at _ _ _ _ _ (toLe_length 16 _) (field_length _ _ _)

/-- An encrypted flit has its payload behind the tag (R140). -/
theorem field_flitBytes_encrypted {f : Flit} (henc : f.enc = true) : field (flitBytes f) 32 224 = field f.payload 0 224 := by
  unfold flitBytes
  rw [field_of_field _ (by decide), henc, if_pos rfl]
  exact field_append_right _ _ 224 (by simp [flitHeader])

/-- Each field of a header stands in its place, at every value that its width holds (R140). -/
theorem headerValue_fields {f : Flit} (hwf : f.wf = true) :
    let v := headerValue f % 256 ^ 16
    v % 2 ^ 12 = f.lseq ∧ v / 2 ^ 12 % 2 ^ 12 = f.lack ∧ v / 2 ^ 24 % 4 = flitKindCode f.kind ∧ v / 2 ^ 26 % 8 = f.vc
    ∧ v / 2 ^ 29 % 2 = f.epb ∧ v / 2 ^ 30 % 2 = f.kgen ∧ v / 2 ^ 31 % 2 = flag f.enc ∧ v / 2 ^ 32 % 2 ^ 16 = f.dst
    ∧ v / 2 ^ 48 % 2 ^ 16 = f.src ∧ v / 2 ^ 64 % 2 ^ 16 = f.stream ∧ v / 2 ^ 80 % 2 ^ 12 = f.job ∧ v / 2 ^ 92 % 2 ^ 8 = flitPlen f
    ∧ v / 2 ^ 100 % 8 = f.crvc ∧ v / 2 ^ 103 % 2 ^ 5 = f.crcnt ∧ v / 2 ^ 108 = f.sseq := by
  simp only [Flit.wf, Bool.and_eq_true, decide_eq_true_eq] at hwf
  obtain ⟨⟨⟨⟨⟨⟨⟨⟨⟨⟨⟨⟨⟨⟨hlseq, hlack⟩, hvc⟩, hepb⟩, hkgen⟩, hdst⟩, hsrc⟩, hstream⟩, hjob⟩, hcrvc⟩, hcrcnt⟩, hsseq⟩, hpayload⟩, hplen⟩, -⟩ := hwf
  have hkind := flitKindCode_lt f.kind
  have henc := flag_lt f.enc
  have hvalid := flitPlen_lt hpayload hplen
  unfold headerValue
  dsimp only
  generalize flitKindCode f.kind = kind at *
  generalize flag f.enc = enc at *
  generalize flitPlen f = valid at *
  refine ⟨?_, ?_, ?_, ?_, ?_, ?_, ?_, ?_, ?_, ?_, ?_, ?_, ?_, ?_, ?_⟩ <;> omega

/-! ### Codewords -/

/-- A step that leaves 30 symbols, repeated from 30 symbols, leaves 30. -/
theorem foldl_length_thirty {g : List Nat → Nat → List Nat} (hg : ∀ r d, (g r d).length = 30) (data : List Nat) {r : List Nat}
    (hr : r.length = 30) : (data.foldl g r).length = 30 := by
  induction data generalizing r with
  | nil => exact hr
  | cons d data ih => exact ih (hg r d)

/-- A codeword has 30 check symbols (R133). -/
theorem rsCheck_length (data : List Nat) : (rsCheck data).length = 30 := by
  rw [rsCheck, List.length_reverse]
  exact foldl_length_thirty (fun r d => by rw [List.length_map, List.length_range]) data List.length_replicate

/-- A codeword of 514 data symbols has 544 (R133). -/
theorem rsEncode_length {data : List Nat} (h : data.length = 514) : (rsEncode data).length = 544 := by
  rw [rsEncode, List.length_append, h, rsCheck_length]

/-- It begins with its data (R133). -/
theorem rsEncode_take {data : List Nat} (h : data.length = 514) : (rsEncode data).take 514 = data := h ▸ List.take_left

/-- As many symbols as are asked for. -/
theorem symbolsOf_length (n v : Nat) : (symbolsOf n v).length = n := by
  induction n generalizing v with
  | zero => rfl
  | succ n ih => exact congrArg Nat.succ (ih _)

/-- A stream of flits fills a codeword with every 5,140 of its bits (R134). -/
theorem codewordsOf_length (l : List Flit) : (codewordsOf l).length = 2048 * l.length / 5140 := by
  simp [codewordsOf]

/-- Every codeword of a stream of flits has 544 symbols (R133). -/
theorem codewordsOf_word_length {l : List Flit} {w : List Nat} (hw : w ∈ codewordsOf l) : w.length = 544 := by
  obtain ⟨k, hk, rfl⟩ := List.mem_map.1 hw
  have hsymbols : (dataSymbols l).length = 2048 * l.length / 5140 * 514 := symbolsOf_length _ _
  have hlt := List.mem_range.1 hk
  refine rsEncode_length ?_
  rw [List.length_take, List.length_drop, hsymbols]
  omega

/-! ### Lanes -/

/-- The number `w * q + r` itself is of the class of `r`. -/
theorem countP_range_class_succ {w i q r : Nat} (hr : r < w)
    (h : (List.range (w * q + r)).countP (fun m => m % w == i) = q + if i < r then 1 else 0) :
    (List.range (w * q + (r + 1))).countP (fun m => m % w == i) = q + if i < r + 1 then 1 else 0 := by
  have hmod : (w * q + r) % w = r := by rw [Nat.mul_add_mod, Nat.mod_eq_of_lt hr]
  rw [← Nat.add_assoc, List.range_succ, List.countP_append, h, List.countP_singleton, hmod]
  simp only [beq_iff_eq]
  split <;> split <;> split <;> omega

/-- Below `w * q + r`, with `r` at most `w`, there are `q` numbers of the class of `i` modulo `w`, and one more where `i` is below `r`. -/
theorem countP_range_class {w i : Nat} (hi : i < w) (q r : Nat) (hr : r ≤ w) :
    (List.range (w * q + r)).countP (fun m => m % w == i) = q + if i < r then 1 else 0 := by
  induction q generalizing r with
  | zero =>
    induction r with
    | zero => rfl
    | succ r ih => exact countP_range_class_succ hr (ih (by omega))
  | succ q ihq =>
    induction r with
    | zero =>
      have hwhole := ihq w (Nat.le_refl w)
      rw [if_pos hi] at hwhole
      exact hwhole
    | succ r ih => exact countP_range_class_succ hr (ih (by omega))

/-- Below `n` there are `n / w` numbers of the class of `n` modulo `w`. -/
theorem countP_range_same_class (n : Nat) {w : Nat} (hw : 0 < w) :
    (List.range n).countP (fun m => m % w == n % w) = n / w := by
  have hlt := Nat.mod_lt n hw
  have h := countP_range_class hlt (n / w) (n % w) (Nat.le_of_lt hlt)
  rwa [Nat.div_add_mod, if_neg (Nat.lt_irrefl _), Nat.add_zero] at h

/-- Before place `n`, the lane of that place has got `n / w` symbols. -/
theorem lane_take_length (l : List Nat) {n w : Nat} (hw : 0 < w) (hn : n ≤ l.length) :
    ((l.take n).zipIdx.filter (fun s => s.2 % w == n % w)).length = n / w := by
  rw [← List.countP_eq_length_filter, ← countP_range_same_class n hw]
  have hrange : (l.take n).zipIdx.map Prod.snd = List.range n := by
    rw [List.zipIdx_map_snd, List.length_take, Nat.min_eq_left hn, List.range_eq_range']
  rw [← hrange, List.countP_map]
  rfl

/-- Symbol `n` of the codewords is number `n / w` of lane `n mod w` (R133). -/
theorem laneSymbols_get {words : List (List Nat)} {w n x : Nat} (hw : 0 < w) (hx : words.flatten[n]? = some x) :
    (laneSymbols words w (n % w))[n / w]? = some x := by
  obtain ⟨hn, hget⟩ := List.getElem?_eq_some_iff.1 hx
  have hsplit : words.flatten = words.flatten.take n ++ x :: words.flatten.drop (n + 1) := by
    rw [← hget, ← List.drop_eq_getElem_cons hn, List.take_append_drop]
  have hlen := lane_take_length words.flatten hw (Nat.le_of_lt hn)
  have hat : (words.flatten.take n).length = n := List.length_take_of_le (Nat.le_of_lt hn)
  unfold laneSymbols
  rw [hsplit, List.zipIdx_append, List.filter_append, List.map_append, ← hlen, List.getElem?_append_right (by simp), hat]
  simp

/-- Settles O16: the header is one number of 128 bits (`headerValue_fields`), the rest of a flit follows it; a codeword is its data and
`rsCheck`; before place `n` its lane has got `n / w` symbols (`lane_take_length`). -/
theorem flitsAndCodewords : Obligations.FlitsAndCodewords := by
  unfold Obligations.FlitsAndCodewords
  refine ⟨?flit, ?codeword, ?stream, ?lane⟩
  case flit =>
    intro f hwf
    have hfields := headerValue_fields hwf
    rw [← le_flitBytes] at hfields
    have hplain := field_flitBytes_plain (f := f)
    have hencrypted := fun henc => And.intro (field_flitBytes_tag henc) (field_flitBytes_encrypted (f := f) henc)
    exact ⟨field_length _ 0 256, by simpa only [and_assoc] using And.intro hfields ⟨hplain, hencrypted⟩⟩
  case codeword =>
    intro data hdata
    exact ⟨rsEncode_length hdata, rsEncode_take hdata⟩
  case stream =>
    intro l
    exact ⟨codewordsOf_length l, fun w hw => codewordsOf_word_length hw⟩
  case lane =>
    intro words w n x hw hx
    exact laneSymbols_get hw hx

end Sys2Proof.Proofs
end

section
/-! PROOFS of the family 04_fabric_links: training, flits and link control. -/

namespace Sys2Proof.Proofs

open Sys2Proof Sys2Proof.Machine

/-! ### Training -/

/-- An attempt takes what its lanes allow; with no width it waits at step 6 (R125, R126). -/
theorem execLinkTrainingStart_runs (r : PortRef) (good : LanesFound) (reversed : Bool) (polarity : Nat) {s : State}
    (hstate : (s.nodePort r).link.state = .training) (hstep : (s.nodePort r).link.step = 1) :
    execLinkTrainingStart r good reversed polarity s =
      let w := (widthOf (BitVec.ofNat 8 good.lanes)).1
      let s1 := s.modLink r (fun l => { l with
        step := if w = 0 then 6 else 7, width := w, goodLanes := BitVec.ofNat 8 good.lanes
        reversed := reversed, linkClass := good.cls % 4, polarity := BitVec.ofNat 8 polarity })
      s.finish (if w = 0 then s1 else s1.reportLink r) := by
  unfold execLinkTrainingStart
  exact if_neg (by simp [hstate, hstep])

/-- The retrains of the last hour at a port, as its node counts it (R135). -/
def recentRetrains (s : State) (r : PortRef) : List Nat :=
  (s.nodePort r).link.retrainTimes.filter (fun t => s.nodeNow r.node < t + s.nodeTicks r.node 3600000000)

section
variable {r : PortRef} {s : State} {lockLost : Bool} (hup : (s.nodePort r).link.state = .up)
  (hdue : s.retrainDue r.node (s.nodePort r).link lockLost = true)
include hup hdue

/-- The fifth retrain of an hour fences the link (R135). -/
theorem execRetrainTrigger_fences (hmany : 4 ≤ (recentRetrains s r).length) :
    execRetrainTrigger { port := r, lockLost := lockLost } s = s.finish ((s.modLink r (fun l => { l with
      retrainTimes := recentRetrains s r ++ [s.nodeNow r.node] })).fenceLink r 3) := by
  unfold execRetrainTrigger
  exact (if_neg (by simp [hup, hdue])).trans (if_pos hmany)

/-- An earlier one takes the port to RETRAIN, a Geneel port once the rail has booked it, a claimed agent's once it is released
(R124, R129, R504, R515). -/
theorem execRetrainTrigger_retrains (hfew : (recentRetrains s r).length < 4) :
    execRetrainTrigger { port := r, lockLost := lockLost } s =
      let s1 := (s.modLink r (fun l => { l with
        state := .retrain, retrainTimes := recentRetrains s r ++ [s.nodeNow r.node], uncorrTimes := [], replays := 0 })).portCount r 5
      let x := match r.node with
        | .agent => (s1, !s1.agentWaits)
        | .geneel => s1.bookPort (96 + r.port) (s.nodePort r).link.width
      s.finish (((x.1.modLink r (fun l => { l with waits := !x.2 })).portFault r 0x09 2).reportLink r) := by
  unfold execRetrainTrigger
  exact (if_neg (by simp [hup, hdue])).trans (if_neg (Nat.not_le.2 hfew))

end

/-- Settles O17: each row's guards decide it; an attempt is `execLinkTrainingStart_runs`, by its width, and a retrain that is due is
`execRetrainTrigger_retrains`, by its node, or `execRetrainTrigger_fences`. -/
theorem linkTrainingCompletes : Obligations.LinkTrainingCompletes := by
  unfold Obligations.LinkTrainingCompletes
  refine ⟨?signal, ?runs, ?noWidth, ?stepTimeout, ?failed, ?handshake, ?hello, ?retrainAgent, ?retrainGeneel, ?fenced, ?retrained,
    ?retrainFails⟩
  case signal =>
    intro r s hnode hdown
    change execFarEndSignalDetect r s = _
    simp only [execFarEndSignalDetect, hdown, hnode, ne_eq, not_true_eq_false, if_false, finish_eq_next_done]
  case runs =>
    intro r good reversed polarity s hstate hstep hwidth
    refine (execLinkTrainingStart_runs r good reversed polarity hstate hstep).trans ?_
    simp only [hwidth, if_false, finish_eq_next_done]
  case noWidth =>
    intro r good reversed polarity s hstate hstep hwidth
    refine (execLinkTrainingStart_runs r good reversed polarity hstate hstep).trans ?_
    simp only [hwidth, if_true, finish_eq_next_done]
  case stepTimeout =>
    intro r s hstate hstep
    exact if_pos ⟨hstate, hstep⟩
  case failed => exact fun _ _ => rfl
  case handshake =>
    intro r t1 s hnode hstate hstep hgood
    change execTrainingHandshakeDone r t1 s = _
    simp only [execTrainingHandshakeDone, hstate, hstep, hnode, hgood, show (Node.agent == Node.geneel) = false from rfl, and_self,
      if_true, finish_eq_next_done]
  case hello =>
    intro r s hstate hstep hunheard
    exact if_pos ⟨hstate, hstep, by simp [hunheard]⟩
  case retrainAgent =>
    intro r lockLost s hup hdue hfew hnode
    refine (execRetrainTrigger_retrains hup hdue hfew).trans ?_
    simp only [hnode, Bool.not_not, finish_eq_next_done, recentRetrains]
  case retrainGeneel =>
    intro r lockLost s hup hdue hfew hnode
    refine (execRetrainTrigger_retrains hup hdue hfew).trans ?_
    simp only [hnode, finish_eq_next_done, recentRetrains]
  case fenced =>
    intro r lockLost s hup hdue hmany
    exact execRetrainTrigger_fences hup hdue hmany
  case retrained =>
    intro r s hstate hreleased hwidth
    exact if_pos ⟨hstate, by simp [hreleased], hwidth⟩
  case retrainFails =>
    intro r s hstate hreleased
    exact if_pos ⟨hstate, by simp [hreleased]⟩

/-! ### Flits -/

/-- A flit in whose codewords the decoder found no error has none to count (R134). -/
theorem countCodewords_clean (s : State) (r : PortRef) : s.countCodewords r {} = s := rfl

/-- The next expected flit, without an error, is taken with its LACK (R136). -/
theorem takeSeq_inOrder {r : PortRef} {f : Flit} {s : State} (hseq : f.lseq = (s.nodePort r).link.rxSeq) :
    s.takeSeq r f {} = (s.takeLack r f.lack, true) := by
  unfold State.takeSeq
  rw [countCodewords_clean]
  exact (if_neg Bool.false_ne_true).trans (if_pos hseq)

/-- A link control flit that is taken is accepted, and its credits are added (R139, R144). -/
theorem takeControl_inOrder {r : PortRef} {f : Flit} {s : State} (hseq : f.lseq = (s.nodePort r).link.rxSeq) :
    s.takeControl r f {} = (((s.takeLack r f.lack).acceptSeq r f).takeCredits r f, true) := by
  unfold State.takeControl
  rw [takeSeq_inOrder hseq]
  rfl

/-- A plain data flit taken in order and judged good is counted and delivered (R136, R139). -/
theorem execDataFlitReceive_plain {r : PortRef} {f : Flit} {cw : Codewords} {s : State} (hup : (s.nodePort r).link.state = .up)
    (htaken : (s.takeSeq r f cw).2 = true) (hplain : f.enc = false) (hgood : (s.takeSeq r f cw).1.judgeFlit r f = .good) :
    execDataFlitReceive r f cw s = s.finish ((((s.takeSeq r f cw).1.acceptSeq r f).portCount r 1).deliverFlit r f) := by
  unfold execDataFlitReceive
  rw [if_neg (by simp [hup])]
  simp only [htaken, hgood, hplain, Bool.not_true, Bool.false_eq_true, if_false]

/-- An UP port takes in the flits of its messages and sends what the choice gives (R152). -/
theorem execOutputFlitSelect_up {r : PortRef} {s : State} (ps : Nat) (hup : (s.nodePort r).link.state = .up) :
    execOutputFlitSelect { port := r, ps := ps } s = s.finish ((s.queueMessages r).selectFlit { port := r, ps := ps }) :=
  if_neg (by simp [hup])

section
variable {r : PortRef} {s : State} (ps : Nat)

/-- Link control that waited goes first, where the window has room (R137, R139). -/
theorem selectFlit_control {c : Bytes} {rest : List Bytes} (hcontrol : (s.nodePort r).link.control = c :: rest)
    (hroom : (s.nodePort r).link.retryBuf.length < windowOf r.node) :
    s.selectFlit { port := r, ps := ps } = (s.controlNow r c).modLink r (fun l => { l with control := rest }) := by
  unfold State.selectFlit
  simp only [hcontrol, hroom, decide_true, if_true]

variable (hcontrol : (s.nodePort r).link.control = [])
include hcontrol

/-- With no measurement running, the choice of arbitration goes (R152). -/
theorem selectFlit_chosen {e : Nat × Flit} {d : List Nat} (hchosen : s.chooseFlit r = some (e, d))
    (hnone : (s.nodePort r).flow.exchanges = []) : s.selectFlit { port := r, ps := ps } = s.emitFlit r e d := by
  unfold State.selectFlit
  simp only [hcontrol, hchosen, hnone, List.find?_nil, ite_self]

/-- With none to choose, nothing to ask and no credit due, an idle flit goes (R139). -/
theorem selectFlit_idle (hchosen : s.chooseFlit r = none) (hnone : (s.nodePort r).flow.exchanges = [])
    (hdue : (s.nodePort r).flow.due.any (0 < ·) = false) : s.selectFlit { port := r, ps := ps } = s.sendIdle r := by
  unfold State.selectFlit
  simp only [hcontrol, hchosen, hnone, hdue, List.find?_nil, ite_self, Bool.false_eq_true, and_false, if_false]

/-- With none to choose, a measurement asks for the time (R146). -/
theorem selectFlit_asks {e : TsExchange} (hchosen : s.chooseFlit r = none)
    (hroom : (s.nodePort r).link.retryBuf.length < windowOf r.node)
    (hask : (s.nodePort r).flow.exchanges.find? (fun e => !e.sent) = some e) :
    s.selectFlit { port := r, ps := ps } = s.askTime r e ps := by
  unfold State.selectFlit
  simp only [hcontrol, hchosen, hroom, hask, decide_true, if_true]

end

/-- Settles O18: flits by their guards; the output is `execOutputFlitSelect_up` with what the choice gives. -/
theorem linkFlitsComplete : Obligations.LinkFlitsComplete := by
  unfold Obligations.LinkFlitsComplete
  refine ⟨?inOrder, ?taken, ?retry, ?idle, ?holdoff, ?stall, ?chosen, ?idleSent, ?control, ?asks⟩
  case inOrder =>
    intro r f s hup hseq hplain hgood
    have htake := takeSeq_inOrder hseq
    have hdone := execDataFlitReceive_plain (cw := {}) hup (by rw [htake]) hplain (by rw [htake]; exact hgood)
    rwa [htake] at hdone
  case taken =>
    intro r f cw s hup htaken hplain hgood
    exact execDataFlitReceive_plain hup htaken hplain hgood
  case retry =>
    intro r lseq i f s htaken hfound
    change execRetryRequestReceive r lseq f s = _
    simp only [execRetryRequestReceive, htaken, hfound, Bool.not_true, Bool.false_eq_true, if_false, finish_eq_next_done]
  case idle =>
    intro r f s htaken
    exact congrArg s.finish (if_pos htaken)
  case holdoff => exact fun _ _ => rfl
  case stall =>
    intro r s hunacked
    exact if_neg hunacked
  case chosen =>
    intro r ps e d s hup hcontrol hchosen hnone
    exact (execOutputFlitSelect_up ps hup).trans (congrArg s.finish (selectFlit_chosen ps hcontrol hchosen hnone))
  case idleSent =>
    intro r ps s hup hcontrol hchosen hnone hdue
    exact (execOutputFlitSelect_up ps hup).trans (congrArg s.finish (selectFlit_idle ps hcontrol hchosen hnone hdue))
  case control =>
    intro r ps c rest s hup hcontrol hroom
    exact (execOutputFlitSelect_up ps hup).trans (congrArg s.finish (selectFlit_control ps hcontrol hroom))
  case asks =>
    intro r ps e s hup hcontrol hchosen hroom hask
    exact (execOutputFlitSelect_up ps hup).trans (congrArg s.finish (selectFlit_asks ps hcontrol hchosen hroom hask))

/-! ### Link control -/

/-- What a SESSION flit of the far end leaves: the flit taken, its number in force for what follows, received flits counted from 0 (R148). -/
def sessionHeard (r : PortRef) (f : Flit) (cw : Codewords) (s : State) : State :=
  (s.takeControl r f cw).1.modFlow r (fun w => { w with farSession := some (le f.payload 17 3), rxCount := 0 })

/-- The number applied at this end stays. -/
theorem sessionHeard_session (r : PortRef) (f : Flit) (cw : Codewords) (s : State) :
    ((sessionHeard r f cw s).nodePort r).flow.session = ((s.takeControl r f cw).1.nodePort r).flow.session := by
  simp [sessionHeard, State.modFlow]

section
variable {r : PortRef} {f : Flit} {cw : Codewords} {s : State} (hup : (s.nodePort r).link.state = .up)
  (htaken : (s.takeControl r f cw).2 = true)
include hup htaken

/-- The follow-up of an answered exchange completes it, and its delay joins the measurement (R131, R146). -/
theorem execTsFollowReceive_completes {e : TsExchange} {t2 t4 : Nat}
    (hfound : ((s.takeControl r f cw).1.nodePort r).flow.exchanges.find? (fun x => x.index == le f.payload 17 1) = some e)
    (ht2 : e.t2 = some t2) (ht4 : e.t4 = some t4) (ht3 : e.t3 = none) :
    execTsFollowReceive r f cw s = s.finish (((s.takeControl r f cw).1.modExchange r (le f.payload 17 1) (fun x =>
        { x with t3 := some (le f.payload 24 8) })).modFlow r
      (fun w => { w with delays := w.delays ++ [tsDelay e.t1 t2 (le f.payload 24 8) t4] })) := by
  unfold execTsFollowReceive
  rw [if_neg (by simp [hup])]
  simp only [htaken, hfound, ht2, ht4, ht3, Bool.not_true, Bool.false_eq_true, if_false]

section
variable (hnone : ((s.takeControl r f cw).1.nodePort r).flow.session = none)
include hnone

/-- The far end's number at a Geneel port that has none of its own: a SECONDARY's takes it as its own (R147, R148, log entry 46). -/
theorem execLinkSessionFlitReceive_geneel (hnode : r.node = .geneel) :
    execLinkSessionFlitReceive r f cw s = s.finish (if (sessionHeard r f cw s).isPrimary then sessionHeard r f cw s
      else (sessionHeard r f cw s).applySession r (le f.payload 17 3)) := by
  rw [← sessionHeard_session] at hnone
  unfold execLinkSessionFlitReceive
  rw [if_neg (by simp [hup])]
  unfold sessionHeard at hnone ⊢
  simp only [htaken, hnone, hnode, Bool.not_true, Bool.false_eq_true, if_false]

/-- At an agent's port that has none the number is kept, and that is all (R148). -/
theorem execLinkSessionFlitReceive_agent (hnode : r.node = .agent) :
    execLinkSessionFlitReceive r f cw s = s.finish (sessionHeard r f cw s) := by
  rw [← sessionHeard_session] at hnone
  unfold execLinkSessionFlitReceive
  rw [if_neg (by simp [hup])]
  unfold sessionHeard at hnone ⊢
  simp only [htaken, hnone, hnode, Bool.not_true, Bool.false_eq_true, if_false]

end

end

/-- A measurement whose exchanges have all been completed records the least delay and the length, and, where that is in range, raises
no event (R131, R132, log entry 45). -/
theorem execDelayMeasurementDone_inRange {r : PortRef} {d : Nat} {ds : List Nat} {s : State} (hup : (s.nodePort r).link.state = .up)
    (hall : (s.nodePort r).flow.exchanges.all (fun e => e.t3.isSome) = true) (hdelays : (s.nodePort r).flow.delays = d :: ds)
    (hrange : (lengthOf (s.nodePort r).link.linkClass (ds.foldl min d)).2 = true) :
    execDelayMeasurementDone r s = s.finish ((s.modLink r (fun l => { l with
        delayPs := ds.foldl min d % 2 ^ 32
        lengthDm := (lengthOf (s.nodePort r).link.linkClass (ds.foldl min d)).1 % 2 ^ 16 })).modFlow r
      (fun w => { w with exchanges := [], delays := [] })) := by
  have hcomplete : (s.nodePort r).flow.exchanges.any (fun e => e.t3.isNone) = false := by
    simpa [Option.isSome_iff_ne_none] using hall
  unfold execDelayMeasurementDone
  simp only [hcomplete, hup, hdelays, hrange, Bool.false_eq_true, ne_eq, not_true_eq_false, or_self, if_false, if_true]

/-- Settles O19: a flit that `State.takeControl` takes does what its operation says; the other rows go by their guards. -/
theorem linkControlCompletes : Obligations.LinkControlCompletes := by
  unfold Obligations.LinkControlCompletes
  refine ⟨?credit, ?hello, ?tsReq, ?tsRsp, ?tsFollow, ?discard, ?measured, ?session, ?near⟩
  case credit =>
    intro r f s htalks hseq
    exact (if_pos htalks).trans (congrArg (fun x => s.finish x.1) (takeControl_inOrder hseq))
  case hello =>
    intro r f cw s htalks htaken htraining
    exact (if_neg (by simp [htalks])).trans (if_pos ⟨htaken, htraining⟩)
  case tsReq =>
    intro r f cw t2 t3 s hup htaken
    exact (if_neg (by simp [hup])).trans (if_pos htaken)
  case tsRsp =>
    intro r f cw t4 s hup htaken
    exact (if_neg (by simp [hup])).trans (if_pos htaken)
  case tsFollow =>
    intro r f cw e t2 t4 s hup htaken hfound ht2 ht4 ht3
    exact execTsFollowReceive_completes hup htaken hfound ht2 ht4 ht3
  case discard => exact fun _ _ _ => rfl
  case measured =>
    intro r d ds s hup hall hdelays hrange
    exact execDelayMeasurementDone_inRange hup hall hdelays hrange
  case session =>
    intro r f cw s hup htaken hnone
    cases hnode : r.node with
    | geneel => exact execLinkSessionFlitReceive_geneel hup htaken hnone hnode
    | agent => exact execLinkSessionFlitReceive_agent hup htaken hnone hnode
  case near =>
    intro r s hnode hcount hfresh
    change execSessionCountNear r s = _
    simp only [execSessionCountNear, hnode, hfresh, Nat.not_lt.2 hcount, Bool.false_eq_true, or_self, if_false, finish_eq_next_done]

end Sys2Proof.Proofs
end

section
/-! PROOFS of the family 05_agent_protocol: what a message at the agent leaves of the Geneel. -/

namespace Sys2Proof.Proofs

open Sys2Proof Sys2Proof.Machine

/-- A state that differs from `s` in the agent alone, but for the count of free values drawn. -/
def OnlyAgent (s t : State) : Prop := ∃ a n, t = { s with agent := a, drawn := n }

namespace OnlyAgent

variable {s t u : State}

theorem refl : OnlyAgent s s := ⟨s.agent, s.drawn, rfl⟩

theorem trans (h : OnlyAgent s t) (h' : OnlyAgent t u) : OnlyAgent s u := by
  obtain ⟨a, n, rfl⟩ := h
  obtain ⟨b, k, rfl⟩ := h'
  exact ⟨b, k, rfl⟩

/-! ### The parts of the agent -/

theorem modAgentCore {f : AgentCore → AgentCore} (h : OnlyAgent s t) : OnlyAgent s (t.modAgentCore f) := h.trans ⟨_, _, rfl⟩

theorem modAgentWork {f : AgentWork → AgentWork} (h : OnlyAgent s t) : OnlyAgent s (t.modAgentWork f) := h.trans ⟨_, _, rfl⟩

theorem draw (h : OnlyAgent s t) : OnlyAgent s t.draw.1 := h.trans ⟨_, _, rfl⟩

theorem modFlow {port : Nat} {f : Flow → Flow} (h : OnlyAgent s t) :
    OnlyAgent s (t.modFlow { node := .agent, port := port } f) := h.trans ⟨_, _, rfl⟩

theorem modLink {port : Nat} {f : Link → Link} (h : OnlyAgent s t) :
    OnlyAgent s (t.modLink { node := .agent, port := port } f) := h.trans ⟨_, _, rfl⟩

theorem agentCount {n k : Nat} (h : OnlyAgent s t) : OnlyAgent s (t.agentCount n k) := h.modAgentCore

theorem addTimed {token tick : Nat} {a : TimedAct} (h : OnlyAgent s t) : OnlyAgent s (t.addTimed token tick a) := h.modAgentWork

/-! ### Branches and repetition -/

theorem ite {c : Prop} [Decidable c] {x y : State} (hx : OnlyAgent s x) (hy : OnlyAgent s y) :
    OnlyAgent s (if c then x else y) := by
  split <;> assumption

theorem foldl {α : Type} {f : State → α → State} {l : List α} (hf : ∀ u x, OnlyAgent s u → OnlyAgent s (f u x))
    (h : OnlyAgent s t) : OnlyAgent s (l.foldl f t) := by
  induction l generalizing t with
  | nil => exact h
  | cons x l ih => exact ih (hf t x h)

/-! ### Messages of the agent -/

theorem agentPump (h : OnlyAgent s t) : OnlyAgent s t.agentPump :=
  foldl (fun _ _ hu => ite hu.modAgentCore hu) h

theorem agentDispatch {m : Msg} (h : OnlyAgent s t) : OnlyAgent s (t.agentDispatch m) := h.modAgentCore.agentPump

theorem agentReply {m : Msg} {a : AgentAnswer} (h : OnlyAgent s t) : OnlyAgent s (t.agentReply m a) :=
  h.modAgentCore.agentDispatch.agentCount

theorem agentSend {dst type flags stream : Nat} {body : Bytes} (h : OnlyAgent s t) :
    OnlyAgent s (t.agentSend dst type flags stream body) := h.modAgentCore.agentDispatch

theorem agentReport {source code job : Nat} {data : Bytes} (h : OnlyAgent s t) :
    OnlyAgent s (t.agentReport source code job data) := by
  unfold State.agentReport
  exact modAgentCore (foldl (fun _ _ => agentSend) h)

theorem grantRefused {kind action job : Nat} (h : OnlyAgent s t) : OnlyAgent s (t.grantRefused kind action job) :=
  h.agentCount.agentReport

/-! ### Session numbers at a port of the agent -/

section
variable {port : Nat}

theorem reportLink (h : OnlyAgent s t) : OnlyAgent s (t.reportLink { node := .agent, port := port }) :=
  foldl (fun _ _ => agentSend) h

theorem portFault {code agentCode job : Nat} (h : OnlyAgent s t) :
    OnlyAgent s (t.portFault { node := .agent, port := port } code agentCode job) := ite h h.agentReport

theorem controlNow {fields : Bytes} (h : OnlyAgent s t) :
    OnlyAgent s (t.controlNow { node := .agent, port := port } fields) := by
  unfold State.controlNow
  exact modFlow (modLink h)

theorem sendControl {fields : Bytes} (h : OnlyAgent s t) :
    OnlyAgent s (t.sendControl { node := .agent, port := port } fields) := ite h.controlNow h.modLink

theorem applySession {n : Nat} (h : OnlyAgent s t) : OnlyAgent s (t.applySession { node := .agent, port := port } n) :=
  ite h.modFlow.sendControl.portFault.reportLink h.modFlow.sendControl

end

/-! ### Requests -/

theorem raiseToken {token : Nat} (h : OnlyAgent s t) : OnlyAgent s (t.raiseToken token).1 := by
  unfold State.raiseToken
  split
  · exact h
  · exact h.modAgentWork.modAgentCore.agentCount

end OnlyAgent

/-- The effect of a request touches the agent alone. -/
def EffectAtAgent (s : State) (x : State × AgentAnswer) : Prop := OnlyAgent s x.1

namespace EffectAtAgent

open OnlyAgent

variable {s t : State}

/-- A request that is refused has no effect (R165). -/
theorem refused {a : AgentAnswer} : EffectAtAgent s (s, a) := refl

theorem applied {a : AgentAnswer} (h : OnlyAgent s t) : EffectAtAgent s (t, a) := h

theorem ite {c : Prop} [Decidable c] {x y : State × AgentAnswer} (hx : EffectAtAgent s x) (hy : EffectAtAgent s y) :
    EffectAtAgent s (if c then x else y) := by
  split <;> assumption

/-- A timed action whose tick is refused has no effect (R185). -/
theorem timed {refusal : Option AgentAnswer} {x : State × AgentAnswer} (hx : EffectAtAgent s x) :
    EffectAtAgent s (match refusal with
      | some a => (s, a)
      | none => x) := by
  cases refusal with
  | none => exact hx
  | some _ => exact refused

/-- A request touches the agent alone, where its effect does: every other answer is a reply (R160, R166). -/
theorem agentRequest {m : Msg} {mutating : Bool} {op : Nat} {act : State → State × AgentAnswer}
    (hact : ∀ t, EffectAtAgent t (act t)) : OnlyAgent s (s.agentRequest m mutating op act) := by
  unfold State.agentRequest
  split
  · exact refl
  split
  · exact refl.agentDispatch.agentCount
  refine .ite refl.agentReply (.ite refl.agentReply (.ite refl.agentReply (.ite refl.agentCount.agentReply (.ite refl.agentReply ?_))))
  cases mutating with
  | false => exact (OnlyAgent.ite (hact s).agentCount (hact s)).agentReply
  | true =>
    have heffect := refl.raiseToken.trans (hact (s.raiseToken m.token).1)
    exact (OnlyAgent.ite heffect.agentCount heffect).agentReply

end EffectAtAgent

/-- A row that leads to a state that differs in the agent alone. -/
theorem atAgentOnly_of_finish {i : Instr} {s t : State} (hexec : exec i s = s.finish t) (h : OnlyAgent s t) : AtAgentOnly i s := by
  obtain ⟨a, n, rfl⟩ := h
  exact ⟨a, n, hexec⟩

/-- A row that is a request whose effect touches the agent alone. -/
theorem atAgentOnly_of_request {i : Instr} {m : Msg} {mutating : Bool} {op : Nat} {act : State → State × AgentAnswer} {s : State}
    (hexec : exec i s = s.finish (s.agentRequest m mutating op act)) (hact : ∀ t, EffectAtAgent t (act t)) : AtAgentOnly i s :=
  atAgentOnly_of_finish hexec (EffectAtAgent.agentRequest hact)

section
open OnlyAgent EffectAtAgent

/-- Settles O15: each row but the acknowledgement is a request, and every branch of its effect, in the order of the row's guards, changes parts
of the agent. -/
theorem agentsKeepTheGeneel : Obligations.AgentsKeepTheGeneel := by
  unfold Obligations.AgentsKeepTheGeneel
  intro m s
  refine ⟨?identify, ?claim, ?cert, ?session, ?linkstate, ?tableWrite, ?activate, ?retire, ?failover, ?clearStandby, ?targetSwap,
    ?counters, ?treeSet, ?cards, ?keyInstall, ?keySwitch, ?keyErase, ?grant, ?release, ?linkSession, ?reportAck⟩
  case identify => exact atAgentOnly_of_request rfl fun t => refused
  case claim =>
    refine atAgentOnly_of_request rfl fun t => .ite refused (.ite (applied refl.agentCount) (applied ?_))
    exact .ite refl.raiseToken (.ite refl.raiseToken.modAgentCore.modAgentWork refl.raiseToken.modAgentCore)
  case cert =>
    refine atAgentOnly_of_request rfl fun t => .ite (applied refl.modAgentCore) ?_
    dsimp only
    split
    · exact refused
    · exact applied refl.draw.modAgentCore
  case session => exact atAgentOnly_of_request rfl fun t => .ite (applied refl.modAgentCore) (applied refl.modAgentCore)
  case linkstate =>
    exact atAgentOnly_of_finish rfl (.foldl (fun _ _ h => h.agentDispatch.agentCount) (agentRequest fun t => refused))
  case tableWrite =>
    refine atAgentOnly_of_request rfl fun t =>
      .ite refused (.ite refused (.ite refused (.ite refused (.ite refused (.ite (applied ?target) (.ite ?standby ?banks))))))
    case target => exact refl.modAgentWork.modAgentCore.agentCount
    case standby => exact .ite refused (.ite refused (applied refl.modAgentWork.modAgentCore.agentCount))
    case banks => exact .ite refused (applied refl.modAgentWork.modAgentCore.agentCount)
  case activate =>
    exact atAgentOnly_of_request rfl fun t => .ite refused (timed (.ite refused (.ite refused (applied refl.modAgentWork.addTimed))))
  case retire => exact atAgentOnly_of_request rfl fun t => .ite refused (timed (.ite refused (applied refl.modAgentWork.addTimed)))
  case failover =>
    refine atAgentOnly_of_request rfl fun t => timed ?_
    split
    · exact refused
    · exact .ite refused (applied refl.addTimed)
  case clearStandby => exact atAgentOnly_of_request rfl fun t => timed (applied refl.addTimed)
  case targetSwap => exact atAgentOnly_of_request rfl fun t => .ite refused (timed (.ite refused (applied refl.addTimed)))
  case counters => exact atAgentOnly_of_request rfl fun t => .ite refused (.ite refused refused)
  case treeSet =>
    refine atAgentOnly_of_request rfl fun t => .ite ?install (.ite ?remove refused)
    case install => exact .ite refused (.ite refused (applied refl.modAgentWork))
    case remove => exact .ite (applied refl.modAgentWork) (.ite (applied refl.modAgentWork) (applied refl.modAgentWork))
  case cards => exact atAgentOnly_of_request rfl fun t => .ite refused (.ite refused (.ite refused (applied refl.modAgentWork)))
  case keyInstall =>
    exact atAgentOnly_of_request rfl fun t => .ite refused (.ite refused (.ite refused (.ite refused
      (applied (.ite refl.modAgentWork.modAgentWork refl.modAgentWork)))))
  case keySwitch => exact atAgentOnly_of_request rfl fun t => .ite refused (.ite refused (timed (applied refl.addTimed)))
  case keyErase =>
    exact atAgentOnly_of_request rfl fun t => .ite refused (.ite refused (timed (.ite refused (applied refl.addTimed))))
  case grant => exact atAgentOnly_of_request rfl fun t => .ite refused (.ite refused (applied refl.modAgentWork))
  case release =>
    refine atAgentOnly_of_request rfl fun t => ?_
    dsimp only
    split
    · exact applied refl.grantRefused
    · exact timed (applied refl.addTimed)
  case linkSession =>
    exact atAgentOnly_of_request rfl fun t => .ite refused (.ite refused (.ite refused (.ite (applied refl.applySession)
      (timed (applied refl.addTimed)))))
  case reportAck => exact atAgentOnly_of_finish rfl refl.modAgentCore

end

end Sys2Proof.Proofs
end

section
/-! PROOFS of the family 05_agent_protocol: what a request that the agent takes does. -/

namespace Sys2Proof.Proofs

open Sys2Proof Sys2Proof.Machine

/-- A row whose request the agent takes: its effect, and its answer sent (R160, R164, R166). -/
theorem finish_agentRequest {m : Msg} {mutating : Bool} {op : Nat} {act : State → State × AgentAnswer} {s u : State} {a : AgentAnswer}
    (htaken : taken m mutating op s = true) (hact : act (takenBy m mutating s) = (u, a)) :
    s.finish (s.agentRequest m mutating op act) = .next (Done s (answered m mutating s u a)) := by
  rw [agentRequest_taken m mutating op act s htaken, hact, finish_eq_next_done]

/-! ### What a higher token leaves (R169) -/

section
variable (s : State) (token : Nat)

theorem raiseToken_chain : (s.raiseToken token).1.agent.core.chain = s.agent.core.chain := by
  unfold State.raiseToken; split <;> rfl

theorem raiseToken_sessionKey : (s.raiseToken token).1.agent.core.sessionKey = s.agent.core.sessionKey := by
  unfold State.raiseToken; split <;> rfl

theorem raiseToken_owner : (s.raiseToken token).1.agent.core.owner = s.agent.core.owner := by
  unfold State.raiseToken; split <;> rfl

theorem raiseToken_txSlot : (s.raiseToken token).1.agent.work.txSlot = s.agent.work.txSlot := by
  unfold State.raiseToken; split <;> rfl

end

section
variable (m : Msg) (s : State)

theorem takenBy_chain : (takenBy m true s).agent.core.chain = s.agent.core.chain := raiseToken_chain s m.token

theorem takenBy_sessionKey : (takenBy m true s).agent.core.sessionKey = s.agent.core.sessionKey := raiseToken_sessionKey s m.token

theorem takenBy_tx (job kind : Nat) : (takenBy m true s).agent.work.tx job kind = s.agent.work.tx job kind :=
  congrArg (fun l => (l.find? (fun e => e.1 == job && e.2.1 == kind)).map (fun e => e.2.2)) (raiseToken_txSlot s m.token)

end

/-- Settles O21: each is a request that is taken (`finish_agentRequest`), whose effect the guards of the row let through. -/
theorem agentCommitsComplete : Obligations.AgentCommitsComplete := by
  unfold Obligations.AgentCommitsComplete
  refine ⟨?tableWrite, ?activate, ?retire, ?failover, ?clearStandby, ?targetSwap⟩
  case tableWrite =>
    intro m s htaken htable hbank hformat hcount hrange hfree
    refine finish_agentRequest htaken ?_
    simp only [htable, hfree, hrange]
    -- The guards in their order: the table, the bank, the format, the count, the range; neither table 3 nor bank S; the bank is FREE.
    rw [if_neg (by omega), if_neg (by omega), if_neg (by omega), if_neg (by omega), if_neg Bool.false_ne_true, if_neg (by omega),
      if_neg (by omega), if_neg (Classical.not_not.2 rfl)]
    rfl
  case activate =>
    intro m s htaken hbank htick hpending hfree honce hcrc
    refine finish_agentRequest htaken ?_
    dsimp only
    rw [if_neg (by omega), htick]
    have hfits := not_or.2 ⟨ne_true_of_eq_false hpending, not_or.2 ⟨Classical.not_not.2 hfree, ne_true_of_eq_false honce⟩⟩
    exact (if_neg hfits).trans (if_neg (Classical.not_not.2 hcrc))
  case retire =>
    intro m s htaken hbank htick hpending hold
    refine finish_agentRequest htaken ?_
    dsimp only
    rw [if_neg (by omega), htick]
    exact if_neg (by simp [hpending, hold])
  case failover =>
    intro m d s htaken htick hfound hepoch
    refine finish_agentRequest htaken ?_
    simp only [htick, hfound, hepoch, ne_eq, not_true_eq_false, if_false]
  case clearStandby =>
    intro m s htaken htick
    refine finish_agentRequest htaken ?_
    simp only [htick]
  case targetSwap =>
    intro m s htaken hkind htick hcrc
    refine finish_agentRequest htaken ?_
    simp only [hkind, htick, hcrc, ne_eq, not_true_eq_false, if_false]

/-! ### What the session key seals (R192, R194) -/

/-- The key that a KEY_INSTALL carries, unwrapped (R192). -/
def wrappedKey (m : Msg) (key : Bytes) : Bytes := field (Config.gcmDecrypt key (keyNonce m) (field m.content 8 32)) 0 32

/-- The slot that a KEY_INSTALL fills (R192). -/
def installedSlot (m : Msg) (key : Bytes) : KeySlot := {
  job := le m.content 0 2, kind := le m.content 2 1, slot := le m.content 3 1, generation := le m.content 4 2, key := wrappedKey m key }

/-- A first key of its job and kind is installed, and is the one to send with (R192, log entry 44). -/
def withFirstKey (m : Msg) (key : Bytes) (t : State) : State :=
  (t.modAgentWork (fun w => { w with
    keys := w.keys.filter (fun x => !x.is (le m.content 0 2) (le m.content 2 1) (le m.content 3 1)) ++ [installedSlot m key] })).modAgentWork
    (fun w => w.setTx (le m.content 0 2) (le m.content 2 1) (le m.content 3 1))

section
variable {m : Msg} {a : Nat} {key : Bytes} {s : State} (htaken : taken m true 0 s = true)
  (hsession : s.agent.core.sessionKey = some (a, key))
include htaken hsession

section
variable (hkind : le m.content 2 1 ≤ 1) (hslot : le m.content 3 1 ≤ 1)
include hkind hslot

/-- A key whose tag does not agree is refused (R192). -/
theorem agentKeyInstall_badTag
    (hbad : field m.content 40 16 ≠ field (Config.gcmTag key (keyNonce m) (field m.content 0 8) (wrappedKey m key)) 0 16) :
    exec (.agentKeyInstall m) s = .next (Done s (answered m true s (takenBy m true s) { status := 7 })) := by
  refine finish_agentRequest htaken ?_
  dsimp only
  rw [takenBy_sessionKey, hsession, if_neg (Nat.not_lt.2 hkind), if_neg (Nat.not_lt.2 hslot)]
  exact if_pos (.inr hbad)

/-- A first key of its job and kind whose tag agrees is installed (R192). -/
theorem agentKeyInstall_first (hkey : key ≠ []) (hfirst : s.agent.work.tx (le m.content 0 2) (le m.content 2 1) = none)
    (htag : field m.content 40 16 = field (Config.gcmTag key (keyNonce m) (field m.content 0 8) (wrappedKey m key)) 0 16) :
    exec (.agentKeyInstall m) s = .next (Done s (answered m true s (withFirstKey m key (takenBy m true s)) AgentAnswer.ok)) := by
  refine finish_agentRequest htaken ?_
  dsimp only
  rw [takenBy_sessionKey, hsession, takenBy_tx, hfirst, if_neg (Nat.not_lt.2 hkind), if_neg (Nat.not_lt.2 hslot)]
  exact (if_neg (not_or.2 ⟨hkey, Classical.not_not.2 htag⟩)).trans (if_neg (fun h => Option.some_ne_none _ h.2.symm))

end

/-- A session number whose tag does not agree is refused (R194). -/
theorem agentLinkSession_badTag
    (hbad : field m.content 16 16 ≠ field (Config.gcmTag key (keyNonce m) (field m.content 0 16) []) 0 16) :
    exec (.agentLinkSession m) s = .next (Done s (answered m true s (takenBy m true s) { status := 7 })) := by
  refine finish_agentRequest htaken ?_
  dsimp only
  rw [takenBy_sessionKey, hsession]
  exact if_pos (.inr hbad)

/-- A number that names no tick is applied at once (R194). -/
theorem agentLinkSession_applied (hkey : key ≠ []) (htick : le m.content 8 6 = 0)
    (hup : ((takenBy m true s).agentPort (le m.content 0 1)).link.state = .up)
    (hunused : ((takenBy m true s).agentPort (le m.content 0 1)).flow.sessionsUsed.contains (le m.content 2 3) = false)
    (htag : field m.content 16 16 = field (Config.gcmTag key (keyNonce m) (field m.content 0 16) []) 0 16) :
    exec (.agentLinkSession m) s = .next (Done s (answered m true s
      ((takenBy m true s).applySession { node := .agent, port := le m.content 0 1 } (le m.content 2 3)) AgentAnswer.ok)) := by
  refine finish_agentRequest htaken ?_
  dsimp only
  rw [takenBy_sessionKey, hsession]
  exact (if_neg (not_or.2 ⟨hkey, Classical.not_not.2 htag⟩)).trans
    ((if_neg (Classical.not_not.2 hup)).trans ((if_neg (ne_true_of_eq_false hunused)).trans (if_pos htick)))

end

/-- Settles O22: each is a request that is taken (`finish_agentRequest`), whose effect the guards of the row let through; a key or a session
number goes by its tag. -/
theorem agentWorkCompletes : Obligations.AgentWorkCompletes := by
  unfold Obligations.AgentWorkCompletes
  refine ⟨?treeSet, ?cards, ?keyInstall, ?keyInstalled, ?keySwitch, ?keyErase, ?grant, ?release, ?session, ?sessionApplied⟩
  case treeSet =>
    intro m s htaken hop hstore hcap
    refine finish_agentRequest htaken ?_
    dsimp only
    rw [if_pos hop, if_neg (by omega), if_neg (by omega)]
  case cards =>
    intro m s htaken hkind hcount hnone
    refine finish_agentRequest htaken ?_
    simp only [hkind, hnone, Nat.not_lt.2 hcount, List.any_nil, ne_eq, not_true_eq_false, if_false, Bool.false_eq_true]
  case keyInstall =>
    intro m a key s htaken hsession hkey hkind hslot hfirst
    split
    next htag => exact agentKeyInstall_first htaken hsession hkind hslot hkey hfirst htag
    next hbad => exact agentKeyInstall_badTag htaken hsession hkind hslot hbad
  case keyInstalled =>
    intro m a key s htaken hsession hkey hkind hslot hfirst htag
    exact agentKeyInstall_first htaken hsession hkind hslot hkey hfirst htag
  case keySwitch =>
    intro m s htaken htick hkind hslot
    refine finish_agentRequest htaken ?_
    simp only [htick, Nat.not_lt.2 hkind, Nat.not_lt.2 hslot, if_false]
  case keyErase =>
    intro m s htaken htick hunused hidle hkind hslot
    refine finish_agentRequest htaken ?_
    simp only [htick, Nat.not_lt.2 hkind, Nat.not_lt.2 hslot, hunused, hidle, false_and, and_false, Bool.false_eq_true, if_false]
  case grant =>
    intro m s htaken hkind hroom
    refine finish_agentRequest htaken ?_
    simp only [Nat.not_lt.2 hkind, Nat.not_le.2 hroom, if_false]
  case release =>
    intro m g s htaken hgrant htick
    refine finish_agentRequest htaken ?_
    simp only [hgrant, htick]
  case session =>
    intro m a key s htaken hsession hkey htick hup hunused
    split
    next htag => exact agentLinkSession_applied htaken hsession hkey htick hup hunused htag
    next hbad => exact agentLinkSession_badTag htaken hsession hbad
  case sessionApplied =>
    intro m a key s htaken hsession hkey htick hup hunused htag
    exact agentLinkSession_applied htaken hsession hkey htick hup hunused htag

/-! ### Discovery -/

/-- Where no more than 17 ports are asked for, no further reply follows (R175). -/
theorem furtherReplies_nil {ports : List Nat} (hfew : ports.length ≤ 17) : List.range (cdiv (ports.length - 17) 17) = [] := by
  rw [Nat.sub_eq_zero_of_le hfew]; rfl

/-- A first claim takes no address away, there being no owner before it (R172). -/
theorem modAgentCore_firstClaim {t : State} (bolt : Nat) (hnone : t.agent.core.owner = none) :
    t.modAgentCore (fun c => { c with
        owner := some bolt, state := .claimed, sessionKey := none, addr := if c.owner.isSome then none else c.addr })
      = t.modAgentCore (fun c => { c with owner := some bolt, state := .claimed, sessionKey := none, addr := c.addr }) := by
  simp only [State.modAgentCore, hnone, Option.isSome_none, Bool.false_eq_true, if_false]

/-- The signature of a session holds under the certified key (R176). -/
def sessionSigned (chain b : Bytes) : Bool := match geneelKey chain with
  | some k => falconVerify k (field (Config.shake256 (field b 0 1568) 32) 0 32) (field b 1568 1280)
  | none => false

section
variable {m : Msg} {s : State} (htaken : taken m true 3 s = true)
include htaken

/-- A session whose signature holds has its key, and a CLAIMED agent is ATTESTED (R176, R201). -/
theorem agentProbeSession_good (hgood : sessionSigned s.agent.core.chain (m.body.drop 35) = true) :
    exec (.agentProbeSession m) s = .next (Done s (answered m true s ((takenBy m true s).modAgentCore (fun c => { c with
      sessionKey := some (m.src, agentSessionKey (Config.kemDecap "agent" (field (m.body.drop 35) 0 1568)) c.serial m.src)
      sessionFailures := 0, state := if c.state = .claimed then .attested else c.state })) AgentAnswer.ok)) := by
  refine finish_agentRequest htaken ?_
  dsimp only
  rw [takenBy_chain]
  exact if_pos hgood

/-- One whose signature fails is counted, and the third makes the agent FAULTED (R171, R201). -/
theorem agentProbeSession_bad (hbad : ¬ sessionSigned s.agent.core.chain (m.body.drop 35) = true) :
    exec (.agentProbeSession m) s = .next (Done s (answered m true s ((takenBy m true s).modAgentCore (fun c => { c with
      sessionFailures := c.sessionFailures + 1, state := if 3 ≤ c.sessionFailures + 1 then .faulted else c.state })) { status := 7 })) := by
  refine finish_agentRequest htaken ?_
  dsimp only
  rw [takenBy_chain]
  exact if_neg hbad

end

/-- Settles O20: each is a request that is taken (`finish_agentRequest`); a session goes by its signature, and an answer of no more than 17
ports is the only one. -/
theorem agentDiscoveryCompletes : Obligations.AgentDiscoveryCompletes := by
  unfold Obligations.AgentDiscoveryCompletes
  refine ⟨?identify, ?claim, ?cert, ?session, ?sessionGood, ?evidence, ?linkstate, ?counters⟩
  case identify =>
    intro m s htaken
    exact finish_agentRequest htaken rfl
  case claim =>
    intro m s htaken hgeneel howner htoken
    refine finish_agentRequest htaken ?_
    have hraised : (s.raiseToken m.token).1.agent.core.owner = none := (raiseToken_owner s m.token).trans howner
    simp only [takenBy, hgeneel, howner, Nat.not_lt.2 htoken, modAgentCore_firstClaim _ hraised, Option.none_beq_some, Option.isSome_none,
      Bool.not_true, Bool.false_eq_true, false_and, or_self, if_false]
  case cert =>
    intro m s htaken hfirst
    exact finish_agentRequest htaken (if_pos hfirst)
  case session =>
    intro m s htaken
    change exec _ s = .next (Done s (if sessionSigned s.agent.core.chain (m.body.drop 35) = true then _ else _))
    split
    next hgood => exact agentProbeSession_good htaken hgood
    next hbad => exact agentProbeSession_bad htaken hbad
  case sessionGood =>
    intro m k s htaken hkey hsigned
    exact agentProbeSession_good htaken (by simpa only [sessionSigned, hkey] using hsigned)
  case evidence =>
    intro m k s htaken hsecond hkey
    refine finish_agentRequest htaken ((if_neg hsecond).trans ?_)
    simp only [takenBy, hkey, Bool.false_eq_true, if_false]
    rfl
  case linkstate =>
    intro m s htaken hfew
    change execAgentLinkstateRequest m s = _
    unfold execAgentLinkstateRequest
    dsimp only
    rw [furtherReplies_nil hfew, List.map_nil, ite_self, List.foldl_nil, List.take_of_length_le hfew]
    exact finish_agentRequest htaken rfl
  case counters =>
    intro m s htaken hblock hcount
    refine finish_agentRequest htaken ?_
    exact (if_neg (Nat.not_lt.2 hblock)).trans (if_neg (Nat.not_lt.2 hcount))

end Sys2Proof.Proofs
end

section
/-! PROOFS of the family 05_agent_protocol: Twill at a switch and at a member. -/

namespace Sys2Proof.Proofs

open Sys2Proof Sys2Proof.Machine

section
variable {s : State} (hforwards : s.agentForwards = true)
include hforwards

/-- An agent in SERVING or QUIESCED is past the guard of its Twill rows (R201). -/
theorem passes_forwardGuard : ¬ (!s.agentForwards) = true := by simp [hforwards]

section
variable {port : Nat} {f : Flit} {e : TreeEntry} (htree : s.treeOfFlit f = some e)
include htree

/-- A down flit goes out of every child port; its records, where it has any, are forwarded (R355, R366). -/
theorem execSwitchTwillRecord_down (hvc : f.vc = 3) :
    execSwitchTwillRecord port f s =
      let x := if le f.payload 7 1 = 0 then (s, f) else s.forwardRecords e (le f.payload 0 4) (typeData (codesType e.codes)) true f
      s.finish (e.kids.foldl (fun t p => t.switchOut port p x.2) x.1) := by
  unfold execSwitchTwillRecord
  rw [htree]
  exact (if_neg (passes_forwardGuard hforwards)).trans (if_pos hvc)

variable (hvc : f.vc ≠ 3)
include hvc

/-- Tallies that come up are taken one by one, and what is ready leaves (R361, R371). -/
theorem execSwitchTwillRecord_upTallies (hspan : le f.payload 7 1 = 0) :
    execSwitchTwillRecord port f s = s.finish (((talliesOf f.payload).foldl
      (fun t y => t.switchTally e port (le f.payload 0 4) f y) s).pumpSwitch e (le f.payload 0 4) f) := by
  unfold execSwitchTwillRecord
  rw [htree]
  exact (if_neg (passes_forwardGuard hforwards)).trans ((if_neg hvc).trans (if_pos hspan))

/-- Records that come up extend what their child has covered; they are combined or forwarded by the role of the entry (R355, R363). -/
theorem execSwitchTwillRecord_upRecords (hspan : le f.payload 7 1 ≠ 0) :
    execSwitchTwillRecord port f s =
      let g := s.gather e (le f.payload 0 4)
      let old := ((g.cover.find? (fun c => c.1 == port)).map Prod.snd).getD 0
      let s1 := s.putGather { g with cover := g.cover.filter (fun c => c.1 != port) ++ [(port, max old (le f.payload 4 3 + le f.payload 7 1))] }
      let size := upData (codesOp e.codes) (codesType e.codes) e.lane
      let x := s1.forwardRecords e (le f.payload 0 4) size false f
      s.finish (if e.role = 1 then
        ((recordsOf size f.payload).foldl (fun t r => t.combineRecord e (le f.payload 0 4) (le f.payload 4 3) r) s1).pumpSwitch e
          (le f.payload 0 4) f
      else (x.1.switchOut port e.parent x.2).pumpSwitch e (le f.payload 0 4) f) := by
  unfold execSwitchTwillRecord
  rw [htree]
  exact (if_neg (passes_forwardGuard hforwards)).trans ((if_neg hvc).trans ((if_neg hspan).trans (apply_ite s.finish _ _ _).symm))

end

section
variable {f : Flit} {e : TreeEntry} (own : MemberUnits) (htree : s.treeOfFlit { f with vc := 3 } = some e) (hone : (e.tree == 1) = false)
include htree hone

/-- Results of tree 0 before its DEND are covered and checked (R361, R366). -/
theorem execMemberResultReceive_records (hspan : le f.payload 7 1 ≠ 0)
    (hopen : (s.memberOf e.group (le f.payload 0 4)).dend0 = none) :
    execMemberResultReceive f own s =
      let x := s.memberOf e.group (le f.payload 0 4)
      s.finish (s.putMember { x with
        cover0 := max x.cover0 (le f.payload 4 3 + le f.payload 7 1)
        bad0 := x.bad0 || (recordsOf (typeData (codesType e.codes)) f.payload).any (fun r => r.residue != dataResidue r.data) }) := by
  unfold execMemberResultReceive
  rw [htree]
  refine (if_neg (passes_forwardGuard hforwards)).trans ?_
  simp only [twillHeader, hone, hspan, hopen, Bool.false_eq_true, if_false]

/-- DEND of tree 0 behind every result that it counts sends the RECEIPT up (R361, R370). -/
theorem execMemberResultReceive_dend {y : Tally} (hspan : le f.payload 7 1 = 0)
    (hdend : (talliesOf f.payload).find? (fun y => y.type == 4) = some y)
    (hunsent : (s.memberOf e.group (le f.payload 0 4)).receipt0 = false)
    (hcovered : y.data ≤ (s.memberOf e.group (le f.payload 0 4)).cover0) :
    execMemberResultReceive f own s =
      let x := s.memberOf e.group (le f.payload 0 4)
      s.finish ((s.putMember { x with dend0 := some y.data, receipt0 := true }).switchOut e.parent e.parent {
        kind := .data, vc := 2, epb := s.agentEpb, dst := f.src, src := s.agentAddr, stream := e.up, job := e.job
        payload := tallyPayload (le f.payload 0 4) [{
          type := 2, flags := flag x.bad0 + 2 * flag (decide (y.data ≠ (treeUnits e.tree own.units own.f0 own.f1 own.single).2))
          addr := s.agentAddr, data := s.agent.core.tick % 2 ^ 32 }] }) := by
  unfold execMemberResultReceive
  rw [htree]
  refine (if_neg (passes_forwardGuard hforwards)).trans ?_
  simp only [twillHeader, hone, hspan, hdend, hunsent, Nat.not_lt.2 hcovered, Bool.false_eq_true, false_and, or_self, if_false, if_true]

end

section
variable {m : Msg} {e : TreeEntry} (htree : s.agentTree (le m.content 2 1) (le m.content 0 2) = some e)
include htree

/-- At a switch a verdict is forwarded to the children, and that is all (R190, R199). -/
theorem execAgentVerdict_switch (hkind : s.agent.core.kind ≠ 1) :
    execAgentVerdict m s = s.finish (s.forwardVc1 m m.content e.children) := by
  simp only [execAgentVerdict, htree]
  exact (if_neg (passes_forwardGuard hforwards)).trans (if_pos hkind)

/-- A member holds the first verdict of a step, with its tick; one that names no action releases nothing (R196, R373). -/
theorem execAgentVerdict_member (hkind : s.agent.core.kind = 1)
    (hfresh : ((s.forwardVc1 m m.content e.children).memberOf (le m.content 0 2) (le m.content 4 4)).verdict = 0)
    (haction : le m.content 14 4 = 0) :
    execAgentVerdict m s =
      let s1 := s.forwardVc1 m m.content e.children
      s.finish (s1.putMember { s1.memberOf (le m.content 0 2) (le m.content 4 4) with
        verdict := le m.content 3 1, tick := le m.content 8 6 }) := by
  simp only [execAgentVerdict, htree]
  exact (if_neg (passes_forwardGuard hforwards)).trans ((if_neg (Classical.not_not.2 hkind)).trans ((if_neg (Classical.not_not.2 hfresh)).trans
    (if_neg (fun h => h.2 haction))))

end

end

/-- Settles O49: a row of a flit or a verdict on a tree is what the lemmas above say of it, by its direction, its span and its node. -/
theorem twillAgentCompletes : Obligations.TwillAgentCompletes := by
  unfold Obligations.TwillAgentCompletes
  refine ⟨?noTree, ?downTallies, ?downRecords, ?upTallies, ?upRecords, ?results, ?dend, ?verdictSwitch, ?verdictMember⟩
  case noTree =>
    intro port f s hnone
    change execSwitchTwillRecord port f s = _
    simp only [execSwitchTwillRecord, hnone, finish_eq_next_done]
  case downTallies =>
    intro port f e s htree hvc hspan hforwards
    refine (execSwitchTwillRecord_down hforwards htree hvc).trans ?_
    simp only [hspan, if_true, finish_eq_next_done]
  case downRecords =>
    intro port f e s htree hvc hspan hforwards
    refine (execSwitchTwillRecord_down hforwards htree hvc).trans ?_
    simp only [hspan, if_false, finish_eq_next_done]
  case upTallies =>
    intro port f e s htree hvc hspan hforwards
    exact execSwitchTwillRecord_upTallies hforwards htree hvc hspan
  case upRecords =>
    intro port f e s htree hvc hspan hforwards
    exact execSwitchTwillRecord_upRecords hforwards htree hvc hspan
  case results =>
    intro f own e s htree hone hspan hopen hforwards
    exact execMemberResultReceive_records hforwards own htree hone hspan hopen
  case dend =>
    intro f own e y s htree hone hspan hdend hunsent hcovered hforwards
    exact execMemberResultReceive_dend hforwards own htree hone hspan hdend hunsent hcovered
  case verdictSwitch =>
    intro m e s htree hkind hforwards
    exact execAgentVerdict_switch hforwards htree hkind
  case verdictMember =>
    intro m e s htree hkind hfresh haction hforwards
    exact execAgentVerdict_member hforwards htree hkind hfresh haction

end Sys2Proof.Proofs
end

section
/-! PROOFS of the family 06_discovery: the rows of the walk, of the deltas of peers, and of released agents. -/

namespace Sys2Proof.Proofs

open Sys2Proof Sys2Proof.Machine

/-- A message of a Geneel whose slot holds the class that it needs is acted on (R663). -/
theorem fromGeneel_permitted {src cls : Nat} {s : State} (hmay : s.senderMay src cls = true) (type : Nat) (act : State → State) :
    s.fromGeneel src cls type act = act s := if_pos hmay

/-- While the walk of a primary runs, its stage decides what a step sends: the messages of the level, or, with every reply in and 4 ticks
on, the end of the level (R212, R213). -/
theorem execDiscoveryLevelStep_running {s : State} (hrun : s.fabric.walk.running = true) (hprimary : s.isPrimary = true) :
    execDiscoveryLevelStep s =
      if s.fabric.walk.stage = 1 then s.finish s.walkSessions.walkIdents
      else if s.fabric.walk.stage = 2 ∧ s.fabric.walk.awaits = [] ∧ s.fabric.walk.since + 4 ≤ s.clock.now then
        s.finish s.walkSessions.walkLevel
      else s.finish s.walkSessions :=
  if_neg (by simp [hrun, hprimary])

/-- The answer of an owner that the walk waits for: a refusal ends the walk with ST_DENIED reason 5, a grant lets it go on without waiting
for that owner (R239). -/
theorem execMoveReleaseConfirmReceive_awaited {src : Nat} {s : State} (hmay : s.senderMay src 2 = true)
    (hrun : s.fabric.walk.running = true) (hawaited : s.fabric.walk.releasing.contains ((src - 0xF000) / 2) = true) (granted : Bool) :
    execMoveReleaseConfirmReceive src granted s = s.finish (
      if !granted then
        (s.modWalk (fun v => { v with failed := some (0x20, 5 + 256 * ((s.fabric.walk.cmd.bind s.cmd).map Cmd.master).getD 0) })).walkFinish
      else
        (s.modWalk (fun v => { v with releasing := v.releasing.filter (· != (src - 0xF000) / 2), regrant := true })).walkKeys) := by
  rw [execMoveReleaseConfirmReceive, fromGeneel_permitted hmay]
  exact congrArg s.finish (if_neg (by rw [hrun, hawaited]; decide))

/-- Settles O24: the guards of each row decide it; the marker of the sections and the leaving of agents are what their definitions say. -/
theorem discoveryEventsComplete : Obligations.DiscoveryEventsComplete := by
  unfold Obligations.DiscoveryEventsComplete
  refine ⟨?ident, ?linkstate, ?levelMessages, ?levelEnd, ?delta, ?release, ?refused, ?granted, ?marker, ?leave⟩
  case ident =>
    intro m w s hwait hkind hprobe
    change execIdentReceive m s = _
    rw [execIdentReceive, hwait]
    exact (if_pos hkind).trans (if_pos hprobe)
  case linkstate =>
    intro m n s hnode
    change execLinkstateReceive m s = _
    rw [execLinkstateReceive, hnode]
    rfl
  case levelMessages =>
    intro s hrun hstage hprimary
    exact (execDiscoveryLevelStep_running hrun hprimary).trans (if_pos hstage)
  case levelEnd =>
    intro s hrun hstage hreplies hold hprimary
    exact (execDiscoveryLevelStep_running hrun hprimary).trans ((if_neg (by omega)).trans (if_pos ⟨hstage, hreplies, hold⟩))
  case delta =>
    intro src d s hmay hpeer
    exact congrArg s.finish ((fromGeneel_permitted hmay 0 _).trans (if_neg hpeer))
  case release =>
    intro src serials s hmay hprimary hfree
    have hleads : ¬ (!s.isPrimary) = true := by simp [hprimary]
    exact congrArg s.finish ((fromGeneel_permitted hmay 0 _).trans ((if_neg hleads).trans (if_neg (ne_true_of_eq_false hfree))))
  case refused =>
    intro src id s hmay hrun hawaited hcmd
    refine (execMoveReleaseConfirmReceive_awaited hmay hrun hawaited false).trans ?_
    rw [hcmd]
    rfl
  case granted =>
    intro src s hmay hrun hawaited
    exact execMoveReleaseConfirmReceive_awaited hmay hrun hawaited true
  case marker => exact fun _ => rfl
  case leave => exact fun _ _ _ => rfl

end Sys2Proof.Proofs
end

section
/-! PROOFS of the family 07_route_solver: the rows of a fabric solve. -/

namespace Sys2Proof.Proofs

open Sys2Proof Sys2Proof.Machine

/-- A row of a message from a permitted Geneel ends in what its action makes of the state (R663). -/
theorem finish_fromGeneel_permitted {src cls type : Nat} {act : State → State} {s t : State} (hmay : s.senderMay src cls = true)
    (hact : act s = t) : s.finish (s.fromGeneel src cls type act) = .next (Done s t) :=
  congrArg s.finish ((fromGeneel_permitted hmay type act).trans hact)

/-- A row of a message about the solve of its number is its action in full: the guard asks for that number (R265). -/
theorem finish_fromGeneel_ofSolve {src cls type id : Nat} {act : State → State} {s : State} (hmay : s.senderMay src cls = true)
    (hid : s.fabric.solve.map Solve.id = some id) :
    s.finish (s.fromGeneel src cls type (fun t => if t.fabric.solve.map Solve.id = some id then act t else t))
      = .next (Done s (act s)) :=
  finish_fromGeneel_permitted hmay (if_pos hid)

/-! ### Requests (R264, R272) -/

/-- Beyond 64 queued a request changes nothing and is not taken (R272). -/
theorem gotRequest_full {s : State} (hfull : 64 ≤ s.fabric.queue.length) (p : SolveParams) (src msgid : Nat) :
    s.gotRequest p src msgid = (s, false) := by
  have hqueue : ¬ (s.fabric.solve.isNone = true ∧ s.fabric.queue = []) := by
    rintro ⟨-, hnil⟩
    simp [hnil] at hfull
  exact (if_neg hqueue).trans (if_pos hfull)

/-- At the coordinator a request, which is no refusal, is taken, or answered with status 2 under its number (R264, R272). -/
theorem execSolveReqReceive_coordinator {m : Msg} {s : State} (hmay : s.senderMay m.src 3 = true) (hhere : s.coordinator = s.ownAddr)
    (hrequest : m.flags % 2 = 0) :
    execSolveReqReceive m s =
      let x := s.gotRequest (decodeParams m.body) m.src m.msgid
      .next (Done s (if x.2 then x.1 else
        s.sendAgain { s.msgTo m.src 0x40 (toLe 2 2 ++ zeros 6) with flags := 1, msgid := m.msgid })) :=
  finish_fromGeneel_permitted hmay ((if_neg (by omega)).trans (if_neg (not_not_intro hhere)))

/-! ### The rows -/

/-- Settles O25: a row of a permitted Geneel is its action (`finish_fromGeneel_permitted`), and the number of the running solve, its state
and the reason of an abort decide that action. -/
theorem solveMessagesComplete : Obligations.SolveMessagesComplete := by
  unfold Obligations.SolveMessagesComplete
  refine ⟨?request, ?requestFull, ?queued, ?call, ?callAgain, ?vector, ?start, ?batch, ?shareData, ?shareLate, ?shareMove, ?done,
    ?abortRepeated, ?abortEnded⟩
  case request =>
    intro m s hmay hhere hrequest htaken
    refine (execSolveReqReceive_coordinator hmay hhere hrequest).trans ?_
    dsimp only
    rw [if_pos htaken]
  case requestFull =>
    intro m s hmay hhere hrequest hfull
    refine (execSolveReqReceive_coordinator hmay hhere hrequest).trans ?_
    rw [gotRequest_full hfull]
    rfl
  case queued => exact fun _ hhere => if_pos hhere
  case call =>
    intro m s hmay hnone hended
    refine finish_fromGeneel_permitted hmay ?_
    dsimp only
    rw [hnone, hended]
  case callAgain =>
    intro m w s hmay hsolve hsame
    refine finish_fromGeneel_permitted hmay ?_
    simp only [hsolve, hsame, if_true]
  case vector => exact fun _ _ hmay hid => finish_fromGeneel_ofSolve hmay hid
  case start => exact fun _ _ hmay hid => finish_fromGeneel_ofSolve hmay hid
  case batch => exact fun _ => rfl
  case shareData =>
    intro m v s hmay hsolve hid hbegun hassignee
    refine finish_fromGeneel_permitted hmay ?_
    dsimp only
    rw [hsolve]
    exact if_neg (by simp [hid, hbegun, hassignee])
  case shareLate =>
    intro share v s hsolve hopen hbegun hlate hmissing
    change execShareDataTimeout share s = _
    rw [execShareDataTimeout, hsolve]
    refine if_neg ?_
    simp only [hopen, hbegun, hmissing, Nat.not_lt.2 hlate]
    decide
  case shareMove =>
    intro m v s hmay hsolve hid
    refine finish_fromGeneel_permitted hmay ?_
    refine (if_pos (by simp [hsolve, hid])).trans ?_
    rw [State.moveShare, hsolve]
  case done => exact fun _ _ hmay hid => finish_fromGeneel_ofSolve hmay hid
  case abortRepeated =>
    intro m v s hmay hsolve hid hreason hfirst
    refine finish_fromGeneel_permitted hmay ?_
    dsimp only
    rw [hsolve]
    refine (if_neg (not_not_intro hid)).trans ((if_neg (by omega)).trans (if_pos ⟨hreason, ?_⟩))
    rw [hfirst, Bool.not_false]
  case abortEnded =>
    intro m v s hmay hsolve hid hreason
    refine finish_fromGeneel_permitted hmay ?_
    dsimp only
    rw [hsolve]
    refine (if_neg (not_not_intro hid)).trans ((if_neg (by omega)).trans ((if_neg (by omega)).trans ?_))
    rw [if_pos hreason]

end Sys2Proof.Proofs
end

section
/-! PROOFS of the family 08_route_epochs: the rows of staging and committing a route epoch. -/

namespace Sys2Proof.Proofs

open Sys2Proof Sys2Proof.Machine

/-- At a primary a row of a message from a permitted Geneel that only a primary acts on is its action in full (R286, R290, R663). -/
theorem finish_fromGeneel_atPrimary {src cls type : Nat} {act : State → State} {s t : State} (hmay : s.senderMay src cls = true)
    (hprimary : s.isPrimary = true) (hact : act s = t) :
    s.finish (s.fromGeneel src cls type (fun u => if !u.isPrimary then u else act u)) = .next (Done s t) :=
  finish_fromGeneel_permitted hmay ((if_neg (by simp [hprimary])).trans hact)

/-- Settles O26: a row of a permitted Geneel is its action (`finish_fromGeneel_permitted`), orders are for a primary
(`finish_fromGeneel_atPrimary`); whether an epoch drains decides what an order to stage does, and whether it is of the running staging where
a report of staging goes. -/
theorem epochMessagesComplete : Obligations.EpochMessagesComplete := by
  unfold Obligations.EpochMessagesComplete
  refine ⟨?stage, ?stageDraining, ?staged, ?stagedEarly, ?commit, ?done⟩
  case stage => exact fun _ _ hmay hprimary hidle => finish_fromGeneel_atPrimary hmay hprimary (if_neg hidle)
  case stageDraining => exact fun _ _ hmay hprimary hdraining => finish_fromGeneel_atPrimary hmay hprimary (if_pos hdraining)
  case staged => exact fun _ _ hmay hid hstaging => finish_fromGeneel_permitted hmay (if_pos ⟨hid, hstaging⟩)
  case stagedEarly => exact fun _ _ hmay hother => finish_fromGeneel_permitted hmay (if_neg hother)
  case commit => exact fun _ _ hmay hprimary => finish_fromGeneel_atPrimary hmay hprimary rfl
  case done => exact fun _ _ hmay => finish_fromGeneel_permitted hmay rfl

end Sys2Proof.Proofs
end

section
/-! PROOFS of the family 09_slices_and_access: the rows of staged slice changes and of the end of a slice. -/

namespace Sys2Proof.Proofs

open Sys2Proof Sys2Proof.Machine

/-! ### Staged changes (R313, R314) -/

section
variable {c : SliceChange} {s : State}
  (hwaits : s.access.changes.find? (fun c => c.stage == .waiting && c.rides != 1) = some c) (hstable : s.fabric.epoch.state = .stable)
include hwaits hstable

/-- With the epoch STABLE a waiting change whose result still has the next tag is prepared and staged (R313). -/
theorem execSliceChangeStagingStart_fresh {r : SolveResult} (hresult : s.fabric.results.find? (fun r => r.id == c.solveId) = some r)
    (hfresh : s.resultFresh r = true) :
    execSliceChangeStagingStart s = s.finish ((s.prepareChanges r).startStaging r.id 0 .slice none) := by
  rw [execSliceChangeStagingStart, hwaits]
  refine (if_neg (not_not_intro hstable)).trans ?_
  rw [hresult]
  exact if_pos hfresh

/-- With the epoch STABLE a waiting change whose result is not there any more is solved again (R285). -/
theorem execSliceChangeStagingStart_noResult (hgone : s.fabric.results.find? (fun r => r.id == c.solveId) = none) :
    execSliceChangeStagingStart s = s.finish ((s.modChange c.id (fun d => { d with stage := .solving })).solveChange c) := by
  rw [execSliceChangeStagingStart, hwaits]
  refine (if_neg (not_not_intro hstable)).trans ?_
  rw [hgone]

end

/-! ### The end of a slice (R312, R316) -/

section
variable {job : Nat} {x : Slice} {s : State} (hslice : s.slice job = some x) (hdraining : x.state = .draining)
  (hclosed : s.streams.any (fun e => e.2.job == job) = false)

include hdraining hclosed in
/-- The guard of SLICE_DRAIN_END passes a DRAINING slice without a stream. -/
theorem passes_drainGuard : ¬ (x.state ≠ .draining ∨ s.streams.any (fun e => e.2.job == job) = true) := by
  rintro (hother | hopen)
  · exact hother hdraining
  · exact ne_true_of_eq_false hclosed hopen

include hslice hdraining hclosed

/-- Without a command that waits for its end, a drained slice is removed with its swap three ticks on (R312, R316). -/
theorem execSliceDrainEnd_noCommand
    (hnone : s.host.cmds.find? (fun c => c.pkt.opcode == 0x0403 && c.pkt.job == job && c.stage == 1) = none) :
    execSliceDrainEnd job s = s.finish (s.removeSlice job x (s.clock.now + 3)) := by
  rw [execSliceDrainEnd, hslice]
  refine (if_neg (passes_drainGuard hdraining hclosed)).trans ?_
  rw [hnone]

/-- A drained slice whose command waits is removed with its swap at the command's instant, or three ticks on where that is later; the command
ends at the swap, with a delay told where it named an earlier tick (R65, R316). -/
theorem execSliceDrainEnd_command {c : Cmd}
    (hcmd : s.host.cmds.find? (fun c => c.pkt.opcode == 0x0403 && c.pkt.job == job && c.stage == 1) = some c) :
    execSliceDrainEnd job s =
      let at_ := max (s.clock.now + 3) (c.data.headD 0)
      let late : Bool := c.pkt.effTick != 0 && decide (c.data.headD 0 < at_)
      s.finish ((s.removeSlice job x at_).modCmd c.id (fun d => { d with
        phase := .timed, due := at_, stage := 2, endStatus := if late then 0x13 else d.endStatus
        endDetail := if late then at_ - c.data.headD 0 else d.endDetail })) := by
  rw [execSliceDrainEnd, hslice]
  refine (if_neg (passes_drainGuard hdraining hclosed)).trans ?_
  rw [hcmd]

end

/-- Settles O43: the epoch and the result decide what a waiting change does, the instant whether one times out, and the command that waits,
or its absence, when a drained slice goes; the state without that slice is what `State.removeSlice` says. -/
theorem sliceEventsComplete : Obligations.SliceEventsComplete := by
  unfold Obligations.SliceEventsComplete
  refine ⟨?staged, ?solvedAgain, ?timeout, ?drained, ?drainedForCommand, ?removed⟩
  case staged => exact fun _ _ _ hwaits hstable hresult hfresh => execSliceChangeStagingStart_fresh hwaits hstable hresult hfresh
  case solvedAgain => exact fun _ _ hwaits hstable hgone => execSliceChangeStagingStart_noResult hwaits hstable hgone
  case timeout =>
    intro job c s hunstaged hlate
    change execSliceChangeTimeout job s = _
    rw [execSliceChangeTimeout, hunstaged]
    exact if_neg (Nat.not_lt.2 hlate)
  case drained => exact fun _ _ _ hslice hdraining hclosed hnone => execSliceDrainEnd_noCommand hslice hdraining hclosed hnone
  case drainedForCommand => exact fun _ _ _ _ hslice hdraining hclosed hcmd => execSliceDrainEnd_command hslice hdraining hclosed hcmd
  case removed => exact fun _ _ _ _ => rfl

end Sys2Proof.Proofs
end

section
/-! PROOFS of the family 10_twill_collectives: the rows of flits and of verdicts at a Twill root. -/

namespace Sys2Proof.Proofs

open Sys2Proof Sys2Proof.Machine

/-- A step of the group that is not decided yet is open as it stands, and its flits change nothing by opening it (R349, R375). -/
theorem openStep_undecided {g : Group} {step : Nat} {x : GroupStep} (hstep : g.stepOf step = some x) (hopen : x.verdict = 0) (s : State) :
    s.openStep g step = some s := by
  rw [State.openStep, hstep]
  exact if_pos hopen

/-- The guard of a root on its flits passes a span of the right kind at a port of the tree. -/
theorem passes_rootPortGuard {wrongSpan : Prop} {t : GroupTree} {port : Nat} (hspan : ¬ wrongSpan) (hport : t.ports.contains port = true) :
    ¬ (wrongSpan ∨ (!t.ports.contains port) = true) := by
  rw [hport]
  exact not_or.2 ⟨hspan, Bool.false_ne_true⟩

/-! ### Flits at a root port (R352, R359, R361) -/

section
variable {port : Nat} {f : Flit} {g : Group} {k : Nat} {t : GroupTree} {x : GroupStep} {s : State}
  (htree : s.groupOfFlit f = some (g, k, t)) (hport : t.ports.contains port = true)
  (hstep : g.stepOf (le f.payload 0 4) = some x) (hopen : x.verdict = 0)
include htree hport hstep hopen

/-- Records of an open step are added one by one, the cover of their port advances, and what is finished leaves (R359, R363, R364). -/
theorem execTwillUpRecordReceive_records (hspan : le f.payload 7 1 ≠ 0) :
    execTwillUpRecordReceive port f s =
      let step := le f.payload 0 4
      let u0 := le f.payload 4 3
      let s1 := (recordsOf (upData g.op g.type g.w) f.payload).foldl (fun u r => u.rootRecord g k t step u0 f.src r) s
      s.finish ((s1.modStep g.id step (fun x => x.modTree k (fun y => y.coverTo port (u0 + le f.payload 7 1)))).pumpRoot g k t step) := by
  rw [execTwillUpRecordReceive, htree]
  refine (if_neg (passes_rootPortGuard hspan hport)).trans ?_
  rw [openStep_undecided hstep hopen]

/-- Tallies of an open step are counted one by one, what is finished leaves, and the tree is reported when it is whole (R361, R372). -/
theorem execTwillTallyReceive_tallies (hspan : le f.payload 7 1 = 0) :
    execTwillTallyReceive port f s =
      let step := le f.payload 0 4
      let s1 := (talliesOf f.payload).foldl (fun u y => u.rootTally g k port step y) s
      s.finish ((s1.pumpRoot g k t step).reportTree g step) := by
  rw [execTwillTallyReceive, htree]
  refine (if_neg (passes_rootPortGuard (not_not_intro hspan) hport)).trans ?_
  rw [openStep_undecided hstep hopen]

end

/-! ### Verdicts of the lead root (R372, R374) -/

section
variable {group step : Nat} {g : Group} {x : GroupStep} {s : State}
  (hgroup : s.group group = some g) (hlead : g.t0.root = s.ownAddr)
include hgroup hlead

/-- The lead root notes that the twin's tree is complete and clear (R372). -/
theorem execTwinTreeReportReceive_lead :
    execTwinTreeReportReceive group step s = s.finish (s.modStep group step (fun x => { x with twinDone := true })) := by
  rw [execTwinTreeReportReceive, hgroup]
  exact if_pos hlead

variable (hstep : g.stepOf step = some x)
include hstep

/-- The lead root commits a step that meets every condition of R372. -/
theorem execTwillCommitDecide_lead (hmay : g.mayCommit s.ownAddr x = true) (ns : Nat) :
    execTwillCommitDecide group step ns s = s.finish (s.decideStep group step 1 0 ns) := by
  simp only [execTwillCommitDecide, hgroup, hstep]
  exact if_pos ⟨hlead, hmay⟩

/-- The lead root makes a step that is undecided at its deadline VOID with cause 1 (R374, R375). -/
theorem execTwillStepDeadline_lead (hopen : x.verdict = 0) (hlate : x.openAt + g.deadline ≤ s.clock.now) :
    execTwillStepDeadline group step s = s.finish (s.voidStep group step 1) := by
  simp only [execTwillStepDeadline, hgroup, hstep]
  exact if_pos ⟨hlead, hopen, hlate⟩

end

/-- Settles O48: a flit of no tree is counted and dropped; one of an open step, and a verdict of the lead root, is what the lemmas above say
of it. -/
theorem twillRootCompletes : Obligations.TwillRootCompletes := by
  unfold Obligations.TwillRootCompletes
  refine ⟨?recordsNoTree, ?records, ?talliesNoTree, ?tallies, ?commit, ?deadline, ?report⟩
  case recordsNoTree =>
    intro port f s hnone
    change execTwillUpRecordReceive port f s = _
    rw [execTwillUpRecordReceive, hnone, finish_eq_next_done]
  case records =>
    exact fun _ _ _ _ _ _ _ htree hspan hport hstep hopen => execTwillUpRecordReceive_records htree hport hstep hopen hspan
  case talliesNoTree =>
    intro port f s hnone
    change execTwillTallyReceive port f s = _
    rw [execTwillTallyReceive, hnone, finish_eq_next_done]
  case tallies =>
    exact fun _ _ _ _ _ _ _ htree hspan hport hstep hopen => execTwillTallyReceive_tallies htree hport hstep hopen hspan
  case commit => exact fun _ _ ns _ _ _ hgroup hstep hlead hmay => execTwillCommitDecide_lead hgroup hlead hstep hmay ns
  case deadline =>
    exact fun _ _ _ _ _ hgroup hstep hlead hopen hlate => execTwillStepDeadline_lead hgroup hlead hstep hopen hlate
  case report => exact fun _ _ _ _ hgroup hlead => execTwinTreeReportReceive_lead hgroup hlead

end Sys2Proof.Proofs
end

section
/-! PROOFS of the family 11_jacquard_exchange: the rows of counts and of planning of an exchange. -/

namespace Sys2Proof.Proofs

open Sys2Proof Sys2Proof.Machine

/-! ### Counts (R391, R395, R399) -/

/-- A count flit of the running exchange that fits the count store and is in order is taken, and the receive lists that it completes are
written (R391, R394, R395). -/
theorem execCountFlitReceive_inOrder {f : Flit} {p : Plan} {s : State}
    (hfind : s.jacquard.plans.find? (fun p => p.countStream == f.stream && !p.opening) = some p) (hplan : s.plan p.id = some p)
    (hcounting : p.cur.state = 1) (hkind : (xchgHeader f).kind = 2) (hrank : (xchgHeader f).rank < p.n)
    (hnum : (xchgHeader f).num = p.cur.num % 256) (hfits : s.countStore + 8 * (xchgRecords f (s.delta p.job)).length ≤ 2 ^ 30)
    (hgood : countsGood p.n (((p.cur.counts.filter (fun c => c.1 == (xchgHeader f).rank)).getLast?).map (fun c => c.2.1))
      (xchgRecords f (s.delta p.job)) = true) :
    execCountFlitReceive f s = s.finish ((s.modPlan p.id (fun x => { x with
      cur := p.takeCounts p.cur s.clock.now (xchgHeader f).rank (xchgHeader f).last (xchgRecords f (s.delta p.job)) })).writeLists p.id) := by
  have hrunning : ¬ (p.cur.state = 0 ∨ 4 ≤ p.cur.state) := by omega
  rw [execCountFlitReceive, hfind]
  refine (if_neg (by simp [hrunning, hkind, hrank, hnum])).trans ?_
  simp only [hrunning, hnum, hplan, beq_self_eq_true, decide_false, Bool.not_false, Bool.true_and, Bool.true_or, false_and, and_false,
    if_false, if_true]
  refine (if_neg (fun hover => Nat.not_lt.2 hfits hover.2)).trans (if_neg ?_)
  rw [hgood]
  exact fun hbad => Bool.false_ne_true hbad.2

/-- With every count and every bolt's list there, and items and pairs within their bounds, the rounds start (R395, R399, R406). -/
theorem execCountsComplete_held {plan : Nat} {p : Plan} {s : State} (hplan : s.plan plan = some p) (hcounting : p.cur.state = 1)
    (hopen : p.cur.cAt = none)
    (hheld : ((p.ranksOf s.up.bolt).all (fun r => p.cur.lastFrom.contains r)
      && p.bolts.all (fun b => p.cur.ready.any (fun r => r.1 == b))) = true)
    (hitems : p.cur.ready.foldl (fun a r => a + r.2) 0 ≤ 4194304)
    (hpairs : ((s.localPairs p p.cur).filter (fun q => p.bolt q.dst != s.up.bolt)).length ≤ 1048576) :
    execCountsComplete plan s = s.finish (s.startRounds p (s.localPairs p p.cur)) := by
  rw [execCountsComplete, hplan]
  refine (if_neg (by simp only [hcounting, hopen, hheld]; decide)).trans ?_
  exact (if_neg (fun hover => Nat.not_lt.2 hitems hover.2)).trans (if_neg (Nat.not_lt.2 hpairs))

/-- Rounds that no presumed plan serves begin 4 ticks on, with the capacities of now (R395, R399). -/
theorem startRounds_unpresumed {p : Plan} (hequal : p.isEqual = false) (hpresumed : p.presumed = none) (s : State) (pairs : List PairLeft) :
    s.startRounds p pairs = (s.beginRounds p.id (fun x => { x with
      state := 2, cAt := some s.clock.now, round0 := s.clock.now + 4, lastRound := s.clock.now + 4
      pairs := pairs, caps := s.capsNow p })).writeHeaders p.id := by
  simp [State.startRounds, hequal, hpresumed]

/-- Settles O32: what is held of the counts, and when, decides what becomes of them; rounds without a presumed plan begin as
`startRounds_unpresumed` says, and the tie-break and the last round decide a pass and CHECK. -/
theorem exchangePlanningCompletes : Obligations.ExchangePlanningCompletes := by
  unfold Obligations.ExchangePlanningCompletes
  refine ⟨?countsOfNoPlan, ?counts, ?complete, ?deadline, ?pass, ?check⟩
  case countsOfNoPlan =>
    intro f s hnone
    change execCountFlitReceive f s = _
    rw [execCountFlitReceive, hnone, finish_eq_next_done]
  case counts =>
    exact fun _ _ _ hfind hplan hcounting hkind hrank hnum hfits hgood =>
      execCountFlitReceive_inOrder hfind hplan hcounting hkind hrank hnum hfits hgood
  case complete =>
    intro plan p s hplan hcounting hopen hheld hitems hpairs hequal hpresumed
    refine (execCountsComplete_held hplan hcounting hopen hheld hitems hpairs).trans ?_
    rw [startRounds_unpresumed hequal hpresumed, State.beginRounds, finish_eq_next_done]
  case deadline =>
    intro plan t p s hplan hfirst hcounting hopen hlate
    change execCountDeadline plan s = _
    simp only [execCountDeadline, hplan, hfirst]
    exact if_pos ⟨hcounting, Option.isNone_iff_eq_none.2 hopen, hlate⟩
  case pass =>
    intro plan p s hplan hnext hpresumed hunits
    change execPlanningPass plan s = _
    rw [execPlanningPass, hplan]
    refine (if_neg (not_or.2 ⟨not_not_intro hnext, hunits⟩)).trans ?_
    simp only [hpresumed, true_and]
    rfl
  case check =>
    intro plan p s hplan hstate hpresumed hleft hlate
    change execExchangeCheckStart plan s = _
    rw [execExchangeCheckStart, hplan]
    exact if_neg (by simp [hstate, hpresumed, hleft, hlate])

end Sys2Proof.Proofs
end

section
/-! PROOFS of the family 11_jacquard_exchange: the rows of landing, of reports and of the messages of an exchange. -/

namespace Sys2Proof.Proofs

open Sys2Proof Sys2Proof.Machine

/-- A report of the running exchange from a member of this bolt: an empty last one is complete, and one with sources plans them again where
the member was asked (R392, R407, R408). -/
theorem execReportFlitReceive_running {f : Flit} {p : Plan} {s : State}
    (hfind : s.jacquard.plans.find? (fun p => p.countStream == f.stream) = some p) (hkind : (xchgHeader f).kind = 4)
    (hnum : (xchgHeader f).num = p.cur.num % 256) (hrank : (p.ranksOf s.up.bolt).contains (xchgHeader f).rank = true)
    (hstate : p.cur.state = 2 ∨ p.cur.state = 3) :
    execReportFlitReceive f s =
      let rank := (xchgHeader f).rank
      let rs := xchgRecords f (s.delta p.job)
      if rs = [] ∧ (xchgHeader f).last = true then
        s.finish ((s.modExch p.id (fun e => { e with
          complete := if e.complete.contains rank then e.complete else e.complete ++ [rank]
          asked := e.asked.filter (· != rank) })).localComplete p.id)
      else if p.cur.asked.contains rank then s.finish (s.shortPairs p.id rank (rs.map Prod.fst))
      else s.finish s := by
  rw [execReportFlitReceive, hfind]
  refine (if_neg ?_).trans (if_neg (by omega))
  rw [hrank]
  exact not_or.2 ⟨not_not_intro hkind, not_or.2 ⟨not_not_intro hnum, Bool.false_ne_true⟩⟩

/-- XCHG_READY about the exchange that a plan runs: its status tells whether the lists of the sender's bolt are written, its data landed or
it failed (R393, R395, R409, R410). -/
theorem execXchgReadyReceive_running {m : Msg} {p : Plan} {s : State} (hmay : s.senderMay m.src 6 = true)
    (hplan : s.plan (le m.body 0 2) = some p) (hnum : p.cur.num = le m.body 2 4) (hbegun : p.cur.state ≠ 0) (hgoing : p.cur.state < 4) :
    execXchgReadyReceive m s = s.finish (
      let plan := le m.body 0 2
      let bolt := le m.body 6 1
      if le m.body 7 1 = 0 then
        s.modExch plan (fun e => { e with ready := e.ready.filter (fun r => r.1 != bolt) ++ [(bolt, le m.body 10 4)] })
      else if le m.body 7 1 = 1 then
        (s.modExch plan (fun e => { e with landed := if e.landed.contains bolt then e.landed else e.landed ++ [bolt] })).doneExchange plan
      else if 1 ≤ le m.body 8 1 ∧ le m.body 8 1 ≤ 9 then s.failExchange plan (le m.body 8 1) false
      else s) := by
  have hrunning : ¬ (p.cur.state = 0 ∨ 4 ≤ p.cur.state) := by omega
  rw [execXchgReadyReceive, fromGeneel_permitted hmay]
  simp only [hplan, hrunning, hnum, false_and, if_false, if_true, Option.map_some, Option.getD_some, beq_self_eq_true, Bool.not_true,
    Bool.false_eq_true]

/-- Settles O33: a report and XCHG_READY are what the lemmas above say of the running exchange, the instant decides a silent member, the
sender's right XCHG_REPAIR, and the header of a flit what the agent does with it. -/
theorem exchangeLandingCompletes : Obligations.ExchangeLandingCompletes := by
  unfold Obligations.ExchangeLandingCompletes
  refine ⟨?silent, ?complete, ?short, ?lists, ?landed, ?failed, ?repair, ?area, ?data, ?misdelivered⟩
  case silent =>
    intro plan rank p s hplan hasked hlate
    change execMemberReportTimeout plan rank s = _
    rw [execMemberReportTimeout, hplan]
    refine if_neg ?_
    rw [hasked]
    exact not_or.2 ⟨Bool.false_ne_true, Nat.not_lt.2 hlate⟩
  case complete =>
    exact fun _ _ _ hfind hkind hnum hrank hstate hnone hlast =>
      (execReportFlitReceive_running hfind hkind hnum hrank hstate).trans (if_pos ⟨hnone, hlast⟩)
  case short =>
    exact fun _ _ _ hfind hkind hnum hrank hstate hsome hasked =>
      (execReportFlitReceive_running hfind hkind hnum hrank hstate).trans ((if_neg (fun h => hsome h.1)).trans (if_pos hasked))
  case lists =>
    exact fun _ _ s hmay hplan hnum hbegun hgoing hstatus =>
      (execXchgReadyReceive_running hmay hplan hnum hbegun hgoing).trans (congrArg s.finish (if_pos hstatus))
  case landed =>
    exact fun _ _ s hmay hplan hnum hbegun hgoing hstatus =>
      (execXchgReadyReceive_running hmay hplan hnum hbegun hgoing).trans
        (congrArg s.finish ((if_neg (by omega)).trans (if_pos hstatus)))
  case failed =>
    exact fun _ _ s hmay hplan hnum hbegun hgoing hstatus hlow hhigh =>
      (execXchgReadyReceive_running hmay hplan hnum hbegun hgoing).trans
        (congrArg s.finish ((if_neg (by omega)).trans ((if_neg (by omega)).trans (if_pos ⟨hlow, hhigh⟩))))
  case repair =>
    intro m p s hmay hplan hnum
    refine finish_fromGeneel_permitted hmay ?_
    rw [hplan]
    exact if_pos hnum
  case area =>
    intro f item countStream rank s hkind hpos hforwards
    refine (if_neg (not_or.2 ⟨not_not_intro hkind, passes_forwardGuard hforwards⟩)).trans ?_
    simp only [hpos, false_and, decide_false, Bool.false_eq_true, if_false]
    rfl
  case data =>
    intro port f item countStream rank s hkind hlist hnum hroom hforwards
    exact (if_neg (passes_forwardGuard hforwards)).trans (if_pos ⟨hkind, hlist, hnum, hroom⟩)
  case misdelivered =>
    intro port f item countStream rank s hkind hforwards
    exact (if_neg (passes_forwardGuard hforwards)).trans (if_neg (fun h => hkind h.1))

end Sys2Proof.Proofs
end

section
/-! PROOFS of the families 00_scope, 17_faults_and_events and 18_bring_up: idling, the state after reset, and the alarm outputs. -/

namespace Sys2Proof.Proofs

open Sys2Proof Sys2Proof.Machine

/-- Settles O2: nothing is at the front of the queue. -/
theorem emptyQueueIdles : Obligations.EmptyQueueIdles := by
  unfold Obligations.EmptyQueueIdles
  exact fun _ => step_nil

/-- After reset no alarm is raised: the device is neither in HALT nor on a bad clock nor tripped (R623, R694). -/
theorem pinsFollow_reset : PinsFollow State.reset :=
  ⟨iff_of_false (by decide) (by decide), iff_of_false (by decide) (by decide)⟩

/-- Settles O3: the alarm outputs follow (`pinsFollow_reset`), the rest are fields of the state after reset. -/
theorem resetIsSafe : Obligations.ResetIsSafe := by
  unfold Obligations.ResetIsSafe
  exact ⟨pinsFollow_reset, rfl, rfl, rfl, rfl⟩

/-- Settles O4: with an empty queue the step keeps the state; with a command the outputs are set anew from the device
(`everyCommandIsExecuted`). -/
theorem alarmOutputsFollow : Obligations.AlarmOutputsFollow := by
  unfold Obligations.AlarmOutputsFollow
  intro s t hpins hstep
  cases hqueue : s.pending with
  | nil =>
    obtain rfl : s = t := by simpa only [step_nil hqueue, Host.Outcome.next.injEq] using hstep
    exact hpins
  | cons c rest =>
    obtain ⟨u, hexec, -, hfollow⟩ := everyCommandIsExecuted c { s with pending := rest }
    obtain rfl : u = t := by simpa only [step_cons hqueue, hexec, Host.Outcome.next.injEq] using hstep
    exact hfollow

end Sys2Proof.Proofs
end

section
/-! PROOFS of the family 12_calico_tables: the rows of table requests and of the shard protocol. -/

namespace Sys2Proof.Proofs

open Sys2Proof Sys2Proof.Machine

/-! ### Requests at a shard (R434 to R436) -/

section
variable {f : Flit} {t : CalTable} {s : State}
  (htable : (s.table (calHeader f.payload).table).filter (fun t => t.state != 3) = some t)
  (hjob : f.job = t.job) (hmember : s.tableMember t.job f.src = true)
  (hplaces : (if 1 ≤ (calHeader f.payload).op ∧ (calHeader f.payload).op ≤ 3 then
    (calRecords (calHeader f.payload) f.payload).filter (fun r => r.length == (calHeader f.payload).size) else []).any
      (fun r => t.shards.getD (t.place (le r 0 8)).shard 0xFF != s.ownId) = false)
  (hgood : (calHeader f.payload).good t f.enc f.payload = true) (hserving : t.state = 0)

include hjob hmember in
/-- The first check passes a member of the table's job (R436 reason 1). -/
theorem passes_tableMemberGuard : ¬ (f.job ≠ t.job ∨ (!s.tableMember t.job f.src) = true) := by
  rw [hmember]
  exact not_or.2 ⟨not_not_intro hjob, Bool.false_ne_true⟩

include htable hjob hmember hplaces hgood hserving

/-- A request that passes the first four checks and lies beyond the sender's window is refused (R435, R436 reason 5). -/
theorem execTableRequestReceive_beyond (hjudge : (t.window f.src).judge (calHeader f.payload).req = 2) :
    execTableRequestReceive f s = s.finish (s.refuseRequest f (calHeader f.payload) 5) := by
  simp only [execTableRequestReceive, htable]
  rw [if_neg (passes_tableMemberGuard hjob hmember), if_neg (ne_true_of_eq_false hplaces), hgood, if_neg (by decide),
    if_neg (not_not_intro hserving)]
  simp only [hjudge]

/-- A new update of a table whose job is not isolated is marked and runs at once (R434, R435). -/
theorem execTableRequestReceive_update (hjudge : (t.window f.src).judge (calHeader f.payload).req = 0)
    (hfree : (s.isolated t.job).isSome = false) (hupdate : (calHeader f.payload).op = 3) :
    execTableRequestReceive f s = s.finish ((s.modTable t.id (fun t => t.mark f.src (calHeader f.payload).req)).runRequest f
      s.clock.now s.clock.now false) := by
  have hruns : ¬ (((s.modTable t.id (fun t => t.mark f.src (calHeader f.payload).req)).isolated t.job).isSome = true
      ∨ t.strict = true ∧ (calHeader f.payload).op ≠ 3) :=
    not_or.2 ⟨ne_true_of_eq_false hfree, fun h => h.2 hupdate⟩
  simp only [execTableRequestReceive, htable]
  rw [if_neg (passes_tableMemberGuard hjob hmember), if_neg (ne_true_of_eq_false hplaces), hgood, if_neg (by decide),
    if_neg (not_not_intro hserving), hjudge]
  exact (if_neg (fun h => absurd h.1 (by decide))).trans (if_neg hruns)

end

/-! ### Operations of several shards (R423, R425, R426) -/

/-- An operation that is neither a creation nor a destruction and had every number it needs ends with ST_TIMEOUT after 8 ticks, naming the
first Geneel that is silent (R425). -/
theorem execTableShardTimeout_late {cmd : Nat} {o : ShardOp} {s : State} (hop : s.calico.ops.find? (fun o => o.cmd == cmd) = some o)
    (hnumbered : o.needId = false) (hcreate : o.op ≠ 0) (hdestroy : o.op ≠ 2) (hlate : o.since + 8 ≤ s.clock.now) :
    execTableShardTimeout cmd s = s.finish (({ s with calico := { s.calico with
      ops := s.calico.ops.filter (fun x => x.cmd != cmd) } } : State).endCmd cmd 0x50 (o.waiting.headD 0)) := by
  simp only [execTableShardTimeout, hop, hnumbered, Bool.false_and]
  rw [if_neg (fun h => Nat.not_lt.2 hlate h.2), if_neg (by omega)]
  rfl

/-- Settles O34: the checks of a request are the lemmas above, a message goes by its operation (`finish_fromGeneel_permitted`), and what
waits by its guards. -/
theorem tablesComplete : Obligations.TablesComplete := by
  unfold Obligations.TablesComplete
  refine ⟨?noTable, ?beyond, ?update, ?lookups, ?lines, ?number, ?create, ?config, ?answer, ?timeout⟩
  case noTable =>
    intro f s hnone
    change execTableRequestReceive f s = _
    simp only [execTableRequestReceive, hnone, finish_eq_next_done]
  case beyond =>
    exact fun _ _ _ htable hjob hmember hplaces hgood hserving hjudge =>
      execTableRequestReceive_beyond htable hjob hmember hplaces hgood hserving hjudge
  case update =>
    exact fun _ _ _ htable hjob hmember hplaces hgood hserving hjudge hfree hupdate =>
      execTableRequestReceive_update htable hjob hmember hplaces hgood hserving hjudge hfree hupdate
  case lookups => exact fun _ => rfl
  case lines =>
    rintro slot t s rfl hfree
    exact if_neg (ne_true_of_eq_false hfree)
  case number =>
    intro m i t s hmay hop hnew hnumbers hassign
    refine finish_fromGeneel_permitted hmay ?_
    simp only [hop, hnew, hnumbers, hassign, if_true, Bool.not_true, Bool.false_eq_true, if_false]
  case create =>
    intro m s hmay hop hold
    refine finish_fromGeneel_permitted hmay ?_
    simp only [hop, hold, if_false]
  case config =>
    intro m t s hmay hop htable
    refine finish_fromGeneel_permitted hmay ?_
    simp only [hop, htable]
  case answer =>
    intro m o s hmay hfind hnumbered
    refine finish_fromGeneel_permitted hmay ?_
    simp only [hfind, hnumbered, Bool.false_eq_true, if_false]
  case timeout =>
    exact fun _ _ _ hop hnumbered hcreate hdestroy hlate => execTableShardTimeout_late hop hnumbered hcreate hdestroy hlate

end Sys2Proof.Proofs
end

section
/-! PROOFS of the family 13_restart_store: the rows that store a generation, and those that read back, spill and report one. -/

namespace Sys2Proof.Proofs

open Sys2Proof Sys2Proof.Machine

/-! ### Lines and ends of a shard (R461, R465) -/

/-- A line flit for no generation that is here is discarded at S1 under its job (R461). -/
theorem execCheckpointDataReceive_noGeneration {f : Flit} {s : State} (hkind : (rsHeader f.payload).kind = 1)
    (hnone : s.genSlot f.job (rsHeader f.payload).gen = none) :
    execCheckpointDataReceive .geneel f s = s.finish (s.fault { source := 0xF909, code := 0x28, job := f.job }) := by
  refine (if_neg (not_not_intro hkind)).trans ?_
  rw [hnone]

section
variable {f : Flit} {x : StoreSlot} {y : StoreShard} {s : State}
  (hslot : s.genSlot f.job (rsHeader f.payload).gen = some x)
  (hshard : s.shard f.job (rsHeader f.payload).gen (rsHeader f.payload).owner = some y)
include hslot hshard

/-- Lines of an OPEN generation on its stream and inside the reservation of their shard land (R461, R462). -/
theorem execCheckpointDataReceive_lands (hkind : (rsHeader f.payload).kind = 1) (hopen : x.state = 2)
    (hstream : f.stream = (s.storeStreams f.job).ckpt)
    (hinside : (rsHeader f.payload).off + min 3 (rsHeader f.payload).flags ≤ y.reserved) :
    execCheckpointDataReceive .geneel f s = s.finish
      ((s.touchRestart f.job y (rsLines (rsHeader f.payload) f.payload)).modShard f.job (rsHeader f.payload).gen
        (rsHeader f.payload).owner (fun z => { z with lines := putLines z.lines (rsLines (rsHeader f.payload) f.payload) })) := by
  refine (if_neg (not_not_intro hkind)).trans ?_
  rw [hslot, hshard]
  exact if_pos ⟨hopen, hstream, hinside⟩

/-- The first END of a shard of an OPEN generation that fits its reservation is kept (R465). -/
theorem execCheckpointEndReceive_keeps (hkind : (rsHeader f.payload).kind = 2) (hunaccepted : y.accepted = false) (hopen : x.state = 2)
    (hinside : le f.payload 16 4 ≤ y.reserved) :
    execCheckpointEndReceive .geneel f s = s.finish (s.modShard f.job (rsHeader f.payload).gen (rsHeader f.payload).owner (fun z => { z with
      fin := some (le f.payload 16 4, field f.payload 24 32), endAt := s.clock.now, gapAt := s.clock.now, sender := f.src })) := by
  refine (if_neg (not_not_intro hkind)).trans ?_
  rw [hslot, hshard]
  exact (if_neg (ne_true_of_eq_false hunaccepted)).trans (if_pos ⟨hopen, hinside⟩)

end

/-! ### The judgement of a shard (R465, R469) -/

section
variable {job gen owner total : Nat} {dig : Bytes} {x : StoreSlot} {y : StoreShard} {s : State}
  (hslot : s.genSlot job gen = some x) (hshard : s.shard job gen owner = some y) (hfin : y.fin = some (total, dig))
  (hopen : x.state = 2) (hunaccepted : y.accepted = false)
include hslot hshard hfin hopen hunaccepted

/-- With every line there and no parity to send, the digest decides: ACCEPTED, or MISMATCH, whose second fails the generation (R465, R469). -/
theorem execShardDigestComplete_covered (hcovered : coveredTo y.lines total = true) (hmode : s.store.mode = 0) :
    execShardDigestComplete job gen owner s = s.finish (
      if shardDigest job gen owner total y.lines = dig then
        ((s.modShard job gen owner (fun z => { z with accepted := true, parity := [] })).sendGap y.sender job gen owner 1 []).tellChecked job gen
      else if 1 ≤ y.mismatches then
        ((s.modShard job gen owner (fun z => { z with mismatches := z.mismatches + 1, fin := none })).sendGap y.sender job gen owner 2
          [(0, total)]).failGen job gen 2
      else (s.modShard job gen owner (fun z => { z with mismatches := z.mismatches + 1, fin := none })).sendGap y.sender job gen owner 2
        [(0, total)]) := by
  have hjudged : ¬ (x.state ≠ 2 ∨ y.accepted = true ∨ (!coveredTo y.lines total) = true) := by
    rw [hcovered]
    exact not_or.2 ⟨not_not_intro hopen, not_or.2 ⟨ne_true_of_eq_false hunaccepted, Bool.false_ne_true⟩⟩
  have hwhole : ¬ s.store.mode = 1 := by omega
  simp only [execShardDigestComplete, hslot, hshard, hfin]
  rw [if_neg hjudged]
  simp only [hwhole, if_false]
  split <;> rfl

/-- Lines still missing 8 ticks after they were listed last are listed again (R465). -/
theorem execGapResendTimer_missing (hmissing : coveredTo y.lines total = false) (hlate : y.gapAt + 8 ≤ s.clock.now) :
    execGapResendTimer job gen owner s = s.finish (((s.modShard job gen owner (fun z => { z with gapAt := s.clock.now })).sendGap y.sender
      job gen owner 0 (missingRanges y.lines total)).agentGap job gen owner) := by
  simp only [execGapResendTimer, hslot, hshard, hfin]
  exact if_pos ⟨hopen, by rw [hunaccepted]; rfl, by rw [hmissing]; rfl, hlate⟩

end

/-- Settles O35: lines, ends and judgements of a shard are the lemmas above; parity, the requester and the deadline go by their guards. -/
theorem checkpointFlowCompletes : Obligations.CheckpointFlowCompletes := by
  unfold Obligations.CheckpointFlowCompletes
  refine ⟨?lines, ?noGeneration, ?fin, ?digest, ?missing, ?parity, ?acknowledged, ?commit, ?deadline, ?cleared⟩
  case lines =>
    exact fun _ _ _ _ hkind hslot hshard hopen hstream hinside =>
      execCheckpointDataReceive_lands hslot hshard hkind hopen hstream hinside
  case noGeneration => exact fun _ _ hkind hnone => execCheckpointDataReceive_noGeneration hkind hnone
  case fin =>
    exact fun _ _ _ _ hkind hslot hshard hunaccepted hopen hinside =>
      execCheckpointEndReceive_keeps hslot hshard hkind hunaccepted hopen hinside
  case digest =>
    exact fun _ _ _ _ _ _ _ _ hslot hshard hfin hopen hunaccepted hcovered hmode =>
      execShardDigestComplete_covered hslot hshard hfin hopen hunaccepted hcovered hmode
  case missing =>
    exact fun _ _ _ _ _ _ _ _ hslot hshard hfin hopen hunaccepted hmissing hlate =>
      execGapResendTimer_missing hslot hshard hfin hopen hunaccepted hmissing hlate
  case parity =>
    intro f got s hkind hmode hours hgot
    refine (if_neg (not_or.2 ⟨not_not_intro hkind, not_or.2 ⟨not_not_intro hmode, not_not_intro hours⟩⟩)).trans ?_
    simp only [← hgot, beq_iff_eq, finish_eq_next_done]
    split <;> rfl
  case acknowledged => exact fun _ _ hkind => if_neg (not_not_intro hkind)
  case commit =>
    intro job gen k s htrack hcomplete hgoing
    change execGenerationCommit job gen s = _
    simp only [execGenerationCommit, htrack, hcomplete, hgoing]
    rfl
  case deadline =>
    intro job gen x s hslot hopen hlate
    change execGenerationDeadline job gen s = _
    rw [execGenerationDeadline, hslot]
    exact if_pos ⟨hopen, hlate⟩
  case cleared =>
    intro job gen x s hslot hclearing hnone
    change execClearingComplete job gen s = _
    rw [execClearingComplete, hslot]
    exact if_pos ⟨hclearing, hnone⟩

/-! ### GAP and PULL (R465, R476, R478) -/

section
variable {f : Flit} {x : StoreSlot} {y : StoreShard} {s : State}
  (hslot : s.genSlot f.job (rsHeader f.payload).gen = some x)
  (hshard : s.shard f.job (rsHeader f.payload).gen (rsHeader f.payload).owner = some y)
include hslot hshard

/-- The ranges that a holder lists to whom nothing is read back are sent to it again, unless the generation is being cleared (R465). -/
theorem execGapReceive_resends (hkind : (rsHeader f.payload).kind = 6)
    (hnone : s.store.serving.find? (fun v => v.job == f.job && v.gen == (rsHeader f.payload).gen && v.len == (rsHeader f.payload).owner
      && v.len == f.src && v.sent) = none)
    (hmissing : bit (rsHeader f.payload).flags 0 = false) (hthere : 2 ≤ x.state) :
    execGapReceive f s = s.finish (s.sendLines f.src f.job (rsHeader f.payload).gen y 1
      (rsRecords ((rsHeader f.payload).flags / 16) f.payload)) := by
  simp only [execGapReceive, hslot, hshard]
  rw [if_neg (not_not_intro hkind), hnone]
  exact (if_neg (ne_true_of_eq_false hmissing)).trans (if_pos hthere)

/-- A served member that misses nothing has been served (R478). -/
theorem execGapReceive_served {v : Serving} (hkind : (rsHeader f.payload).kind = 6)
    (hserving : s.store.serving.find? (fun v => v.job == f.job && v.gen == (rsHeader f.payload).gen
      && v.len == (rsHeader f.payload).owner && v.len == f.src && v.sent) = some v)
    (hsatisfied : bit (rsHeader f.payload).flags 0 = true) :
    execGapReceive f s = s.finish (s.served v) := by
  simp only [execGapReceive, hslot, hshard]
  rw [if_neg (not_not_intro hkind), hserving]
  exact if_pos hsatisfied

/-- The owner of a COMMITTED shard gets its streams and the lines it asks for, and is served until it answers (R476, R478). -/
theorem execPullReceive_owner (hkind : (rsHeader f.payload).kind = 5) (hcommitted : x.state = 3)
    (howner : f.src = (rsHeader f.payload).owner) :
    execPullReceive .geneel f s = s.finish (((s.grantStreams f.job (rsHeader f.payload).gen [f.src]).sendLines f.src f.job
      (rsHeader f.payload).gen y 3 (pullRanges (rsRecords (rsHeader f.payload).flags f.payload) ((y.fin.map Prod.fst).getD 0))).modStore
        (fun t => { t with serving := t.serving ++ [{
          job := f.job, gen := (rsHeader f.payload).gen, len := f.src, kind := 2, sent := true, requester := s.ownAddr }] })) := by
  refine (if_neg (not_not_intro hkind)).trans ?_
  rw [hslot, hshard]
  refine (if_neg (not_or.2 ⟨not_not_intro hcommitted, ?_⟩)).trans ?_
  · rw [beq_iff_eq.2 howner]
    exact Bool.false_ne_true
  · dsimp only
    rw [if_pos howner, if_pos howner]

end

/-! ### What a restoring member misses (R478, R483) -/

/-- Where no generation is here, the agent lists the lines of its shard that are missing, 8 ticks after the last list (R478, R483). -/
theorem execGapResendTimer_agent {job gen owner total : Nat} {dig : Bytes} {s : State} (hnone : s.genSlot job gen = none)
    (hrend : (s.agentShard job gen owner).rend = some (total, dig)) (hforwards : s.agentForwards = true)
    (hopen : (s.agentShard job gen owner).done = false) (hmissing : coveredTo (s.agentShard job gen owner).lines total = false)
    (hlate : (s.agentShard job gen owner).gapAt + 8 ≤ s.agent.core.tick) :
    execGapResendTimer job gen owner s = s.finish ((s.putAgentShard { s.agentShard job gen owner with gapAt := s.agent.core.tick }).agentRs
      (s.agentShard job gen owner).sender job (s.agentShard job gen owner).stream 6
      (16 * (missingRanges (s.agentShard job gen owner).lines total).length) owner gen 0
      (recordBytesOf (missingRanges (s.agentShard job gen owner).lines total))) := by
  simp only [execGapResendTimer, hnone, State.agentGap, hrend]
  exact congrArg s.finish (if_pos ⟨hforwards, by rw [hopen]; rfl, by rw [hmissing]; rfl, hlate⟩)

/-- Settles O36: GAP, PULL and the missing ranges are the lemmas above; what an agent reads back goes by its kind, the rest by its guards. -/
theorem restoreFlowCompletes : Obligations.RestoreFlowCompletes := by
  unfold Obligations.RestoreFlowCompletes
  refine ⟨?resent, ?served, ?pulled, ?lines, ?rend, ?missing, ?spill, ?control, ?report, ?restored⟩
  case resent =>
    exact fun _ _ _ _ hslot hshard hkind hnone hmissing hthere => execGapReceive_resends hslot hshard hkind hnone hmissing hthere
  case served =>
    exact fun _ _ _ _ _ hslot hshard hkind hserving hsatisfied => execGapReceive_served hslot hshard hkind hserving hsatisfied
  case pulled =>
    exact fun _ _ _ _ hkind hslot hshard hcommitted howner => execPullReceive_owner hslot hshard hkind hcommitted howner
  case lines => exact fun _ _ hkind hforwards => (if_neg (passes_forwardGuard hforwards)).trans (if_pos hkind)
  case rend =>
    exact fun _ _ hkind hforwards => (if_neg (passes_forwardGuard hforwards)).trans ((if_neg (by omega)).trans (if_pos hkind))
  case missing =>
    exact fun _ _ _ _ _ _ hnone hrend hforwards hopen hmissing hlate =>
      execGapResendTimer_agent hnone hrend hforwards hopen hmissing hlate
  case spill =>
    intro job gen a x s hslot htarget hspill hcommitted hunspilled hholds
    change execSpillAfterCommit job gen s = _
    simp only [execSpillAfterCommit, hslot, htarget]
    rw [if_pos ⟨hspill, hcommitted, by rw [hunspilled]; rfl⟩, if_pos hholds, finish_eq_next_done]
  case control => exact fun _ _ hmay hop => finish_fromGeneel_permitted hmay (if_neg (Nat.not_lt.2 hop))
  case report =>
    exact fun _ _ hmay hop hstatus => finish_fromGeneel_permitted hmay ((if_neg hop).trans (if_neg hstatus))
  case restored => exact fun _ _ hmay hop => finish_fromGeneel_permitted hmay (if_pos hop)

end Sys2Proof.Proofs
end

section
/-! PROOFS of the family 14_power_and_current: what bookings start against what their account has been allowed. -/

namespace Sys2Proof.Proofs

open Sys2Proof Sys2Proof.Machine

/-! ### One booking (R507) -/

/-- The account from which a booking counts: its own, or at a later earliest tick a fresh allowance. -/
def fromEarliest (b t0 : Nat) (a : Account) : Account := if a.frontier < t0 then { frontier := t0, left := b } else a

/-- The ticks that a step waits for, when more than what is left is asked, are the fewest whose allowance covers the rest. -/
theorem cdiv_covers {b n : Nat} (hb : 0 < b) (hn : 0 < n) : 1 ≤ cdiv n b ∧ n ≤ cdiv n b * b ∧ cdiv n b * b < n + b := by
  have hdiv := Nat.div_add_mod' (n + b - 1) b
  have hmod := Nat.mod_lt (n + b - 1) hb
  have hpos : 1 ≤ (n + b - 1) / b := (Nat.one_le_div_iff hb).2 (by omega)
  unfold cdiv
  omega

/-- A booking starts at once where enough is left, and else after `k` more ticks, with less than an allowance left then. -/
theorem book_cases {b : Nat} (hb : 0 < b) (a : Account) (c t0 : Nat) :
    (c ≤ (fromEarliest b t0 a).left ∧ a.book b c t0 =
      ((fromEarliest b t0 a).frontier, { frontier := (fromEarliest b t0 a).frontier, left := (fromEarliest b t0 a).left - c }))
    ∨ ∃ k, 1 ≤ k ∧ c ≤ (fromEarliest b t0 a).left + k * b ∧ (fromEarliest b t0 a).left + k * b < c + b ∧ a.book b c t0 =
      ((fromEarliest b t0 a).frontier + k,
        { frontier := (fromEarliest b t0 a).frontier + k, left := (fromEarliest b t0 a).left + k * b - c }) := by
  have hbook : a.book b c t0 =
      let d := fromEarliest b t0 a
      let k := if c ≤ d.left ∨ b = 0 then 0 else cdiv (c - d.left) b
      (d.frontier + k, { frontier := d.frontier + k, left := d.left + k * b - c }) := by
    by_cases hlater : a.frontier < t0 <;> simp only [Account.book, fromEarliest, hlater, if_true, if_false]
  rw [hbook]
  generalize fromEarliest b t0 a = d
  by_cases henough : c ≤ d.left
  · exact .inl ⟨henough, by simp [henough]⟩
  · obtain ⟨hpos, hcovers, hfewest⟩ := cdiv_covers hb (n := c - d.left) (by omega)
    have hnot : ¬ (c ≤ d.left ∨ b = 0) := by omega
    exact .inr ⟨cdiv (c - d.left) b, hpos, by omega, by omega, by simp only [if_neg hnot]⟩

/-- A fresh allowance is no more than an allowance. -/
theorem fromEarliest_left_le {b : Nat} {a : Account} (t0 : Nat) (hleft : a.left ≤ b) : (fromEarliest b t0 a).left ≤ b := by
  unfold fromEarliest
  split
  · exact Nat.le_refl _
  · exact hleft

section
variable {b : Nat} (hb : 0 < b) (a : Account) (c t0 : Nat)
include hb

/-- The frontier of an account moves to the start of its last booking. -/
theorem book_frontier : (a.book b c t0).2.frontier = (a.book b c t0).1 := by
  rcases book_cases hb a c t0 with ⟨-, heq⟩ | ⟨k, -, -, -, heq⟩ <;> rw [heq]

/-- Nothing starts before the frontier, or before its earliest tick. -/
theorem le_book_start : a.frontier ≤ (a.book b c t0).1 ∧ t0 ≤ (a.book b c t0).1 := by
  have hfrom : a.frontier ≤ (fromEarliest b t0 a).frontier ∧ t0 ≤ (fromEarliest b t0 a).frontier := by
    by_cases hlater : a.frontier < t0 <;> simp only [fromEarliest, hlater, if_true, if_false] <;> omega
  rcases book_cases hb a c t0 with ⟨-, heq⟩ | ⟨k, -, -, -, heq⟩ <;> rw [heq] <;> dsimp only <;> omega

/-- No more than an allowance is ever left. -/
theorem book_left_le (hleft : a.left ≤ b) : (a.book b c t0).2.left ≤ b := by
  have hfrom := fromEarliest_left_le t0 hleft
  rcases book_cases hb a c t0 with ⟨-, heq⟩ | ⟨k, -, -, hfewest, heq⟩ <;> rw [heq] <;> dsimp only <;> omega

end

/-! ### A list of bookings -/

section
variable {b : Nat} (hb : 0 < b)
include hb

/-- What bookings start in the ticks of `p` is bounded by any measure of their account that each booking lowers by what it starts there. -/
theorem startedIn_bookings_le {p : Nat → Bool} {room : Account → Nat} {l : List (Nat × Nat)}
    (hspend : ∀ a : Account, a.left ≤ b → ∀ e ∈ l,
      (if p (a.book b e.1 e.2).1 then e.1 else 0) + room (a.book b e.1 e.2).2 ≤ room a) :
    ∀ a : Account, a.left ≤ b → startedIn p (bookings b a l) ≤ room a := by
  induction l with
  | nil => exact fun _ _ => Nat.zero_le _
  | cons e l ih =>
    intro a hleft
    have hhead := hspend a hleft e List.mem_cons_self
    have htail := ih (fun d hd x hx => hspend d hd x (List.mem_cons_of_mem e hx)) (a.book b e.1 e.2).2 (book_left_le hb a e.1 e.2 hleft)
    have hsum : startedIn p (bookings b a (e :: l))
        = (if p (a.book b e.1 e.2).1 then e.1 else 0) + startedIn p (bookings b (a.book b e.1 e.2).2 l) := by
      by_cases hp : p (a.book b e.1 e.2).1 = true <;> simp [startedIn, bookings, hp]
    omega

/-- Every booking of a list has its start, none before its earliest tick or before the frontier. -/
theorem bookings_start (l : List (Nat × Nat)) : ∀ a : Account, (bookings b a l).length = l.length
    ∧ ∀ x ∈ (bookings b a l).zip l, x.2.2 ≤ x.1.1 ∧ a.frontier ≤ x.1.1 := by
  induction l with
  | nil => exact fun _ => ⟨rfl, fun _ hx => absurd hx List.not_mem_nil⟩
  | cons e l ih =>
    intro a
    obtain ⟨hlength, hstarts⟩ := ih (a.book b e.1 e.2).2
    obtain ⟨hfrontier, hearliest⟩ := le_book_start hb a e.1 e.2
    refine ⟨congrArg (· + 1) hlength, fun x hx => ?_⟩
    rcases List.mem_cons.1 hx with rfl | hx
    · exact ⟨hearliest, hfrontier⟩
    · obtain ⟨hown, hafter⟩ := hstarts x hx
      rw [book_frontier hb] at hafter
      exact ⟨hown, Nat.le_trans hfrontier hafter⟩

end

/-! ### The two measures -/

/-- What an account may still start in the ticks up to `T`: what is left of its frontier's tick, and the allowance of each tick after it. -/
def roomUpTo (b T : Nat) (a : Account) : Nat := if a.frontier ≤ T then a.left + b * (T - a.frontier) else 0

/-- What an account may still start in tick `T` alone, when no step exceeds `M`: what is left once the frontier is there, and before that an
allowance and the one step that waited for this tick. -/
def roomIn (b M T : Nat) (a : Account) : Nat := if a.frontier = T then a.left else if a.frontier < T then b + M else 0

/-- A later earliest tick gives up what the ticks before it allowed. -/
theorem roomUpTo_fromEarliest_le (b T t0 : Nat) (a : Account) : roomUpTo b T (fromEarliest b t0 a) ≤ roomUpTo b T a := by
  unfold fromEarliest
  split
  case isTrue hlater =>
    unfold roomUpTo
    dsimp only
    split
    case isTrue hin =>
      have hgain : b * (T - t0) + b ≤ b * (T - a.frontier) := by
        rw [← Nat.mul_succ]
        exact Nat.mul_le_mul_left b (by omega)
      rw [if_pos (by omega)]
      omega
    case isFalse => exact Nat.zero_le _
  case isFalse => exact Nat.le_refl _

section
variable {b : Nat} (hb : 0 < b) (a : Account) (T c t0 : Nat)
include hb

/-- A booking takes its step from what the ticks up to `T` still allow, when it starts in one of them. -/
theorem book_spends_roomUpTo :
    (if decide ((a.book b c t0).1 ≤ T) then c else 0) + roomUpTo b T (a.book b c t0).2 ≤ roomUpTo b T a := by
  refine Nat.le_trans ?_ (roomUpTo_fromEarliest_le b T t0 a)
  rcases book_cases hb a c t0 with ⟨henough, heq⟩ | ⟨k, -, hcovers, -, heq⟩
  · rw [heq]
    unfold roomUpTo
    by_cases hin : (fromEarliest b t0 a).frontier ≤ T
    · rw [decide_eq_true hin, if_pos rfl, if_pos hin, if_pos hin]
      dsimp only
      omega
    · rw [decide_eq_false hin, if_neg Bool.false_ne_true, if_neg hin]
      exact Nat.zero_le _
  · rw [heq]
    unfold roomUpTo
    dsimp only
    by_cases hin : (fromEarliest b t0 a).frontier + k ≤ T
    · have hgain : b * (T - (fromEarliest b t0 a).frontier) = b * (T - ((fromEarliest b t0 a).frontier + k)) + k * b := by
        rw [Nat.mul_comm k b, ← Nat.mul_add]
        exact congrArg (b * ·) (by omega)
      rw [decide_eq_true hin, if_pos rfl, if_pos hin, if_pos (by omega)]
      omega
    · rw [decide_eq_false hin, if_neg Bool.false_ne_true, if_neg hin]
      exact Nat.zero_le _

/-- A booking takes its step from what tick `T` still allows, when it starts there. -/
theorem book_spends_roomIn {M : Nat} (hleft : a.left ≤ b) (hc : c ≤ M) :
    (if decide ((a.book b c t0).1 = T) then c else 0) + roomIn b M T (a.book b c t0).2 ≤ roomIn b M T a := by
  have hfrom : roomIn b M T (fromEarliest b t0 a) ≤ roomIn b M T a := by
    by_cases hlater : a.frontier < t0
    · simp only [fromEarliest, roomIn, if_pos hlater]
      repeat' split
      all_goals omega
    · simp only [fromEarliest, if_neg hlater, Nat.le_refl]
  have hcount := fromEarliest_left_le t0 hleft
  refine Nat.le_trans ?_ hfrom
  rcases book_cases hb a c t0 with ⟨henough, heq⟩ | ⟨k, hpos, hcovers, hfewest, heq⟩
  all_goals
    rw [heq]
    simp only [roomIn, decide_eq_true_eq]
    repeat' split
    all_goals omega

end

/-- Settles O13: the two measures bound what a list of bookings starts up to a tick and in a tick (`startedIn_bookings_le`), and the account
starts with one allowance at `r`. -/
theorem bookingsKeepTheBudget : Obligations.BookingsKeepTheBudget := by
  unfold Obligations.BookingsKeepTheBudget
  intro b r l hb
  obtain ⟨hlength, hstarts⟩ := bookings_start hb l { frontier := r, left := b }
  refine ⟨fun T => ?_, fun T M hsteps => ?_, hlength, hstarts⟩
  · refine Nat.le_trans (startedIn_bookings_le hb (room := roomUpTo b T) (fun a _ e _ => book_spends_roomUpTo hb a T e.1 e.2) _
      (Nat.le_refl _)) ?_
    unfold roomUpTo
    split
    case isTrue hin =>
      have hticks : T + 1 - r = T - r + 1 := Nat.succ_sub hin
      rw [hticks, Nat.mul_add_one]
      exact Nat.le_of_eq (Nat.add_comm b (b * (T - r)))
    case isFalse => exact Nat.zero_le _
  · refine Nat.le_trans (startedIn_bookings_le hb (room := roomIn b M T)
      (fun a hleft e he => book_spends_roomIn hb a T e.1 e.2 hleft (hsteps e he)) _ (Nat.le_refl _)) ?_
    simp only [roomIn]
    repeat' split
    all_goals omega

end Sys2Proof.Proofs
end

section
/-! PROOFS of the family 14_power_and_current: the rows of units, droop, operating point, guard band, samples and grants. -/

namespace Sys2Proof.Proofs

open Sys2Proof Sys2Proof.Machine

/-- Settles O27: the units, the change of operating point, the references and the grant decide their rows; the droop rows have no guard. -/
theorem powerEventsComplete : Obligations.PowerEventsComplete := by
  unfold Obligations.PowerEventsComplete
  refine ⟨?drained, ?drainTimeout, ?oppoint, ?droopSet, ?droopClear, ?droopLowering, ?measured, ?refsLost, ?sample, ?renew⟩
  case drained =>
    intro kind idx c s hdraining hidle hcmd
    refine (if_neg (not_or.2 ⟨not_not_intro hdraining, not_not_intro hidle⟩)).trans ?_
    rw [hcmd]
    rfl
  case drainTimeout =>
    intro kind idx u c s hunit hcmd hdraining hlate
    change execUnitDrainTimeout kind idx s = _
    simp only [execUnitDrainTimeout, hunit, hcmd, Option.map_some, Option.getD_some]
    exact if_pos ⟨hdraining, hlate⟩
  case oppoint =>
    intro p t s hchange hramped hclear hguard
    change execOppointSwitch s = _
    simp only [execOppointSwitch, hchange, hguard]
    exact if_pos ⟨hramped, by rw [hclear]; rfl⟩
  case droopSet => exact fun _ => rfl
  case droopClear => exact fun _ => rfl
  case droopLowering => exact fun _ => rfl
  case measured =>
    intro slowdown s hstage
    change execAgeingMeasure slowdown true s = _
    rw [execAgeingMeasure, if_neg (by decide)]
    exact (if_neg hstage).trans (apply_ite s.finish _ _ _).symm
  case refsLost =>
    intro slowdown s hread
    change execAgeingMeasure slowdown false s = _
    rw [execAgeingMeasure, if_pos (by decide)]
    dsimp only
    rw [if_neg (ne_true_of_eq_false hread)]
    rfl
  case sample =>
    intro addr kind e0 e1 e2 e3 h s hshelf
    change execCurrentStepSample addr kind e0 e1 e2 e3 s = _
    rw [execCurrentStepSample, hshelf]
    rfl
  case renew =>
    intro addr kind action e g s hgrant hstanding hexpiry hdue hrunning
    change execGrantWarmRenew addr kind action s = _
    simp only [execGrantWarmRenew, hgrant, hexpiry]
    exact if_pos ⟨by rw [hstanding]; rfl, hdue, hrunning⟩

end Sys2Proof.Proofs
end

section
/-! PROOFS of the family 15_buckram_metrology: the rows of the meter bus and of the windows. -/

namespace Sys2Proof.Proofs

open Sys2Proof Sys2Proof.Machine

/-- A row of Buckram does not stop where Buckram works (R523). -/
theorem passes_worksGuard {s : State} (hworks : s.buckram.works = true) : ¬ (!s.buckram.works) = true := by simp [hworks]

/-- Settles O30: the guards of a row are that Buckram works (`passes_worksGuard`), the check of a frame and the time of a window. -/
theorem meterBusCompletes : Obligations.MeterBusCompletes := by
  unfold Obligations.MeterBusCompletes
  refine ⟨?cycle, ?short, ?extended, ?silent, ?strobe, ?selfClose, ?sealed, ?selfFault⟩
  case cycle => exact fun _ hworks => if_neg (passes_worksGuard hworks)
  case short =>
    exact fun _ _ _ hworks hcrc hcycle =>
      if_neg (not_or.2 ⟨passes_worksGuard hworks, not_or.2 ⟨not_not_intro hcrc, not_not_intro hcycle⟩⟩)
  case extended =>
    exact fun _ _ hworks hcrc hcycle hturn => if_neg (not_or.2 ⟨passes_worksGuard hworks,
      not_or.2 ⟨not_not_intro hcrc, not_or.2 ⟨not_not_intro hcycle, not_not_intro hturn⟩⟩⟩)
  case silent => exact fun _ _ hworks => if_neg (passes_worksGuard hworks)
  case strobe =>
    exact fun _ s hworks => (if_neg (passes_worksGuard hworks)).trans (apply_ite s.finish _ _ _).symm
  case selfClose => exact fun _ hworks hlate => if_neg (not_or.2 ⟨passes_worksGuard hworks, Nat.not_lt.2 hlate⟩)
  case sealed =>
    intro w s hclosed hworks hlate
    change execWindowSeal s = _
    rw [execWindowSeal, hclosed]
    exact if_neg (not_or.2 ⟨passes_worksGuard hworks, Nat.not_lt.2 hlate⟩)
  case selfFault =>
    intro s hworking hnone
    refine (if_neg hworking).trans ?_
    rw [hnone]
    rfl

end Sys2Proof.Proofs
end

section
/-! PROOFS of the family 16_selvedge_security: the rows of key lifetime, re-attestation, debug nonce and key sweep. -/

namespace Sys2Proof.Proofs

open Sys2Proof Sys2Proof.Machine

/-- Settles O38: the policy and the instant decide a rotation and a re-attestation, the age of the nonce its end, the part a sweep. -/
theorem securityTimersComplete : Obligations.SecurityTimersComplete := by
  unfold Obligations.SecurityTimersComplete
  refine ⟨?lifetime, ?reattest, ?nonce, ?sweepTable, ?sweepRestart⟩
  case lifetime =>
    rintro job kind k life s hkey hkind rfl hfinite hold howner hprimary hnone
    change execKeyLifetimeExpire job kind s = _
    simp only [execKeyLifetimeExpire, hkey]
    exact if_neg (by simp [hfinite, hold, howner, hprimary, hnone, hkind])
  case reattest =>
    exact fun s hordered hinterval hdue hprimary => if_neg (by simp [hordered, hinterval, hdue, hprimary])
  case nonce =>
    intro n t s hnonce hold
    change execDebugNonceExpire s = _
    rw [execDebugNonceExpire, hnonce]
    exact if_neg (Nat.not_lt.2 hold)
  case sweepTable =>
    intro obj area t s htable
    change execKeySweepPage 0 obj area s = _
    rw [execKeySweepPage, if_pos rfl, htable]
    rfl
  case sweepRestart => exact fun _ _ _ _ hpart => if_neg hpart

end Sys2Proof.Proofs
end

section
/-! PROOFS of the family 17_faults_and_events: the rows of detection, fencing and the event log. -/

namespace Sys2Proof.Proofs

open Sys2Proof Sys2Proof.Machine

/-- Settles O29: each row's guards decide it. -/
theorem faultEventsComplete : Obligations.FaultEventsComplete := by
  unfold Obligations.FaultEventsComplete
  refine ⟨?detect, ?watchdog, ?fenced, ?quiet, ?spill, ?retry⟩
  case detect => exact fun _ _ _ _ _ _ _ _ hon hgoing => if_neg (not_or.2 ⟨hon, hgoing⟩)
  case watchdog =>
    exact fun _ _ _ hon hgoing hunit hgood =>
      if_neg (not_or.2 ⟨hon, not_or.2 ⟨hgoing, not_or.2 ⟨Nat.not_le.2 hunit, ne_false_of_eq_true hgood⟩⟩⟩)
  case fenced =>
    intro kind idx u s hunit hfencing
    change execFencingComplete kind idx s = _
    rw [execFencingComplete, hunit]
    exact if_pos hfencing
  case quiet =>
    intro s hfault hunlatched hreleased hend
    change execFaultQuietEnd s = _
    simp only [execFaultQuietEnd, hreleased]
    exact if_pos ⟨hfault, by rw [hunlatched]; rfl, trivial, hend⟩
  case spill =>
    exact fun _ _ hfull hfirst hon hold => if_pos (by simp [hfull, hfirst, hon, hold])
  case retry =>
    intro failures t s hretry hlate hfull
    change execEventSpillRetry failures s = _
    rw [execEventSpillRetry, hretry]
    exact if_pos ⟨hlate, hfull⟩

end Sys2Proof.Proofs
end

section
/-! PROOFS of the family 18_bring_up: the rows that complete the stages, and those of the pins that start and stop the device. -/

namespace Sys2Proof.Proofs

open Sys2Proof Sys2Proof.Machine

/-! ### Self tests (R490, R637) -/

section
variable {kind idx : Nat} {s : State} (hunit : idx < unitCount kind) (husable : s.domainUsable (testDomain kind idx) = true)
  (hfenced : s.unfenceCmd kind idx = none)

include hunit husable in
/-- A self test is of a unit of its kind, in a domain that is usable. -/
theorem passes_testGuard : ¬ (unitCount kind ≤ idx ∨ (!s.domainUsable (testDomain kind idx)) = true) := by
  rw [husable]
  exact not_or.2 ⟨Nat.not_le.2 hunit, Bool.false_ne_true⟩

include hunit husable hfenced

/-- Under UNIT_ENABLE, outside the stage that tests the kind, a passed test of an OFF unit is noted and a failed one is a fault (R490). -/
theorem execSelfTestComplete_enabling (hother : s.up.dev ≠ testStage kind) {c : Cmd} (hcmd : s.unitCmd 0x0905 kind idx = some c)
    {u : UnitRec} (hrec : s.unitRec kind idx = some u) (hoff : u.status = .off) (passed : Bool) (detail : Nat) (rows : List DefectRow) :
    execSelfTestComplete kind idx passed detail rows s =
      if passed then s.finish (s.setUnit { u with outstanding := 1 })
      else s.finish (s.fault { source := unitSource kind idx, code := 3 }) := by
  rw [execSelfTestComplete, if_neg (passes_testGuard hunit husable), hfenced]
  refine (if_neg (fun h => hother h.1)).trans ?_
  simp only [hcmd, hrec]
  exact if_neg (not_not_intro hoff)

/-- In the stage that tests the kind, a unit of the list that has not been tested is tested (R624, R637). -/
theorem execSelfTestComplete_bringUp (hstage : s.up.dev = testStage kind) (hon : s.up.dev ≠ .off) (huntested : s.isTested kind idx = false)
    (hlisted : (s.testList kind).contains idx = true) (passed : Bool) (detail : Nat) (rows : List DefectRow) :
    execSelfTestComplete kind idx passed detail rows s = s.finish (s.bringUpTest kind idx passed detail rows) := by
  rw [execSelfTestComplete, if_neg (passes_testGuard hunit husable), hfenced]
  refine (if_pos ⟨hstage, hon⟩).trans (if_neg ?_)
  rw [huntested, hlisted]
  decide

end

/-! ### The stages (R624) -/

/-- In BOOT a good clock check and working engines of Selvedge enter STAGE1; the record and the image follow a policy that lets the device
go on (R624, R552, R556). -/
theorem execBootComplete_good {s : State} (hboot : s.up.dev = .boot) (copies : Nat) :
    execBootComplete true true copies s =
      let s1 := ((({ s with up := { s.up with clockBad := false } } : State).enterStage 0 .stage1).bookDomains [0, 1]).driveCore
      let s2 := (if s1.pins.sampled.getLsbD 4 then s1.fault { source := 0xF900, code := 0x2C } else s1).startBuckram
      let s3 := s2.loadPolicy copies
      s.finish (if s3.up.dev = .halt then s3 else s3.loadRecord.bootImage) := by
  rw [execBootComplete, if_neg (not_not_intro hboot), if_neg (by decide)]
  dsimp only
  rw [if_neg (by decide)]
  exact (apply_ite s.finish _ _ _).symm

/-- Settles O39: the state of the device and the end of its stage decide each row (`execBootComplete_good` for a good clock), the instant a
booking, and a self test is what the lemmas above say of it. -/
theorem bringUpStagesComplete : Obligations.BringUpStagesComplete := by
  unfold Obligations.BringUpStagesComplete
  refine ⟨?badClock, ?boot, ?stage1, ?stage2, ?stage3, ?stage4, ?stage5, ?booking, ?passed, ?failed, ?tested⟩
  case badClock =>
    intro selvedgeOk copies s hboot
    change execBootComplete false selvedgeOk copies s = _
    rw [execBootComplete, if_neg (not_not_intro hboot), if_pos (by decide), finish_eq_next_done]
  case boot => exact fun copies s hboot => execBootComplete_good hboot copies
  case stage1 =>
    intro s hstage hdone hcores
    exact (if_neg (not_or.2 ⟨not_not_intro hstage, ne_false_of_eq_true hdone⟩)).trans (if_neg (Nat.not_lt.2 hcores))
  case stage2 =>
    intro s hstage hdone htested hports
    refine (if_neg (not_or.2 ⟨not_not_intro hstage, ne_false_of_eq_true hdone⟩)).trans ?_
    rw [htested]
    exact if_neg hports
  case stage3 => exact fun s hstage hdone => if_neg (not_or.2 ⟨not_not_intro hstage, ne_false_of_eq_true hdone⟩)
  case stage4 =>
    intro s hstage hover
    exact if_neg (not_or.2 ⟨not_not_intro hstage, by simp [hover]⟩)
  case stage5 => exact fun s hstage hdone => if_neg (not_or.2 ⟨not_not_intro hstage, ne_false_of_eq_true hdone⟩)
  case booking =>
    intro what e s hbooked hdue hon hgoing hdomain
    change execRailBookingStart what s = _
    rw [execRailBookingStart, hbooked]
    exact (if_neg (not_or.2 ⟨Nat.not_lt.2 hdue, not_or.2 ⟨hon, hgoing⟩⟩)).trans (if_pos hdomain)
  case passed =>
    exact fun _ _ detail rows _ _ _ hunit husable hfenced hother hcmd hrec hoff =>
      execSelfTestComplete_enabling hunit husable hfenced hother hcmd hrec hoff true detail rows
  case failed =>
    exact fun _ _ detail rows _ _ _ hunit husable hfenced hother hcmd hrec hoff =>
      execSelfTestComplete_enabling hunit husable hfenced hother hcmd hrec hoff false detail rows
  case tested =>
    exact fun _ _ detail passed rows _ hunit husable hfenced hstage hon huntested hlisted =>
      execSelfTestComplete_bringUp hunit husable hfenced hstage hon huntested hlisted passed detail rows

/-! ### RESET_N (R694, R695) -/

/-- The state in which RESET_N is high again and the flash is the device's own. -/
def resetReleased (s : State) : State := { s with pins := { s.pins with resetN := true, flashReleased := false } }

/-- With power and no trip, the low time of RESET_N decides what its release brings; between 10 µs and 1 ms a free value does (R694, R695). -/
theorem execResetNRelease_powered {us : Nat} {s : State} (hlow : s.pins.resetN = false) (hpower : s.pins.pwrGood = true)
    (huntripped : s.up.tripped = false) :
    execResetNRelease us s =
      if s.up.dev = .off ∨ 1000 ≤ us then s.finish ((resetReleased s).bringUp (s.up.dev == .off))
      else if us < 10 then s.finish (resetReleased s)
      else s.finish (if Config.freeNat s.drawn % 2 = 0 then (resetReleased s).draw.1 else (resetReleased s).draw.1.bringUp false) := by
  rw [execResetNRelease, if_neg (ne_true_of_eq_false hlow)]
  refine if_neg ?_
  rw [hpower, huntripped]
  decide

/-- Settles O40: the level that a pin had decides what its edge brings, and the low time of RESET_N (`execResetNRelease_powered`) what its
release does. -/
theorem powerAndResetPinsComplete : Obligations.PowerAndResetPinsComplete := by
  unfold Obligations.PowerAndResetPinsComplete
  refine ⟨?powerRise, ?powerFall, ?resetLow, ?longReset, ?glitch, ?between, ?perst, ?perstRelease⟩
  case powerRise =>
    exact fun straps s hlow => (if_neg (ne_true_of_eq_false hlow)).trans (apply_ite s.finish _ _ _).symm
  case powerFall => exact fun _ => rfl
  case resetLow => exact fun _ _ hhigh => if_neg (ne_false_of_eq_true hhigh)
  case longReset =>
    exact fun _ _ hlow hpower huntripped hlong => (execResetNRelease_powered hlow hpower huntripped).trans (if_pos (.inr hlong))
  case glitch =>
    intro us s hlow hpower huntripped hshort hon
    exact (execResetNRelease_powered hlow hpower huntripped).trans ((if_neg (not_or.2 ⟨hon, by omega⟩)).trans (if_pos hshort))
  case between =>
    intro us s hlow hpower huntripped hlong hshort hon
    exact (execResetNRelease_powered hlow hpower huntripped).trans
      ((if_neg (not_or.2 ⟨hon, Nat.not_le.2 hshort⟩)).trans (if_neg (Nat.not_lt.2 hlong)))
  case perst => exact fun _ _ => rfl
  case perstRelease => exact fun _ _ hasserted => if_neg (ne_false_of_eq_true hasserted)

end Sys2Proof.Proofs
end

section
/-! PROOFS of the family 19_twin_and_peers: the rows of the mirror, of roles, heartbeats and peers. -/

namespace Sys2Proof.Proofs

open Sys2Proof Sys2Proof.Machine

/-- A row of a message that only the twin sends, from the twin with the class that it needs, ends in what its action makes of the state
(R663). -/
theorem finish_fromTwin {m : Msg} {type : Nat} {act : State → State} {s t : State} (hmay : s.senderMay m.src 0x0D = true)
    (htwin : m.src = s.twinAddr) (hact : act s = t) : s.finish (s.fromTwin m type act) = .next (Done s t) :=
  finish_fromGeneel_permitted hmay ((if_pos htwin).trans hact)

/-! ### Deltas (R650 to R652) -/

/-- The delta that a message from the twin carries, as it is held. -/
def deltaOf (m : Msg) (item : Option MirrorItem) (now : Nat) : Delta := {
  seq := le m.body 0 4, tick := le m.body 4 6, kind := le m.body 10 1, last := bit (le m.body 11 1) 0, obj := le m.body 12 4
  data := m.body.drop 16, item := item, at_ := now }

section
variable {m : Msg} {item : Option MirrorItem} {s : State} (hmay : s.senderMay m.src 0x0D = true) (htwin : m.src = s.twinAddr)
  (hrole : s.twin.role ≠ 0) (hassigned : s.twin.assigned = true)
include hmay htwin hrole hassigned

/-- A delta that is no further than the last one received is only acknowledged again (R650). -/
theorem execMirrorDeltaReceive_again (hnone : (le m.body 0 4 + 2 ^ 32 - s.twin.received) % 2 ^ 32 = 0) :
    execMirrorDeltaReceive m item s = .next (Done s s.sendMirrorAck) :=
  finish_fromTwin hmay htwin ((if_neg (not_or.2 ⟨hrole, ne_false_of_eq_true hassigned⟩)).trans (if_pos (.inr (.inl hnone))))

/-- While the mirror is not in RESYNC, a delta that is ahead and not held yet is held: the next one is acknowledged and its verdict passes, one
after a gap brings a resync (R650, R652). -/
theorem execMirrorDeltaReceive_ahead (hahead : 0 < (le m.body 0 4 + 2 ^ 32 - s.twin.received) % 2 ^ 32)
    (hnew : (le m.body 0 4 + 2 ^ 32 - s.twin.received) % 2 ^ 32 < 2 ^ 31)
    (hunheld : s.twin.held.any (fun x => x.seq == le m.body 0 4) = false) (hsteady : s.twin.mirror ≠ .resync) :
    execMirrorDeltaReceive m item s = .next (Done s (
      if (le m.body 0 4 + 2 ^ 32 - s.twin.received) % 2 ^ 32 = 1 then
        (s.modTwin (fun x => { x with
          received := le m.body 0 4, held := x.held ++ [deltaOf m item s.clock.now] })).sendMirrorAck.passVerdict item
      else (s.modTwin (fun x => { x with held := x.held ++ [deltaOf m item s.clock.now] })).askResync)) := by
  have hfresh : ¬ (2 ^ 31 ≤ (le m.body 0 4 + 2 ^ 32 - s.twin.received) % 2 ^ 32
      ∨ (le m.body 0 4 + 2 ^ 32 - s.twin.received) % 2 ^ 32 = 0 ∨ s.twin.held.any (fun x => x.seq == le m.body 0 4) = true) :=
    not_or.2 ⟨Nat.not_le.2 hnew, not_or.2 ⟨Nat.ne_of_gt hahead, ne_true_of_eq_false hunheld⟩⟩
  refine finish_fromTwin hmay htwin ((if_neg (not_or.2 ⟨hrole, ne_false_of_eq_true hassigned⟩)).trans ((if_neg hfresh).trans ?_))
  exact if_neg hsteady

end

/-- Settles O50: deltas are the lemmas above, the other messages of the twin go by `finish_fromTwin`, and what is unacknowledged by its
guards. -/
theorem mirrorCompletes : Obligations.MirrorCompletes := by
  unfold Obligations.MirrorCompletes
  refine ⟨?again, ?next, ?gap, ?acked, ?resent, ?single, ?resync, ?data⟩
  case again =>
    exact fun _ _ _ hmay htwin hrole hassigned hnone => execMirrorDeltaReceive_again hmay htwin hrole hassigned hnone
  case next =>
    intro m item s hmay htwin hrole hassigned hone hunheld hsteady
    refine (execMirrorDeltaReceive_ahead hmay htwin hrole hassigned (by omega) (by omega) hunheld hsteady).trans ?_
    rw [if_pos hone]
    rfl
  case gap =>
    intro m item s hmay htwin hrole hassigned hgap hnew hunheld hsteady
    refine (execMirrorDeltaReceive_ahead hmay htwin hrole hassigned (by omega) hnew hunheld hsteady).trans ?_
    rw [if_neg (Nat.ne_of_gt hgap)]
    rfl
  case acked =>
    intro m s hmay htwin hprimary
    exact finish_fromTwin hmay htwin (if_neg (by simp [hprimary]))
  case resent =>
    intro seq d s hfind hprimary hmirror
    change execMirrorAckResend seq s = _
    rw [execMirrorAckResend, hfind]
    exact if_pos ⟨hprimary, hmirror⟩
  case single =>
    intro d s hfind hprimary hmirror
    change execMirrorSingleTimeout s = _
    rw [execMirrorSingleTimeout, hfind]
    exact if_pos ⟨hprimary, hmirror⟩
  case resync => exact fun _ _ hmay htwin hprimary => finish_fromTwin hmay htwin (if_pos hprimary)
  case data =>
    exact fun _ _ _ hmay htwin hrole hresync =>
      finish_fromTwin hmay htwin (if_neg (not_or.2 ⟨hrole, not_not_intro hresync⟩))

/-! ### Roles and heartbeats (R647, R654, R655) -/

/-- A takeover that happens by itself is of an armed SECONDARY with a silent twin, or one that gave notice of its halt in the tick before
(R655). -/
theorem execAutomaticTakeover_armed {s : State} (harmed : s.armed = true)
    (hgone : s.twinSilent = true ∨ s.twin.haltNotice = some (s.clock.now - 1) ∧ 1 ≤ s.clock.now) :
    execAutomaticTakeover s = s.finish (s.takeOver s.twin.token) := by
  rw [execAutomaticTakeover]
  refine congrArg s.finish (if_pos ?_)
  rcases hgone with hsilent | ⟨hnotice, hpast⟩
  · simp [harmed, hsilent]
  · simp [harmed, hnotice, Nat.sub_add_cancel hpast]

/-- A bolt that hears a heartbeat of its twin keeps it. -/
def heartbeatKept (m : Msg) (s : State) : State := s.modTwin (fun x => { x with
  heardRole := some (le m.body 0 1), heardDev := le m.body 1 1, heardMirror := le m.body 2 1, heardToken := le m.body 4 8
  version2 := bit (le m.body 3 1) 1, heartbeat := some s.clock.now, heartbeatTick := le m.body 16 6 })

section
variable {m : Msg} {s : State} (hmay : s.senderMay m.src 0x0D = true) (htwin : m.src = s.twinAddr)
include hmay htwin

/-- A PRIMARY keeps the heartbeat of another PRIMARY, whose higher token makes a deposition due (R647). -/
theorem execHeartbeatReceive_primary (hprimary : s.isPrimary = true) (hother : le m.body 0 1 = 0) :
    execHeartbeatReceive m s = .next (Done s (
      if s.twin.token < le m.body 4 8 then (heartbeatKept m s).modTwin (fun x => { x with deposeDue := some (le m.body 4 8) })
      else heartbeatKept m s)) :=
  finish_fromTwin hmay htwin ((if_pos hprimary).trans (if_pos hother))

/-- A bolt that is no PRIMARY, and whose twin's role calls for no resync, only keeps the heartbeat (R649, R654). -/
theorem execHeartbeatReceive_secondary (hsecondary : s.isPrimary = false) (hrole : s.twin.assigned = false ∨ le m.body 0 1 ≠ 0) :
    execHeartbeatReceive m s = .next (Done s (heartbeatKept m s)) := by
  refine finish_fromTwin hmay htwin ((if_neg (ne_true_of_eq_false hsecondary)).trans (if_neg ?_))
  rintro ⟨hassigned, hprimary, -⟩
  exact hrole.elim (fun h => ne_true_of_eq_false h hassigned) (fun h => h hprimary)

end

/-! ### Peers (R660, R661) -/

/-- A hello keeps its peer as last heard; one whose list digest is bad makes it absent (R660, R661). -/
def helloKept (m : Msg) (bad : Bool) (s : State) : State := s.modPeer m.src (fun p => { p with
  heard := some s.clock.now, heardTick := le m.body 12 6, role := le m.body 0 1, dev := le m.body 1 1, tiles := le m.body 2 1
  token := le m.body 4 8, mismatch := bad, absent := bad
  healthySince := if le m.body 0 1 = 0 ∧ 7 ≤ le m.body 1 1 ∧ le m.body 1 1 ≤ 9 ∧ !bad then some (p.healthySince.getD s.clock.now) else none })

section
variable {m : Msg} {s : State} (hmay : s.senderMay m.src 0x0D = true)
include hmay

/-- A hello with another list digest is kept, and its session stays as it was (R661). -/
theorem execPeerHelloReceive_mismatch (hdigest : field m.body 20 32 ≠ field s.twin.listDigest 0 32) :
    execPeerHelloReceive m s = .next (Done s (helloKept m true s)) := by
  have hbad : decide (field m.body 20 32 ≠ field s.twin.listDigest 0 32) = true := decide_eq_true hdigest
  refine finish_fromGeneel_permitted hmay ?_
  dsimp only
  rw [hbad]
  split <;> rfl

/-- A hello of a listed peer with the same list digest is kept, and its session is renewed in time (R575, R661). -/
theorem execPeerHelloReceive_present (hdigest : field m.body 20 32 = field s.twin.listDigest 0 32) {q : Peer}
    (hpeer : (helloKept m false s).peerAt m.src = some q) :
    execPeerHelloReceive m s = .next (Done s ((helloKept m false s).renewSession q m.msgid)) := by
  have hgood : decide (field m.body 20 32 ≠ field s.twin.listDigest 0 32) = false := decide_eq_false (not_not_intro hdigest)
  rw [helloKept] at hpeer
  refine finish_fromGeneel_permitted hmay ?_
  dsimp only
  rw [hgood, hpeer]
  rfl

end

/-- Settles O51: the roles decide a deposition and a takeover, heartbeats and hellos are the lemmas above, and a silent peer is absent. -/
theorem twinRolesComplete : Obligations.TwinRolesComplete := by
  unfold Obligations.TwinRolesComplete
  refine ⟨?deposed, ?takeover, ?otherPrimary, ?heartbeat, ?halted, ?mismatch, ?present, ?absent⟩
  case deposed =>
    intro t s hdue hprimary
    change execDeposition s = _
    rw [execDeposition, hdue]
    exact congrArg s.finish (if_pos hprimary)
  case takeover => exact fun _ harmed hgone => execAutomaticTakeover_armed harmed hgone
  case otherPrimary => exact fun _ _ hmay htwin hprimary hother => execHeartbeatReceive_primary hmay htwin hprimary hother
  case heartbeat => exact fun _ _ hmay htwin hsecondary hrole => execHeartbeatReceive_secondary hmay htwin hsecondary hrole
  case halted => exact fun _ _ hmay htwin => finish_fromTwin hmay htwin rfl
  case mismatch =>
    intro m s hmay hdigest
    change execPeerHelloReceive m s = _
    rw [execPeerHelloReceive_mismatch hmay hdigest]
    simp only [helloKept, Bool.not_true, Bool.false_eq_true, and_false, if_false]
  case present =>
    intro m q s hmay hdigest hpeer
    have hkept : (helloKept m false s).peerAt m.src = some q := by simpa only [helloKept, Bool.not_false, and_true] using hpeer
    change execPeerHelloReceive m s = _
    rw [execPeerHelloReceive_present hmay hdigest hkept]
    simp only [helloKept, Bool.not_false, and_true]
  case absent =>
    intro id t p s hpeer hheard hsilent hother
    change execPeerAbsent id s = _
    simp only [execPeerAbsent, hpeer, hheard]
    exact if_neg (by simp [hsilent, hother])

end Sys2Proof.Proofs
end
